-- ==== Sys2Proof/Syntax.lean ====
section
/-! DEFINITION. The commands of the block: one constructor per row of spec/opcode_table.json. The table gives the rows
no operands; the operands are the model's choice (log 1): the unit a command acts on, the data a register write, a frame
or a conversion carries, and what an analogue front end or a cryptographic check found. Indices are bounded by their
types (`Fin`), so no command names a unit that does not exist on BV6408. -/
namespace Sys2Proof

/-- A main-link frame slot at its receiver (R56, R62): whether a frame start was found, whether the sync headers are valid,
the 64 bytes as descrambled, and the arrival of the frame start in taps on the receiver's tick scale (R44). -/
structure FrameRx where
  start : Bool
  sync : Bool
  bytes : List Byte
  arrival : Int
  deriving DecidableEq, Repr

/-- A sideband frame at its receiver (R68): whether the comma was found, and the 16 data bytes. -/
structure SbRx where
  comma : Bool
  bytes : List Byte
  deriving DecidableEq, Repr

/-- A frame arriving on a ring port (R303): its bytes from the destination on, FCS excluded; whether the FCS checks; the
instant its SFD reached the lands, in taps on the Granite tick scale; and, for a receive ring in host memory, the 32 bytes
read there as the descriptor (none: the read failed, R438). -/
structure NetRx where
  bytes : List Byte
  fcs : Bool
  sfd : Int
  desc : Option (BitVec 256)
  deriving DecidableEq, Repr

/-- What a read of host memory brought for a transmit descriptor (R309): the descriptor and its buffer, none where the read
failed (R438). -/
structure HostTx where
  desc : Option (BitVec 256)
  data : Option (List Byte)
  deriving DecidableEq, Repr

/-- A device read of host memory that fails (R438): of a transmit ring, its descriptor (none) or the buffer of that descriptor; of a
receive ring's descriptor; of a COPY_IN. -/
inductive DmaRead where
  | tx (d : Fin 8) (desc : Option (BitVec 256))
  | rx (d : Fin 8)
  | amber
  deriving DecidableEq, Repr

/-- A handover message as received (Table 11-8); its type is the command's. -/
structure HoMsg where
  ver : Nat
  ringB : Bool
  line : Nat
  xfer : Nat
  id : Nat
  count : Nat
  arg : Nat
  body : List Byte
  deriving DecidableEq, Repr

/-- What a PWM edge drives: phase k of an axis, or the brake chopper of a Slate. -/
inductive PwmTarget where
  | axis (a : Fin 64) (k : Fin 3)
  | chop (s : Fin 8)
  deriving DecidableEq, Repr

/-- The edges of R76: reference high to low turns the high side off and, D later, the low side on; and the reverse. -/
inductive EdgeKind where
  | hsOff | lsOn | lsOff | hsOn
  deriving DecidableEq, Repr

/-- Slate background channels (Table 5-9). -/
inductive BgChannel where
  | vbus | vgd | vfield | temp | ain0 | ain1
  deriving DecidableEq, Repr

/-- What the hash and signature units found of an image (R397): the key's hash equals the fused one, the signature verifies, and, by
block, the SHA-384 is right. -/
structure ImageCheck where
  key : Bool
  sig : Bool
  hash : BitVec 32
  deriving DecidableEq, Repr

/-- What the device has read of host memory; none: the read failed (R438). -/
abbrev HostData := Option (List Byte)

inductive Instr where
  /-- SAMPLING_INSTANT (R19). At an axis sampling instant the Slate holds the axis's three phase-current channels and its VBUS channel within a 5 ns aperture. -/
  | samplingInstant (a : Fin 64) (edge : Bool)
  /-- CONVERSION_COMPLETE (R20). The held channels finish conversion; the set is stamped with the tick and cycle tag and queued for the next upstream frame. -/
  | conversionComplete (a : Fin 64) (iu iv iw : Int) (vbus : Nat)
  /-- DOWNSTREAM_FRAME (R62). The Slate checks one received downstream frame slot, counts it good or bad, declares the direction up or down, and applies the header and then the records. -/
  | downstreamFrame (sl : Fin 8) (rx : FrameRx)
  /-- UPSTREAM_FRAME (R62). Granite checks one received upstream frame slot, counts it good or bad, declares the direction up or down, and applies the header and the records. -/
  | upstreamFrame (sl : Fin 8) (rx : FrameRx)
  /-- DOWNSTREAM_FRAME_SEND (R60). Every 64 Granite ticks Granite fills and sends a downstream frame in priority order, counting spilled COMPARE records. -/
  | downstreamFrameSend (sl : Fin 8)
  /-- UPSTREAM_FRAME_SEND (R60). Every 64 Slate ticks the Slate fills and sends an upstream frame in priority order, counting spilled SAMPLE records. -/
  | upstreamFrameSend (sl : Fin 8)
  /-- EVALUATION_START (R22). A slot starts evaluating a pending sample set at its nominal start, or after the previous evaluation ends, and runs the nodes that are due. -/
  | evaluationStart (a : Fin 64)
  /-- UPDATE_INSTANT (R23). At an update instant the Slate loads a compare set into the three half-bridges or repeats the previous values, counting late updates. -/
  | updateInstant (a : Fin 64)
  /-- ENTER_SAFE_HOLD (R29). After reset release, PLL lock and the Flint self-test, the device enters SAFE_HOLD. -/
  | enterSafeHold
  /-- ENTER_BASIC (R29). Once the header and BASIC block are verified and the safety condition holds, the device enters BASIC. -/
  | enterBasic (a b : ImageCheck)
  /-- ENTER_FULL (R29). When the images are applied, the Slates are calibrated and time is locked, the device enters FULL. -/
  | enterFull
  /-- REF_SEL (R34). A write of CLK_CTRL.REF_SEL changes the reference input or is ignored. -/
  | refSel (v : BitVec 2)
  /-- REFCLK_LOSS (R36). The active REFCLK input is lost; the PLLs enter holdover and fail over when FAILOVER_EN is 1. -/
  | refclkLoss (cab : Bool)
  /-- HOLDOVER_EXPIRY (R36). 100 µs of holdover pass without a failover; SYS_UNLOCK is set and Granite is reset. -/
  | holdoverExpiry
  /-- ALT_DEV_MEASURE (R35). Over each 2^20 ticks the clock unit measures the inactive input's deviation and may declare it lost. -/
  | altDevMeasure (ppm : Int)
  /-- TIME_TICK_LO (R40). A read of TIME_TICK_LO latches the 64-bit tick counter for the requester. -/
  | timeTickLo (q : Fin 514)
  /-- TIME_SUBNS (R40). A read of TIME_SUBNS latches the exported time and its tick for the requester. -/
  | timeSubns (q : Fin 514)
  /-- TIME_CMT_GO (R41). A write of TIME_CMT_CTRL with GO at 1 arms a commit with its selection and timing, or is ignored while one is pending. -/
  | timeCmtGo (v : Word)
  /-- TIME_STAGE_WRITE (R41). A write to a time staging register stores the value, or is ignored with STAGE_COLLIDE while a commit is pending. -/
  | timeStageWrite (r : Fin 10) (v : Word)
  /-- COMMIT_TAKE_EFFECT (R41). At the commit tick the selected groups are range-checked and applied to B, t_c and INC, or the commit is rejected. -/
  | commitTakeEffect
  /-- TIME_MEAS_OFS (R47). An offset measurement is judged against the guard and updates the good count and NET_LOCK. -/
  | timeMeasOfs (v : Word)
  /-- NET_HOLDOVER_EXPIRY (R48). The network holdover runs out without a measurement, and NET_LOCK clears with reason 2. -/
  | netHoldoverExpiry
  /-- NET_MASTER (R50). A write of NET_MASTER holds NET_LOCK at 1 or, on clearing, starts a holdover. -/
  | netMaster (on : Bool)
  /-- LINK_DELAY_MEASURED (R44). After 256 marker exchanges, Granite sets the one-way delay and the Slate brings its tick counter into alignment. -/
  | linkDelayMeasured (sl : Fin 8)
  /-- SLATE_POWER_UP (R54). A Slate's logic supply comes up; the Slate starts in its safe state with its restart flag set. -/
  | slatePowerUp (sl : Fin 8)
  /-- SLATE_POWER_LOSS (R54). A Slate's VGD goes away, and the Slate sends nothing on either link. -/
  | slatePowerLoss (sl : Fin 8)
  /-- SLATE_SILENCE_TIMEOUT (R63). The Slate's silence exceeds TMO_US, and the Slate enters its safe state. -/
  | slateSilenceTimeout (sl : Fin 8)
  /-- LINK_TIMEOUT (R63). Granite's silence on a Slate exceeds TMO_US; LINK_TIMEOUT is set and SAFE_CMD is sent. -/
  | linkTimeout (sl : Fin 8)
  /-- RELEASE (R64). A write of LINK_CTRL.RELEASE requests release of a Slate from its safe state. -/
  | release (sl : Fin 8)
  /-- SAFE_CMD_CLEAR (R64). Once every release condition holds, Granite clears SAFE_CMD for the Slate. -/
  | safeCmdClear (sl : Fin 8)
  /-- SLATE_REG_WRITE (R67). A write to a Slate-resident page updates Granite's shadow and is forwarded as a REG_WR record. -/
  | slateRegWrite (q : Fin 514) (addr : BitVec 26) (v : Word)
  /-- SLATE_REG_READ (R67). A read of a Slate-resident page is forwarded as a REG_RD record, or waits, or fails. -/
  | slateRegRead (q : Fin 514) (addr : BitVec 26)
  /-- FORWARDED_READ_TIMEOUT (R67). A forwarded read has not completed 4 µs after it was forwarded; it returns zero and RD_FAIL is set. -/
  | forwardedReadTimeout (sl : Fin 8)
  /-- SIDEBAND_SEND (R68). Every 20 µs each end of a sideband link sends a frame. -/
  | sidebandSend (sl : Fin 8) (fromFlint : Bool) (halls : BitVec 64) (pts : BitVec 16)
  /-- SIDEBAND_FRAME_AT_SLATE (R69). The Slate checks a Flint frame and drives its gate-supply line and test masks from it. -/
  | sidebandFrameAtSlate (sl : Fin 8) (rx : SbRx)
  /-- SIDEBAND_FRAME_AT_FLINT (R69). Flint checks a Slate frame and takes its safety inputs, Hall states and status. -/
  | sidebandFrameAtFlint (sl : Fin 8) (rx : SbRx)
  /-- SB_DOWN (R69). No good Flint frame arrives for 100 µs; the gate supply is disabled and SB_DOWN is set. -/
  | sbDown (sl : Fin 8)
  /-- EVENT_LOG_RELEASE (R71). When the Granite tick reaches a stamp plus 625 ticks, the log releases its records in key order to every consumer. -/
  | eventLogRelease
  /-- CARRIER_RUN (R73). A write of CARRIER_CTRL.RUN starts the carrier on its first edge, or stops it at once. -/
  | carrierRun (sl : Fin 8) (v : BitVec 2)
  /-- CARRIER_EDGE (R73). A carrier edge of the Slate grid is reached. -/
  | carrierEdge (sl : Fin 8)
  /-- CARRIER_APPLY_GO (R83). A write of CARRIER_APPLY with GO at 1 arms an apply, or applies at once while RUN is 0. -/
  | carrierApplyGo (sl : Fin 8) (v : BitVec 2)
  /-- AXIS_EDGE (R74). At an axis edge the tripped-period accounting runs, and switching resumes or begins. -/
  | axisEdge (a : Fin 64)
  /-- PWM_EDGE (R76). A computed gate edge falls due, and the high-side or low-side command turns on or off. -/
  | pwmEdge (t : PwmTarget) (e : EdgeKind) (otherLow : Bool)
  /-- PWM_PHASE_WRITE (R84). A write of PWM_PHASE takes effect at once while EN is 0, or is staged with PHASE_PEND. -/
  | pwmPhaseWrite (a : Fin 64) (v : BitVec 24)
  /-- DELAY_LINE_SWAP (R79). A trimmed twin delay line takes over from the active one at a tick with no edge due. -/
  | delayLineSwap (sl : Fin 8) (i : Fin 49) (delta : Int) (bad : Bool)
  /-- CAL_DONE (R80). Initial calibration completes; CAL_DONE sets and failing pairs are marked. -/
  | calDone (sl : Fin 8) (bad : BitVec 49)
  /-- PWM_EN (R82). A write of PWM_CTRL.EN from 0 to 1 arms the axis start sequence, and a write of 0 turns the axis off. -/
  | pwmEn (a : Fin 64) (v : BitVec 7)
  /-- PRECHARGE_END (R82). PWM_BOOT µs of low-side precharge end, and switching begins at the next axis edge. -/
  | prechargeEnd (a : Fin 64)
  /-- TRIP_QUALIFY (R86). A trip source qualifies after FILT + 1 ticks; the axis switches off and CONSEC counts. -/
  | tripQualify (a : Fin 64) (src : Fin 3)
  /-- TRIP_LATCH_CLEAR (R87). A write of 1 to PWM_TRIP_STAT.LATCH clears the latch when no source is qualified. -/
  | tripLatchClear (a : Fin 64)
  /-- CHOP_PERIOD_START (R90). At a chopper period start the chopper reads ADC_VBUS, updates its local state and sets the duty. -/
  | chopPeriodStart (sl : Fin 8)
  /-- CHOP_TRIP (R92). A chopper trip source qualifies; the chopper turns off for the rest of the period and persistent trips are counted. -/
  | chopTrip (sl : Fin 8) (ocp : Bool)
  /-- TIMER_TRIGGER (R93). A Slate timer channel is triggered and its window is scheduled. -/
  | timerTrigger (sl : Fin 8) (code : BitVec 8)
  /-- TIMER_WINDOW_OPEN (R93). DELAY ticks after the trigger, a timer window opens. -/
  | timerWindowOpen (sl : Fin 8) (n : Fin 16)
  /-- TIMER_WINDOW_CLOSE (R93). After WIDTH ticks, a timer window closes. -/
  | timerWindowClose (sl : Fin 8) (n : Fin 16)
  /-- GATE_PHASE_ADVANCE (R101). The sensed VGS reaches VPRE or VHOLD, and the driver moves to SLOPE or HOLD. -/
  | gatePhaseAdvance (sl : Fin 8) (i : Fin 49)
  /-- TON_TMO (R101). HOLD has not been entered TON_MAX after turn-on; the driver enters HOLD and counts the timeout. -/
  | tonTmo (sl : Fin 8) (i : Fin 49)
  /-- TURN_ON_RELEASE (R109). The dead-time and gate-voltage conditions come to hold, and a delayed turn-on begins. -/
  | turnOnRelease (sl : Fin 8) (i : Fin 48)
  /-- GLOCK (R109). A turn-on has waited more than 2 µs, and GLOCK is set. -/
  | glock (sl : Fin 8) (i : Fin 48)
  /-- VGD_LOCKOUT (R100). VGD behind the switch crosses its lockout thresholds, holding off or releasing all 48 outputs. -/
  | vgdLockout (sl : Fin 8) (enter : Bool)
  /-- VGD_UV_REPORT (R100). A VGD lockout is still in force 100 µs after the line was enabled, and VGD_UV is reported. -/
  | vgdUvReport (sl : Fin 8)
  /-- BST_LOCKOUT (R100). A bootstrap voltage crosses its lockout thresholds, holding off or releasing its high side. -/
  | bstLockout (sl : Fin 8) (k : Fin 24) (enter : Bool)
  /-- OT_SHUT (R100). The Slate die crosses 150 °C or falls below 135 °C, and the overtemperature lockout enters or releases. -/
  | otShut (sl : Fin 8) (enter : Bool)
  /-- DESAT_REPORT (R110). The drain-source voltage crosses DESAT_TH, and the desaturation report is asserted or withdrawn. -/
  | desatReport (sl : Fin 8) (i : Fin 49) (on : Bool)
  /-- OCP_ASSERT (R117). A phase current crosses OCP_TH × 8 codes, and the OCP source is asserted or de-asserted. -/
  | ocpAssert (sl : Fin 8) (ph : Fin 25) (on : Bool)
  /-- ADC_CAL_GO (R116). A write to ADC_CAL.GO starts offset calibration of an axis, or is refused while EN is 1. -/
  | adcCalGo (sl : Fin 8) (mask : BitVec 8)
  /-- ADC_CAL_COMPLETE (R116). The averaged offsets are stored and the GO bit clears. -/
  | adcCalComplete (sl : Fin 8) (n : Fin 8) (u v w : BitVec 16)
  /-- BACKGROUND_CONVERSION (R118). A background channel is sampled on its fixed grid and its register is updated. -/
  | backgroundConversion (sl : Fin 8) (ch : BgChannel) (k : Nat) (v : BitVec 16)
  /-- HALL_CHANGE (R124). A Hall level change is accepted after its filter, and the position is counted or an illegal state or jump is flagged. -/
  | hallChange (a : Fin 64) (lands : BitVec 3) (t0 : Nat)
  /-- ABZ_EDGE (R126). A filtered A or B edge counts ±1, or sets QUAD when it coincides with the other channel. -/
  | abzEdge (a : Fin 64) (la lb : Bool) (t0 : Nat)
  /-- INDEX (R127). A qualified Z rising edge sends an EVENT and latches, homes or aligns the count. -/
  | index (a : Fin 64) (t0 : Nat)
  /-- FB_MODE_WRITE (R123). A write that changes FB_CTRL.MODE takes effect in the next tick and clears VALID. -/
  | fbModeWrite (a : Fin 64) (v : BitVec 28) (lands : BitVec 5)
  /-- SERIAL_REQUEST (R128). At a request instant a BiSS-C or SSI transfer starts, or is skipped. -/
  | serialRequest (a : Fin 64)
  /-- SERIAL_READING (R131). A serial transfer ends; the reading updates the counts or fails its checks. -/
  | serialReading (a : Fin 64) (start : Bool) (raw raw2 : BitVec 64)
  /-- FB_POS_READ (R133). A read of FB_POS latches FB_TURN, FB_LAST_TICK and FB_LAST_INT. -/
  | fbPosRead (q : Fin 514) (a : Fin 64)
  /-- PRESET (R134). A write of FB_CMD.PRESET loads the preset counts in the next tick and sets VALID, or is rejected. -/
  | preset (a : Fin 64)
  /-- FB_WRAP_WRITE (R135). A write of FB_WRAP applies a new W now, folding the count, or leaves it pending. -/
  | fbWrapWrite (a : Fin 64) (v : Word)
  /-- FB_STILL (R140). STILL_TMO passes since the last change, and STILL sets. -/
  | fbStill (a : Fin 64)
  /-- VIRTUAL_TOOTH (R146). At the deadline plus 625 ticks with no accepted edge, a virtual tooth is published, or the unit is lost after VMAX. -/
  | virtualTooth (t : Fin 16)
  /-- TOOTH_STILL (R150). TOOTH_STILL passes since the last real tooth; T_exp becomes unknown and STILL sets. -/
  | toothStill (t : Fin 16)
  /-- TOOTH_ENABLE (R143). A write that sets TOOTH_CTRL.EN starts the tooth unit in SEARCH. -/
  | toothEnable (t : Fin 16) (v : BitVec 24)
  /-- RESEARCH (R143). A write of TOOTH_CTRL.RESEARCH puts the tooth unit into SEARCH. -/
  | research (t : Fin 16)
  /-- TOOTH_POS_READ (R151). A read of TOOTH_POS latches the turn count and tick for the requester. -/
  | toothPosRead (q : Fin 514) (t : Fin 16)
  /-- ECALL_REPLY (R170). An engine reply reaches the loop unit and completes its ECALL node, or is discarded as late. -/
  | ecallReply (g : Fin 16)
  /-- ECALL_TMO (R170). An ECALL node reaches its timeout without a reply and completes with its old outputs. -/
  | ecallTmo (a : Fin 64)
  /-- APPLY (R164). A write of LOOP_CTRL.APPLY requests validation of the staged graph. -/
  | apply (a : Fin 64)
  /-- GRAPH_VALIDATE (R164). At the next instant the slot is not evaluating, the staged graph is validated and applied, or rejected. -/
  | graphValidate (a : Fin 64)
  /-- DESCRIPTOR_WRITE (R172). A descriptor write is accepted, buffered under HOLD, or discarded. -/
  | descriptorWrite (q : Fin 514) (g : Fin 16) (off : Fin 8192) (sz : Fin 4) (v : BitVec 64)
  /-- HOLD_RELEASE (R172). A write that clears LOOP_CTRL.HOLD releases the buffered descriptor writes. -/
  | holdRelease (a : Fin 64)
  /-- DESCRIPTOR_WRITES_APPLY (R172). Between two evaluations, pending descriptor writes take effect together. -/
  | descriptorWritesApply (a : Fin 64)
  /-- LOOP_RUN (R173). A write of LOOP_CTRL.RUN starts evaluation, with n restarting and c initialised, or stops it after the current evaluation. -/
  | loopRun (a : Fin 64) (on : Bool)
  /-- LOOP_POS_LO_READ (R158). A read of LOOP_POS_LO latches LOOP_POS_HI. -/
  | loopPosLoRead (q : Fin 514) (a : Fin 64)
  /-- LU_DESC_RANGE_WRITE (R176). A write of LU_DESC_RANGE sets a slot's descriptor range, or is ignored with RANGE_OVL. -/
  | luDescRangeWrite (g : Fin 16) (j : Fin 4) (v : Word)
  /-- ENG_RST (R191). A write of ENG_CTRL.RST with 1 puts the engine into RESET once its posted writes have completed. -/
  | engRst (e : Fin 512)
  /-- ENG_RST_RELEASE (R191). A write of RST with 0 clears the engine and enters HALTED at ENG_START_PC. -/
  | engRstRelease (e : Fin 512)
  /-- ENG_GO (R191). A write of ENG_CTRL.GO runs a halted engine from ENG_PC, or is ignored. -/
  | engGo (e : Fin 512)
  /-- ENG_STEP (R191). A write of ENG_CTRL.STEP runs the engine to its next interruptible boundary and halts it. -/
  | engStep (e : Fin 512)
  /-- ENG_HALT (R191). A write of ENG_CTRL.HALT halts the engine at its next interruptible boundary. -/
  | engHalt (e : Fin 512)
  /-- ENGINE_WAKE (R201). An arrival in CALL or MAIL, or a watchdog expiry, wakes a waiting engine, with or without an exception. -/
  | engineWake (e : Fin 512)
  /-- EXCEPTION_ENTRY (R198). The engine takes an exception, saves its state to the I/O page and starts the handler. -/
  | exceptionEntry (e : Fin 512)
  /-- BREAKPOINT_MATCH (R194). A fetch matches ENG_BRK; the engine halts or raises the breakpoint exception. -/
  | breakpointMatch (e : Fin 512)
  /-- ENG_WDOG_EXPIRY (R195). The engine watchdog expires; a first expiry makes the exception pending and a second enters FAULT_HALT. -/
  | engWdogExpiry (e : Fin 512)
  /-- IO_WDOG_KICK (R195). An engine write of IO_WDOG_KICK reloads its watchdog. -/
  | ioWdogKick (e : Fin 512)
  /-- IO_CALL_POP (R188). An engine write of IO_CALL_POP removes the head call. -/
  | ioCallPop (e : Fin 512)
  /-- IO_MAIL_POP (R188). An engine write of IO_MAIL_POP removes the head mail. -/
  | ioMailPop (e : Fin 512)
  /-- SEND_REPLY (R189). IO_SEND with kind 0b00 sends a five-word reply to the loop unit. -/
  | sendReply (e : Fin 512) (len : Fin 16)
  /-- SEND_MAIL (R189). IO_SEND with kind 0b01 delivers mail to a local engine's MAIL queue, or is refused. -/
  | sendMail (e : Fin 512) (t : Fin 32) (len : Fin 16)
  /-- SEND_HOST_MAIL (R189). IO_SEND with kind 0b10 places a message in the engine's HMAIL queue, or is refused. -/
  | sendHostMail (e : Fin 512) (len : Fin 16)
  /-- ENG_MAIL_SEND (R190). A host write of ENG_MAIL_SEND places a mail-in message in the engine's MAIL queue. -/
  | engMailSend (e : Fin 512) (len : Fin 16)
  /-- ENG_HMAIL_POP (R190). A host write of ENG_HMAIL_POP removes the head HMAIL message. -/
  | engHmailPop (e : Fin 512)
  /-- ENG_DBG_DATA_WRITE (R193). A write of ENG_DBG_DATA sets the selected register of a halted engine. -/
  | engDbgDataWrite (e : Fin 512) (v : Word)
  /-- ENG_PC_WRITE (R193). A write of ENG_PC in HALTED sets the PC and clears the pending-branch bit. -/
  | engPcWrite (e : Fin 512) (v : BitVec 12)
  /-- EXTERNAL_MEMORY_WRITE (R180). A BAR0 write to an engine memory is applied through the second port, or discarded for IMEM of a running engine. -/
  | externalMemoryWrite (q : Fin 514) (addr : BitVec 26) (sz : Fin 4) (v : BitVec 64)
  /-- IO_CYCLE_LO_READ (R209). An engine read of IO_CYCLE_LO latches IO_CYCLE_HI. -/
  | ioCycleLoRead (e : Fin 512)
  /-- SHARED_READ_COMPLETE (R184). A stalled shared-memory read gets its bank slot and returns its data. -/
  | sharedReadComplete (e : Fin 512)
  /-- FABRIC_READ_COMPLETE (R186). A stalled fabric-window read returns its data. -/
  | fabricReadComplete (e : Fin 512)
  /-- MODE_WRITE_TAKE_EFFECT (R222). A pending mode write changes MD after its two-instruction shadow. -/
  | modeWriteTakeEffect (e : Fin 512)
  /-- MOV (R218). rd = ra. -/
  | mov (e : Fin 512)
  /-- ADD (R218). rd = ra + rb modulo 2^32. -/
  | add (e : Fin 512)
  /-- SUB (R218). rd = ra − rb modulo 2^32. -/
  | sub (e : Fin 512)
  /-- ADDS (R218). Saturating signed addition. -/
  | adds (e : Fin 512)
  /-- SUBS (R218). Saturating signed subtraction. -/
  | subs (e : Fin 512)
  /-- AND (R218). Bitwise AND. -/
  | andOp (e : Fin 512)
  /-- OR (R218). Bitwise OR. -/
  | orOp (e : Fin 512)
  /-- XOR (R218). Bitwise XOR. -/
  | xor (e : Fin 512)
  /-- ANDN (R218). ra AND NOT rb. -/
  | andn (e : Fin 512)
  /-- SHL (R218). Logical left shift by rb. -/
  | shl (e : Fin 512)
  /-- SHR (R218). Logical right shift by rb. -/
  | shr (e : Fin 512)
  /-- SAR (R218). Arithmetic right shift by rb. -/
  | sar (e : Fin 512)
  /-- MUL (R218). Low 32 bits of the product. -/
  | mul (e : Fin 512)
  /-- MULF (R213). Fractional product through the store path. -/
  | mulf (e : Fin 512)
  /-- MIN (R218). Signed minimum. -/
  | minOp (e : Fin 512)
  /-- MAX (R218). Signed maximum. -/
  | maxOp (e : Fin 512)
  /-- ABS (R218). Absolute value. -/
  | abs (e : Fin 512)
  /-- NEG (R218). Negation. -/
  | neg (e : Fin 512)
  /-- CLZ (R218). Count of leading zeros. -/
  | clz (e : Fin 512)
  /-- CMP (R218). Sets the flags of ra − rb. -/
  | cmp (e : Fin 512)
  /-- ADDI (R218). Adds a sign-extended immediate. -/
  | addi (e : Fin 512)
  /-- ANDI (R218). ANDs a zero-extended immediate. -/
  | andi (e : Fin 512)
  /-- ORI (R218). ORs a zero-extended immediate. -/
  | ori (e : Fin 512)
  /-- XORI (R218). XORs a zero-extended immediate. -/
  | xori (e : Fin 512)
  /-- CMPI (R218). Sets the flags of ra minus an immediate. -/
  | cmpi (e : Fin 512)
  /-- SHI (R218). Shifts by an immediate amount. -/
  | shi (e : Fin 512)
  /-- MOVIL (R218). Loads a sign-extended 16-bit immediate. -/
  | movil (e : Fin 512)
  /-- MOVIH (R218). Loads the upper halfword. -/
  | movih (e : Fin 512)
  /-- LD (R216). Loads from memory with size and addressing mode. -/
  | ld (e : Fin 512)
  /-- ST (R216). Stores to memory with size and addressing mode. -/
  | st (e : Fin 512)
  /-- STA (R213). Stores an accumulator through the store path. -/
  | sta (e : Fin 512)
  /-- MAC (R212). Multiply-accumulate with parallel loads. -/
  | mac (e : Fin 512)
  /-- MSU (R212). Multiply-subtract with parallel loads. -/
  | msu (e : Fin 512)
  /-- MPY (R212). Multiply into an accumulator with parallel loads. -/
  | mpy (e : Fin 512)
  /-- LDP (R217). Parallel loads only. -/
  | ldp (e : Fin 512)
  /-- ACLR (R218). Clears an accumulator. -/
  | aclr (e : Fin 512)
  /-- AMOV (R218). Copies an accumulator. -/
  | amov (e : Fin 512)
  /-- AADD (R218). Adds accumulators. -/
  | aadd (e : Fin 512)
  /-- ASUB (R218). Subtracts accumulators. -/
  | asub (e : Fin 512)
  /-- ANEG (R218). Negates an accumulator. -/
  | aneg (e : Fin 512)
  /-- AABS (R218). Absolute value of an accumulator. -/
  | aabs (e : Fin 512)
  /-- ASHL (R218). Shifts an accumulator left. -/
  | ashl (e : Fin 512)
  /-- ASAR (R218). Shifts an accumulator right, arithmetically. -/
  | asar (e : Fin 512)
  /-- ALOAD (R218). Loads D into the high part of an accumulator. -/
  | aload (e : Fin 512)
  /-- ALOADL (R218). Loads D into the low part of an accumulator, sign-extended. -/
  | aloadl (e : Fin 512)
  /-- AST (R213). Stores an accumulator to D through the store path. -/
  | ast (e : Fin 512)
  /-- ASAT (R218). Saturates an accumulator to the fitting range. -/
  | asat (e : Fin 512)
  /-- ARND (R218). Rounds an accumulator as the store path does. -/
  | arnd (e : Fin 512)
  /-- NOP (R218). Does nothing. -/
  | nop (e : Fin 512)
  /-- WAIT (R191). Enters WAITING unless a wake condition is present. -/
  | wait (e : Fin 512)
  /-- RETE (R202). Returns from an exception and restores the saved state. -/
  | rete (e : Fin 512)
  /-- BRK (R194). Raises the breakpoint exception. -/
  | brk (e : Fin 512)
  /-- MOVS (R218). Moves between D and a special register. -/
  | movs (e : Fin 512)
  /-- PADD (R215). Adds an immediate to a pointer with circular update. -/
  | padd (e : Fin 512)
  /-- MDSET (R222). Mode write that sets MD bits. -/
  | mdset (e : Fin 512)
  /-- MDCLR (R222). Mode write that clears MD bits. -/
  | mdclr (e : Fin 512)
  /-- B (R219). Conditional relative branch with a delay slot. -/
  | b (e : Fin 512)
  /-- BR (R219). Conditional register branch with a delay slot. -/
  | br (e : Fin 512)
  /-- CALL (R219). Conditional relative call that writes D15. -/
  | call (e : Fin 512)
  /-- CALLR (R219). Conditional register call that writes D15. -/
  | callr (e : Fin 512)
  /-- LOOP (R220). Starts a hardware loop and pushes the loop levels. -/
  | loopOp (e : Fin 512)
  /-- LPOP (R220). Pops loop level 0. -/
  | lpop (e : Fin 512)
  /-- SETPOINT_COMPUTE (R226). Each servo period the profile generator accepts commands and computes the set-point for the next reference instant. -/
  | setpointCompute (a : Fin 64)
  /-- MOVE (R228). A PRF_CMD.MOVE command plans a jerk-limited move to the target. -/
  | move (a : Fin 64)
  /-- VEL (R228). A PRF_CMD.VEL command ramps to the velocity target and holds it. -/
  | vel (a : Fin 64)
  /-- GEAR (R239). A PRF_CMD.GEAR command starts an engagement of the branch, or is rejected. -/
  | gear (a : Fin 64)
  /-- STOP (R229). A PRF_CMD.STOP command ramps the axis to zero velocity. -/
  | stop (a : Fin 64)
  /-- PATH (R242). A PRF_CMD.PATH command starts a group path from the lead. -/
  | path (a : Fin 64)
  /-- TRK_ENABLE (R231). A write of TRK_CTRL.EN enables a trunk on its source, or is refused. -/
  | trkEnable (k : Fin 8) (v : Word)
  /-- TRK_SEG_PUSH (R233). A write of TRK_SEG_PUSH queues the staged segment, or refuses it. -/
  | trkSegPush (k : Fin 8)
  /-- FLUSH (R233). A write of TRK_CTRL.FLUSH empties the segment queue. -/
  | flush (k : Fin 8)
  /-- TRK_POS_READ (R245). A read of TRK_POS_LO latches position, velocity and tick. -/
  | trkPosRead (q : Fin 514) (k : Fin 8)
  /-- PRF_SP_READ (R244). A read of PRF_SP_LO latches the set-point, velocity and acceleration. -/
  | prfSpRead (q : Fin 514) (a : Fin 64)
  /-- BR_OFS_NOW_READ (R244). A read of BR_OFS_NOW_LO latches the offset in force. -/
  | brOfsNowRead (q : Fin 514) (a : Fin 64)
  /-- INSERT_ITEM (R251). The RGN_CMD INSERT_ITEM command allocates an OWNED item record. -/
  | insertItem (d : Fin 8)
  /-- INSERT_EVENT (R251). The RGN_CMD INSERT_EVENT command allocates an event and appends it to its item. -/
  | insertEvent (d : Fin 8)
  /-- CANCEL (R251). The RGN_CMD CANCEL command makes a non-final event CANCELLED. -/
  | cancel (d : Fin 8) (i : Fin 262144)
  /-- DELETE (R251). The RGN_CMD DELETE command frees an event or an item with its events, or sends WITHDRAW first. -/
  | delete (d : Fin 8) (i : Fin 262144)
  /-- SHIFT (R251). The RGN_CMD SHIFT command moves an item's ORIGIN and its uncommitted events. -/
  | shift (d : Fin 8) (i : Fin 262144)
  /-- READ (R251). The RGN_CMD READ command copies a record atomically into the staging words. -/
  | read (d : Fin 8) (i : Fin 262144)
  /-- HELD_INSERT_RELEASE (R392). At the next millisecond an insert held over budget completes. -/
  | heldInsertRelease (d : Fin 8)
  /-- COMPARE_INSTANT (R252). After each compare instant the compare unit processes the lane's events, windows and items. -/
  | compareInstant (a : Fin 64)
  /-- EVENT_FIRE (R254). The Granite tick reaches a committed event's τ, and it becomes FIRED, FIRED_SUSPECT, INHIBITED or MISSED. -/
  | eventFire (i : Fin 262144)
  /-- WINDOW_OPEN (R257). A window event reaches its open tick and becomes OPEN. -/
  | windowOpen (i : Fin 262144)
  /-- NOT_SEEN (R257). A window's close tick plus 625 passes without a match, and it becomes NOT_SEEN. -/
  | notSeen (i : Fin 262144)
  /-- CORRECTION_APPLY (R260). The tracking unit marks fired events in the span of a tooth correction suspect and re-times placed events. -/
  | correctionApply
  /-- REBUILD (R262). A write of TRACK_CTRL.REBUILD starts a rebuild of the compare banks. -/
  | rebuild
  /-- REBUILD_COMPLETE (R262). The builder completes the shadow lists, and the lanes may swap. -/
  | rebuildComplete
  /-- MERGE (R261). The merger moves insert-buffer entries into the active bank. -/
  | merge (a : Fin 64)
  /-- INIT (R274). A write of TRACK_CTRL.INIT frees every record. -/
  | init
  /-- TRACK_RGN_WRITE (R246). A write of TRACK_RGN redefines a region and starts a rebuild, or is ignored. -/
  | trackRgnWrite (d : Fin 8) (v : Word)
  /-- OFFER (R268). A received OFFER allocates a HELD item and is answered with ACCEPT or REFUSE. -/
  | offer (k : Fin 8) (m : HoMsg)
  /-- ACCEPT (R267). A received ACCEPT moves an offered item to PREPARED, or commits a doubtful one. -/
  | accept (k : Fin 8) (m : HoMsg)
  /-- REFUSE (R267). A received REFUSE records its reason, or frees an IN_DOUBT item. -/
  | refuse (k : Fin 8) (m : HoMsg)
  /-- COMMIT (R268). A received COMMIT makes the item OWNED from T_B and is answered with DONE. -/
  | commit (k : Fin 8) (m : HoMsg)
  /-- DONE (R267). A received DONE frees the upstream item and reports HANDED. -/
  | doneMsg (k : Fin 8) (m : HoMsg)
  /-- WITHDRAW (R268). A received WITHDRAW frees a HELD or IN_DOUBT item and is answered with DONE. -/
  | withdraw (k : Fin 8) (m : HoMsg)
  /-- RESOLVE (R270). A received RESOLVE frees an upstream IN_DOUBT item. -/
  | resolve (k : Fin 8) (m : HoMsg)
  /-- HELLO (R266). A received HELLO brings up or keeps the session and settles its version. -/
  | hello (k : Fin 8) (dn : Bool) (m : HoMsg)
  /-- HELLO_SEND (R266). Every 100 ms the node sends HELLO to each configured neighbour. -/
  | helloSend (k : Fin 8)
  /-- SESSION_DOWN (R266). 350 ms pass without a message from the neighbour, and the session goes down. -/
  | sessionDown (k : Fin 8) (dn : Bool)
  /-- HO_RETRY (R267). Every RETRY µs an outstanding OFFER, COMMIT or WITHDRAW is sent again. -/
  | hoRetry (i : Fin 262144)
  /-- COMMIT_TMO (R267). No DONE has arrived COMMIT_TMO after t_B, and the upstream item becomes IN_DOUBT. -/
  | commitTmo (i : Fin 262144)
  /-- HELD_COMMIT_TIMEOUT (R268). No COMMIT has arrived COMMIT_TMO after t_B′, and the downstream item becomes IN_DOUBT. -/
  | heldCommitTimeout (i : Fin 262144)
  /-- DOUBT_TMO (R270). The doubt timeout frees an IN_DOUBT item. -/
  | doubtTmo (i : Fin 262144)
  /-- RGN_RPT_POP (R272). A write of RGN_RPT_POP removes the head report. -/
  | rgnRptPop (d : Fin 8)
  /-- FIELD_INPUT_CHANGE (R281). An input level change is accepted after its filter, stamped and sent as an EVENT. -/
  | fieldInputChange (sl : Fin 8) (j : Fin 16) (lvl : Bool) (t0 : Nat)
  /-- PULSE_WINDOW (R281). At a pulsed-sampling window the sinks turn on and the comparators are read in the last tick. -/
  | pulseWindow (sl : Fin 8) (levels : BitVec 16)
  /-- FIELD_VOLTAGE_MEASURE (R282). Every millisecond the point voltages are measured and range runs are counted. -/
  | fieldVoltageMeasure (sl : Fin 8) (j : Fin 16) (mv : Int)
  /-- STUCK (R283). An input holds LVL for TMO ms, and its STUCK bit sets. -/
  | stuck (sl : Fin 8) (j : Fin 16)
  /-- SHORT (R286). An output held at the current limit for 100 µs turns off and retries, or latches SHORT. -/
  | short (sl : Fin 8) (j : Fin 16)
  /-- SHORT_RETRY (R286). 10 ms after a short shutdown, the output retries. -/
  | shortRetry (sl : Fin 8) (j : Fin 16)
  /-- SHORT_CLEAR (R286). A write of 1 to a SHORT bit clears it and lets the output switch again. -/
  | shortClear (sl : Fin 8) (mask : BitVec 16)
  /-- OPEN (R286). An off output's land stays above 4 V for 10 ms, and OPEN sets. -/
  | openLoad (sl : Fin 8) (j : Fin 16)
  /-- READBACK_MISMATCH (R286). The read-back differs from the command 200 µs after a change, and MISMATCH sets. -/
  | readbackMismatch (sl : Fin 8) (j : Fin 16) (land : Bool)
  /-- VFIELD_UV (R289). VFIELD crosses its undervoltage thresholds, turning all outputs off or restoring them. -/
  | vfieldUv (sl : Fin 8) (enter : Bool)
  /-- FIO_CFG_WRITE (R279). A write of FIO_CFG sets a point's mode and settings, or is ignored on a claimed point. -/
  | fioCfgWrite (sl : Fin 8) (j : Fin 16) (v : Word) (land : Bool)
  /-- OUTPUT_DISCHARGED (R279). An output leaving output mode falls below 2 V, and the new mode takes effect. -/
  | outputDischarged (sl : Fin 8) (j : Fin 16) (land : Bool)
  /-- FIO_OUT_WRITE (R296). A write of FIO_OUT is forwarded with a mask of the writer's points and sets their commanded levels. -/
  | fioOutWrite (sl : Fin 8) (data mask : BitVec 16)
  /-- SCHEDULED_TRANSITION (R291). At its restored tick a pending transition sets the mapped point's FIO_OUT bit, or is discarded. -/
  | scheduledTransition (sl : Fin 8) (c : Fin 16)
  /-- FSCH_MAP_WRITE (R290). A write of FSCH_MAP maps a channel to a point, or is ignored with MAP_OVL. -/
  | fschMapWrite (sl : Fin 8) (c : Fin 16) (v : BitVec 5)
  /-- FSCH_GO (R292). A write of FSCH_CTRL.GO arms a scheduled request, or refuses it. -/
  | fschGo (sl : Fin 8) (c : Fin 16) (level : Bool)
  /-- FSCH_CANCEL (R292). A write of FSCH_CTRL.CANCEL withdraws the transitions not yet sent. -/
  | fschCancel (sl : Fin 8) (c : Fin 16)
  /-- FSCH_SEND (R292). At the transition tick minus TRACK_REACH, Granite sends the transition as OUT_SCHED, or inhibits it. -/
  | fschSend (sl : Fin 8) (c : Fin 16)
  /-- FSCH_DONE (R292). The Granite tick reaches the last transition tick, and DONE sets. -/
  | fschDone (sl : Fin 8) (c : Fin 16)
  /-- FRAME_RECEIVE (R303). A frame arriving on a ring port is classified, delivered, forwarded or discarded. -/
  | frameReceive (p : Fin 4) (rx : NetRx)
  /-- FRAME_START (R308). A free port chooses its next frame from the launch list or the queue rotation and starts it. -/
  | frameStart (p : Fin 4)
  /-- FRAME_SENT (R314). A frame completes on the wire; its descriptor is written back and any stamp is queued. -/
  | frameSent (p : Fin 4) (sfd : Int)
  /-- LAUNCH (R312). A launch frame starts at the lane boundary nearest its launch tick, or ends late, inhibited or on a down link. -/
  | launch (p : Fin 4)
  /-- PORT_LINK_UP (R302). A port's link comes up. -/
  | portLinkUp (p : Fin 4)
  /-- PORT_LINK_DOWN (R302). A port's link goes down, and its queued frames are discarded. -/
  | portLinkDown (p : Fin 4) (hiBer : Bool)
  /-- AUTO_MODE_SWITCH (R301). In automatic mode, 200 ms pass without link, and the port tries the other mode. -/
  | autoModeSwitch (p : Fin 4)
  /-- NET_CFG_WRITE (R302). A write of NET_CFG that changes MODE, FEC_EN or KR_TRAIN restarts the link. -/
  | netCfgWrite (p : Fin 4) (v : Word)
  /-- RING_TEST_SEND (R305). Every TEST µs the ring manager sends test frames on both ports and judges the ring closed. -/
  | ringTestSend (r : Fin 2)
  /-- RING_OPEN (R305). No test frame arrives within 3 × TEST, and the manager stops blocking the ring. -/
  | ringOpen (r : Fin 2)
  /-- TX_TAIL_WRITE (R309). A write of NQ_TX_TAIL posts transmit descriptors. -/
  | txTailWrite (d : Fin 8) (v : Word)
  /-- TX_DESCRIPTOR_FETCH (R310). The device takes a transmit descriptor and queues, launches or refuses its frame. -/
  | txDescriptorFetch (d : Fin 8) (h : HostTx)
  /-- RX_TAIL_WRITE (R309). A write of NQ_RX_TAIL posts receive descriptors. -/
  | rxTailWrite (d : Fin 8) (v : Word)
  /-- NET_TSQ_POP (R314). A write of NET_TSQ_POP removes the head transmit stamp. -/
  | netTsqPop (p : Fin 4)
  /-- NET_CBS_WRITE (R308). A write of NET_CBS sets a queue's idleSlope, or is ignored with CBS_REJ. -/
  | netCbsWrite (p : Fin 4) (q : Fin 9) (v : Word)
  /-- SW_BUF_RSV_WRITE (R318). A write of SW_BUF_RSV sets a queue reserve, or is ignored with RSV_REJ. -/
  | swBufRsvWrite (q : Fin 9) (v : Word)
  /-- CYCLE_MARK (R324). Every 500 µs the time unit marks a safety cycle; both channels latch their inputs, evaluate and act on their paths. -/
  | cycleMark (count : BitVec 16)
  /-- MARK_MISSING (R324). No mark reaches Flint 22,000 cycles after the previous one: a channel fault. -/
  | markMissing
  /-- RECORD_A (R325). Flint receives A(n), compares it with B(n), and sends B(n) with its verdict. -/
  | recordA
  /-- RECORD_B (R325). Channel A receives B(n) and compares it with A(n). -/
  | recordB
  /-- RECORD_DEADLINE (R325). A compare record has not arrived by its deadline, which counts as a disagreement. -/
  | recordDeadline (atFlint : Bool)
  /-- LOCKSTEP_MISMATCH (R205). Engines 510 and 511 differ, or either faults: a channel-A fault. -/
  | lockstepMismatch
  /-- FLINT_SELF_TEST_FAIL (R328). Flint's self-test fails: a channel-B fault. -/
  | flintSelfTestFail
  /-- PAIR_DISCREPANCY (R332). One contact has demanded alone for DISC_T, and a pair fault latches. -/
  | pairDiscrepancy (flint : Bool) (pair : Fin 64)
  /-- SS1_T_EXPIRY (R336). SS1_T runs out, and the zone goes to STO. -/
  | ss1TExpiry (z : Fin 8)
  /-- SBC_DLY_EXPIRY (R336). SBC_DLY after STO entry, the brake outputs are switched off. -/
  | sbcDlyExpiry (f : Fin 128)
  /-- SAFE_REQ_WRITE (R351). A write of SAFE_REQ sets or clears STO and SS1 demands of zones. -/
  | safeReqWrite (v : BitVec 16)
  /-- SAFE_BRK_REQ_WRITE (R339). A write of SAFE_BRK_REQ requests or withdraws brake release. -/
  | safeBrkReqWrite (q : Fin 514) (hi : Bool) (v : Word)
  /-- DSC_RECEIVE (R346). A received DSC copy is checked by both channels and accepted, held for TPC, or rejected. -/
  | dscReceive (p : Fin 4) (body : List Byte)
  /-- DSC_DATA_SEND (R345). A DATA message is composed, CRC-confirmed by Flint and sent on all four ports. -/
  | dscDataSend (c : Fin 32)
  /-- DSC_CONNECT_SEND (R349). In CONNECT each side sends a CONNECT message every PERIOD. -/
  | dscConnectSend (c : Fin 32)
  /-- DSC_EXPIRY (R349). A connection's time expectation expires; the IN bits go safe and REACT applies. -/
  | dscExpiry (c : Fin 32)
  /-- TPC_WINDOW_EXPIRY (R347). A held copy gets no partner within TPC_WIN and is discarded. -/
  | tpcWindowExpiry (c : Fin 32)
  /-- FAULT_RISE (R355). A source's line class rises above its recorded class; the collector logs it and starts its reaction. -/
  | faultRise (i : Fin 40)
  /-- FAULT_SOURCE_CLEAR (R356). A write of 1 to a FAULT_SOURCE bit re-arms the source when its line is not asserted. -/
  | faultSourceClear (hi : Bool) (v : Word)
  /-- DSS_CLR (R357). A write of FAULT_CTRL.DSS_CLR ends the device safe stop. -/
  | dssClr
  /-- DOM_HALT_RELEASE (R357). A write of 1 to FAULT_DOM_HALT releases a halted domain. -/
  | domHaltRelease (mask : BitVec 8)
  /-- FAULT_LOG_POP (R358). A write of FAULT_LOG_POP removes the head log record. -/
  | faultLogPop
  /-- PARTNER_REPORT (R361). A write of FAULT_PR_IN merges a partner report into an open record, opens one, or drops the report. -/
  | partnerReport (v : Word)
  /-- PARTNER_RECORD_CLOSE (R362). An open record closes 312,500 ticks after its first report and is queued, setting its class error. -/
  | partnerRecordClose
  /-- FAULT_PR_POP (R362). A write of FAULT_PR_POP removes the head partner record. -/
  | faultPrPop
  /-- TRACE_ENTRY (R369). A recorder writes a source value as an entry, tracking the trigger, POST and truncation. -/
  | traceEntry (r : Fin 8) (j : Fin 16) (n : Fin 64)
  /-- TRC_ARM (R370). A write of TRC_CTRL.ARM arms a recorder, or refuses it with a reason. -/
  | trcArm (r : Fin 8)
  /-- TRC_STOP (R370). A write of TRC_CTRL.STOP ends a capture. -/
  | trcStop (r : Fin 8)
  /-- TRC_FORCE (R371). A write of TRC_CTRL.FORCE triggers an armed recorder. -/
  | trcForce (r : Fin 8)
  /-- TRACE_TRIGGER (R371). A delivered trigger takes effect on an armed recorder, setting TPTR, TTICK and FIRST. -/
  | traceTrigger (r : Fin 8)
  /-- TRACE_TIME_TRIGGER (R373). At TRC_TAT a time trigger acts, or is inhibited. -/
  | traceTimeTrigger (r : Fin 8)
  /-- TRC_RGN_WRITE (R366). A write of TRC_RGN sets a trace region, or is ignored with RGN_OVL. -/
  | trcRgnWrite (d : Fin 8) (v : Word)
  /-- TRIG_IN_EDGE (R374). An edge on a TRIG_IN input is stamped and queued, or discarded. -/
  | trigInEdge (n : Fin 4) (level : Bool) (tap : Fin 64)
  /-- TRIG_IN_POP (R374). A write of TRIG_IN_POP removes head stamps. -/
  | trigInPop (mask : BitVec 4)
  /-- TBUS_PULSE (R375). A write of TBUS_PULSE drives a pulse on the selected lines. -/
  | tbusPulse (mask : BitVec 4)
  /-- TBUS_AT (R373). At TBUS_AT a timed pulse is driven, or inhibited. -/
  | tbusAt (n : Fin 4)
  /-- TBUS_EDGE (R375). A rising edge on a bus line is stamped, compensated and queued. -/
  | tbusEdge (n : Fin 4) (own : Bool) (tap : Fin 64)
  /-- TBUS_POP (R375). A write of TBUS_POP removes head bus stamps. -/
  | tbusPop (mask : BitVec 4)
  /-- TBUS_CAL (R376). A write of TBUS_CAL.GO starts the delay measurement of a line. -/
  | tbusCal (mask : BitVec 4)
  /-- TBUS_CAL_DONE (R376). The 64-pulse measurement ends and sets TBUS_LDLY, or fails. -/
  | tbusCalDone (n : Fin 4)
  /-- SNAP_GO (R377). A write of SNAP_CTRL.GO triggers a common snapshot. -/
  | snapGo
  /-- SNAP_AT (R373). At SNAP_AT a timed snapshot acts, or is inhibited. -/
  | snapAt
  /-- SLATE_SNAPSHOT_ANSWER (R378). A Slate answers the snapshot exchange, latched in reach or at receipt. -/
  | slateSnapshotAnswer (sl : Fin 8)
  /-- SNAP_BUSY_END (R379). BUSY ends when every Slate has answered or 20 µs have passed. -/
  | snapBusyEnd
  /-- ASSIGNMENT_WRITE (R387). A write that changes a resource assignment starts cleaning the resource. -/
  | assignmentWrite (addr : BitVec 26) (v : Word)
  /-- CLEANING_DONE (R387). Cleaning of a reassigned resource completes. -/
  | cleaningDone
  /-- DOM_LOCK (R390). A write of DOM_LOCK.LOCK fixes every RWL field until a Granite reset. -/
  | domLock
  /-- COPY_IN (R400). The AMBER_CMD COPY_IN command copies bytes into Amber, or is refused. -/
  | copyIn
  /-- COPY_OUT (R400). The AMBER_CMD COPY_OUT command copies bytes from Amber. -/
  | copyOut
  /-- VERIFY (R400). The AMBER_CMD VERIFY command checks a slot's header and blocks. -/
  | verify (slot : Bool)
  /-- SWITCH (R400). The AMBER_CMD SWITCH command writes the boot record to take another slot at the next reset. -/
  | switch (slot trial : Bool)
  /-- CONFIRM (R399). The AMBER_CMD CONFIRM command ends a trial. -/
  | confirm
  /-- RAISE_FLOOR (R400). The AMBER_CMD RAISE_FLOOR command blows floor fuses up to the active SVN. -/
  | raiseFloor
  /-- FUSE_KEY (R400). The AMBER_CMD FUSE_KEY command programs an owner key slot. -/
  | fuseKey (key : Fin 4)
  /-- REVOKE (R400). The AMBER_CMD REVOKE command revokes a key slot. -/
  | revoke (key : Fin 4)
  /-- BOOT (R400). The AMBER_CMD BOOT command boots a slot from the SAFE_HOLD wait. -/
  | boot (slot : Bool)
  /-- AMBER_CMD_COMPLETE (R400). An Amber command ends and reports its RESULT. -/
  | amberCmdComplete (x : ImageCheck) (src : HostData)
  /-- TRIAL_EXPIRY (R399). The trial timer expires, and the device performs a Granite reset. -/
  | trialExpiry
  /-- IMAGE_LOAD (R398). In BASIC the loader hashes and applies CONFIG, LOAD and the safety blocks, or falls back. -/
  | imageLoad (x other : ImageCheck)
  /-- RESTORE (R421). After CONFIG and LOAD, a valid save is written back into the table, trunks, tooth units and branches, or skipped. -/
  | restore (us : BitVec 16)
  /-- POWER_ON_RESET (R409). POR_N low or a Granite-side rail not good resets Granite and Flint. -/
  | powerOnReset
  /-- EXTERNAL_RESET (R409). RST_N low for at least 1 µs resets Granite. -/
  | externalReset
  /-- SYS_RESET (R409). A keyed write of SYS_RESET with SAVE at 0 performs a Granite reset. -/
  | sysReset (key : BitVec 16)
  /-- SYS_RESET_SAVE (R420). A keyed write of SYS_RESET with SAVE at 1 saves to Amber and then resets Granite. -/
  | sysResetSave (key : BitVec 16)
  /-- SYS_WDOG_EXPIRY (R411). The system watchdog expires, and the device performs a Granite reset. -/
  | sysWdogExpiry
  /-- SYS_WDOG_KICK (R411). A write of SYS_WDOG_KICK reloads the system watchdog. -/
  | sysWdogKick
  /-- PLL_LOCK (R412). The system, link and SerDes PLLs lock after reset release. -/
  | pllLock (p : Fin 3)
  /-- FLINT_SELF_TEST_PASS (R412). Flint's self-test passes, allowing SAFE_HOLD. -/
  | flintSelfTestPass
  /-- SAG_DETECT (R416). A supply sag is detected, counted, and starts a save or is skipped. -/
  | sagDetect (pfail : Bool)
  /-- SAVE_COMPLETE (R417). A save ends with OK and the save domain powers off. -/
  | saveComplete
  /-- HOLD_COLLAPSE (R423). HOLD falls below 12 V before the commit, and the save is aborted. -/
  | holdCollapse
  /-- SAG_END (R419). The sag ends for RESUME_DLY, and the device performs a Granite reset with cause RESUME. -/
  | sagEnd
  /-- HOLD_CAP_MEASURE (R415). A charge from 12 V to 22 V completes, and the capacitance is measured. -/
  | holdCapMeasure (uF : BitVec 16)
  /-- SOFT_RESET (R430). A write of PAGE_CTRL.SOFT_RESET returns one block's RW fields, counters and queues to reset. -/
  | softReset (q : Fin 514) (addr : BitVec 26) (snap : Bool)
  /-- HOST_WRITE (R433). A host memory-write TLP is split into permitted accesses, or discarded. -/
  | hostWrite (addr : BitVec 26) (data : List Byte)
  /-- HOST_READ (R433). A host memory-read TLP is split, checked and completed with data. -/
  | hostRead (addr : BitVec 26) (n : Fin 513)
  /-- HOST_UNSUPPORTED (R433). An I/O, type-1, locked or atomic request is answered with Unsupported Request. -/
  | hostUnsupported
  /-- FLR (R435). A Function Level Reset resets the host port alone. -/
  | flr
  /-- PERST (R435). PERST_N low resets the host port alone. -/
  | perst
  /-- PCIE_LINK_DOWN (R435). A PCIe link-down resets the host port alone. -/
  | pcieLinkDown
  /-- MSIX_UNMASK (R436). Clearing a vector's mask sends the message of a pending vector. -/
  | msixUnmask (v : Fin 64)
  /-- DMA_TMO (R438). A device read of host memory fails or times out, and its operation is refused. -/
  | dmaTmo (r : DmaRead)
  /-- MGMT_READ (R442). An accepted management READ performs 32-bit reads as domain 0 and replies. -/
  | mgmtRead (p : Fin 4) (src : BitVec 48) (body : List Byte) (tagOk : Bool) (tag : BitVec 128)
  /-- MGMT_WRITE (R442). An accepted management WRITE performs 32-bit writes as domain 0 and replies. -/
  | mgmtWrite (p : Fin 4) (src : BitVec 48) (body : List Byte) (tagOk : Bool) (tag : BitVec 128)
  /-- MGMT_STATUS (R441). A management STATUS is answered with state, epoch and sequence. -/
  | mgmtStatus (p : Fin 4) (src : BitVec 48) (body : List Byte) (tagOk : Bool) (tag : BitVec 128)
  /-- PAGE_ERR_CLEAR (R352). A write of 1 to PAGE_ERR bits clears them and may drop the error line. -/
  | pageErrClear (q : Fin 514) (addr : BitVec 26) (v : Word)
  /-- COUNTER_CLEAR (R317). A write of 1 to bit 31 of a counter register clears the counter. -/
  | counterClear (q : Fin 514) (addr : BitVec 26)
  /-- REGISTER_WRITE (R12). A write to a register without a row of its own follows its access type, the owner check and the lock. -/
  | registerWrite (q : Fin 514) (addr : BitVec 26) (v : Word)
  /-- TOOTH_INPUT_EDGE (R142). The Slate accepts an edge of polarity POL on an auxiliary tooth input after FILT_US and queues an EVENT record on channel 32 + j. -/
  | toothInputEdge (sl : Fin 8) (j : Fin 2) (lvl : Bool) (t0 : Nat)
  /-- PLL_UNLOCK (R52). The system, Slate link or SerDes PLL loses lock, setting SYS_UNLOCK, LINK_UNLOCK or SERDES_UNLOCK. -/
  | pllUnlock (p : Fin 3)
  /-- INACTIVE_REF_LOSS (R35). No edge arrives at the inactive REFCLK input for 128 ns, and that input is declared lost. -/
  | inactiveRefLoss (cab absent : Bool)
  /-- REFCLK_RECOVERY (R35). A REFCLK input that was declared lost receives edges again within limits and is no longer lost. -/
  | refclkRecovery (cab : Bool)
  /-- POSTED_WRITE_COMPLETE (R182). A posted shared-memory or fabric write of an engine completes, freeing an outstanding slot and ending a stall or a pending RST. -/
  | postedWriteComplete (e : Fin 512) (fabric : Bool)
  /-- RESET_RELEASE (R412). POR_N or RST_N is released, and Flint's self-test and the PLLs start. -/
  | resetRelease
  /-- PCIE_LINK_UP (R432). The PCIe link completes training and HOST_STATUS.LINK_UP sets. -/
  | pcieLinkUp (gen : Fin 3) (x2 : Bool)
  /-- PCIE_CONFIG_WRITE (R435). A PCIe configuration request from the host sets Bus Master Enable, MSI-X Enable or the Function Mask. -/
  | pcieConfigWrite (bme msix fmask : Bool)
  /-- AMBER_SCRUB (R32). The background scrub reads Amber and rewrites any word that needed correction, counting CE or recording UE. -/
  | amberScrub (addr : BitVec 25) (found : Option Bool)
  /-- HOLD_OK_CHANGE (R415). HOLD crosses 22.8 V, and PWR_STATUS.HOLD_OK sets or clears. -/
  | holdOkChange (ok : Bool)
  deriving DecidableEq, Repr

end Sys2Proof
end

