-- ==== Sys2Proof/WellFormed.lean ====
section
/-! DEFINITION. Which commands are well formed: the frames and messages a command carries have the lengths and field widths
the spec gives them. The operands' types bound everything else. -/
namespace Sys2Proof

/-- A main-link frame has 64 bytes (R57). -/
def FrameRx.wf (r : FrameRx) : Bool := r.bytes.length == 64
/-- A sideband frame has 16 data bytes (R68). -/
def SbRx.wf (r : SbRx) : Bool := r.bytes.length == 16
/-- An Ethernet frame has at least 60 bytes beside its FCS (Table 13-2). -/
def NetRx.wf (r : NetRx) : Bool := decide (60 ≤ r.bytes.length)
/-- A handover message's fields have the widths of Table 11-8, and the body is whole records or the 8 bytes of T_B. -/
def HoMsg.wf (m : HoMsg) : Bool :=
  decide (m.ver < 16 ∧ m.line < 2 ^ 16 ∧ m.xfer < 2 ^ 32 ∧ m.id < 2 ^ 32 ∧ m.count < 2 ^ 16 ∧ m.arg < 2 ^ 16) &&
    (m.body.length == 32 * m.count || (m.count == 0 && m.body.length == 8))
/-- A buffer in host memory holds at most 2,048 bytes (R310). -/
def HostTx.wf (h : HostTx) : Bool := match h.data with
  | some b => decide (b.length ≤ 2048)
  | none => true
/-- Every check of a command; a packet of the host carries 1 to 256 bytes of data, or asks for at least one (R432, R433). -/
def Instr.wf (i : Instr) : Bool := match i with
  | .samplingInstant _ _ => true
  | .conversionComplete _ _ _ _ _ => true
  | .downstreamFrame _ rx => rx.wf
  | .upstreamFrame _ rx => rx.wf
  | .downstreamFrameSend _ => true
  | .upstreamFrameSend _ => true
  | .evaluationStart _ => true
  | .updateInstant _ => true
  | .enterSafeHold => true
  | .enterBasic _ _ => true
  | .enterFull => true
  | .refSel _ => true
  | .refclkLoss _ => true
  | .holdoverExpiry => true
  | .altDevMeasure _ => true
  | .timeTickLo _ => true
  | .timeSubns _ => true
  | .timeCmtGo _ => true
  | .timeStageWrite _ _ => true
  | .commitTakeEffect => true
  | .timeMeasOfs _ => true
  | .netHoldoverExpiry => true
  | .netMaster _ => true
  | .linkDelayMeasured _ => true
  | .slatePowerUp _ => true
  | .slatePowerLoss _ => true
  | .slateSilenceTimeout _ => true
  | .linkTimeout _ => true
  | .release _ => true
  | .safeCmdClear _ => true
  | .slateRegWrite _ _ _ => true
  | .slateRegRead _ _ => true
  | .forwardedReadTimeout _ => true
  | .sidebandSend _ _ _ _ => true
  | .sidebandFrameAtSlate _ rx => rx.wf
  | .sidebandFrameAtFlint _ rx => rx.wf
  | .sbDown _ => true
  | .eventLogRelease => true
  | .carrierRun _ _ => true
  | .carrierEdge _ => true
  | .carrierApplyGo _ _ => true
  | .axisEdge _ => true
  | .pwmEdge _ _ _ => true
  | .pwmPhaseWrite _ _ => true
  | .delayLineSwap _ _ _ _ => true
  | .calDone _ _ => true
  | .pwmEn _ _ => true
  | .prechargeEnd _ => true
  | .tripQualify _ _ => true
  | .tripLatchClear _ => true
  | .chopPeriodStart _ => true
  | .chopTrip _ _ => true
  | .timerTrigger _ _ => true
  | .timerWindowOpen _ _ => true
  | .timerWindowClose _ _ => true
  | .gatePhaseAdvance _ _ => true
  | .tonTmo _ _ => true
  | .turnOnRelease _ _ => true
  | .glock _ _ => true
  | .vgdLockout _ _ => true
  | .vgdUvReport _ => true
  | .bstLockout _ _ _ => true
  | .otShut _ _ => true
  | .desatReport _ _ _ => true
  | .ocpAssert _ _ _ => true
  | .adcCalGo _ _ => true
  | .adcCalComplete _ _ _ _ _ => true
  | .backgroundConversion _ _ _ _ => true
  | .hallChange _ _ _ => true
  | .abzEdge _ _ _ _ => true
  | .index _ _ => true
  | .fbModeWrite _ _ _ => true
  | .serialRequest _ => true
  | .serialReading _ _ _ _ => true
  | .fbPosRead _ _ => true
  | .preset _ => true
  | .fbWrapWrite _ _ => true
  | .fbStill _ => true
  | .virtualTooth _ => true
  | .toothStill _ => true
  | .toothEnable _ _ => true
  | .research _ => true
  | .toothPosRead _ _ => true
  | .ecallReply _ => true
  | .ecallTmo _ => true
  | .apply _ => true
  | .graphValidate _ => true
  | .descriptorWrite _ _ _ _ _ => true
  | .holdRelease _ => true
  | .descriptorWritesApply _ => true
  | .loopRun _ _ => true
  | .loopPosLoRead _ _ => true
  | .luDescRangeWrite _ _ _ => true
  | .engRst _ => true
  | .engRstRelease _ => true
  | .engGo _ => true
  | .engStep _ => true
  | .engHalt _ => true
  | .engineWake _ => true
  | .exceptionEntry _ => true
  | .breakpointMatch _ => true
  | .engWdogExpiry _ => true
  | .ioWdogKick _ => true
  | .ioCallPop _ => true
  | .ioMailPop _ => true
  | .sendReply _ _ => true
  | .sendMail _ _ _ => true
  | .sendHostMail _ _ => true
  | .engMailSend _ _ => true
  | .engHmailPop _ => true
  | .engDbgDataWrite _ _ => true
  | .engPcWrite _ _ => true
  | .externalMemoryWrite _ _ _ _ => true
  | .ioCycleLoRead _ => true
  | .sharedReadComplete _ => true
  | .fabricReadComplete _ => true
  | .modeWriteTakeEffect _ => true
  | .mov _ => true
  | .add _ => true
  | .sub _ => true
  | .adds _ => true
  | .subs _ => true
  | .andOp _ => true
  | .orOp _ => true
  | .xor _ => true
  | .andn _ => true
  | .shl _ => true
  | .shr _ => true
  | .sar _ => true
  | .mul _ => true
  | .mulf _ => true
  | .minOp _ => true
  | .maxOp _ => true
  | .abs _ => true
  | .neg _ => true
  | .clz _ => true
  | .cmp _ => true
  | .addi _ => true
  | .andi _ => true
  | .ori _ => true
  | .xori _ => true
  | .cmpi _ => true
  | .shi _ => true
  | .movil _ => true
  | .movih _ => true
  | .ld _ => true
  | .st _ => true
  | .sta _ => true
  | .mac _ => true
  | .msu _ => true
  | .mpy _ => true
  | .ldp _ => true
  | .aclr _ => true
  | .amov _ => true
  | .aadd _ => true
  | .asub _ => true
  | .aneg _ => true
  | .aabs _ => true
  | .ashl _ => true
  | .asar _ => true
  | .aload _ => true
  | .aloadl _ => true
  | .ast _ => true
  | .asat _ => true
  | .arnd _ => true
  | .nop _ => true
  | .wait _ => true
  | .rete _ => true
  | .brk _ => true
  | .movs _ => true
  | .padd _ => true
  | .mdset _ => true
  | .mdclr _ => true
  | .b _ => true
  | .br _ => true
  | .call _ => true
  | .callr _ => true
  | .loopOp _ => true
  | .lpop _ => true
  | .setpointCompute _ => true
  | .move _ => true
  | .vel _ => true
  | .gear _ => true
  | .stop _ => true
  | .path _ => true
  | .trkEnable _ _ => true
  | .trkSegPush _ => true
  | .flush _ => true
  | .trkPosRead _ _ => true
  | .prfSpRead _ _ => true
  | .brOfsNowRead _ _ => true
  | .insertItem _ => true
  | .insertEvent _ => true
  | .cancel _ _ => true
  | .delete _ _ => true
  | .shift _ _ => true
  | .read _ _ => true
  | .heldInsertRelease _ => true
  | .compareInstant _ => true
  | .eventFire _ => true
  | .windowOpen _ => true
  | .notSeen _ => true
  | .correctionApply => true
  | .rebuild => true
  | .rebuildComplete => true
  | .merge _ => true
  | .init => true
  | .trackRgnWrite _ _ => true
  | .offer _ m => m.wf
  | .accept _ m => m.wf
  | .refuse _ m => m.wf
  | .commit _ m => m.wf
  | .doneMsg _ m => m.wf
  | .withdraw _ m => m.wf
  | .resolve _ m => m.wf
  | .hello _ _ m => m.wf
  | .helloSend _ => true
  | .sessionDown _ _ => true
  | .hoRetry _ => true
  | .commitTmo _ => true
  | .heldCommitTimeout _ => true
  | .doubtTmo _ => true
  | .rgnRptPop _ => true
  | .fieldInputChange _ _ _ _ => true
  | .pulseWindow _ _ => true
  | .fieldVoltageMeasure _ _ _ => true
  | .stuck _ _ => true
  | .short _ _ => true
  | .shortRetry _ _ => true
  | .shortClear _ _ => true
  | .openLoad _ _ => true
  | .readbackMismatch _ _ _ => true
  | .vfieldUv _ _ => true
  | .fioCfgWrite _ _ _ _ => true
  | .outputDischarged _ _ _ => true
  | .fioOutWrite _ _ _ => true
  | .scheduledTransition _ _ => true
  | .fschMapWrite _ _ _ => true
  | .fschGo _ _ _ => true
  | .fschCancel _ _ => true
  | .fschSend _ _ => true
  | .fschDone _ _ => true
  | .frameReceive _ rx => rx.wf
  | .frameStart _ => true
  | .frameSent _ _ => true
  | .launch _ => true
  | .portLinkUp _ => true
  | .portLinkDown _ _ => true
  | .autoModeSwitch _ => true
  | .netCfgWrite _ _ => true
  | .ringTestSend _ => true
  | .ringOpen _ => true
  | .txTailWrite _ _ => true
  | .txDescriptorFetch _ h => h.wf
  | .rxTailWrite _ _ => true
  | .netTsqPop _ => true
  | .netCbsWrite _ _ _ => true
  | .swBufRsvWrite _ _ => true
  | .cycleMark _ => true
  | .markMissing => true
  | .recordA => true
  | .recordB => true
  | .recordDeadline _ => true
  | .lockstepMismatch => true
  | .flintSelfTestFail => true
  | .pairDiscrepancy _ _ => true
  | .ss1TExpiry _ => true
  | .sbcDlyExpiry _ => true
  | .safeReqWrite _ => true
  | .safeBrkReqWrite _ _ _ => true
  | .dscReceive _ _ => true
  | .dscDataSend _ => true
  | .dscConnectSend _ => true
  | .dscExpiry _ => true
  | .tpcWindowExpiry _ => true
  | .faultRise _ => true
  | .faultSourceClear _ _ => true
  | .dssClr => true
  | .domHaltRelease _ => true
  | .faultLogPop => true
  | .partnerReport _ => true
  | .partnerRecordClose => true
  | .faultPrPop => true
  | .traceEntry _ _ _ => true
  | .trcArm _ => true
  | .trcStop _ => true
  | .trcForce _ => true
  | .traceTrigger _ => true
  | .traceTimeTrigger _ => true
  | .trcRgnWrite _ _ => true
  | .trigInEdge _ _ _ => true
  | .trigInPop _ => true
  | .tbusPulse _ => true
  | .tbusAt _ => true
  | .tbusEdge _ _ _ => true
  | .tbusPop _ => true
  | .tbusCal _ => true
  | .tbusCalDone _ => true
  | .snapGo => true
  | .snapAt => true
  | .slateSnapshotAnswer _ => true
  | .snapBusyEnd => true
  | .assignmentWrite _ _ => true
  | .cleaningDone => true
  | .domLock => true
  | .copyIn => true
  | .copyOut => true
  | .verify _ => true
  | .switch _ _ => true
  | .confirm => true
  | .raiseFloor => true
  | .fuseKey _ => true
  | .revoke _ => true
  | .boot _ => true
  | .amberCmdComplete _ _ => true
  | .trialExpiry => true
  | .imageLoad _ _ => true
  | .restore _ => true
  | .powerOnReset => true
  | .externalReset => true
  | .sysReset _ => true
  | .sysResetSave _ => true
  | .sysWdogExpiry => true
  | .sysWdogKick => true
  | .pllLock _ => true
  | .flintSelfTestPass => true
  | .sagDetect _ => true
  | .saveComplete => true
  | .holdCollapse => true
  | .sagEnd => true
  | .holdCapMeasure _ => true
  | .softReset _ _ _ => true
  | .hostWrite _ data => decide (1 ≤ data.length ∧ data.length ≤ 256)
  | .hostRead _ n => decide (1 ≤ n.val)
  | .hostUnsupported => true
  | .flr => true
  | .perst => true
  | .pcieLinkDown => true
  | .msixUnmask _ => true
  | .dmaTmo _ => true
  | .mgmtRead _ _ _ _ _ => true
  | .mgmtWrite _ _ _ _ _ => true
  | .mgmtStatus _ _ _ _ _ => true
  | .pageErrClear _ _ _ => true
  | .counterClear _ _ => true
  | .registerWrite _ _ _ => true
  | .toothInputEdge _ _ _ _ => true
  | .pllUnlock _ => true
  | .inactiveRefLoss _ _ => true
  | .refclkRecovery _ => true
  | .postedWriteComplete _ _ => true
  | .resetRelease => true
  | .pcieLinkUp _ _ => true
  | .pcieConfigWrite _ _ _ => true
  | .amberScrub _ _ => true
  | .holdOkChange _ => true

end Sys2Proof
end

