-- ==== Sys2Proof/Decode.lean ====
section
/-! DEFINITION. Commands by word. No row of spec/opcode_table.json gives a command bits: no word spells one. -/
namespace Sys2Proof

/-- The command a word spells by the table's bits: none. -/
def decodeTableWord (_nbits _w : Nat) : Option Instr := none

end Sys2Proof
end

