-- ==== Sys2Proof/Config.lean ====
section
/-! DEFINITION. What an implementation fixes, and the free values: constants without a body, so that no proof can see
what they are (a claim holds whatever they are). -/
namespace Sys2Proof.Config

/-- DIE_REV of a page (R429): the revision of the die, not given by the spec. Argument: 0 Granite, 1 + s Slate s. -/
opaque dieRev : Nat → BitVec 8
/-- Oradel's PCI-SIG identifier, shown in HOST_ID (R432); not in the spec. -/
opaque vendorId : BitVec 16
/-- The random draw of HOST_MGMT_EPOCH at a Granite reset (R441); argument: the state's free-value counter. -/
opaque epochDraw : Nat → BitVec 32
/-- Stall cycles of an engine access (ENG_STALL, R208), which depend on fabric timing outside the model. -/
opaque stallCycles : Nat → BitVec 32
/-- The deviation of the sine node's result from the exact value, inside the bound of R167. Argument: the angle. -/
opaque sinDeviation : Nat → Int
/-- What the monitors of VAUX_SENSE and HOLD read, in mV (R425). Argument: twice the tick, plus 1 for HOLD. -/
opaque measuredMv : Nat → BitVec 16
/-- A byte, word or number the spec leaves open; argument: the state's free-value counter. -/
opaque freeWord : Nat → BitVec 32

end Sys2Proof.Config
end

