-- ==== Sys2Proof/Machine/Regs.lean ====
section
/-! DEFINITION. The register map of the spec: pages (R431), registers with their offsets, access masks and reset
values (the "page map" tables of every chapter), bit fields, and the PAGE_ERR tables. Names are the spec's. -/
namespace Sys2Proof.Machine

/-- A bit field of a register: the register's page offset, its lowest bit and its width. -/
structure Fld where
  off : Nat
  lo : Nat
  w : Nat
  deriving DecidableEq, Repr

/-- A register (or an array of `count` registers `stride` apart): reset value, and the masks of the bits that a write
sets (RW; RWL), clears (W1C), sets by 1 (W1S) or that start an action (SC, WO), as Table 0-7 (R12) has them.
`snap`: the register is snapshot-capable (column S). -/
structure RegDesc where
  off : Nat
  stride : Nat
  count : Nat
  reset : Nat
  rw : Nat
  rwl : Nat
  w1c : Nat
  w1s : Nat
  cmd : Nat
  snap : Bool
  deriving DecidableEq, Repr

/-- The page types of Table 19-4 (R431). -/
inductive PageKind where
  | sys
  | clk
  | time
  | fault
  | dom
  | pwr
  | snap
  | trig
  | safe
  | amber
  | host
  | loop
  | profile
  | fb
  | pwm
  | link
  | carrier
  | gate
  | adc
  | fio
  | chop
  | timers
  | net
  | switch
  | netq
  | grove
  | loopunit
  | engine
  | track
  | handover
  | trace
  | trc
  | tooth
  | trunk
  | rgn
  | lane
  | fsch
  deriving DecidableEq, Repr

/-- Base addresses of the pages, by instance (R8, R431). -/
abbrev P.sys : Nat := 0x0
abbrev P.clk : Nat := 0x1000
abbrev P.time : Nat := 0x2000
abbrev P.fault : Nat := 0x3000
abbrev P.dom : Nat := 0x4000
abbrev P.pwr : Nat := 0x5000
abbrev P.snap : Nat := 0x6000
abbrev P.trig : Nat := 0x7000
abbrev P.safe : Nat := 0x8000
abbrev P.amber : Nat := 0x9000
abbrev P.host : Nat := 0xA000
abbrev P.loop (i : Nat) : Nat := 0x100000 + 0x4000 * i
abbrev P.profile (i : Nat) : Nat := 0x101000 + 0x4000 * i
abbrev P.fb (i : Nat) : Nat := 0x102000 + 0x4000 * i
abbrev P.pwm (i : Nat) : Nat := 0x103000 + 0x4000 * i
abbrev P.link (i : Nat) : Nat := 0x200000 + 0x10000 * i
abbrev P.carrier (i : Nat) : Nat := 0x201000 + 0x10000 * i
abbrev P.gate (i : Nat) : Nat := 0x202000 + 0x10000 * i
abbrev P.adc (i : Nat) : Nat := 0x203000 + 0x10000 * i
abbrev P.fio (i : Nat) : Nat := 0x204000 + 0x10000 * i
abbrev P.chop (i : Nat) : Nat := 0x205000 + 0x10000 * i
abbrev P.timers (i : Nat) : Nat := 0x206000 + 0x10000 * i
abbrev P.net (i : Nat) : Nat := 0x280000 + 0x1000 * i
abbrev P.switch : Nat := 0x288000
abbrev P.netq (i : Nat) : Nat := 0x290000 + 0x1000 * i
abbrev P.grove (i : Nat) : Nat := 0x400000 + 0x40000 * i
abbrev P.loopunit (i : Nat) : Nat := 0x401000 + 0x40000 * i
abbrev P.engine (e : Nat) : Nat := 0x420000 + 0x40000 * (e / 32) + 0x1000 * (e % 32)
abbrev P.track : Nat := 0x800000
abbrev P.handover (i : Nat) : Nat := 0x801000 + 0x1000 * i
abbrev P.trace : Nat := 0x810000
abbrev P.trc (i : Nat) : Nat := 0x811000 + 0x1000 * i
abbrev P.tooth (i : Nat) : Nat := 0x820000 + 0x1000 * i
abbrev P.trunk (i : Nat) : Nat := 0x830000 + 0x1000 * i
abbrev P.rgn (i : Nat) : Nat := 0x840000 + 0x1000 * i
abbrev P.lane (i : Nat) : Nat := 0x850000 + 0x1000 * i
abbrev P.fsch (i : Nat) : Nat := 0x890000 + 0x1000 * i

/-! Registers of the common page header (R429). -/
abbrev R.PAGE_ID : Nat := 0x000
abbrev R.PAGE_VER : Nat := 0x004
abbrev R.PAGE_CTRL : Nat := 0x008
abbrev R.PAGE_STATUS : Nat := 0x00C
abbrev R.PAGE_ERR : Nat := 0x010
abbrev R.PAGE_ERR_MASK : Nat := 0x014
abbrev R.PAGE_ERR_CLASS : Nat := 0x018
abbrev R.PAGE_OWNER : Nat := 0x01C
abbrev F.PAGE_CTRL_SNAP_EN : Fld := ⟨8, 8, 1⟩
abbrev F.PAGE_STATUS_RESETTING : Fld := ⟨12, 3, 1⟩
abbrev F.PAGE_OWNER_DOMAIN : Fld := ⟨28, 0, 3⟩

/-! Registers and fields of the sys page. -/
abbrev R.SYS_STATE : Nat := 0x020
abbrev F.SYS_STATE_W_RESTORE : Fld := ⟨0x020, 19, 1⟩
abbrev F.SYS_STATE_W_TIME : Fld := ⟨0x020, 18, 1⟩
abbrev F.SYS_STATE_W_CAL : Fld := ⟨0x020, 17, 1⟩
abbrev F.SYS_STATE_W_IMAGE : Fld := ⟨0x020, 16, 1⟩
abbrev F.SYS_STATE_RESTORED : Fld := ⟨0x020, 8, 1⟩
abbrev F.SYS_STATE_STATE : Fld := ⟨0x020, 0, 2⟩
abbrev R.SYS_RST_CAUSE : Nat := 0x024
abbrev R.SYS_RESET : Nat := 0x028
abbrev F.SYS_RESET_KEY : Fld := ⟨0x028, 16, 16⟩
abbrev F.SYS_RESET_SAVE : Fld := ⟨0x028, 1, 1⟩
abbrev F.SYS_RESET_GO : Fld := ⟨0x028, 0, 1⟩
abbrev R.SYS_WDOG : Nat := 0x02C
abbrev F.SYS_WDOG_PERIOD : Fld := ⟨0x02C, 0, 24⟩
abbrev R.SYS_WDOG_KICK : Nat := 0x030
abbrev R.SYS_WDOG_LEFT : Nat := 0x034
abbrev R.SYS_T_SAFE : Nat := 0x038
abbrev R.SYS_T_BASIC : Nat := 0x03C
abbrev R.SYS_T_FULL : Nat := 0x040
abbrev R.SYS_DEVICE : Nat := 0x044
abbrev F.SYS_DEVICE_AXES : Fld := ⟨0x044, 8, 8⟩
abbrev F.SYS_DEVICE_XA : Fld := ⟨0x044, 0, 1⟩
abbrev R.SYS_ECC_CE : Nat := 0x048
abbrev F.SYS_ECC_CE_CLR : Fld := ⟨0x048, 31, 1⟩
abbrev F.SYS_ECC_CE_COUNT : Fld := ⟨0x048, 0, 16⟩
abbrev R.SYS_ECC_UE_ADDR : Nat := 0x04C
abbrev F.SYS_ECC_UE_ADDR_VALID : Fld := ⟨0x04C, 31, 1⟩
/-! Registers and fields of the clk page. -/
abbrev R.CLK_CTRL : Nat := 0x020
abbrev F.CLK_CTRL_FAILOVER_EN : Fld := ⟨0x020, 2, 1⟩
abbrev F.CLK_CTRL_REF_SEL : Fld := ⟨0x020, 0, 2⟩
abbrev R.CLK_STATUS : Nat := 0x024
abbrev F.CLK_STATUS_HOLDOVER : Fld := ⟨0x024, 9, 1⟩
abbrev F.CLK_STATUS_ACTIVE_REF : Fld := ⟨0x024, 8, 1⟩
abbrev F.CLK_STATUS_CAB_OK : Fld := ⟨0x024, 5, 1⟩
abbrev F.CLK_STATUS_LOC_OK : Fld := ⟨0x024, 4, 1⟩
abbrev F.CLK_STATUS_SERDES_LOCK : Fld := ⟨0x024, 2, 1⟩
abbrev F.CLK_STATUS_LINK_LOCK : Fld := ⟨0x024, 1, 1⟩
abbrev F.CLK_STATUS_SYS_LOCK : Fld := ⟨0x024, 0, 1⟩
abbrev R.CLK_ALT_DEV : Nat := 0x028
abbrev F.CLK_ALT_DEV_DEV_PPM : Fld := ⟨0x028, 0, 16⟩
abbrev R.CLK_FLINT_CYC : Nat := 0x02C
abbrev F.CLK_FLINT_CYC_CYC : Fld := ⟨0x02C, 0, 16⟩
/-! Registers and fields of the time page. -/
abbrev R.TIME_TICK_LO : Nat := 0x020
abbrev R.TIME_TICK_HI : Nat := 0x024
abbrev R.TIME_SUBNS : Nat := 0x028
abbrev R.TIME_NS : Nat := 0x02C
abbrev R.TIME_SEC_LO : Nat := 0x030
abbrev R.TIME_SEC_HI : Nat := 0x034
abbrev R.TIME_LAT_TICK_LO : Nat := 0x038
abbrev R.TIME_LAT_TICK_HI : Nat := 0x03C
abbrev R.TIME_INC_LO : Nat := 0x040
abbrev R.TIME_INC_HI : Nat := 0x044
abbrev F.TIME_INC_HI_INC : Fld := ⟨0x044, 0, 4⟩
abbrev R.TIME_SET_SUBNS : Nat := 0x048
abbrev R.TIME_SET_NS : Nat := 0x04C
abbrev R.TIME_SET_SEC_LO : Nat := 0x050
abbrev R.TIME_SET_SEC_HI : Nat := 0x054
abbrev R.TIME_ADJ_FRAC : Nat := 0x058
abbrev R.TIME_ADJ_NS : Nat := 0x05C
abbrev R.TIME_SET_INC_LO : Nat := 0x060
abbrev R.TIME_SET_INC_HI : Nat := 0x064
abbrev R.TIME_CMT_TICK_LO : Nat := 0x068
abbrev R.TIME_CMT_TICK_HI : Nat := 0x06C
abbrev R.TIME_CMT_CTRL : Nat := 0x070
abbrev F.TIME_CMT_CTRL_SEL_INC : Fld := ⟨0x070, 6, 1⟩
abbrev F.TIME_CMT_CTRL_SEL_ADJ : Fld := ⟨0x070, 5, 1⟩
abbrev F.TIME_CMT_CTRL_SEL_SET : Fld := ⟨0x070, 4, 1⟩
abbrev F.TIME_CMT_CTRL_AT_TICK : Fld := ⟨0x070, 1, 1⟩
abbrev F.TIME_CMT_CTRL_GO : Fld := ⟨0x070, 0, 1⟩
abbrev R.TIME_CMT_STAT : Nat := 0x074
abbrev F.TIME_CMT_STAT_RANGE : Fld := ⟨0x074, 2, 1⟩
abbrev F.TIME_CMT_STAT_LATE : Fld := ⟨0x074, 1, 1⟩
abbrev F.TIME_CMT_STAT_DONE : Fld := ⟨0x074, 0, 1⟩
abbrev R.TIME_MEAS_OFS : Nat := 0x078
abbrev R.TIME_LOCK_CFG : Nat := 0x07C
abbrev F.TIME_LOCK_CFG_NET_GUARD : Fld := ⟨0x07C, 16, 16⟩
abbrev F.TIME_LOCK_CFG_LOCK_CNT : Fld := ⟨0x07C, 8, 8⟩
abbrev F.TIME_LOCK_CFG_NET_MASTER : Fld := ⟨0x07C, 0, 1⟩
abbrev R.TIME_DRIFT_BOUND : Nat := 0x080
abbrev R.TIME_LOCK_STAT : Nat := 0x084
abbrev F.TIME_LOCK_STAT_WHY : Fld := ⟨0x084, 24, 3⟩
abbrev F.TIME_LOCK_STAT_ALIGNED : Fld := ⟨0x084, 16, 8⟩
abbrev F.TIME_LOCK_STAT_GOOD_CNT : Fld := ⟨0x084, 8, 8⟩
abbrev F.TIME_LOCK_STAT_NET_LOCK : Fld := ⟨0x084, 0, 1⟩
abbrev R.TIME_HOLD_LEFT : Nat := 0x088
abbrev R.TIME_INH_CFG : Nat := 0x08C
abbrev F.TIME_INH_CFG_TTRIG : Fld := ⟨0x08C, 3, 1⟩
abbrev F.TIME_INH_CFG_LAUNCH : Fld := ⟨0x08C, 2, 1⟩
abbrev F.TIME_INH_CFG_FIO : Fld := ⟨0x08C, 1, 1⟩
abbrev F.TIME_INH_CFG_EVENTS : Fld := ⟨0x08C, 0, 1⟩
abbrev R.TIME_UNLOCK_CNT : Nat := 0x090
abbrev R.TIME_ALIGN (j : Nat) : Nat := 0x0A0 + 8 * j
abbrev F.TIME_ALIGN_ALIGNED (j : Nat) : Fld := ⟨0x0A0 + 8 * j, 31, 1⟩
abbrev F.TIME_ALIGN_ERR_TAPS (j : Nat) : Fld := ⟨0x0A0 + 8 * j, 0, 16⟩
abbrev R.TIME_LDLY (j : Nat) : Nat := 0x0A4 + 8 * j
/-! Registers and fields of the fault page. -/
abbrev R.FAULT_CTRL : Nat := 0x020
abbrev F.FAULT_CTRL_DSS_CLR : Fld := ⟨0x020, 1, 1⟩
abbrev R.FAULT_STATUS : Nat := 0x024
abbrev F.FAULT_STATUS_FTM : Fld := ⟨0x024, 31, 1⟩
abbrev F.FAULT_STATUS_HALTED : Fld := ⟨0x024, 16, 8⟩
abbrev F.FAULT_STATUS_DSS : Fld := ⟨0x024, 8, 1⟩
abbrev F.FAULT_STATUS_FATAL : Fld := ⟨0x024, 1, 1⟩
abbrev F.FAULT_STATUS_ANY : Fld := ⟨0x024, 0, 1⟩
abbrev R.FAULT_SOURCE_LO : Nat := 0x028
abbrev R.FAULT_SOURCE_HI : Nat := 0x02C
abbrev R.FAULT_CLASS (j : Nat) : Nat := 0x030 + 4 * j
abbrev R.FAULT_LINE_LO : Nat := 0x040
abbrev R.FAULT_LINE_HI : Nat := 0x044
abbrev R.FAULT_IRQ : Nat := 0x048
abbrev F.FAULT_IRQ_EN : Fld := ⟨0x048, 31, 1⟩
abbrev F.FAULT_IRQ_VEC : Fld := ⟨0x048, 0, 6⟩
abbrev R.FAULT_DOM_HALT : Nat := 0x04C
abbrev R.FAULT_LOG_HEAD : Nat := 0x050
abbrev F.FAULT_LOG_HEAD_VALID : Fld := ⟨0x050, 31, 1⟩
abbrev F.FAULT_LOG_HEAD_N : Fld := ⟨0x050, 16, 7⟩
abbrev R.FAULT_LOG (j : Nat) : Nat := 0x054 + 4 * j
abbrev R.FAULT_LOG_POP : Nat := 0x064
abbrev R.FAULT_LOG_LOST : Nat := 0x068
abbrev F.FAULT_LOG_LOST_CLR : Fld := ⟨0x068, 31, 1⟩
abbrev R.FAULT_SNAP_LO : Nat := 0x06C
abbrev R.FAULT_SNAP_HI : Nat := 0x070
abbrev R.FAULT_GRP_LO (j : Nat) : Nat := 0x080 + 8 * j
abbrev R.FAULT_GRP_HI (j : Nat) : Nat := 0x084 + 8 * j
abbrev R.FAULT_REACT (j : Nat) : Nat := 0x100 + 4 * j
abbrev F.FAULT_REACT_GROUP (j : Nat) : Fld := ⟨0x100 + 4 * j, 24, 3⟩
abbrev F.FAULT_REACT_FATAL_ACT (j : Nat) : Fld := ⟨0x100 + 4 * j, 8, 3⟩
abbrev F.FAULT_REACT_CONT_ACT (j : Nat) : Fld := ⟨0x100 + 4 * j, 4, 3⟩
abbrev F.FAULT_REACT_CORR_ACT (j : Nat) : Fld := ⟨0x100 + 4 * j, 0, 3⟩
abbrev R.FAULT_PR_SUBJ_LO : Nat := 0x1C0
abbrev R.FAULT_PR_SUBJ_HI : Nat := 0x1C4
abbrev R.FAULT_PR_IN : Nat := 0x1C8
abbrev F.FAULT_PR_IN_KIND : Fld := ⟨0x1C8, 24, 8⟩
abbrev F.FAULT_PR_IN_CLASS : Fld := ⟨0x1C8, 22, 2⟩
abbrev R.FAULT_PR_HEAD : Nat := 0x1CC
abbrev F.FAULT_PR_HEAD_VALID : Fld := ⟨0x1CC, 31, 1⟩
abbrev F.FAULT_PR_HEAD_N : Fld := ⟨0x1CC, 16, 7⟩
abbrev F.FAULT_PR_HEAD_OPEN : Fld := ⟨0x1CC, 0, 8⟩
abbrev R.FAULT_PR_REC (j : Nat) : Nat := 0x1D0 + 4 * j
abbrev R.FAULT_PR_POP : Nat := 0x1E0
abbrev R.FAULT_PR_DROP : Nat := 0x1E4
abbrev F.FAULT_PR_DROP_CLR : Fld := ⟨0x1E4, 31, 1⟩
abbrev F.FAULT_PR_DROP_BAD : Fld := ⟨0x1E4, 20, 10⟩
abbrev F.FAULT_PR_DROP_FULL : Fld := ⟨0x1E4, 10, 10⟩
abbrev F.FAULT_PR_DROP_RATE : Fld := ⟨0x1E4, 0, 10⟩
/-! Registers and fields of the dom page. -/
abbrev R.DOM_LOCK : Nat := 0x020
abbrev F.DOM_LOCK_LOCK : Fld := ⟨0x020, 0, 1⟩
abbrev R.DOM_HOST : Nat := 0x028
abbrev F.DOM_HOST_DOM : Fld := ⟨0x028, 0, 3⟩
abbrev R.DOM_AXIS (j : Nat) : Nat := 0x030 + 4 * j
abbrev R.DOM_FP (j : Nat) : Nat := 0x050 + 4 * j
abbrev R.DOM_VEC (j : Nat) : Nat := 0x090 + 4 * j
abbrev R.DOM_FAB_SLOT_LO : Nat := 0x0B0
abbrev R.DOM_FAB_SLOT_HI : Nat := 0x0B4
abbrev R.DOM_INS_LO : Nat := 0x0B8
abbrev R.DOM_INS_HI : Nat := 0x0BC
abbrev R.DOM_REF_CNT : Nat := 0x0C0
abbrev F.DOM_REF_CNT_CLR : Fld := ⟨0x0C0, 31, 1⟩
abbrev F.DOM_REF_CNT_COUNT : Fld := ⟨0x0C0, 0, 16⟩
abbrev R.DOM_REF_ADDR : Nat := 0x0C4
abbrev R.DOM_REF_INFO : Nat := 0x0C8
abbrev F.DOM_REF_INFO_VALID : Fld := ⟨0x0C8, 31, 1⟩
abbrev F.DOM_REF_INFO_WRITE : Fld := ⟨0x0C8, 24, 1⟩
abbrev F.DOM_REF_INFO_DOMAIN : Fld := ⟨0x0C8, 16, 3⟩
abbrev F.DOM_REF_INFO_REQ : Fld := ⟨0x0C8, 0, 10⟩
abbrev R.DOM_INS_HELD : Nat := 0x0CC
abbrev F.DOM_INS_HELD_CLR : Fld := ⟨0x0CC, 31, 1⟩
abbrev F.DOM_INS_HELD_COUNT : Fld := ⟨0x0CC, 0, 16⟩
/-! Registers and fields of the pwr page. -/
abbrev R.PWR_CFG : Nat := 0x020
abbrev F.PWR_CFG_RESUME_DLY : Fld := ⟨0x020, 16, 8⟩
abbrev F.PWR_CFG_PFAIL_EN : Fld := ⟨0x020, 4, 1⟩
abbrev F.PWR_CFG_SENSE_EN : Fld := ⟨0x020, 3, 1⟩
abbrev F.PWR_CFG_RESTORE_EN : Fld := ⟨0x020, 2, 1⟩
abbrev F.PWR_CFG_SAVE_EN : Fld := ⟨0x020, 1, 1⟩
abbrev F.PWR_CFG_CHG_EN : Fld := ⟨0x020, 0, 1⟩
abbrev R.PWR_STATUS : Nat := 0x024
abbrev F.PWR_STATUS_RAIL_OK : Fld := ⟨0x024, 8, 5⟩
abbrev F.PWR_STATUS_RECORD : Fld := ⟨0x024, 5, 1⟩
abbrev F.PWR_STATUS_SAVING : Fld := ⟨0x024, 4, 1⟩
abbrev F.PWR_STATUS_PFAIL : Fld := ⟨0x024, 3, 1⟩
abbrev F.PWR_STATUS_SAG : Fld := ⟨0x024, 2, 1⟩
abbrev F.PWR_STATUS_CHARGING : Fld := ⟨0x024, 1, 1⟩
abbrev F.PWR_STATUS_HOLD_OK : Fld := ⟨0x024, 0, 1⟩
abbrev R.PWR_VSENSE : Nat := 0x028
abbrev R.PWR_VHOLD : Nat := 0x02C
abbrev R.PWR_HOLD_CAP : Nat := 0x030
abbrev R.PWR_SAVE_STAT : Nat := 0x034
abbrev F.PWR_SAVE_STAT_RESULT : Fld := ⟨0x034, 28, 4⟩
abbrev R.PWR_SAVE_TICK_LO : Nat := 0x038
abbrev R.PWR_SAVE_TICK_HI : Nat := 0x03C
abbrev R.PWR_REST_STAT : Nat := 0x040
abbrev F.PWR_REST_STAT_RESULT : Fld := ⟨0x040, 28, 4⟩
abbrev R.PWR_SAG_CNT : Nat := 0x044
abbrev F.PWR_SAG_CNT_CLR : Fld := ⟨0x044, 31, 1⟩
abbrev F.PWR_SAG_CNT_COUNT : Fld := ⟨0x044, 0, 16⟩
/-! Registers and fields of the snap page. -/
abbrev R.SNAP_CTRL : Nat := 0x020
abbrev F.SNAP_CTRL_GO : Fld := ⟨0x020, 0, 1⟩
abbrev R.SNAP_CFG : Nat := 0x024
abbrev F.SNAP_CFG_FAULT_EN : Fld := ⟨0x024, 31, 1⟩
abbrev F.SNAP_CFG_TBUS : Fld := ⟨0x024, 8, 4⟩
abbrev F.SNAP_CFG_TRIG_IN : Fld := ⟨0x024, 4, 4⟩
abbrev F.SNAP_CFG_AT_EN : Fld := ⟨0x024, 1, 1⟩
abbrev R.SNAP_AT_LO : Nat := 0x028
abbrev R.SNAP_AT_HI : Nat := 0x02C
abbrev R.SNAP_STATUS : Nat := 0x030
abbrev F.SNAP_STATUS_BUSY : Fld := ⟨0x030, 31, 1⟩
abbrev F.SNAP_STATUS_CAUSE : Fld := ⟨0x030, 24, 3⟩
abbrev F.SNAP_STATUS_SEQ : Fld := ⟨0x030, 0, 16⟩
abbrev R.SNAP_TICK_LO : Nat := 0x034
abbrev R.SNAP_TICK_HI : Nat := 0x038
abbrev R.SNAP_LOST : Nat := 0x03C
abbrev F.SNAP_LOST_CLR : Fld := ⟨0x03C, 31, 1⟩
abbrev R.SNAP_SLATE : Nat := 0x040
abbrev F.SNAP_SLATE_LATE : Fld := ⟨0x040, 8, 8⟩
abbrev F.SNAP_SLATE_MISS : Fld := ⟨0x040, 0, 8⟩
/-! Registers and fields of the trig page. -/
abbrev R.TRIG_IN_CFG (j : Nat) : Nat := 0x020 + 4 * j
abbrev F.TRIG_IN_CFG_GRANT (j : Nat) : Fld := ⟨0x020 + 4 * j, 16, 8⟩
abbrev F.TRIG_IN_CFG_EDGE (j : Nat) : Fld := ⟨0x020 + 4 * j, 1, 2⟩
abbrev F.TRIG_IN_CFG_EN (j : Nat) : Fld := ⟨0x020 + 4 * j, 0, 1⟩
abbrev R.TRIG_IN_HEAD (j : Nat) : Nat := 0x030 + 4 * j
abbrev F.TRIG_IN_HEAD_VALID (j : Nat) : Fld := ⟨0x030 + 4 * j, 31, 1⟩
abbrev F.TRIG_IN_HEAD_N (j : Nat) : Fld := ⟨0x030 + 4 * j, 24, 5⟩
abbrev F.TRIG_IN_HEAD_LEVEL (j : Nat) : Fld := ⟨0x030 + 4 * j, 23, 1⟩
abbrev F.TRIG_IN_HEAD_TAPS (j : Nat) : Fld := ⟨0x030 + 4 * j, 0, 6⟩
abbrev R.TRIG_IN_TICK_LO (j : Nat) : Nat := 0x040 + 8 * j
abbrev R.TRIG_IN_TICK_HI (j : Nat) : Nat := 0x044 + 8 * j
abbrev R.TRIG_IN_POP : Nat := 0x060
abbrev R.TRIG_IN_OVF : Nat := 0x064
abbrev F.TRIG_IN_OVF_CLR : Fld := ⟨0x064, 31, 1⟩
abbrev R.TBUS_CFG (j : Nat) : Nat := 0x080 + 4 * j
abbrev F.TBUS_CFG_DRV_EN (j : Nat) : Fld := ⟨0x080 + 4 * j, 31, 1⟩
abbrev F.TBUS_CFG_RX_EN (j : Nat) : Fld := ⟨0x080 + 4 * j, 30, 1⟩
abbrev F.TBUS_CFG_GRANT (j : Nat) : Fld := ⟨0x080 + 4 * j, 16, 8⟩
abbrev F.TBUS_CFG_WIDTH (j : Nat) : Fld := ⟨0x080 + 4 * j, 8, 8⟩
abbrev F.TBUS_CFG_DRV_SRC (j : Nat) : Fld := ⟨0x080 + 4 * j, 0, 8⟩
abbrev R.TBUS_AT_LO (j : Nat) : Nat := 0x090 + 8 * j
abbrev R.TBUS_AT_HI (j : Nat) : Nat := 0x094 + 8 * j
abbrev R.TBUS_PULSE : Nat := 0x0B0
abbrev R.TBUS_CAL : Nat := 0x0B4
abbrev F.TBUS_CAL_FAIL : Fld := ⟨0x0B4, 8, 4⟩
abbrev F.TBUS_CAL_GO : Fld := ⟨0x0B4, 0, 4⟩
abbrev R.TBUS_LDLY (j : Nat) : Nat := 0x0C0 + 4 * j
abbrev R.TBUS_OFS (j : Nat) : Nat := 0x0D0 + 4 * j
abbrev R.TBUS_HEAD (j : Nat) : Nat := 0x0E0 + 4 * j
abbrev F.TBUS_HEAD_VALID (j : Nat) : Fld := ⟨0x0E0 + 4 * j, 31, 1⟩
abbrev F.TBUS_HEAD_N (j : Nat) : Fld := ⟨0x0E0 + 4 * j, 24, 5⟩
abbrev F.TBUS_HEAD_LEVEL (j : Nat) : Fld := ⟨0x0E0 + 4 * j, 23, 1⟩
abbrev F.TBUS_HEAD_OWN (j : Nat) : Fld := ⟨0x0E0 + 4 * j, 22, 1⟩
abbrev F.TBUS_HEAD_TAPS (j : Nat) : Fld := ⟨0x0E0 + 4 * j, 0, 6⟩
abbrev R.TBUS_TICK_LO (j : Nat) : Nat := 0x0F0 + 8 * j
abbrev R.TBUS_TICK_HI (j : Nat) : Nat := 0x0F4 + 8 * j
abbrev R.TBUS_POP : Nat := 0x110
abbrev R.TBUS_OVF : Nat := 0x114
/-! Registers and fields of the safe page. -/
abbrev R.SAFE_STATUS : Nat := 0x020
abbrev F.SAFE_STATUS_RELEASED : Fld := ⟨0x020, 24, 8⟩
abbrev F.SAFE_STATUS_LATCHED : Fld := ⟨0x020, 16, 8⟩
abbrev F.SAFE_STATUS_FLINT_OK : Fld := ⟨0x020, 4, 1⟩
abbrev F.SAFE_STATUS_CHA_OK : Fld := ⟨0x020, 3, 1⟩
abbrev F.SAFE_STATUS_AGREE : Fld := ⟨0x020, 2, 1⟩
abbrev F.SAFE_STATUS_CFG_OK : Fld := ⟨0x020, 1, 1⟩
abbrev F.SAFE_STATUS_EN : Fld := ⟨0x020, 0, 1⟩
abbrev R.SAFE_CFG_CRC_A : Nat := 0x024
abbrev R.SAFE_CFG_CRC_B : Nat := 0x028
abbrev R.SAFE_CYCLE : Nat := 0x02C
abbrev R.SAFE_REQ : Nat := 0x030
abbrev F.SAFE_REQ_SS1 : Fld := ⟨0x030, 8, 8⟩
abbrev F.SAFE_REQ_STO : Fld := ⟨0x030, 0, 8⟩
abbrev R.SAFE_MISM : Nat := 0x034
abbrev F.SAFE_MISM_ZONE : Fld := ⟨0x034, 24, 8⟩
abbrev F.SAFE_MISM_KIND : Fld := ⟨0x034, 16, 8⟩
abbrev F.SAFE_MISM_CYCLE : Fld := ⟨0x034, 0, 16⟩
abbrev R.SAFE_BRK_REQ_LO : Nat := 0x038
abbrev R.SAFE_BRK_REQ_HI : Nat := 0x03C
abbrev R.SAFE_ZONE (j : Nat) : Nat := 0x040 + 4 * j
abbrev F.SAFE_ZONE_ACTIVE (j : Nat) : Fld := ⟨0x040 + 4 * j, 16, 8⟩
abbrev F.SAFE_ZONE_CAUSE (j : Nat) : Fld := ⟨0x040 + 4 * j, 8, 8⟩
abbrev F.SAFE_ZONE_STATE (j : Nat) : Fld := ⟨0x040 + 4 * j, 0, 4⟩
abbrev R.SAFE_PAIR_DEM_LO : Nat := 0x060
abbrev R.SAFE_PAIR_DEM_HI : Nat := 0x064
abbrev R.SAFE_PAIR_FLT_LO : Nat := 0x068
abbrev R.SAFE_PAIR_FLT_HI : Nat := 0x06C
abbrev R.SAFE_ETYPE : Nat := 0x070
abbrev F.SAFE_ETYPE_SAFE_ETYPE : Fld := ⟨0x070, 0, 16⟩
abbrev R.SAFE_DSC_STAT (j : Nat) : Nat := 0x080 + 4 * j
abbrev F.SAFE_DSC_STAT_STATE (j : Nat) : Fld := ⟨0x080 + 4 * j, 28, 4⟩
abbrev F.SAFE_DSC_STAT_VER (j : Nat) : Fld := ⟨0x080 + 4 * j, 24, 4⟩
abbrev F.SAFE_DSC_STAT_SEQ_RX (j : Nat) : Fld := ⟨0x080 + 4 * j, 0, 16⟩
abbrev R.SAFE_DSC_CNT_A (j : Nat) : Nat := 0x100 + 8 * j
abbrev F.SAFE_DSC_CNT_A_CLR (j : Nat) : Fld := ⟨0x100 + 8 * j, 31, 1⟩
abbrev F.SAFE_DSC_CNT_A_FORMAT (j : Nat) : Fld := ⟨0x100 + 8 * j, 16, 15⟩
abbrev R.SAFE_DSC_CNT_B (j : Nat) : Nat := 0x104 + 8 * j
abbrev F.SAFE_DSC_CNT_B_CLR (j : Nat) : Fld := ⟨0x104 + 8 * j, 31, 1⟩
abbrev F.SAFE_DSC_CNT_B_TPC_DIFF (j : Nat) : Fld := ⟨0x104 + 8 * j, 16, 15⟩
abbrev F.SAFE_DSC_CNT_B_SEQ (j : Nat) : Fld := ⟨0x104 + 8 * j, 0, 16⟩
/-! Registers and fields of the amber page. -/
abbrev R.AMBER_CMD : Nat := 0x020
abbrev F.AMBER_CMD_GO : Fld := ⟨0x020, 31, 1⟩
abbrev F.AMBER_CMD_OP : Fld := ⟨0x020, 24, 4⟩
abbrev F.AMBER_CMD_TRIAL : Fld := ⟨0x020, 9, 1⟩
abbrev F.AMBER_CMD_SLOT : Fld := ⟨0x020, 8, 1⟩
abbrev F.AMBER_CMD_KEY : Fld := ⟨0x020, 4, 2⟩
abbrev R.AMBER_STATUS : Nat := 0x024
abbrev F.AMBER_STATUS_RESULT : Fld := ⟨0x024, 28, 4⟩
abbrev F.AMBER_STATUS_FELL_BACK : Fld := ⟨0x024, 20, 1⟩
abbrev F.AMBER_STATUS_TRIAL : Fld := ⟨0x024, 19, 1⟩
abbrev F.AMBER_STATUS_ACTIVE : Fld := ⟨0x024, 18, 1⟩
abbrev F.AMBER_STATUS_VALID : Fld := ⟨0x024, 16, 2⟩
abbrev F.AMBER_STATUS_FLOOR : Fld := ⟨0x024, 8, 6⟩
abbrev F.AMBER_STATUS_REVOKED : Fld := ⟨0x024, 4, 4⟩
abbrev F.AMBER_STATUS_KEYS : Fld := ⟨0x024, 0, 4⟩
abbrev R.AMBER_SRC_LO : Nat := 0x028
abbrev R.AMBER_SRC_HI : Nat := 0x02C
abbrev F.AMBER_SRC_HI_HOST : Fld := ⟨0x02C, 31, 1⟩
abbrev R.AMBER_DST : Nat := 0x030
abbrev R.AMBER_LEN : Nat := 0x034
abbrev R.AMBER_SVN_A : Nat := 0x038
abbrev F.AMBER_SVN_A_SVN : Fld := ⟨0x038, 0, 6⟩
abbrev R.AMBER_SVN_B : Nat := 0x03C
abbrev R.AMBER_TRIAL : Nat := 0x040
abbrev F.AMBER_TRIAL_TRIAL_TMO : Fld := ⟨0x040, 0, 12⟩
abbrev R.AMBER_TRIAL_LEFT : Nat := 0x044
abbrev R.AMBER_CE : Nat := 0x048
abbrev F.AMBER_CE_CLR : Fld := ⟨0x048, 31, 1⟩
abbrev F.AMBER_CE_COUNT : Fld := ⟨0x048, 0, 16⟩
abbrev R.AMBER_UE_ADDR : Nat := 0x04C
abbrev F.AMBER_UE_ADDR_VALID : Fld := ⟨0x04C, 31, 1⟩
abbrev R.AMBER_KEY_HASH (j : Nat) : Nat := 0x060 + 4 * j
/-! Registers and fields of the host page. -/
abbrev R.HOST_STATUS : Nat := 0x020
abbrev F.HOST_STATUS_LINK_UP : Fld := ⟨0x020, 31, 1⟩
abbrev F.HOST_STATUS_WIDTH : Fld := ⟨0x020, 16, 4⟩
abbrev F.HOST_STATUS_SPEED : Fld := ⟨0x020, 8, 4⟩
abbrev F.HOST_STATUS_FLR : Fld := ⟨0x020, 4, 1⟩
abbrev F.HOST_STATUS_FMASK : Fld := ⟨0x020, 2, 1⟩
abbrev F.HOST_STATUS_MSIX_EN : Fld := ⟨0x020, 1, 1⟩
abbrev F.HOST_STATUS_BME : Fld := ⟨0x020, 0, 1⟩
abbrev R.HOST_ID : Nat := 0x024
abbrev R.HOST_CFG : Nat := 0x028
abbrev F.HOST_CFG_DMA_TMO : Fld := ⟨0x028, 0, 16⟩
abbrev R.HOST_WIN_LO (j : Nat) : Nat := 0x030 + 16 * j
abbrev R.HOST_WIN_HI (j : Nat) : Nat := 0x034 + 16 * j
abbrev R.HOST_WIN_SIZE (j : Nat) : Nat := 0x038 + 16 * j
abbrev R.HOST_ERR_ADDR : Nat := 0x0B0
abbrev R.HOST_ERR_INFO : Nat := 0x0B4
abbrev F.HOST_ERR_INFO_VALID : Fld := ⟨0x0B4, 31, 1⟩
abbrev F.HOST_ERR_INFO_KIND : Fld := ⟨0x0B4, 26, 4⟩
abbrev F.HOST_ERR_INFO_WRITE : Fld := ⟨0x0B4, 24, 1⟩
abbrev F.HOST_ERR_INFO_DOMAIN : Fld := ⟨0x0B4, 16, 3⟩
abbrev F.HOST_ERR_INFO_REQ : Fld := ⟨0x0B4, 0, 10⟩
abbrev R.HOST_ERR_CNT : Nat := 0x0B8
abbrev F.HOST_ERR_CNT_CLR : Fld := ⟨0x0B8, 31, 1⟩
abbrev F.HOST_ERR_CNT_COUNT : Fld := ⟨0x0B8, 0, 16⟩
abbrev R.HOST_MGMT_CTRL : Nat := 0x0C0
abbrev F.HOST_MGMT_CTRL_EN : Fld := ⟨0x0C0, 31, 1⟩
abbrev F.HOST_MGMT_CTRL_ETYPE : Fld := ⟨0x0C0, 0, 16⟩
abbrev R.HOST_MGMT_PEER_LO : Nat := 0x0C4
abbrev R.HOST_MGMT_PEER_HI : Nat := 0x0C8
abbrev R.HOST_MGMT_SEQ : Nat := 0x0CC
abbrev R.HOST_MGMT_EPOCH : Nat := 0x0D0
abbrev R.HOST_MGMT_CNT : Nat := 0x0D4
abbrev F.HOST_MGMT_CNT_CLR : Fld := ⟨0x0D4, 31, 1⟩
abbrev F.HOST_MGMT_CNT_AUTH : Fld := ⟨0x0D4, 20, 10⟩
abbrev F.HOST_MGMT_CNT_SEQ : Fld := ⟨0x0D4, 10, 10⟩
abbrev F.HOST_MGMT_CNT_DUP : Fld := ⟨0x0D4, 0, 10⟩
abbrev R.HOST_MGMT_KEY (j : Nat) : Nat := 0x0E0 + 4 * j
abbrev R.HOST_MSIX_PBA_LO : Nat := 0x3F0
abbrev R.HOST_MSIX_PBA_HI : Nat := 0x3F4
abbrev R.HOST_MSIX_ADDR_LO (j : Nat) : Nat := 0x400 + 16 * j
abbrev R.HOST_MSIX_ADDR_HI (j : Nat) : Nat := 0x404 + 16 * j
abbrev R.HOST_MSIX_DATA (j : Nat) : Nat := 0x408 + 16 * j
abbrev R.HOST_MSIX_CTRL (j : Nat) : Nat := 0x40C + 16 * j
abbrev F.HOST_MSIX_CTRL_MASK (j : Nat) : Fld := ⟨0x40C + 16 * j, 0, 1⟩
/-! Registers and fields of the loop page. -/
abbrev R.LOOP_CTRL : Nat := 0x020
abbrev F.LOOP_CTRL_APPLY : Fld := ⟨0x020, 8, 1⟩
abbrev F.LOOP_CTRL_HOLD : Fld := ⟨0x020, 1, 1⟩
abbrev F.LOOP_CTRL_RUN : Fld := ⟨0x020, 0, 1⟩
abbrev R.LOOP_STATUS : Nat := 0x024
abbrev F.LOOP_STATUS_WBUF : Fld := ⟨0x024, 8, 8⟩
abbrev F.LOOP_STATUS_POS_HELD : Fld := ⟨0x024, 4, 1⟩
abbrev F.LOOP_STATUS_BASIC : Fld := ⟨0x024, 3, 1⟩
abbrev F.LOOP_STATUS_APPLY_PEND : Fld := ⟨0x024, 2, 1⟩
abbrev F.LOOP_STATUS_EVAL : Fld := ⟨0x024, 1, 1⟩
abbrev F.LOOP_STATUS_RUNNING : Fld := ⟨0x024, 0, 1⟩
abbrev R.LOOP_GRAPH : Nat := 0x028
abbrev F.LOOP_GRAPH_COUNT : Fld := ⟨0x028, 16, 8⟩
abbrev F.LOOP_GRAPH_FIRST : Fld := ⟨0x028, 0, 7⟩
abbrev R.LOOP_GRAPH_NOW : Nat := 0x02C
abbrev F.LOOP_GRAPH_NOW_COUNT : Fld := ⟨0x02C, 16, 8⟩
abbrev F.LOOP_GRAPH_NOW_FIRST : Fld := ⟨0x02C, 0, 7⟩
abbrev R.LOOP_RATE : Nat := 0x030
abbrev F.LOOP_RATE_KP : Fld := ⟨0x030, 8, 4⟩
abbrev F.LOOP_RATE_KV : Fld := ⟨0x030, 0, 4⟩
abbrev R.LOOP_ANG_CFG : Nat := 0x034
abbrev F.LOOP_ANG_CFG_INTERP : Fld := ⟨0x034, 4, 1⟩
abbrev F.LOOP_ANG_CFG_SRC : Fld := ⟨0x034, 0, 2⟩
abbrev R.LOOP_K_ANG : Nat := 0x038
abbrev R.LOOP_ANG_OFS : Nat := 0x03C
abbrev R.LOOP_HALL_ANG01 : Nat := 0x040
abbrev F.LOOP_HALL_ANG01_HALL_ANG : Fld := ⟨0x040, 16, 16⟩
abbrev R.LOOP_HALL_ANG23 : Nat := 0x044
abbrev R.LOOP_HALL_ANG45 : Nat := 0x048
abbrev R.LOOP_K_INT : Nat := 0x04C
abbrev R.LOOP_SPD_K : Nat := 0x050
abbrev R.LOOP_POS_K : Nat := 0x054
abbrev R.LOOP_SHIFT : Nat := 0x058
abbrev F.LOOP_SHIFT_POS_SH : Fld := ⟨0x058, 8, 6⟩
abbrev F.LOOP_SHIFT_SPD_SH : Fld := ⟨0x058, 0, 6⟩
abbrev R.LOOP_CMP_SCALE : Nat := 0x05C
abbrev R.LOOP_SPEED : Nat := 0x060
abbrev R.LOOP_POS_LO : Nat := 0x064
abbrev R.LOOP_POS_HI : Nat := 0x068
abbrev R.LOOP_FG_TIME : Nat := 0x06C
abbrev F.LOOP_FG_TIME_FG_MAX : Fld := ⟨0x06C, 16, 16⟩
abbrev F.LOOP_FG_TIME_FG_LAST : Fld := ⟨0x06C, 0, 16⟩
abbrev R.LOOP_EVAL_CNT : Nat := 0x070
abbrev R.LOOP_ECALL_CNT : Nat := 0x074
abbrev F.LOOP_ECALL_CNT_CLR : Fld := ⟨0x074, 31, 1⟩
abbrev F.LOOP_ECALL_CNT_LATE : Fld := ⟨0x074, 16, 8⟩
abbrev F.LOOP_ECALL_CNT_TMO : Fld := ⟨0x074, 0, 16⟩
abbrev R.LOOP_REJECT : Nat := 0x078
abbrev F.LOOP_REJECT_REASON : Fld := ⟨0x078, 24, 8⟩
abbrev R.LOOP_LAG : Nat := 0x07C
abbrev F.LOOP_LAG_PEAK : Fld := ⟨0x07C, 16, 16⟩
abbrev F.LOOP_LAG_LAG : Fld := ⟨0x07C, 0, 16⟩
abbrev R.LOOP_SIG (j : Nat) : Nat := 0x400 + 4 * j
/-! Registers and fields of the profile page. -/
abbrev R.PRF_CTRL : Nat := 0x020
abbrev F.PRF_CTRL_PATH : Fld := ⟨0x020, 8, 2⟩
abbrev F.PRF_CTRL_REL : Fld := ⟨0x020, 0, 1⟩
abbrev R.PRF_CMD : Nat := 0x024
abbrev F.PRF_CMD_PATH : Fld := ⟨0x024, 4, 1⟩
abbrev F.PRF_CMD_STOP : Fld := ⟨0x024, 3, 1⟩
abbrev F.PRF_CMD_GEAR : Fld := ⟨0x024, 2, 1⟩
abbrev F.PRF_CMD_VEL : Fld := ⟨0x024, 1, 1⟩
abbrev F.PRF_CMD_MOVE : Fld := ⟨0x024, 0, 1⟩
abbrev R.PRF_STATUS : Nat := 0x028
abbrev F.PRF_STATUS_LAST_REJ : Fld := ⟨0x028, 16, 4⟩
abbrev F.PRF_STATUS_STOP_WHY : Fld := ⟨0x028, 8, 3⟩
abbrev F.PRF_STATUS_HOLD : Fld := ⟨0x028, 5, 1⟩
abbrev F.PRF_STATUS_AT_TARGET : Fld := ⟨0x028, 4, 1⟩
abbrev F.PRF_STATUS_STATE : Fld := ⟨0x028, 0, 3⟩
abbrev R.PRF_TARGET_LO : Nat := 0x02C
abbrev R.PRF_TARGET_HI : Nat := 0x030
abbrev R.PRF_VEL_TGT : Nat := 0x034
abbrev R.PRF_VMAX : Nat := 0x038
abbrev R.PRF_AMAX : Nat := 0x03C
abbrev R.PRF_DMAX : Nat := 0x040
abbrev R.PRF_JMAX : Nat := 0x044
abbrev R.PRF_STOP_DEC : Nat := 0x048
abbrev R.PRF_STOP_JERK : Nat := 0x04C
abbrev R.PRF_ILIM : Nat := 0x050
abbrev R.PRF_HOLD : Nat := 0x054
abbrev F.PRF_HOLD_FRAC : Fld := ⟨0x054, 24, 8⟩
abbrev F.PRF_HOLD_DLY : Fld := ⟨0x054, 0, 14⟩
abbrev R.PRF_ACC_K : Nat := 0x058
abbrev R.PRF_ACC_SH : Nat := 0x05C
abbrev F.PRF_ACC_SH_ACC_SH : Fld := ⟨0x05C, 0, 6⟩
abbrev R.PRF_LEAD : Nat := 0x060
abbrev R.PRF_SP_LO : Nat := 0x064
abbrev R.PRF_SP_HI : Nat := 0x068
abbrev R.PRF_VEL : Nat := 0x06C
abbrev R.PRF_ACC : Nat := 0x070
abbrev R.PRF_GRP : Nat := 0x074
abbrev F.PRF_GRP_EN : Fld := ⟨0x074, 7, 1⟩
abbrev F.PRF_GRP_MEMBER : Fld := ⟨0x074, 4, 2⟩
abbrev F.PRF_GRP_LEAD : Fld := ⟨0x074, 0, 2⟩
abbrev R.PRF_CENTRE_LO : Nat := 0x078
abbrev R.PRF_CENTRE_HI : Nat := 0x07C
abbrev R.PRF_SWEEP : Nat := 0x080
abbrev R.BR_CTRL : Nat := 0x0A0
abbrev F.BR_CTRL_TRUNK : Fld := ⟨0x0A0, 8, 3⟩
abbrev F.BR_CTRL_INV_ACT : Fld := ⟨0x0A0, 4, 1⟩
abbrev F.BR_CTRL_OFS_MODE : Fld := ⟨0x0A0, 1, 1⟩
abbrev F.BR_CTRL_ABSORB : Fld := ⟨0x0A0, 0, 1⟩
abbrev R.BR_NUM : Nat := 0x0A4
abbrev R.BR_DEN : Nat := 0x0A8
abbrev R.BR_OFS_LO : Nat := 0x0AC
abbrev R.BR_OFS_HI : Nat := 0x0B0
abbrev R.BR_ENG_LEN_LO : Nat := 0x0B4
abbrev R.BR_ENG_LEN_HI : Nat := 0x0B8
abbrev R.BR_STATUS : Nat := 0x0BC
abbrev F.BR_STATUS_LAMBDA : Fld := ⟨0x0BC, 16, 16⟩
abbrev F.BR_STATUS_ENGAGING : Fld := ⟨0x0BC, 1, 1⟩
abbrev F.BR_STATUS_ENGAGED : Fld := ⟨0x0BC, 0, 1⟩
abbrev R.BR_OFS_NOW_LO : Nat := 0x0C0
abbrev R.BR_OFS_NOW_HI : Nat := 0x0C4
abbrev R.BR_NUM_NOW : Nat := 0x0C8
abbrev R.BR_DEN_NOW : Nat := 0x0CC
/-! Registers and fields of the fb page. -/
abbrev R.FB_CTRL : Nat := 0x020
abbrev F.FB_CTRL_HALL_FILT : Fld := ⟨0x020, 20, 8⟩
abbrev F.FB_CTRL_ABZ_FILT : Fld := ⟨0x020, 16, 3⟩
abbrev F.FB_CTRL_IDX_QUAL : Fld := ⟨0x020, 11, 2⟩
abbrev F.FB_CTRL_IDX_MODE : Fld := ⟨0x020, 9, 2⟩
abbrev F.FB_CTRL_IDX_CHK : Fld := ⟨0x020, 8, 1⟩
abbrev F.FB_CTRL_HALL_PERM : Fld := ⟨0x020, 5, 3⟩
abbrev F.FB_CTRL_HALL_EN : Fld := ⟨0x020, 4, 1⟩
abbrev F.FB_CTRL_INV : Fld := ⟨0x020, 3, 1⟩
abbrev F.FB_CTRL_MODE : Fld := ⟨0x020, 0, 3⟩
abbrev R.FB_STATUS : Nat := 0x024
abbrev F.FB_STATUS_HALL : Fld := ⟨0x024, 13, 3⟩
abbrev F.FB_STATUS_FAILRUN : Fld := ⟨0x024, 8, 2⟩
abbrev F.FB_STATUS_SER_BUSY : Fld := ⟨0x024, 7, 1⟩
abbrev F.FB_STATUS_HOMED : Fld := ⟨0x024, 6, 1⟩
abbrev F.FB_STATUS_WRAP_FOLD : Fld := ⟨0x024, 5, 1⟩
abbrev F.FB_STATUS_WRAP_PEND : Fld := ⟨0x024, 4, 1⟩
abbrev F.FB_STATUS_DIR : Fld := ⟨0x024, 2, 1⟩
abbrev F.FB_STATUS_STILL : Fld := ⟨0x024, 1, 1⟩
abbrev F.FB_STATUS_VALID : Fld := ⟨0x024, 0, 1⟩
abbrev R.FB_POS : Nat := 0x028
abbrev R.FB_TURN : Nat := 0x02C
abbrev R.FB_LAST_TICK : Nat := 0x030
abbrev R.FB_LAST_INT : Nat := 0x034
abbrev R.FB_WRAP : Nat := 0x038
abbrev F.FB_WRAP_NOW : Fld := ⟨0x038, 31, 1⟩
abbrev F.FB_WRAP_WM1 : Fld := ⟨0x038, 0, 31⟩
abbrev R.FB_PRESET_POS : Nat := 0x040
abbrev R.FB_PRESET_TURN : Nat := 0x044
abbrev R.FB_CMD : Nat := 0x048
abbrev F.FB_CMD_PRESET : Fld := ⟨0x048, 0, 1⟩
abbrev R.FB_IDX_POS : Nat := 0x04C
abbrev R.FB_IDX_TURN : Nat := 0x050
abbrev R.FB_SPD_CFG : Nat := 0x054
abbrev F.FB_SPD_CFG_STILL_TMO : Fld := ⟨0x054, 8, 24⟩
abbrev F.FB_SPD_CFG_DIV : Fld := ⟨0x054, 0, 8⟩
abbrev R.FB_SER_CFG : Nat := 0x058
abbrev F.FB_SER_CFG_DIV : Fld := ⟨0x058, 24, 4⟩
abbrev F.FB_SER_CFG_ERRBITS : Fld := ⟨0x058, 21, 1⟩
abbrev F.FB_SER_CFG_CRC6 : Fld := ⟨0x058, 20, 1⟩
abbrev F.FB_SER_CFG_DOUBLE : Fld := ⟨0x058, 19, 1⟩
abbrev F.FB_SER_CFG_PARITY_ODD : Fld := ⟨0x058, 18, 1⟩
abbrev F.FB_SER_CFG_PARITY_EN : Fld := ⟨0x058, 17, 1⟩
abbrev F.FB_SER_CFG_GRAY : Fld := ⟨0x058, 16, 1⟩
abbrev F.FB_SER_CFG_MT : Fld := ⟨0x058, 8, 6⟩
abbrev F.FB_SER_CFG_ST : Fld := ⟨0x058, 0, 6⟩
abbrev R.FB_SER_CLK : Nat := 0x05C
abbrev F.FB_SER_CLK_GAP_US : Fld := ⟨0x05C, 16, 8⟩
abbrev F.FB_SER_CLK_CLKDIV : Fld := ⟨0x05C, 0, 11⟩
abbrev R.FB_SER_RAW_LO : Nat := 0x060
abbrev R.FB_SER_RAW_HI : Nat := 0x064
abbrev R.FB_ERR_CNT : Nat := 0x068
abbrev F.FB_ERR_CNT_CLR : Fld := ⟨0x068, 31, 1⟩
abbrev F.FB_ERR_CNT_COUNT : Fld := ⟨0x068, 0, 16⟩
abbrev R.FB_HALL_CNT : Nat := 0x06C
abbrev F.FB_HALL_CNT_CLR : Fld := ⟨0x06C, 31, 1⟩
abbrev F.FB_HALL_CNT_JUMPS : Fld := ⟨0x06C, 16, 8⟩
abbrev F.FB_HALL_CNT_ILLEGAL : Fld := ⟨0x06C, 0, 16⟩
/-! Registers and fields of the pwm page. -/
abbrev R.PWM_CTRL : Nat := 0x020
abbrev F.PWM_CTRL_HB_OFF : Fld := ⟨0x020, 4, 3⟩
abbrev F.PWM_CTRL_TOPO : Fld := ⟨0x020, 1, 1⟩
abbrev F.PWM_CTRL_EN : Fld := ⟨0x020, 0, 1⟩
abbrev R.PWM_PHASE : Nat := 0x024
abbrev R.PWM_DT : Nat := 0x028
abbrev R.PWM_MINON : Nat := 0x02C
abbrev R.PWM_CMP_INIT : Nat := 0x030
abbrev R.PWM_BOOT : Nat := 0x034
abbrev R.PWM_CMP_U : Nat := 0x038
abbrev F.PWM_CMP_U_TAG : Fld := ⟨0x038, 24, 8⟩
abbrev F.PWM_CMP_U_VAL : Fld := ⟨0x038, 0, 24⟩
abbrev R.PWM_CMP_V : Nat := 0x03C
abbrev F.PWM_CMP_V_TAG : Fld := ⟨0x03C, 24, 8⟩
abbrev F.PWM_CMP_V_VAL : Fld := ⟨0x03C, 0, 24⟩
abbrev R.PWM_CMP_W : Nat := 0x040
abbrev F.PWM_CMP_W_TAG : Fld := ⟨0x040, 24, 8⟩
abbrev F.PWM_CMP_W_VAL : Fld := ⟨0x040, 0, 24⟩
abbrev R.PWM_STATUS : Nat := 0x044
abbrev F.PWM_STATUS_PHASE_BAD : Fld := ⟨0x044, 7, 1⟩
abbrev F.PWM_STATUS_CAL_FALLBACK : Fld := ⟨0x044, 6, 1⟩
abbrev F.PWM_STATUS_PERMIT : Fld := ⟨0x044, 5, 1⟩
abbrev F.PWM_STATUS_TRIPPED : Fld := ⟨0x044, 4, 1⟩
abbrev F.PWM_STATUS_LATCHED : Fld := ⟨0x044, 3, 1⟩
abbrev F.PWM_STATUS_PHASE_PEND : Fld := ⟨0x044, 2, 1⟩
abbrev F.PWM_STATUS_BOOTING : Fld := ⟨0x044, 1, 1⟩
abbrev F.PWM_STATUS_ACTIVE : Fld := ⟨0x044, 0, 1⟩
abbrev R.PWM_LATE_CNT : Nat := 0x048
abbrev F.PWM_LATE_CNT_CLR : Fld := ⟨0x048, 31, 1⟩
abbrev F.PWM_LATE_CNT_LAST_TAG : Fld := ⟨0x048, 16, 8⟩
abbrev F.PWM_LATE_CNT_COUNT : Fld := ⟨0x048, 0, 16⟩
abbrev R.PWM_TRIP_CFG : Nat := 0x04C
abbrev F.PWM_TRIP_CFG_FILT : Fld := ⟨0x04C, 28, 4⟩
abbrev F.PWM_TRIP_CFG_EXT_TMR : Fld := ⟨0x04C, 20, 4⟩
abbrev F.PWM_TRIP_CFG_OCP_TMR : Fld := ⟨0x04C, 16, 4⟩
abbrev F.PWM_TRIP_CFG_DESAT_TMR : Fld := ⟨0x04C, 12, 4⟩
abbrev F.PWM_TRIP_CFG_EXT_PT : Fld := ⟨0x04C, 8, 4⟩
abbrev F.PWM_TRIP_CFG_EXT_BLANK : Fld := ⟨0x04C, 6, 1⟩
abbrev F.PWM_TRIP_CFG_OCP_BLANK : Fld := ⟨0x04C, 5, 1⟩
abbrev F.PWM_TRIP_CFG_DESAT_BLANK : Fld := ⟨0x04C, 4, 1⟩
abbrev F.PWM_TRIP_CFG_EXT_POL : Fld := ⟨0x04C, 3, 1⟩
abbrev F.PWM_TRIP_CFG_EXT_EN : Fld := ⟨0x04C, 2, 1⟩
abbrev F.PWM_TRIP_CFG_OCP_EN : Fld := ⟨0x04C, 1, 1⟩
abbrev F.PWM_TRIP_CFG_DESAT_EN : Fld := ⟨0x04C, 0, 1⟩
abbrev R.PWM_TRIP_N : Nat := 0x050
abbrev R.PWM_TRIP_STAT : Nat := 0x054
abbrev F.PWM_TRIP_STAT_CONSEC : Fld := ⟨0x054, 16, 8⟩
abbrev F.PWM_TRIP_STAT_LAST_SRC : Fld := ⟨0x054, 8, 3⟩
abbrev F.PWM_TRIP_STAT_LATCH : Fld := ⟨0x054, 0, 1⟩
abbrev R.PWM_TRIP_TOTAL : Nat := 0x058
abbrev F.PWM_TRIP_TOTAL_CLR : Fld := ⟨0x058, 31, 1⟩
abbrev F.PWM_TRIP_TOTAL_COUNT : Fld := ⟨0x058, 0, 16⟩
/-! Registers and fields of the link page. -/
abbrev R.LINK_CTRL : Nat := 0x020
abbrev F.LINK_CTRL_TMO_US : Fld := ⟨0x020, 8, 8⟩
abbrev F.LINK_CTRL_FORCE_SAFE : Fld := ⟨0x020, 2, 1⟩
abbrev F.LINK_CTRL_RELEASE : Fld := ⟨0x020, 1, 1⟩
abbrev R.LINK_STATUS : Nat := 0x024
abbrev F.LINK_STATUS_SAFE_WHY : Fld := ⟨0x024, 8, 3⟩
abbrev F.LINK_STATUS_RESET_SEEN : Fld := ⟨0x024, 7, 1⟩
abbrev F.LINK_STATUS_REPLAY_DONE : Fld := ⟨0x024, 6, 1⟩
abbrev F.LINK_STATUS_SB_UP : Fld := ⟨0x024, 5, 1⟩
abbrev F.LINK_STATUS_GS_ON : Fld := ⟨0x024, 4, 1⟩
abbrev F.LINK_STATUS_SAFE_CMD : Fld := ⟨0x024, 3, 1⟩
abbrev F.LINK_STATUS_SAFE : Fld := ⟨0x024, 2, 1⟩
abbrev F.LINK_STATUS_DN_UP : Fld := ⟨0x024, 1, 1⟩
abbrev F.LINK_STATUS_UP_UP : Fld := ⟨0x024, 0, 1⟩
abbrev R.LINK_BAD_DN : Nat := 0x028
abbrev R.LINK_BAD_UP : Nat := 0x02C
abbrev R.LINK_DOWN_CNT : Nat := 0x030
abbrev F.LINK_DOWN_CNT_DN : Fld := ⟨0x030, 16, 16⟩
abbrev F.LINK_DOWN_CNT_UP : Fld := ⟨0x030, 0, 16⟩
abbrev R.LINK_SEQ_GAP : Nat := 0x034
abbrev R.LINK_SPILL : Nat := 0x038
abbrev F.LINK_SPILL_CMP : Fld := ⟨0x038, 16, 16⟩
abbrev F.LINK_SPILL_SMP : Fld := ⟨0x038, 0, 16⟩
abbrev R.LINK_EVT : Nat := 0x03C
abbrev F.LINK_EVT_LATE : Fld := ⟨0x03C, 16, 16⟩
abbrev F.LINK_EVT_OVF : Fld := ⟨0x03C, 0, 16⟩
abbrev R.LINK_RTT : Nat := 0x040
abbrev R.LINK_SILENCE_MAX : Nat := 0x044
abbrev R.LINK_SB_BAD : Nat := 0x048
abbrev R.LINK_REC_BAD : Nat := 0x04C
abbrev F.LINK_REC_BAD_SLATE : Fld := ⟨0x04C, 16, 16⟩
abbrev F.LINK_REC_BAD_GRANITE : Fld := ⟨0x04C, 0, 16⟩
/-! Registers and fields of the carrier page. -/
abbrev R.CARRIER_CTRL : Nat := 0x020
abbrev F.CARRIER_CTRL_AT_EPOCH : Fld := ⟨0x020, 1, 1⟩
abbrev F.CARRIER_CTRL_RUN : Fld := ⟨0x020, 0, 1⟩
abbrev R.CARRIER_PERIOD : Nat := 0x024
abbrev R.CARRIER_MODE : Nat := 0x028
abbrev F.CARRIER_MODE_DOUBLE : Fld := ⟨0x028, 0, 1⟩
abbrev R.CARRIER_APPLY : Nat := 0x02C
abbrev F.CARRIER_APPLY_AT_TICK : Fld := ⟨0x02C, 1, 1⟩
abbrev F.CARRIER_APPLY_GO : Fld := ⟨0x02C, 0, 1⟩
abbrev R.CARRIER_APPLY_TICK_LO : Nat := 0x030
abbrev R.CARRIER_APPLY_TICK_HI : Nat := 0x034
abbrev R.CARRIER_EPOCH_LO : Nat := 0x038
abbrev R.CARRIER_EPOCH_HI : Nat := 0x03C
abbrev R.CARRIER_PERIOD_NOW : Nat := 0x040
abbrev R.CARRIER_STATUS : Nat := 0x044
abbrev F.CARRIER_STATUS_CAL_DONE : Fld := ⟨0x044, 3, 1⟩
abbrev F.CARRIER_STATUS_APPLY_PEND : Fld := ⟨0x044, 2, 1⟩
abbrev F.CARRIER_STATUS_DOUBLE_NOW : Fld := ⟨0x044, 1, 1⟩
abbrev F.CARRIER_STATUS_RUNNING : Fld := ⟨0x044, 0, 1⟩
abbrev R.CARRIER_APPLY_STAT : Nat := 0x048
abbrev F.CARRIER_APPLY_STAT_REJECT : Fld := ⟨0x048, 2, 1⟩
abbrev F.CARRIER_APPLY_STAT_LATE : Fld := ⟨0x048, 1, 1⟩
abbrev F.CARRIER_APPLY_STAT_DONE : Fld := ⟨0x048, 0, 1⟩
abbrev R.CARRIER_EDGE_CNT : Nat := 0x04C
abbrev R.CARRIER_CAL_FAIL_LO : Nat := 0x050
abbrev R.CARRIER_CAL_FAIL_HI : Nat := 0x054
/-! Registers and fields of the gate page. -/
abbrev R.GATE_STATUS : Nat := 0x020
abbrev F.GATE_STATUS_OT_SHUT : Fld := ⟨0x020, 3, 1⟩
abbrev F.GATE_STATUS_VGD_UV : Fld := ⟨0x020, 2, 1⟩
abbrev F.GATE_STATUS_XHOLD : Fld := ⟨0x020, 1, 1⟩
abbrev F.GATE_STATUS_GS_ON : Fld := ⟨0x020, 0, 1⟩
abbrev R.GATE_BST_STAT : Nat := 0x024
abbrev R.GATE_DESAT_LO : Nat := 0x028
abbrev R.GATE_DESAT_HI : Nat := 0x02C
abbrev R.GATE_XCNT : Nat := 0x030
abbrev F.GATE_XCNT_CLR : Fld := ⟨0x030, 31, 1⟩
abbrev F.GATE_XCNT_LAST_HB : Fld := ⟨0x030, 16, 5⟩
abbrev F.GATE_XCNT_COUNT : Fld := ⟨0x030, 0, 16⟩
abbrev R.GATE_GLOCK_CNT : Nat := 0x034
abbrev F.GATE_GLOCK_CNT_CLR : Fld := ⟨0x034, 31, 1⟩
abbrev F.GATE_GLOCK_CNT_LAST_OUT : Fld := ⟨0x034, 16, 6⟩
abbrev F.GATE_GLOCK_CNT_COUNT : Fld := ⟨0x034, 0, 16⟩
abbrev R.GATE_TMO_CNT : Nat := 0x038
abbrev F.GATE_TMO_CNT_CLR : Fld := ⟨0x038, 31, 1⟩
abbrev F.GATE_TMO_CNT_LAST_OUT : Fld := ⟨0x038, 16, 6⟩
abbrev F.GATE_TMO_CNT_COUNT : Fld := ⟨0x038, 0, 16⟩
abbrev R.GATE_PROF (j : Nat) : Nat := 0x040 + 8 * j
abbrev F.GATE_PROF_TON_MAX (j : Nat) : Fld := ⟨0x040 + 8 * j, 24, 8⟩
abbrev F.GATE_PROF_VHOLD (j : Nat) : Fld := ⟨0x040 + 8 * j, 16, 5⟩
abbrev F.GATE_PROF_ISLOPE (j : Nat) : Fld := ⟨0x040 + 8 * j, 12, 4⟩
abbrev F.GATE_PROF_IPRE (j : Nat) : Fld := ⟨0x040 + 8 * j, 8, 2⟩
abbrev F.GATE_PROF_VPRE (j : Nat) : Fld := ⟨0x040 + 8 * j, 0, 5⟩
abbrev R.GATE_PROT (j : Nat) : Nat := 0x044 + 8 * j
abbrev F.GATE_PROT_DSEN (j : Nat) : Fld := ⟨0x044 + 8 * j, 8, 1⟩
abbrev F.GATE_PROT_DESAT_TH (j : Nat) : Fld := ⟨0x044 + 8 * j, 0, 4⟩
abbrev R.GATE_CHOP_PROF : Nat := 0x080
abbrev R.GATE_CHOP_PROT : Nat := 0x084
/-! Registers and fields of the adc page. -/
abbrev R.ADC_CAL : Nat := 0x020
abbrev F.ADC_CAL_REFUSED : Fld := ⟨0x020, 16, 8⟩
abbrev F.ADC_CAL_GO : Fld := ⟨0x020, 0, 8⟩
abbrev R.ADC_VBUS : Nat := 0x024
abbrev R.ADC_VGD : Nat := 0x028
abbrev F.ADC_VGD_VGD : Fld := ⟨0x028, 0, 16⟩
abbrev R.ADC_VFIELD : Nat := 0x02C
abbrev F.ADC_VFIELD_VFIELD : Fld := ⟨0x02C, 0, 16⟩
abbrev R.ADC_TEMP : Nat := 0x030
abbrev R.ADC_AIN : Nat := 0x034
abbrev F.ADC_AIN_AIN1 : Fld := ⟨0x034, 16, 16⟩
abbrev F.ADC_AIN_AIN0 : Fld := ⟨0x034, 0, 16⟩
abbrev R.ADC_VBUS_LIM : Nat := 0x038
abbrev F.ADC_VBUS_LIM_VHI : Fld := ⟨0x038, 16, 16⟩
abbrev F.ADC_VBUS_LIM_VLO : Fld := ⟨0x038, 0, 16⟩
abbrev R.ADC_TEMP_WARN : Nat := 0x03C
abbrev R.ADC_ISUM_LIM : Nat := 0x040
abbrev R.ADC_RANGE_STAT : Nat := 0x044
abbrev F.ADC_RANGE_STAT_ISUM : Fld := ⟨0x044, 16, 8⟩
abbrev F.ADC_RANGE_STAT_VBUS_HI : Fld := ⟨0x044, 9, 1⟩
abbrev F.ADC_RANGE_STAT_VBUS_LO : Fld := ⟨0x044, 8, 1⟩
abbrev F.ADC_RANGE_STAT_CUR : Fld := ⟨0x044, 0, 8⟩
abbrev R.ADC_RANGE_CNT : Nat := 0x048
abbrev F.ADC_RANGE_CNT_CLR : Fld := ⟨0x048, 31, 1⟩
abbrev F.ADC_RANGE_CNT_COUNT : Fld := ⟨0x048, 0, 16⟩
abbrev R.ADC_CHOP_OCP : Nat := 0x04C
abbrev R.ADC_AXCFG (j : Nat) : Nat := 0x080 + 16 * j
abbrev F.ADC_AXCFG_OCP_TH (j : Nat) : Fld := ⟨0x080 + 16 * j, 16, 12⟩
abbrev F.ADC_AXCFG_INV (j : Nat) : Fld := ⟨0x080 + 16 * j, 2, 1⟩
abbrev F.ADC_AXCFG_GAIN (j : Nat) : Fld := ⟨0x080 + 16 * j, 0, 2⟩
abbrev R.ADC_ILIM (j : Nat) : Nat := 0x084 + 16 * j
abbrev F.ADC_ILIM_ILIM (j : Nat) : Fld := ⟨0x084 + 16 * j, 0, 16⟩
abbrev R.ADC_OFS_UV (j : Nat) : Nat := 0x088 + 16 * j
abbrev F.ADC_OFS_UV_OFS_V (j : Nat) : Fld := ⟨0x088 + 16 * j, 16, 16⟩
abbrev F.ADC_OFS_UV_OFS_U (j : Nat) : Fld := ⟨0x088 + 16 * j, 0, 16⟩
abbrev R.ADC_OFS_W (j : Nat) : Nat := 0x08C + 16 * j
abbrev F.ADC_OFS_W_OFS_W (j : Nat) : Fld := ⟨0x08C + 16 * j, 0, 16⟩
/-! Registers and fields of the fio page. -/
abbrev R.FIO_IN : Nat := 0x020
abbrev R.FIO_OUT : Nat := 0x024
abbrev R.FIO_DIAG_A : Nat := 0x028
abbrev F.FIO_DIAG_A_OPEN : Fld := ⟨0x028, 16, 16⟩
abbrev F.FIO_DIAG_A_SHORT : Fld := ⟨0x028, 0, 16⟩
abbrev R.FIO_DIAG_B : Nat := 0x02C
abbrev F.FIO_DIAG_B_STUCK : Fld := ⟨0x02C, 16, 16⟩
abbrev F.FIO_DIAG_B_MISMATCH : Fld := ⟨0x02C, 0, 16⟩
abbrev R.FIO_RANGE_STAT : Nat := 0x030
abbrev R.FIO_RANGE : Nat := 0x034
abbrev F.FIO_RANGE_HI : Fld := ⟨0x034, 16, 16⟩
abbrev F.FIO_RANGE_LO : Fld := ⟨0x034, 0, 16⟩
abbrev R.FIO_RANGE_CNT : Nat := 0x038
abbrev F.FIO_RANGE_CNT_RCNT : Fld := ⟨0x038, 0, 4⟩
abbrev R.FIO_PULSE : Nat := 0x03C
abbrev F.FIO_PULSE_WINDOW : Fld := ⟨0x03C, 16, 8⟩
abbrev F.FIO_PULSE_PERIOD : Fld := ⟨0x03C, 0, 16⟩
abbrev R.FIO_STATUS : Nat := 0x040
abbrev F.FIO_STATUS_TEST_MASK : Fld := ⟨0x040, 16, 16⟩
abbrev F.FIO_STATUS_PAIR : Fld := ⟨0x040, 8, 8⟩
abbrev F.FIO_STATUS_SAFE : Fld := ⟨0x040, 1, 1⟩
abbrev F.FIO_STATUS_VFIELD_UV : Fld := ⟨0x040, 0, 1⟩
abbrev R.FIO_SCH_CNT : Nat := 0x044
abbrev F.FIO_SCH_CNT_CLR : Fld := ⟨0x044, 31, 1⟩
abbrev F.FIO_SCH_CNT_LATE : Fld := ⟨0x044, 16, 8⟩
abbrev F.FIO_SCH_CNT_DROP : Fld := ⟨0x044, 0, 16⟩
abbrev R.FIO_SCH_PEND : Nat := 0x048
abbrev R.FIO_CFG (j : Nat) : Nat := 0x080 + 8 * j
abbrev F.FIO_CFG_RETRY (j : Nat) : Fld := ⟨0x080 + 8 * j, 28, 3⟩
abbrev F.FIO_CFG_FILT (j : Nat) : Fld := ⟨0x080 + 8 * j, 8, 20⟩
abbrev F.FIO_CFG_RC_EN (j : Nat) : Fld := ⟨0x080 + 8 * j, 6, 1⟩
abbrev F.FIO_CFG_OL_EN (j : Nat) : Fld := ⟨0x080 + 8 * j, 5, 1⟩
abbrev F.FIO_CFG_SAFE_VAL (j : Nat) : Fld := ⟨0x080 + 8 * j, 4, 1⟩
abbrev F.FIO_CFG_PULSED (j : Nat) : Fld := ⟨0x080 + 8 * j, 3, 1⟩
abbrev F.FIO_CFG_TYPE (j : Nat) : Fld := ⟨0x080 + 8 * j, 2, 1⟩
abbrev F.FIO_CFG_MODE (j : Nat) : Fld := ⟨0x080 + 8 * j, 0, 2⟩
abbrev R.FIO_TMO (j : Nat) : Nat := 0x084 + 8 * j
abbrev F.FIO_TMO_LVL (j : Nat) : Fld := ⟨0x084 + 8 * j, 31, 1⟩
abbrev F.FIO_TMO_TMO (j : Nat) : Fld := ⟨0x084 + 8 * j, 0, 16⟩
abbrev R.FIO_VIN (j : Nat) : Nat := 0x100 + 4 * j
/-! Registers and fields of the chop page. -/
abbrev R.CHOP_CTRL : Nat := 0x020
abbrev F.CHOP_CTRL_FILT : Fld := ⟨0x020, 16, 4⟩
abbrev F.CHOP_CTRL_BLANK : Fld := ⟨0x020, 12, 1⟩
abbrev F.CHOP_CTRL_TMR : Fld := ⟨0x020, 8, 4⟩
abbrev F.CHOP_CTRL_OCP_EN : Fld := ⟨0x020, 5, 1⟩
abbrev F.CHOP_CTRL_DESAT_EN : Fld := ⟨0x020, 4, 1⟩
abbrev F.CHOP_CTRL_MODE : Fld := ⟨0x020, 0, 2⟩
abbrev R.CHOP_PERIOD : Nat := 0x024
abbrev R.CHOP_VON : Nat := 0x028
abbrev R.CHOP_VOFF : Nat := 0x02C
abbrev R.CHOP_MAXDUTY : Nat := 0x030
abbrev R.CHOP_DUTY : Nat := 0x034
abbrev R.CHOP_STATUS : Nat := 0x038
abbrev F.CHOP_STATUS_VBUS : Fld := ⟨0x038, 16, 16⟩
abbrev F.CHOP_STATUS_SAFE_RULE : Fld := ⟨0x038, 2, 1⟩
abbrev F.CHOP_STATUS_TRIPPED : Fld := ⟨0x038, 1, 1⟩
abbrev F.CHOP_STATUS_ON : Fld := ⟨0x038, 0, 1⟩
abbrev R.CHOP_TRIP_CNT : Nat := 0x03C
abbrev F.CHOP_TRIP_CNT_CLR : Fld := ⟨0x03C, 31, 1⟩
abbrev F.CHOP_TRIP_CNT_COUNT : Fld := ⟨0x03C, 0, 16⟩
abbrev R.CHOP_PERSIST : Nat := 0x040
/-! Registers and fields of the timers page. -/
abbrev R.TMR_CFG (j : Nat) : Nat := 0x020 + 8 * j
abbrev F.TMR_CFG_EN (j : Nat) : Fld := ⟨0x020 + 8 * j, 31, 1⟩
abbrev F.TMR_CFG_DELAY (j : Nat) : Fld := ⟨0x020 + 8 * j, 8, 8⟩
abbrev F.TMR_CFG_TRIG (j : Nat) : Fld := ⟨0x020 + 8 * j, 0, 8⟩
abbrev R.TMR_WIDTH (j : Nat) : Nat := 0x024 + 8 * j
abbrev F.TMR_WIDTH_WIDTH (j : Nat) : Fld := ⟨0x024 + 8 * j, 0, 12⟩
abbrev R.TMR_STATUS : Nat := 0x0A0
abbrev F.TMR_STATUS_OPEN : Fld := ⟨0x0A0, 0, 16⟩
/-! Registers and fields of the net page. -/
abbrev R.NET_CFG : Nat := 0x020
abbrev F.NET_CFG_MODE : Fld := ⟨0x020, 8, 2⟩
abbrev F.NET_CFG_AN_EN : Fld := ⟨0x020, 3, 1⟩
abbrev F.NET_CFG_FEC_EN : Fld := ⟨0x020, 2, 1⟩
abbrev F.NET_CFG_KR_TRAIN : Fld := ⟨0x020, 1, 1⟩
abbrev F.NET_CFG_EN : Fld := ⟨0x020, 0, 1⟩
abbrev R.NET_STATUS : Nat := 0x024
abbrev F.NET_STATUS_MODE_NOW : Fld := ⟨0x024, 8, 2⟩
abbrev F.NET_STATUS_HI_BER : Fld := ⟨0x024, 2, 1⟩
abbrev F.NET_STATUS_LOCK : Fld := ⟨0x024, 1, 1⟩
abbrev F.NET_STATUS_LINK_UP : Fld := ⟨0x024, 0, 1⟩
abbrev R.NET_DLY_RX : Nat := 0x028
abbrev R.NET_DLY_TX : Nat := 0x02C
abbrev R.NET_CBS (j : Nat) : Nat := 0x040 + 4 * j
abbrev R.NET_TSQ_HEAD : Nat := 0x070
abbrev F.NET_TSQ_HEAD_VALID : Fld := ⟨0x070, 31, 1⟩
abbrev F.NET_TSQ_HEAD_N : Fld := ⟨0x070, 24, 4⟩
abbrev F.NET_TSQ_HEAD_TAP : Fld := ⟨0x070, 16, 6⟩
abbrev F.NET_TSQ_HEAD_FID : Fld := ⟨0x070, 0, 16⟩
abbrev R.NET_TSQ_TICK_LO : Nat := 0x074
abbrev R.NET_TSQ_TICK_HI : Nat := 0x078
abbrev R.NET_TSQ_POP : Nat := 0x07C
abbrev R.NET_TSQ_OVF : Nat := 0x080
abbrev F.NET_TSQ_OVF_CLR : Fld := ⟨0x080, 31, 1⟩
abbrev R.NET_RX_FRAMES : Nat := 0x084
abbrev F.NET_RX_FRAMES_CLR : Fld := ⟨0x084, 31, 1⟩
abbrev R.NET_TX_FRAMES : Nat := 0x088
abbrev F.NET_TX_FRAMES_CLR : Fld := ⟨0x088, 31, 1⟩
abbrev R.NET_RX_BAD : Nat := 0x08C
abbrev F.NET_RX_BAD_CLR : Fld := ⟨0x08C, 31, 1⟩
abbrev R.NET_STOMP : Nat := 0x090
abbrev F.NET_STOMP_CLR : Fld := ⟨0x090, 31, 1⟩
abbrev R.NET_BLK_ERR : Nat := 0x094
abbrev F.NET_BLK_ERR_CLR : Fld := ⟨0x094, 31, 1⟩
abbrev R.NET_Q_DROP : Nat := 0x098
abbrev F.NET_Q_DROP_CLR : Fld := ⟨0x098, 31, 1⟩
abbrev R.NET_TX_DISC : Nat := 0x09C
abbrev F.NET_TX_DISC_CLR : Fld := ⟨0x09C, 31, 1⟩
abbrev R.NET_LAUNCH_ERR : Nat := 0x0A0
abbrev F.NET_LAUNCH_ERR_CLR : Fld := ⟨0x0A0, 31, 1⟩
abbrev F.NET_LAUNCH_ERR_LINK : Fld := ⟨0x0A0, 24, 6⟩
abbrev F.NET_LAUNCH_ERR_REFUSED : Fld := ⟨0x0A0, 18, 6⟩
abbrev F.NET_LAUNCH_ERR_FULL : Fld := ⟨0x0A0, 12, 6⟩
abbrev F.NET_LAUNCH_ERR_INHIB : Fld := ⟨0x0A0, 6, 6⟩
abbrev F.NET_LAUNCH_ERR_LATE : Fld := ⟨0x0A0, 0, 6⟩
abbrev R.NET_LINK_DOWN_CNT : Nat := 0x0A4
abbrev F.NET_LINK_DOWN_CNT_CLR : Fld := ⟨0x0A4, 31, 1⟩
/-! Registers and fields of the switch page. -/
abbrev R.SW_MAC_LO : Nat := 0x020
abbrev R.SW_MAC_HI : Nat := 0x024
abbrev R.SW_MAX_FRAME : Nat := 0x028
abbrev R.SW_RING_CFG : Nat := 0x02C
abbrev F.SW_RING_CFG_TEST : Fld := ⟨0x02C, 16, 16⟩
abbrev F.SW_RING_CFG_MGR_B : Fld := ⟨0x02C, 1, 1⟩
abbrev F.SW_RING_CFG_MGR_A : Fld := ⟨0x02C, 0, 1⟩
abbrev R.SW_RING_STATUS : Nat := 0x030
abbrev F.SW_RING_STATUS_OPEN : Fld := ⟨0x030, 8, 2⟩
abbrev F.SW_RING_STATUS_BLOCKED : Fld := ⟨0x030, 0, 2⟩
abbrev R.SW_RING_ETYPE : Nat := 0x034
abbrev R.SW_DOM_VLAN (j : Nat) : Nat := 0x040 + 4 * j
abbrev F.SW_DOM_VLAN_EN (j : Nat) : Fld := ⟨0x040 + 4 * j, 12, 1⟩
abbrev F.SW_DOM_VLAN_VID (j : Nat) : Fld := ⟨0x040 + 4 * j, 0, 12⟩
abbrev R.SW_BUF_RSV (j : Nat) : Nat := 0x060 + 4 * j
abbrev R.SW_BUF_FREE : Nat := 0x084
abbrev R.SW_UNMAPPED : Nat := 0x088
abbrev F.SW_UNMAPPED_CLR : Fld := ⟨0x088, 31, 1⟩
abbrev R.SW_STRIP : Nat := 0x08C
abbrev R.SW_BUF_CE : Nat := 0x090
abbrev F.SW_BUF_CE_CLR : Fld := ⟨0x090, 31, 1⟩
abbrev R.SW_RING_OPEN_CNT : Nat := 0x094
abbrev F.SW_RING_OPEN_CNT_CLR : Fld := ⟨0x094, 31, 1⟩
/-! Registers and fields of the netq page. -/
abbrev R.NQ_CTRL : Nat := 0x020
abbrev F.NQ_CTRL_HOST : Fld := ⟨0x020, 31, 1⟩
abbrev F.NQ_CTRL_PCP : Fld := ⟨0x020, 16, 3⟩
abbrev F.NQ_CTRL_VEC_EN : Fld := ⟨0x020, 14, 1⟩
abbrev F.NQ_CTRL_VEC : Fld := ⟨0x020, 8, 6⟩
abbrev F.NQ_CTRL_RX_MC : Fld := ⟨0x020, 2, 1⟩
abbrev F.NQ_CTRL_RX_EN : Fld := ⟨0x020, 1, 1⟩
abbrev F.NQ_CTRL_TX_EN : Fld := ⟨0x020, 0, 1⟩
abbrev R.NQ_TX_BASE_LO : Nat := 0x024
abbrev R.NQ_TX_BASE_HI : Nat := 0x028
abbrev R.NQ_TX_SIZE : Nat := 0x02C
abbrev R.NQ_TX_TAIL : Nat := 0x030
abbrev R.NQ_TX_HEAD : Nat := 0x034
abbrev R.NQ_RX_BASE_LO : Nat := 0x038
abbrev R.NQ_RX_BASE_HI : Nat := 0x03C
abbrev R.NQ_RX_SIZE : Nat := 0x040
abbrev R.NQ_RX_TAIL : Nat := 0x044
abbrev R.NQ_RX_HEAD : Nat := 0x048
abbrev R.NQ_RX_DROP : Nat := 0x04C
abbrev F.NQ_RX_DROP_CLR : Fld := ⟨0x04C, 31, 1⟩
abbrev R.NQ_TX_REFUSED : Nat := 0x050
abbrev F.NQ_TX_REFUSED_CLR : Fld := ⟨0x050, 31, 1⟩
/-! Registers and fields of the grove page. -/
abbrev R.GROVE_RUN : Nat := 0x020
abbrev R.GROVE_FAULTED : Nat := 0x024
abbrev R.GROVE_SHM_OWN_LO : Nat := 0x028
abbrev R.GROVE_SHM_OWN_HI : Nat := 0x02C
abbrev R.GROVE_SHM_CE : Nat := 0x030
abbrev F.GROVE_SHM_CE_CLR : Fld := ⟨0x030, 31, 1⟩
abbrev F.GROVE_SHM_CE_COUNT : Fld := ⟨0x030, 0, 16⟩
abbrev R.GROVE_SHM_UE_ADDR : Nat := 0x034
abbrev F.GROVE_SHM_UE_ADDR_VALID : Fld := ⟨0x034, 0, 1⟩
/-! Registers and fields of the loopunit page. -/
abbrev R.LU_LAG (j : Nat) : Nat := 0x020 + 4 * j
abbrev R.LU_LAG_PEAK (j : Nat) : Nat := 0x030 + 4 * j
abbrev R.LU_LAG_LIMIT : Nat := 0x040
abbrev R.LU_STATUS : Nat := 0x044
abbrev F.LU_STATUS_LAGGED : Fld := ⟨0x044, 8, 4⟩
abbrev F.LU_STATUS_PEND : Fld := ⟨0x044, 4, 4⟩
abbrev F.LU_STATUS_EVAL : Fld := ⟨0x044, 0, 4⟩
abbrev R.LU_DESC_RANGE (j : Nat) : Nat := 0x050 + 4 * j
abbrev F.LU_DESC_RANGE_COUNT (j : Nat) : Fld := ⟨0x050 + 4 * j, 16, 8⟩
abbrev F.LU_DESC_RANGE_FIRST (j : Nat) : Fld := ⟨0x050 + 4 * j, 0, 7⟩
abbrev R.LU_OVERRUN_CNT (j : Nat) : Nat := 0x060 + 4 * j
abbrev F.LU_OVERRUN_CNT_CLR (j : Nat) : Fld := ⟨0x060 + 4 * j, 31, 1⟩
abbrev F.LU_OVERRUN_CNT_COUNT (j : Nat) : Fld := ⟨0x060 + 4 * j, 0, 16⟩
/-! Registers and fields of the engine page. -/
abbrev R.ENG_CTRL : Nat := 0x020
abbrev F.ENG_CTRL_RST : Fld := ⟨0x020, 3, 1⟩
abbrev F.ENG_CTRL_STEP : Fld := ⟨0x020, 2, 1⟩
abbrev F.ENG_CTRL_HALT : Fld := ⟨0x020, 1, 1⟩
abbrev F.ENG_CTRL_GO : Fld := ⟨0x020, 0, 1⟩
abbrev R.ENG_CFG : Nat := 0x024
abbrev F.ENG_CFG_BRK_HALT : Fld := ⟨0x024, 9, 1⟩
abbrev F.ENG_CFG_MAIL_EXC : Fld := ⟨0x024, 2, 1⟩
abbrev F.ENG_CFG_CALL_EXC : Fld := ⟨0x024, 1, 1⟩
abbrev R.ENG_STATUS : Nat := 0x028
abbrev F.ENG_STATUS_HMAIL : Fld := ⟨0x028, 20, 4⟩
abbrev F.ENG_STATUS_MAIL : Fld := ⟨0x028, 16, 4⟩
abbrev F.ENG_STATUS_CALL : Fld := ⟨0x028, 12, 4⟩
abbrev F.ENG_STATUS_EXL : Fld := ⟨0x028, 8, 1⟩
abbrev F.ENG_STATUS_MODE_PEND : Fld := ⟨0x028, 7, 1⟩
abbrev F.ENG_STATUS_STATE : Fld := ⟨0x028, 0, 3⟩
abbrev R.ENG_START_PC : Nat := 0x02C
abbrev F.ENG_START_PC_PC : Fld := ⟨0x02C, 0, 12⟩
abbrev R.ENG_PC : Nat := 0x030
abbrev R.ENG_VBASE : Nat := 0x034
abbrev R.ENG_EPC : Nat := 0x038
abbrev R.ENG_ESTAT : Nat := 0x03C
abbrev F.ENG_ESTAT_SUB : Fld := ⟨0x03C, 8, 4⟩
abbrev F.ENG_ESTAT_MODE_WAIT : Fld := ⟨0x03C, 6, 1⟩
abbrev F.ENG_ESTAT_LOOP_END : Fld := ⟨0x03C, 5, 1⟩
abbrev F.ENG_ESTAT_PB : Fld := ⟨0x03C, 4, 1⟩
abbrev F.ENG_ESTAT_CAUSE : Fld := ⟨0x03C, 0, 4⟩
abbrev R.ENG_EADDR : Nat := 0x040
abbrev R.ENG_WDOG : Nat := 0x044
abbrev F.ENG_WDOG_PERIOD : Fld := ⟨0x044, 0, 24⟩
abbrev R.ENG_WDOG_LEFT : Nat := 0x048
abbrev R.ENG_BRK0 : Nat := 0x04C
abbrev F.ENG_BRK0_EN : Fld := ⟨0x04C, 31, 1⟩
abbrev F.ENG_BRK0_ADDR : Fld := ⟨0x04C, 0, 12⟩
abbrev R.ENG_BRK1 : Nat := 0x050
abbrev R.ENG_DBG_SEL : Nat := 0x054
abbrev R.ENG_DBG_DATA : Nat := 0x058
abbrev R.ENG_BUSY : Nat := 0x05C
abbrev R.ENG_STALL : Nat := 0x060
abbrev R.ENG_CALL_DROP : Nat := 0x064
abbrev F.ENG_CALL_DROP_CLR : Fld := ⟨0x064, 31, 1⟩
abbrev F.ENG_CALL_DROP_COUNT : Fld := ⟨0x064, 0, 16⟩
abbrev R.ENG_MAIL_W (j : Nat) : Nat := 0x080 + 4 * j
abbrev R.ENG_MAIL_SEND : Nat := 0x0C0
abbrev F.ENG_MAIL_SEND_LEN : Fld := ⟨0x0C0, 0, 4⟩
abbrev R.ENG_MAIL_STAT : Nat := 0x0C4
abbrev F.ENG_MAIL_STAT_REFUSED : Fld := ⟨0x0C4, 0, 1⟩
abbrev R.ENG_HMAIL_VEC : Nat := 0x0C8
abbrev F.ENG_HMAIL_VEC_EN : Fld := ⟨0x0C8, 6, 1⟩
abbrev F.ENG_HMAIL_VEC_VEC : Fld := ⟨0x0C8, 0, 6⟩
abbrev R.ENG_HMAIL_HEAD : Nat := 0x0CC
abbrev F.ENG_HMAIL_HEAD_VALID : Fld := ⟨0x0CC, 8, 1⟩
abbrev F.ENG_HMAIL_HEAD_LEN : Fld := ⟨0x0CC, 0, 4⟩
abbrev R.ENG_HMAIL_POP : Nat := 0x0D0
abbrev R.ENG_HMAIL_R (j : Nat) : Nat := 0x100 + 4 * j
/-! Registers and fields of the track page. -/
abbrev R.TRACK_CTRL : Nat := 0x020
abbrev F.TRACK_CTRL_INIT : Fld := ⟨0x020, 2, 1⟩
abbrev F.TRACK_CTRL_REBUILD : Fld := ⟨0x020, 1, 1⟩
abbrev F.TRACK_CTRL_EN : Fld := ⟨0x020, 0, 1⟩
abbrev R.TRACK_STATUS : Nat := 0x024
abbrev F.TRACK_STATUS_INIT_BUSY : Fld := ⟨0x024, 2, 1⟩
abbrev F.TRACK_STATUS_REBUILDING : Fld := ⟨0x024, 1, 1⟩
abbrev F.TRACK_STATUS_RUNNING : Fld := ⟨0x024, 0, 1⟩
abbrev R.TRACK_REACH : Nat := 0x028
abbrev F.TRACK_REACH_REACH : Fld := ⟨0x028, 0, 16⟩
abbrev R.TRACK_DEAD_LIM : Nat := 0x02C
abbrev R.TRACK_RGN (j : Nat) : Nat := 0x030 + 4 * j
abbrev F.TRACK_RGN_COUNT (j : Nat) : Fld := ⟨0x030 + 4 * j, 16, 9⟩
abbrev F.TRACK_RGN_BASE (j : Nat) : Fld := ⟨0x030 + 4 * j, 0, 8⟩
abbrev R.TRACK_USED : Nat := 0x050
abbrev R.TRACK_DEAD : Nat := 0x054
abbrev R.TRACK_RB_TIME : Nat := 0x058
abbrev R.TRACK_CE : Nat := 0x05C
abbrev F.TRACK_CE_CLR : Fld := ⟨0x05C, 31, 1⟩
abbrev F.TRACK_CE_COUNT : Fld := ⟨0x05C, 0, 16⟩
abbrev R.TRACK_UE_ADDR : Nat := 0x060
abbrev F.TRACK_UE_ADDR_VALID : Fld := ⟨0x060, 31, 1⟩
abbrev R.TRACK_HO_ETYPE : Nat := 0x064
abbrev R.TRACK_HO_VER : Nat := 0x068
/-! Registers and fields of the handover page. -/
abbrev R.HO_CTRL : Nat := 0x020
abbrev F.HO_CTRL_EXIT : Fld := ⟨0x020, 2, 1⟩
abbrev F.HO_CTRL_IN_EN : Fld := ⟨0x020, 1, 1⟩
abbrev F.HO_CTRL_OUT_EN : Fld := ⟨0x020, 0, 1⟩
abbrev R.HO_LINE_ID : Nat := 0x024
abbrev R.HO_BIN_LO : Nat := 0x028
abbrev R.HO_BIN_HI : Nat := 0x02C
abbrev R.HO_BOUT_LO : Nat := 0x030
abbrev R.HO_BOUT_HI : Nat := 0x034
abbrev R.HO_LEAD : Nat := 0x038
abbrev R.HO_DN_ADDR_LO : Nat := 0x03C
abbrev R.HO_DN_ADDR_HI : Nat := 0x040
abbrev R.HO_UP_ADDR_LO : Nat := 0x044
abbrev R.HO_UP_ADDR_HI : Nat := 0x048
abbrev R.HO_TIMING : Nat := 0x04C
abbrev F.HO_TIMING_COMMIT_TMO : Fld := ⟨0x04C, 16, 16⟩
abbrev F.HO_TIMING_RETRY : Fld := ⟨0x04C, 0, 16⟩
abbrev R.HO_DOUBT_TMO : Nat := 0x050
abbrev R.HO_ARR_CFG : Nat := 0x054
abbrev F.HO_ARR_CFG_EN : Fld := ⟨0x054, 31, 1⟩
abbrev F.HO_ARR_CFG_ARR_LANE : Fld := ⟨0x054, 24, 6⟩
abbrev F.HO_ARR_CFG_ARR_CH : Fld := ⟨0x054, 16, 6⟩
abbrev F.HO_ARR_CFG_ARR_LEVEL : Fld := ⟨0x054, 8, 1⟩
abbrev R.HO_ARR_POS : Nat := 0x058
abbrev R.HO_ARR_W : Nat := 0x05C
abbrev R.HO_STATUS : Nat := 0x060
abbrev F.HO_STATUS_DOUBT : Fld := ⟨0x060, 24, 8⟩
abbrev F.HO_STATUS_UP_VER : Fld := ⟨0x060, 12, 4⟩
abbrev F.HO_STATUS_DN_VER : Fld := ⟨0x060, 8, 4⟩
abbrev F.HO_STATUS_UP_UP : Fld := ⟨0x060, 3, 1⟩
abbrev F.HO_STATUS_DN_UP : Fld := ⟨0x060, 1, 1⟩
abbrev R.HO_XFER : Nat := 0x064
abbrev R.HO_CNT_OUT : Nat := 0x068
abbrev F.HO_CNT_OUT_CLR : Fld := ⟨0x068, 31, 1⟩
abbrev R.HO_CNT_IN : Nat := 0x06C
abbrev F.HO_CNT_IN_CLR : Fld := ⟨0x06C, 31, 1⟩
abbrev F.HO_CNT_IN_COUNT : Fld := ⟨0x06C, 0, 16⟩
abbrev R.HO_CNT_DOUBT : Nat := 0x070
abbrev F.HO_CNT_DOUBT_CLR : Fld := ⟨0x070, 31, 1⟩
abbrev F.HO_CNT_DOUBT_COUNT : Fld := ⟨0x070, 0, 16⟩
abbrev R.HO_CNT_FAIL : Nat := 0x074
abbrev F.HO_CNT_FAIL_CLR : Fld := ⟨0x074, 31, 1⟩
abbrev F.HO_CNT_FAIL_COUNT : Fld := ⟨0x074, 0, 16⟩
abbrev R.HO_CNT_DROP : Nat := 0x078
abbrev F.HO_CNT_DROP_CLR : Fld := ⟨0x078, 31, 1⟩
abbrev F.HO_CNT_DROP_COUNT : Fld := ⟨0x078, 0, 16⟩
/-! Registers and fields of the trace page. -/
abbrev R.TRC_RGN (j : Nat) : Nat := 0x020 + 4 * j
abbrev F.TRC_RGN_COUNT (j : Nat) : Fld := ⟨0x020 + 4 * j, 16, 8⟩
abbrev F.TRC_RGN_BASE (j : Nat) : Fld := ⟨0x020 + 4 * j, 0, 7⟩
abbrev R.TRC_CE : Nat := 0x040
abbrev F.TRC_CE_CLR : Fld := ⟨0x040, 31, 1⟩
abbrev F.TRC_CE_COUNT : Fld := ⟨0x040, 0, 16⟩
abbrev R.TRC_UE_ADDR : Nat := 0x044
abbrev F.TRC_UE_ADDR_VALID : Fld := ⟨0x044, 31, 1⟩
abbrev R.TRC_BUSY : Nat := 0x048
/-! Registers and fields of the trc page. -/
abbrev R.TRC_CTRL : Nat := 0x020
abbrev F.TRC_CTRL_FORCE : Fld := ⟨0x020, 2, 1⟩
abbrev F.TRC_CTRL_STOP : Fld := ⟨0x020, 1, 1⟩
abbrev F.TRC_CTRL_ARM : Fld := ⟨0x020, 0, 1⟩
abbrev R.TRC_STATUS : Nat := 0x024
abbrev F.TRC_STATUS_REASON : Fld := ⟨0x024, 8, 4⟩
abbrev F.TRC_STATUS_REFUSED : Fld := ⟨0x024, 7, 1⟩
abbrev F.TRC_STATUS_LATE : Fld := ⟨0x024, 6, 1⟩
abbrev F.TRC_STATUS_INHIB : Fld := ⟨0x024, 5, 1⟩
abbrev F.TRC_STATUS_TRUNC : Fld := ⟨0x024, 4, 1⟩
abbrev F.TRC_STATUS_STATE : Fld := ⟨0x024, 0, 2⟩
abbrev R.TRC_BUF : Nat := 0x028
abbrev F.TRC_BUF_LEN : Fld := ⟨0x028, 16, 12⟩
abbrev F.TRC_BUF_BASE : Fld := ⟨0x028, 0, 11⟩
abbrev R.TRC_PRE : Nat := 0x02C
abbrev R.TRC_POST : Nat := 0x030
abbrev R.TRC_TRIG : Nat := 0x034
abbrev F.TRC_TRIG_CODE : Fld := ⟨0x034, 24, 8⟩
abbrev F.TRC_TRIG_PARAM : Fld := ⟨0x034, 0, 24⟩
abbrev R.TRC_TLEVEL : Nat := 0x038
abbrev R.TRC_TAT_LO : Nat := 0x03C
abbrev R.TRC_TAT_HI : Nat := 0x040
abbrev R.TRC_FIRST : Nat := 0x044
abbrev R.TRC_TPTR : Nat := 0x048
abbrev R.TRC_WPTR : Nat := 0x04C
abbrev R.TRC_TTICK_LO : Nat := 0x050
abbrev R.TRC_TTICK_HI : Nat := 0x054
abbrev R.TRC_LOST : Nat := 0x058
abbrev F.TRC_LOST_CLR : Fld := ⟨0x058, 31, 1⟩
abbrev F.TRC_LOST_COUNT : Fld := ⟨0x058, 0, 16⟩
abbrev R.TRC_SRC (j : Nat) : Nat := 0x080 + 4 * j
abbrev F.TRC_SRC_EN (j : Nat) : Fld := ⟨0x080 + 4 * j, 31, 1⟩
abbrev F.TRC_SRC_KIND (j : Nat) : Fld := ⟨0x080 + 4 * j, 24, 4⟩
abbrev F.TRC_SRC_INDEX (j : Nat) : Fld := ⟨0x080 + 4 * j, 16, 6⟩
abbrev F.TRC_SRC_SEL (j : Nat) : Fld := ⟨0x080 + 4 * j, 8, 6⟩
abbrev F.TRC_SRC_DIV (j : Nat) : Fld := ⟨0x080 + 4 * j, 0, 8⟩
/-! Registers and fields of the tooth page. -/
abbrev R.TOOTH_CTRL : Nat := 0x020
abbrev F.TOOTH_CTRL_FILT_US : Fld := ⟨0x020, 16, 8⟩
abbrev F.TOOTH_CTRL_POL : Fld := ⟨0x020, 15, 1⟩
abbrev F.TOOTH_CTRL_VMAX : Fld := ⟨0x020, 12, 3⟩
abbrev F.TOOTH_CTRL_EXTRA_POS : Fld := ⟨0x020, 8, 4⟩
abbrev F.TOOTH_CTRL_MISS : Fld := ⟨0x020, 4, 2⟩
abbrev F.TOOTH_CTRL_REF : Fld := ⟨0x020, 2, 2⟩
abbrev F.TOOTH_CTRL_RESEARCH : Fld := ⟨0x020, 1, 1⟩
abbrev F.TOOTH_CTRL_EN : Fld := ⟨0x020, 0, 1⟩
abbrev R.TOOTH_N : Nat := 0x024
abbrev R.TOOTH_MAXINT : Nat := 0x028
abbrev R.TOOTH_STILL : Nat := 0x02C
abbrev R.TOOTH_STATUS : Nat := 0x030
abbrev F.TOOTH_STATUS_UNALIGNED : Fld := ⟨0x030, 7, 1⟩
abbrev F.TOOTH_STATUS_VRUN : Fld := ⟨0x030, 4, 3⟩
abbrev F.TOOTH_STATUS_STILL : Fld := ⟨0x030, 3, 1⟩
abbrev F.TOOTH_STATUS_WIN : Fld := ⟨0x030, 2, 1⟩
abbrev F.TOOTH_STATUS_STATE : Fld := ⟨0x030, 0, 2⟩
abbrev R.TOOTH_POS : Nat := 0x034
abbrev R.TOOTH_TURN : Nat := 0x038
abbrev R.TOOTH_LAST_TICK_LO : Nat := 0x03C
abbrev R.TOOTH_LAST_TICK_HI : Nat := 0x040
abbrev R.TOOTH_TEXP : Nat := 0x044
abbrev R.TOOTH_CNT_NOISE : Nat := 0x048
abbrev F.TOOTH_CNT_NOISE_CLR : Fld := ⟨0x048, 31, 1⟩
abbrev F.TOOTH_CNT_NOISE_COUNT : Fld := ⟨0x048, 0, 16⟩
abbrev R.TOOTH_CNT_VIRT : Nat := 0x04C
abbrev F.TOOTH_CNT_VIRT_CLR : Fld := ⟨0x04C, 31, 1⟩
abbrev F.TOOTH_CNT_VIRT_COUNT : Fld := ⟨0x04C, 0, 16⟩
abbrev R.TOOTH_CNT_CORR : Nat := 0x050
abbrev F.TOOTH_CNT_CORR_CLR : Fld := ⟨0x050, 31, 1⟩
abbrev F.TOOTH_CNT_CORR_COUNT : Fld := ⟨0x050, 0, 16⟩
abbrev R.TOOTH_LAST_CORR : Nat := 0x054
/-! Registers and fields of the trunk page. -/
abbrev R.TRK_CTRL : Nat := 0x020
abbrev F.TRK_CTRL_FLUSH : Fld := ⟨0x020, 16, 1⟩
abbrev F.TRK_CTRL_SRC_IDX : Fld := ⟨0x020, 8, 6⟩
abbrev F.TRK_CTRL_SRC : Fld := ⟨0x020, 2, 2⟩
abbrev F.TRK_CTRL_EN : Fld := ⟨0x020, 0, 1⟩
abbrev R.TRK_STATUS : Nat := 0x024
abbrev F.TRK_STATUS_ACTIVE : Fld := ⟨0x024, 12, 1⟩
abbrev F.TRK_STATUS_QUEUED : Fld := ⟨0x024, 8, 4⟩
abbrev F.TRK_STATUS_STILL : Fld := ⟨0x024, 2, 1⟩
abbrev F.TRK_STATUS_HOLDING : Fld := ⟨0x024, 1, 1⟩
abbrev F.TRK_STATUS_VALID : Fld := ⟨0x024, 0, 1⟩
abbrev R.TRK_PITCH_LO : Nat := 0x028
abbrev R.TRK_PITCH_HI : Nat := 0x02C
abbrev R.TRK_OFS_LO : Nat := 0x030
abbrev R.TRK_OFS_HI : Nat := 0x034
abbrev R.TRK_SEG_T_LO : Nat := 0x038
abbrev R.TRK_SEG_T_HI : Nat := 0x03C
abbrev R.TRK_SEG_DUR : Nat := 0x040
abbrev R.TRK_SEG_C_LO (j : Nat) : Nat := 0x044 + 8 * j
abbrev R.TRK_SEG_C_HI (j : Nat) : Nat := 0x048 + 8 * j
abbrev R.TRK_SEG_PUSH : Nat := 0x064
abbrev R.TRK_SEG_STAT : Nat := 0x068
abbrev F.TRK_SEG_STAT_RANGE : Fld := ⟨0x068, 4, 1⟩
abbrev F.TRK_SEG_STAT_LATE : Fld := ⟨0x068, 3, 1⟩
abbrev F.TRK_SEG_STAT_ORDER : Fld := ⟨0x068, 2, 1⟩
abbrev F.TRK_SEG_STAT_FULL : Fld := ⟨0x068, 1, 1⟩
abbrev F.TRK_SEG_STAT_DONE : Fld := ⟨0x068, 0, 1⟩
abbrev R.TRK_POS_LO : Nat := 0x06C
abbrev R.TRK_POS_HI : Nat := 0x070
abbrev R.TRK_VEL_LO : Nat := 0x074
abbrev R.TRK_VEL_HI : Nat := 0x078
abbrev R.TRK_POS_TICK_LO : Nat := 0x07C
abbrev R.TRK_POS_TICK_HI : Nat := 0x080
abbrev R.TRK_STEP_MAX : Nat := 0x084
abbrev R.TRK_LAST_SNAP : Nat := 0x088
abbrev R.TRK_JUMP_TOL : Nat := 0x08C
/-! Registers and fields of the rgn page. -/
abbrev R.RGN_STAGE (j : Nat) : Nat := 0x020 + 4 * j
abbrev R.RGN_CMD : Nat := 0x040
abbrev F.RGN_CMD_GO : Fld := ⟨0x040, 31, 1⟩
abbrev F.RGN_CMD_OP : Fld := ⟨0x040, 24, 3⟩
abbrev F.RGN_CMD_INDEX : Fld := ⟨0x040, 0, 18⟩
abbrev R.RGN_RESULT : Nat := 0x044
abbrev F.RGN_RESULT_STATUS : Fld := ⟨0x044, 28, 4⟩
abbrev F.RGN_RESULT_INDEX : Fld := ⟨0x044, 0, 18⟩
abbrev R.RGN_CFG : Nat := 0x048
abbrev F.RGN_CFG_VEC_EN : Fld := ⟨0x048, 14, 1⟩
abbrev F.RGN_CFG_VEC : Fld := ⟨0x048, 8, 6⟩
abbrev F.RGN_CFG_RPT_FIRED : Fld := ⟨0x048, 0, 1⟩
abbrev R.RGN_FREE : Nat := 0x04C
abbrev R.RGN_RPT_HEAD : Nat := 0x050
abbrev F.RGN_RPT_HEAD_N : Fld := ⟨0x050, 16, 9⟩
abbrev F.RGN_RPT_HEAD_VALID : Fld := ⟨0x050, 0, 1⟩
abbrev R.RGN_RPT (j : Nat) : Nat := 0x054 + 4 * j
abbrev R.RGN_RPT_POP : Nat := 0x064
abbrev R.RGN_RPT_LOST : Nat := 0x068
abbrev F.RGN_RPT_LOST_CLR : Fld := ⟨0x068, 31, 1⟩
abbrev F.RGN_RPT_LOST_COUNT : Fld := ⟨0x068, 0, 16⟩
/-! Registers and fields of the lane page. -/
abbrev R.LANE_CTRL : Nat := 0x020
abbrev F.LANE_CTRL_EN : Fld := ⟨0x020, 0, 1⟩
abbrev R.LANE_PERIOD : Nat := 0x024
abbrev R.LANE_LOOKAHEAD : Nat := 0x028
abbrev R.LANE_LATE_TOL : Nat := 0x02C
abbrev R.LANE_WIN_CH : Nat := 0x030
abbrev F.LANE_WIN_CH_EN : Fld := ⟨0x030, 8, 1⟩
abbrev F.LANE_WIN_CH_POL : Fld := ⟨0x030, 7, 1⟩
abbrev F.LANE_WIN_CH_CH : Fld := ⟨0x030, 0, 6⟩
abbrev R.LANE_STATUS : Nat := 0x034
abbrev F.LANE_STATUS_N : Fld := ⟨0x034, 8, 8⟩
abbrev F.LANE_STATUS_AXIS_TIMED : Fld := ⟨0x034, 2, 1⟩
abbrev F.LANE_STATUS_SWAP_PEND : Fld := ⟨0x034, 1, 1⟩
abbrev F.LANE_STATUS_BANK : Fld := ⟨0x034, 0, 1⟩
abbrev R.LANE_LIVE : Nat := 0x038
abbrev R.LANE_CNT_FIRED : Nat := 0x03C
abbrev F.LANE_CNT_FIRED_CLR : Fld := ⟨0x03C, 31, 1⟩
abbrev F.LANE_CNT_FIRED_FIRED : Fld := ⟨0x03C, 0, 16⟩
abbrev R.LANE_CNT_MISSED : Nat := 0x040
abbrev F.LANE_CNT_MISSED_CLR : Fld := ⟨0x040, 31, 1⟩
abbrev F.LANE_CNT_MISSED_COUNT : Fld := ⟨0x040, 0, 16⟩
abbrev R.LANE_CNT_INHIB : Nat := 0x044
abbrev F.LANE_CNT_INHIB_CLR : Fld := ⟨0x044, 31, 1⟩
abbrev F.LANE_CNT_INHIB_COUNT : Fld := ⟨0x044, 0, 16⟩
abbrev R.LANE_CNT_SUSPECT : Nat := 0x048
abbrev F.LANE_CNT_SUSPECT_CLR : Fld := ⟨0x048, 31, 1⟩
abbrev F.LANE_CNT_SUSPECT_COUNT : Fld := ⟨0x048, 0, 16⟩
abbrev R.LANE_CNT_RETIME : Nat := 0x04C
abbrev F.LANE_CNT_RETIME_CLR : Fld := ⟨0x04C, 31, 1⟩
abbrev F.LANE_CNT_RETIME_COUNT : Fld := ⟨0x04C, 0, 16⟩
abbrev R.LANE_CNT_DEFER : Nat := 0x050
abbrev F.LANE_CNT_DEFER_CLR : Fld := ⟨0x050, 31, 1⟩
abbrev F.LANE_CNT_DEFER_COUNT : Fld := ⟨0x050, 0, 16⟩
abbrev R.LANE_CNT_UNEXP : Nat := 0x054
abbrev F.LANE_CNT_UNEXP_CLR : Fld := ⟨0x054, 31, 1⟩
abbrev F.LANE_CNT_UNEXP_COUNT : Fld := ⟨0x054, 0, 16⟩
abbrev R.LANE_CNT_LATE : Nat := 0x058
abbrev F.LANE_CNT_LATE_CLR : Fld := ⟨0x058, 31, 1⟩
abbrev F.LANE_CNT_LATE_COUNT : Fld := ⟨0x058, 0, 16⟩
/-! Registers and fields of the fsch page. -/
abbrev R.FSCH_MAP (j : Nat) : Nat := 0x020 + 4 * j
abbrev F.FSCH_MAP_EN (j : Nat) : Fld := ⟨0x020 + 4 * j, 4, 1⟩
abbrev R.FSCH_INH_CNT : Nat := 0x060
abbrev F.FSCH_INH_CNT_CLR : Fld := ⟨0x060, 31, 1⟩
abbrev F.FSCH_INH_CNT_COUNT : Fld := ⟨0x060, 0, 16⟩
abbrev R.FSCH_CTRL (j : Nat) : Nat := 0x100 + 32 * j
abbrev F.FSCH_CTRL_LEVEL (j : Nat) : Fld := ⟨0x100 + 32 * j, 8, 1⟩
abbrev F.FSCH_CTRL_CANCEL (j : Nat) : Fld := ⟨0x100 + 32 * j, 1, 1⟩
abbrev F.FSCH_CTRL_GO (j : Nat) : Fld := ⟨0x100 + 32 * j, 0, 1⟩
abbrev R.FSCH_TICK_LO (j : Nat) : Nat := 0x104 + 32 * j
abbrev R.FSCH_TICK_HI (j : Nat) : Nat := 0x108 + 32 * j
abbrev R.FSCH_WIDTH (j : Nat) : Nat := 0x10C + 32 * j
abbrev R.FSCH_STAT (j : Nat) : Nat := 0x110 + 32 * j
abbrev F.FSCH_STAT_INHIBIT (j : Nat) : Fld := ⟨0x110 + 32 * j, 3, 1⟩
abbrev F.FSCH_STAT_LATE (j : Nat) : Fld := ⟨0x110 + 32 * j, 2, 1⟩
abbrev F.FSCH_STAT_REFUSED (j : Nat) : Fld := ⟨0x110 + 32 * j, 1, 1⟩
abbrev F.FSCH_STAT_DONE (j : Nat) : Fld := ⟨0x110 + 32 * j, 0, 1⟩

/-- The registers of the sys page. -/
def Map.sys : List RegDesc := [
  ⟨0x020, 0, 1, 0, 0, 0, 0, 0, 0, true⟩,
  ⟨0x024, 0, 1, 1, 0, 0, 0x1FF, 0, 0, true⟩,
  ⟨0x028, 0, 1, 0, 0, 0, 0, 0, 0xFFFF0003, false⟩,
  ⟨0x02C, 0, 1, 0, 0xFFFFFF, 0, 0, 0, 0, false⟩,
  ⟨0x030, 0, 1, 0, 0, 0, 0, 0, 0xFFFFFFFF, false⟩,
  ⟨0x034, 0, 1, 0, 0, 0, 0, 0, 0, true⟩,
  ⟨0x038, 0, 1, 0, 0, 0, 0, 0, 0, false⟩,
  ⟨0x03C, 0, 1, 0, 0, 0, 0, 0, 0, false⟩,
  ⟨0x040, 0, 1, 0, 0, 0, 0, 0, 0, false⟩,
  ⟨0x044, 0, 1, 0, 0, 0, 0, 0, 0, false⟩,
  ⟨0x048, 0, 1, 0, 0, 0, 0, 0, 0x80000000, true⟩,
  ⟨0x04C, 0, 1, 0, 0, 0, 0, 0, 0, true⟩]

/-- The registers of the clk page. -/
def Map.clk : List RegDesc := [
  ⟨0x020, 0, 1, 0, 7, 0, 0, 0, 0, false⟩,
  ⟨0x024, 0, 1, 0x30, 0, 0, 0, 0, 0, true⟩,
  ⟨0x028, 0, 1, 0, 0, 0, 0, 0, 0, true⟩,
  ⟨0x02C, 0, 1, 0, 0, 0, 0, 0, 0, true⟩]

/-- The registers of the time page. -/
def Map.time : List RegDesc := [
  ⟨0x020, 0, 1, 0, 0, 0, 0, 0, 0, true⟩,
  ⟨0x024, 0, 1, 0, 0, 0, 0, 0, 0, true⟩,
  ⟨0x028, 0, 1, 0, 0, 0, 0, 0, 0, true⟩,
  ⟨0x02C, 0, 1, 0, 0, 0, 0, 0, 0, true⟩,
  ⟨0x030, 0, 1, 0, 0, 0, 0, 0, 0, true⟩,
  ⟨0x034, 0, 1, 0, 0, 0, 0, 0, 0, true⟩,
  ⟨0x038, 0, 1, 0, 0, 0, 0, 0, 0, true⟩,
  ⟨0x03C, 0, 1, 0, 0, 0, 0, 0, 0, true⟩,
  ⟨0x040, 0, 1, 0x33333333, 0, 0, 0, 0, 0, true⟩,
  ⟨0x044, 0, 1, 3, 0, 0, 0, 0, 0, true⟩,
  ⟨0x048, 0, 1, 0, 0xFFFF, 0, 0, 0, 0, false⟩,
  ⟨0x04C, 0, 1, 0, 0x3FFFFFFF, 0, 0, 0, 0, false⟩,
  ⟨0x050, 0, 1, 0, 0xFFFFFFFF, 0, 0, 0, 0, false⟩,
  ⟨0x054, 0, 1, 0, 0xFFFF, 0, 0, 0, 0, false⟩,
  ⟨0x058, 0, 1, 0, 0xFFFFFFFF, 0, 0, 0, 0, false⟩,
  ⟨0x05C, 0, 1, 0, 0xFFFFFFFF, 0, 0, 0, 0, false⟩,
  ⟨0x060, 0, 1, 0x33333333, 0xFFFFFFFF, 0, 0, 0, 0, false⟩,
  ⟨0x064, 0, 1, 3, 0xF, 0, 0, 0, 0, false⟩,
  ⟨0x068, 0, 1, 0, 0xFFFFFFFF, 0, 0, 0, 0, false⟩,
  ⟨0x06C, 0, 1, 0, 0xFFFFFFFF, 0, 0, 0, 0, false⟩,
  ⟨0x070, 0, 1, 0, 0x72, 0, 0, 0, 1, false⟩,
  ⟨0x074, 0, 1, 0, 0, 0, 7, 0, 0, false⟩,
  ⟨0x078, 0, 1, 0, 0, 0, 0, 0, 0xFFFFFFFF, false⟩,
  ⟨0x07C, 0, 1, 0x1F40400, 0xFFFFFF01, 0, 0, 0, 0, false⟩,
  ⟨0x080, 0, 1, 0x64, 0xFFFF, 0, 0, 0, 0, false⟩,
  ⟨0x084, 0, 1, 0x5000000, 0, 0, 0, 0, 0, true⟩,
  ⟨0x088, 0, 1, 0, 0, 0, 0, 0, 0, true⟩,
  ⟨0x08C, 0, 1, 0xF, 0xF, 0, 0, 0, 0, false⟩,
  ⟨0x090, 0, 1, 0, 0, 0, 0, 0, 0, false⟩,
  ⟨0x0A0, 8, 8, 0, 0, 0, 0, 0, 0, true⟩,
  ⟨0x0A4, 8, 8, 0, 0, 0, 0, 0, 0, false⟩]

/-- The registers of the fault page. -/
def Map.fault : List RegDesc := [
  ⟨0x020, 0, 1, 0, 0, 0, 0, 0, 2, false⟩,
  ⟨0x024, 0, 1, 0, 0, 0, 0, 0, 0, true⟩,
  ⟨0x028, 0, 1, 0, 0, 0, 0xFFFFFFFF, 0, 0, true⟩,
  ⟨0x02C, 0, 1, 0, 0, 0, 0xFF, 0, 0, true⟩,
  ⟨0x030, 4, 3, 0, 0, 0, 0, 0, 0, true⟩,
  ⟨0x040, 0, 1, 0, 0, 0, 0, 0, 0, true⟩,
  ⟨0x044, 0, 1, 0, 0, 0, 0, 0, 0, true⟩,
  ⟨0x048, 0, 1, 0, 0x8000003F, 0, 0, 0, 0, false⟩,
  ⟨0x04C, 0, 1, 0, 0, 0, 0xFF, 0, 0, true⟩,
  ⟨0x050, 0, 1, 0, 0, 0, 0, 0, 0, true⟩,
  ⟨0x054, 4, 4, 0, 0, 0, 0, 0, 0, false⟩,
  ⟨0x064, 0, 1, 0, 0, 0, 0, 0, 0xFFFFFFFF, false⟩,
  ⟨0x068, 0, 1, 0, 0, 0, 0, 0, 0x80000000, true⟩,
  ⟨0x06C, 0, 1, 0, 0, 0xFFFFFFFF, 0, 0, 0, false⟩,
  ⟨0x070, 0, 1, 0, 0, 0xFF, 0, 0, 0, false⟩,
  ⟨0x080, 8, 8, 0, 0, 0xFFFFFFFF, 0, 0, 0, false⟩,
  ⟨0x084, 8, 8, 0, 0, 0xFFFFFFFF, 0, 0, 0, false⟩,
  ⟨0x100, 4, 40, 0x410, 0, 0x7000777, 0, 0, 0, false⟩,
  ⟨0x1C0, 0, 1, 0, 0xFFFFFFFF, 0, 0, 0, 0, false⟩,
  ⟨0x1C4, 0, 1, 0, 0xFFFF, 0, 0, 0, 0, false⟩,
  ⟨0x1C8, 0, 1, 0, 0, 0, 0, 0, 0xFFC00000, false⟩,
  ⟨0x1CC, 0, 1, 0, 0, 0, 0, 0, 0, true⟩,
  ⟨0x1D0, 4, 4, 0, 0, 0, 0, 0, 0, false⟩,
  ⟨0x1E0, 0, 1, 0, 0, 0, 0, 0, 0xFFFFFFFF, false⟩,
  ⟨0x1E4, 0, 1, 0, 0, 0, 0, 0, 0x80000000, true⟩]

/-- The registers of the dom page. -/
def Map.dom : List RegDesc := [
  ⟨0x020, 0, 1, 0, 0, 0, 0, 1, 0, true⟩,
  ⟨0x028, 0, 1, 0, 0, 7, 0, 0, 0, false⟩,
  ⟨0x030, 4, 8, 0, 0, 0xFFFFFFFF, 0, 0, 0, false⟩,
  ⟨0x050, 4, 16, 0, 0, 0xFFFFFFFF, 0, 0, 0, false⟩,
  ⟨0x090, 4, 8, 0, 0, 0xFFFFFFFF, 0, 0, 0, false⟩,
  ⟨0x0B0, 0, 1, 0x76543210, 0, 0xFFFFFFFF, 0, 0, 0, false⟩,
  ⟨0x0B4, 0, 1, 0x76543210, 0, 0xFFFFFFFF, 0, 0, 0, false⟩,
  ⟨0x0B8, 0, 1, 0x7D, 0, 0xFFFFFFFF, 0, 0, 0, false⟩,
  ⟨0x0BC, 0, 1, 0, 0, 0xFFFFFFFF, 0, 0, 0, false⟩,
  ⟨0x0C0, 0, 1, 0, 0, 0, 0, 0, 0x80000000, true⟩,
  ⟨0x0C4, 0, 1, 0, 0, 0, 0, 0, 0, true⟩,
  ⟨0x0C8, 0, 1, 0, 0, 0, 0, 0, 0, true⟩,
  ⟨0x0CC, 0, 1, 0, 0, 0, 0, 0, 0x80000000, true⟩]

/-- The registers of the pwr page. -/
def Map.pwr : List RegDesc := [
  ⟨0x020, 0, 1, 0xA0001, 0xFF001F, 0, 0, 0, 0, false⟩,
  ⟨0x024, 0, 1, 0, 0, 0, 0, 0, 0, true⟩,
  ⟨0x028, 0, 1, 0, 0, 0, 0, 0, 0, true⟩,
  ⟨0x02C, 0, 1, 0, 0, 0, 0, 0, 0, true⟩,
  ⟨0x030, 0, 1, 0, 0, 0, 0, 0, 0, true⟩,
  ⟨0x034, 0, 1, 0, 0, 0, 0, 0, 0, true⟩,
  ⟨0x038, 0, 1, 0, 0, 0, 0, 0, 0, true⟩,
  ⟨0x03C, 0, 1, 0, 0, 0, 0, 0, 0, true⟩,
  ⟨0x040, 0, 1, 0, 0, 0, 0, 0, 0, true⟩,
  ⟨0x044, 0, 1, 0, 0, 0, 0, 0, 0x80000000, true⟩]

/-- The registers of the snap page. -/
def Map.snap : List RegDesc := [
  ⟨0x020, 0, 1, 0, 0, 0, 0, 0, 1, false⟩,
  ⟨0x024, 0, 1, 0, 0x80000FF2, 0, 0, 0, 0, false⟩,
  ⟨0x028, 0, 1, 0, 0xFFFFFFFF, 0, 0, 0, 0, false⟩,
  ⟨0x02C, 0, 1, 0, 0xFFFFFFFF, 0, 0, 0, 0, false⟩,
  ⟨0x030, 0, 1, 0, 0, 0, 0, 0, 0, false⟩,
  ⟨0x034, 0, 1, 0, 0, 0, 0, 0, 0, false⟩,
  ⟨0x038, 0, 1, 0, 0, 0, 0, 0, 0, false⟩,
  ⟨0x03C, 0, 1, 0, 0, 0, 0, 0, 0x80000000, false⟩,
  ⟨0x040, 0, 1, 0, 0, 0, 0, 0, 0, false⟩]

/-- The registers of the trig page. -/
def Map.trig : List RegDesc := [
  ⟨0x020, 4, 4, 0, 0xFF0007, 0, 0, 0, 0, false⟩,
  ⟨0x030, 4, 4, 0, 0, 0, 0, 0, 0, true⟩,
  ⟨0x040, 8, 4, 0, 0, 0, 0, 0, 0, true⟩,
  ⟨0x044, 8, 4, 0, 0, 0, 0, 0, 0, true⟩,
  ⟨0x060, 0, 1, 0, 0, 0, 0, 0, 0xF, false⟩,
  ⟨0x064, 0, 1, 0, 0, 0, 0, 0, 0x80000000, true⟩,
  ⟨0x080, 4, 4, 0x2000, 0xC0FFFFFF, 0, 0, 0, 0, false⟩,
  ⟨0x090, 8, 4, 0, 0xFFFFFFFF, 0, 0, 0, 0, false⟩,
  ⟨0x094, 8, 4, 0, 0xFFFFFFFF, 0, 0, 0, 0, false⟩,
  ⟨0x0B0, 0, 1, 0, 0, 0, 0, 0, 0xF, false⟩,
  ⟨0x0B4, 0, 1, 0, 0, 0, 0, 0, 0xF, false⟩,
  ⟨0x0C0, 4, 4, 0, 0, 0, 0, 0, 0, true⟩,
  ⟨0x0D0, 4, 4, 0, 0xFFFF, 0, 0, 0, 0, false⟩,
  ⟨0x0E0, 4, 4, 0, 0, 0, 0, 0, 0, true⟩,
  ⟨0x0F0, 8, 4, 0, 0, 0, 0, 0, 0, true⟩,
  ⟨0x0F4, 8, 4, 0, 0, 0, 0, 0, 0, true⟩,
  ⟨0x110, 0, 1, 0, 0, 0, 0, 0, 0xF, false⟩,
  ⟨0x114, 0, 1, 0, 0, 0, 0, 0, 0x80000000, true⟩]

/-- The registers of the safe page. -/
def Map.safe : List RegDesc := [
  ⟨0x020, 0, 1, 0, 0, 0, 0, 0, 0, true⟩,
  ⟨0x024, 0, 1, 0, 0, 0, 0, 0, 0, true⟩,
  ⟨0x028, 0, 1, 0, 0, 0, 0, 0, 0, true⟩,
  ⟨0x02C, 0, 1, 0, 0, 0, 0, 0, 0, true⟩,
  ⟨0x030, 0, 1, 0, 0xFFFF, 0, 0, 0, 0, false⟩,
  ⟨0x034, 0, 1, 0, 0, 0, 0, 0, 0, true⟩,
  ⟨0x038, 0, 1, 0, 0xFFFFFFFF, 0, 0, 0, 0, false⟩,
  ⟨0x03C, 0, 1, 0, 0xFFFFFFFF, 0, 0, 0, 0, false⟩,
  ⟨0x040, 4, 8, 3, 0, 0, 0, 0, 0, true⟩,
  ⟨0x060, 0, 1, 0, 0, 0, 0, 0, 0, true⟩,
  ⟨0x064, 0, 1, 0, 0, 0, 0, 0, 0, true⟩,
  ⟨0x068, 0, 1, 0, 0, 0, 0, 0, 0, true⟩,
  ⟨0x06C, 0, 1, 0, 0, 0, 0, 0, 0, true⟩,
  ⟨0x070, 0, 1, 0, 0, 0, 0, 0, 0, false⟩,
  ⟨0x080, 4, 32, 0, 0, 0, 0, 0, 0, true⟩,
  ⟨0x100, 8, 32, 0, 0, 0, 0, 0, 0x80000000, true⟩,
  ⟨0x104, 8, 32, 0, 0, 0, 0, 0, 0x80000000, true⟩]

/-- The registers of the amber page. -/
def Map.amber : List RegDesc := [
  ⟨0x020, 0, 1, 0, 0xF000330, 0, 0, 0, 0x80000000, false⟩,
  ⟨0x024, 0, 1, 0, 0, 0, 0, 0, 0, true⟩,
  ⟨0x028, 0, 1, 0, 0xFFFFFFFF, 0, 0, 0, 0, false⟩,
  ⟨0x02C, 0, 1, 0, 0xFFFFFFFF, 0, 0, 0, 0, false⟩,
  ⟨0x030, 0, 1, 0, 0x1FFFFC0, 0, 0, 0, 0, false⟩,
  ⟨0x034, 0, 1, 0, 0x7FFFF, 0, 0, 0, 0, false⟩,
  ⟨0x038, 0, 1, 0, 0, 0, 0, 0, 0, true⟩,
  ⟨0x03C, 0, 1, 0, 0, 0, 0, 0, 0, true⟩,
  ⟨0x040, 0, 1, 0x258, 0xFFF, 0, 0, 0, 0, false⟩,
  ⟨0x044, 0, 1, 0, 0, 0, 0, 0, 0, true⟩,
  ⟨0x048, 0, 1, 0, 0, 0, 0, 0, 0x80000000, true⟩,
  ⟨0x04C, 0, 1, 0, 0, 0, 0, 0, 0, true⟩,
  ⟨0x060, 4, 12, 0, 0xFFFFFFFF, 0, 0, 0, 0, false⟩]

/-- The registers of the host page. -/
def Map.host : List RegDesc := [
  ⟨0x020, 0, 1, 0, 0, 0, 0, 0, 0, true⟩,
  ⟨0x024, 0, 1, 0, 0, 0, 0, 0, 0, false⟩,
  ⟨0x028, 0, 1, 0x3E8, 0xFFFF, 0, 0, 0, 0, false⟩,
  ⟨0x030, 16, 8, 0, 0, 0xFFFFF000, 0, 0, 0, false⟩,
  ⟨0x034, 16, 8, 0, 0, 0xFFFFFFFF, 0, 0, 0, false⟩,
  ⟨0x038, 16, 8, 0, 0, 0xFFFFF, 0, 0, 0, false⟩,
  ⟨0x0B0, 0, 1, 0, 0, 0, 0, 0, 0, true⟩,
  ⟨0x0B4, 0, 1, 0, 0, 0, 0, 0, 0, true⟩,
  ⟨0x0B8, 0, 1, 0, 0, 0, 0, 0, 0x80000000, true⟩,
  ⟨0x0C0, 0, 1, 0x88B7, 0, 0x8000FFFF, 0, 0, 0, false⟩,
  ⟨0x0C4, 0, 1, 0, 0, 0xFFFFFFFF, 0, 0, 0, false⟩,
  ⟨0x0C8, 0, 1, 0, 0, 0xFFFF, 0, 0, 0, false⟩,
  ⟨0x0CC, 0, 1, 0, 0, 0, 0, 0, 0, true⟩,
  ⟨0x0D0, 0, 1, 0, 0, 0, 0, 0, 0, false⟩,
  ⟨0x0D4, 0, 1, 0, 0, 0, 0, 0, 0x80000000, true⟩,
  ⟨0x0E0, 4, 8, 0, 0, 0, 0, 0, 0xFFFFFFFF, false⟩,
  ⟨0x3F0, 0, 1, 0, 0, 0, 0, 0, 0, false⟩,
  ⟨0x3F4, 0, 1, 0, 0, 0, 0, 0, 0, false⟩,
  ⟨0x400, 16, 64, 0, 0xFFFFFFFC, 0, 0, 0, 0, false⟩,
  ⟨0x404, 16, 64, 0, 0xFFFFFFFF, 0, 0, 0, 0, false⟩,
  ⟨0x408, 16, 64, 0, 0xFFFFFFFF, 0, 0, 0, 0, false⟩,
  ⟨0x40C, 16, 64, 1, 1, 0, 0, 0, 0, false⟩]

/-- The registers of the loop page. -/
def Map.loop : List RegDesc := [
  ⟨0x020, 0, 1, 0, 3, 0, 0, 0, 0x100, false⟩,
  ⟨0x024, 0, 1, 0, 0, 0, 0, 0, 0, true⟩,
  ⟨0x028, 0, 1, 0, 0xFF007F, 0, 0, 0, 0, false⟩,
  ⟨0x02C, 0, 1, 0, 0, 0, 0, 0, 0, true⟩,
  ⟨0x030, 0, 1, 0, 0xF0F, 0, 0, 0, 0, false⟩,
  ⟨0x034, 0, 1, 0, 0x13, 0, 0, 0, 0, false⟩,
  ⟨0x038, 0, 1, 0, 0xFFFFFFFF, 0, 0, 0, 0, false⟩,
  ⟨0x03C, 0, 1, 0, 0xFFFFFFFF, 0, 0, 0, 0, false⟩,
  ⟨0x040, 0, 1, 0, 0xFFFFFFFF, 0, 0, 0, 0, false⟩,
  ⟨0x044, 0, 1, 0, 0xFFFFFFFF, 0, 0, 0, 0, false⟩,
  ⟨0x048, 0, 1, 0, 0xFFFFFFFF, 0, 0, 0, 0, false⟩,
  ⟨0x04C, 0, 1, 0, 0xFFFFFFFF, 0, 0, 0, 0, false⟩,
  ⟨0x050, 0, 1, 0, 0xFFFFFFFF, 0, 0, 0, 0, false⟩,
  ⟨0x054, 0, 1, 0, 0xFFFFFFFF, 0, 0, 0, 0, false⟩,
  ⟨0x058, 0, 1, 0, 0x3F3F, 0, 0, 0, 0, false⟩,
  ⟨0x05C, 0, 1, 0, 0xFFFFFF, 0, 0, 0, 0, false⟩,
  ⟨0x060, 0, 1, 0, 0, 0, 0, 0, 0, true⟩,
  ⟨0x064, 0, 1, 0, 0, 0, 0, 0, 0, true⟩,
  ⟨0x068, 0, 1, 0, 0, 0, 0, 0, 0, true⟩,
  ⟨0x06C, 0, 1, 0, 0xFFFF0000, 0, 0, 0, 0, true⟩,
  ⟨0x070, 0, 1, 0, 0, 0, 0, 0, 0, true⟩,
  ⟨0x074, 0, 1, 0, 0, 0, 0, 0, 0x80000000, true⟩,
  ⟨0x078, 0, 1, 0, 0, 0, 0, 0, 0, true⟩,
  ⟨0x07C, 0, 1, 0, 0, 0, 0, 0, 0, true⟩,
  ⟨0x400, 4, 64, 0, 0, 0, 0, 0, 0, true⟩]

/-- The registers of the profile page. -/
def Map.profile : List RegDesc := [
  ⟨0x020, 0, 1, 0, 0x301, 0, 0, 0, 0, false⟩,
  ⟨0x024, 0, 1, 0, 0, 0, 0, 0, 0x1F, false⟩,
  ⟨0x028, 0, 1, 0, 0, 0, 0, 0, 0, true⟩,
  ⟨0x02C, 0, 1, 0, 0xFFFFFFFF, 0, 0, 0, 0, false⟩,
  ⟨0x030, 0, 1, 0, 0xFFFFFFFF, 0, 0, 0, 0, false⟩,
  ⟨0x034, 0, 1, 0, 0xFFFFFFFF, 0, 0, 0, 0, false⟩,
  ⟨0x038, 0, 1, 0, 0x7FFFFFFF, 0, 0, 0, 0, false⟩,
  ⟨0x03C, 0, 1, 0, 0xFFFFFFFF, 0, 0, 0, 0, false⟩,
  ⟨0x040, 0, 1, 0, 0xFFFFFFFF, 0, 0, 0, 0, false⟩,
  ⟨0x044, 0, 1, 0, 0xFFFFFFFF, 0, 0, 0, 0, false⟩,
  ⟨0x048, 0, 1, 0, 0xFFFFFFFF, 0, 0, 0, 0, false⟩,
  ⟨0x04C, 0, 1, 0, 0xFFFFFFFF, 0, 0, 0, 0, false⟩,
  ⟨0x050, 0, 1, 0x7FFFFFFF, 0xFFFFFFFF, 0, 0, 0, 0, false⟩,
  ⟨0x054, 0, 1, 0x800003E8, 0xFF003FFF, 0, 0, 0, 0, false⟩,
  ⟨0x058, 0, 1, 0, 0xFFFFFFFF, 0, 0, 0, 0, false⟩,
  ⟨0x05C, 0, 1, 0, 0x3F, 0, 0, 0, 0, false⟩,
  ⟨0x060, 0, 1, 0, 0xFFFF, 0, 0, 0, 0, false⟩,
  ⟨0x064, 0, 1, 0, 0, 0, 0, 0, 0, true⟩,
  ⟨0x068, 0, 1, 0, 0, 0, 0, 0, 0, true⟩,
  ⟨0x06C, 0, 1, 0, 0, 0, 0, 0, 0, true⟩,
  ⟨0x070, 0, 1, 0, 0, 0, 0, 0, 0, true⟩,
  ⟨0x074, 0, 1, 0, 0xB3, 0, 0, 0, 0, false⟩,
  ⟨0x078, 0, 1, 0, 0xFFFFFFFF, 0, 0, 0, 0, false⟩,
  ⟨0x07C, 0, 1, 0, 0xFFFFFFFF, 0, 0, 0, 0, false⟩,
  ⟨0x080, 0, 1, 0, 0xFFFFFFFF, 0, 0, 0, 0, false⟩,
  ⟨0x0A0, 0, 1, 1, 0x713, 0, 0, 0, 0, false⟩,
  ⟨0x0A4, 0, 1, 0, 0xFFFFFFFF, 0, 0, 0, 0, false⟩,
  ⟨0x0A8, 0, 1, 1, 0xFFFFFFFF, 0, 0, 0, 0, false⟩,
  ⟨0x0AC, 0, 1, 0, 0xFFFFFFFF, 0, 0, 0, 0, false⟩,
  ⟨0x0B0, 0, 1, 0, 0xFFFFFFFF, 0, 0, 0, 0, false⟩,
  ⟨0x0B4, 0, 1, 0, 0xFFFFFFFF, 0, 0, 0, 0, false⟩,
  ⟨0x0B8, 0, 1, 0, 0xFFFFFFFF, 0, 0, 0, 0, false⟩,
  ⟨0x0BC, 0, 1, 0, 0, 0, 0, 0, 0, true⟩,
  ⟨0x0C0, 0, 1, 0, 0, 0, 0, 0, 0, true⟩,
  ⟨0x0C4, 0, 1, 0, 0, 0, 0, 0, 0, true⟩,
  ⟨0x0C8, 0, 1, 0, 0, 0, 0, 0, 0, true⟩,
  ⟨0x0CC, 0, 1, 1, 0, 0, 0, 0, 0, true⟩]

/-- The registers of the fb page. -/
def Map.fb : List RegDesc := [
  ⟨0x020, 0, 1, 0, 0xFF71FFF, 0, 0, 0, 0, false⟩,
  ⟨0x024, 0, 1, 0, 0, 0, 0, 0, 0, true⟩,
  ⟨0x028, 0, 1, 0, 0, 0, 0, 0, 0, true⟩,
  ⟨0x02C, 0, 1, 0, 0, 0, 0, 0, 0, true⟩,
  ⟨0x030, 0, 1, 0, 0, 0, 0, 0, 0, true⟩,
  ⟨0x034, 0, 1, 0, 0, 0, 0, 0, 0, true⟩,
  ⟨0x038, 0, 1, 0xFFF, 0xFFFFFFFF, 0, 0, 0, 0, false⟩,
  ⟨0x040, 0, 1, 0, 0x7FFFFFFF, 0, 0, 0, 0, false⟩,
  ⟨0x044, 0, 1, 0, 0xFFFFFFFF, 0, 0, 0, 0, false⟩,
  ⟨0x048, 0, 1, 0, 0, 0, 0, 0, 1, false⟩,
  ⟨0x04C, 0, 1, 0, 0, 0, 0, 0, 0, true⟩,
  ⟨0x050, 0, 1, 0, 0, 0, 0, 0, 0, true⟩,
  ⟨0x054, 0, 1, 0x186A001, 0xFFFFFFFF, 0, 0, 0, 0, false⟩,
  ⟨0x058, 0, 1, 0x1000012, 0xF3F3F3F, 0, 0, 0, 0, false⟩,
  ⟨0x05C, 0, 1, 0x14009B, 0xFF07FF, 0, 0, 0, 0, false⟩,
  ⟨0x060, 0, 1, 0, 0, 0, 0, 0, 0, true⟩,
  ⟨0x064, 0, 1, 0, 0, 0, 0, 0, 0, true⟩,
  ⟨0x068, 0, 1, 0, 0, 0, 0, 0, 0x80000000, true⟩,
  ⟨0x06C, 0, 1, 0, 0, 0, 0, 0, 0x80000000, true⟩]

/-- The registers of the pwm page. -/
def Map.pwm : List RegDesc := [
  ⟨0x020, 0, 1, 0, 0x73, 0, 0, 0, 0, false⟩,
  ⟨0x024, 0, 1, 0, 0xFFFFFF, 0, 0, 0, 0, false⟩,
  ⟨0x028, 0, 1, 0x190, 0xFFFF, 0, 0, 0, 0, false⟩,
  ⟨0x02C, 0, 1, 0, 0xFFFF, 0, 0, 0, 0, false⟩,
  ⟨0x030, 0, 1, 0, 0xFFFFFF, 0, 0, 0, 0, false⟩,
  ⟨0x034, 0, 1, 0, 0xFFFF, 0, 0, 0, 0, false⟩,
  ⟨0x038, 0, 1, 0, 0, 0, 0, 0, 0, true⟩,
  ⟨0x03C, 0, 1, 0, 0, 0, 0, 0, 0, true⟩,
  ⟨0x040, 0, 1, 0, 0, 0, 0, 0, 0, true⟩,
  ⟨0x044, 0, 1, 0, 0, 0, 0, 0, 0, true⟩,
  ⟨0x048, 0, 1, 0, 0, 0, 0, 0, 0x80000000, true⟩,
  ⟨0x04C, 0, 1, 0, 0xF0FFFF7F, 0, 0, 0, 0, false⟩,
  ⟨0x050, 0, 1, 1, 0xFF, 0, 0, 0, 0, false⟩,
  ⟨0x054, 0, 1, 0, 0, 0, 1, 0, 0, true⟩,
  ⟨0x058, 0, 1, 0, 0, 0, 0, 0, 0x80000000, true⟩]

/-- The registers of the link page. -/
def Map.link : List RegDesc := [
  ⟨0x020, 0, 1, 0x1400, 0xFF04, 0, 0, 0, 2, false⟩,
  ⟨0x024, 0, 1, 0x10C, 0, 0, 0, 0, 0, true⟩,
  ⟨0x028, 0, 1, 0, 0xFFFFFFFF, 0, 0, 0, 0, true⟩,
  ⟨0x02C, 0, 1, 0, 0xFFFFFFFF, 0, 0, 0, 0, true⟩,
  ⟨0x030, 0, 1, 0, 0xFFFFFFFF, 0, 0, 0, 0, true⟩,
  ⟨0x034, 0, 1, 0, 0xFFFFFFFF, 0, 0, 0, 0, true⟩,
  ⟨0x038, 0, 1, 0, 0xFFFFFFFF, 0, 0, 0, 0, true⟩,
  ⟨0x03C, 0, 1, 0, 0xFFFFFFFF, 0, 0, 0, 0, true⟩,
  ⟨0x040, 0, 1, 0, 0, 0, 0, 0, 0, false⟩,
  ⟨0x044, 0, 1, 0, 0xFFFF, 0, 0, 0, 0, true⟩,
  ⟨0x048, 0, 1, 0, 0xFFFFFFFF, 0, 0, 0, 0, true⟩,
  ⟨0x04C, 0, 1, 0, 0xFFFFFFFF, 0, 0, 0, 0, true⟩]

/-- The registers of the carrier page. -/
def Map.carrier : List RegDesc := [
  ⟨0x020, 0, 1, 0, 3, 0, 0, 0, 0, false⟩,
  ⟨0x024, 0, 1, 0x7A120, 0xFFFFFE, 0, 0, 0, 0, false⟩,
  ⟨0x028, 0, 1, 0, 1, 0, 0, 0, 0, false⟩,
  ⟨0x02C, 0, 1, 0, 2, 0, 0, 0, 1, false⟩,
  ⟨0x030, 0, 1, 0, 0xFFFFFFFF, 0, 0, 0, 0, false⟩,
  ⟨0x034, 0, 1, 0, 0xFFFFFFFF, 0, 0, 0, 0, false⟩,
  ⟨0x038, 0, 1, 0, 0xFFFFFFFF, 0, 0, 0, 0, false⟩,
  ⟨0x03C, 0, 1, 0, 0xFFFFFFFF, 0, 0, 0, 0, false⟩,
  ⟨0x040, 0, 1, 0x7A120, 0, 0, 0, 0, 0, true⟩,
  ⟨0x044, 0, 1, 0, 0, 0, 0, 0, 0, true⟩,
  ⟨0x048, 0, 1, 0, 0, 0, 7, 0, 0, false⟩,
  ⟨0x04C, 0, 1, 0, 0, 0, 0, 0, 0, true⟩,
  ⟨0x050, 0, 1, 0, 0, 0, 0, 0, 0, true⟩,
  ⟨0x054, 0, 1, 0, 0, 0, 0, 0, 0, true⟩]

/-- The registers of the gate page. -/
def Map.gate : List RegDesc := [
  ⟨0x020, 0, 1, 0, 0, 0, 0, 0, 0, true⟩,
  ⟨0x024, 0, 1, 0, 0, 0, 0, 0, 0, true⟩,
  ⟨0x028, 0, 1, 0, 0, 0, 0xFFFFFFFF, 0, 0, true⟩,
  ⟨0x02C, 0, 1, 0, 0, 0, 0x1FFFF, 0, 0, true⟩,
  ⟨0x030, 0, 1, 0, 0, 0, 0, 0, 0x80000000, true⟩,
  ⟨0x034, 0, 1, 0, 0, 0, 0, 0, 0x80000000, true⟩,
  ⟨0x038, 0, 1, 0, 0, 0, 0, 0, 0x80000000, true⟩,
  ⟨0x040, 8, 8, 0xFF1C4108, 0xFF1FF31F, 0, 0, 0, 0, false⟩,
  ⟨0x044, 8, 8, 0x10F, 0x10F, 0, 0, 0, 0, false⟩,
  ⟨0x080, 0, 1, 0xFF1C4108, 0xFF1FF31F, 0, 0, 0, 0, false⟩,
  ⟨0x084, 0, 1, 0x10F, 0x10F, 0, 0, 0, 0, false⟩]

/-- The registers of the adc page. -/
def Map.adc : List RegDesc := [
  ⟨0x020, 0, 1, 0, 0, 0, 0xFF0000, 0, 0xFF, false⟩,
  ⟨0x024, 0, 1, 0, 0, 0, 0, 0, 0, true⟩,
  ⟨0x028, 0, 1, 0, 0, 0, 0, 0, 0, true⟩,
  ⟨0x02C, 0, 1, 0, 0, 0, 0, 0, 0, true⟩,
  ⟨0x030, 0, 1, 0, 0, 0, 0, 0, 0, true⟩,
  ⟨0x034, 0, 1, 0, 0, 0, 0, 0, 0, true⟩,
  ⟨0x038, 0, 1, 0xFFFF0000, 0xFFFFFFFF, 0, 0, 0, 0, false⟩,
  ⟨0x03C, 0, 1, 0x7D0, 0xFFFF, 0, 0, 0, 0, false⟩,
  ⟨0x040, 0, 1, 0, 0xFFFF, 0, 0, 0, 0, false⟩,
  ⟨0x044, 0, 1, 0, 0, 0, 0xFF03FF, 0, 0, true⟩,
  ⟨0x048, 0, 1, 0, 0, 0, 0, 0, 0x80000000, true⟩,
  ⟨0x04C, 0, 1, 0, 0xFFF, 0, 0, 0, 0, false⟩,
  ⟨0x080, 16, 8, 2, 0xFFF0007, 0, 0, 0, 0, false⟩,
  ⟨0x084, 16, 8, 0, 0xFFFF, 0, 0, 0, 0, false⟩,
  ⟨0x088, 16, 8, 0, 0, 0, 0, 0, 0, true⟩,
  ⟨0x08C, 16, 8, 0, 0, 0, 0, 0, 0, true⟩]

/-- The registers of the fio page. -/
def Map.fio : List RegDesc := [
  ⟨0x020, 0, 1, 0, 0, 0, 0, 0, 0, true⟩,
  ⟨0x024, 0, 1, 0, 0xFFFF, 0, 0, 0, 0, true⟩,
  ⟨0x028, 0, 1, 0, 0, 0, 0xFFFFFFFF, 0, 0, true⟩,
  ⟨0x02C, 0, 1, 0, 0, 0, 0xFFFFFFFF, 0, 0, true⟩,
  ⟨0x030, 0, 1, 0, 0, 0, 0xFFFF, 0, 0, true⟩,
  ⟨0x034, 0, 1, 0x7530F448, 0xFFFFFFFF, 0, 0, 0, 0, false⟩,
  ⟨0x038, 0, 1, 3, 0xF, 0, 0, 0, 0, false⟩,
  ⟨0x03C, 0, 1, 0x1403E8, 0xFFFFFF, 0, 0, 0, 0, false⟩,
  ⟨0x040, 0, 1, 0, 0, 0, 0, 0, 0, true⟩,
  ⟨0x044, 0, 1, 0, 0, 0, 0, 0, 0x80000000, true⟩,
  ⟨0x048, 0, 1, 0, 0, 0, 0, 0, 0, true⟩,
  ⟨0x080, 8, 16, 0, 0x7FFFFF7F, 0, 0, 0, 0, false⟩,
  ⟨0x084, 8, 16, 0, 0x8000FFFF, 0, 0, 0, 0, false⟩,
  ⟨0x100, 4, 8, 0, 0, 0, 0, 0, 0, true⟩]

/-- The registers of the chop page. -/
def Map.chop : List RegDesc := [
  ⟨0x020, 0, 1, 0, 0xF1F33, 0, 0, 0, 0, false⟩,
  ⟨0x024, 0, 1, 0x3D09, 0x7FFFF, 0, 0, 0, 0, false⟩,
  ⟨0x028, 0, 1, 0xFFFF, 0xFFFF, 0, 0, 0, 0, false⟩,
  ⟨0x02C, 0, 1, 0xFFFE, 0xFFFF, 0, 0, 0, 0, false⟩,
  ⟨0x030, 0, 1, 0x8000, 0xFFFF, 0, 0, 0, 0, false⟩,
  ⟨0x034, 0, 1, 0, 0xFFFF, 0, 0, 0, 0, false⟩,
  ⟨0x038, 0, 1, 0, 0, 0, 0, 0, 0, true⟩,
  ⟨0x03C, 0, 1, 0, 0, 0, 0, 0, 0x80000000, true⟩,
  ⟨0x040, 0, 1, 0x10, 0xFF, 0, 0, 0, 0, false⟩]

/-- The registers of the timers page. -/
def Map.timers : List RegDesc := [
  ⟨0x020, 8, 16, 0, 0x8000FFFF, 0, 0, 0, 0, false⟩,
  ⟨0x024, 8, 16, 1, 0xFFF, 0, 0, 0, 0, false⟩,
  ⟨0x0A0, 0, 1, 0, 0, 0, 0, 0, 0, true⟩]

/-- The registers of the net page. -/
def Map.net : List RegDesc := [
  ⟨0x020, 0, 1, 0x300, 0x30F, 0, 0, 0, 0, false⟩,
  ⟨0x024, 0, 1, 0, 0, 0, 0, 0, 0, true⟩,
  ⟨0x028, 0, 1, 0, 0xFFFF, 0, 0, 0, 0, false⟩,
  ⟨0x02C, 0, 1, 0, 0xFFFF, 0, 0, 0, 0, false⟩,
  ⟨0x040, 4, 9, 0, 0x3FFF, 0, 0, 0, 0, false⟩,
  ⟨0x070, 0, 1, 0, 0, 0, 0, 0, 0, true⟩,
  ⟨0x074, 0, 1, 0, 0, 0, 0, 0, 0, true⟩,
  ⟨0x078, 0, 1, 0, 0, 0, 0, 0, 0, true⟩,
  ⟨0x07C, 0, 1, 0, 0, 0, 0, 0, 0xFFFFFFFF, false⟩,
  ⟨0x080, 0, 1, 0, 0, 0, 0, 0, 0x80000000, true⟩,
  ⟨0x084, 0, 1, 0, 0, 0, 0, 0, 0x80000000, true⟩,
  ⟨0x088, 0, 1, 0, 0, 0, 0, 0, 0x80000000, true⟩,
  ⟨0x08C, 0, 1, 0, 0, 0, 0, 0, 0x80000000, true⟩,
  ⟨0x090, 0, 1, 0, 0, 0, 0, 0, 0x80000000, true⟩,
  ⟨0x094, 0, 1, 0, 0, 0, 0, 0, 0x80000000, true⟩,
  ⟨0x098, 0, 1, 0, 0, 0, 0, 0, 0x80000000, true⟩,
  ⟨0x09C, 0, 1, 0, 0, 0, 0, 0, 0x80000000, true⟩,
  ⟨0x0A0, 0, 1, 0, 0, 0, 0, 0, 0x80000000, true⟩,
  ⟨0x0A4, 0, 1, 0, 0, 0, 0, 0, 0x80000000, true⟩]

/-- The registers of the switch page. -/
def Map.switch : List RegDesc := [
  ⟨0x020, 0, 1, 0, 0, 0xFFFFFFFF, 0, 0, 0, false⟩,
  ⟨0x024, 0, 1, 0, 0, 0xFFFF, 0, 0, 0, false⟩,
  ⟨0x028, 0, 1, 0x5F2, 0xFFF, 0, 0, 0, 0, false⟩,
  ⟨0x02C, 0, 1, 0x3E80000, 0, 0xFFFF0003, 0, 0, 0, false⟩,
  ⟨0x030, 0, 1, 0, 0, 0, 0, 0, 0, true⟩,
  ⟨0x034, 0, 1, 0x88B5, 0, 0xFFFF, 0, 0, 0, false⟩,
  ⟨0x040, 4, 8, 0, 0, 0x1FFF, 0, 0, 0, false⟩,
  ⟨0x060, 4, 9, 0x10, 0, 0x1FFF, 0, 0, 0, false⟩,
  ⟨0x084, 0, 1, 0x2000, 0, 0, 0, 0, 0, true⟩,
  ⟨0x088, 0, 1, 0, 0, 0, 0, 0, 0x80000000, true⟩,
  ⟨0x08C, 0, 1, 0, 0, 0, 0, 0, 0x80000000, true⟩,
  ⟨0x090, 0, 1, 0, 0, 0, 0, 0, 0x80000000, true⟩,
  ⟨0x094, 0, 1, 0, 0, 0, 0, 0, 0x80000000, true⟩]

/-- The registers of the netq page. -/
def Map.netq : List RegDesc := [
  ⟨0x020, 0, 1, 0, 0x80077F07, 0, 0, 0, 0, false⟩,
  ⟨0x024, 0, 1, 0, 0xFFFFFFFF, 0, 0, 0, 0, false⟩,
  ⟨0x028, 0, 1, 0, 0xFFFFFFFF, 0, 0, 0, 0, false⟩,
  ⟨0x02C, 0, 1, 8, 0x7FF, 0, 0, 0, 0, false⟩,
  ⟨0x030, 0, 1, 0, 0x3FF, 0, 0, 0, 0, false⟩,
  ⟨0x034, 0, 1, 0, 0, 0, 0, 0, 0, true⟩,
  ⟨0x038, 0, 1, 0, 0xFFFFFFFF, 0, 0, 0, 0, false⟩,
  ⟨0x03C, 0, 1, 0, 0xFFFFFFFF, 0, 0, 0, 0, false⟩,
  ⟨0x040, 0, 1, 8, 0x7FF, 0, 0, 0, 0, false⟩,
  ⟨0x044, 0, 1, 0, 0x3FF, 0, 0, 0, 0, false⟩,
  ⟨0x048, 0, 1, 0, 0, 0, 0, 0, 0, true⟩,
  ⟨0x04C, 0, 1, 0, 0, 0, 0, 0, 0x80000000, true⟩,
  ⟨0x050, 0, 1, 0, 0, 0, 0, 0, 0x80000000, true⟩]

/-- The registers of the grove page. -/
def Map.grove : List RegDesc := [
  ⟨0x020, 0, 1, 0, 0, 0, 0, 0, 0, true⟩,
  ⟨0x024, 0, 1, 0, 0, 0, 0, 0, 0, true⟩,
  ⟨0x028, 0, 1, 0, 0, 0xFFFFFFFF, 0, 0, 0, false⟩,
  ⟨0x02C, 0, 1, 0, 0, 0xFFFFFFFF, 0, 0, 0, false⟩,
  ⟨0x030, 0, 1, 0, 0, 0, 0, 0, 0x80000000, true⟩,
  ⟨0x034, 0, 1, 0, 0, 0, 0, 0, 0, true⟩]

/-- The registers of the loopunit page. -/
def Map.loopunit : List RegDesc := [
  ⟨0x020, 4, 4, 0, 0, 0, 0, 0, 0, true⟩,
  ⟨0x030, 4, 4, 0, 0xFFFF, 0, 0, 0, 0, true⟩,
  ⟨0x040, 0, 1, 0x8080808, 0xFFFFFFFF, 0, 0, 0, 0, false⟩,
  ⟨0x044, 0, 1, 0, 0, 0, 0, 0, 0, true⟩,
  ⟨0x050, 4, 4, 0, 0, 0xFF007F, 0, 0, 0, false⟩,
  ⟨0x060, 4, 4, 0, 0, 0, 0, 0, 0x80000000, true⟩]

/-- The registers of the engine page. -/
def Map.engine : List RegDesc := [
  ⟨0x020, 0, 1, 8, 8, 0, 0, 0, 7, false⟩,
  ⟨0x024, 0, 1, 0, 0x206, 0, 0, 0, 0, false⟩,
  ⟨0x028, 0, 1, 0, 0, 0, 0, 0, 0, true⟩,
  ⟨0x02C, 0, 1, 0, 0xFFF, 0, 0, 0, 0, false⟩,
  ⟨0x030, 0, 1, 0, 0, 0, 0, 0, 0, true⟩,
  ⟨0x034, 0, 1, 0, 0xFFF, 0, 0, 0, 0, false⟩,
  ⟨0x038, 0, 1, 0, 0, 0, 0, 0, 0, true⟩,
  ⟨0x03C, 0, 1, 0, 0, 0, 0, 0, 0, true⟩,
  ⟨0x040, 0, 1, 0, 0, 0, 0, 0, 0, true⟩,
  ⟨0x044, 0, 1, 0, 0xFFFFFF, 0, 0, 0, 0, false⟩,
  ⟨0x048, 0, 1, 0, 0, 0, 0, 0, 0, true⟩,
  ⟨0x04C, 0, 1, 0, 0x80000FFF, 0, 0, 0, 0, false⟩,
  ⟨0x050, 0, 1, 0, 0x80000FFF, 0, 0, 0, 0, false⟩,
  ⟨0x054, 0, 1, 0, 0xFF, 0, 0, 0, 0, false⟩,
  ⟨0x058, 0, 1, 0, 0xFFFFFFFF, 0, 0, 0, 0, false⟩,
  ⟨0x05C, 0, 1, 0, 0, 0, 0, 0, 0, true⟩,
  ⟨0x060, 0, 1, 0, 0, 0, 0, 0, 0, true⟩,
  ⟨0x064, 0, 1, 0, 0, 0, 0, 0, 0x80000000, true⟩,
  ⟨0x080, 4, 16, 0, 0xFFFFFFFF, 0, 0, 0, 0, false⟩,
  ⟨0x0C0, 0, 1, 0, 0, 0, 0, 0, 0xF, false⟩,
  ⟨0x0C4, 0, 1, 0, 0, 0, 1, 0, 0, false⟩,
  ⟨0x0C8, 0, 1, 0, 0x7F, 0, 0, 0, 0, false⟩,
  ⟨0x0CC, 0, 1, 0, 0, 0, 0, 0, 0, true⟩,
  ⟨0x0D0, 0, 1, 0, 0, 0, 0, 0, 0xFFFFFFFF, false⟩,
  ⟨0x100, 4, 16, 0, 0, 0, 0, 0, 0, false⟩]

/-- The registers of the track page. -/
def Map.track : List RegDesc := [
  ⟨0x020, 0, 1, 0, 1, 0, 0, 0, 6, false⟩,
  ⟨0x024, 0, 1, 0, 0, 0, 0, 0, 0, true⟩,
  ⟨0x028, 0, 1, 0x640, 0xFFFF, 0, 0, 0, 0, false⟩,
  ⟨0x02C, 0, 1, 0x10000, 0xFFFFF, 0, 0, 0, 0, false⟩,
  ⟨0x030, 4, 8, 0, 0, 0x1FF00FF, 0, 0, 0, false⟩,
  ⟨0x050, 0, 1, 0, 0, 0, 0, 0, 0, true⟩,
  ⟨0x054, 0, 1, 0, 0, 0, 0, 0, 0, true⟩,
  ⟨0x058, 0, 1, 0, 0, 0, 0, 0, 0, true⟩,
  ⟨0x05C, 0, 1, 0, 0, 0, 0, 0, 0x80000000, true⟩,
  ⟨0x060, 0, 1, 0, 0, 0, 0, 0, 0, true⟩,
  ⟨0x064, 0, 1, 0x88B6, 0xFFFF, 0, 0, 0, 0, false⟩,
  ⟨0x068, 0, 1, 0x203, 0, 0, 0, 0, 0, false⟩]

/-- The registers of the handover page. -/
def Map.handover : List RegDesc := [
  ⟨0x020, 0, 1, 0, 7, 0, 0, 0, 0, false⟩,
  ⟨0x024, 0, 1, 0, 0xFFFF, 0, 0, 0, 0, false⟩,
  ⟨0x028, 0, 1, 0, 0xFFFFFFFF, 0, 0, 0, 0, false⟩,
  ⟨0x02C, 0, 1, 0, 0xFFFFFFFF, 0, 0, 0, 0, false⟩,
  ⟨0x030, 0, 1, 0, 0xFFFFFFFF, 0, 0, 0, 0, false⟩,
  ⟨0x034, 0, 1, 0, 0xFFFFFFFF, 0, 0, 0, 0, false⟩,
  ⟨0x038, 0, 1, 0, 0xFFFFFFFF, 0, 0, 0, 0, false⟩,
  ⟨0x03C, 0, 1, 0, 0xFFFFFFFF, 0, 0, 0, 0, false⟩,
  ⟨0x040, 0, 1, 0, 0xFFFF, 0, 0, 0, 0, false⟩,
  ⟨0x044, 0, 1, 0, 0xFFFFFFFF, 0, 0, 0, 0, false⟩,
  ⟨0x048, 0, 1, 0, 0xFFFF, 0, 0, 0, 0, false⟩,
  ⟨0x04C, 0, 1, 0x271003E8, 0xFFFFFFFF, 0, 0, 0, 0, false⟩,
  ⟨0x050, 0, 1, 0x7D0, 0xFFFF, 0, 0, 0, 0, false⟩,
  ⟨0x054, 0, 1, 0, 0xBF3F0100, 0, 0, 0, 0, false⟩,
  ⟨0x058, 0, 1, 0, 0xFFFFFFFF, 0, 0, 0, 0, false⟩,
  ⟨0x05C, 0, 1, 0, 0xFFFFFFFF, 0, 0, 0, 0, false⟩,
  ⟨0x060, 0, 1, 0, 0, 0, 0, 0, 0, true⟩,
  ⟨0x064, 0, 1, 0, 0, 0, 0, 0, 0, true⟩,
  ⟨0x068, 0, 1, 0, 0, 0, 0, 0, 0x80000000, true⟩,
  ⟨0x06C, 0, 1, 0, 0, 0, 0, 0, 0x80000000, true⟩,
  ⟨0x070, 0, 1, 0, 0, 0, 0, 0, 0x80000000, true⟩,
  ⟨0x074, 0, 1, 0, 0, 0, 0, 0, 0x80000000, true⟩,
  ⟨0x078, 0, 1, 0, 0, 0, 0, 0, 0x80000000, true⟩]

/-- The registers of the trace page. -/
def Map.trace : List RegDesc := [
  ⟨0x020, 4, 8, 0, 0, 0xFF007F, 0, 0, 0, false⟩,
  ⟨0x040, 0, 1, 0, 0, 0, 0, 0, 0x80000000, true⟩,
  ⟨0x044, 0, 1, 0, 0, 0, 0, 0, 0, true⟩,
  ⟨0x048, 0, 1, 0, 0, 0, 0, 0, 0, true⟩]

/-- The registers of the trc page. -/
def Map.trc : List RegDesc := [
  ⟨0x020, 0, 1, 0, 0, 0, 0, 0, 7, false⟩,
  ⟨0x024, 0, 1, 0, 0, 0, 0, 0, 0, true⟩,
  ⟨0x028, 0, 1, 0, 0xFFF07FF, 0, 0, 0, 0, false⟩,
  ⟨0x02C, 0, 1, 0, 0xFFFFF, 0, 0, 0, 0, false⟩,
  ⟨0x030, 0, 1, 0, 0xFFFFF, 0, 0, 0, 0, false⟩,
  ⟨0x034, 0, 1, 0, 0xFFFFFFFF, 0, 0, 0, 0, false⟩,
  ⟨0x038, 0, 1, 0, 0xFFFFFFFF, 0, 0, 0, 0, false⟩,
  ⟨0x03C, 0, 1, 0, 0xFFFFFFFF, 0, 0, 0, 0, false⟩,
  ⟨0x040, 0, 1, 0, 0xFFFFFFFF, 0, 0, 0, 0, false⟩,
  ⟨0x044, 0, 1, 0, 0, 0, 0, 0, 0, true⟩,
  ⟨0x048, 0, 1, 0, 0, 0, 0, 0, 0, true⟩,
  ⟨0x04C, 0, 1, 0, 0, 0, 0, 0, 0, true⟩,
  ⟨0x050, 0, 1, 0, 0, 0, 0, 0, 0, true⟩,
  ⟨0x054, 0, 1, 0, 0, 0, 0, 0, 0, true⟩,
  ⟨0x058, 0, 1, 0, 0, 0, 0, 0, 0x80000000, true⟩,
  ⟨0x080, 4, 16, 0, 0x8F3F3FFF, 0, 0, 0, 0, false⟩]

/-- The registers of the tooth page. -/
def Map.tooth : List RegDesc := [
  ⟨0x020, 0, 1, 0, 0xFFFF3D, 0, 0, 0, 2, false⟩,
  ⟨0x024, 0, 1, 0x60, 0x7FF, 0, 0, 0, 0, false⟩,
  ⟨0x028, 0, 1, 0, 0xFFFFFFFF, 0, 0, 0, 0, false⟩,
  ⟨0x02C, 0, 1, 0x7A120, 0xFFFFFF, 0, 0, 0, 0, false⟩,
  ⟨0x030, 0, 1, 0, 0, 0, 0, 0, 0, true⟩,
  ⟨0x034, 0, 1, 0, 0, 0, 0, 0, 0, true⟩,
  ⟨0x038, 0, 1, 0, 0, 0, 0, 0, 0, true⟩,
  ⟨0x03C, 0, 1, 0, 0, 0, 0, 0, 0, true⟩,
  ⟨0x040, 0, 1, 0, 0, 0, 0, 0, 0, true⟩,
  ⟨0x044, 0, 1, 0, 0, 0, 0, 0, 0, true⟩,
  ⟨0x048, 0, 1, 0, 0, 0, 0, 0, 0x80000000, true⟩,
  ⟨0x04C, 0, 1, 0, 0, 0, 0, 0, 0x80000000, true⟩,
  ⟨0x050, 0, 1, 0, 0, 0, 0, 0, 0x80000000, true⟩,
  ⟨0x054, 0, 1, 0, 0, 0, 0, 0, 0, true⟩]

/-- The registers of the trunk page. -/
def Map.trunk : List RegDesc := [
  ⟨0x020, 0, 1, 0, 0x3F0D, 0, 0, 0, 0x10000, false⟩,
  ⟨0x024, 0, 1, 0, 0, 0, 0, 0, 0, true⟩,
  ⟨0x028, 0, 1, 0, 0xFFFFFFFF, 0, 0, 0, 0, false⟩,
  ⟨0x02C, 0, 1, 0, 0xFFFFFFFF, 0, 0, 0, 0, false⟩,
  ⟨0x030, 0, 1, 0, 0xFFFFFFFF, 0, 0, 0, 0, false⟩,
  ⟨0x034, 0, 1, 0, 0xFFFFFFFF, 0, 0, 0, 0, false⟩,
  ⟨0x038, 0, 1, 0, 0xFFFFFFFF, 0, 0, 0, 0, false⟩,
  ⟨0x03C, 0, 1, 0, 0xFFFFFFFF, 0, 0, 0, 0, false⟩,
  ⟨0x040, 0, 1, 0, 0xFFFFFFFF, 0, 0, 0, 0, false⟩,
  ⟨0x044, 8, 4, 0, 0xFFFFFFFF, 0, 0, 0, 0, false⟩,
  ⟨0x048, 8, 4, 0, 0xFFFFFFFF, 0, 0, 0, 0, false⟩,
  ⟨0x064, 0, 1, 0, 0, 0, 0, 0, 0xFFFFFFFF, false⟩,
  ⟨0x068, 0, 1, 0, 0, 0, 0x1F, 0, 0, false⟩,
  ⟨0x06C, 0, 1, 0, 0, 0, 0, 0, 0, true⟩,
  ⟨0x070, 0, 1, 0, 0, 0, 0, 0, 0, true⟩,
  ⟨0x074, 0, 1, 0, 0, 0, 0, 0, 0, true⟩,
  ⟨0x078, 0, 1, 0, 0, 0, 0, 0, 0, true⟩,
  ⟨0x07C, 0, 1, 0, 0, 0, 0, 0, 0, true⟩,
  ⟨0x080, 0, 1, 0, 0, 0, 0, 0, 0, true⟩,
  ⟨0x084, 0, 1, 0, 0, 0, 0, 0, 0xFFFFFFFF, true⟩,
  ⟨0x088, 0, 1, 0, 0, 0, 0, 0, 0, true⟩,
  ⟨0x08C, 0, 1, 1, 0xFFFFFFFF, 0, 0, 0, 0, false⟩]

/-- The registers of the rgn page. -/
def Map.rgn : List RegDesc := [
  ⟨0x020, 4, 8, 0, 0xFFFFFFFF, 0, 0, 0, 0, false⟩,
  ⟨0x040, 0, 1, 0, 0x703FFFF, 0, 0, 0, 0x80000000, false⟩,
  ⟨0x044, 0, 1, 0, 0, 0, 0, 0, 0, true⟩,
  ⟨0x048, 0, 1, 0, 0x7F01, 0, 0, 0, 0, false⟩,
  ⟨0x04C, 0, 1, 0, 0, 0, 0, 0, 0, true⟩,
  ⟨0x050, 0, 1, 0, 0, 0, 0, 0, 0, true⟩,
  ⟨0x054, 4, 4, 0, 0, 0, 0, 0, 0, false⟩,
  ⟨0x064, 0, 1, 0, 0, 0, 0, 0, 0xFFFFFFFF, false⟩,
  ⟨0x068, 0, 1, 0, 0, 0, 0, 0, 0x80000000, true⟩]

/-- The registers of the lane page. -/
def Map.lane : List RegDesc := [
  ⟨0x020, 0, 1, 0, 1, 0, 0, 0, 0, false⟩,
  ⟨0x024, 0, 1, 0xC8, 0xFFF, 0, 0, 0, 0, false⟩,
  ⟨0x028, 0, 1, 0x2710, 0xFFFFF, 0, 0, 0, 0, false⟩,
  ⟨0x02C, 0, 1, 0, 0xFFFF, 0, 0, 0, 0, false⟩,
  ⟨0x030, 0, 1, 0, 0x1BF, 0, 0, 0, 0, false⟩,
  ⟨0x034, 0, 1, 0, 0, 0, 0, 0, 0, true⟩,
  ⟨0x038, 0, 1, 0, 0, 0, 0, 0, 0, true⟩,
  ⟨0x03C, 0, 1, 0, 0, 0, 0, 0, 0x80000000, true⟩,
  ⟨0x040, 0, 1, 0, 0, 0, 0, 0, 0x80000000, true⟩,
  ⟨0x044, 0, 1, 0, 0, 0, 0, 0, 0x80000000, true⟩,
  ⟨0x048, 0, 1, 0, 0, 0, 0, 0, 0x80000000, true⟩,
  ⟨0x04C, 0, 1, 0, 0, 0, 0, 0, 0x80000000, true⟩,
  ⟨0x050, 0, 1, 0, 0, 0, 0, 0, 0x80000000, true⟩,
  ⟨0x054, 0, 1, 0, 0, 0, 0, 0, 0x80000000, true⟩,
  ⟨0x058, 0, 1, 0, 0, 0, 0, 0, 0x80000000, true⟩]

/-- The registers of the fsch page. -/
def Map.fsch : List RegDesc := [
  ⟨0x020, 4, 16, 0, 0, 0x1F, 0, 0, 0, false⟩,
  ⟨0x060, 0, 1, 0, 0, 0, 0, 0, 0x80000000, true⟩,
  ⟨0x100, 32, 16, 0, 0x100, 0, 0, 0, 3, false⟩,
  ⟨0x104, 32, 16, 0, 0xFFFFFFFF, 0, 0, 0, 0, false⟩,
  ⟨0x108, 32, 16, 0, 0xFFFFFFFF, 0, 0, 0, 0, false⟩,
  ⟨0x10C, 32, 16, 0, 0x7FFFFFFF, 0, 0, 0, 0, false⟩,
  ⟨0x110, 32, 16, 0, 0, 0, 0xF, 0, 0, false⟩]

/-- The register map of a page kind. -/
def regMap : PageKind → List RegDesc
  | .sys => Map.sys
  | .clk => Map.clk
  | .time => Map.time
  | .fault => Map.fault
  | .dom => Map.dom
  | .pwr => Map.pwr
  | .snap => Map.snap
  | .trig => Map.trig
  | .safe => Map.safe
  | .amber => Map.amber
  | .host => Map.host
  | .loop => Map.loop
  | .profile => Map.profile
  | .fb => Map.fb
  | .pwm => Map.pwm
  | .link => Map.link
  | .carrier => Map.carrier
  | .gate => Map.gate
  | .adc => Map.adc
  | .fio => Map.fio
  | .chop => Map.chop
  | .timers => Map.timers
  | .net => Map.net
  | .switch => Map.switch
  | .netq => Map.netq
  | .grove => Map.grove
  | .loopunit => Map.loopunit
  | .engine => Map.engine
  | .track => Map.track
  | .handover => Map.handover
  | .trace => Map.trace
  | .trc => Map.trc
  | .tooth => Map.tooth
  | .trunk => Map.trunk
  | .rgn => Map.rgn
  | .lane => Map.lane
  | .fsch => Map.fsch

/-- TYPE of a page kind (Table 19-4). -/
def pageType : PageKind → Nat
  | .sys => 0x1
  | .clk => 0x2
  | .time => 0x3
  | .fault => 0x4
  | .dom => 0x5
  | .pwr => 0x6
  | .snap => 0x7
  | .trig => 0x8
  | .safe => 0x9
  | .amber => 0xA
  | .host => 0xB
  | .loop => 0x10
  | .profile => 0x11
  | .fb => 0x12
  | .pwm => 0x13
  | .link => 0x20
  | .carrier => 0x21
  | .gate => 0x22
  | .adc => 0x23
  | .fio => 0x24
  | .chop => 0x25
  | .timers => 0x26
  | .net => 0x30
  | .switch => 0x31
  | .netq => 0x32
  | .grove => 0x40
  | .loopunit => 0x41
  | .engine => 0x42
  | .track => 0x50
  | .handover => 0x51
  | .trace => 0x60
  | .trc => 0x61
  | .tooth => 0x54
  | .trunk => 0x55
  | .rgn => 0x52
  | .lane => 0x53
  | .fsch => 0x56

/-- Base, stride and number of instances of a page kind (Table 19-4). The engine control pages follow R8. -/
def pagePlace : PageKind → Nat × Nat × Nat
  | .sys => (0x0, 0x0, 1)
  | .clk => (0x1000, 0x0, 1)
  | .time => (0x2000, 0x0, 1)
  | .fault => (0x3000, 0x0, 1)
  | .dom => (0x4000, 0x0, 1)
  | .pwr => (0x5000, 0x0, 1)
  | .snap => (0x6000, 0x0, 1)
  | .trig => (0x7000, 0x0, 1)
  | .safe => (0x8000, 0x0, 1)
  | .amber => (0x9000, 0x0, 1)
  | .host => (0xA000, 0x0, 1)
  | .loop => (0x100000, 0x4000, 64)
  | .profile => (0x101000, 0x4000, 64)
  | .fb => (0x102000, 0x4000, 64)
  | .pwm => (0x103000, 0x4000, 64)
  | .link => (0x200000, 0x10000, 8)
  | .carrier => (0x201000, 0x10000, 8)
  | .gate => (0x202000, 0x10000, 8)
  | .adc => (0x203000, 0x10000, 8)
  | .fio => (0x204000, 0x10000, 8)
  | .chop => (0x205000, 0x10000, 8)
  | .timers => (0x206000, 0x10000, 8)
  | .net => (0x280000, 0x1000, 4)
  | .switch => (0x288000, 0x0, 1)
  | .netq => (0x290000, 0x1000, 8)
  | .grove => (0x400000, 0x40000, 16)
  | .loopunit => (0x401000, 0x40000, 16)
  | .engine => (0x420000, 0x0, 512)
  | .track => (0x800000, 0x0, 1)
  | .handover => (0x801000, 0x1000, 8)
  | .trace => (0x810000, 0x0, 1)
  | .trc => (0x811000, 0x1000, 8)
  | .tooth => (0x820000, 0x1000, 16)
  | .trunk => (0x830000, 0x1000, 8)
  | .rgn => (0x840000, 0x1000, 8)
  | .lane => (0x850000, 0x1000, 64)
  | .fsch => (0x890000, 0x1000, 8)

/-- Every page kind. -/
def pageKinds : List PageKind := [.sys, .clk, .time, .fault, .dom, .pwr, .snap, .trig, .safe, .amber, .host, .loop, .profile, .fb, .pwm, .link, .carrier, .gate, .adc, .fio, .chop, .timers, .net, .switch, .netq, .grove, .loopunit, .engine, .track, .handover, .trace, .trc, .tooth, .trunk, .rgn, .lane, .fsch]

/-- Pages that reside on a Slate (R67). -/
def pageOnSlate : PageKind → Bool
  | .sys => false
  | .clk => false
  | .time => false
  | .fault => false
  | .dom => false
  | .pwr => false
  | .snap => false
  | .trig => false
  | .safe => false
  | .amber => false
  | .host => false
  | .loop => false
  | .profile => false
  | .fb => true
  | .pwm => true
  | .link => false
  | .carrier => true
  | .gate => true
  | .adc => true
  | .fio => true
  | .chop => true
  | .timers => true
  | .net => false
  | .switch => false
  | .netq => false
  | .grove => false
  | .loopunit => false
  | .engine => false
  | .track => false
  | .handover => false
  | .trace => false
  | .trc => false
  | .tooth => false
  | .trunk => false
  | .rgn => false
  | .lane => false
  | .fsch => false

/-! PAGE_ERR bits (the "PAGE_ERR bits" tables). -/
abbrev E.clk_REF_LOSS : Nat := 0
abbrev E.clk_SYS_UNLOCK : Nat := 1
abbrev E.clk_LINK_UNLOCK : Nat := 2
abbrev E.clk_SERDES_UNLOCK : Nat := 3
abbrev E.time_UNLOCK : Nat := 0
abbrev E.time_SLATE_MISALIGN : Nat := 1
abbrev E.time_STAGE_COLLIDE : Nat := 2
abbrev E.time_CMT_REJECT : Nat := 3
abbrev E.link_CRC_BAD : Nat := 0
abbrev E.link_LINK_DOWN : Nat := 1
abbrev E.link_LINK_TIMEOUT : Nat := 2
abbrev E.link_SB_DOWN : Nat := 3
abbrev E.link_EVT_OVF : Nat := 4
abbrev E.link_SPILL : Nat := 5
abbrev E.link_RD_FAIL : Nat := 6
abbrev E.link_EVT_LATE : Nat := 7
abbrev E.link_REC_BAD : Nat := 8
abbrev E.carrier_PER_REJECT : Nat := 0
abbrev E.carrier_PER_LATE : Nat := 1
abbrev E.carrier_DL_CAL : Nat := 2
abbrev E.pwm_TRIP_CBC : Nat := 0
abbrev E.pwm_TRIP_LATCH : Nat := 1
abbrev E.pwm_LATE : Nat := 2
abbrev E.chop_CHOP_TRIP : Nat := 0
abbrev E.chop_CHOP_PERSIST_ERR : Nat := 1
abbrev E.chop_SAFE_RUN : Nat := 2
abbrev E.gate_DESAT : Nat := 0
abbrev E.gate_XCOND : Nat := 1
abbrev E.gate_GLOCK : Nat := 2
abbrev E.gate_BST_UV : Nat := 3
abbrev E.gate_VGD_UV : Nat := 4
abbrev E.gate_TON_TMO : Nat := 5
abbrev E.gate_OT_SHUT : Nat := 6
abbrev E.adc_RANGE_I : Nat := 0
abbrev E.adc_RANGE_V : Nat := 1
abbrev E.adc_ISUM : Nat := 2
abbrev E.adc_OT_WARN : Nat := 3
abbrev E.adc_CAL_REFUSED : Nat := 4
abbrev E.fb_HALL_ILLEGAL : Nat := 0
abbrev E.fb_HALL_JUMP : Nat := 1
abbrev E.fb_QUAD : Nat := 2
abbrev E.fb_IDX_MISMATCH : Nat := 3
abbrev E.fb_SER_CHK : Nat := 4
abbrev E.fb_SER_NE : Nat := 5
abbrev E.fb_SER_FAIL : Nat := 6
abbrev E.fb_TURN_OVF : Nat := 7
abbrev E.fb_CFG_REJECT : Nat := 8
abbrev E.tooth_LOST : Nat := 0
abbrev E.tooth_SYNC_LOSS : Nat := 1
abbrev E.tooth_SNAP : Nat := 2
abbrev E.tooth_RETIME : Nat := 3
abbrev E.tooth_NOISE : Nat := 4
abbrev E.tooth_VIRTUAL : Nat := 5
abbrev E.loop_GRAPH_REJ : Nat := 0
abbrev E.loop_DESC_WP : Nat := 1
abbrev E.loop_WBUF_OVF : Nat := 2
abbrev E.loop_ECALL_TMO : Nat := 3
abbrev E.loop_ECALL_RATE : Nat := 4
abbrev E.loop_POS_INV : Nat := 5
abbrev E.loopunit_LAG : Nat := 0
abbrev E.loopunit_OVERRUN : Nat := 4
abbrev E.loopunit_RANGE_OVL : Nat := 8
abbrev E.grove_SHM_CE : Nat := 0
abbrev E.grove_SHM_UE : Nat := 1
abbrev E.engine_MEM_CE : Nat := 0
abbrev E.engine_MEM_UE : Nat := 1
abbrev E.engine_DOUBLE : Nat := 2
abbrev E.engine_WDOG : Nat := 3
abbrev E.engine_IMEM_WP : Nat := 4
abbrev E.engine_CALL_DROP : Nat := 5
abbrev E.profile_CMD_REJ : Nat := 0
abbrev E.profile_CANCEL : Nat := 1
abbrev E.profile_GRP_BREAK : Nat := 2
abbrev E.trunk_SEG_REJ : Nat := 0
abbrev E.trunk_SEG_STEP : Nat := 1
abbrev E.trunk_SNAP_STEP : Nat := 2
abbrev E.trunk_INVALID : Nat := 3
abbrev E.trunk_CLAMP : Nat := 4
abbrev E.track_REC_CE : Nat := 0
abbrev E.track_REC_UE : Nat := 1
abbrev E.track_RGN_OVL : Nat := 2
abbrev E.rgn_CMD_REJ : Nat := 0
abbrev E.rgn_RPT_OVF : Nat := 1
abbrev E.lane_MISSED : Nat := 0
abbrev E.lane_SUSPECT : Nat := 1
abbrev E.lane_INHIBIT : Nat := 2
abbrev E.lane_CAPACITY : Nat := 3
abbrev E.lane_BUF_FULL : Nat := 4
abbrev E.lane_LATE_FIRE : Nat := 5
abbrev E.lane_NOT_SEEN : Nat := 6
abbrev E.lane_UNEXP : Nat := 7
abbrev E.handover_SESSION_DOWN : Nat := 0
abbrev E.handover_VER_MISMATCH : Nat := 1
abbrev E.handover_IN_DOUBT : Nat := 2
abbrev E.handover_REFUSED : Nat := 3
abbrev E.handover_DROP : Nat := 4
abbrev E.fio_SHORT : Nat := 0
abbrev E.fio_OPEN : Nat := 1
abbrev E.fio_MISMATCH : Nat := 2
abbrev E.fio_RANGE : Nat := 3
abbrev E.fio_STUCK : Nat := 4
abbrev E.fio_VFIELD_UV : Nat := 5
abbrev E.fio_SCH_LATE : Nat := 6
abbrev E.fio_SCH_DROP : Nat := 7
abbrev E.fio_CFG_LOCK : Nat := 8
abbrev E.fsch_INHIBIT : Nat := 0
abbrev E.fsch_MAP_OVL : Nat := 1
abbrev E.net_LINK_DOWN : Nat := 0
abbrev E.net_TSQ_OVF : Nat := 1
abbrev E.net_LAUNCH_LATE : Nat := 2
abbrev E.net_LAUNCH_INH : Nat := 3
abbrev E.net_CBS_REJ : Nat := 4
abbrev E.net_STOMP : Nat := 5
abbrev E.switch_BUF_CE : Nat := 0
abbrev E.switch_BUF_UE : Nat := 1
abbrev E.switch_RING_OPEN : Nat := 2
abbrev E.switch_MGR_CONFLICT : Nat := 3
abbrev E.switch_RSV_REJ : Nat := 4
abbrev E.netq_RX_DROP : Nat := 0
abbrev E.netq_TX_REFUSED : Nat := 1
abbrev E.netq_RING_CFG : Nat := 2
abbrev E.safe_CHA_FAULT : Nat := 0
abbrev E.safe_FLINT_FAULT : Nat := 1
abbrev E.safe_CLOCK : Nat := 2
abbrev E.safe_MISMATCH : Nat := 3
abbrev E.safe_PAIR : Nat := 4
abbrev E.safe_DSC_EXP : Nat := 5
abbrev E.safe_DSC_REJ : Nat := 6
abbrev E.safe_CFG : Nat := 7
abbrev E.safe_DEMAND : Nat := 8
abbrev E.safe_LIMIT : Nat := 9
abbrev E.safe_BRAKE : Nat := 10
abbrev E.fault_PR_CORR : Nat := 0
abbrev E.fault_PR_CONT : Nat := 1
abbrev E.fault_PR_FATAL : Nat := 2
abbrev E.fault_LOG_LOST : Nat := 3
abbrev E.fault_PR_DROP : Nat := 4
abbrev E.trace_TRC_CE : Nat := 0
abbrev E.trace_TRC_UE : Nat := 1
abbrev E.trace_RGN_OVL : Nat := 2
abbrev E.trc_LOST : Nat := 0
abbrev E.trc_REFUSED : Nat := 1
abbrev E.trc_INHIB : Nat := 2
abbrev E.trig_IN_OVF : Nat := 0
abbrev E.trig_BUS_OVF : Nat := 1
abbrev E.trig_CAL_FAIL : Nat := 2
abbrev E.trig_INHIB : Nat := 3
abbrev E.snap_LOST : Nat := 0
abbrev E.snap_LATE : Nat := 1
abbrev E.snap_MISS : Nat := 2
abbrev E.snap_INHIB : Nat := 3
abbrev E.dom_REFUSED : Nat := 0
abbrev E.dom_VEC_REFUSED : Nat := 1
abbrev E.dom_LOCKED_WR : Nat := 2
abbrev E.dom_SUM_REJ : Nat := 3
abbrev E.amber_CE : Nat := 0
abbrev E.amber_UE : Nat := 1
abbrev E.amber_CMD_FAIL : Nat := 2
abbrev E.amber_FELL_BACK : Nat := 3
abbrev E.amber_IMG_BAD : Nat := 4
abbrev E.sys_SRAM_CE : Nat := 0
abbrev E.sys_SRAM_UE : Nat := 1
abbrev E.pwr_SAG : Nat := 0
abbrev E.pwr_SAVE_FAIL : Nat := 1
abbrev E.pwr_HOLD_LOW : Nat := 2
abbrev E.pwr_REST_SKIP : Nat := 3
abbrev E.host_WIDTH : Nat := 0
abbrev E.host_UNMAPPED : Nat := 1
abbrev E.host_RD_UE : Nat := 2
abbrev E.host_DMA_WIN : Nat := 3
abbrev E.host_DMA_TMO : Nat := 4
abbrev E.host_LINK_DOWN : Nat := 5
abbrev E.host_MGMT_REJ : Nat := 6

/-- PAGE_ERR_CLASS of a page kind: 0b01 corrected, 0b10 contained, 0b11 fatal (R429). -/
def errClasses : PageKind → Nat
  | .sys => 0xD
  | .clk => 0xBE
  | .time => 0x5A
  | .fault => 0x179
  | .dom => 0x55
  | .pwr => 0x6A
  | .snap => 0x65
  | .trig => 0x55
  | .safe => 0x29DABF
  | .amber => 0x299
  | .host => 0x1A65
  | .loop => 0x695
  | .profile => 0x25
  | .fb => 0x169AA
  | .pwm => 0x19
  | .link => 0x156A9
  | .carrier => 0x25
  | .gate => 0x26AA
  | .adc => 0x16A
  | .fio => 0x159A6
  | .chop => 0x19
  | .timers => 0
  | .net => 0x556
  | .switch => 0x1A9
  | .netq => 0x15
  | .grove => 9
  | .loopunit => 0x1AAAA
  | .engine => 0x5A9
  | .track => 0x19
  | .handover => 0x1AA
  | .trace => 0x19
  | .trc => 0x15
  | .tooth => 0x56A
  | .trunk => 0x1A9
  | .rgn => 5
  | .lane => 0x555A
  | .fsch => 5

/-- The page an address lies in, and its instance (R431, R8). -/
def pageAt (a : Nat) : Option (PageKind × Nat) :=
  let b := a - a % 0x1000
  pageKinds.findSome? fun k =>
    let (base, stride, n) := pagePlace k
    if b < base then none
    else
      let r := b - base
      if k = .engine then
        if r / 0x40000 < 16 ∧ r % 0x40000 / 0x1000 < 32 then some (k, 32 * (r / 0x40000) + r % 0x40000 / 0x1000)
        else none
      else if stride = 0 then (if r = 0 then some (k, 0) else none)
      else if r % stride = 0 ∧ r / stride < n then some (k, r / stride) else none

/-- Base address of page instance `i`. -/
def pageBase (k : PageKind) (i : Nat) : Nat :=
  if k = .engine then P.engine i else (pagePlace k).1 + (pagePlace k).2.1 * i

/-- Does the entry of the map cover page offset `o`? -/
def RegDesc.covers (d : RegDesc) (o : Nat) : Bool :=
  if d.count ≤ 1 then o == d.off
  else decide (d.off ≤ o) && (o - d.off) % d.stride == 0 && decide ((o - d.off) / d.stride < d.count)

/-- The map entry of a page offset. -/
def regAt (k : PageKind) (o : Nat) : Option RegDesc := (regMap k).find? (·.covers o)

/-- The value a register page offset holds at reset: the header by R429, every register by its page map. -/
def pageReset (k : PageKind) (i o : Nat) : Nat :=
  if o = R.PAGE_ID then pageType k <<< 16 ||| (if k = .engine then i % 32 else i) <<< 8 ||| 1
  else if o = R.PAGE_VER then 0x0100
  else if o = R.PAGE_CTRL then 1
  else if o = R.PAGE_ERR_CLASS then errClasses k
  else match regAt k o with
    | none => 0
    | some d => if k = .loopunit ∧ 0x050 ≤ o ∧ o < 0x060 then 32 <<< 16 ||| 32 * ((o - 0x050) / 4) else d.reset

/-- The value a BAR0 register address holds at reset; 0 where there is no register (R11, R428). -/
def resetVal (a : Nat) : Nat :=
  match pageAt a with
  | none => 0
  | some (k, i) => pageReset k i (a % 0x1000)

end Sys2Proof.Machine
end

