-- ==== Sys2Proof/Machine/State.lean ====
section
/-! DEFINITION. The machine's state as plain data, the reasons a step can stop, and the state after reset.
Registers that BAR0 shows live in `regs`; the structures below hold the state no register shows. Every default value is
the value at reset; where the spec gives none the assumption log (entry 10) names it. -/
namespace Sys2Proof.Machine
open Sys2Proof

/-- Why a step stops with a fault: never. The spec gives every command of this block an effect, so the type has no
constructor (nothing raises it; safe). -/
inductive Fault where
  deriving DecidableEq, Repr

/-- Why a step is refused. -/
inductive Refusal where
  /-- Raised by a dispatch arm that has no meaning yet; safe. -/
  | notModelled (mnemonic : String)
  deriving DecidableEq, Repr

/-- Registers that differ from their reset value, by BAR0 address, ascending. -/
abbrev RegFile := List (Nat × Word)

/-- Bytes that differ from the byte an unlisted address reads as, ascending. -/
abbrev Mem := List Host.Cell

/-- The answer of a requester's latest access: who asked, the data and whether the access was refused. -/
structure Resp where
  req : Nat := 0
  addr : Nat := 0
  data : Nat := 0
  refused : Bool := false
  deriving DecidableEq, Repr

/-- The ordering code (R2, R3) and the straps. -/
structure Device where
  bv3204 : Bool := false
  xa : Bool := false
  refStrap : Bool := false
  deriving DecidableEq, Repr

/-! Clocks and time base (chapter 2). -/

/-- One commit of device time (R38, R42): base time `b` in units of 2⁻³² ns modulo 2⁴⁸ s, base tick, increment. -/
structure Commit where
  b : Nat := 0
  tc : Nat := 0
  inc : Nat := 0x333333333
  deriving DecidableEq, Repr

/-- The latch set of one requester (R40): high word of the tick, and a time with the tick of its read. -/
structure TimeLatch where
  tickHi : Nat := 0
  time : Nat := 0
  tick : Nat := 0
  deriving DecidableEq, Repr

/-- The time unit and the clock unit. `commits` holds the commit in force first and at most four. -/
structure TimeState where
  tick : Nat := 0
  commits : List Commit := [{}]
  latch : Vector TimeLatch 514 := Vector.replicate 514 {}
  pend : Option Nat := none
  holdEnd : Option Nat := none
  masterOk : Bool := false
  locPresent : Bool := true
  cabPresent : Bool := true
  holdStart : Option Nat := none
  deriving DecidableEq, Repr

/-! Records and frames of the barrier links (chapter 3). Numbers carry the widths of Tables 3-2 to 3-7. -/

/-- A SAMPLE record (Table 3-5). `stamp` is a full tick; the frame carries its low 16 bits. -/
structure SampleRec where
  ax : Nat := 0
  edge : Bool := false
  tag : Nat := 0
  stamp : Nat := 0
  iu : Nat := 0
  iv : Nat := 0
  iw : Nat := 0
  vbus : Nat := 0
  pos : Nat := 0
  flags : Nat := 0
  wrap : Nat := 0
  deriving DecidableEq, Repr

/-- A FEEDBACK record (Table 3-4, Table 6-5). -/
structure FbRec where
  ax : Nat := 0
  status : Nat := 0
  pos : Nat := 0
  turn : Nat := 0
  int : Nat := 0
  tick : Nat := 0
  deriving DecidableEq, Repr

/-- An EVENT record (R70); `stamp` is the Slate tick. -/
structure EvRec where
  unal : Bool := false
  level : Bool := false
  ch : Nat := 0
  stamp : Nat := 0
  deriving DecidableEq, Repr

/-- Downstream records (Table 3-4); `undef`: a type the table does not define, or a record running past byte 61 (R59). -/
inductive DnRec where
  | compare (ax tag u v w : Nat)
  | outSched (level : Bool) (target tick : Nat)
  | regWr (off data mask : Nat)
  | regRd (tag off : Nat)
  | tickHi (hi : Nat)
  | undef
  deriving DecidableEq, Repr

/-- Upstream records (Table 3-4). -/
inductive UpRec where
  | sample (r : SampleRec)
  | event (r : EvRec)
  | field (ins diag : Nat)
  | feedback (r : FbRec)
  | regData (tag off data status : Nat)
  | undef
  deriving DecidableEq, Repr

/-- One receiver of a main link (R62, R63): its direction's state, counts, and silence timing. -/
structure RxDir where
  up : Bool := false
  good : Nat := 0
  bad : Nat := 0
  seq : Option Nat := none
  last : Nat := 0
  ever : Bool := false
  fired : Bool := false
  tmo : Nat := 6250
  deriving DecidableEq, Repr

/-- A forwarded read (R67): its read tag, BAR0 address, requester and the tick it was forwarded at. -/
structure FwdRead where
  tag : Nat := 0
  addr : Nat := 0
  req : Nat := 0
  at_ : Nat := 0
  deriving DecidableEq, Repr

/-- Marker exchange of R44 and MK_TURN of Table 3-3. -/
structure Marker where
  active : Bool := false
  sent : Option Nat := none
  arr : Option Nat := none
  cnt : Nat := 0
  sum : Nat := 0
  last : Nat := 0
  known : Bool := false
  deriving DecidableEq, Repr

/-- The main link of one Slate: receivers, sequence counters, record queues of both ends (R60; with the tick a
record was queued at, and whether LINK_SPILL has counted it), forwarded reads and the replay. `dnWire` and `upWire` are the last frames sent. -/
structure LinkState where
  dn : RxDir := {}
  up : RxDir := {}
  seqDn : Nat := 0
  seqUp : Nat := 0
  mark : Marker := {}
  cmpq : List (Nat × DnRec × Bool) := []
  outq : List DnRec := []
  hiPend : Bool := false
  regq : List DnRec := []
  smpq : List (Nat × SampleRec × Bool) := []
  evq : List EvRec := []
  fieldPend : Bool := true
  sinceField : Nat := 0
  fbq : List (Nat × FbRec) := []
  sinceFb : Nat := 0
  rdq : List UpRec := []
  reads : List FwdRead := []
  waiting : List FwdRead := []
  rdTag : Nat := 0
  replayTag : Option Nat := none
  dnAt : Option Nat := none
  upAt : Option Nat := none
  dnWire : List Byte := []
  upWire : List Byte := []
  deriving DecidableEq, Repr

/-- A sideband link (R68, R69): both ends. At Flint `pts`, `halls`, `backs`, `stat` hold the last good
frame, and `gsCmd`, `tMask` what Flint sends. -/
structure Sideband where
  seqS : Nat := 0
  seqF : Nat := 0
  rxSeq : Option Nat := none
  lastGood : Nat := 0
  up : Bool := false
  testMask : Nat := 0
  fSeq : Option Nat := none
  fLast : Nat := 0
  fUp : Bool := false
  pts : Nat := 0
  halls : Nat := 0
  backs : Nat := 0
  stat : Nat := 0
  gsCmd : Bool := false
  tMask : Nat := 0
  wireS : List Byte := []
  wireF : List Byte := []
  deriving DecidableEq, Repr

/-! PWM generators, trip logic, chopper and timers (chapter 4). Instants are in taps on the Slate tick scale. -/

/-- The carrier of a Slate (R73, R83): next carrier edge, and the tick condition of a pending apply;
in the replay after a restart, the CARRIER_CTRL held back to its end (R83). -/
structure Carrier where
  next : Nat := 0
  pend : Option (Option Nat) := none
  replayed : Bool := false
  ctrl : Option Nat := none
  deriving DecidableEq, Repr

/-- A timer channel (R93): the window's ticks; pending from its trigger to `openT`, open up to `closeT`. -/
structure TimerCh where
  openT : Nat := 0
  closeT : Nat := 0
  deriving DecidableEq, Repr

/-- A pair of delay lines (R79): which twin drives, and the trims of the two lines. -/
structure DelayPair where
  twin : Bool := false
  trimA : Int := 0
  trimB : Int := 0
  deriving DecidableEq, Repr

/-- The brake chopper (R90-R92). `gate`: commanded on; `offAt`: the tap instant the duty ends; trips of this and earlier
periods; OCP assertion tick. -/
structure Chopper where
  next : Nat := 0
  gate : Bool := false
  offAt : Nat := 0
  tripNow : Bool := false
  tripPrev : Bool := false
  consec : Nat := 0
  ocp : Option Nat := none
  deriving DecidableEq, Repr

/-- Phases of a gate driver (R101, R109): off, waiting under R109, PRE, SLOPE, HOLD. -/
inductive GatePhase where
  | off | wait | pre | slope | hold
  deriving DecidableEq, Repr

/-- One gate output (R101-R111): the command, the phase, the turn-on command's tick, the turn-off command's instant in
taps, the profile and protection captured at turn-on (R104), a GLOCK already reported, the desaturation report's tick. -/
structure GateOut where
  cmd : Bool := false
  ph : GatePhase := .off
  onTick : Nat := 0
  offTap : Nat := 0
  prof : Nat := 0
  prot : Nat := 0
  glock : Bool := false
  desat : Option Nat := none
  deriving DecidableEq, Repr

/-- A half-bridge's PWM side (R75, R76): reference state, the instant the pending turn-on falls due, C1 and C2. -/
structure HalfBridge where
  ref : Bool := false
  onAt : Nat := 0
  c1 : Nat := 0
  c2 : Nat := 0
  deriving DecidableEq, Repr

/-- A compare set waiting in the shadow registers (R23), with the Slate tick it entered. -/
structure CmpSet where
  tag : Nat := 0
  u : Nat := 0
  v : Nat := 0
  w : Nat := 0
  arr : Nat := 0
  deriving DecidableEq, Repr

/-- The start sequence of R82: waiting for the conditions, to the next axis edge, precharging up to an instant, precharge
over and waiting for the edge, switching begun. -/
inductive StartSeq where
  | off | armed | toEdge | boot (until_ : Nat) | booted | switching
  deriving DecidableEq, Repr

/-- A PWM axis on its Slate. `edges`: carrier edges whose axis edge is still to come, each with the T
of its period; `perT` is 0 from a start of the carrier to the axis edge; `smpN`, `smpAt`: sampling instants since the carrier last started, and the last one in taps; `act`: the
half-bridges switch. -/
structure PwmAxis where
  phase : Nat := 0
  stagedPhase : Bool := false
  dt : Nat := 400
  minon : Nat := 0
  edges : List (Nat × Nat) := []
  perStart : Nat := 0
  perT : Nat := 0
  updEdge : Bool := false
  updCentre : Bool := false
  tag : Nat := 0
  smpN : Nat := 0
  smpAt : Nat := 0
  act : Bool := false
  held : SampleRec := {}
  conv : Bool := false
  smpCnt : Nat := 0
  hb : Vector HalfBridge 3 := Vector.replicate 3 {}
  sets : List CmpSet := []
  start : StartSeq := .off
  firstUpd : Bool := false
  since : Vector (Option Nat) 3 := Vector.replicate 3 none
  ocpPh : Nat := 0
  tripPer : Bool := false
  run : Bool := false
  cal : Bool := false
  deriving DecidableEq, Repr

/-! Position feedback (chapter 6). -/

/-- A primary feedback port (R122-R140). `hall` is the filtered land state before HALL_PERM. -/
structure FbPort where
  p : Nat := 0
  turn : Int := 0
  hall : Nat := 0
  href : Option Nat := none
  a : Bool := false
  b : Bool := false
  w : Nat := 4096
  pendW : Option Nat := none
  lastChange : Nat := 0
  lastInt : Nat := 0
  moved : Bool := false
  lastIdx : Option Nat := none
  serBusy : Bool := false
  serEnd : Nat := 0
  serEver : Bool := false
  reqTick : Nat := 0
  reqGood : Bool := false
  reqLatest : Bool := false
  reqDue : Bool := false
  reqCnt : Nat := 0
  spdCnt : Nat := 0
  hallBad : Bool := false
  quadBad : Bool := false
  idxSeen : Bool := false
  wrapAt : Bool := false
  wrapNow : Bool := false
  hallCnt : Nat := 0
  deriving DecidableEq, Repr

/-- Granite's speed estimator of an axis (R139): stored pair with its W, the estimate in Q28.4. -/
structure SpeedEst where
  pair : Option (Int × Nat) := none
  w : Nat := 4096
  v : Int := 0
  deriving DecidableEq, Repr

/-! Field points (chapter 12). -/

/-- A field point at its Slate (R279-R291): mode in force, filtered level with the tick of its last accepted change or
entry to input mode, the land as last read, the pulsed qualification, short retries, the tick after which the commanded
level last changed, the tick + 1 of its last scheduled transition. `cfgs`: writes that changed FIO_CFG with the value each
replaced (R297). `pend`: pending transitions of the schedule channel of this number. -/
structure FieldPoint where
  mode : Nat := 0
  lvl : Bool := false
  fresh : Bool := false
  chg : Nat := 0
  stuck : Bool := false
  pulseRun : Nat := 0
  pulseNeed : Nat := 0
  cfgs : List (Nat × Nat) := []
  trAt : Nat := 0
  rangeRun : Nat := 0
  land : Bool := false
  cut : Bool := false
  retries : Nat := 0
  cutAt : Nat := 0
  cmdAt : Nat := 0
  discharge : Bool := false
  pend : List (Nat × Bool) := []
  deriving DecidableEq, Repr

/-- A Slate (chapters 3-6, 12). `tapRef` is the tap reference the alignment of R45 moves; `gen`, `chopEn` are those of the
last applied frame. `claim`: points the safety
configuration claims, with their FIO_CFG, and `claimPair` the claimed pairs; `fmap`: the Slate's copy of FSCH_MAP; `pulseAt`: the last read of a pulse window; `genA`,
`chopA`: channel A's enables in Granite; `gIn`, `gDiag`: Granite's view from FIELD records, and `gAt` the frame start of the last; `snap…`: the snapshot values
of T_s, its tick, and the answer (R378). -/
structure SlateState where
  powered : Bool := false
  safe : Bool := true
  why : Nat := 1
  restart : Bool := false
  tick : Nat := 0
  tapRef : Int := 0
  alignRun : Nat := 0
  aligned : Bool := false
  gen : Nat := 0
  chopEn : Bool := false
  powerTick : Nat := 0
  gsAt : Nat := 0
  vgdRep : Bool := false
  calRun : Bool := false
  link : LinkState := {}
  sb : Sideband := {}
  car : Carrier := {}
  chop : Chopper := {}
  timers : Vector TimerCh 16 := Vector.replicate 16 {}
  dl : Vector DelayPair 49 := Vector.replicate 49 {}
  outs : Vector GateOut 49 := Vector.replicate 49 {}
  xhold : Nat := 0
  fp : Vector FieldPoint 16 := Vector.replicate 16 {}
  claim : Nat := 0
  claimCfg : Vector Nat 16 := Vector.replicate 16 0
  claimPair : Nat := 0
  fmap : Vector Nat 16 := Vector.replicate 16 0
  pulseAt : Nat := 0
  genA : Nat := 0
  chopA : Bool := false
  gIn : Nat := 0
  gDiag : Nat := 0
  gAt : Nat := 0
  snapStash : List (Nat × Nat) := []
  snapTick : Nat := 0
  snapLate : Bool := false
  snapAns : Option Bool := none
  auxPol : Nat := 0
  auxFilt : Vector Nat 2 := Vector.replicate 2 0
  deriving DecidableEq, Repr

/-- A request of a schedule channel through the FSCH page (R292): its first tick, width and level, and how many of its
transitions are withdrawn, sent or inhibited. -/
structure FschReq where
  tau : Nat := 0
  width : Nat := 0
  level : Bool := false
  handled : Nat := 0
  last : Nat := 0
  deriving DecidableEq, Repr

/-- Granite's event log (R71): records held (stamp, Slate, channel, level, unaligned), the last released key, and
the latest released records in order, each with whether it was late. -/
structure EventLog where
  held : List (Nat × Nat × Nat × Bool × Bool) := []
  lastKey : Option (Nat × Nat × Nat) := none
  released : List ((Nat × Nat × Nat × Bool × Bool) × Bool) := []
  deriving DecidableEq, Repr
/-! Tooth units (chapter 6). -/

/-- A published tooth: its edge tick, virtual or real, and the pitches since the tooth before it (m + 1 across the reference). -/
structure ToothRec where
  tick : Nat := 0
  virt : Bool := false
  span : Nat := 1
  deriving DecidableEq, Repr

/-- A tooth unit (R143-R150). `last`, `prev`: the two newest published teeth; `lastReal`: the newest real one; `rej`: the
latest edge rejected since `last`; `outRun`: pitch intervals outside 0.75 to 1.33 in a row; `since`: positions since the
first recognition in SEARCH; `resync`: positions left to return to SYNC (R147); `extra`: tick of a pulse at the extra position;
`refAt`: the latest recognition of the reference; `restored`: no recognition since a restore (R422). -/
structure ToothUnit where
  pos : Nat := 0
  turn : Nat := 0
  texp : Option Nat := none
  last : Option ToothRec := none
  prev : Option ToothRec := none
  lastReal : Option Nat := none
  rej : Option Nat := none
  outRun : Nat := 0
  vrun : Nat := 0
  since : Option Nat := none
  resync : Nat := 0
  extra : Option Nat := none
  refAt : Option Nat := none
  restored : Bool := false
  deriving DecidableEq, Repr

/-- A correction published to the tracking unit (R149, R260): tooth input, SNAP or RETIME, Δ, and the suspect span. -/
structure Correction where
  input : Nat := 0
  snap : Bool := false
  delta : Int := 0
  from_ : Nat := 0
  till : Nat := 0
  deriving DecidableEq, Repr

/-! Loop units (chapter 7). -/

/-- A sample set posted to a loop unit: arrival tick, the record with its stamp restored, its number n. -/
structure SampleSet where
  arr : Nat := 0
  r : SampleRec := {}
  n : Nat := 0
  deriving DecidableEq, Repr

/-- A graph in force (R164): first descriptor, count, k_v, k_p. -/
structure Graph where
  first : Nat := 0
  count : Nat := 0
  kv : Nat := 1
  kp : Nat := 1
  deriving DecidableEq, Repr

/-- An evaluation that waits at an ECALL node: the descriptor, the tick its node started, the call's word 0, the timeout in
ticks; the evaluation's start, its set, its lag, the descriptor up to which nodes are gated closed, the end of its emission, and the end of its foreground nodes. -/
structure EvalWait where
  desc : Nat := 0
  at_ : Nat := 0
  word0 : Word := 0
  tmo : Nat := 1
  start : Nat := 0
  set : SampleSet := {}
  lagged : Bool := false
  gated : Nat := 0
  fg : Option Nat := none
  fgl : Nat := 0
  deriving DecidableEq, Repr

/-- A buffered or deferred descriptor write: BAR0 address, bytes, value. -/
structure DescWrite where
  addr : Nat := 0
  bytes : Nat := 4
  val : Nat := 0
  deriving DecidableEq, Repr

/-- A loop-unit slot. `sig`: the signals, `sigDone` those of the last completed evaluation (R173), `ext` LOOP_SIG(11) and (12)
as written; `wf` is W_f, `wBefore` the value in force before a pending FB_WRAP (R159); `lastPos` the last valid POS; `hallAt`
the stamp of the first set that showed `hall`, `hallD` the ticks from it to the last set that shows it; `stamps` the newest
eight, and `lastArr` the tick the latest set arrived; `endAt` the tick the last evaluation ends; `fb` the
latest FEEDBACK record; `posStamp` the stamp of the latest position cycle's set (0: none since RUN); `taps` the values of its TAP nodes; `smp` the latest SAMPLE record. -/
structure LoopSlot where
  sig : Vector Word 64 := Vector.replicate 64 0
  sigDone : Vector Word 64 := Vector.replicate 64 0
  ext : Vector Word 2 := Vector.replicate 2 0
  pend : Option SampleSet := none
  n : Nat := 0
  wf : Nat := 4096
  wBefore : Nat := 4096
  c : Int := 0
  lastPos : Option Nat := none
  hall : Nat := 0
  hallAt : Nat := 0
  hallD : Nat := 0
  lastStamp : Nat := 0
  lastArr : Option Nat := none
  graph : Option Graph := none
  basic : Bool := false
  wbuf : List DescWrite := []
  deferred : List DescWrite := []
  lagRun : Nat := 0
  stamps : List Nat := []
  wait : Option EvalWait := none
  endAt : Nat := 0
  fb : FbRec := {}
  posStamp : Nat := 0
  taps : List (Nat × Word) := []
  evalSet : SampleSet := {}
  smp : SampleRec := {}
  deriving DecidableEq, Repr

/-! Engines (chapters 8, 9). -/

/-- States of an engine (Table 8-6). -/
inductive EngSt where
  | reset | halted | running | waiting | faultHalt | safety
  deriving DecidableEq, Repr

/-- A hardware loop level: start, end, count (R210). -/
structure LoopLevel where
  ls : Nat := 0
  le : Nat := 0
  lc : Nat := 0
  deriving DecidableEq, Repr

/-- The flags of ST (Table 9-2), LA0 and LA1 apart. -/
structure Flags where
  z : Bool := false
  n : Bool := false
  c : Bool := false
  v : Bool := false
  e : Bool := false
  l : Bool := false
  lov : Bool := false
  deriving DecidableEq, Repr

/-- A pending mode write (R222): MD becomes (MD and `keep`) or `set`, `left` completed instructions from now. -/
structure ModeWrite where
  keep : BitVec 4 := 0
  set : BitVec 4 := 0
  left : Nat := 0
  deriving DecidableEq, Repr

/-- A message (R187): its words; for mail, the local engine that sent it, or the host. -/
structure Msg where
  words : List Word := []
  sender : Nat := 0
  host : Bool := false
  deriving DecidableEq, Repr

/-- A stalled read of shared memory or of the fabric window: BAR0 address and bytes. -/
structure Stall where
  fabric : Bool := false
  addr : Nat := 0
  bytes : Nat := 4
  deriving DecidableEq, Repr

/-- A posted write (R182): BAR0 address, bytes, value. -/
structure Posted where
  addr : Nat := 0
  bytes : Nat := 4
  val : Nat := 0
  deriving DecidableEq, Repr

/-- An engine. `slot`: the instruction at PC is the delay slot of the branch at the first address, and the second follows it;
`epc` to `eloop`: the saved registers of the I/O page, one home with ENG_EPC, ENG_ESTAT, ENG_EADDR; `brkSkip`: the matched
instruction that does not match again (R194); `wdLeft` half ticks of the watchdog remain from tick `wdAt` while it counts;
`busy`, `since`: ticks in RUNNING before, and the tick it last began; `shw`, `fbw`: posted writes, oldest first. -/
structure EngineState where
  st : EngSt := .reset
  pc : Nat := 0
  d : Vector Word 16 := Vector.replicate 16 0
  a : Vector (BitVec 72) 4 := Vector.replicate 4 0
  p : Vector Word 8 := Vector.replicate 8 0
  pb : Vector Word 8 := Vector.replicate 8 0
  pl : Vector Word 8 := Vector.replicate 8 0
  m : Vector Word 4 := Vector.replicate 4 0
  fl : Flags := {}
  md : BitVec 4 := 0
  l0 : LoopLevel := {}
  l1 : LoopLevel := {}
  slot : Option (Nat × Nat) := none
  modes : List ModeWrite := []
  exl : Bool := false
  epc : Nat := 0
  estat : Nat := 0
  eaddr : Nat := 0
  est : Nat := 0
  emd : Nat := 0
  eloop : Vector Nat 6 := Vector.replicate 6 0
  brkSkip : Option Nat := none
  wdLeft : Nat := 0
  wdAt : Nat := 0
  wdPend : Bool := false
  wdOnce : Bool := false
  calls : List Msg := []
  mails : List Msg := []
  hmails : List (List Word) := []
  out : Vector Word 16 := Vector.replicate 16 0
  refused : Bool := false
  cycBase : Nat := 0
  cycHi : Nat := 0
  busy : Nat := 0
  since : Nat := 0
  stall : Option Stall := none
  shw : List Posted := []
  fbw : List Posted := []
  haltReq : Bool := false
  stepping : Bool := false
  rstPend : Bool := false
  deriving DecidableEq, Repr

/-! Motion profiles and trunks (chapter 10). Positions of a plan are in units of 1/(6U³) counts, velocities of 1/(2U²)
counts/s, accelerations of 1/U counts/s², with U = 8 × 10¹⁰, the units of 1/256 tick in a second: so a plan is exact. -/

/-- A plan: the start, the segments (jerk in counts/s³, duration) to the cruise velocity, its duration (none: held), the
segments to rest, and the goal where there is one. -/
structure Plan where
  x : Int := 0
  v : Int := 0
  a : Int := 0
  up : List (Int × Nat) := []
  vc : Int := 0
  cruise : Option Nat := some 0
  down : List (Int × Nat) := []
  goal : Option Int := none
  deriving DecidableEq, Repr

/-- A set-point: x_sp in Q48.16, v and α in the units of a plan, ILIM_SP. -/
structure SetPoint where
  x : Int := 0
  v : Int := 0
  a : Int := 0
  ilim : Int := 0x7FFFFFFF
  deriving DecidableEq, Repr

/-- States of the generator (Table 10-4). -/
inductive PrfSt where
  | idle | move | vel | engaging | geared | stopping | path
  deriving DecidableEq, Repr

/-- A branch (R238-R240): quotients q₀ and the present q in units of 2⁻⁶⁴, x_A0 and the offset in Q48.16, x_T0 and L in Q32.32
TU; `sup`: the superimposed move and its time. -/
structure Branch where
  trunk : Nat := 0
  num : Int := 0
  den : Nat := 1
  q0 : Int := 0
  q : Int := 0
  xa0 : Int := 0
  xt0 : Int := 0
  len : Nat := 0
  ofs : Int := 0
  lambda : Nat := 0
  sup : Option Plan := none
  supT : Nat := 0
  deriving DecidableEq, Repr

/-- A member's part of a group path (R242): the plan of s and its start in units, the path length and the member's own start,
travel, centre and role: 0 linear, 1 and 2 the two members of a circle; `r` is (x₀₀, x₁₀) less the centre. A length of 0: no
path. -/
structure PathPart where
  lead : Nat := 0
  plan : Plan := {}
  t0 : Int := 0
  len : Nat := 0
  x0 : Int := 0
  delta : Int := 0
  role : Nat := 0
  centre : Int := 0
  rx : Int := 0
  ry : Int := 0
  sweep : Int := 0
  deriving DecidableEq, Repr

/-- A profile generator. `on`: RUN and the EN shadow as last seen; `sp` in force, `nx` computed for the next position cycle;
`t` the time in the plan; `idleAt` the tick IDLE was entered, `ramp` servo periods of the current-limit reduction; `stopAsk`
a stop asked for by another unit, with its reason; `ref` the latest reference instant in units; `lim` the limits copied
at the latest acceptance (VMAX, AMAX, DMAX, JMAX). -/
structure Profile where
  st : PrfSt := .idle
  on : Bool := false
  sp : SetPoint := {}
  nx : Option SetPoint := none
  plan : Plan := {}
  t : Nat := 0
  br : Branch := {}
  path : PathPart := {}
  idleAt : Nat := 0
  ramp : Nat := 0
  stopAsk : Option Nat := none
  ref : Int := 0
  lim : Vector Nat 4 := Vector.replicate 4 0
  deriving DecidableEq, Repr

/-- A segment of a time-defined trunk (R232): activation in ns, duration in ns, coefficients in Q32.32 TU. -/
structure TrunkSeg where
  t : Nat := 0
  dur : Nat := 1
  c : Vector Int 4 := Vector.replicate 4 0
  deriving DecidableEq, Repr

/-- A trunk (R231-R237): queued segments, the active one, and the anchor of a measured trunk (position Q32.32, tick). -/
structure Trunk where
  queue : List TrunkSeg := []
  active : Option TrunkSeg := none
  anchor : Option (Int × Nat) := none
  deriving DecidableEq, Repr


/-! Tracking (chapter 11). -/

/-- A list entry (R261): the trunk of its list, key and record. -/
structure Entry where
  trunk : Nat := 0
  key : Int := 0
  rec_ : Nat := 0
  deriving DecidableEq, Repr

/-- A lane: the active and the shadow list, the insert buffer, the last compare instant processed. -/
structure Lane where
  act : List Entry := []
  shd : List Entry := []
  buf : List Entry := []
  ck : Option Nat := none
  deriving DecidableEq, Repr

/-- The handover of an item: its record, page, whether this is the downstream node; OFFER sent, reason of a REFUSE, t_B or
t_B′ once known, the last sending, WITHDRAW under way, the arrival window, the tick the OFFER arrived, and whether COMMIT has
been sent. -/
structure HoItem where
  rec_ : Nat := 0
  page : Nat := 0
  down : Bool := false
  offered : Bool := false
  refused : Option Nat := none
  tB : Option Nat := none
  sent : Nat := 0
  del : Bool := false
  arr : Option Nat := none
  since : Nat := 0
  committed : Bool := false
  deriving DecidableEq, Repr

/-- A handover page: ticks of the last message of the upstream and the downstream neighbour, and of the last HELLO sent. -/
structure HoPage where
  up : Option Nat := none
  dn : Option Nat := none
  hello : Option Nat := none
  deriving DecidableEq, Repr

/-- The copy of a message acted on (R265): page, type, transfer, ring, and whether its second copy has come. -/
structure HoSeen where
  page : Nat := 0
  type : Nat := 0
  xfer : Nat := 0
  ringB : Bool := false
  dup : Bool := false
  deriving DecidableEq, Repr

/-- A rebuild (R262): its start, the records then allocated, whether the builder has completed, a further request. -/
structure Rebuild where
  start : Nat := 0
  recs : List Nat := []
  built : Bool := false
  again : Bool := false
  deriving DecidableEq, Repr

/-- The tracking unit. `swap`: lanes whose swap is pending; `inh`: events that fall due inhibited (R256); `wins`: close ticks of
decided windows; `fin`: ticks of fired events and decided windows; `susp`: committed events inside a suspect span with its
Δ; `com`: committed events that have not fired, with their Slate and whether it has been in its safe state since; `ho`, `gone`: handovers, and transfers freed as absent; `reports`: per region; `budget`: millisecond and inserts in it per
domain; `heldIns`: inserts held over budget (OP and image). -/
structure TrackState where
  lanes : Vector Lane 64 := Vector.replicate 64 {}
  rb : Option Rebuild := none
  swap : List Nat := []
  inh : List Nat := []
  wins : List (Nat × Nat) := []
  fin : List (Nat × Nat) := []
  susp : List (Nat × Int) := []
  com : List (Nat × Nat × Bool) := []
  ho : List HoItem := []
  pages : Vector HoPage 8 := Vector.replicate 8 {}
  seen : List HoSeen := []
  gone : List (Nat × Nat) := []
  reports : Vector (List (Vector Word 4)) 8 := Vector.replicate 8 []
  budget : Vector (Nat × Nat) 8 := Vector.replicate 8 (0, 0)
  heldIns : Vector (Option (Nat × Nat)) 8 := Vector.replicate 8 none
  deriving DecidableEq, Repr

/-! Network (chapter 13). -/

/-- A frame to send: from its destination on, tag included, FCS excluded; the transmit descriptor it belongs to (domain and
address), and FID and STAMP; `soft`: a soft error in a buffer word that holds it, and whether it is uncorrectable (R306). -/
structure TxFrame where
  bytes : List Byte := []
  job : Option (Nat × Nat) := none
  fid : Nat := 0
  stamp : Bool := false
  launch : Bool := false
  late : Bool := false
  soft : Option Bool := none
  deriving DecidableEq, Repr

/-- An entry of a launch list (R312). -/
structure Launch where
  tick : Nat := 0
  frame : TxFrame := {}
  late : Bool := false
  deriving DecidableEq, Repr

/-- A ring port: nine queues, the queue served last, shaper credits in Mbit/s × tick with the slopes in force and the tick they
are of, launch list, transmit stamps (FID, taps), the frame on the wire with its queue, the mode tried and the tick since. -/
structure NetPort where
  q : Vector (List TxFrame) 9 := Vector.replicate 9 []
  served : Nat := 8
  credit : Vector Int 9 := Vector.replicate 9 0
  slope : Vector Nat 9 := Vector.replicate 9 0
  creditAt : Nat := 0
  launch : List Launch := []
  stamps : List (Nat × Nat) := []
  tx : Option (TxFrame × Nat) := none
  tryMode : Nat := 0
  trySince : Nat := 0
  deriving DecidableEq, Repr

/-- A ring at its manager (R305): test frames of the present interval received on each port, closed intervals in a row,
the tick of the latest test frame. -/
structure RingState where
  got : Vector Bool 2 := Vector.replicate 2 false
  run : Nat := 0
  last : Nat := 0
  deriving DecidableEq, Repr

/-- A transmit descriptor in progress: domain, address, copies still to end, the worst status so far. -/
structure TxJob where
  dom : Nat := 0
  addr : Nat := 0
  left : Nat := 0
  worst : Nat := 0
  deriving DecidableEq, Repr

/-- The switch and the queue port. `stopT`, `stopR`: a host ring stopped by R435 or R438; `vecAt`: the last raise of a
queue's vector; `dma`: the newest writes to host memory. -/
structure NetState where
  ports : Vector NetPort 4 := Vector.replicate 4 {}
  rings : Vector RingState 2 := Vector.replicate 2 {}
  jobs : List TxJob := []
  stopT : Nat := 0
  stopR : Nat := 0
  vecAt : Vector (Option Nat) 8 := Vector.replicate 8 none
  dma : List (Nat × List Byte) := []
  deriving DecidableEq, Repr
/-! Safety (chapter 14). -/

/-- The safety configuration (Table 17-8): zones. `rkind` 0 none, 1 point, 2 DSC bit, of point or connection `rsrc`, bit `rbit`. -/
structure ZoneCfg where
  slates : Nat := 0
  rkind : Nat := 0
  rsrc : Nat := 0
  rbit : Nat := 0
  type3 : Bool := false
  deriving DecidableEq, Repr

/-- A claimed pair: SF, TP_W and TP_SET in units of 20 µs, TP_PER in cycles, DISC_T in ms, sources of points 2n and 2n + 1. -/
structure PairCfg where
  pair : Nat := 0
  anti : Bool := false
  startup : Bool := false
  type3 : Bool := false
  sf : Nat := 5
  tpW : Nat := 2
  tpSet : Nat := 1
  tpPer : Nat := 1
  disc : Nat := 4
  srcA : Nat := 0
  srcB : Nat := 0
  deriving DecidableEq, Repr

/-- A claimed output: a test-pulse source, or the brake of an axis. -/
structure OutCfg where
  point : Nat := 0
  brake : Bool := false
  axis : Nat := 0
  deriving DecidableEq, Repr

/-- A monitored axis: K_AB in UQ16.16, TOL_REL in UQ0.16, VZERO in counts/s and in Hall steps per SPW cycles. -/
structure AxisCfg where
  axis : Nat := 0
  kab : Nat := 0
  tolAbs : Nat := 0
  tolRel : Nat := 0
  spw : Nat := 1
  vzA : Nat := 0
  vzB : Nat := 0
  deriving DecidableEq, Repr

/-- A function record: kind 1 STO, 2 SS1-t, 3 SS1-r, 4 SOS, 5 SLS, 6 SDI, 7 SBC; `opt` its byte 3; source codes; P0-P4. -/
structure FuncCfg where
  kind : Nat := 0
  zone : Nat := 0
  axis : Nat := 0xFF
  opt : Nat := 0
  srcs : List Nat := []
  act : Nat := 0
  p : Vector Nat 5 := Vector.replicate 5 0
  deriving DecidableEq, Repr

/-- A DSC connection: PERIOD in cycles, TE in ms, TPC_WIN in 0.1 ms, OUT map entries of bit and source code. -/
structure ConnCfg where
  id : Nat := 0
  side : Nat := 0
  mode : Nat := 1
  period : Nat := 1
  react : Nat := 1
  peer : Nat := 0
  mask : Nat := 0
  te : Nat := 2
  win : Nat := 1
  out : List (Nat × Nat) := []
  deriving DecidableEq, Repr

/-- The whole configuration as boot code hands it over; `en`: the safety function set is enabled. -/
structure SafeCfg where
  en : Bool := false
  etype : Nat := 0
  zones : Vector ZoneCfg 8 := Vector.replicate 8 {}
  pairs : List PairCfg := []
  outs : List OutCfg := []
  axes : List AxisCfg := []
  funcs : List FuncCfg := []
  conns : List ConnCfg := []
  deriving DecidableEq, Repr

/-- One channel's copy of a zone: Table 14-4 code, cause, the start of SS1 and its SS1_T in ticks; `latch`: SS1 from a violation
ends in STO_LATCHED; `stoAt`: entry to STO. -/
structure ZoneCopy where
  st : Nat := 3
  cause : Nat := 0
  ss1At : Nat := 0
  ss1T : Nat := 0
  latch : Bool := false
  stoAt : Nat := 0
  deriving DecidableEq, Repr

/-- One channel's copy of a pair: which contacts demand, since when one demands alone, a fault and whether both have demanded
since, start-up test 0 none, 1 outstanding, 2 demand shown. -/
structure PairCopy where
  dA : Bool := false
  dB : Bool := false
  alone : Option Nat := none
  fault : Bool := false
  both : Bool := false
  startup : Nat := 0
  deriving DecidableEq, Repr

/-- One channel's copy of a function: active with the positions then by axis, violated, and the speeds at the start of SS1-r. -/
structure FuncCopy where
  active : Bool := false
  refs : List (Nat × Int) := []
  viol : Bool := false
  deriving DecidableEq, Repr

/-- One channel's view of a monitored axis, each in its own units: position, speed (counts/s; Hall steps per SPW), the previous
reading (tick; transition count and Hall state), steps of the latest cycles, direction, impossible Hall state; `init`: read at least once. -/
structure AxisCopy where
  init : Bool := false
  pos : Int := 0
  v : Int := 0
  tick : Nat := 0
  cnt : Nat := 0
  hall : Nat := 0
  steps : List Int := []
  down : Bool := false
  bad : Bool := false
  deriving DecidableEq, Repr

/-- A safety channel: running with a configuration, its cycle number, zones, pairs by number, functions by record, axes by
number, the level of each zone's reset source and the tick it became 1, brake outputs released (points), consecutive
differing cycles by item (kind, index), agreeing cycles in a row, waiting for the other channel's record, and the Slates
whose restart flag it has seen. -/
structure Channel where
  run : Bool := false
  cycle : Nat := 0
  zones : Vector ZoneCopy 8 := Vector.replicate 8 {}
  pairs : Vector PairCopy 64 := Vector.replicate 64 {}
  funcs : Vector FuncCopy 128 := Vector.replicate 128 {}
  axes : Vector AxisCopy 64 := Vector.replicate 64 {}
  reset : Vector (Option Nat) 8 := Vector.replicate 8 none
  brakes : List Nat := []
  diffs : List (Nat × Nat × Nat) := []
  agree : Nat := 0
  waits : Bool := false
  restarts : Nat := 0
  deriving DecidableEq, Repr

/-- Flint's filter of a point (R332): accepted level and consecutive samples of the other. -/
structure FlintPoint where
  lvl : Bool := false
  run : Nat := 0
  deriving DecidableEq, Repr

/-- A test window at Flint (R333, R339): the pulsed output point, the pair and which of its contacts is fed (`brake`: none),
frames seen, its pulse and length in frames, whether the contacts showed 1 at its start, whether the fed one (the brake's read-back) showed 0, and
whether the other changed. -/
structure TestWin where
  src : Nat := 0
  brake : Bool := false
  pair : Nat := 0
  second : Bool := false
  k : Nat := 0
  w : Nat := 0
  len : Nat := 0
  fed1 : Bool := false
  oth1 : Bool := false
  low : Bool := false
  moved : Bool := false
  deriving DecidableEq, Repr

/-- A DSC connection. `ver` 0 none, 15 too far apart; `seq` of the newest own message, `echo` of the newest accepted; `hist` own
messages by SEQ and tick; `echoAt` when the newest echoed was sent; `dataAt` the newest DATA accepted; `inNext` the bits
accepted for the next mark; `sentAt`, `connAt` the last DATA and CONNECT sent, `outs` the OUT bits sent; `hold` the copy TPC holds: ring, tick,
bytes; `expd` EXPIRED of STAT; `due`: an expiry the next mark carries out. -/
structure DscConn where
  run : Bool := false
  ver : Nat := 0
  seq : Nat := 0
  seqRx : Option Nat := none
  echo : Nat := 0
  hist : List (Nat × Nat) := []
  echoAt : Nat := 0
  dataAt : Nat := 0
  conn : Bool := false
  inNow : Nat := 0
  inNext : Nat := 0
  sentAt : Option Nat := none
  connAt : Option Nat := none
  outs : Nat := 0
  hold : Option (Nat × Nat × List Byte) := none
  expd : Bool := false
  due : Bool := false
  deriving DecidableEq, Repr

/-- The safety layer. `held`: Flint holds the configuration boot code handed it; `ok`: it is valid; `crcA`, `crcB` as each channel
computed it; channel faults; `flintOk`: its self-test holds; `mark` the last cycle mark, `cnt` Flint's count of the last cycle. -/
structure SafetyState where
  cfg : SafeCfg := {}
  held : Bool := false
  ok : Bool := false
  crcA : Nat := 0
  crcB : Nat := 0
  a : Channel := {}
  b : Channel := {}
  faultA : Bool := false
  faultB : Bool := false
  clock : Bool := false
  flintOk : Bool := false
  mark : Option Nat := none
  cnt : Nat := 20000
  pts : Vector FlintPoint 128 := Vector.replicate 128 {}
  wins : List TestWin := []
  dsc : Vector DscConn 32 := Vector.replicate 32 {}
  deriving DecidableEq, Repr

/-! Trace, triggers, snapshots (chapter 16) and the fault collector (chapter 15). -/

/-- What ARM takes from the TRC page (R370, R380): buffer start in bytes of trace memory and entries, PRE, POST, sources. -/
structure TrcSetup where
  base : Nat := 0
  n : Nat := 1
  pre : Nat := 0
  post : Nat := 0
  src : Vector Nat 16 := Vector.replicate 16 0
  deriving DecidableEq, Repr

/-- A recorder (R367-R372). `cnt`: values since the last entry of a source; `prev`: bits [31:0] of a source's last entry;
`written`, `valid`, `left`: entries since ARM, entries from FIRST to WPTR, POST entries to come; `hi`: tick [63:32] of
the last entry; `slot`: half tick of the write slot of the last queued entry; `due`: the tick of a delivered trigger;
`late`: a time trigger that acts at the next tick, `timed`: one that has acted. -/
structure Recorder where
  set : TrcSetup := {}
  cnt : Vector Nat 16 := Vector.replicate 16 0
  prev : Vector (Option Int) 16 := Vector.replicate 16 none
  written : Nat := 0
  valid : Nat := 0
  left : Nat := 0
  hi : Nat := 0
  slot : Nat := 0
  due : Option Nat := none
  timed : Bool := false
  deriving DecidableEq, Repr

/-- A queued stamp (R374, R375): taps, level, whether the module drove the edge. -/
structure Stamp where
  tap : Nat := 0
  level : Bool := true
  own : Bool := false
  deriving DecidableEq, Repr

/-- A calibration of a bus line (R376): its start tick, pulses received, the sum of the round trips, an edge not driven. -/
structure BusCal where
  start : Nat := 0
  n : Nat := 0
  sum : Nat := 0
  bad : Bool := false
  deriving DecidableEq, Repr

/-- A line of the trigger bus: the stamp queue, TBUS_AT armed, the calibration, the last pulse driven (start in taps, width in
ticks). -/
structure BusLine where
  q : List Stamp := []
  armed : Bool := false
  cal : Option BusCal := none
  pulse : Option (Int × Nat) := none
  deriving DecidableEq, Repr

/-- A TRIG_IN input: its queue and the last accepted edge. -/
structure TrigIn where
  q : List Stamp := []
  last : Option Stamp := none
  deriving DecidableEq, Repr

/-- Recorders, trigger inputs, bus lines; SNAP_AT armed, and the Slates whose snapshot answer is awaited. -/
structure CaptureState where
  rec_ : Vector Recorder 8 := Vector.replicate 8 {}
  ins : Vector TrigIn 4 := Vector.replicate 4 {}
  bus : Vector BusLine 4 := Vector.replicate 4 {}
  snapArmed : Bool := false
  snapWait : List Nat := []
  deriving DecidableEq, Repr

/-- A partner record (R361): subject, kind, class, count, the tick of its first report. -/
structure Partner where
  subj : Nat := 0
  kind : Nat := 0
  cls : Nat := 0
  count : Nat := 0
  first : Nat := 0
  deriving DecidableEq, Repr

/-- The fault collector: log, open partner records, partner queue, the millisecond last opened in with the records opened, and PAGE_ERR
of the Slate-resident pages as last read (page base, word). -/
structure FaultState where
  log : List (Vector Word 4) := []
  opn : List Partner := []
  prq : List Partner := []
  ms : Nat × Nat := (0, 0)
  seen : Vector (List (Nat × Nat)) 8 := Vector.replicate 8 []
  deriving DecidableEq, Repr

/-! Domains (chapter 17). -/

/-- A resource that is being cleaned after a change of assignment (R387). -/
inductive Res where
  | axis (a : Nat) | point (n : Nat) | engine (e : Nat) | shm (b : Nat) | recorder (r : Nat) | trace (u : Nat)
  deriving DecidableEq, Repr


/-- A copy of the boot record (R395). Its layout is not given, so it is held by fields; `bad`: slots marked invalid. -/
structure BootRec where
  valid : Bool := false
  seq : Nat := 0
  active : Bool := false
  prev : Bool := false
  trial : Bool := false
  tries : Nat := 0
  tmo : Nat := 600
  host : Bool := false
  bad : Nat := 0
  deriving DecidableEq, Repr

/-- Amber beside its bytes. Boot-record copies and fuses (`floor`, `keys`, `revoked`, owner-key `hashes`) outlive a Granite
reset; `verified`: the slot's last VERIFY gave OK; `job`: the accepted AMBER_CMD word; `read`: boot code has read the boot
record; `wait`: it waits for BOOT, which names `want`; `booted`: the slot in use; `trialEnd`: the tick the trial timer ends. -/
structure AmberState where
  recs : Vector BootRec 2 := Vector.replicate 2 {}
  floor : Nat := 0
  keys : Nat := 1
  revoked : Nat := 0
  hashes : Vector Nat 4 := Vector.replicate 4 0
  verified : Vector Bool 2 := Vector.replicate 2 false
  job : Option Nat := none
  read : Bool := false
  wait : Bool := false
  want : Option Bool := none
  booted : Option Bool := none
  trialEnd : Option Nat := none
  deriving DecidableEq, Repr

/-! Power and bring-up (chapter 18). -/

/-- A save in progress: the tick of its start; from a sag, not from SYS_RESET. -/
structure Save where
  at_ : Nat := 0
  sag : Bool := true
  deriving DecidableEq, Repr

/-- Bring-up, the system watchdog and the hold-up save. `held`: reset is asserted; `rel`: the tick of its release; `applied`,
`failed` (a wrong hash ended the load),
`restored`: images applied, restore ended or skipped; `wdFrom`: the tick the watchdog counts from; `save`; `wait`: after a save,
until the sag ends; `defer`: causes deferred by a save; `seq`: save sequence. -/
structure PowerState where
  held : Bool := true
  rel : Nat := 0
  applied : Bool := false
  failed : Bool := false
  restored : Bool := false
  wdFrom : Option Nat := none
  save : Option Save := none
  wait : Bool := false
  defer : Nat := 0
  seq : Nat := 0
  deriving DecidableEq, Repr

/-! Host port (chapter 19). -/

/-- A management frame taken from port `port`: source address, payload; whether its tag verifies, and the tag the hash unit gives for
the reply (log 8). -/
structure MgmtFrame where
  port : Nat := 0
  src : Nat := 0
  body : List Byte := []
  tagOk : Bool := false
  tag : Nat := 0
  deriving DecidableEq, Repr

/-- An accepted READ or WRITE in progress: the word it has come to, the words read, and whether it waits for a Slate. -/
structure MgmtJob where
  f : MgmtFrame := {}
  i : Nat := 0
  data : List Word := []
  wait : Bool := false
  deriving DecidableEq, Repr

/-- The management agent: the number of the epoch's draw, the last accepted request and its stored reply, frames that wait,
the request in progress. -/
structure MgmtState where
  epoch : Nat := 0
  last : List Byte := []
  reply : List Byte := []
  todo : List MgmtFrame := []
  job : Option MgmtJob := none
  deriving DecidableEq, Repr

/-- An axis: its PWM and feedback on the Slate, its speed estimator, loop slot and profile generator in Granite. -/
structure AxisState where
  pwm : PwmAxis := {}
  fb : FbPort := {}
  est : SpeedEst := {}
  loop : LoopSlot := {}
  prf : Profile := {}
  deriving DecidableEq, Repr


/-- The whole machine. `pending` is the queue of commands that wait, first in first out; `free` counts the free values
drawn (log 2); `regs` are the registers as BAR0 shows them, `shadow` Granite's shadow of the Slate-resident pages (R67),
`mem` the memory regions of BAR0, `amber` the MRAM, `ecc` the words of memory with a soft error (R181): an address in the word,
and whether the error is uncorrectable. -/
structure State where
  pending : List Instr := []
  free : Nat := 0
  resp : List Resp := []
  dev : Device := {}
  regs : RegFile := []
  shadow : RegFile := []
  mem : Mem := []
  amber : Mem := []
  time : TimeState := {}
  slates : Vector SlateState 8 := Vector.replicate 8 {}
  axes : Vector AxisState 64 := Vector.replicate 64 {}
  evlog : EventLog := {}
  fsch : Vector FschReq 128 := Vector.replicate 128 {}
  engines : Vector EngineState 512 := Vector.replicate 512 {}
  replies : List (Nat × List Word) := []
  cleaning : List Res := []
  msi : Option (Nat × Nat) := none
  teeth : Vector ToothUnit 16 := Vector.replicate 16 {}
  corrections : List Correction := []
  ecc : List (Nat × Bool) := []
  trunks : Vector Trunk 8 := Vector.replicate 8 {}
  latches : List (Nat × Nat) := []
  net : NetState := {}
  track : TrackState := {}
  safety : SafetyState := {}
  capture : CaptureState := {}
  fault : FaultState := {}
  boot : AmberState := {}
  power : PowerState := {}
  mgmt : MgmtState := {}
  deriving DecidableEq, Repr

/-- The machine right after reset: every field at its default value above. -/
def State.reset : State := {}

end Sys2Proof.Machine
end

