-- ==== Sys2Proof/Machine/Ops.lean ====
section
/-! DEFINITION. The named operations over registers and memory. Registers and memories are sparse lists in one canonical
form: keys strictly ascending, no entry equal to what an unlisted key reads as (log 3, log 4). -/
namespace Sys2Proof.Machine
open Sys2Proof

abbrev Out := Host.Outcome State Fault Refusal

/-! Sparse lists. -/

/-- The value at key `k`: the first entry's, else `d k`. -/
def Assoc.get {α : Type} (d : Nat → α) : List (Nat × α) → Nat → α
  | [], k => d k
  | (j, v) :: m, k => if k = j then v else Assoc.get d m k

/-- Insert at the place that keeps the keys ascending. -/
def Assoc.insert {α : Type} (k : Nat) (v : α) : List (Nat × α) → List (Nat × α)
  | [] => [(k, v)]
  | (j, u) :: m => if k < j then (k, v) :: (j, u) :: m else (j, u) :: Assoc.insert k v m

/-- Write key `k`; the default value removes the entry. -/
def Assoc.put {α : Type} [DecidableEq α] (d : Nat → α) (m : List (Nat × α)) (k : Nat) (v : α) : List (Nat × α) :=
  let r := m.filter fun e => e.1 ≠ k
  if v = d k then r else Assoc.insert k v r

/-- The canonical form. -/
def Assoc.wf {α : Type} [DecidableEq α] (d : Nat → α) : List (Nat × α) → Bool
  | [] => true
  | (k, v) :: m => decide (v ≠ d k) && m.all (fun e => decide (k < e.1)) && Assoc.wf d m

/-- What an unlisted register reads as: its reset value. -/
def regDefault (a : Nat) : Word := BitVec.ofNat 32 (resetVal a)

/-- What a byte of memory that nothing has written reads as (log 4). -/
def memDefault (_ : Nat) : Byte := 0

/-- The canonical form of a memory. -/
def Memory.wf (m : Mem) : Bool := Assoc.wf memDefault m

/-- The canonical form of a register file. -/
def RegFile.wf (m : RegFile) : Bool := Assoc.wf regDefault m

/-! Registers, as natural numbers below 2³². -/

/-- The register word at a BAR0 address. -/
def State.reg (s : State) (a : Nat) : Word := Assoc.get regDefault s.regs a
def State.rd (s : State) (a : Nat) : Nat := (s.reg a).toNat
def State.wr (s : State) (a v : Nat) : State :=
  { s with regs := Assoc.put regDefault s.regs a (BitVec.ofNat 32 v) }

/-- Bits [lo + w - 1 : lo] of a number. -/
def bits (x lo w : Nat) : Nat := x >>> lo % 2 ^ w

/-- `x` with bits [lo + w - 1 : lo] replaced by `v`. -/
def setBits (x lo w v : Nat) : Nat := x - (bits x lo w) <<< lo + (v % 2 ^ w) <<< lo

/-- The signed value of the low `w` bits. -/
def toSigned (w x : Nat) : Int := if x % 2 ^ w < 2 ^ (w - 1) then (x % 2 ^ w : Nat) else (x % 2 ^ w : Nat) - (2 ^ w : Nat)

/-- The low `w` bits of an integer, two's complement. -/
def ofSigned (w : Nat) (i : Int) : Nat := (i % (2 ^ w : Nat)).toNat

/-- Clamp to [lo, hi]. -/
def clampI (lo hi x : Int) : Int := max lo (min hi x)

/-- num / den rounded to nearest, halves toward +∞ (R165). -/
def roundQ (num : Int) (den : Nat) : Int := (2 * num + den) / (2 * (den : Int))

/-- Saturation to 32 bits (Q1.31, Q2.30). -/
def sat32 (x : Int) : Int := clampI (-2147483648) 2147483647 x

/-- ⌊√n⌋ for n < 4ᵏ, bit by bit. -/
def isqrtBits : Nat → Nat → Nat → Nat
  | 0, _, r => r
  | k + 1, n, r => if (r + 2 ^ k) * (r + 2 ^ k) ≤ n then isqrtBits k n (r + 2 ^ k) else isqrtBits k n r
def isqrt (n : Nat) : Nat := isqrtBits (n.log2 / 2 + 1) n 0

/-- The registers that `p` holds of keep their values; every other is at its reset value. -/
def State.keepRegs (s : State) (p : Nat → Bool) : State := { s with regs := s.regs.filter fun e => p e.1 }

/-- Field `f` of the page at base `p`. -/
def State.fld (s : State) (p : Nat) (f : Fld) : Nat := bits (s.rd (p + f.off)) f.lo f.w
def State.setf (s : State) (p : Nat) (f : Fld) (v : Nat) : State :=
  s.wr (p + f.off) (setBits (s.rd (p + f.off)) f.lo f.w v)
def State.flag (s : State) (p : Nat) (f : Fld) : Bool := s.fld p f ≠ 0
def State.setb (s : State) (p : Nat) (f : Fld) (b : Bool) : State := s.setf p f b.toNat

/-- One bit of the register at page offset `o`. -/
def State.rbit (s : State) (p o b : Nat) : Bool := bits (s.rd (p + o)) b 1 ≠ 0
def State.setbit (s : State) (p o b : Nat) (v : Bool) : State := s.wr (p + o) (setBits (s.rd (p + o)) b 1 v.toNat)

/-- The 64-bit value of a LO/HI register pair, and writing it (R10). -/
def State.rd64 (s : State) (p o : Nat) : Nat := s.rd (p + o) + s.rd (p + o + 4) * 2 ^ 32
def State.wr64 (s : State) (p o v : Nat) : State := (s.wr (p + o) (v % 2 ^ 32)).wr (p + o + 4) (v / 2 ^ 32 % 2 ^ 32)

/-- A saturating event counter in field `f`. -/
def State.inc (s : State) (p : Nat) (f : Fld) : State := s.setf p f (min (s.fld p f + 1) (2 ^ f.w - 1))
/-- A counter modulo 2³². -/
def State.incw (s : State) (p o : Nat) : State := s.wr (p + o) ((s.rd (p + o) + 1) % 2 ^ 32)
/-- A saturating 32-bit counter. -/
def State.incs (s : State) (p o : Nat) : State := s.wr (p + o) (min (s.rd (p + o) + 1) (2 ^ 32 - 1))

/-- Set a PAGE_ERR bit of the page at `p` (R352). -/
def State.err (s : State) (p b : Nat) : State := s.setbit p R.PAGE_ERR b true

/-- The same, where a condition holds. -/
def State.errIf (s : State) (c : Bool) (p b : Nat) : State := if c then s.err p b else s

/-- Conditional update. -/
def State.when (s : State) (c : Bool) (f : State → State) : State := if c then f s else s

/-- Apply `f` for each entry of a list in order. -/
def forEach {α : Type} (l : List α) (s : State) (f : α → State → State) : State := l.foldl (fun t x => f x t) s

/-- RWL fields ignore writes while DOM_LOCK.LOCK is 1 (R390). -/
def State.locked (s : State) : Bool := s.flag P.dom F.DOM_LOCK_LOCK
def State.lockedWr (s : State) : State := s.err P.dom E.dom_LOCKED_WR

/-- A write of domain 0 to an RWL field: `f`, or, after the lock, ignored with LOCKED_WR (R388). -/
def State.unlessLocked (s : State) (f : State → State) : State := if s.locked then s.lockedWr else f s

/-- Granite's shadow of a Slate-resident register (R67). -/
def State.sh (s : State) (a : Nat) : Nat := (Assoc.get regDefault s.shadow a).toNat
def State.setsh (s : State) (a v : Nat) : State :=
  { s with shadow := Assoc.put regDefault s.shadow a (BitVec.ofNat 32 v) }

/-! Memory of BAR0 and Amber, little endian (R10). -/

def State.byte (s : State) (a : Nat) : Byte := Assoc.get memDefault s.mem a

/-- Bytes of the memory word at `a` that ECC covers: 4 in engine memories, 16 in trace memory, 8 in shared memory and the tracking
table (log 45). -/
def eccSpan (a : Nat) : Nat := if 0x2000000 ≤ a then 4 else if 0x1800000 ≤ a then 16 else 8
/-- The word of an entry of `ecc` reaches into [a, a + n). -/
def eccHits (a n : Nat) (m : Nat × Bool) : Bool :=
  let w := m.1 / eccSpan m.1 * eccSpan m.1
  decide (0xC00000 ≤ m.1) && decide (w < a + n) && decide (a < w + eccSpan m.1)

/-- A byte is written; its word holds no soft error any more (log 45). -/
def State.setByte (s : State) (a : Nat) (v : Byte) : State :=
  { s with mem := Assoc.put memDefault s.mem a v, ecc := s.ecc.filter fun m => !eccHits a 1 m }

/-- Bytes [a, a + n) take the value of memory nothing has written. -/
def State.clearMem (s : State) (a n : Nat) : State :=
  { s with mem := s.mem.filter fun c => !(decide (a ≤ c.1) && decide (c.1 < a + n)), ecc := s.ecc.filter fun m => !eccHits a n m }

def State.setEcc (s : State) (l : List (Nat × Bool)) : State := { s with ecc := l }
/-- The soft errors in words that [a, a + n) touches. -/
def State.softIn (s : State) (a n : Nat) : List (Nat × Bool) := s.ecc.filter (eccHits a n)
/-- One of them is uncorrectable. -/
def State.uncorrectable (s : State) (a n : Nat) : Bool := (s.softIn a n).any (·.2)

/-- `n` bytes from `a`, the first the least significant. -/
def State.load (s : State) (a : Nat) : Nat → Nat
  | 0 => 0
  | n + 1 => (s.byte a).toNat + 256 * s.load (a + 1) n

/-- The same as a read from outside the block brings them: 0 in an uncorrectable word (R181). -/
def State.extLoad (s : State) (a : Nat) : Nat → Nat
  | 0 => 0
  | n + 1 => (if s.uncorrectable a 1 then 0 else (s.byte a).toNat) + 256 * s.extLoad (a + 1) n

def State.store (s : State) (a : Nat) : Nat → Nat → State
  | 0, _ => s
  | n + 1, v => (s.setByte a (BitVec.ofNat 8 v)).store (a + 1) n (v / 256)

def State.abyte (s : State) (a : Nat) : Byte := Assoc.get memDefault s.amber a
def State.setAbyte (s : State) (a : Nat) (v : Byte) : State := { s with amber := Assoc.put memDefault s.amber a v }
/-- Bytes [a, a + n) of Amber become 0. -/
def State.azero (s : State) (a n : Nat) : State :=
  { s with amber := s.amber.filter fun e => !(decide (a ≤ e.1) && decide (e.1 < a + n)) }
def State.aload (s : State) (a : Nat) : Nat → Nat
  | 0 => 0
  | n + 1 => (s.abyte a).toNat + 256 * s.aload (a + 1) n
def State.astore (s : State) (a : Nat) : Nat → Nat → State
  | 0, _ => s
  | n + 1, v => (s.setAbyte a (BitVec.ofNat 8 v)).astore (a + 1) n (v / 256)

/-- A free value: unconstrained, and a fresh one at each draw (log 2). -/
def State.draw (s : State) : Nat × State := ((Config.freeWord s.free).toNat, { s with free := s.free + 1 })

/-! Little-endian byte strings. -/

def bytesOf : Nat → Nat → List Byte
  | 0, _ => []
  | n + 1, v => BitVec.ofNat 8 v :: bytesOf n (v / 256)

def ofBytes : List Byte → Nat
  | [] => 0
  | b :: l => b.toNat + 256 * ofBytes l

/-- Bytes `i` to `i + n - 1` of a string as a number. -/
def field (l : List Byte) (i n : Nat) : Nat := ofBytes ((l.drop i).take n)

/-! Units of State. -/

def State.slate (s : State) (i : Fin 8) : SlateState := s.slates[i]
def State.setSlate (s : State) (i : Fin 8) (f : SlateState → SlateState) : State :=
  { s with slates := s.slates.set i (f s.slates[i]) }
def State.axis (s : State) (a : Fin 64) : AxisState := s.axes[a]
def State.setAxis (s : State) (a : Fin 64) (f : AxisState → AxisState) : State :=
  { s with axes := s.axes.set a (f s.axes[a]) }
def State.setPwm (s : State) (a : Fin 64) (f : PwmAxis → PwmAxis) : State :=
  s.setAxis a fun x => { x with pwm := f x.pwm }
def State.setFb (s : State) (a : Fin 64) (f : FbPort → FbPort) : State :=
  s.setAxis a fun x => { x with fb := f x.fb }
def State.setLink (s : State) (i : Fin 8) (f : LinkState → LinkState) : State :=
  s.setSlate i fun x => { x with link := f x.link }
/-- The parts of State without a number, each through one operation. -/
def State.setSlates (s : State) (f : SlateState → SlateState) : State := { s with slates := s.slates.map f }
def State.setEvlog (s : State) (f : EventLog → EventLog) : State := { s with evlog := f s.evlog }
def State.setCorrections (s : State) (l : List Correction) : State := { s with corrections := l }
def State.setReplies (s : State) (l : List (Nat × List Word)) : State := { s with replies := l }
def State.setCleaning (s : State) (l : List Res) : State := { s with cleaning := l }
def State.setMsi (s : State) (m : Nat × Nat) : State := { s with msi := some m }
def State.setTrack (s : State) (f : TrackState → TrackState) : State := { s with track := f s.track }
def State.setFault (s : State) (f : FaultState → FaultState) : State := { s with fault := f s.fault }
def State.setTime (s : State) (f : TimeState → TimeState) : State := { s with time := f s.time }

/-- Granite's tick counter (R37). -/
def State.now (s : State) : Nat := s.time.tick

/-- One tick passes in Granite and in every powered Slate (R37). -/
def State.tickOn (s : State) : State :=
  (s.setTime fun t => { t with tick := (t.tick + 1) % 2 ^ 64 }).setSlates fun x =>
    if x.powered then { x with tick := (x.tick + 1) % 2 ^ 64 } else x

/-- Is the Slate fitted (R3)? -/
def State.fitted (s : State) (i : Nat) : Bool := i < if s.dev.bv3204 then 4 else 8

/-- Slate of an axis and its local index (R7). -/
def slateOf (a : Fin 64) : Fin 8 := ⟨a.val / 8, by omega⟩
def localOf (a : Fin 64) : Nat := a.val % 8
def axisOf (s : Fin 8) (n : Fin 8) : Fin 64 := ⟨8 * s.val + n.val, by omega⟩
/-- The axes of a Slate. -/
def axesOf (s : Fin 8) : List (Fin 64) := (List.finRange 8).map (axisOf s)

/-- The requester of a read that has been abandoned (R443): its answer is discarded. -/
abbrev noReq : Nat := 1023

/-- An access of requester `q` is answered (R10, R12): its latest answer is kept, the newest of all first. -/
def State.respond (s : State) (r : Resp) : State :=
  if r.req = noReq then s else { s with resp := r :: s.resp.filter fun x => x.req ≠ r.req }
def State.answer (s : State) (q a v : Nat) : State := s.respond ⟨q, a, v, false⟩
/-- An access that was refused: reads answer 0 (R388). -/
def State.deny (s : State) (q a : Nat) : State := s.respond ⟨q, a, 0, true⟩

/-! Latched registers (R40): one latch set per requester, by register address. -/

def latchKey (a q : Nat) : Nat := a * 1024 + q
def State.latch (s : State) (q a v : Nat) : State := { s with latches := Assoc.put (fun _ => 0) s.latches (latchKey a q) v }
def State.latched (s : State) (q a : Nat) : Nat := Assoc.get (fun _ => 0) s.latches (latchKey a q)

/-- Insert a record into a queue ordered by age and, among equal ages, by local axis (R60). -/
def insertAged {α : Type} (ax : α → Nat) (t : Nat) (x : α) : List (Nat × α) → List (Nat × α)
  | [] => [(t, x)]
  | (u, y) :: l => if t < u ∨ (t = u ∧ ax x < ax y) then (t, x) :: (u, y) :: l else (u, y) :: insertAged ax t x l

/-- The slates, axes and so on by number, where in range. -/
def slate? (n : Nat) : Option (Fin 8) := if h : n < 8 then some ⟨n, h⟩ else none
def axis? (n : Nat) : Option (Fin 64) := if h : n < 64 then some ⟨n, h⟩ else none
def fin? (k n : Nat) : Option (Fin k) := if h : n < k then some ⟨n, h⟩ else none

/-- The Slate cancels the outputs of events committed on it: it enters its safe state or loses its supply (R256, Table 3-6). -/
def State.cutCommits (s : State) (i : Fin 8) : State :=
  s.setTrack fun t => { t with com := t.com.map fun c => if c.2.1 = i.val then (c.1, c.2.1, true) else c }

end Sys2Proof.Machine
end

