-- ==== Sys2Proof/Machine/Time.lean ====
section
/-! DEFINITION. Clocks and time base (02_clocks_and_time_base.md, R33-R53). -/
namespace Sys2Proof.Machine
open Sys2Proof

/-! Device time (R38). -/

/-- One nanosecond in units of 2⁻³² ns, and one second. -/
abbrev ns32 : Nat := 2 ^ 32
abbrev sec32 : Nat := 1000000000 * 2 ^ 32
/-- Seconds count modulo 2⁴⁸ (R38). -/
abbrev timeMod : Nat := 2 ^ 48 * sec32

/-- The commit in force. -/
def TimeState.cur (t : TimeState) : Commit := t.commits.headD {}

/-- time(t) with commit `c`, in units of 2⁻³² ns; t − t_c is taken modulo 2⁶⁴ (R38, Table 2-2). -/
def timeWith (c : Commit) (t : Nat) : Nat := (c.b + ((t + 2 ^ 64 - c.tc) % 2 ^ 64) * c.inc) % timeMod

/-- The commit a stamp of tick `t` is converted with: the newest kept one at or before it, else the oldest (R42). -/
def TimeState.commitFor (t : TimeState) (k : Nat) : Commit :=
  (t.commits.find? fun c => c.tc ≤ k).getD (t.commits.getLastD {})

/-- Device time of a tick, by R42. A stamp older than the oldest kept commit lies before that commit's tick (log 67). -/
def State.timeAt (s : State) (k : Nat) : Nat :=
  let c := s.time.commitFor k
  if c.tc ≤ k then timeWith c k else (((c.b : Int) - ((c.tc - k : Nat) : Int) * c.inc) % (timeMod : Nat)).toNat

/-- The tick of a device time, nearest, halves upward, with the commit in force (R42). -/
def State.tickOf (s : State) (x : Nat) : Int :=
  let c := s.time.cur
  (c.tc : Int) + (2 * ((x : Int) - c.b) + c.inc) / (2 * (c.inc : Int))

/-- The parts of a time: seconds, nanoseconds, 32-bit fraction. -/
def timeSec (x : Nat) : Nat := x / sec32 % 2 ^ 48
def timeNs (x : Nat) : Nat := x % sec32 / ns32
def timeFrac (x : Nat) : Nat := x % ns32

/-! Network lock (R47-R51). -/

/-- NET_LOCK clears for reason `why`: UNLOCK, the count of unlocks, no holdover; the good count restarts (R48, R49, R51). -/
def State.netUnlock (s : State) (why : Nat) : State :=
  let s := s.setf P.time F.TIME_LOCK_STAT_GOOD_CNT 0
  if s.flag P.time F.TIME_LOCK_STAT_NET_LOCK then
    (((s.setb P.time F.TIME_LOCK_STAT_NET_LOCK false).setf P.time F.TIME_LOCK_STAT_WHY why).err P.time E.time_UNLOCK
      |>.incs P.time R.TIME_UNLOCK_CNT).setTime fun t => { t with holdEnd := none }
  else s

/-- NET_MASTER holds the lock (R50). -/
def State.masterHolds (s : State) : Bool :=
  s.flag P.time F.TIME_LOCK_CFG_NET_MASTER && s.time.masterOk && s.flag P.clk F.CLK_STATUS_SYS_LOCK

/-- A reason of R49: the lock clears, under NET_MASTER too. -/
def State.r49 (s : State) (why : Nat) : State := (s.netUnlock why).setTime fun t => { t with masterOk := false }

/-- TIME_NET_GUARD with 0 acting as 1; the same for the lock count and the drift bound (Table 2-10, R48). -/
def State.netGuard (s : State) : Nat := max 1 (s.fld P.time F.TIME_LOCK_CFG_NET_GUARD)
def State.lockCnt (s : State) : Nat := max 1 (s.fld P.time F.TIME_LOCK_CFG_LOCK_CNT)
def State.drift (s : State) : Nat := max 1 (bits (s.rd (P.time + R.TIME_DRIFT_BOUND)) 0 16)

/-- The holdover of R48 in ticks of 3.2 ns, for a last good offset of `ofs` ns. -/
def State.holdTicks (s : State) (ofs : Nat) : Nat := (s.netGuard - ofs) * 1000000000 * 5 / (s.drift * 16)

/-- Start the holdover (R48); under NET_MASTER none runs (R50). -/
def State.startHold (s : State) (ofs : Nat) : State :=
  s.setTime fun t => { t with holdEnd := if s.masterHolds then none else some (t.tick + s.holdTicks ofs) }

/-- TIME_HOLD_LEFT (R48, R50): remaining holdover in µs (312.5 ticks each), saturating. -/
def State.holdLeft (s : State) : Nat :=
  if !s.flag P.time F.TIME_LOCK_STAT_NET_LOCK then 0
  else if s.masterHolds then 0xFFFFFFFF
  else match s.time.holdEnd with
    | none => 0
    | some e => min ((e - s.now) * 2 / 625) 0xFFFFFFFF

/-- TIME_MEAS_OFS (R47): an offset measurement in signed ns. -/
def State.measOfs (s : State) (v : Word) : State :=
  let a := v.toInt.natAbs
  if a ≤ s.netGuard then
    let s := s.inc P.time F.TIME_LOCK_STAT_GOOD_CNT
    let s := if s.fld P.time F.TIME_LOCK_STAT_GOOD_CNT ≥ s.lockCnt then s.setb P.time F.TIME_LOCK_STAT_NET_LOCK true else s
    if s.flag P.time F.TIME_LOCK_STAT_NET_LOCK then s.startHold a else s
  else if s.masterHolds then s.setf P.time F.TIME_LOCK_STAT_GOOD_CNT 0
  else s.netUnlock 1

/-- TIME_MEAS_OFS (R47). -/
def execTimeMeasOfs (v : Word) (s : State) : Out := .next (s.measOfs v)

/-- The holdover runs out: NET_LOCK clears with reason 2 (R48). -/
def execNetHoldoverExpiry (s : State) : Out :=
  .next (match s.time.holdEnd with
    | some e => if e ≤ s.now ∧ s.flag P.time F.TIME_LOCK_STAT_NET_LOCK then s.netUnlock 2 else s
    | none => s)

/-- NET_MASTER written (R50). -/
def State.setMaster (s : State) (on : Bool) : State :=
  let was := s.flag P.time F.TIME_LOCK_CFG_NET_MASTER
  let held := s.masterHolds && s.flag P.time F.TIME_LOCK_STAT_NET_LOCK
  let s := s.setb P.time F.TIME_LOCK_CFG_NET_MASTER on
  if on && !was then
    let s := s.setTime fun t => { t with masterOk := true }
    if s.flag P.clk F.CLK_STATUS_SYS_LOCK then
      (s.setb P.time F.TIME_LOCK_STAT_NET_LOCK true).setTime fun t => { t with holdEnd := none }
    else s
  else if !on && was && held then (s.startHold 0)
  else s

def execNetMaster (on : Bool) (s : State) : Out := .next (s.setMaster on)

/-- The device is time-locked (R51). -/
def State.timeLocked (s : State) : Bool := s.flag P.time F.TIME_LOCK_STAT_NET_LOCK
/-- STATE of R29: 0 RESET, 1 SAFE_HOLD, 2 BASIC, 3 FULL. -/
def State.stage (s : State) : Nat := s.fld P.sys F.SYS_STATE_STATE
/-- TIME_UNLOCKED inhibits a class of Table 2-3: by its TIME_INH_CFG bit; in BASIC whatever the bit (R51). -/
def State.inhibited (s : State) (f : Fld) : Bool := !s.timeLocked && (s.flag P.time f || s.stage == 2)

/-! Reference inputs and PLLs (R34-R36, R52). -/

/-- LOC_OK or CAB_OK: the input is not lost (R35). -/
def State.refOk (s : State) (cab : Bool) : Bool :=
  if cab then s.flag P.clk F.CLK_STATUS_CAB_OK else s.flag P.clk F.CLK_STATUS_LOC_OK
def State.setRefOk (s : State) (cab ok : Bool) : State :=
  if cab then s.setb P.clk F.CLK_STATUS_CAB_OK ok else s.setb P.clk F.CLK_STATUS_LOC_OK ok
def State.refActive (s : State) : Bool := s.flag P.clk F.CLK_STATUS_ACTIVE_REF

/-- The reference changes to `cab`: any holdover ends, NET_LOCK clears with reason 3 (R34, R36, R49). -/
def State.refChange (s : State) (cab : Bool) : State :=
  ((((s.setf P.clk F.CLK_CTRL_REF_SEL cab.toNat).setb P.clk F.CLK_STATUS_ACTIVE_REF cab).setb P.clk
    F.CLK_STATUS_HOLDOVER false).setTime fun t => { t with holdStart := none }).r49 3

/-- A write of CLK_CTRL.REF_SEL (R34). -/
def State.selectRef (s : State) (v : BitVec 2) : State :=
  if v.toNat ≥ 2 then s
  else
    let cab := decide (v = 1)
    if cab = s.refActive then s
    else if !s.refOk cab then s
    else
      let hold := s.flag P.clk F.CLK_STATUS_HOLDOVER
      (s.refChange cab).errIf hold P.clk E.clk_REF_LOSS

def execRefSel (v : BitVec 2) (s : State) : Out := .next (s.selectRef v)

/-- The active input is lost: failover, or holdover until 100 µs later (R36). -/
def execRefclkLoss (cab : Bool) (s : State) : Out :=
  .next (
    if cab ≠ s.refActive then s
    else
      let s := (s.setRefOk cab false).setTime fun t => if cab then { t with cabPresent := false } else { t with locPresent := false }
      if s.flag P.clk F.CLK_CTRL_FAILOVER_EN && s.refOk (!cab) then
        (s.refChange (!cab)).err P.clk E.clk_REF_LOSS
      else (s.setb P.clk F.CLK_STATUS_HOLDOVER true).setTime fun t =>
        { t with holdStart := some (t.holdStart.getD t.tick) })

/-- The inactive input is lost: no edge for 128 ns (`absent`), or more than 100 ppm off (R35). -/
def State.inactiveLoss (s : State) (cab absent : Bool) : State :=
  if cab = s.refActive then s
  else
    let s := s.setRefOk cab false
    if absent then
      (s.setf P.clk F.CLK_ALT_DEV_DEV_PPM 0x8000).setTime fun t =>
        if cab then { t with cabPresent := false } else { t with locPresent := false }
    else s

def execInactiveRefLoss (cab absent : Bool) (s : State) : Out := .next (s.inactiveLoss cab absent)

/-- An input has edges again and lies within its limits: its OK bit sets; no return to it by itself (R35, R36). -/
def execRefclkRecovery (cab : Bool) (s : State) : Out :=
  .next ((s.setRefOk cab true).setTime fun t => if cab then { t with cabPresent := true } else { t with locPresent := true })

/-- The deviation of the inactive input, measured over 2²⁰ ticks (R35): shown, and judged against 100 ppm. -/
def execAltDevMeasure (ppm : Int) (s : State) : Out :=
  .next (
    let alt := !s.refActive
    if !(if alt then s.time.cabPresent else s.time.locPresent) then s.setf P.clk F.CLK_ALT_DEV_DEV_PPM 0x8000
    else
      let s := s.setf P.clk F.CLK_ALT_DEV_DEV_PPM (ofSigned 16 (clampI (-32767) 32767 ppm))
      s.setRefOk alt (ppm.natAbs ≤ 100))

/-! Reading time (R40). -/

def State.latchOf (s : State) (q : Fin 514) : TimeLatch := s.time.latch[q]
def State.setLatch (s : State) (q : Fin 514) (f : TimeLatch → TimeLatch) : State :=
  s.setTime fun t => { t with latch := t.latch.set q (f t.latch[q]) }

/-- Read of TIME_TICK_LO: latches the tick counter for the requester, returns the low word. -/
def State.readTickLo (s : State) (q : Fin 514) : State :=
  (s.setLatch q fun l => { l with tickHi := s.now / 2 ^ 32 % 2 ^ 32 }).answer q.val (P.time + R.TIME_TICK_LO) (s.now % 2 ^ 32)

def execTimeTickLo (q : Fin 514) (s : State) : Out := .next (s.readTickLo q)

/-- Read of TIME_SUBNS: latches the time of this tick and the tick, returns the fraction's high 16 bits (R13, R38). -/
def State.readSubns (s : State) (q : Fin 514) : State :=
  let x := timeWith s.time.cur s.now
  (s.setLatch q fun l => { l with time := x, tick := s.now }).answer q.val (P.time + R.TIME_SUBNS) (timeFrac x / 2 ^ 16)

def execTimeSubns (q : Fin 514) (s : State) : Out := .next (s.readSubns q)

/-! Commits (R41). -/

/-- A commit is pending: GO reads 1. -/
def State.cmtPending (s : State) : Bool := s.time.pend.isSome

/-- A write of TIME_CMT_CTRL (R41): ignored with STAGE_COLLIDE while a commit is pending. -/
def State.writeCmtCtrl (s : State) (v : Nat) : State :=
  if s.cmtPending then s.err P.time E.time_STAGE_COLLIDE
  else
    let s := s.wr (P.time + R.TIME_CMT_CTRL) (v % 2 ^ 7 &&& 0x73)
    if v % 2 = 0 then s
    else
      let want := s.rd64 P.time R.TIME_CMT_TICK_LO
      let late := s.flag P.time F.TIME_CMT_CTRL_AT_TICK && decide (want ≤ s.now)
      let at_ := if s.flag P.time F.TIME_CMT_CTRL_AT_TICK && !late then want else s.now + 1
      (s.setTime fun t => { t with pend := some at_ }).when late fun s => s.setb P.time F.TIME_CMT_STAT_LATE true

def execTimeCmtGo (v : Word) (s : State) : Out := .next (s.writeCmtCtrl v.toNat)

/-- The implemented bits of the ten staging registers from TIME_SET_SUBNS to TIME_CMT_TICK_HI (Table 2-8). -/
def stageMask : Nat → Nat
  | 0 => 0xFFFF | 1 => 0x3FFFFFFF | 3 => 0xFFFF | 7 => 0xF | _ => 0xFFFFFFFF

/-- A write of a staging register: ignored with STAGE_COLLIDE while a commit is pending (R41). -/
def State.writeStage (s : State) (r v : Nat) : State :=
  if s.cmtPending then s.err P.time E.time_STAGE_COLLIDE
  else s.wr (P.time + R.TIME_SET_SUBNS + 4 * r) (v &&& stageMask r)

def execTimeStageWrite (r : Fin 10) (v : Word) (s : State) : Out := .next (s.writeStage r.val v.toNat)

/-- Staged increment, and its range test (R39). -/
def State.stagedInc (s : State) : Nat := s.rd64 P.time R.TIME_SET_INC_LO % 2 ^ 36
def incOk (i : Nat) : Bool := 13730151452 ≤ i ∧ i ≤ 13757639242

/-- Staged absolute time in units of 2⁻³² ns, and the staged step (R41). -/
def State.stagedSet (s : State) : Nat :=
  (s.rd (P.time + R.TIME_SET_SEC_HI) * 2 ^ 32 + s.rd (P.time + R.TIME_SET_SEC_LO)) * sec32
    + s.rd (P.time + R.TIME_SET_NS) * ns32 + s.rd (P.time + R.TIME_SET_SUBNS) * 2 ^ 16
def State.stagedAdj (s : State) : Int :=
  (s.reg (P.time + R.TIME_ADJ_NS)).toInt * ns32 + s.rd (P.time + R.TIME_ADJ_FRAC)

/-- GO returns to 0: the commit has ended. -/
def State.endCommit (s : State) : State :=
  (s.setb P.time F.TIME_CMT_CTRL_GO false).setTime fun t => { t with pend := none }

/-- The new base time at tick `tn`: the absolute time or time(t_n), then the step (R41). -/
def State.commitBase (s : State) (tn : Nat) : Nat :=
  let b := if s.flag P.time F.TIME_CMT_CTRL_SEL_SET then s.stagedSet else timeWith s.time.cur tn
  let x : Int := (b : Int) + if s.flag P.time F.TIME_CMT_CTRL_SEL_ADJ then s.stagedAdj else 0
  (x % (timeMod : Nat)).toNat

/-- A due commit takes effect, or is rejected whole (R41, Table 2-2); the four newest are kept (R42). -/
def State.takeCommit (s : State) (tn : Nat) : State :=
  let set := s.flag P.time F.TIME_CMT_CTRL_SEL_SET
  let inc := s.flag P.time F.TIME_CMT_CTRL_SEL_INC
  if (set && decide (s.rd (P.time + R.TIME_SET_NS) ≥ 1000000000)) || (inc && !incOk s.stagedInc) then
    (s.setb P.time F.TIME_CMT_STAT_RANGE true).err P.time E.time_CMT_REJECT |>.endCommit
  else
    let i := if inc then s.stagedInc else s.time.cur.inc
    let c : Commit := ⟨s.commitBase tn, tn, i⟩
    let s := (s.setTime fun t => { t with commits := (c :: t.commits).take 4 }).wr64 P.time R.TIME_INC_LO i
    let s := (s.setb P.time F.TIME_CMT_STAT_DONE true).endCommit
    s.when set fun s => s.r49 4

/-- COMMIT_TAKE_EFFECT: the pending commit, once its tick is reached. -/
def execCommitTakeEffect (s : State) : Out :=
  .next (match s.time.pend with
    | some tn => if tn ≤ s.now then s.takeCommit tn else s
    | none => s)

end Sys2Proof.Machine
end

