-- ==== Sys2Proof/Machine/Gate.lean ====
section
/-! DEFINITION. Slate events, timer channels, gate drivers and their lockouts (R70, R93, R99-R112, R117). -/
namespace Sys2Proof.Machine
open Sys2Proof

/-- The Slate's tick counter. -/
def State.stick (s : State) (i : Fin 8) : Nat := (s.slate i).tick

/-- A Slate stamps an event and queues its EVENT record; a full queue of 32 discards it (R70). -/
def State.pushEvent (s : State) (i : Fin 8) (ch : Nat) (level : Bool) (stamp : Nat) : State :=
  if (s.slate i).link.evq.length ≥ 32 then
    (s.inc (P.link i) F.LINK_EVT_OVF).err (P.link i) E.link_EVT_OVF
  else s.setLink i fun l => { l with evq := l.evq ++ [⟨!(s.slate i).aligned, level, ch, stamp⟩] }

/-! Timer channels (R93). -/

/-- Trigger `code` fires in this tick: every enabled channel that selects it restarts its window (R93, Table 4-5). -/
def State.timerTrig (s : State) (i : Fin 8) (code : Nat) : State :=
  s.setSlate i fun x => { x with
    timers := Vector.ofFn fun n =>
      if code ≠ 0 ∧ s.flag (P.timers i) (F.TMR_CFG_EN n) ∧ s.fld (P.timers i) (F.TMR_CFG_TRIG n) = code then
        let o := x.tick + s.fld (P.timers i) (F.TMR_CFG_DELAY n)
        ⟨o, o + max 1 (s.fld (P.timers i) (F.TMR_WIDTH_WIDTH n))⟩
      else x.timers[n] }

/-- Codes Table 4-5 defines. -/
def trigDefined (c : Nat) : Bool :=
  (decide (0x10 ≤ c ∧ c ≤ 0x20)) || decide (0x28 ≤ c ∧ c ≤ 0x2F) || c == 0x30

def execTimerTrigger (s : Fin 8) (code : BitVec 8) (st : State) : Out :=
  .next (if trigDefined code.toNat then st.timerTrig s code.toNat else st)

/-- The window of a channel is open in tick `t`. -/
def TimerCh.isOpen (c : TimerCh) (t : Nat) : Bool := c.openT ≤ t ∧ t < c.closeT

def execTimerWindowOpen (s : Fin 8) (n : Fin 16) (st : State) : Out :=
  .next (if (st.slate s).timers[n].isOpen (st.stick s) then st.setbit (P.timers s) R.TMR_STATUS n true else st)

def execTimerWindowClose (s : Fin 8) (n : Fin 16) (st : State) : Out :=
  .next (if (st.slate s).timers[n].isOpen (st.stick s) then st else st.setbit (P.timers s) R.TMR_STATUS n false)

/-! Gate outputs: local output i is the high side (even) or low side (odd) of local half-bridge i/2; 48 is the chopper. -/

def State.out (s : State) (i : Fin 8) (k : Fin 49) : GateOut := (s.slate i).outs[k]
def State.setOut (s : State) (i : Fin 8) (k : Fin 49) (f : GateOut → GateOut) : State :=
  s.setSlate i fun x => { x with outs := x.outs.set k (f x.outs[k]) }

/-- The other switch of the half-bridge. -/
def otherOut (k : Fin 49) : Fin 49 :=
  if h : k.val < 48 then ⟨if k.val % 2 = 0 then k.val + 1 else k.val - 1, by split <;> omega⟩ else k

/-- The axis of a half-bridge output. -/
def outAxis (i : Fin 8) (k : Fin 49) : Option (Fin 64) :=
  if h : k.val < 48 then some ⟨8 * i.val + k.val / 6, by omega⟩ else none

/-- GATE_PROF and GATE_PROT of an output (R104). -/
def State.profOf (s : State) (i : Fin 8) (k : Fin 49) : Nat × Nat :=
  if k.val < 48 then (s.rd (P.gate i + R.GATE_PROF (k / 6)), s.rd (P.gate i + R.GATE_PROT (k / 6)))
  else (s.rd (P.gate i + R.GATE_CHOP_PROF), s.rd (P.gate i + R.GATE_CHOP_PROT))

/-- A lockout of Table 5-2 holds the output off. -/
def State.lockedOut (s : State) (i : Fin 8) (k : Fin 49) : Bool :=
  k.val < 48 && (s.flag (P.gate i) F.GATE_STATUS_VGD_UV || s.flag (P.gate i) F.GATE_STATUS_OT_SHUT
    || (k.val % 2 == 0 && s.rbit (P.gate i) R.GATE_BST_STAT (k / 2)))

/-- Is any switch of the axis reporting desaturation? The tick the report rose, kept while it stands. -/
def State.refreshDesat (s : State) (a : Fin 64) : State :=
  let i := slateOf a
  let any := (List.finRange 6).any fun j => ((s.slate i).outs[6 * localOf a + j.val]?.bind (·.desat)).isSome
  s.setPwm a fun p => { p with since := p.since.set 0 (if any then some (p.since[0].getD (s.stick i)) else none) }

/-- Turn-on command of a switch at instant `tap` (R101, R104, R108, R109). `low`: the sensed VGS of the other switch is
below its threshold. -/
def State.gateOn (s : State) (i : Fin 8) (k : Fin 49) (tap : Nat) (low : Bool) : State :=
  let o := s.out i k
  if o.cmd then s
  else
    let u := s.out i (otherOut k)
    let s := s.setOut i k fun o => { o with cmd := true, onTick := s.stick i, prof := (s.profOf i k).1, prot := (s.profOf i k).2, glock := false }
    let s := match outAxis i k with
      | some a => s.timerTrig i (0x10 + localOf a)
      | none => s.timerTrig i 0x20
    if k.val < 48 ∧ u.cmd then
      let s := (s.setOut i k fun o => { o with ph := .off }).setOut i (otherOut k) fun o => { o with ph := .off, desat := none }
      let s := s.setSlate i fun x => { x with xhold := x.xhold ||| 2 ^ (k.val / 2) }
      (((s.inc (P.gate i) F.GATE_XCNT_COUNT).setf (P.gate i) F.GATE_XCNT_LAST_HB (k.val / 2)).setb (P.gate i)
        F.GATE_STATUS_XHOLD true).err (P.gate i) E.gate_XCOND
    else if s.lockedOut i k then s
    else if k.val < 48 ∧ (tap < u.offTap + 400 ∨ !low) then
      ((s.setOut i k fun o => { o with ph := .wait }).inc (P.gate i) F.GATE_GLOCK_CNT_COUNT).setf (P.gate i)
        F.GATE_GLOCK_CNT_LAST_OUT k.val
    else s.setOut i k fun o => { o with ph := .pre }

/-- Turn-off command (R103): the phase ends, sensing ends; a partner held by the interlock may turn on under R109. -/
def State.gateOff (s : State) (i : Fin 8) (k : Fin 49) (tap : Nat) : State :=
  let o := s.out i k
  if !o.cmd then s
  else
    let s := s.setOut i k fun o => { o with cmd := false, ph := .off, offTap := tap, desat := none }
    let s := match outAxis i k with
      | some a => (s.timerTrig i (0x18 + localOf a)).refreshDesat a
      | none => s
    if k.val < 48 ∧ bits (s.slate i).xhold (k.val / 2) 1 = 1 then
      let s := s.setSlate i fun x => { x with xhold := setBits x.xhold (k.val / 2) 1 0 }
      (s.setb (P.gate i) F.GATE_STATUS_XHOLD ((s.slate i).xhold ≠ 0)).setOut i (otherOut k) fun u =>
        { u with ph := .wait, onTick := s.stick i }
    else s

/-- An output is held off without its command dropping (a lockout): the profile ends, sensing ends. -/
def State.gateHold (s : State) (i : Fin 8) (k : Fin 49) : State :=
  let s := s.setOut i k fun o => { o with ph := .off, desat := none }
  match outAxis i k with
  | some a => s.refreshDesat a
  | none => s

/-- The six outputs of an axis. -/
def axisOuts (a : Fin 64) : List (Fin 49) := (List.finRange 6).map fun j => ⟨6 * localOf a + j.val, by unfold localOf; omega⟩

/-- The gate supply line is enabled (R69). -/
def State.gsOn (s : State) (i : Fin 8) : Bool := s.flag (P.gate i) F.GATE_STATUS_GS_ON

/-- VGS reached the end of the running phase: PRE ends in SLOPE, or in HOLD when VHOLD ≤ VPRE; SLOPE ends in HOLD (R101). -/
def execGatePhaseAdvance (s : Fin 8) (i : Fin 49) (st : State) : Out :=
  .next (
    let o := st.out s i
    match o.ph with
    | .pre => st.setOut s i fun o => { o with ph := if bits o.prof 16 5 ≤ bits o.prof 0 5 then .hold else .slope }
    | .slope => st.setOut s i fun o => { o with ph := .hold }
    | _ => st)

/-- TON_MAX passes before HOLD: the driver enters HOLD and counts (R101). -/
def execTonTmo (s : Fin 8) (i : Fin 49) (st : State) : Out :=
  .next (
    let o := st.out s i
    if (o.ph = .pre ∨ o.ph = .slope) ∧ o.onTick + 4 * max 2 (bits o.prof 24 8) ≤ st.stick s then
      (((st.setOut s i fun o => { o with ph := .hold }).inc (P.gate s) F.GATE_TMO_CNT_COUNT).setf (P.gate s)
        F.GATE_TMO_CNT_LAST_OUT i.val).err (P.gate s) E.gate_TON_TMO
    else st)

/-- The conditions of R109 hold for a waiting switch: 20 ns (400 taps) have passed since the other's turn-off command and,
as the event says, its VGS is low. The turn-on begins, unless a lockout holds it. -/
def execTurnOnRelease (s : Fin 8) (i : Fin 48) (st : State) : Out :=
  .next (
    let k : Fin 49 := i.castSucc
    let u := st.out s (otherOut k)
    if (st.out s k).ph = .wait ∧ !u.cmd ∧ u.offTap + 400 ≤ 64 * st.stick s + 63 then
      st.setOut s k fun o => { o with ph := if st.lockedOut s k then .off else .pre }
    else st)

/-- A turn-on has waited more than 2 µs, 625 ticks (R109). -/
def execGlock (s : Fin 8) (i : Fin 48) (st : State) : Out :=
  .next (
    let o := st.out s i.castSucc
    if o.ph = .wait ∧ !o.glock ∧ o.onTick + 625 < st.stick s then
      (st.setOut s i.castSucc fun o => { o with glock := true }).err (P.gate s) E.gate_GLOCK
    else st)

/-- 100 µs after the line was last enabled (R100): 31,250 ticks. -/
def State.gsSettled (s : State) (i : Fin 8) : Bool := s.gsOn i && decide ((s.slate i).gsAt + 31250 ≤ s.stick i)

/-- VGD lockout entered or released (Table 5-2); reported when entered with the line enabled for 100 µs (R100). -/
def execVgdLockout (s : Fin 8) (enter : Bool) (st : State) : Out :=
  .next (
    if enter then
      let t := forEach ((List.finRange 48).map Fin.castSucc) (st.setb (P.gate s) F.GATE_STATUS_VGD_UV true) fun k t => t.gateHold s k
      let t := t.setSlate s fun x => { x with vgdRep := t.gsSettled s }
      t.errIf (t.gsSettled s) (P.gate s) E.gate_VGD_UV
    else (st.setb (P.gate s) F.GATE_STATUS_VGD_UV false).setSlate s fun x => { x with vgdRep := false })

/-- The lockout still stands 100 µs after the line was enabled (R100). -/
def execVgdUvReport (s : Fin 8) (st : State) : Out :=
  .next (
    if st.flag (P.gate s) F.GATE_STATUS_VGD_UV ∧ st.gsSettled s ∧ !(st.slate s).vgdRep then
      (st.setSlate s fun x => { x with vgdRep := true }).err (P.gate s) E.gate_VGD_UV
    else st)

/-- Bootstrap lockout of half-bridge k (Table 5-2); reported only when entered with the line enabled (R100). -/
def execBstLockout (s : Fin 8) (k : Fin 24) (enter : Bool) (st : State) : Out :=
  .next (
    let t := st.setbit (P.gate s) R.GATE_BST_STAT k enter
    if enter then (t.gateHold s ⟨2 * k.val, by omega⟩).errIf (t.gsOn s) (P.gate s) E.gate_BST_UV else t)

/-- Overtemperature lockout (Table 5-2): the 48 half-bridge outputs, not the chopper. -/
def execOtShut (s : Fin 8) (enter : Bool) (st : State) : Out :=
  .next (
    let t := st.setb (P.gate s) F.GATE_STATUS_OT_SHUT enter
    if enter then
      (forEach ((List.finRange 48).map Fin.castSucc) t fun k t => t.gateHold s k).err (P.gate s) E.gate_OT_SHUT
    else t)

/-- A driver asserts or withdraws its desaturation report; it senses only under the conditions of R110. -/
def execDesatReport (s : Fin 8) (i : Fin 49) (on : Bool) (st : State) : Out :=
  .next (
    let o := st.out s i
    let sensing := bits o.prot 8 1 = 1 ∧ o.cmd ∧ (o.ph = .pre ∨ o.ph = .slope ∨ o.ph = .hold)
    let t := if on then
        if sensing then st.setOut s i fun o => { o with desat := some (o.desat.getD (st.stick s)) } else st
      else st.setOut s i fun o => { o with desat := none }
    match outAxis s i with
    | some a => t.refreshDesat a
    | none => t)

/-- An overcurrent comparator asserts or de-asserts (R117): phase 3n + k of the Slate, or 24 for the chopper. A threshold of
0 keeps it de-asserted. -/
def execOcpAssert (s : Fin 8) (ph : Fin 25) (on : Bool) (st : State) : Out :=
  .next (
    if h : ph.val < 24 then
      let a := axisOf s ⟨ph.val / 3, by omega⟩
      let on := on && decide (st.fld (P.adc s) (F.ADC_AXCFG_OCP_TH (ph.val / 3)) ≠ 0)
      st.setPwm a fun p =>
        let m := setBits p.ocpPh (ph.val % 3) 1 on.toNat
        { p with ocpPh := m, since := p.since.set 1 (if m = 0 then none else some (p.since[1].getD (st.stick s))) }
    else
      let on := on && decide (st.rd (P.adc s + R.ADC_CHOP_OCP) ≠ 0)
      st.setSlate s fun x => { x with chop := { x.chop with
        ocp := if on then some (x.chop.ocp.getD x.tick) else none } })

end Sys2Proof.Machine
end

