-- ==== Sys2Proof/Machine/Pwm.lean ====
section
/-! DEFINITION. PWM generators, trip logic, chopper (04_pwm_generators_and_trip_logic.md, R73-R93). Instants are in taps
(1/64 tick) on the Slate tick scale. -/
namespace Sys2Proof.Machine
open Sys2Proof

/-! Values in force. -/

/-- T in force, in taps. -/
def State.carT (s : State) (i : Fin 8) : Nat := bits (s.rd (P.carrier i + R.CARRIER_PERIOD_NOW)) 0 24
def State.carRun (s : State) (i : Fin 8) : Bool := s.flag (P.carrier i) F.CARRIER_STATUS_RUNNING
def State.carDouble (s : State) (i : Fin 8) : Bool := s.flag (P.carrier i) F.CARRIER_STATUS_DOUBLE_NOW
def State.pwmEnabled (s : State) (a : Fin 64) : Bool := s.flag (P.pwm a) F.PWM_CTRL_EN
def State.pwm (s : State) (a : Fin 64) : PwmAxis := (s.axis a).pwm

/-- An instant has been reached by the Slate's tick counter. -/
def State.reached (s : State) (i : Fin 8) (tap : Nat) : Bool := tap / 64 ≤ s.stick i

/-- An output places its edges at whole ticks: before CAL_DONE, or its pair is marked (R80). -/
def State.tickRes (s : State) (i : Fin 8) (k : Nat) : Bool :=
  !s.flag (P.carrier i) F.CARRIER_STATUS_CAL_DONE ||
    (if k < 32 then s.rbit (P.carrier i) R.CARRIER_CAL_FAIL_LO k else s.rbit (P.carrier i) R.CARRIER_CAL_FAIL_HI (k - 32))

/-- The instant an edge computed for `tap` is placed at: the nearest whole tick, halves upward, at tick resolution (R80). -/
def State.placed (s : State) (i : Fin 8) (k tap : Nat) : Nat := if s.tickRes i k then (tap + 32) / 64 * 64 else tap

/-- The clamping of Table 4-1 with half period `h` and CMIN = D + PWM_MINON (R77). -/
def clampCompare (h cmin c : Nat) : Nat :=
  if c ≥ h then h else if c < cmin then 0 else if c + cmin > h then h else c

/-- The reference is high at `u` taps from the axis edge (R75). -/
def refHigh (t c1 c2 u : Nat) : Bool := decide (u < c1) || decide (t ≤ u + c2)

/-! Permission (R66, R81). -/

/-- The conditions of R81 other than EN (PWM_STATUS.PERMIT). -/
def State.permitOther (s : State) (a : Fin 64) : Bool :=
  let i := slateOf a
  bits (s.slate i).gen (localOf a) 1 = 1 && !(s.slate i).safe && s.gsOn i && s.carRun i &&
    !s.flag (P.pwm a) F.PWM_TRIP_STAT_LATCH && decide ((s.pwm a).phase < s.carT i)

def State.permit (s : State) (a : Fin 64) : Bool := s.pwmEnabled a && s.permitOther a

/-- Both switches of every half-bridge of the axis are commanded off. -/
def State.allOff (s : State) (a : Fin 64) : State :=
  forEach (axisOuts a) s fun k t => t.gateOff (slateOf a) k (64 * s.stick (slateOf a))

/-- Phase k of the axis is held off: HB_OFF, or W of a brushed axis (R82). -/
def State.heldOff (s : State) (a : Fin 64) (k : Nat) : Bool :=
  bits (s.fld (P.pwm a) F.PWM_CTRL_HB_OFF) k 1 = 1 || (k == 2 && s.flag (P.pwm a) F.PWM_CTRL_TOPO)

/-- PWM_CMP_U, V, W show the values in force and the tag of their set. -/
def State.showCmp (s : State) (a : Fin 64) (k v : Nat) (tag : Option Nat) : State :=
  let o := P.pwm a + R.PWM_CMP_U + 4 * k
  s.wr o ((tag.getD (s.rd o / 2 ^ 24)) % 256 * 2 ^ 24 + v % 2 ^ 24)

/-- Step 1 of the start sequence (R82): every value in force becomes PWM_CMP_INIT, clamped (R77). -/
def State.loadInit (s : State) (a : Fin 64) : State :=
  let p := s.pwm a
  let c := clampCompare (s.carT (slateOf a) / 2) (p.dt + p.minon) (bits (s.rd (P.pwm a + R.PWM_CMP_INIT)) 0 24)
  let s := s.setPwm a fun p => { p with hb := p.hb.map fun h => { h with c1 := c, c2 := c } }
  forEach [0, 1, 2] s fun k t => t.showCmp a k c none

/-- After anything that bears on R81: without permission the axis is off, sets are discarded and a start sequence not yet
switching is abandoned; with it, an armed start sequence begins (R81, R82). -/
def State.checkPermit (s : State) (a : Fin 64) : State :=
  if s.permit a then
    if (s.pwm a).start = .armed then (s.loadInit a).setPwm a fun p => { p with start := .toEdge, sets := [] } else s
  else
    (s.setPwm a fun p => { p with act := false, sets := [], start := match p.start with
      | .toEdge => .armed | .boot _ => .armed | .booted => .armed | x => x }).allOff a

def State.checkSlate (s : State) (i : Fin 8) : State := forEach (axesOf i) s fun a t => t.checkPermit a

/-! Carrier (R73, R83, R84). -/

/-- The staged period and mode come into force, after the checks of Table 4-2, or are rejected. -/
def State.applyStaged (s : State) (i : Fin 8) : State :=
  let t := bits (s.rd (P.carrier i + R.CARRIER_PERIOD)) 1 23 * 2
  let dbl := bits (s.rd (P.carrier i + R.CARRIER_MODE)) 0 1 = 1
  let ok := decide (200000 ≤ t ∧ t ≤ 2500000) && (!dbl || decide (250000 ≤ t)) &&
    (axesOf i).all fun a => !s.pwmEnabled a || decide ((s.pwm a).phase < t)
  let s := ((s.setb (P.carrier i) F.CARRIER_APPLY_GO false).setb (P.carrier i) F.CARRIER_STATUS_APPLY_PEND false).setSlate i
    fun x => { x with car := { x.car with pend := none } }
  if ok then
    ((s.wr (P.carrier i + R.CARRIER_PERIOD_NOW) t).setb (P.carrier i) F.CARRIER_STATUS_DOUBLE_NOW dbl).setb (P.carrier i)
      F.CARRIER_APPLY_STAT_DONE true
  else (s.setb (P.carrier i) F.CARRIER_APPLY_STAT_REJECT true).err (P.carrier i) E.carrier_PER_REJECT

/-- The first E_k = 64 × EPOCH + k × T at or after `from_` (R73); k is any integer. -/
def gridEdge (epoch t from_ : Nat) : Nat :=
  let e : Int := 64 * (epoch : Int)
  let f : Int := from_
  (e + (((f - e) + t - 1) / (t : Int)) * t).toNat

/-- A write of CARRIER_CTRL takes effect at the Slate (R73, R83). -/
def State.writeCarrierCtrl (s : State) (i : Fin 8) (v : Nat) : State :=
  let was := s.flag (P.carrier i) F.CARRIER_CTRL_RUN
  let s := s.wr (P.carrier i + R.CARRIER_CTRL) (v % 4)
  let run := bits v 0 1 = 1
  if run ∧ !was then
    let now := s.stick i
    let s := if bits v 1 1 = 1 then s else s.wr64 (P.carrier i) R.CARRIER_EPOCH_LO (now + 2)
    let e := if bits v 1 1 = 1 then gridEdge (s.rd64 (P.carrier i) R.CARRIER_EPOCH_LO) (s.carT i) (64 * (now + 2)) else 64 * (now + 2)
    let s := (s.setb (P.carrier i) F.CARRIER_STATUS_RUNNING true).wr (P.carrier i + R.CARRIER_EDGE_CNT) 0
    let s := s.setSlate i fun x => { x with car := { x.car with next := e } }
    let s := forEach (axesOf i) s fun a t => t.setPwm a fun p =>
      { p with edges := [], smpN := 0, perT := 0, updEdge := false, updCentre := false }
    s.checkSlate i
  else if !run ∧ was then
    let s := s.setb (P.carrier i) F.CARRIER_STATUS_RUNNING false
    let s := forEach (axesOf i) s fun a t => t.setPwm a fun p => { p with edges := [], updEdge := false, updCentre := false }
    let s := if (s.slate i).car.pend.isSome then s.applyStaged i else s
    s.checkSlate i
  else s

def execCarrierRun (s : Fin 8) (v : BitVec 2) (st : State) : Out := .next (st.writeCarrierCtrl s v.toNat)

/-- A write of CARRIER_APPLY (R83, Table 4-2). -/
def State.writeCarrierApply (s : State) (i : Fin 8) (v : Nat) : State :=
  let s := s.wr (P.carrier i + R.CARRIER_APPLY) (setBits (s.rd (P.carrier i + R.CARRIER_APPLY)) 1 1 (v / 2))
  if v % 2 = 0 then s
  else if !s.carRun i then s.applyStaged i
  else
    let at_ := bits v 1 1 = 1
    let want := s.rd64 (P.carrier i) R.CARRIER_APPLY_TICK_LO
    let late := at_ && decide (want < s.stick i)
    let s := ((s.setb (P.carrier i) F.CARRIER_APPLY_GO true).setb (P.carrier i) F.CARRIER_STATUS_APPLY_PEND true).setSlate i
      fun x => { x with car := { x.car with pend := some (if at_ && !late then some want else none) } }
    s.when late fun s => (s.setb (P.carrier i) F.CARRIER_APPLY_STAT_LATE true).err (P.carrier i) E.carrier_PER_LATE

def execCarrierApplyGo (s : Fin 8) (v : BitVec 2) (st : State) : Out := .next (st.writeCarrierApply s v.toNat)

/-- A carrier edge (R73): a due apply first; each axis's edge at E + P is then to come with the T now in force. -/
def State.carrierEdge (s : State) (i : Fin 8) : State :=
  let e := (s.slate i).car.next
  if s.carRun i && s.reached i e then
    let due := match (s.slate i).car.pend with
      | some none => true
      | some (some t) => decide (64 * t ≤ e)
      | none => false
    let s := if due then s.applyStaged i else s
    let t := s.carT i
    let s := (s.setSlate i fun x => { x with car := { x.car with next := e + t } }).incw (P.carrier i) R.CARRIER_EDGE_CNT
    let s := forEach (axesOf i) s fun a u => u.setPwm a fun p => { p with edges := p.edges ++ [(e, t)] }
    (s.timerTrig i 0x30).checkSlate i
  else s

def execCarrierEdge (s : Fin 8) (st : State) : Out := .next (st.carrierEdge s)

/-! Trips (R85-R89). Source 0 DESAT, 1 OCP, 2 EXT. -/

/-- The tick from which a source has been asserted; EXT follows its field input's filtered level and polarity. -/
def State.srcSince (s : State) (a : Fin 64) (src : Fin 3) : Option Nat :=
  if src = 2 then
    let j := s.fld (P.pwm a) F.PWM_TRIP_CFG_EXT_PT
    match (s.slate (slateOf a)).fp[j]? with
    | some f => if f.mode = 1 ∧ f.lvl ≠ s.flag (P.pwm a) F.PWM_TRIP_CFG_EXT_POL then some f.chg else none
    | none => none
  else (s.pwm a).since[src]

/-- Asserted since tick `t`, outside its blanking window, and seen in FILT + 1 consecutive ticks up to now; a source that
asserts in a tick is first seen in the next (R85). -/
def qualifiedAt (t filt now : Nat) (blank : Option TimerCh) : Bool :=
  match blank with
  | none => decide (t + 1 + filt ≤ now)
  | some c => !c.isOpen now && decide (max (t + 1) (if c.closeT ≤ now then c.closeT else 0) + filt ≤ now)

/-- The blanking channel a source of the axis selects. -/
def State.blankOf (s : State) (a : Fin 64) (src : Fin 3) : Option TimerCh :=
  let c := s.rd (P.pwm a + R.PWM_TRIP_CFG)
  if bits c (4 + src.val) 1 = 1 then (s.slate (slateOf a)).timers[bits c (12 + 4 * src.val) 4]? else none

/-- The condition of R85 but for the enable bit. -/
def State.srcSeen (s : State) (a : Fin 64) (src : Fin 3) : Bool :=
  match s.srcSince a src with
  | none => false
  | some t => qualifiedAt t (s.fld (P.pwm a) F.PWM_TRIP_CFG_FILT) (s.stick (slateOf a)) (s.blankOf a src)

def State.qualified (s : State) (a : Fin 64) (src : Fin 3) : Bool :=
  bits (s.rd (P.pwm a + R.PWM_TRIP_CFG)) src.val 1 = 1 && s.srcSeen a src

def State.anyQualified (s : State) (a : Fin 64) : Bool := (List.finRange 3).any fun i => s.qualified a i

/-- The sources qualified now, as LAST_SRC shows them. -/
def State.qualMask (s : State) (a : Fin 64) : Nat :=
  (s.qualified a 0).toNat + 2 * (s.qualified a 1).toNat + 4 * (s.qualified a 2).toNat

/-- A qualification acts on the axis (R86, R88): off until the next axis edge; the first of a period makes it tripped. -/
def State.trip (s : State) (a : Fin 64) : State :=
  let i := slateOf a
  let s := s.allOff a
  if (s.pwm a).tripPer then s
  else
    let s := s.setPwm a fun p => { p with tripPer := true }
    let s := (s.inc (P.pwm a) F.PWM_TRIP_TOTAL_COUNT).inc (P.pwm a) F.PWM_TRIP_STAT_CONSEC
    let s := s.setf (P.pwm a) F.PWM_TRIP_STAT_LAST_SRC (s.qualMask a)
    let s := if (s.pwm a).run then s
      else ((s.pushEvent i (40 + localOf a) true (s.stick i)).err (P.pwm a) E.pwm_TRIP_CBC).setPwm a fun p => { p with run := true }
    if s.fld (P.pwm a) F.PWM_TRIP_STAT_CONSEC ≥ max 1 (bits (s.rd (P.pwm a + R.PWM_TRIP_N)) 0 8) then
      ((s.setb (P.pwm a) F.PWM_TRIP_STAT_LATCH true).err (P.pwm a) E.pwm_TRIP_LATCH).checkPermit a
    else s

/-! Axis edges (R74, R82, R86). -/

/-- The next axis edge A = E + P and its period's T. -/
def State.nextEdge (s : State) (a : Fin 64) : Option (Nat × Nat) :=
  (s.pwm a).edges.head?.map fun e => (e.1 + (s.pwm a).phase, e.2)

/-- The low sides in use turn on for the precharge, or off at its end (R82). -/
def State.bootLows (s : State) (a : Fin 64) (on : Bool) (tap : Nat) : State :=
  forEach (List.finRange 3) s fun k t =>
    if t.heldOff a k then t
    else
      let o : Fin 49 := ⟨6 * localOf a + 2 * k.val + 1, by unfold localOf; omega⟩
      if on then t.gateOn (slateOf a) o tap true else t.gateOff (slateOf a) o tap

/-- The start sequence at an axis edge at `tap` with every condition holding (R82). -/
def State.startStep (s : State) (a : Fin 64) (tap : Nat) : State :=
  match (s.pwm a).start with
  | .toEdge =>
    let us := min 10000 (bits (s.rd (P.pwm a + R.PWM_BOOT)) 0 16)
    if us = 0 then s.setPwm a fun p => { p with start := .switching, firstUpd := true, sets := [] }
    else (s.setPwm a fun p => { p with start := .boot (tap + 20000 * us) }).bootLows a true tap
  | .boot u =>
    if u ≤ tap then
      (s.bootLows a false u).setPwm a fun p => { p with start := .switching, firstUpd := true, sets := [] }
    else s
  | .booted => s.setPwm a fun p => { p with start := .switching, firstUpd := true, sets := [] }
  | _ => s

/-- The ending period: untripped, CONSEC returns to 0 and a run ends, with its EVENT unless latched (R86, R88). -/
def State.endPeriod (s : State) (a : Fin 64) : State :=
  let i := slateOf a
  if (s.pwm a).tripPer then s.setPwm a fun p => { p with tripPer := false }
  else
    let s := s.setf (P.pwm a) F.PWM_TRIP_STAT_CONSEC 0
    if (s.pwm a).run then
      let s := s.setPwm a fun p => { p with run := false }
      if s.flag (P.pwm a) F.PWM_TRIP_STAT_LATCH then s else s.pushEvent i (40 + localOf a) false (s.stick i)
    else s

/-- An axis edge: the period ends, D and MINON as written come into force, switching starts or resumes; a source still
qualified makes the new period tripped from its first tick. -/
def State.axisEdge (s : State) (a : Fin 64) : State :=
  let i := slateOf a
  match s.nextEdge a with
  | none => s
  | some (tap, t) =>
    if !s.reached i tap then s
    else
      let was := (s.pwm a).tripPer
      let s := s.endPeriod a
      let s := s.setPwm a fun p => { p with
        edges := p.edges.tail, perStart := tap, perT := t, updEdge := true, updCentre := true
        dt := max 400 (bits (s.rd (P.pwm a + R.PWM_DT)) 0 16), minon := bits (s.rd (P.pwm a + R.PWM_MINON)) 0 16 }
      let s := s.timerTrig i (0x28 + localOf a)
      let s := if s.permit a then
          let s := s.startStep a tap
          if (s.pwm a).start = .switching then
            s.setPwm a fun p => { p with act := true, hb := p.hb.map fun h =>
              let hs := refHigh t h.c1 h.c2 0
              if p.act && !was then h else { h with ref := hs, onAt := tap + p.dt } }
          else s
        else s
      if s.pwmEnabled a && s.anyQualified a then s.trip a else s

def execAxisEdge (a : Fin 64) (s : State) : Out := .next (s.axisEdge a)

/-- A qualified desaturation of output k is latched in the gate page (R86, R106). -/
def State.desatLatch (s : State) (a : Fin 64) (k : Fin 49) : State :=
  let i := slateOf a
  match (s.out i k).desat with
  | some d =>
    if qualifiedAt d (s.fld (P.pwm a) F.PWM_TRIP_CFG_FILT) (s.stick i) (s.blankOf a 0) then
      (if k.val < 32 then s.setbit (P.gate i) R.GATE_DESAT_LO k.val true
        else s.setbit (P.gate i) R.GATE_DESAT_HI (k.val - 32) true).err (P.gate i) E.gate_DESAT
    else s
  | none => s

/-- A trip source qualifies (R86); an axis edge of this tick comes first, so the qualification belongs to the new period.
Each switch whose own report qualifies is shown in GATE_DESAT with DESAT, whether or not the source is enabled (R111). -/
def State.tripQualify (s : State) (a : Fin 64) (src : Fin 3) : State :=
  let s := s.axisEdge a
  let s := if src = 0 then forEach (axisOuts a) s fun k t => t.desatLatch a k else s
  if s.pwmEnabled a && s.qualified a src then s.trip a else s

def execTripQualify (a : Fin 64) (src : Fin 3) (s : State) : Out := .next (s.tripQualify a src)

/-- The trip latch clears: CONSEC returns to 0 and the event reports the new level (R87, R88). -/
def State.dropLatch (s : State) (a : Fin 64) : State :=
  if s.flag (P.pwm a) F.PWM_TRIP_STAT_LATCH then
    let i := slateOf a
    let s := (s.setb (P.pwm a) F.PWM_TRIP_STAT_LATCH false).setf (P.pwm a) F.PWM_TRIP_STAT_CONSEC 0
    ((s.pushEvent i (40 + localOf a) false (s.stick i)).setPwm a fun p => { p with run := false }).checkPermit a
  else s

/-- A write of 1 to PWM_TRIP_STAT.LATCH clears the latch only while no source of the axis is qualified (R87). -/
def State.clearLatch (s : State) (a : Fin 64) : State := if s.anyQualified a then s else s.dropLatch a

def execTripLatchClear (a : Fin 64) (s : State) : Out := .next (s.clearLatch a)

/-- The precharge ends: the low sides turn off, and switching waits for the next axis edge (R82). -/
def execPrechargeEnd (a : Fin 64) (s : State) : Out :=
  .next (match (s.pwm a).start with
    | .boot u => if s.reached (slateOf a) u then
        (s.bootLows a false u).setPwm a fun p => { p with start := .booted }
      else s
    | _ => s)

/-- EN from 0 to 1 brings a staged phase into force and arms the start sequence; EN at 0 ends it (R82). -/
def State.armStart (s : State) (a : Fin 64) (was en : Bool) : State :=
  if en && !was then
    s.setPwm a fun p => { p with
      start := .armed, stagedPhase := false
      phase := if p.stagedPhase then bits (s.rd (P.pwm a + R.PWM_PHASE)) 0 24 else p.phase }
  else if !en then s.setPwm a fun p => { p with start := .off }
  else s

/-- Both switches of each phase held off are commanded off (R82). -/
def State.offHeld (s : State) (a : Fin 64) : State :=
  forEach (List.finRange 3) s fun k t =>
    if t.heldOff a k then
      (t.gateOff (slateOf a) ⟨6 * localOf a + 2 * k.val, by unfold localOf; omega⟩ (64 * s.stick (slateOf a))).gateOff (slateOf a)
        ⟨6 * localOf a + 2 * k.val + 1, by unfold localOf; omega⟩ (64 * s.stick (slateOf a))
    else t

/-- A write of PWM_CTRL at the Slate (R81, R82). -/
def State.writePwmCtrl (s : State) (a : Fin 64) (v : Nat) : State :=
  (((s.wr (P.pwm a + R.PWM_CTRL) (v &&& 0x73)).armStart a (s.pwmEnabled a) (v % 2 == 1)).offHeld a).checkPermit a

def execPwmEn (a : Fin 64) (v : BitVec 7) (s : State) : Out := .next (s.writePwmCtrl a v.toNat)

/-- A write of PWM_PHASE (Table 4-2): in force at once with EN at 0, else staged until EN next changes from 0 to 1. -/
def State.writePhase (s : State) (a : Fin 64) (v : Nat) : State :=
  let s := s.wr (P.pwm a + R.PWM_PHASE) (v % 2 ^ 24)
  if s.pwmEnabled a then s.setPwm a fun p => { p with stagedPhase := true }
  else (s.setPwm a fun p => { p with phase := v % 2 ^ 24, stagedPhase := false }).checkPermit a

def execPwmPhaseWrite (a : Fin 64) (v : BitVec 24) (s : State) : Out := .next (s.writePhase a v.toNat)

/-- A write of PWM_DT: below 400 loads 400 (R76); of PWM_DT or PWM_MINON: in force at the next axis edge while switching. -/
def State.writeDt (s : State) (a : Fin 64) (v : Nat) : State :=
  let d := max 400 (v % 2 ^ 16)
  let s := s.wr (P.pwm a + R.PWM_DT) d
  if (s.pwm a).act then s else s.setPwm a fun p => { p with dt := d }
def State.writeMinon (s : State) (a : Fin 64) (v : Nat) : State :=
  let s := s.wr (P.pwm a + R.PWM_MINON) (v % 2 ^ 16)
  if (s.pwm a).act then s else s.setPwm a fun p => { p with minon := v % 2 ^ 16 }

/-! Update instants (R23, R74, R82). -/

/-- The newest of a list of sets, seen from tag `cur` (tags count modulo 256). -/
def newestSet (cur : Nat) : List CmpSet → Option CmpSet
  | [] => none
  | c :: l => match newestSet cur l with
    | none => some c
    | some d => if (cur + 256 - c.tag) % 256 < (cur + 256 - d.tag) % 256 then some c else some d

/-- The set's values come into force: C1 and C2 at an axis edge, C2 at a centre (R75, R77). -/
def State.loadSet (s : State) (a : Fin 64) (edge : Bool) (c : CmpSet) : State :=
  let p := s.pwm a
  let f := clampCompare (p.perT / 2) (p.dt + p.minon)
  let ld (h : HalfBridge) (v : Nat) : HalfBridge := if edge then { h with c1 := f v, c2 := f v } else { h with c2 := f v }
  let s := s.setPwm a fun p => { p with hb := #v[ld p.hb[0] c.u, ld p.hb[1] c.v, ld p.hb[2] c.w] }
  ((s.showCmp a 0 (f c.u) (some c.tag)).showCmp a 1 (f c.v) (some c.tag)).showCmp a 2 (f c.w) (some c.tag)

/-- No set is loaded: the previous values repeat; a new period's C1 and C2 are the value in force (R23, R75). -/
def State.repeatSet (s : State) (a : Fin 64) (edge : Bool) : State :=
  if edge then s.setPwm a fun p => { p with hb := p.hb.map fun h => { h with c1 := h.c2 } } else s

/-- A late update is counted (R23). -/
def State.countLate (s : State) (a : Fin 64) (tag : Nat) : State :=
  ((s.inc (P.pwm a) F.PWM_LATE_CNT_COUNT).setf (P.pwm a) F.PWM_LATE_CNT_LAST_TAG tag).err (P.pwm a) E.pwm_LATE

/-- The update instant at `tap`, an axis edge or a centre (Table 1-3, R82). -/
def State.update (s : State) (a : Fin 64) (edge : Bool) (tap : Nat) : State :=
  let p := s.pwm a
  if !p.act then s.setPwm a fun p => { p with sets := [] }
  else
    let cur := if p.smpAt < tap then p.tag else (p.tag + 255) % 256
    let sampled := decide (p.smpN ≥ if p.smpAt < tap then 1 else 2)
    let ok := p.sets.filter fun c => decide (64 * c.arr + 128 ≤ tap)
    let s := s.setPwm a fun p => { p with sets := p.sets.filter fun c => decide (tap < 64 * c.arr + 128), firstUpd := false }
    match newestSet cur ok with
    | none => (s.repeatSet a edge).when (sampled && !p.firstUpd) fun s => s.countLate a cur
    | some c =>
      let late := sampled && !p.firstUpd && c.tag ≠ cur
      (s.loadSet a edge c).when late fun s => s.countLate a cur

/-- UPDATE_INSTANT: the axis edge of the period begun, then, in double update, its centre (R74). -/
def execUpdateInstant (a : Fin 64) (s : State) : Out :=
  .next (
    let p := s.pwm a
    let i := slateOf a
    if p.updEdge then (s.setPwm a fun p => { p with updEdge := false }).update a true p.perStart
    else if p.updCentre && s.carDouble i && s.reached i (p.perStart + p.perT / 2) then
      (s.setPwm a fun p => { p with updCentre := false }).update a false (p.perStart + p.perT / 2)
    else s)

/-! Gate edges (R76, R78). -/

/-- The half-bridge's outputs. -/
def hbOut (a : Fin 64) (k : Fin 3) (low : Bool) : Fin 49 := ⟨6 * localOf a + 2 * k.val + low.toNat, by
  unfold localOf; cases low <;> simp <;> omega⟩

/-- A computed edge of half-bridge k falls due: the reference changes at x and the first switch turns off there, the second
turns on D later. -/
def State.hbEdge (s : State) (a : Fin 64) (k : Fin 3) (e : EdgeKind) (low : Bool) : State :=
  let i := slateOf a
  let p := s.pwm a
  let h := p.hb[k]
  let setH (f : HalfBridge → HalfBridge) (s : State) := s.setPwm a fun p => { p with hb := p.hb.set k (f p.hb[k]) }
  if !p.act || p.tripPer || s.heldOff a k then s
  else match e with
    | .hsOff =>
      let x := p.perStart + h.c1
      if h.ref && !refHigh p.perT h.c1 h.c2 h.c1 && s.reached i (s.placed i (hbOut a k false) x) then
        (setH (fun h => { h with ref := false, onAt := x + p.dt }) s).gateOff i (hbOut a k false) x
      else s
    | .lsOff =>
      let u := 64 * s.stick i + 63 - p.perStart
      let y := if u < h.c1 then p.perStart else p.perStart + p.perT - h.c2
      if !h.ref && (decide (u < h.c1) || decide (h.c2 ≠ 0)) && s.reached i (s.placed i (hbOut a k true) y) then
        (setH (fun h => { h with ref := true, onAt := y + p.dt }) s).gateOff i (hbOut a k true) y
      else s
    | .lsOn =>
      if !h.ref && s.reached i (s.placed i (hbOut a k true) h.onAt) then s.gateOn i (hbOut a k true) h.onAt low else s
    | .hsOn =>
      if h.ref && s.reached i (s.placed i (hbOut a k false) h.onAt) then s.gateOn i (hbOut a k false) h.onAt low else s

/-- The chopper's duty ends (R90). -/
def State.chopEdge (s : State) (i : Fin 8) : State :=
  let c := (s.slate i).chop
  if c.gate && s.reached i (s.placed i 48 c.offAt) then
    (s.setSlate i fun x => { x with chop := { x.chop with gate := false } }).gateOff i 48 c.offAt
  else s

def execPwmEdge (t : PwmTarget) (e : EdgeKind) (otherLow : Bool) (s : State) : Out :=
  .next (match t with
    | .axis a k => s.hbEdge a k e otherLow
    | .chop i => s.chopEdge i)

/-! Delay lines (R79, R80). -/

/-- An output has an edge due in this tick or the next (R79). -/
def State.edgeNear (s : State) (i : Fin 8) (k : Fin 49) : Bool :=
  let near (tap : Nat) : Bool := decide (s.stick i ≤ tap / 64 ∧ tap / 64 ≤ s.stick i + 1)
  match outAxis i k with
  | none => (s.slate i).chop.gate && near (s.slate i).chop.offAt
  | some a =>
    let p := s.pwm a
    match p.hb[k.val % 6 / 2]? with
    | some h => p.act && (near (p.perStart + h.c1) || near (p.perStart + p.perT - h.c2) || near h.onAt)
    | none => false

/-- Mark a pair: its trim at an end of its range, or its span off by more than 2 taps (R80). -/
def State.markPair (s : State) (i : Fin 8) (k : Nat) : State :=
  (if k < 32 then s.setbit (P.carrier i) R.CARRIER_CAL_FAIL_LO k true
    else s.setbit (P.carrier i) R.CARRIER_CAL_FAIL_HI (k - 32) true).err (P.carrier i) E.carrier_DL_CAL

/-- A visit to a pair: the idle twin's trim changes by at most one code, and the two lines swap roles unless an edge is near (R79). -/
def execDelayLineSwap (s : Fin 8) (i : Fin 49) (delta : Int) (bad : Bool) (st : State) : Out :=
  .next (
    if st.edgeNear s i then st
    else
      let d := clampI (-1) 1 delta
      let t := st.setSlate s fun x => { x with dl := x.dl.set i (
        let p := x.dl[i]
        if p.twin then { p with twin := false, trimA := p.trimA + d } else { p with twin := true, trimB := p.trimB + d }) }
      if bad then t.markPair s i else t)

/-- Initial calibration completes (R80): CAL_DONE, with the pairs that failed marked. -/
def execCalDone (s : Fin 8) (bad : BitVec 49) (st : State) : Out :=
  .next (
    if (st.slate s).calRun then
      let t := (st.setSlate s fun x => { x with calRun := false }).setb (P.carrier s) F.CARRIER_STATUS_CAL_DONE true
      forEach (List.range 49) t fun k t => if bad.getLsbD k then t.markPair s k else t
    else st)

/-! Brake chopper (R90-R92). -/

/-- MODE in force: 0b11 acts as 0b00; in the safe state 0b10 acts as 0b01 (R90, R91). -/
def State.chopMode (s : State) (i : Fin 8) : Nat :=
  let m := s.fld (P.chop i) F.CHOP_CTRL_MODE
  if m = 3 then 0 else if m = 2 ∧ (s.slate i).safe then 1 else m

/-- The local state after a reading (R90); CHOP_VOFF not below CHOP_VON acts as CHOP_VON − 1. -/
def chopLocal (von voff v : Nat) (on : Bool) : Bool :=
  let voff := if voff < von then voff else von - 1
  if v ≥ von then true else if v ≤ voff then false else on

/-- The duty of a mode, in units of 1/65,536 (R90). -/
def chopDuty (mode maxDuty duty : Nat) (on : Bool) : Nat :=
  if mode = 1 then (if on then maxDuty else 0)
  else if mode = 2 then (if on then max duty maxDuty else duty) else 0

/-- A chopper period starts (R90-R92). CHOP_PERIOD acts as the nearer limit of its range (log 21). -/
def execChopPeriodStart (s : Fin 8) (st : State) : Out :=
  .next (
    let x := st.slate s
    if x.chop.next > x.tick then st
    else
      let pg := P.chop s
      let per := max 3125 (min 312500 (bits (st.rd (pg + R.CHOP_PERIOD)) 0 19))
      let v := bits (st.rd (P.adc s + R.ADC_VBUS)) 0 16
      let on := chopLocal (bits (st.rd (pg + R.CHOP_VON)) 0 16) (bits (st.rd (pg + R.CHOP_VOFF)) 0 16) v (st.flag pg F.CHOP_STATUS_ON)
      let d := chopDuty (st.chopMode s) (bits (st.rd (pg + R.CHOP_MAXDUTY)) 0 16) (bits (st.rd (pg + R.CHOP_DUTY)) 0 16) on
      let len := d * per * 64 / 65536
      let run := decide (len ≠ 0) && (x.safe || x.chopEn)
      let t0 := 64 * x.chop.next
      let t := (((st.setb pg F.CHOP_STATUS_ON on).setf pg F.CHOP_STATUS_VBUS v).setb pg F.CHOP_STATUS_SAFE_RULE x.safe).setb pg
        F.CHOP_STATUS_TRIPPED false
      let t := t.setSlate s fun x => { x with chop := { x.chop with
        next := x.chop.next + per, gate := run, offAt := t0 + len
        tripPrev := x.chop.tripNow, tripNow := false, consec := if x.chop.tripNow then x.chop.consec else 0 } }
      if run then (t.gateOn s 48 t0 true).errIf x.safe pg E.chop_SAFE_RUN else t.gateOff s 48 t0)

/-- The chopper may not conduct: outside the safe state with CHOP_EN at 0, or MODE off (R91). -/
def State.checkChop (s : State) (i : Fin 8) : State :=
  let x := s.slate i
  if s.chopMode i = 0 || (!x.safe && !x.chopEn) then
    (s.setSlate i fun x => { x with chop := { x.chop with gate := false } }).gateOff i 48 (64 * x.tick)
  else s

/-- Is a chopper source asserted, unblanked and seen for FILT + 1 ticks (R85, R92)? -/
def State.chopSeen (s : State) (i : Fin 8) (ocp : Bool) : Bool :=
  let c := s.rd (P.chop i + R.CHOP_CTRL)
  match (if ocp then (s.slate i).chop.ocp else (s.out i 48).desat) with
  | none => false
  | some t => qualifiedAt t (bits c 16 4) (s.stick i)
      (if bits c 12 1 = 1 then (s.slate i).timers[bits c 8 4]? else none)

/-- A chopper trip source qualifies (R92, R111): off for the rest of the period, never latched. -/
def execChopTrip (s : Fin 8) (ocp : Bool) (st : State) : Out :=
  .next (
    let pg := P.chop s
    if !st.chopSeen s ocp then st
    else
      let t := if ocp then st else (st.setbit (P.gate s) R.GATE_DESAT_HI 16 true).err (P.gate s) E.gate_DESAT
      if !(if ocp then t.flag pg F.CHOP_CTRL_OCP_EN else t.flag pg F.CHOP_CTRL_DESAT_EN) then t
      else
        let c := (t.slate s).chop
        let t := (t.setSlate s fun x => { x with chop := { x.chop with gate := false } }).gateOff s 48 (64 * t.stick s)
        if c.tripNow then t
        else
          let t := ((t.setb pg F.CHOP_STATUS_TRIPPED true).inc pg F.CHOP_TRIP_CNT_COUNT).setSlate s fun x =>
            { x with chop := { x.chop with tripNow := true, consec := c.consec + 1 } }
          let t := if c.tripPrev then t else (t.pushEvent s 48 true (t.stick s)).err pg E.chop_CHOP_TRIP
          t.errIf (c.consec + 1 == max 1 (bits (t.rd (pg + R.CHOP_PERSIST)) 0 8)) pg E.chop_CHOP_PERSIST_ERR)

end Sys2Proof.Machine
end

