-- ==== Sys2Proof/Machine/Feedback.lean ====
section
/-! DEFINITION. Primary feedback ports and the speed estimator (06_position_and_speed_feedback.md, R122-R141). -/
namespace Sys2Proof.Machine
open Sys2Proof

def State.fb (s : State) (a : Fin 64) : FbPort := (s.axis a).fb

/-- MODE, with 5-7 acting as 0 (Table 6-9); the Hall lands are read in MODE 1 or with HALL_EN (R122). -/
def fbMode (ctrl : Nat) : Nat := if bits ctrl 0 3 ≤ 4 then bits ctrl 0 3 else 0
def fbHallRead (ctrl : Nat) : Bool := fbMode ctrl == 1 || bits ctrl 4 1 == 1
def State.fbCtrl (s : State) (a : Fin 64) : Nat := s.rd (P.fb a + R.FB_CTRL)
def State.fbModeNow (s : State) (a : Fin 64) : Nat := fbMode (s.fbCtrl a)

/-- The counts as the port delivers them: 0 in MODE 0 (R122). -/
def State.fbShown (s : State) (a : Fin 64) : FbPort :=
  if s.fbModeNow a = 0 then { s.fb a with p := 0, turn := 0, lastChange := 0, lastInt := 0 } else s.fb a

/-! Hall states (R124). -/

/-- Three bits (HC, HB, HA). -/
def bits3 (c b a : Nat) : Nat := 4 * c + 2 * b + a

/-- HALL_PERM (Table 6-2); codes 6 and 7 act as 0. -/
def hallPerm (code lands : Nat) : Nat :=
  let c := bits lands 2 1
  let b := bits lands 1 1
  let a := bits lands 0 1
  match code with
  | 1 => bits3 b c a
  | 2 => bits3 c a b
  | 3 => bits3 a c b
  | 4 => bits3 b a c
  | 5 => bits3 a b c
  | _ => bits3 c b a

/-- Place of a valid state in the forward sequence 001, 011, 010, 110, 100, 101; none for 000 and 111. -/
def hallIndex : Nat → Option Nat
  | 1 => some 0 | 3 => some 1 | 2 => some 2 | 6 => some 3 | 4 => some 4 | 5 => some 5 | _ => none

/-- The filtered Hall state after the permutation; 0 while the lands are not read. -/
def State.hallState (s : State) (a : Fin 64) : Nat :=
  let c := s.fbCtrl a
  if fbHallRead c then hallPerm (bits c 5 3) (s.fb a).hall else 0

/-! Counting (R132, R135). -/

/-- One count up or down under the wrap in force; a pending W comes into force at the wrap. The last component says that the
turn count wrapped past its 32 bits. -/
def FbPort.up (f : FbPort) : FbPort × Bool :=
  if f.p + 1 ≥ f.w then
    let t := f.turn + 1
    ({ f with
        p := 0, turn := toSigned 32 (ofSigned 32 t), w := f.pendW.getD f.w
        wrapAt := f.wrapAt || f.pendW.isSome, pendW := none }, t == 2 ^ 31)
  else ({ f with p := f.p + 1 }, false)

def FbPort.down (f : FbPort) : FbPort × Bool :=
  if f.p = 0 then
    let t := f.turn - 1
    let w := f.pendW.getD f.w
    ({ f with
        p := w - 1, turn := toSigned 32 (ofSigned 32 t), w := w
        wrapAt := f.wrapAt || f.pendW.isSome, pendW := none }, t == -(2 ^ 31) - 1)
  else ({ f with p := f.p - 1 }, false)

/-- `n` counts. -/
def FbPort.count (f : FbPort) : Nat → Bool → FbPort × Bool
  | 0, _ => (f, false)
  | n + 1, down =>
    let r := if down then f.down else f.up
    let q := r.1.count n down
    (q.1, r.2 || q.2)

/-- The last-change tick and interval (R137; the first change has no interval), and the flags that follow a change. -/
def State.fbChanged (s : State) (a : Fin 64) (tick : Nat) (down : Bool) : State :=
  let s := s.setFb a fun f =>
    { f with lastInt := if f.moved then min (tick - f.lastChange) (2 ^ 32 - 1) else f.lastInt, lastChange := tick, moved := true }
  (s.setb (P.fb a) F.FB_STATUS_DIR down).setb (P.fb a) F.FB_STATUS_STILL false

/-- Count `n` steps at edge tick `t0` (INV already applied). -/
def State.fbCount (s : State) (a : Fin 64) (n : Nat) (down : Bool) (t0 : Nat) : State :=
  let r := (s.fb a).count n down
  let s := s.setFb a fun _ => r.1
  let s := (s.setb (P.fb a) F.FB_STATUS_WRAP_PEND r.1.pendW.isSome).errIf r.2 (P.fb a) E.fb_TURN_OVF
  s.fbChanged a t0 down

/-- The Hall lands are first read: their level is the initial state, no change (R124, R136). -/
def State.hallStart (s : State) (a : Fin 64) (lands : Nat) : State :=
  let s := s.setFb a fun f => { f with hall := lands }
  let st := s.hallState a
  let s := s.setf (P.fb a) F.FB_STATUS_HALL st
  if (hallIndex st).isSome then s.setFb a fun f => { f with href := some st } else s.setFb a fun f => { f with href := none }

/-- A valid state `st` after a change: counted against the reference, which it becomes (R124). -/
def State.hallStep (s : State) (a : Fin 64) (st i t0 : Nat) : State :=
  let f := s.fb a
  let s := s.setFb a fun f => { f with href := some st }
  let s := if s.fbModeNow a = 1 then s.setb (P.fb a) F.FB_STATUS_VALID true else s
  match f.href.bind hallIndex with
  | none => s
  | some r =>
    let d := (i + 6 - r) % 6
    if d = 0 then s
    else if d = 3 then
      ((s.inc (P.fb a) F.FB_HALL_CNT_JUMPS).err (P.fb a) E.fb_HALL_JUMP).setFb a fun f => { f with hallBad := true }
    else if s.fbModeNow a = 1 then
      let down := decide (d > 3)
      s.fbCount a (if down then 6 - d else d) (down != (bits (s.fbCtrl a) 3 1 == 1)) t0
    else s

/-- A Hall land level change is accepted (R124): the new levels have been seen since tick `t0`. -/
def State.hallChange (s : State) (a : Fin 64) (lands t0 : Nat) : State :=
  let i := slateOf a
  let c := s.fbCtrl a
  let n := 8 * bits c 20 8
  if !fbHallRead c || decide (s.stick i + 1 < t0 + max n 1) || lands == (s.fb a).hall then s
  else
    let s := (s.setFb a fun f => { f with hall := lands }).pushEvent i (24 + localOf a) false (t0 + max n 1 - 1)
    let st := s.hallState a
    let s := s.setf (P.fb a) F.FB_STATUS_HALL st
    match hallIndex st with
    | none => ((s.inc (P.fb a) F.FB_HALL_CNT_ILLEGAL).err (P.fb a) E.fb_HALL_ILLEGAL).setFb a fun f => { f with hallBad := true }
    | some k => s.hallStep a st k t0

def execHallChange (a : Fin 64) (lands : BitVec 3) (t0 : Nat) (s : State) : Out := .next (s.hallChange a lands.toNat t0)

/-! Incremental (R126, R127). -/

/-- Place of (A, B) in the quadrature order 00, 10, 11, 01: A leading B counts up (log 22). -/
def quadIndex (a b : Bool) : Nat := match a, b with
  | false, false => 0 | true, false => 1 | true, true => 2 | false, true => 3

/-- An edge of A or B is accepted (R126): the levels have held since tick `t0`. -/
def State.abzEdge (s : State) (a : Fin 64) (la lb : Bool) (t0 : Nat) : State :=
  let c := s.fbCtrl a
  let f := s.fb a
  if fbMode c ≠ 2 ∨ s.stick (slateOf a) < t0 + bits c 16 3 then s
  else
    let d := (quadIndex la lb + 4 - quadIndex f.a f.b) % 4
    let s := s.setFb a fun f => { f with a := la, b := lb }
    if d = 0 then s
    else if d = 2 then
      ((s.err (P.fb a) E.fb_QUAD).inc (P.fb a) F.FB_ERR_CNT_COUNT).setFb a fun f => { f with quadBad := true }
    else s.fbCount a 1 ((d == 3) != (bits c 3 1 == 1)) t0

def execAbzEdge (a : Fin 64) (la lb : Bool) (t0 : Nat) (s : State) : Out := .next (s.abzEdge a la lb t0)

/-- The index qualifier (R127). -/
def idxQual (q : Nat) (a b : Bool) : Bool :=
  if q = 0 then true else if q = 1 then a else if q = 2 then a && b else !a && !b

/-- IDX_MISMATCH, which also marks the next FEEDBACK record (Table 6-5). -/
def State.idxMismatch (s : State) (a : Fin 64) : State :=
  (s.err (P.fb a) E.fb_IDX_MISMATCH).setFb a fun f => { f with quadBad := true }

/-- The index: a rising edge of Z, accepted since tick `t0`, while the qualifier holds (R127). -/
def State.index (s : State) (a : Fin 64) (t0 : Nat) : State :=
  let c := s.fbCtrl a
  let f := s.fb a
  let i := slateOf a
  if fbMode c ≠ 2 ∨ s.stick i < t0 + bits c 16 3 ∨ !idxQual (bits c 11 2) f.a f.b then s
  else
    let s := (s.pushEvent i (16 + localOf a) true (t0 + bits c 16 3)).setFb a fun f => { f with idxSeen := true }
    match bits c 9 2 with
    | 0 => s
    | 1 =>
      let bad := bits c 8 1 = 1 ∧ f.lastIdx.isSome ∧ f.lastIdx ≠ some f.p
      let s := ((s.wr (P.fb a + R.FB_IDX_POS) f.p).wr (P.fb a + R.FB_IDX_TURN) (ofSigned 32 f.turn)).setFb a fun f =>
        { f with lastIdx := some f.p }
      if bad then s.idxMismatch a else s
    | 2 =>
      let s := s.setFb a fun f => { f with p := 0, lastIdx := none }
      ((s.setb (P.fb a) F.FB_STATUS_HOMED true).setb (P.fb a) F.FB_STATUS_VALID true).setf (P.fb a) F.FB_CTRL_IDX_MODE 1
    | _ =>
      let s := s.setFb a fun f => { f with p := 0 }
      if f.p ≠ 0 ∧ f.p ≠ f.w - 1 then s.idxMismatch a else s

def execIndex (a : Fin 64) (t0 : Nat) (s : State) : Out := .next (s.index a t0)

/-! Modes, wrap and preset (R123, R132, R134, R135). -/

/-- ST of the serial configuration; in the serial modes W must equal 2^ST (R132). -/
def State.serSt (s : State) (a : Fin 64) : Nat := bits (s.rd (P.fb a + R.FB_SER_CFG)) 0 6
def isSerial (m : Nat) : Bool := m == 3 || m == 4

/-- A write of FB_CTRL at the Slate. `lands` are the levels (A, B, HC, HB, HA) of a first read. -/
def State.writeFbCtrl (s : State) (a : Fin 64) (v lands : Nat) : State :=
  let v := v &&& 0xFF71FFF
  let old := s.fbCtrl a
  let m := fbMode v
  if isSerial m && (s.fb a).w ≠ 2 ^ s.serSt a then s.err (P.fb a) E.fb_CFG_REJECT
  else
    let s := s.wr (P.fb a + R.FB_CTRL) v
    let s := if m ≠ fbMode old then
        let s := (s.setb (P.fb a) F.FB_STATUS_VALID false).setb (P.fb a) F.FB_STATUS_HOMED false
        s.setFb a fun f => { f with lastIdx := none, serEver := false, reqGood := false, reqDue := false, a := bits lands 4 1 = 1, b := bits lands 3 1 = 1 }
      else s
    let s := if bits v 8 3 ≠ bits old 8 3 then s.setFb a fun f => { f with lastIdx := none } else s
    let s := if fbHallRead v && !fbHallRead old then s.hallStart a (lands % 8)
      else s.setf (P.fb a) F.FB_STATUS_HALL (s.hallState a)
    if m = 1 ∧ fbMode old ≠ 1 ∧ (hallIndex (s.hallState a)).isSome then s.setb (P.fb a) F.FB_STATUS_VALID true else s

def execFbModeWrite (a : Fin 64) (v : BitVec 28) (lands : BitVec 5) (s : State) : Out :=
  .next (s.writeFbCtrl a v.toNat lands.toNat)

/-- A write of FB_WRAP at the Slate (Table 6-4). -/
def State.writeFbWrap (s : State) (a : Fin 64) (v : Nat) : State :=
  let w := v % 2 ^ 31 + 1
  let now := bits v 31 1 = 1
  if isSerial (s.fbModeNow a) && w ≠ 2 ^ s.serSt a then s.err (P.fb a) E.fb_CFG_REJECT
  else
    let s := (s.wr (P.fb a + R.FB_WRAP) v).setb (P.fb a) F.FB_STATUS_WRAP_FOLD (now && decide (w ≤ (s.fb a).p))
    let s := s.setb (P.fb a) F.FB_STATUS_WRAP_PEND (!now)
    if now then s.setFb a fun f => { f with w := w, p := f.p % w, pendW := none, wrapNow := true }
    else s.setFb a fun f => { f with pendW := some w }

def execFbWrapWrite (a : Fin 64) (v : Word) (s : State) : Out := .next (s.writeFbWrap a v.toNat)

/-- FB_CMD.PRESET (R134). -/
def State.fbPreset (s : State) (a : Fin 64) : State :=
  let p := bits (s.rd (P.fb a + R.FB_PRESET_POS)) 0 31
  if isSerial (s.fbModeNow a) || decide ((s.fb a).w ≤ p) then s.err (P.fb a) E.fb_CFG_REJECT
  else
    (s.setFb a fun f => { f with p := p, turn := (s.reg (P.fb a + R.FB_PRESET_TURN)).toInt, lastIdx := none }).setb (P.fb a)
      F.FB_STATUS_VALID true

def execPreset (a : Fin 64) (s : State) : Out := .next (s.fbPreset a)

/-- A read of FB_POS, executed at the Slate: the turn count, last-change tick and interval are latched (R133). -/
def State.readFbPos (s : State) (a : Fin 64) : State :=
  let f := s.fbShown a
  ((s.wr (P.fb a + R.FB_TURN) (ofSigned 32 f.turn)).wr (P.fb a + R.FB_LAST_TICK) (f.lastChange % 2 ^ 32)).wr
    (P.fb a + R.FB_LAST_INT) f.lastInt

def execFbPosRead (q : Fin 514) (a : Fin 64) (s : State) : Out :=
  .next ((s.readFbPos a).answer q.val (P.fb a + R.FB_POS) (s.fbShown a).p)

/-- STILL (R140): the last change lies more than STILL_TMO µs (312.5 ticks each) back. -/
def execFbStill (a : Fin 64) (s : State) : Out :=
  .next (if 2 * (s.stick (slateOf a) - (s.fb a).lastChange) > 625 * max 1 (s.fld (P.fb a) F.FB_SPD_CFG_STILL_TMO) then
      s.setb (P.fb a) F.FB_STATUS_STILL true
    else s)

/-! Serial sensors (R128-R131). -/

/-- A request instant: a due DIV-th sampling instant, or 100 µs (31,250 ticks) after the last while the carrier does not
run. It starts a transfer unless one runs or GAP_US since the last one's end has not passed. -/
def State.serialRequest (s : State) (a : Fin 64) : State :=
  let i := slateOf a
  let f := s.fb a
  let now := s.stick i
  if !isSerial (s.fbModeNow a) then s
  else if !(f.reqDue || (!s.carRun i && decide (f.reqTick + 31250 ≤ now))) then s
  else
    let s := s.setFb a fun f => { f with reqDue := false, reqGood := false, reqLatest := false }
    if f.serBusy ∨ 2 * now < 2 * f.serEnd + 625 * max 1 (s.fld (P.fb a) F.FB_SER_CLK_GAP_US) then s
    else (s.setFb a fun f => { f with serBusy := true, reqTick := now, reqLatest := true }).setb (P.fb a) F.FB_STATUS_SER_BUSY true

def execSerialRequest (a : Fin 64) (s : State) : Out := .next (s.serialRequest a)

/-- The 6-bit CRC, polynomial x⁶ + x + 1, over the top `n` bits of an n-bit number, most significant first (Table 6-3). -/
def crc6 (x : Nat) : Nat → Nat → Nat
  | 0, c => c
  | n + 1, c =>
    let fb := bits x n 1 != bits c 5 1
    let c := c * 2 % 64
    crc6 x n (if fb then c ^^^ 3 else c)

/-- Binary value of an n-bit Gray code. -/
def grayToBin (x : Nat) : Nat → Nat
  | 0 => 0
  | n + 1 => (x >>> n) ^^^ grayToBin x n

/-- Number of ones in the low `n` bits. -/
def popBits (x : Nat) : Nat → Nat
  | 0 => 0
  | n + 1 => bits x n 1 + popBits x n

/-- What a received frame says: a position word (MT then ST bits), a failed check, or nE at 0. -/
inductive SerResult where
  | good (pos : Nat) | bad | ne
  deriving DecidableEq, Repr

/-- BiSS-C (R129, R131): position, nE, nW, inverted CRC, the last bit least significant. -/
def bissDecode (cfg : Nat) (start : Bool) (raw : Nat) : SerResult :=
  let n := bits cfg 8 6 + bits cfg 0 6
  let c := if bits cfg 20 1 = 1 then 6 else 0
  let e := if bits cfg 21 1 = 1 then 2 else 0
  let body := bits raw c (n + e)
  if !start then .bad
  else if c = 6 ∧ crc6 body (n + e) 0 ≠ 63 - bits raw 0 6 then .bad
  else if e = 2 ∧ bits body 1 1 = 0 then .ne
  else .good (bits body e n)

/-- SSI (R130): binary or Gray, parity, double transmission. -/
def ssiDecode (cfg raw raw2 : Nat) : SerResult :=
  let n := bits cfg 8 6 + bits cfg 0 6
  let q := if bits cfg 17 1 = 1 then 1 else 0
  let word := bits raw q n
  if bits cfg 19 1 = 1 ∧ bits raw 0 (n + q) ≠ bits raw2 0 (n + q) then .bad
  else if q = 1 ∧ popBits raw (n + 1) % 2 ≠ bits cfg 18 1 then .bad
  else .good (if bits cfg 16 1 = 1 then grayToBin word n else word)

/-- A failed reading (R131). -/
def State.serFail (s : State) (a : Fin 64) (ne : Bool) : State :=
  let s := (s.err (P.fb a) (if ne then E.fb_SER_NE else E.fb_SER_CHK)).inc (P.fb a) F.FB_ERR_CNT_COUNT
  let run := min 3 (s.fld (P.fb a) F.FB_STATUS_FAILRUN + 1)
  let s := (s.setf (P.fb a) F.FB_STATUS_FAILRUN run).setFb a fun f => { f with quadBad := true, reqGood := false }
  if run = 3 then (s.setb (P.fb a) F.FB_STATUS_VALID false).err (P.fb a) E.fb_SER_FAIL else s

/-- A good reading: p is the ST value, the turn count the MT value, or counted when MT is 0 (R132). -/
def State.serGood (s : State) (a : Fin 64) (pos : Nat) : State :=
  let cfg := s.rd (P.fb a + R.FB_SER_CFG)
  let st := bits cfg 0 6
  let mt := bits cfg 8 6
  let p := bits pos 0 st
  let f := s.fb a
  let w := 2 ^ st
  let jump : Int := if !f.serEver then 0 else if p > f.p + w / 2 then -1 else if f.p > p + w / 2 then 1 else 0
  let turn := if mt = 0 then f.turn + jump else toSigned 32 (bits pos st mt)
  let s := s.setFb a fun f => { f with p := p, turn := toSigned 32 (ofSigned 32 turn), serEver := true, reqGood := f.reqLatest }
  let s := (s.setf (P.fb a) F.FB_STATUS_FAILRUN 0).setb (P.fb a) F.FB_STATUS_VALID true
  let s := s.errIf (decide (turn ≥ 2 ^ 31 ∨ turn < -(2 ^ 31))) (P.fb a) E.fb_TURN_OVF
  if f.p ≠ p then
    s.fbChanged a f.reqTick (if jump = 0 then decide (p < f.p) else decide (jump < 0))
  else s

/-- A transfer ends with the bits clocked in (R129-R131). -/
def execSerialReading (a : Fin 64) (start : Bool) (raw raw2 : BitVec 64) (s : State) : Out :=
  .next (
    if !(s.fb a).serBusy then s
    else
      let s := (s.setFb a fun f => { f with serBusy := false, serEnd := s.stick (slateOf a) }).setb (P.fb a) F.FB_STATUS_SER_BUSY false
      let s := s.wr64 (P.fb a) R.FB_SER_RAW_LO raw.toNat
      let cfg := s.rd (P.fb a + R.FB_SER_CFG)
      match (if s.fbModeNow a = 3 then bissDecode cfg start raw.toNat else ssiDecode cfg raw.toNat raw2.toNat) with
      | .good pos => s.serGood a pos
      | .bad => s.serFail a false
      | .ne => s.serFail a true)

/-! FEEDBACK records and the speed estimate (R60, R138-R141). -/

/-- The status byte of Table 6-5. -/
def State.fbStatusByte (s : State) (a : Fin 64) (speed : Bool) : Nat :=
  let f := s.fb a
  let g (x : Fld) := s.fld (P.fb a) x
  g F.FB_STATUS_VALID + 2 * g F.FB_STATUS_STILL + 4 * g F.FB_STATUS_DIR + 8 * f.hallBad.toNat + 16 * f.quadBad.toNat
    + 32 * f.idxSeen.toNat + 64 * speed.toNat + 128 * f.pendW.isSome.toNat

/-- Queue a FEEDBACK record of the axis with the counts of this instant; the "since the previous record" bits restart. -/
def State.queueFb (s : State) (a : Fin 64) (speed : Bool) : State :=
  let f := s.fbShown a
  let r : FbRec := ⟨localOf a, s.fbStatusByte a speed, f.p, ofSigned 32 f.turn, f.lastInt, f.lastChange % 2 ^ 32⟩
  (s.setLink (slateOf a) fun l => { l with fbq := insertAged (·.ax) (s.stick (slateOf a)) r l.fbq }).setFb a fun f =>
    { f with hallBad := false, quadBad := false, idxSeen := false }

/-- v in Q28.4, rounded to nearest, saturating (R141). -/
def speedQ (num : Int) (den : Nat) : Int :=
  clampI (-(2 ^ 31 - 1)) (2 ^ 31 - 1) ((2 * num * 16 + den) / (2 * (den : Int)))

/-- A count difference over a time of `dt` ticks, in counts per second; over no time it is the free value (R139, log 2). -/
def speedOver (d dt : Int) (free : Int) : Int :=
  if dt = 0 then free else speedQ (if dt < 0 then -d * 312500000 else d * 312500000) dt.natAbs

/-- The speed estimator on one speed record (R139): `c` the full count, `t` the restored last-change tick, `w` the wrap. -/
def SpeedEst.step (e : SpeedEst) (still down : Bool) (c : Int) (t frame w : Nat) (free : Int) : SpeedEst :=
  if still then { e with v := 0, pair := none, w := w }
  else match e.pair with
    | none => { e with v := 0, pair := some (c, t), w := w }
    | some (c', t') =>
      if e.w ≠ w then { e with pair := some (c, t), w := w }
      else if c ≠ c' then { e with v := speedOver (c - c') ((t : Int) - t') free, pair := some (c, t) }
      else
        let b := speedOver 1 ((frame : Int) - t) free
        let bound := if down then -b else b
        if bound.natAbs < e.v.natAbs then { e with v := bound } else e

end Sys2Proof.Machine
end

