-- ==== Sys2Proof/Machine/Sense.lean ====
section
/-! DEFINITION. Sampling, conversion, calibration and range checks (R19, R20, R113-R119, R138). -/
namespace Sys2Proof.Machine
open Sys2Proof

/-- The instant of a sampling: the axis edge (double update only) or the centre of the carrier period. -/
def State.samplingTap (s : State) (a : Fin 64) (edge : Bool) : Nat :=
  (s.pwm a).perStart + if edge then 0 else (s.pwm a).perT / 2

/-- A sampling instant of the axis is due: the carrier runs, a period has begun, and the instant has not been taken. -/
def State.samplingDue (s : State) (a : Fin 64) (edge : Bool) : Bool :=
  let i := slateOf a
  let p := s.pwm a
  s.carRun i && p.perT != 0 && (!edge || s.carDouble i) && s.reached i (s.samplingTap a edge) &&
    (p.smpN == 0 || decide (p.smpAt < s.samplingTap a edge))

/-- POS valid of a SAMPLE record (R131): in serial modes the latest reading must come from the latest request instant. -/
def State.posValid (s : State) (a : Fin 64) : Bool :=
  s.flag (P.fb a) F.FB_STATUS_VALID && (!isSerial (s.fbModeNow a) || ((s.fb a).reqGood && !(s.fb a).reqDue))

/-- The channels are held (R19) with the tick, the tag (R20; the first instant carries tag 1, log 15) and the position. -/
def State.hold (s : State) (a : Fin 64) (edge : Bool) : State :=
  let tap := s.samplingTap a edge
  let r : SampleRec := { ax := localOf a, edge := edge, tag := ((s.pwm a).tag + 1) % 256, stamp := tap / 64, pos := (s.fbShown a).p,
                         flags := 16 * s.hallState a + 128 * (s.posValid a).toNat }
  s.setPwm a fun p => { p with tag := (p.tag + 1) % 256, smpN := p.smpN + 1, smpAt := tap, held := r, conv := true }

/-- DIV of speed records (R138): 0 none, above 64 acts as 64. -/
def State.spdDiv (s : State) (a : Fin 64) : Nat := min 64 (s.fld (P.fb a) F.FB_SPD_CFG_DIV)

/-- Every DIV-th sampling instant queues a speed record. -/
def State.speedCount (s : State) (a : Fin 64) : State :=
  if s.spdDiv a = 0 then s
  else if (s.fb a).spdCnt + 1 ≥ s.spdDiv a then (s.setFb a fun f => { f with spdCnt := 0 }).queueFb a true
  else s.setFb a fun f => { f with spdCnt := f.spdCnt + 1 }

/-- Every DIV-th sampling instant is a request instant of a serial sensor (R128). -/
def State.serialCount (s : State) (a : Fin 64) : State :=
  if !isSerial (s.fbModeNow a) then s
  else if (s.fb a).reqCnt + 1 ≥ max 1 (s.fld (P.fb a) F.FB_SER_CFG_DIV) then s.setFb a fun f => { f with reqCnt := 0, reqDue := true }
  else s.setFb a fun f => { f with reqCnt := f.reqCnt + 1 }

def execSamplingInstant (a : Fin 64) (edge : Bool) (s : State) : Out :=
  .next (if s.samplingDue a edge then ((s.hold a edge).speedCount a).serialCount a else s)

/-! Conversion (R20, R115, R119). -/

/-- A current code (R115): the raw code less the offset, negated under INV, clamped. -/
def currentCode (raw ofs : Int) (inv : Bool) : Int :=
  clampI (-32768) 32767 (if inv then -(raw - ofs) else raw - ofs)

/-- A current code is out of range (R119). -/
def currentOut (lim : Nat) (c : Int) : Bool := (lim != 0 && decide (lim < c.natAbs)) || c == -32768 || c == 32767

/-- One out-of-range code is counted, with its error (R119). -/
def State.rangeHit (s : State) (i : Fin 8) (err : Nat) : State :=
  (s.inc (P.adc i) F.ADC_RANGE_CNT_COUNT).err (P.adc i) err

/-- The bus-voltage check of a code; the flag says out of range. -/
def State.vbusCheck (s : State) (i : Fin 8) (v : Nat) : State × Bool :=
  let lo := s.fld (P.adc i) F.ADC_VBUS_LIM_VLO
  let hi := s.fld (P.adc i) F.ADC_VBUS_LIM_VHI
  if v < lo ∨ hi < v then
    let s := if v < lo then s.setb (P.adc i) F.ADC_RANGE_STAT_VBUS_LO true else s
    let s := if hi < v then s.setb (P.adc i) F.ADC_RANGE_STAT_VBUS_HI true else s
    (s.rangeHit i E.adc_RANGE_V, true)
  else (s, false)

/-- The current check of one channel of a local axis. -/
def State.currentCheck (s : State) (a : Fin 64) (c : Int) : State × Bool :=
  let i := slateOf a
  if currentOut (s.fld (P.adc i) (F.ADC_ILIM_ILIM (localOf a))) c then
    ((s.setbit (P.adc i) R.ADC_RANGE_STAT (localOf a) true).rangeHit i E.adc_RANGE_I, true)
  else (s, false)

/-- The sum check of a set (R119). -/
def State.sumCheck (s : State) (a : Fin 64) (u v w : Int) : State :=
  let i := slateOf a
  let lim := bits (s.rd (P.adc i + R.ADC_ISUM_LIM)) 0 16
  if !s.flag (P.pwm a) F.PWM_CTRL_TOPO && lim != 0 && decide (lim < (u + v + w).natAbs) then
    (s.setbit (P.adc i) R.ADC_RANGE_STAT (16 + localOf a) true).err (P.adc i) E.adc_ISUM
  else s

/-- The codes of a set. -/
def State.codes (s : State) (a : Fin 64) (iu iv iw : Int) : Int × Int × Int :=
  let pg := P.adc (slateOf a)
  let n := localOf a
  let inv := s.flag pg (F.ADC_AXCFG_INV n)
  (currentCode iu (toSigned 16 (s.fld pg (F.ADC_OFS_UV_OFS_U n))) inv,
   currentCode iv (toSigned 16 (s.fld pg (F.ADC_OFS_UV_OFS_V n))) inv,
   currentCode iw (toSigned 16 (s.fld pg (F.ADC_OFS_W_OFS_W n))) inv)

/-- The conversion of the held set completes: the range checks, and the SAMPLE record is queued. The record takes the wrap
flags gathered since the previous one (Table 3-5). -/
def State.convert (s : State) (a : Fin 64) (iu iv iw : Int) (vbus : Nat) : State :=
  let i := slateOf a
  let c := s.codes a iu iv iw
  let vb := min vbus 65535
  let u := s.currentCheck a c.1
  let v := u.1.currentCheck a c.2.1
  let w := v.1.currentCheck a c.2.2
  let b := w.1.vbusCheck i vb
  let s := b.1.sumCheck a c.1 c.2.1 c.2.2
  let fl := u.2.toNat + 2 * v.2.toNat + 4 * w.2.toNat + 8 * b.2.toNat
  let f := s.fb a
  let r := { (s.pwm a).held with
    iu := ofSigned 16 c.1, iv := ofSigned 16 c.2.1, iw := ofSigned 16 c.2.2, vbus := vb
    flags := (s.pwm a).held.flags + fl, wrap := f.wrapAt.toNat + 2 * f.wrapNow.toNat }
  let s := s.setFb a fun f => { f with wrapAt := false, wrapNow := false }
  (s.setPwm a fun p => { p with conv := false }).setLink i fun l =>
    { l with smpq := insertAged (fun x => x.1.ax) (s.stick i) (r, false) l.smpq }

def execConversionComplete (a : Fin 64) (iu iv iw : Int) (vbus : Nat) (s : State) : Out :=
  .next (if (s.pwm a).conv then s.convert a iu iv iw vbus else s)

/-! Calibration (R116). -/

/-- A write of ADC_CAL at the Slate: REFUSED is W1C, each GO bit starts or is refused. -/
def State.writeAdcCal (s : State) (i : Fin 8) (v : Nat) : State :=
  let pg := P.adc i
  let s := s.setf pg F.ADC_CAL_REFUSED (s.fld pg F.ADC_CAL_REFUSED - (s.fld pg F.ADC_CAL_REFUSED &&& bits v 16 8))
  forEach (List.finRange 8) s fun n t =>
    if bits v n 1 = 0 then t
    else if t.pwmEnabled (axisOf i n) then (t.setbit pg R.ADC_CAL (16 + n) true).err pg E.adc_CAL_REFUSED
    else (t.setbit pg R.ADC_CAL n true).setPwm (axisOf i n) fun p => { p with cal := true }

def execAdcCalGo (s : Fin 8) (mask : BitVec 8) (st : State) : Out := .next (st.writeAdcCal s mask.toNat)

/-- The averages of the shorted inputs become the offsets and GO clears. -/
def execAdcCalComplete (s : Fin 8) (n : Fin 8) (u v w : BitVec 16) (st : State) : Out :=
  .next (
    let pg := P.adc s
    if st.rbit pg R.ADC_CAL n then
      (((st.wr (pg + R.ADC_OFS_UV n) (u.toNat + 65536 * v.toNat)).wr (pg + R.ADC_OFS_W n) w.toNat).setbit pg R.ADC_CAL n false).setPwm
        (axisOf s n) fun p => { p with cal := false }
    else st)

/-! Background channels (R118, Table 5-9). -/

/-- The interval in µs. -/
def bgInterval : BgChannel → Nat
  | .vbus => 1 | .vgd => 10 | .vfield => 10 | .temp => 100 | .ain0 => 100 | .ain1 => 100

/-- Conversion k of a channel samples at Slate tick ⌊k × I × 312.5⌋ and its result stands at most one interval later. -/
def State.bgDue (s : State) (i : Fin 8) (ch : BgChannel) (k : Nat) : Bool :=
  decide (k * bgInterval ch * 625 / 2 ≤ s.stick i ∧ s.stick i ≤ (k + 1) * bgInterval ch * 625 / 2)

def execBackgroundConversion (s : Fin 8) (ch : BgChannel) (k : Nat) (v : BitVec 16) (st : State) : Out :=
  .next (
    let pg := P.adc s
    let x := v.toNat
    if !st.bgDue s ch k then st
    else match ch with
      | .vbus => ((st.wr (pg + R.ADC_VBUS) x).vbusCheck s x).1
      | .vgd => st.wr (pg + R.ADC_VGD) x
      | .vfield => st.wr (pg + R.ADC_VFIELD) x
      | .temp => (st.wr (pg + R.ADC_TEMP) x).errIf
          (decide (toSigned 16 (st.rd (pg + R.ADC_TEMP_WARN)) < toSigned 16 x)) pg E.adc_OT_WARN
      | .ain0 => st.setf pg F.ADC_AIN_AIN0 x
      | .ain1 => st.setf pg F.ADC_AIN_AIN1 x)

end Sys2Proof.Machine
end

