-- ==== Sys2Proof/Machine/Field.lean ====
section
/-! DEFINITION. Field points and scheduled transitions (12_field_inputs_and_outputs.md, R278-R299). -/
namespace Sys2Proof.Machine
open Sys2Proof

def State.pt (s : State) (i : Fin 8) (j : Fin 16) : FieldPoint := (s.slate i).fp[j]
def State.setPt (s : State) (i : Fin 8) (j : Fin 16) (f : FieldPoint → FieldPoint) : State :=
  s.setSlate i fun x => { x with fp := x.fp.set j (f x.fp[j]) }

/-- FIO_CFG of a point, its MODE (3 acts as 0) and FILT (above 625,000 acts as 625,000). -/
def State.fioCfg (s : State) (i : Fin 8) (j : Nat) : Nat := s.rd (P.fio i + R.FIO_CFG j)
def fioMode (c : Nat) : Nat := if bits c 0 2 = 3 then 0 else bits c 0 2
def fioFilt (c : Nat) : Nat := min 625000 (bits c 8 20)
def fioPulsed (c : Nat) : Bool := bits c 3 1 == 1

/-- The commanded level (R287). -/
def State.fioOut (s : State) (i : Fin 8) (j : Nat) : Bool := s.rbit (P.fio i) R.FIO_OUT j
def State.shortBit (s : State) (i : Fin 8) (j : Nat) : Bool := s.rbit (P.fio i) R.FIO_DIAG_A j
def State.testBit (s : State) (i : Fin 8) (j : Nat) : Bool := bits (s.slate i).sb.testMask j 1 == 1
def State.fieldUv (s : State) (i : Fin 8) : Bool := s.flag (P.fio i) F.FIO_STATUS_VFIELD_UV

/-- The level at an output land (Table 12-4, R331); a stage that retries after a short or discharges is off. -/
def State.outLevel (s : State) (i : Fin 8) (j : Fin 16) : Bool :=
  let safeVal := s.flag (P.fio i) (F.FIO_CFG_SAFE_VAL j)
  if (s.pt i j).mode ≠ 2 ∨ s.fieldUv i ∨ s.shortBit i j ∨ (s.pt i j).cut ∨ (s.pt i j).discharge then false
  else if (s.slate i).safe ∧ !s.testBit i j then safeVal
  else if s.testBit i j then (if (s.slate i).sb.up then false else safeVal)
  else s.fioOut i j

/-- FIO_IN: filtered inputs, read-back levels of outputs, 0 where off (R279). -/
def State.fioIn (s : State) (i : Fin 8) : Nat :=
  (List.finRange 16).foldl (fun n j =>
    let f := s.pt i j
    n + (if f.mode = 1 then f.lvl.toNat else if f.mode = 2 then f.land.toNat else 0) * 2 ^ j.val) 0

/-- The diagnostic bits of the FIELD record (R286). -/
def State.fioDiag (s : State) (i : Fin 8) : Nat :=
  let a := s.rd (P.fio i + R.FIO_DIAG_A)
  (bits a 0 16 ||| bits a 16 16) ||| (bits (s.rd (P.fio i + R.FIO_DIAG_B)) 0 16 ||| bits (s.rd (P.fio i + R.FIO_RANGE_STAT)) 0 16)

/-- The trip sources that read this Slate's points are judged by `srcSince`; an accepted change is stamped, sent and queued
for the next FIELD record (R60, R70, R281). -/
def State.acceptInput (s : State) (i : Fin 8) (j : Fin 16) (lvl : Bool) (stamp : Nat) : State :=
  ((s.setPt i j fun f => { f with lvl := lvl, chg := stamp, stuck := false, pulseRun := 0 }).setLink i fun l =>
    { l with fieldPend := true }).pushEvent i j lvl stamp

/-- FIO_CFG as it stood at tick `t`: what the first later write replaced, else the present value (R297). -/
def State.cfgAt (s : State) (i : Fin 8) (j : Fin 16) (t : Nat) : Nat :=
  match (s.pt i j).cfgs.find? fun e => t < e.1 with
  | some e => e.2
  | none => s.fioCfg i j

/-- A continuous input's comparator has shown `lvl` since tick `t0` (R281). A read at or before the entry to input mode is
the initial level (R279). -/
def State.fieldInput (s : State) (i : Fin 8) (j : Fin 16) (lvl : Bool) (t0 : Nat) : State :=
  let f := s.pt i j
  let c := s.cfgAt i j t0
  let at_ := t0 + 5 * fioFilt c
  let s := s.setPt i j fun f => { f with land := lvl }
  if f.mode ≠ 1 then s
  else if f.fresh ∧ t0 ≤ f.chg then s.setPt i j fun f => { f with lvl := lvl, fresh := false }
  else if fioPulsed c ∨ f.lvl = lvl ∨ s.stick i < at_ then s
  else s.acceptInput i j lvl at_

def execFieldInputChange (s : Fin 8) (j : Fin 16) (lvl : Bool) (t0 : Nat) (st : State) : Out :=
  .next (st.fieldInput s j lvl t0)

/-- WINDOW and PERIOD of FIO_PULSE, other values acting as the nearer limit. -/
def State.pulseWindow (s : State) (i : Fin 8) : Nat := max 10 (min 100 (s.fld (P.fio i) F.FIO_PULSE_WINDOW))
def State.pulsePeriod (s : State) (i : Fin 8) : Nat := max 100 (min 10000 (s.fld (P.fio i) F.FIO_PULSE_PERIOD))

/-- The latest tick at or before now that is the last of a pulse window; windows start at ⌊k × PERIOD × 312.5⌋ (R281). -/
def State.pulseRead (s : State) (i : Fin 8) : Option Nat :=
  let w := s.pulseWindow i * 625 / 2
  if s.stick i + 1 < w then none
  else
    let k := (2 * (s.stick i + 1 - w) + 1) / (s.pulsePeriod i * 625)
    some (k * s.pulsePeriod i * 625 / 2 + w - 1)

/-- One pulsed read of a point at tick `t`: the k-th consecutive read of a new level accepts it, with the smallest k such
that (k − 1) × PERIOD ≥ FILT × 16 ns; a running qualification keeps the k it began with (R281, R297). -/
def State.pulsePoint (s : State) (i : Fin 8) (j : Fin 16) (lvl : Bool) (t : Nat) : State :=
  let f := s.pt i j
  let c := s.fioCfg i j
  if f.mode ≠ 1 ∨ (!fioPulsed c ∧ f.pulseRun = 0) then s
  else
    let s := s.setPt i j fun f => { f with land := lvl }
    if f.fresh then s.setPt i j fun f => { f with lvl := lvl, fresh := false }
    else if lvl = f.lvl then s.setPt i j fun f => { f with pulseRun := 0 }
    else
      let p := 1000 * s.pulsePeriod i
      let need := if f.pulseRun = 0 then (16 * fioFilt c + p - 1) / p + 1 else f.pulseNeed
      if f.pulseRun + 1 ≥ need then s.acceptInput i j lvl t
      else s.setPt i j fun f => { f with pulseRun := f.pulseRun + 1, pulseNeed := need }

def execPulseWindow (s : Fin 8) (levels : BitVec 16) (st : State) : Out :=
  .next (match st.pulseRead s with
    | none => st
    | some t =>
      if t ≤ (st.slate s).pulseAt then st
      else forEach (List.finRange 16) (st.setSlate s fun x => { x with pulseAt := t }) fun j u =>
        u.pulsePoint s j (levels.getLsbD j) t)

/-- The voltage of a point (R282); FIO_VIN holds the low 16 bits of the clamped millivolts. -/
def State.fieldVoltage (s : State) (i : Fin 8) (j : Fin 16) (mv : Int) : State :=
  let pg := P.fio i
  let v := clampI (-32768) 32767 mv
  let s := s.setf pg ⟨R.FIO_VIN (j / 2), 16 * (j % 2), 16⟩ (ofSigned 16 v)
  if !s.flag pg (F.FIO_CFG_RC_EN j) ||
      decide (toSigned 16 (s.fld pg F.FIO_RANGE_LO) ≤ v ∧ v ≤ toSigned 16 (s.fld pg F.FIO_RANGE_HI)) then
    s.setPt i j fun f => { f with rangeRun := 0 }
  else
    let s := s.setPt i j fun f => { f with rangeRun := min 15 (f.rangeRun + 1) }
    if (s.pt i j).rangeRun ≥ max 1 (s.fld pg F.FIO_RANGE_CNT_RCNT) then
      (s.setbit pg R.FIO_RANGE_STAT j true).err pg E.fio_RANGE
    else s

def execFieldVoltageMeasure (s : Fin 8) (j : Fin 16) (mv : Int) (st : State) : Out := .next (st.fieldVoltage s j mv)

/-- STUCK (R283): level LVL held for TMO ms (312,500 ticks each) since the last accepted change; once per period. -/
def execStuck (s : Fin 8) (j : Fin 16) (st : State) : Out :=
  .next (
    let pg := P.fio s
    let f := st.pt s j
    let tmo := st.fld pg (F.FIO_TMO_TMO j)
    if tmo ≠ 0 ∧ f.mode = 1 ∧ f.lvl = st.flag pg (F.FIO_TMO_LVL j) ∧ !f.stuck ∧ f.chg + 312500 * tmo ≤ st.stick s then
      ((st.setPt s j fun f => { f with stuck := true }).setbit pg R.FIO_DIAG_B (16 + j.val) true).err pg E.fio_STUCK
    else st)

/-! Outputs (R286-R289). -/

/-- The current limit held for 100 µs, or overtemperature: the stage turns off, to retry, or latched (R286). -/
def execShort (s : Fin 8) (j : Fin 16) (st : State) : Out :=
  .next (
    if !st.outLevel s j then st
    else if (st.pt s j).retries < st.fld (P.fio s) (F.FIO_CFG_RETRY j) then
      st.setPt s j fun f => { f with cut := true, cutAt := st.stick s }
    else (st.setbit (P.fio s) R.FIO_DIAG_A j true).err (P.fio s) E.fio_SHORT)

/-- A retry 10 ms (3,125,000 ticks) after the stage turned off. -/
def execShortRetry (s : Fin 8) (j : Fin 16) (st : State) : Out :=
  .next (
    let f := st.pt s j
    if f.cut ∧ f.cutAt + 3125000 ≤ st.stick s then st.setPt s j fun f => { f with cut := false, retries := f.retries + 1 } else st)

/-- A write of 1 to SHORT bits clears them and lets the outputs switch again. -/
def State.shortClear (s : State) (i : Fin 8) (mask : Nat) : State :=
  forEach (List.finRange 16) s fun j t =>
    if bits mask j 1 = 1 ∧ t.shortBit i j then
      (t.setbit (P.fio i) R.FIO_DIAG_A j false).setPt i j fun f => { f with retries := 0 }
    else t

def execShortClear (s : Fin 8) (mask : BitVec 16) (st : State) : Out := .next (st.shortClear s mask.toNat)

/-- Open load: an off output of a point with OL_EN, its land above 4 V for 10 ms. -/
def execOpenLoad (s : Fin 8) (j : Fin 16) (st : State) : Out :=
  .next (
    if (st.pt s j).mode = 2 ∧ !st.outLevel s j ∧ st.flag (P.fio s) (F.FIO_CFG_OL_EN j) then
      (st.setbit (P.fio s) R.FIO_DIAG_A (16 + j.val) true).err (P.fio s) E.fio_OPEN
    else st)

/-- The read-back level differs from the commanded level, 200 µs (62,500 ticks) or more after the latter last changed. -/
def execReadbackMismatch (s : Fin 8) (j : Fin 16) (land : Bool) (st : State) : Out :=
  .next (
    let f := st.pt s j
    if f.mode ≠ 2 then st
    else
      let t := st.setPt s j fun f => { f with land := land }
      if land ≠ st.fioOut s j ∧ f.cmdAt + 62500 ≤ st.stick s ∧ !f.cut ∧ !st.fieldUv s then
        (t.setbit (P.fio s) R.FIO_DIAG_B j true).err (P.fio s) E.fio_MISMATCH
      else t)

/-- VFIELD falls below 18.0 V or rises above 18.5 V (R289). -/
def execVfieldUv (s : Fin 8) (enter : Bool) (st : State) : Out :=
  .next ((st.setb (P.fio s) F.FIO_STATUS_VFIELD_UV enter).errIf enter (P.fio s) E.fio_VFIELD_UV)

/-- The commanded level of a point changes or stays (R287); off ends short retries (R297). -/
def State.setOutBit (s : State) (i : Fin 8) (j : Fin 16) (v : Bool) : State :=
  if s.fioOut i j = v then s
  else (s.setbit (P.fio i) R.FIO_OUT j v).setPt i j fun f =>
    { f with cmdAt := s.stick i, cut := f.cut && v, retries := 0 }

/-- A masked write of FIO_OUT at the Slate; a scheduled transition of the same tick stands (R296, R297). -/
def State.writeFioOut (s : State) (i : Fin 8) (data mask : Nat) : State :=
  forEach (List.finRange 16) s fun j t =>
    if bits mask j 1 = 1 ∧ (t.pt i j).trAt ≠ t.stick i + 1 then t.setOutBit i j (bits data j 1 = 1) else t

def execFioOutWrite (s : Fin 8) (data mask : BitVec 16) (st : State) : Out := .next (st.writeFioOut s data.toNat mask.toNat)

/-! Modes (R279, R294). -/

/-- Mode `m` comes into force. On entry to input mode the level starts at the comparator's; `known` says it has been read. -/
def State.enterMode (s : State) (i : Fin 8) (j : Fin 16) (m : Nat) (known : Bool) : State :=
  s.setPt i j fun f => { f with
    mode := m, discharge := false, lvl := if m = 1 then f.land else f.lvl, fresh := m == 1 && !known
    chg := if m = 1 then s.stick i else f.chg, stuck := false, pulseRun := 0, cut := false, retries := 0
    cmdAt := if m = 2 then s.stick i else f.cmdAt }

/-- FIO_CFG written at the Slate. `land`: the comparator's level, where known. Leaving output mode waits for the discharge. -/
def State.putFioCfg (s : State) (i : Fin 8) (j : Fin 16) (v : Nat) (land : Option Bool) : State :=
  let v := v &&& 0x7FFFFF7F
  let old := s.fioCfg i j
  let f := s.pt i j
  let now := s.stick i
  let s := (s.wr (P.fio i + R.FIO_CFG j) v).setPt i j fun f => { f with
    land := land.getD f.land
    cfgs := if old = v then f.cfgs else (f.cfgs.filter fun e => decide (now ≤ e.1 + 3125000)) ++ [(now, old)] }
  let m := fioMode v
  if f.mode = 2 ∧ m ≠ 2 then s.setPt i j fun f => { f with discharge := true, cut := false, retries := 0 }
  else if f.mode = m then s.setPt i j fun f => { f with discharge := false }
  else s.enterMode i j m land.isSome

/-- A write of FIO_CFG: ignored with CFG_LOCK while the point is claimed (R294, R295, R331), but for the value the safety
configuration gives it. -/
def State.writeFioCfg (s : State) (i : Fin 8) (j : Fin 16) (v : Nat) (land : Option Bool) : State :=
  if bits (s.slate i).claim j 1 = 1 ∧ v ≠ (s.slate i).claimCfg[j] then s.err (P.fio i) E.fio_CFG_LOCK
  else s.putFioCfg i j v land

def execFioCfgWrite (s : Fin 8) (j : Fin 16) (v : Word) (land : Bool) (st : State) : Out :=
  .next (st.writeFioCfg s j v.toNat (some land))

/-- The output voltage has fallen below 2 V: the new mode takes effect (R279). -/
def execOutputDischarged (s : Fin 8) (j : Fin 16) (land : Bool) (st : State) : Out :=
  .next (
    if (st.pt s j).discharge then
      (st.setPt s j fun f => { f with land := land }).enterMode s j (fioMode (st.fioCfg s j)) true
    else st)

/-! Scheduled transitions at the Slate (R290, R291). -/

/-- A transition reaches its channel: the mapped point's FIO_OUT bit, or discarded and counted. -/
def State.applyTransition (s : State) (i : Fin 8) (c : Fin 16) (level : Bool) : State :=
  let m := (s.slate i).fmap[c]
  let j : Fin 16 := ⟨m % 16, by omega⟩
  if bits m 4 1 = 0 ∨ (s.pt i j).mode ≠ 2 ∨ (s.pt i j).discharge ∨ s.testBit i j ∨ !(s.slate i).aligned then
    s.inc (P.fio i) F.FIO_SCH_CNT_DROP
  else (s.setOutBit i j level).setPt i j fun f => { f with trAt := s.stick i + 1 }

/-- The Slate tick with the given low 32 bits nearest the present tick, within 2³¹ on either side (R291). -/
def nearTick (now low : Nat) : Int :=
  let b : Int := (now : Int) - 2 ^ 31
  b + ((low : Int) - b) % 2 ^ 32

/-- An OUT_SCHED record arrives (R291). -/
def State.outSched (s : State) (i : Fin 8) (level : Bool) (target low : Nat) : State :=
  match fin? 16 target with
  | none => s.inc (P.fio i) F.FIO_SCH_CNT_DROP
  | some c =>
    let t := nearTick (s.stick i) low
    if (s.slate i).safe then s.inc (P.fio i) F.FIO_SCH_CNT_DROP
    else if t < s.stick i then
      ((s.inc (P.fio i) F.FIO_SCH_CNT_LATE).err (P.fio i) E.fio_SCH_LATE).applyTransition i c level
    else if (s.pt i c).pend.length ≥ 4 then (s.inc (P.fio i) F.FIO_SCH_CNT_DROP).err (P.fio i) E.fio_SCH_DROP
    else s.setPt i c fun f => { f with pend := f.pend ++ [(t.toNat, level)] }

/-- The pending transition with the earliest tick, the first to arrive among equals; and the rest. -/
def takeEarliest : List (Nat × Bool) → Option ((Nat × Bool) × List (Nat × Bool))
  | [] => none
  | e :: l => match takeEarliest l with
    | none => some (e, [])
    | some (f, r) => if f.1 < e.1 then some (f, e :: r) else some (e, l)

/-- The Slate tick reaches the earliest pending transition of a channel. -/
def execScheduledTransition (s : Fin 8) (c : Fin 16) (st : State) : Out :=
  .next (match takeEarliest (st.pt s c).pend with
    | none => st
    | some (e, r) =>
      if e.1 ≤ st.stick s then (st.setPt s c fun f => { f with pend := r }).applyTransition s c e.2 else st)

/-- FIO_SCH_PEND. -/
def State.fioSchPend (s : State) (i : Fin 8) : Nat :=
  (List.finRange 16).foldl (fun n c => n + (if (s.pt i c).pend.isEmpty then 0 else 2 ^ c.val)) 0

/-! Schedule channels in Granite (R290, R292, R293). -/

/-- Queue a register record toward the Slate while the downstream direction is up (R67). -/
def State.forward (s : State) (i : Fin 8) (off data mask : Nat) : State :=
  if (s.slate i).link.dn.up then s.setLink i fun l => { l with regq := l.regq ++ [.regWr off data mask] } else s

/-- 16-bit offsets of the Granite-resident registers a Slate keeps a copy of (log 23). -/
def fschOff (c : Nat) : Nat := 0x020 + 4 * c
def auxOff (j : Nat) : Nat := 0x060 + 4 * j

/-- A write of FSCH_MAP: ignored with MAP_OVL where two enabled channels would share a point. -/
def State.writeFschMap (s : State) (i : Fin 8) (c : Fin 16) (v : Nat) : State :=
  let pg := P.fsch i
  let clash := bits v 4 1 = 1 ∧ ∃ d : Fin 16, d ≠ c ∧ bits (s.rd (pg + R.FSCH_MAP d)) 0 5 = v % 32
  if clash then s.err pg E.fsch_MAP_OVL
  else (s.wr (pg + R.FSCH_MAP c) (v % 32)).forward i (fschOff c) (v % 32) 0xFFFFFFFF

def execFschMapWrite (s : Fin 8) (c : Fin 16) (v : BitVec 5) (st : State) : Out := 
  .next (st.unlessLocked fun st => st.writeFschMap s c v.toNat)

/-- The request of a channel. -/
def fschIx (i : Fin 8) (c : Fin 16) : Fin 128 := ⟨16 * i.val + c.val, by omega⟩
def State.fschReq (s : State) (i : Fin 8) (c : Fin 16) : FschReq := s.fsch[fschIx i c]
def State.setFsch (s : State) (i : Fin 8) (c : Fin 16) (f : FschReq → FschReq) : State :=
  { s with fsch := s.fsch.set (fschIx i c) (f s.fsch[fschIx i c]) }
def State.fschArmed (s : State) (i : Fin 8) (c : Fin 16) : Bool := s.flag (P.fsch i) (F.FSCH_CTRL_GO c)

/-- The transitions of a request: τ, and τ + WIDTH with the opposite level. -/
def FschReq.count (r : FschReq) : Nat := if r.width = 0 then 1 else 2
def FschReq.tick (r : FschReq) (k : Nat) : Nat := if k = 0 then r.tau else r.tau + r.width
def FschReq.lvl (r : FschReq) (k : Nat) : Bool := if k = 0 then r.level else !r.level

/-- GO (R292). -/
def State.fschGo (s : State) (i : Fin 8) (c : Fin 16) (level : Bool) : State :=
  let pg := P.fsch i
  let tau := s.rd64 pg (R.FSCH_TICK_LO c)
  let w := bits (s.rd (pg + R.FSCH_WIDTH c)) 0 31
  let s := s.setb pg (F.FSCH_CTRL_LEVEL c) level
  if s.fschArmed i c then s.setb pg (F.FSCH_STAT_REFUSED c) true
  else if tau ≤ s.now then s.setb pg (F.FSCH_STAT_LATE c) true
  else (s.setb pg (F.FSCH_CTRL_GO c) true).setFsch i c fun _ =>
    { tau := tau, width := w, level := level, handled := 0, last := tau + w }

def execFschGo (s : Fin 8) (c : Fin 16) (level : Bool) (st : State) : Out := .next (st.fschGo s c level)

/-- CANCEL withdraws the transitions not yet sent; a request with none sent ends (R292). -/
def State.fschCancel (s : State) (i : Fin 8) (c : Fin 16) : State :=
  let r := s.fschReq i c
  if !s.fschArmed i c then s
  else if r.handled = 0 then s.setb (P.fsch i) (F.FSCH_CTRL_GO c) false
  else s.setFsch i c fun r => { r with last := if r.handled < r.count then r.tick (r.handled - 1) else r.last, handled := r.count }

def execFschCancel (s : Fin 8) (c : Fin 16) (st : State) : Out := .next (st.fschCancel s c)

/-- TRACK_REACH in ticks; values below 1,000 act as 1,000 (Table 11-12). -/
def State.reach (s : State) : Nat := max 1000 (s.fld P.track F.TRACK_REACH_REACH)

/-- OUT_SCHED records enter the queue of the Slate's link. -/
def State.queueOut (s : State) (i : Fin 8) (level : Bool) (c t : Nat) : State :=
  s.setLink i fun l => { l with outq := l.outq ++ [.outSched level c (t % 2 ^ 32)] }

/-- The tick of the next transition minus TRACK_REACH is reached: it is sent, or inhibited and counted (R292, R293). -/
def State.fschSend (s : State) (i : Fin 8) (c : Fin 16) : State :=
  let r := s.fschReq i c
  if !s.fschArmed i c ∨ r.count ≤ r.handled ∨ s.now + s.reach < r.tick r.handled then s
  else
    let s' := s.setFsch i c fun r => { r with handled := r.handled + 1 }
    if s.inhibited F.TIME_INH_CFG_FIO || !s.flag P.time (F.TIME_ALIGN_ALIGNED i) then
      ((s'.inc (P.fsch i) F.FSCH_INH_CNT_COUNT).setb (P.fsch i) (F.FSCH_STAT_INHIBIT c) true).err (P.fsch i) E.fsch_INHIBIT
    else s'.queueOut i (r.lvl r.handled) c (r.tick r.handled)

def execFschSend (s : Fin 8) (c : Fin 16) (st : State) : Out := .next (st.fschSend s c)

/-- The last transition tick is reached: DONE (R292). -/
def execFschDone (s : Fin 8) (c : Fin 16) (st : State) : Out :=
  .next (
    let r := st.fschReq s c
    if st.fschArmed s c ∧ r.count ≤ r.handled ∧ r.last ≤ st.now then
      (st.setb (P.fsch s) (F.FSCH_CTRL_GO c) false).setb (P.fsch s) (F.FSCH_STAT_DONE c) true
    else st)

end Sys2Proof.Machine
end

