-- ==== Sys2Proof/Machine/SlateRegs.lean ====
section
/-! DEFINITION. Register access by address: what a plain write does by access type (R12), and the Slate-resident pages as
the Slate reads and writes them (R67). -/
namespace Sys2Proof.Machine
open Sys2Proof

/-! Plain registers. -/

/-- The bits a CLR bit clears: the counts below it, but for the "last" fields beside four of them. -/
def clrMask (k : PageKind) (o : Nat) : Nat :=
  if (k = .pwm ∧ o = R.PWM_LATE_CNT) ∨ (k = .gate ∧ (o = R.GATE_XCNT ∨ o = R.GATE_GLOCK_CNT ∨ o = R.GATE_TMO_CNT)) then 0xFFFF
  else 0x7FFFFFFF

/-- A register whose bit 31 is CLR. -/
def hasClr (k : PageKind) (o : Nat) (d : RegDesc) : Bool :=
  d.cmd == 0x80000000 && !(k == .amber && o == R.AMBER_CMD) && !(k == .rgn && o == R.RGN_CMD)

/-- `x` without the bits of `m`. -/
def without (x m : Nat) : Nat := x - (x &&& m)

/-- The new value of a register by its access types (Table 0-7). `lock`: RWL fields may be set. -/
def plainValue (d : RegDesc) (lock : Bool) (clr old v : Nat) : Nat :=
  let rw := d.rw ||| (if lock then d.rwl else 0)
  let x := without old rw ||| (v &&& rw)
  let x := without x (v &&& d.w1c) ||| (v &&& d.w1s)
  without x clr

/-- A plain write to page offset `o` of the page at base `p`: the header by R429, the others by their access types. -/
def State.plainWrite (s : State) (k : PageKind) (p o v : Nat) (lock : Bool) : State :=
  if o = R.PAGE_CTRL then s.setf p F.PAGE_CTRL_SNAP_EN (bits v 8 1)
  else if o = R.PAGE_ERR then s.wr (p + o) (without (s.rd (p + o)) v)
  else if o = R.PAGE_ERR_MASK then s.wr (p + o) v
  else match regAt k o with
    | none => s
    | some d => s.wr (p + o) (plainValue d lock (if hasClr k o d && bits v 31 1 == 1 then clrMask k o else 0) (s.rd (p + o)) v)

/-! Addresses of Slate-resident registers. -/

/-- The Slate a page instance resides on. -/
def slateOfPage (k : PageKind) (n : Nat) : Option (Fin 8) :=
  if k = .fb ∨ k = .pwm then slate? (n / 8) else if pageOnSlate k then slate? n else none

/-- The 16-bit record offset of a Slate-resident register (Table 3-4): its Slate-window offset; the PWM and FB pages of
local axis n lie at 0x7000 + 0x1000n and 0x7800 + 0x1000n (log 24). -/
def recOff (k : PageKind) (n a : Nat) : Nat :=
  if k = .pwm then 0x7000 + 0x1000 * (n % 8) + a % 0x800
  else if k = .fb then 0x7800 + 0x1000 * (n % 8) + a % 0x800
  else a % 0x10000

/-- The BAR0 address of a record offset on Slate i. -/
def recAddr (i : Fin 8) (off : Nat) : Nat :=
  if 0x7000 ≤ off ∧ off < 0xF000 then
    let n := (off - 0x7000) / 0x1000
    (if off % 0x1000 < 0x800 then P.pwm (8 * i.val + n) else P.fb (8 * i.val + n)) + off % 0x800
  else 0x200000 + 0x10000 * i.val + off % 0x10000

/-! Reads at the Slate. -/

/-- PWM_STATUS (Table 4-12). -/
def State.pwmStatus (s : State) (a : Fin 64) : Nat :=
  let i := slateOf a
  let p := s.pwm a
  let boot := match p.start with | .boot _ => true | _ => false
  let fall := (axisOuts a).any fun k => s.tickRes i k
  p.act.toNat + 2 * boot.toNat + 4 * p.stagedPhase.toNat + 8 * s.fld (P.pwm a) F.PWM_TRIP_STAT_LATCH + 16 * p.tripPer.toNat
    + 32 * (s.permitOther a).toNat + 64 * fall.toNat + 128 * (decide (s.carT i ≤ p.phase)).toNat

/-- LINK_OK as Granite knows it (Table 19-3). -/
def State.linkOk (s : State) (i : Nat) : Bool := s.flag (P.link i) F.LINK_STATUS_UP_UP && s.flag (P.link i) F.LINK_STATUS_DN_UP

/-- A Slate-resident register as the Slate shows it. -/
def State.slateView (s : State) (i : Fin 8) (a : Nat) : Nat :=
  let o := a % 0x1000
  if o = R.PAGE_VER then s.rd a % 2 ^ 24 + (Config.dieRev (1 + i)).toNat * 2 ^ 24
  else if o = R.PAGE_STATUS then
    1 + 2 + 4 * (s.linkOk i).toNat + 8 * s.fld (a - o) F.PAGE_STATUS_RESETTING
  else match pageAt a with
    | some (.pwm, n) => match axis? n with
      | some x => if o = R.PWM_STATUS then s.pwmStatus x else s.rd a
      | none => s.rd a
    | some (.fb, n) => match axis? n with
      | some x => if o = R.FB_POS then (s.fbShown x).p else s.rd a
      | none => s.rd a
    | some (.fio, _) =>
      if o = R.FIO_IN then s.fioIn i
      else if o = R.FIO_SCH_PEND then s.fioSchPend i
      else if o = R.FIO_STATUS then
        s.rd a % 2 + 2 * (s.slate i).safe.toNat + (s.slate i).claimPair % 256 * 256 + (s.slate i).sb.testMask % 2 ^ 16 * 2 ^ 16
      else s.rd a
    | some (.carrier, _) =>
      if o = R.CARRIER_STATUS then setBits (s.rd a) 2 1 (s.slate i).car.pend.isSome.toNat else s.rd a
    | _ => s.rd a

/-- A read at the Slate: a read of FB_POS latches (R133). -/
def State.slateRead (s : State) (i : Fin 8) (a : Nat) : Nat × State :=
  match pageAt a with
  | some (.fb, n) => match axis? n with
    | some x => (s.slateView i a, if a % 0x1000 = R.FB_POS then s.readFbPos x else s)
    | none => (s.slateView i a, s)
  | _ => (s.slateView i a, s)

/-! Writes at the Slate. -/

/-- The FIO page at the Slate. -/
def State.slateWriteFio (s : State) (i : Fin 8) (o v mask : Nat) : State :=
  if o = R.FIO_OUT then s.writeFioOut i v mask
  else if o = R.FIO_DIAG_A then (s.shortClear i v).plainWrite .fio (P.fio i) o (v / 2 ^ 16 * 2 ^ 16) true
  else if 0x080 ≤ o ∧ o < 0x100 ∧ o % 8 = 0 then match fin? 16 ((o - 0x080) / 8) with
    | some j => s.writeFioCfg i j v none
    | none => s
  else s.plainWrite .fio (P.fio i) o v true

/-- The FB page at the Slate. The lands a port begins to read are at the levels last seen. -/
def State.slateWriteFb (s : State) (x : Fin 64) (o v : Nat) : State :=
  let f := s.fb x
  if o = R.FB_CTRL then s.writeFbCtrl x v (16 * f.a.toNat + 8 * f.b.toNat + f.hall)
  else if o = R.FB_WRAP then s.writeFbWrap x v
  else if o = R.FB_CMD then s.when (v % 2 = 1) fun s => s.fbPreset x
  else if o = R.FB_SER_CFG ∧ isSerial (s.fbModeNow x) ∧ f.w ≠ 2 ^ bits v 0 6 then s.err (P.fb x) E.fb_CFG_REJECT
  else s.plainWrite .fb (P.fb x) o v true

/-- The PWM page at the Slate. -/
def State.slateWritePwm (s : State) (x : Fin 64) (o v : Nat) : State :=
  if o = R.PWM_CTRL then s.writePwmCtrl x v
  else if o = R.PWM_PHASE then s.writePhase x v
  else if o = R.PWM_DT then s.writeDt x v
  else if o = R.PWM_MINON then s.writeMinon x v
  else if o = R.PWM_TRIP_STAT then s.when (v % 2 = 1) fun s => s.clearLatch x
  else s.plainWrite .pwm (P.pwm x) o v true

/-- The CARRIER page at the Slate; in the replay after a restart CARRIER_CTRL waits for its end (R83). -/
def State.slateWriteCarrier (s : State) (i : Fin 8) (o v : Nat) : State :=
  if o = R.CARRIER_CTRL then
    if (s.slate i).car.replayed then s.setSlate i fun x => { x with car := { x.car with ctrl := some v } }
    else s.writeCarrierCtrl i v
  else if o = R.CARRIER_APPLY then s.writeCarrierApply i v
  else s.plainWrite .carrier (P.carrier i) o v true

/-! Soft reset (R430). -/

/-- Counters that no CLR bit clears, by page kind. -/
def plainCounters (k : PageKind) : List Nat := match k with
  | .carrier => [R.CARRIER_EDGE_CNT]
  | .loop => [R.LOOP_EVAL_CNT, R.LOOP_REJECT]
  | .trc => [R.TRC_STATUS]
  | _ => []

/-- The bits of a register that a soft reset returns to their reset values: RW fields, latched status, counters, and actions
that wait. A calibration of offsets goes on. -/
def softMask (k : PageKind) (o : Nat) (d : RegDesc) : Nat :=
  if (plainCounters k).contains o then 0xFFFFFFFF
  else d.rw ||| d.w1c ||| (if hasClr k o d then clrMask k o else 0) ||| (if k = .adc then 0 else d.cmd)

/-- The registers of a page after a soft reset; PAGE_ERR clears. The header's other registers are kept. -/
def State.softRegs (s : State) (k : PageKind) (p : Nat) : State :=
  let s := forEach (regMap k) s fun d s =>
    forEach (List.range (max 1 d.count)) s fun j s =>
      let o := d.off + d.stride * j
      let m := softMask k o d
      if m = 0 then s else s.wr (p + o) (without (s.rd (p + o)) m ||| ((regDefault (p + o)).toNat &&& m))
  s.wr (p + R.PAGE_ERR) 0

/-- A soft reset of a Slate-resident page at the Slate: what follows from the RW fields follows them. -/
def State.slateSoftReset (s : State) (i : Fin 8) (k : PageKind) (n : Nat) : State :=
  let s := match k with
    | .carrier => (s.writeCarrierCtrl i 0).setSlate i fun x => { x with car := { x.car with pend := none, ctrl := none } }
    | .pwm => (axis? n).elim s fun x =>
        let s := ((((s.writePwmCtrl x 0).writePhase x 0).writeDt x 400).writeMinon x 0).dropLatch x
        (s.setf (P.pwm x) F.PWM_TRIP_STAT_CONSEC 0).setPwm x fun p => { p with sets := [] }
    | .fb => (axis? n).elim s fun x =>
        let f := s.fb x
        (s.writeFbCtrl x 0 (16 * f.a.toNat + 8 * f.b.toNat + f.hall)).writeFbWrap x 0x80000FFF
    | .fio =>
      let s := forEach (List.finRange 16) ((s.writeFioOut i 0 0xFFFF).shortClear i 0xFFFF) fun j s =>
        s.setPt i j fun f => { f with pend := [] }
      forEach ((List.finRange 16).filter fun (j : Fin 16) => bits (s.slate i).claim j 1 == 0) s fun j s => s.writeFioCfg i j 0 none
    | .timers => s.setSlate i fun x => { x with timers := Vector.replicate 16 {} }
    | _ => s
  let s := if k = .fio then
      let c := (List.finRange 16).map fun (j : Fin 16) => s.fioCfg i j
      forEach ((List.range 16).zip c) (s.softRegs k (pageBase k n)) fun e s => s.wr (P.fio i + R.FIO_CFG e.1) e.2
    else s.softRegs k (pageBase k n)
  if k = .chop then s.checkChop i else s

/-- The pages a soft reset acts in: not the device pages, not the engine pages. -/
def softPage (k : PageKind) : Bool := match k with
  | .sys | .clk | .time | .fault | .dom | .pwr | .snap | .trig | .safe | .amber | .host | .engine => false
  | _ => true

/-- A write to a Slate-resident register takes effect at the Slate. -/
def State.slateWrite (s : State) (i : Fin 8) (a v mask : Nat) : State :=
  let o := a % 0x1000
  let s := if o = R.PAGE_CTRL ∧ bits v 1 1 = 1 then match pageAt a with
      | some (k, n) => s.slateSoftReset i k n
      | none => s
    else s
  match pageAt a with
  | some (.pwm, n) => match axis? n with
    | some x => s.slateWritePwm x o v
    | none => s
  | some (.fb, n) => match axis? n with
    | some x => s.slateWriteFb x o v
    | none => s
  | some (.carrier, _) => s.slateWriteCarrier i o v
  | some (.adc, _) => if o = R.ADC_CAL then s.writeAdcCal i v else s.plainWrite .adc (P.adc i) o v true
  | some (.fio, _) => s.slateWriteFio i o v mask
  | some (.chop, _) => (s.plainWrite .chop (P.chop i) o v true).checkChop i
  | some (.gate, _) => s.plainWrite .gate (P.gate i) o v true
  | some (.timers, _) => s.plainWrite .timers (P.timers i) o v true
  | _ => s

/-! Snapshot mirrors of a page (R377): offset + 0x800. -/

/-- Page offsets of the snapshot-capable registers of a page kind. -/
def snapOffsets (k : PageKind) : List Nat :=
  [R.PAGE_ID, R.PAGE_VER, R.PAGE_STATUS, R.PAGE_ERR] ++
    (regMap k).flatMap fun d => if d.snap then (List.range (max 1 d.count)).map fun j => d.off + d.stride * j else []

/-- The base addresses of the Slate-resident pages of Slate i. -/
def slatePages (i : Fin 8) : List (PageKind × Nat) :=
  [(.carrier, P.carrier i), (.gate, P.gate i), (.adc, P.adc i), (.fio, P.fio i), (.chop, P.chop i), (.timers, P.timers i)] ++
    (axesOf i).flatMap fun (a : Fin 64) => [(.pwm, P.pwm a.val), (.fb, P.fb a.val)]

/-- The mirrors of Slate i's pages that take part, with the values in force. -/
def State.slateMirrors (s : State) (i : Fin 8) : List (Nat × Nat) :=
  (slatePages i).flatMap fun (k, p) =>
    if s.flag p F.PAGE_CTRL_SNAP_EN then (snapOffsets k).map fun o => (p + 0x800 + o, s.slateView i (p + o)) else []

/-- Write a list of address and value pairs. -/
def State.wrAll (s : State) (l : List (Nat × Nat)) : State := forEach l s fun e t => t.wr e.1 e.2

/-- The Slate receives T_s [31:0] (R378): the values of T_s where its log, which covers the last 2,500 ticks, reaches back
to it, else those of now, late. -/
def State.slateSnap (s : State) (i : Fin 8) (low : Nat) : State :=
  let x := s.slate i
  let t := nearTick x.tick low
  if t = x.snapTick ∧ (x.tick : Int) - t ≤ 2500 then
    (s.wrAll x.snapStash).setSlate i fun x => { x with snapLate := false }
  else (s.wrAll (s.slateMirrors i)).setSlate i fun x => { x with snapLate := true }

end Sys2Proof.Machine
end

