-- ==== Sys2Proof/Machine/Link.lean ====
section
/-! DEFINITION. Barrier links: frames, the Slate's side, register access, sideband (03_slate_dies_and_links.md, R44-R46,
R54-R70). Granite's side of upstream frames is in Up.lean. -/
namespace Sys2Proof.Machine
open Sys2Proof

/-! CRC-16 of both links (R57, R68). -/

/-- One bit, least significant first: the register is the reflected form of polynomial 0x1021. -/
def crcBitR (c : Nat) (b : Bool) : Nat :=
  let x := c / 2
  if (c % 2 == 1) != b then x ^^^ 0x8408 else x
/-- One bit, most significant first, polynomial 0x8BB7. -/
def crcBitF (c : Nat) (b : Bool) : Nat :=
  let x := c * 2 % 2 ^ 16
  if (c / 2 ^ 15 % 2 == 1) != b then x ^^^ 0x8BB7 else x

/-- CRC-16 of a main-link frame: bytes least significant bit first, from 0xFFFF. -/
def crcMain (l : List Byte) : Nat :=
  l.foldl (fun c b => [0, 1, 2, 3, 4, 5, 6, 7].foldl (fun c k => crcBitR c (b.getLsbD k)) c) 0xFFFF
/-- CRC-16 of a sideband frame: bytes most significant bit first, from 0. -/
def crcSide (l : List Byte) : Nat :=
  l.foldl (fun c b => [7, 6, 5, 4, 3, 2, 1, 0].foldl (fun c k => crcBitF c (b.getLsbD k)) c) 0

/-! Records (Tables 3-4, 3-5). -/

def DnRec.bytes : DnRec → List Byte
  | .compare ax tag u v w => bytesOf 1 (0x10 + ax % 8) ++ bytesOf 1 tag ++ bytesOf 3 u ++ bytesOf 3 v ++ bytesOf 3 w ++ [0]
  | .outSched level target tick => bytesOf 1 (0x20 + 8 * level.toNat) ++ bytesOf 1 target ++ bytesOf 4 tick
  | .regWr off data mask => [0x30, 0] ++ bytesOf 2 off ++ bytesOf 4 data ++ bytesOf 4 mask
  | .regRd tag off => [0x40] ++ bytesOf 1 tag ++ bytesOf 2 off ++ [0, 0]
  | .tickHi hi => [0x50, 0] ++ bytesOf 4 (hi % 2 ^ 26)
  | .undef => []

def UpRec.bytes : UpRec → List Byte
  | .sample r => bytesOf 1 (0x10 + 8 * r.edge.toNat + r.ax % 8) ++ bytesOf 1 r.tag ++ bytesOf 2 r.stamp ++ bytesOf 2 r.iu ++
      bytesOf 2 r.iv ++ bytesOf 2 r.iw ++ bytesOf 2 r.vbus ++ bytesOf 4 r.pos ++ bytesOf 1 r.flags ++ bytesOf 1 r.wrap
  | .event r => bytesOf 1 (0x20 + 8 * r.unal.toNat + 4 * r.level.toNat) ++ bytesOf 1 r.ch ++ bytesOf 4 r.stamp
  | .field ins diag => [0x30, 0] ++ bytesOf 2 ins ++ bytesOf 2 diag
  | .regData tag off data status => [0x40] ++ bytesOf 1 tag ++ bytesOf 2 off ++ bytesOf 4 data ++ bytesOf 1 status ++ [0, 0, 0]
  | .feedback r => bytesOf 1 (0x50 + r.ax % 8) ++ bytesOf 1 r.status ++ bytesOf 4 r.pos ++ bytesOf 4 r.turn ++ bytesOf 4 r.int ++
      bytesOf 4 r.tick
  | .undef => []

/-- Record lengths by type; none where the direction does not define the type. -/
def dnLen (t : Nat) : Option Nat := match t with
  | 1 => some 12 | 2 => some 6 | 3 => some 12 | 4 => some 6 | 5 => some 6 | _ => none
def upLen (t : Nat) : Option Nat := match t with
  | 1 => some 18 | 2 => some 6 | 3 => some 6 | 4 => some 12 | 5 => some 18 | _ => none

/-- One downstream record from its bytes. -/
def dnRec (t h : Nat) (l : List Byte) : DnRec := match t with
  | 1 => .compare (h % 8) (field l 1 1) (field l 2 3) (field l 5 3) (field l 8 3)
  | 2 => .outSched (bits h 3 1 = 1) (field l 1 1) (field l 2 4)
  | 3 => .regWr (field l 2 2) (field l 4 4) (field l 8 4)
  | 4 => .regRd (field l 1 1) (field l 2 2)
  | 5 => .tickHi (field l 2 4 % 2 ^ 26)
  | _ => .undef

def upRec (t h : Nat) (l : List Byte) : UpRec := match t with
  | 1 => .sample { ax := h % 8, edge := bits h 3 1 = 1, tag := field l 1 1, stamp := field l 2 2, iu := field l 4 2,
                   iv := field l 6 2, iw := field l 8 2, vbus := field l 10 2, pos := field l 12 4, flags := field l 16 1,
                   wrap := field l 17 1 }
  | 2 => .event ⟨bits h 3 1 = 1, bits h 2 1 = 1, field l 1 1, field l 2 4⟩
  | 3 => .field (field l 2 2) (field l 4 2)
  | 4 => .regData (field l 1 1) (field l 2 2) (field l 4 4) (field l 8 1)
  | 5 => .feedback ⟨h % 8, field l 1 1, field l 2 4, field l 6 4, field l 10 4, field l 14 4⟩
  | _ => .undef

/-- The records of a body (R58, R59): a first byte of 0x00 ends it; an undefined or overlong record ends it too, as `u`. -/
def bodyRecs {α : Type} (len : Nat → Option Nat) (mk : Nat → Nat → List Byte → α) (u : α) : Nat → List Byte → List α
  | 0, _ => []
  | n + 1, l => match l with
    | [] => []
    | b :: _ =>
      if b = 0 then []
      else match len (b.toNat / 16) with
        | none => [u]
        | some k => if l.length < k then [u] else mk (b.toNat / 16) (b.toNat % 16) l :: bodyRecs len mk u n (l.drop k)

def dnBody (frame : List Byte) : List DnRec := bodyRecs dnLen dnRec .undef 9 ((frame.drop 8).take 54)
def upBody (frame : List Byte) : List UpRec := bodyRecs upLen upRec .undef 9 ((frame.drop 8).take 54)

/-- A frame is good (R62): found, valid sync headers, the direction's FTYPE, and its CRC checks. -/
def frameGood (rx : FrameRx) (ftype : Nat) : Bool :=
  rx.start && rx.sync && rx.bytes.length == 64 && field rx.bytes 0 1 / 16 == ftype &&
    field rx.bytes 62 2 == crcMain (rx.bytes.take 62)

/-- Records of one type that fit in `cap` bytes, in order, none overtaking an older one; the rest; and the bytes left (R60). -/
def takeFit {α : Type} (size : α → Nat) : Nat → List α → List α × List α × Nat
  | cap, [] => ([], [], cap)
  | cap, x :: l =>
    if size x ≤ cap then
      let r := takeFit size (cap - size x) l
      (x :: r.1, r.2.1, r.2.2)
    else ([], x :: l, cap)

/-- A body of 54 bytes, then the CRC. -/
def sealFrame (hdr body : List Byte) : List Byte :=
  let f := hdr ++ body ++ List.replicate (54 - body.length) 0
  f ++ bytesOf 2 (crcMain f)

/-! Receivers (R62). -/

/-- The count of good and bad frames and the declaration of a direction. -/
def RxDir.take (r : RxDir) (good : Bool) (seq : Nat) : RxDir :=
  if good then
    let g := min 16 (r.good + 1)
    { r with good := g, bad := 0, seq := some seq, up := r.up || g == 16, ever := r.ever || g == 16 }
  else
    let b := min 4 (r.bad + 1)
    { r with good := 0, bad := b, up := r.up && decide (b < 4) }

/-- A good frame's SEQ is not one more than the previous good frame's. -/
def RxDir.gap (r : RxDir) (seq : Nat) : Bool := match r.seq with
  | some p => (p + 1) % 256 != seq
  | none => false

/-- TMO_US in ticks, the fraction dropped; 0 acts as 1 (R63). -/
def State.linkTmo (s : State) (i : Fin 8) : Nat := max 1 (s.fld (P.link i) F.LINK_CTRL_TMO_US) * 625 / 2

/-! Alignment (R44-R46). -/

/-- The Slate ceases to be aligned: SLATE_MISALIGN (R46). -/
def State.misalign (s : State) (i : Fin 8) : State :=
  let was := (s.slate i).aligned
  let s := (s.setSlate i fun x => { x with aligned := false, alignRun := 0 }).setb P.time (F.TIME_ALIGN_ALIGNED i) false
  s.errIf (was && s.fitted i) P.time E.time_SLATE_MISALIGN

/-- Every gate output of the Slate is off. -/
def State.gatesOff (s : State) (i : Fin 8) : Bool := (List.finRange 49).all fun k => !(s.out i k).cmd

/-- The Slate's tick counter moves by −d ticks: bits 37:0, the upper bits as they stand. In one go the carrier grid is taken
up again at its first edge from now on (log 25). -/
def State.stepTick (s : State) (i : Fin 8) (d : Int) (oneGo : Bool) : State :=
  let x := s.slate i
  let lo : Int := (((x.tick % 2 ^ 38 : Nat) : Int) - d) % 2 ^ 38
  let t : Nat := x.tick / 2 ^ 38 * 2 ^ 38 + lo.toNat
  let mv (u : Nat) : Nat := ((u : Int) + ((t : Int) - x.tick)).toNat
  s.setSlate i fun x => { x with
    tick := t, sb := { x.sb with lastGood := mv x.sb.lastGood }, chop := { x.chop with next := mv x.chop.next }
    car := if oneGo then { x.car with next := gridEdge (x.car.next / 64) (max 1 (s.carT i)) (64 * t) } else x.car }

/-- The alignment error of an applied frame in taps: arrival at the Slate less the carried tick plus the delay, modulo the
2³⁸ ticks the frame carries. -/
def State.alignErr (s : State) (i : Fin 8) (arrival : Int) (tick38 : Nat) : Int :=
  let d := arrival + (s.slate i).tapRef - 64 * (tick38 : Int) - s.rd (P.time + R.TIME_LDLY i)
  let m := d % 2 ^ 44
  if m < 2 ^ 43 then m else m - 2 ^ 44

/-- The error is shown and acted on (R45), once the delay is known (R44). -/
def State.alignFrame (s : State) (i : Fin 8) (e : Int) : State :=
  let s := s.setf P.time (F.TIME_ALIGN_ERR_TAPS i) (ofSigned 16 (clampI (-32768) 32767 e))
  let x := s.slate i
  if !x.link.mark.known then s
  else if x.aligned then
    if e.natAbs > 64 then s.misalign i
    else if e.natAbs ≥ 16 then s.setSlate i fun x => { x with tapRef := x.tapRef - e.sign }
    else s
  else if e.natAbs ≤ 32 then
    let s := s.setSlate i fun x => { x with alignRun := min 16 (x.alignRun + 1) }
    if (s.slate i).alignRun = 16 then s.setSlate i fun x => { x with aligned := true } else s
  else
    let s := s.setSlate i fun x => { x with alignRun := 0 }
    if s.gatesOff i then s.stepTick i ((e + 32) / 64) true else s.stepTick i e.sign false

/-! Safe state (R64). -/

/-- Entry (Table 3-6): gates off, EN cleared, outputs at SAFE_VAL, schedules cancelled. A cause while already safe changes
nothing. -/
def State.enterSafe (s : State) (i : Fin 8) (why : Nat) : State :=
  if (s.slate i).safe then s
  else
    let s := s.setSlate i fun x => { x with safe := true, why := why }
    let s := forEach (axesOf i) s fun a t => t.writePwmCtrl a (t.rd (P.pwm a + R.PWM_CTRL) / 2 * 2)
    let s := forEach (List.finRange 16) s fun j t =>
      (if (t.pt i j).mode = 2 then t.setOutBit i j (t.flag (P.fio i) (F.FIO_CFG_SAFE_VAL j)) else t).setPt i j fun f =>
        { f with pend := [] }
    (s.cutCommits i).checkChop i

/-- The Slate leaves its safe state, and its restart flag clears (R64, R65). -/
def State.leaveSafe (s : State) (i : Fin 8) : State :=
  (s.setSlate i fun x => { x with safe := false, why := 0, restart := false }).checkSlate i |>.checkChop i

/-! Register access across the link (R67). -/

/-- Page offsets with RW fields, ascending: those Granite shadows and replays. -/
def shadowOffsets (k : PageKind) : List Nat :=
  [R.PAGE_CTRL, R.PAGE_ERR_MASK] ++ ((List.range 504).map fun n => 0x20 + 4 * n).filter fun o =>
    !(k == .fio && o == R.FIO_OUT) && ((regAt k o).map (·.rw)).getD 0 != 0

/-- The pages of a Slate in ascending address order. -/
def slatePagesAsc (i : Fin 8) : List (PageKind × Nat × Nat) :=
  ((axesOf i).flatMap fun (a : Fin 64) => [(.fb, a.val, P.fb a.val), (.pwm, a.val, P.pwm a.val)]) ++
    [(.carrier, i.val, P.carrier i), (.gate, i.val, P.gate i), (.adc, i.val, P.adc i), (.fio, i.val, P.fio i),
     (.chop, i.val, P.chop i), (.timers, i.val, P.timers i)]

/-- The tooth-input settings a Slate keeps: FILT_US and POL of input j. -/
def State.auxWord (s : State) (i : Fin 8) (j : Nat) : Nat :=
  let c := s.rd (P.tooth (2 * i.val + j) + R.TOOTH_CTRL)
  bits c 16 8 * 2 + bits c 15 1

/-- The writes of a replay: the whole shadow in ascending address order, then FSCH_MAP and the tooth-input settings. -/
def State.replayWrites (s : State) (i : Fin 8) : List DnRec :=
  ((slatePagesAsc i).flatMap fun (k, n, p) => (shadowOffsets k).map fun o =>
    .regWr (recOff k n (p + o)) (s.sh (p + o)) 0xFFFFFFFF) ++
  ((List.finRange 16).map fun c => .regWr (fschOff c) (s.rd (P.fsch i + R.FSCH_MAP c)) 0xFFFFFFFF) ++
  [.regWr (auxOff 0) (s.auxWord i 0) 0xFFFFFFFF, .regWr (auxOff 1) (s.auxWord i 1) 0xFFFFFFFF]

/-- The record offset of a BAR0 address. -/
def recOffAt (a : Nat) : Nat := match pageAt a with
  | some (k, n) => recOff k n a
  | none => 0

/-- Waiting reads are forwarded while fewer than 8 are outstanding. -/
def State.promoteReads (s : State) (i : Fin 8) : State :=
  s.setLink i fun l => match l.waiting with
    | [] => l
    | r :: w => if l.reads.length < 8 then
        { l with waiting := w, reads := l.reads ++ [{ r with tag := l.rdTag, at_ := s.now }], rdTag := (l.rdTag + 1) % 256
                 regq := l.regq ++ [.regRd l.rdTag (recOffAt r.addr)] }
      else l

/-- A forwarded read fails: 0 and RD_FAIL. -/
def State.failRead (s : State) (i : Fin 8) (r : FwdRead) : State := (s.answer r.req r.addr 0).err (P.link i) E.link_RD_FAIL

/-- The replay starts (R67): RW shadow, TICK_HI, then one read behind it. -/
def State.startReplay (s : State) (i : Fin 8) : State :=
  let w := s.replayWrites i
  (s.setb (P.link i) F.LINK_STATUS_REPLAY_DONE false).setLink i fun l => { l with
    hiPend := true, regq := w ++ [.regRd l.rdTag 0x1000], replayTag := some l.rdTag, rdTag := (l.rdTag + 1) % 256 }

/-- Both directions have come up: the delay is measured anew by 256 marker exchanges (R44). -/
def State.startMarkers (s : State) (i : Fin 8) : State :=
  if (s.slate i).link.dn.up && (s.slate i).link.up.up then s.setLink i fun l => { l with mark := { active := true } } else s

/-- A direction has gone down: LINK_DOWN, alignment lost, waiting reads fail (R45, R62, R67). -/
def State.linkDown (s : State) (i : Fin 8) (dn : Bool) : State :=
  let s := (s.inc (P.link i) (if dn then F.LINK_DOWN_CNT_DN else F.LINK_DOWN_CNT_UP)).err (P.link i) E.link_LINK_DOWN
  let w := (s.slate i).link.waiting
  let s := forEach w (s.misalign i) fun r t => t.failRead i r
  s.setLink i fun l => { l with waiting := [] }

/-- A write by `q`-level software to a Slate-resident register: the shadow takes its RW bits, and it is forwarded while the
downstream direction is up. `mask`: the bits the record names (FIO_OUT, R296). -/
def State.slateRegWrite (s : State) (k : PageKind) (n a v mask : Nat) : State :=
  match slateOfPage k n with
  | none => s
  | some i =>
    let o := a % 0x1000
    let rw := if o = R.PAGE_CTRL then 0x100 else if o = R.PAGE_ERR_MASK then 0xFFFFFFFF else ((regAt k o).map (·.rw)).getD 0
    let s := if rw = 0 then s else s.setsh a (without (s.sh a) (rw &&& mask) ||| (v &&& (rw &&& mask)))
    s.forward i (recOff k n a) v mask

/-- A read of a Slate-resident register: forwarded, waiting, or failed at once (R67). `addr` keeps the full address. -/
def State.slateRegRead (s : State) (q : Nat) (k : PageKind) (n a : Nat) : State :=
  match slateOfPage k n with
  | none => s.answer q a 0
  | some i =>
    let l := (s.slate i).link
    if !(l.dn.up && l.up.up) then (s.answer q a 0).err (P.link i) E.link_RD_FAIL
    else if l.reads.length < 8 && l.waiting.isEmpty then
      s.setLink i fun l => { l with
        reads := l.reads ++ [⟨l.rdTag, a, q, s.now⟩], rdTag := (l.rdTag + 1) % 256, regq := l.regq ++ [.regRd l.rdTag (recOff k n a)] }
    else s.setLink i fun l => { l with waiting := l.waiting ++ [⟨0, a, q, 0⟩] }

/-- The oldest forwarded read has not completed 4 µs (1,250 ticks) after it was forwarded. -/
def execForwardedReadTimeout (s : Fin 8) (st : State) : Out :=
  .next (match (st.slate s).link.reads with
    | [] => st
    | r :: rest => if r.at_ + 1250 ≤ st.now then
        ((st.setLink s fun l => { l with reads := rest }).failRead s r).promoteReads s
      else st)

/-! Downstream frames. -/

/-- What Granite sends as SAFE_CMD: 1 until the release, and while FORCE_SAFE or the device safe stop holds (R64, R357). -/
def State.safeCmd (s : State) (i : Fin 8) : Bool :=
  s.flag (P.link i) F.LINK_STATUS_SAFE_CMD || s.flag (P.link i) F.LINK_CTRL_FORCE_SAFE || s.flag P.fault F.FAULT_STATUS_DSS

/-- Granite fills and sends a downstream frame at a tick that is a multiple of 64 (R56, R60). -/
def State.sendDown (s : State) (i : Fin 8) : State :=
  let l := (s.slate i).link
  if s.now % 64 ≠ 0 ∨ l.dnAt = some s.now then s
  else
    let later := l.cmpq.filter fun x => decide (s.now < x.1)
    let c := takeFit (fun (x : Nat × DnRec × Bool) => x.2.1.bytes.length) 54 (l.cmpq.filter fun x => decide (x.1 ≤ s.now))
    let o := takeFit (fun (x : DnRec) => x.bytes.length) c.2.2 l.outq
    let h := takeFit (fun (x : DnRec) => x.bytes.length) o.2.2 (if l.hiPend then [.tickHi (s.now / 2 ^ 38 % 2 ^ 26)] else [])
    let g := takeFit (fun (x : DnRec) => x.bytes.length) h.2.2 l.regq
    let body := (c.1.map (·.2.1) ++ o.1 ++ h.1 ++ g.1).flatMap DnRec.bytes
    let mk := l.mark.active && decide (l.mark.cnt < 256) && (match l.mark.sent with | none => true | some t => decide (t + 4096 ≤ s.now))
    let hdr := bytesOf 1 (0x50 + 4 * mk.toNat + (s.safeCmd i).toNat) ++ bytesOf 1 l.seqDn ++ bytesOf 4 (s.now / 64 % 2 ^ 32) ++
      bytesOf 1 (s.slate i).genA ++ bytesOf 1 (s.slate i).chopA.toNat
    let spill := (c.2.1.filter fun x => !x.2.2).length
    let s := s.setLink i fun l => { l with
      cmpq := (c.2.1.map fun x => (x.1, x.2.1, true)) ++ later, outq := o.2.1, hiPend := !h.2.1.isEmpty, regq := g.2.1
      seqDn := (l.seqDn + 1) % 256, dnWire := sealFrame hdr body, dnAt := some s.now
      mark := if mk then { l.mark with sent := some s.now } else l.mark }
    let s := s.setf (P.link i) F.LINK_SPILL_CMP (min 65535 (s.fld (P.link i) F.LINK_SPILL_CMP + spill))
    s.errIf (spill != 0) (P.link i) E.link_SPILL

def execDownstreamFrameSend (s : Fin 8) (st : State) : Out := .next (st.sendDown s)

/-- A compare set enters the shadow registers, or is discarded while the axis does not switch (R23, R81). -/
def State.compareSet (s : State) (a : Fin 64) (c : CmpSet) : State :=
  if s.permit a ∧ (s.pwm a).act then s.setPwm a fun p => { p with sets := p.sets ++ [c] } else s

/-- One downstream record at the Slate (R58, R59, R67, R291). -/
def State.applyDn (s : State) (i : Fin 8) : DnRec → State
  | .compare ax tag u v w => match fin? 8 ax with
    | some n => s.compareSet (axisOf i n) ⟨tag, u, v, w, s.stick i⟩
    | none => s
  | .outSched level target tick => s.outSched i level target tick
  | .regWr off data mask =>
    if 0x020 ≤ off ∧ off < 0x060 then match fin? 16 ((off - 0x020) / 4) with
      | some c => s.setSlate i fun x => { x with fmap := x.fmap.set c (data % 32) }
      | none => s
    else if off = auxOff 0 ∨ off = auxOff 1 then
      let j := (off - auxOff 0) / 4
      s.setSlate i fun x => { x with
        auxPol := setBits x.auxPol j 1 (data % 2)
        auxFilt := (if j = 0 then x.auxFilt.set 0 (data / 2) else x.auxFilt.set 1 (data / 2)) }
    else if off = 0xF000 then s.slateSnap i data
    else s.slateWrite i (recAddr i off) data mask
  | .regRd tag off =>
    let r := if off = 0xF004 then ((s.slate i).snapLate.toNat, s) else s.slateRead i (recAddr i off)
    let s := r.2.setLink i fun l => { l with rdq := l.rdq ++ [.regData tag off r.1 0] }
    if (s.slate i).car.replayed then
      let held := (s.slate i).car.ctrl
      let s := (s.setSlate i fun x => { x with car := { x.car with replayed := false, ctrl := none } }).applyStaged i
      match held with
      | some v => s.writeCarrierCtrl i v
      | none => s
    else s
  | .tickHi hi => s.setSlate i fun x => { x with tick := hi * 2 ^ 38 + x.tick % 2 ^ 38 }
  | .undef => (s.inc (P.link i) F.LINK_REC_BAD_SLATE).err (P.link i) E.link_REC_BAD

/-- The header of an applied downstream frame (Table 3-2). -/
def State.applyDnHeader (s : State) (i : Fin 8) (rx : FrameRx) : State :=
  let b := rx.bytes
  let s := s.setLink i fun l => { l with
    dn := { l.dn with last := (s.slate i).tick, fired := false, tmo := s.linkTmo i }
    mark := if bits (field b 0 1) 2 1 = 1 then { l.mark with arr := some rx.arrival.toNat } else l.mark }
  let s := s.alignFrame i (s.alignErr i rx.arrival (64 * field b 2 4))
  let s := s.setSlate i fun x => { x with
    gen := field b 6 1, chopEn := field b 7 1 % 2 = 1, link := { x.link with dn := { x.link.dn with last := x.tick } } }
  let s := if field b 0 1 % 2 = 1 then s.enterSafe i 3
    else if (s.slate i).safe ∧ (s.slate i).aligned then s.leaveSafe i
    else s
  (s.checkSlate i).checkChop i

/-- The downstream direction has come up: calibration after a restart (R65, R80), the replay (R67), the markers (R44). -/
def State.downUp (s : State) (i : Fin 8) : State :=
  let s := s.setSlate i fun x => if x.restart then { x with calRun := true, car := { x.car with replayed := true } } else x
  let s := s.when (s.slate i).restart fun s => s.setb (P.carrier i) F.CARRIER_STATUS_CAL_DONE false
  (s.startReplay i).startMarkers i

/-- One received downstream frame slot at the Slate (R62). -/
def State.downFrame (s : State) (i : Fin 8) (rx : FrameRx) : State :=
  if !(s.slate i).powered then s
  else
    let good := frameGood rx 5
    let seq := field rx.bytes 1 1
    let r := (s.slate i).link.dn
    let s := s.setLink i fun l => { l with dn := l.dn.take good seq }
    if !good then
      let s := (s.incs (P.link i) R.LINK_BAD_DN).err (P.link i) E.link_CRC_BAD
      if r.up && !(s.slate i).link.dn.up then s.linkDown i true else s
    else
      let s := s.when (r.gap seq) fun s => s.incs (P.link i) R.LINK_SEQ_GAP
      if !(s.slate i).link.dn.up then s
      else
        let s := if r.up then s else s.downUp i
        forEach (dnBody rx.bytes) (s.applyDnHeader i rx) fun x t => t.applyDn i x

def execDownstreamFrame (s : Fin 8) (rx : FrameRx) (st : State) : Out := .next (st.downFrame s rx)

/-- Silence at the Slate exceeds the timeout (R63): its safe state. -/
def execSlateSilenceTimeout (s : Fin 8) (st : State) : Out :=
  .next (
    let r := (st.slate s).link.dn
    if (st.slate s).powered ∧ r.ever ∧ !r.fired ∧ r.last + r.tmo < st.stick s then
      (st.setLink s fun l => { l with dn := { l.dn with fired := true } }).enterSafe s 2
    else st)

/-- SAFE_CMD is set toward a Slate until its release (R64). -/
def State.setSafeCmd (s : State) (i : Fin 8) : State := s.setb (P.link i) F.LINK_STATUS_SAFE_CMD true

/-- LINK_SILENCE_MAX (Table 3-10): silence in units of 0.1 µs (31.25 ticks). -/
def State.noteSilence (s : State) (i : Fin 8) : State :=
  let r := (s.slate i).link.up
  if r.ever then
    let q := min 65535 ((s.now - r.last) * 4 / 125)
    s.wr (P.link i + R.LINK_SILENCE_MAX) (max q (s.rd (P.link i + R.LINK_SILENCE_MAX)))
  else s

/-- Silence at Granite exceeds the timeout (R63): LINK_TIMEOUT and SAFE_CMD. -/
def execLinkTimeout (s : Fin 8) (st : State) : Out :=
  .next (
    let r := (st.slate s).link.up
    if r.ever ∧ !r.fired ∧ r.last + r.tmo < st.now then
      (((st.setLink s fun l => { l with up := { l.up with fired := true } }).noteSilence s).err (P.link s)
        E.link_LINK_TIMEOUT).setSafeCmd s
    else st)

/-- A write of LINK_CTRL.RELEASE by domain 0 (R64). -/
def execRelease (s : Fin 8) (st : State) : Out := .next (st.setb (P.link s) F.LINK_CTRL_RELEASE true)

/-- With safety enabled, both channels have agreed in 4 consecutive cycles (R330). -/
def State.safetyAgreed (s : State) : Bool :=
  !s.safety.cfg.en || (decide (4 ≤ s.safety.a.agree) && decide (4 ≤ s.safety.b.agree))

/-- Everything R64 and R330 ask for: Granite clears SAFE_CMD and RELEASE. -/
def State.releaseReady (s : State) (i : Fin 8) : Bool :=
  s.flag (P.link i) F.LINK_CTRL_RELEASE && s.linkOk i && s.flag (P.link i) F.LINK_STATUS_REPLAY_DONE &&
    s.flag P.time (F.TIME_ALIGN_ALIGNED i) && !s.flag (P.link i) F.LINK_CTRL_FORCE_SAFE && !s.flag P.fault F.FAULT_STATUS_DSS &&
    s.safetyAgreed

def execSafeCmdClear (s : Fin 8) (st : State) : Out :=
  .next (if st.releaseReady s then
      (st.setb (P.link s) F.LINK_STATUS_SAFE_CMD false).setb (P.link s) F.LINK_CTRL_RELEASE false
    else st)

/-! Upstream frames, the Slate's end. -/

/-- A Slate error is pending: an unmasked PAGE_ERR bit of a page that resides on the Slate. -/
def State.slateErrPending (s : State) (i : Fin 8) : Bool :=
  (slatePages i).any fun (_, p) => without (s.rd (p + R.PAGE_ERR)) (s.rd (p + R.PAGE_ERR_MASK)) != 0

/-- The upstream header (Table 3-3). -/
def State.upHeader (s : State) (i : Fin 8) : List Byte :=
  let x := s.slate i
  let turn := match x.link.mark.arr with
    | some t => min 0xFFFF (64 * x.tick - t)
    | none => 0xFFFF
  let trip := (axesOf i).foldl (fun n (a : Fin 64) => n + s.fld (P.pwm a) F.PWM_TRIP_STAT_LATCH * 2 ^ localOf a) 0
  let stat := (s.slateErrPending i).toNat + 2 * x.restart.toNat + 4 * x.safe.toNat + 8 * (s.gsOn i).toNat + 16 * x.sb.up.toNat
    + 32 * x.aligned.toNat + 64 * x.link.dn.up.toNat
  bytesOf 1 0xA0 ++ bytesOf 1 x.link.seqUp ++ bytesOf 2 turn ++ bytesOf 1 trip ++ bytesOf 1 stat ++ bytesOf 1 x.why ++ [0]

/-- The periodic FEEDBACK records: one axis every 8 frames, so each axis every 64 (R60, log 28). -/
def State.periodicFb (s : State) (i : Fin 8) : State :=
  let c := (s.slate i).link.sinceFb
  let s := if c % 8 = 0 then match fin? 8 (c / 8) with
      | some n => s.queueFb (axisOf i n) false
      | none => s
    else s
  s.setLink i fun l => { l with sinceFb := (c + 1) % 64 }

/-- The Slate fills and sends an upstream frame at a Slate tick that is a multiple of 64 (R56, R60). -/
def State.sendUp (s : State) (i : Fin 8) : State :=
  if !(s.slate i).powered ∨ s.stick i % 64 ≠ 0 ∨ (s.slate i).link.upAt = some (s.stick i) then s
  else
    let s := s.periodicFb i
    let l := (s.slate i).link
    let c := takeFit (fun (_ : Nat × SampleRec × Bool) => 18) 54 l.smpq
    let e := takeFit (fun (_ : EvRec) => 6) c.2.2 l.evq
    let f := takeFit (fun (_ : Unit) => 6) e.2.2 (if l.fieldPend ∨ l.sinceField ≥ 7 then [()] else [])
    let b := takeFit (fun (_ : Nat × FbRec) => 18) f.2.2 l.fbq
    let d := takeFit (fun (_ : UpRec) => 12) b.2.2 l.rdq
    let recs := c.1.map (fun x => UpRec.sample x.2.1) ++ e.1.map .event ++ f.1.map (fun _ => .field (s.fioIn i) (s.fioDiag i)) ++
      b.1.map (fun x => .feedback x.2) ++ d.1
    let w := sealFrame (s.upHeader i) (recs.flatMap UpRec.bytes)
    let spill := (c.2.1.filter fun x => !x.2.2).length
    let s := s.setLink i fun l => { l with
      smpq := c.2.1.map fun x => (x.1, x.2.1, true), evq := e.2.1, fbq := b.2.1, rdq := d.2.1
      fieldPend := l.fieldPend && f.1.isEmpty, sinceField := if f.1.isEmpty then l.sinceField + 1 else 0
      seqUp := (l.seqUp + 1) % 256, upWire := w, upAt := some (s.stick i), mark := { l.mark with arr := none } }
    let s := s.setf (P.link i) F.LINK_SPILL_SMP (min 65535 (s.fld (P.link i) F.LINK_SPILL_SMP + spill))
    s.errIf (spill != 0) (P.link i) E.link_SPILL

def execUpstreamFrameSend (s : Fin 8) (st : State) : Out := .next (st.sendUp s)

/-! Power of a Slate (R54, R65, R136). -/

/-- Registers that lie in a page of Slate i. -/
def onSlate (i : Fin 8) (a : Nat) : Bool :=
  (decide (0x201000 + 0x10000 * i.val ≤ a) && decide (a < 0x210000 + 0x10000 * i.val)) ||
    (decide (P.loop (8 * i.val) ≤ a) && decide (a < P.loop (8 * i.val + 8)) && decide (0x2000 ≤ a % 0x4000))

/-- The Slate's own state is lost: registers at reset values, Slate state as after power-up, Granite's side kept. -/
def State.slateFresh (s : State) (i : Fin 8) (on : Bool) : State :=
  let s := (s.cutCommits i).keepRegs fun a => !onSlate i a
  let s := forEach (axesOf i) s fun a t => t.setAxis a fun x => { x with pwm := {}, fb := {} }
  s.setSlate i fun x => {
    powered := on, restart := on, genA := x.genA, chopA := x.chopA, gIn := x.gIn, gDiag := x.gDiag, gAt := x.gAt, claim := x.claim
    claimCfg := x.claimCfg, claimPair := x.claimPair
    snapStash := x.snapStash, snapTick := x.snapTick, snapAns := x.snapAns
    link := { x.link with
      dn := {}, seqUp := 0, smpq := [], evq := [], fieldPend := true, sinceField := 0, fbq := [], sinceFb := 0, rdq := []
      mark := { x.link.mark with arr := none }, upAt := none, upWire := [] }
    sb := { seqF := x.sb.seqF, fSeq := x.sb.fSeq, fLast := x.sb.fLast, fUp := x.sb.fUp, pts := x.sb.pts, halls := x.sb.halls
            backs := x.sb.backs, stat := x.sb.stat, gsCmd := x.sb.gsCmd, tMask := x.sb.tMask, wireF := x.sb.wireF } }

/-- The logic supply of a fitted Slate comes up: its safe state, restart flag set. -/
def execSlatePowerUp (s : Fin 8) (st : State) : Out :=
  .next (if st.fitted s ∧ !(st.slate s).powered then st.slateFresh s true else st)

/-- The logic supply is lost: the Slate drives and sends nothing (R54, R462). -/
def execSlatePowerLoss (s : Fin 8) (st : State) : Out :=
  .next (if (st.slate s).powered then
      let was := (st.slate s).aligned
      (((st.slateFresh s false).setb P.time (F.TIME_ALIGN_ALIGNED s) false).errIf was P.time E.time_SLATE_MISALIGN)
    else st)

/-- The 256th marker echo has arrived: half the mean round trip (R44), the fraction of a tap dropped. -/
def execLinkDelayMeasured (s : Fin 8) (st : State) : Out :=
  .next (
    let m := (st.slate s).link.mark
    if m.active ∧ m.cnt = 256 then
      (st.wr (P.time + R.TIME_LDLY s) (m.sum / 512 % 2 ^ 32)).setLink s fun l => { l with mark := { l.mark with active := false, known := true } }
    else st)

/-! Sideband (R68, R69). -/

/-- A frame with its CRC. -/
def sealSide (f : List Byte) : List Byte :=
  let c := crcSide f
  f ++ bytesOf 1 (c / 256) ++ bytesOf 1 c

/-- Comma, length, type and CRC check. -/
def sbChecks (rx : SbRx) (type : Nat) : Bool :=
  rx.comma && rx.bytes.length == 16 && field rx.bytes 0 1 / 16 == type &&
    crcSide (rx.bytes.take 14) == 256 * field rx.bytes 14 1 + field rx.bytes 15 1

/-- A sequence 1 to 5 ahead modulo 16 of the last good frame's is continuous; any is, with no predecessor. -/
def seqCont (last : Option Nat) (q : Nat) : Bool := match last with
  | none => true
  | some p => let d := (q + 16 - p % 16) % 16; decide (1 ≤ d ∧ d ≤ 5)

/-- Read-back levels of the field outputs. -/
def State.readBacks (s : State) (i : Fin 8) : Nat :=
  (List.finRange 16).foldl (fun n j => n + if (s.pt i j).mode = 2 ∧ (s.pt i j).land then 2 ^ j.val else 0) 0

/-- VGD in range: no VGD lockout; VFIELD in range: no undervoltage. -/
def State.sideStat (s : State) (i : Fin 8) : Nat :=
  (s.gsOn i).toNat + 2 * (s.slate i).safe.toNat + 4 * (s.slate i).link.dn.up.toNat
    + 8 * (!s.flag (P.gate i) F.GATE_STATUS_VGD_UV).toNat + 16 * (!s.fieldUv i).toNat

/-- One end sends its frame (Table 3-7). `halls` and `pts` are the Hall bytes of R125 and the second comparators' levels. -/
def execSidebandSend (s : Fin 8) (fromFlint : Bool) (halls : BitVec 64) (pts : BitVec 16) (st : State) : Out :=
  .next (
    let b := (st.slate s).sb
    if fromFlint then
      let f := bytesOf 1 (0xC0 + b.seqF % 16) ++ bytesOf 1 (if b.gsCmd then 0xA5 else 0) ++ bytesOf 2 b.tMask ++ List.replicate 10 0
      st.setSlate s fun x => { x with sb := { x.sb with seqF := (b.seqF + 1) % 16, wireF := sealSide f } }
    else if (st.slate s).powered then
      let f := bytesOf 1 (0x30 + b.seqS % 16) ++ bytesOf 1 (st.sideStat s) ++ bytesOf 2 pts.toNat ++ bytesOf 8 halls.toNat ++
        bytesOf 2 (st.readBacks s)
      st.setSlate s fun x => { x with sb := { x.sb with seqS := (b.seqS + 1) % 16, wireS := sealSide f } }
    else st)

/-- The gate-supply line is enabled or disabled (R69): what may conduct is judged anew (R66). -/
def State.setGs (s : State) (i : Fin 8) (on : Bool) : State :=
  let s := if on && !s.gsOn i then s.setSlate i fun x => { x with gsAt := x.tick } else s
  (s.setb (P.gate i) F.GATE_STATUS_GS_ON on).checkSlate i

/-- A Flint frame at the Slate. -/
def execSidebandFrameAtSlate (s : Fin 8) (rx : SbRx) (st : State) : Out :=
  .next (
    let q := field rx.bytes 0 1 % 16
    if !(st.slate s).powered then st
    else if sbChecks rx 0xC && seqCont (st.slate s).sb.rxSeq q then
      (st.setSlate s fun x => { x with sb := { x.sb with
        rxSeq := some q, lastGood := x.tick, up := true, testMask := field rx.bytes 2 2 } }).setGs s (field rx.bytes 1 1 == 0xA5)
    else st.incs (P.link s) R.LINK_SB_BAD)

/-- No good Flint frame for 100 µs (31,250 ticks): the line is disabled and SB_DOWN set (R69). -/
def execSbDown (s : Fin 8) (st : State) : Out :=
  .next (
    let b := (st.slate s).sb
    if (st.slate s).powered ∧ b.up ∧ b.lastGood + 31250 ≤ st.stick s then
      ((st.setSlate s fun x => { x with sb := { x.sb with up := false, rxSeq := none } }).setGs s false).err (P.link s) E.link_SB_DOWN
    else st)

end Sys2Proof.Machine
end

