-- ==== Sys2Proof/Machine/Perm.lean ====
section
/-! DEFINITION. Domains: who asks, who owns what, which accesses are permitted (R385, R386, R388, R389, R391). -/
namespace Sys2Proof.Machine
open Sys2Proof

/-! Requesters (Table 17-1): engine e is e, the host port 512, the management agent 513, the queue port for domain d 514 + d,
boot code 522. -/

abbrev Req.host : Nat := 512
abbrev Req.mgmt : Nat := 513
abbrev Req.queue (d : Nat) : Nat := 514 + d
abbrev Req.boot : Nat := 522

/-- DOM_REF_INFO.REQ. -/
def reqCode (q : Nat) : Nat := if q < 512 then q else if q < 514 then 0x200 + (q - 512) else if q < 522 then 0x202 else 0x203

def State.eng (s : State) (e : Fin 512) : EngineState := s.engines[e]
def State.setEng (s : State) (e : Fin 512) (f : EngineState → EngineState) : State :=
  { s with engines := s.engines.set e (f s.engines[e]) }

/-- Nibble n of a register array. -/
def State.nibble (s : State) (base n : Nat) : Nat := bits (s.rd (base + 4 * (n / 8))) (4 * (n % 8)) 4

/-- Domain of an axis, a field point, a vector (Table 17-11). -/
def State.axisDom (s : State) (a : Nat) : Nat := s.nibble (P.dom + R.DOM_AXIS 0) a % 8
def State.pointDom (s : State) (n : Nat) : Nat := s.nibble (P.dom + R.DOM_FP 0) n % 8
def State.vecDom (s : State) (v : Nat) : Nat := s.nibble (P.dom + R.DOM_VEC 0) v % 8

/-- PAGE_OWNER of the page at `p`. -/
def State.ownerReg (s : State) (p : Nat) : Nat := s.rd (p + R.PAGE_OWNER) % 8

/-- Engine e's domain; none in SAFETY (R205). -/
def State.engDom (s : State) (e : Fin 512) : Option Nat :=
  if (s.eng e).st = .safety then none else some (s.ownerReg (P.engine e))

/-- The domain of a requester. -/
def State.reqDom (s : State) (q : Nat) : Option Nat :=
  if q < 512 then (fin? 512 q).bind s.engDom
  else if q = Req.host then some (s.fld P.dom F.DOM_HOST_DOM)
  else if q < 514 then some 0
  else if q < 522 then some (q - 514)
  else some 0

/-- The owner of a page (R386). -/
def State.pageOwner (s : State) (k : PageKind) (n : Nat) : Nat := match k with
  | .loop | .profile | .fb | .pwm | .lane => s.axisDom n
  | .engine | .handover | .trc | .tooth | .trunk => s.ownerReg (pageBase k n)
  | .rgn | .netq => n
  | _ => 0

/-- A point claimed by the safety configuration belongs to no domain (R294, R295, R331). -/
def State.claimed (s : State) (n : Nat) : Bool := match slate? (n / 16) with
  | some i => bits (s.slate i).claim (n % 16) 1 = 1
  | none => false

/-- Domain `d` may act on point n: domain 0, or the owner of an unclaimed point. -/
def State.ownsPoint (s : State) (d n : Nat) : Bool := d == 0 || (!s.claimed n && s.pointDom n == d)

/-- The points of Slate i that domain `d` owns, as a mask; domain 0 has all (R296). -/
def State.pointMask (s : State) (d : Nat) (i : Fin 8) : Nat :=
  (List.range 16).foldl (fun m j => if s.ownsPoint d (16 * i.val + j) then m + 2 ^ j else m) 0

/-- The owner of shared-memory block b of the device, 16 per grove (R185). -/
def State.shmDom (s : State) (b : Nat) : Nat :=
  let x := s.nibble (P.grove (b / 16) + R.GROVE_SHM_OWN_LO) (b % 16)
  if x / 8 = 1 then x % 8 else 0

/-- The region of domain d in the tracking table holds record r (R246); in trace memory, unit u (R366). -/
def State.inTrackRgn (s : State) (d r : Nat) : Bool :=
  let b := s.fld P.track (F.TRACK_RGN_BASE d) * 1024
  decide (b ≤ r) && decide (r < b + s.fld P.track (F.TRACK_RGN_COUNT d) * 1024)
def State.inTrcRgn (s : State) (d u : Nat) : Bool :=
  let b := s.fld P.trace (F.TRC_RGN_BASE d)
  decide (b ≤ u) && decide (u < b + s.fld P.trace (F.TRC_RGN_COUNT d))

/-- Regions of BAR0 (Tables 19-1, 19-2). -/
inductive Region where
  | page (k : PageKind) (n : Nat)
  | desc (g : Nat) | shm (g : Nat) | table_ | trace_ | engMem (e : Nat)
  | unmapped
  deriving DecidableEq, Repr

def regionAt (a : Nat) : Region :=
  if 0xC00000 ≤ a ∧ a < 0x1000000 then .shm ((a - 0xC00000) / 0x40000)
  else if 0x1000000 ≤ a ∧ a < 0x1800000 then .table_
  else if 0x1800000 ≤ a ∧ a < 0x2000000 then .trace_
  else if 0x2000000 ≤ a ∧ a < 0x4000000 then
    (if a % 0x10000 < 0xC000 then .engMem ((a - 0x2000000) / 0x10000) else .unmapped)
  else if 0x400000 ≤ a ∧ a < 0x800000 ∧ 0x2000 ≤ a % 0x40000 ∧ a % 0x40000 < 0x4000 then .desc ((a - 0x400000) / 0x40000)
  else match pageAt a with
    | some (k, n) => .page k n
    | none => .unmapped

/-- Windows and pages that BV3204 lacks: they read 0 and discard writes without a fault (R4, R5). -/
def State.absent (s : State) (a : Nat) : Bool :=
  s.dev.bv3204 &&
    (decide (0x180000 ≤ a ∧ a < 0x200000) || decide (0x240000 ≤ a ∧ a < 0x280000) || decide (0x828000 ≤ a ∧ a < 0x830000) ||
     decide (0x870000 ≤ a ∧ a < 0x890000) || decide (0x894000 ≤ a ∧ a < 0x898000))

/-- The resource an address belongs to, as far as cleaning guards it (R387). -/
def cleanRes (a : Nat) : Option Res := match regionAt a with
  | .page .loop n | .page .profile n | .page .fb n | .page .pwm n | .page .lane n => some (.axis n)
  | .page .engine e | .engMem e => some (.engine e)
  | .shm g => some (.shm (16 * g + (a - 0xC00000) % 0x40000 / 0x4000))
  | .page .trc r => some (.recorder r)
  | .trace_ => some (.trace ((a - 0x1800000) / 0x10000))
  | _ => none

/-- Addresses that time-reading domains may read (chapter 2): TIME_TICK_LO to TIME_LAT_TICK_HI. -/
def timeReadable (o : Nat) : Bool := decide (R.TIME_TICK_LO ≤ o ∧ o ≤ R.TIME_LAT_TICK_HI)

/-- The domain a graph descriptor is writable by, beside domain 0: the axis owner of each slot whose range holds it (R172). -/
def State.ownsDesc (s : State) (d g k : Nat) : Bool :=
  (List.range 4).any fun j =>
    let r := s.rd (P.loopunit g + R.LU_DESC_RANGE j)
    let f := bits r 0 7
    decide (f ≤ k ∧ k < f + bits r 16 8) && s.axisDom (4 * g + j) == d

/-- What the target's chapter grants domain `d` beyond page ownership: time reads, points (R296), channels, brake requests
(chapter 14), host-port registers (R436, R444). -/
def State.granted (s : State) (q d : Nat) (k : PageKind) (n o : Nat) (write : Bool) : Bool :=
  if !write ∧ (o = R.PAGE_ID ∨ o = R.PAGE_VER) then true
  else match k with
  | .time => !write && timeReadable o
  | .fio =>
    if o = R.FIO_OUT ∨ o = R.FIO_IN ∨ o = R.FIO_DIAG_A ∨ o = R.FIO_DIAG_B ∨ o = R.FIO_RANGE_STAT then true
    else decide (0x080 ≤ o ∧ o < 0x100) && s.ownsPoint d (16 * n + (o - 0x080) / 8)
  | .fsch =>
    if 0x100 ≤ o ∧ o < 0x300 then
      let m := s.rd (P.fsch n + R.FSCH_MAP ((o - 0x100) / 32))
      bits m 4 1 = 1 && s.ownsPoint d (16 * n + m % 16)
    else false
  | .safe => write && (o == R.SAFE_BRK_REQ_LO || o == R.SAFE_BRK_REQ_HI)
  | .host => q == Req.host && ((!write && (o == R.HOST_STATUS || o == R.HOST_ID)) || decide (0x3F0 ≤ o ∧ o < 0x800))
  | _ => false

/-- An access is permitted (R388), cleaning apart. -/
def State.permitted (s : State) (q a : Nat) (write : Bool) : Bool := match s.reqDom q with
  | none => false
  | some d => match regionAt a with
    | .page k n => d == 0 || s.pageOwner k n == d || s.granted q d k n (a % 0x1000) write
    | .desc g => d == 0 || s.ownsDesc d g (a % 0x40000 % 0x2000 / 64)
    | .shm g => d == 0 || s.shmDom (16 * g + (a - 0xC00000) % 0x40000 / 0x4000) == d
    | .table_ => !write && (d == 0 || s.inTrackRgn d ((a - 0x1000000) / 32))
    | .trace_ => !write && (d == 0 || s.inTrcRgn d ((a - 0x1800000) / 0x10000))
    | .engMem e => match fin? 512 e with
      | some e => (s.eng e).st ≠ .safety && (d == 0 || s.ownerReg (P.engine e) == d)
      | none => false
    | .unmapped => true

/-- The engine pages in SAFETY ignore every write and hide all but four registers (R205): no refusal. -/
def State.accessOk (s : State) (q a : Nat) (write : Bool) : Bool :=
  s.permitted q a write && !(match cleanRes a with | some r => s.cleaning.contains r | none => false)

/-- Domain `d` holds a fabric slot (R391). -/
def State.hasSlot (s : State) (d : Nat) : Bool :=
  (List.range 16).any fun i => s.nibble (P.dom + R.DOM_FAB_SLOT_LO) i == d

/-- A refusal is counted and recorded (R388). -/
def State.refuse (s : State) (q a : Nat) (write : Bool) : State :=
  ((s.inc P.dom F.DOM_REF_CNT_COUNT).wr (P.dom + R.DOM_REF_ADDR) a).wr (P.dom + R.DOM_REF_INFO)
    (2 ^ 31 + write.toNat * 2 ^ 24 + ((s.reqDom q).getD 0) * 2 ^ 16 + reqCode q) |>.err P.dom E.dom_REFUSED

/-- MSI-X vector v is raised by a block of domain `d` (R389, R436). -/
def State.raiseVec (s : State) (v d : Nat) : State :=
  if s.vecDom v ≠ d then s.err P.dom E.dom_VEC_REFUSED
  else if !s.flag P.host F.HOST_STATUS_MSIX_EN then s
  else if s.flag P.host F.HOST_STATUS_FMASK || s.flag P.host (F.HOST_MSIX_CTRL_MASK v) then
    s.setbit P.host (R.HOST_MSIX_PBA_LO + 4 * (v / 32)) (v % 32) true
  else s.setMsi (s.rd (P.host + R.HOST_MSIX_ADDR_HI v) * 2 ^ 32 + s.rd (P.host + R.HOST_MSIX_ADDR_LO v), s.rd (P.host + R.HOST_MSIX_DATA v))

end Sys2Proof.Machine
end

