-- ==== Sys2Proof/Machine/Ecc.lean ====
section
/-! DEFINITION. Soft errors in memory that ECC covers (R181, R366, Tables 8-12, 11-13, 16-10): what a read of a word with one does to
the registers of the block that holds the word. No command plants a soft error (log 45). -/
namespace Sys2Proof.Machine
open Sys2Proof

/-- A single-bit error is corrected and the word written back. -/
def State.eccFix (s : State) (m : Nat × Bool) : State := s.setEcc (s.ecc.filter (· ≠ m))

/-- A read meets a soft error. A corrected word is counted, with its error bit; an uncorrectable one is recorded: in shared and
trace memory by the block, in an engine's own memory by the engine (`State.memFault`), in the table by the unit that frees the
record (`State.recordUe`). -/
def State.eccMeet (s : State) (m : Nat × Bool) : State := match regionAt m.1 with
  | .shm g =>
    if m.2 then (s.wr (P.grove g + R.GROVE_SHM_UE_ADDR) ((m.1 - 0xC00000) % 0x40000 / 8 * 8 + 1)).err (P.grove g) E.grove_SHM_UE
    else ((s.eccFix m).inc (P.grove g) F.GROVE_SHM_CE_COUNT).err (P.grove g) E.grove_SHM_CE
  | .engMem e => if m.2 then s else (s.eccFix m).err (P.engine e) E.engine_MEM_CE
  | .table_ => if m.2 then s else ((s.eccFix m).inc P.track F.TRACK_CE_COUNT).err P.track E.track_REC_CE
  | .trace_ =>
    if m.2 then (s.wr (P.trace + R.TRC_UE_ADDR) (2 ^ 31 + (m.1 - 0x1800000) / 16 * 16)).err P.trace E.trace_TRC_UE
    else ((s.eccFix m).inc P.trace F.TRC_CE_COUNT).err P.trace E.trace_TRC_CE
  | _ => s

/-- ECC meets every soft error in the words that [a, a + n) touches. -/
def State.eccScan (s : State) (a n : Nat) : State := forEach (s.softIn a n) s fun m t => t.eccMeet m

end Sys2Proof.Machine
end

