-- ==== Sys2Proof/Machine/Flags.lean ====
section
/-! DEFINITION. Engine arithmetic with its flags: the register ALU, the accumulator, and the store path (R211-R213, R218). -/
namespace Sys2Proof.Machine
open Sys2Proof

/-- ST as a word (Table 9-2); LA0 and LA1 show whether a loop level is active. -/
def EngineState.stWord (x : EngineState) : Nat :=
  x.fl.z.toNat + 2 * x.fl.n.toNat + 4 * x.fl.c.toNat + 8 * x.fl.v.toNat + 16 * x.fl.e.toNat + 32 * x.fl.l.toNat + 64 * x.fl.lov.toNat
    + 128 * (decide (x.l0.lc ≠ 0)).toNat + 256 * (decide (x.l1.lc ≠ 0)).toNat

/-- The RW fields of a word written to ST. -/
def flagsOf (v : Nat) : Flags :=
  ⟨v.testBit 0, v.testBit 1, v.testBit 2, v.testBit 3, v.testBit 4, v.testBit 5, v.testBit 6⟩

/-- Mode bits (Table 9-2). -/
abbrev MD.trunc (m : BitVec 4) : Bool := m.getLsbD 0
abbrev MD.sat (m : BitVec 4) : Bool := m.getLsbD 1
abbrev MD.ovt (m : BitVec 4) : Bool := m.getLsbD 2
abbrev MD.int (m : BitVec 4) : Bool := m.getLsbD 3

/-! Register ALU (Table 9-6): the result and the new flags. -/

/-- Z and N of a result. -/
def Flags.zn (f : Flags) (r : Word) : Flags := { f with z := r == 0, n := r.msb }

/-- A signed 32-bit value lies in range. -/
def fits32 (i : Int) : Bool := -2147483648 ≤ i ∧ i ≤ 2147483647

def aluAdd (a b : Word) (f : Flags) : Word × Flags :=
  let r := a + b
  (r, { f.zn r with c := decide (a.toNat + b.toNat ≥ 2 ^ 32), v := !fits32 (a.toInt + b.toInt) })

/-- C is 1 when no borrow occurs. -/
def aluSub (a b : Word) (f : Flags) : Word × Flags :=
  let r := a - b
  (r, { f.zn r with c := decide (b.toNat ≤ a.toNat), v := !fits32 (a.toInt - b.toInt) })

/-- Saturation to the signed range; L is sticky. -/
def saturate (i : Int) (f : Flags) : Word × Flags :=
  let r := BitVec.ofInt 32 (clampI (-2147483648) 2147483647 i)
  (r, { f.zn r with v := !fits32 i, l := f.l || !fits32 i })

def aluAdds (a b : Word) (f : Flags) : Word × Flags := saturate (a.toInt + b.toInt) f
def aluSubs (a b : Word) (f : Flags) : Word × Flags := saturate (a.toInt - b.toInt) f

def aluLogic (r : Word) (f : Flags) : Word × Flags := (r, f.zn r)

/-- Shifts by `k` (0-63): C is the last bit shifted out, unchanged for 0. -/
def aluShl (a : Word) (k : Nat) (f : Flags) : Word × Flags :=
  let r := a <<< k
  (r, { f.zn r with c := if k = 0 then f.c else if k ≤ 32 then a.getLsbD (32 - k) else false })
def aluShr (a : Word) (k : Nat) (f : Flags) : Word × Flags :=
  let r := a >>> k
  (r, { f.zn r with c := if k = 0 then f.c else if k ≤ 32 then a.getLsbD (k - 1) else false })
def aluSar (a : Word) (k : Nat) (f : Flags) : Word × Flags :=
  let r := a.sshiftRight k
  (r, { f.zn r with c := if k = 0 then f.c else if k ≤ 32 then a.getLsbD (k - 1) else a.msb })

def aluMul (a b : Word) (f : Flags) : Word × Flags := aluLogic (a * b) f
def aluMin (a b : Word) (f : Flags) : Word × Flags := aluLogic (if b.toInt < a.toInt then b else a) f
def aluMax (a b : Word) (f : Flags) : Word × Flags := aluLogic (if a.toInt < b.toInt then b else a) f

/-- The most negative value keeps its value and sets V. -/
def aluNeg (a : Word) (f : Flags) : Word × Flags :=
  let r := -a
  (r, { f.zn r with v := a == 0x80000000#32 })
def aluAbs (a : Word) (f : Flags) : Word × Flags :=
  let r := if a.msb then -a else a
  (r, { f.zn r with v := a == 0x80000000#32 })

/-- Leading zeros, 0-32. -/
def clz (a : Word) : Nat := if a = 0 then 32 else 31 - a.toNat.log2
def aluClz (a : Word) (f : Flags) : Word × Flags :=
  let r := BitVec.ofNat 32 (clz a)
  (r, { f with z := r == 0 })

/-! Accumulators (R212). -/

/-- The value fits: bits [71:63] all equal, or [71:31] with INT. -/
def accFits (int : Bool) (a : BitVec 72) : Bool :=
  let i := a.toInt
  if int then -(2 ^ 31 : Int) ≤ i ∧ i < 2 ^ 31 else -(2 ^ 63 : Int) ≤ i ∧ i < 2 ^ 63

/-- An exact result written to an accumulator: wrapped, with Z, N, V, E. -/
def accWrite (int : Bool) (exact : Int) (f : Flags) : BitVec 72 × Flags :=
  let r := BitVec.ofInt 72 exact
  (r, { f with z := r == 0, n := r.msb, v := r.toInt ≠ exact, e := !accFits int r })

/-- product(ra, rb): exact, doubled while INT is 0. -/
def product (int : Bool) (a b : Word) : Int := if int then a.toInt * b.toInt else 2 * (a.toInt * b.toInt)

/-- The rounding of R213: the accumulator with its low part cleared, an exact half going to the even result. -/
def roundAcc (trunc : Bool) (a : BitVec 72) : Int :=
  let low : Nat := a.toNat % 2 ^ 32
  let base : Int := a.toInt - (low : Nat)
  if !trunc && (decide (low > 0x80000000) || (low == 0x80000000 && a.getLsbD 32)) then base + 2 ^ 32 else base

/-- The store path (R213): none where the overflow exception is raised, else the 32-bit value and whether L is set. `mulf`:
the instruction is MULF, which reads its input as the doubled product whatever INT holds. -/
def store32 (md : BitVec 4) (mulf : Bool) (a : BitVec 72) : Option (Word × Bool) :=
  let int := MD.int md && !mulf
  let r : BitVec 72 := if int then a else BitVec.ofInt 72 (roundAcc (MD.trunc md) a)
  let v : Word := if int then r.setWidth 32 else (r >>> 32).setWidth 32
  if accFits int r then some (v, false)
  else if MD.ovt md then none
  else if MD.sat md then some (if r.msb then 0x80000000#32 else 0x7FFFFFFF#32, true)
  else some (v, true)

/-- ASAT: the value, or the largest fitting value of its sign; L when changed. -/
def accSat (int : Bool) (a : BitVec 72) (f : Flags) : BitVec 72 × Flags :=
  if accFits int a then accWrite int a.toInt f
  else
    let k : Int := if int then 2 ^ 31 else 2 ^ 63
    let r := accWrite int (if a.msb then -k else k - 1) f
    (r.1, { r.2 with l := true })

end Sys2Proof.Machine
end

