-- ==== Sys2Proof/Machine/Operands.lean ====
section
/-! DEFINITION. Engine instruction words: their decoding (R214, Tables 9-3 to 9-11), pointer updates and addressing
(R215, R216), condition codes (Table 9-5). -/
namespace Sys2Proof.Machine
open Sys2Proof

/-- Register ALU operations (Table 9-6). -/
inductive AluFn where
  | mov | add | sub | adds | subs | and_ | or_ | xor | andn | shl | shr | sar | mul | mulf | min_ | max_ | abs | neg | clz | cmp
  deriving DecidableEq, Repr

/-- Immediate operations of format I (Table 9-7). -/
inductive ImmFn where
  | addi | andi | ori | xori | cmpi | shi
  deriving DecidableEq, Repr

/-- Multiply and load operations (Table 9-9). -/
inductive MulFn where
  | mac | msu | mpy | ldp
  deriving DecidableEq, Repr

/-- Accumulator operations (Table 9-10). -/
inductive AccFn where
  | aclr | amov | aadd | asub | aneg | aabs | ashl | asar | aload | aloadl | ast | asat | arnd
  deriving DecidableEq, Repr

/-- Branches (Table 9-11). -/
inductive BrFn where
  | b | br | call | callr
  deriving DecidableEq, Repr

/-- A parallel load: the destination, the pointer within its space, the code (Table 9-4). -/
structure ParLoad where
  rd : Fin 16
  ptr : Fin 4
  code : Nat
  deriving DecidableEq, Repr

/-- A decoded instruction. -/
inductive EngOp where
  | alu (f : AluFn) (rd ra rb : Fin 16)
  | imm (f : ImmFn) (rd ra : Fin 16) (v : BitVec 18)
  | movil (rd : Fin 16) (v : BitVec 16)
  | movih (rd : Fin 16) (v : BitVec 16)
  | ld (r : Fin 16) (p : Fin 8) (sz am : Nat) (off : BitVec 15)
  | st (r : Fin 16) (p : Fin 8) (sz am : Nat) (off : BitVec 15)
  | sta (a : Fin 4) (p : Fin 8) (am : Nat) (off : BitVec 15)
  | mul (f : MulFn) (a : Fin 4) (ra rb : Fin 16) (x y : ParLoad)
  | acc (f : AccFn) (ad as_ : Fin 4) (r : Fin 16) (sh : Nat)
  | movs (dir : Bool) (r : Fin 16) (sreg : Nat)
  | padd (p : Fin 8) (v : BitVec 16)
  | mdk (set : Bool) (mask : BitVec 4)
  | br (f : BrFn) (cond : Nat) (rn : Fin 16) (off : Nat)
  | loop (reg : Bool) (rn : Fin 16) (count off : Nat)
  | nop | wait | rete | brk | lpop
  deriving DecidableEq, Repr

/-! Fields of a word. -/

def f16 (w lo : Nat) : Fin 16 := ⟨bits w lo 4, Nat.mod_lt _ (by decide)⟩
def f8 (w lo : Nat) : Fin 8 := ⟨bits w lo 3, Nat.mod_lt _ (by decide)⟩
def f4 (w lo : Nat) : Fin 4 := ⟨bits w lo 2, Nat.mod_lt _ (by decide)⟩

def aluFn : Nat → Option AluFn
  | 0 => some .mov | 1 => some .add | 2 => some .sub | 3 => some .adds | 4 => some .subs | 5 => some .and_ | 6 => some .or_
  | 7 => some .xor | 8 => some .andn | 9 => some .shl | 10 => some .shr | 11 => some .sar | 12 => some .mul | 13 => some .mulf
  | 14 => some .min_ | 15 => some .max_ | 16 => some .abs | 17 => some .neg | 18 => some .clz | 19 => some .cmp | _ => none

def immFn : Nat → Option ImmFn
  | 4 => some .addi | 5 => some .andi | 6 => some .ori | 7 => some .xori | 8 => some .cmpi | 9 => some .shi | _ => none

def mulFn : Nat → Option MulFn
  | 0x20 => some .mac | 0x21 => some .msu | 0x22 => some .mpy | 0x23 => some .ldp | _ => none

def accFn : Nat → Option AccFn
  | 0 => some .aclr | 1 => some .amov | 2 => some .aadd | 3 => some .asub | 4 => some .aneg | 5 => some .aabs | 6 => some .ashl
  | 7 => some .asar | 8 => some .aload | 9 => some .aloadl | 10 => some .ast | 11 => some .asat | 12 => some .arnd | _ => none

def brFn : Nat → Option BrFn
  | 0x38 => some .b | 0x39 => some .br | 0x3A => some .call | 0x3B => some .callr | _ => none

/-- `x` where the conditions on a word hold. -/
def guardOp (c : Bool) (x : EngOp) : Option EngOp := if c then some x else none

/-- Format R: [13:6] is 0; the unused register fields are 0. -/
def decodeR (w : Nat) : Option EngOp := (aluFn (bits w 0 6)).bind fun f =>
  let rbZero := f == .mov || f == .abs || f == .neg || f == .clz
  guardOp (bits w 6 8 == 0 && (!rbZero || bits w 14 4 == 0) && (f != .cmp || bits w 22 4 == 0))
    (.alu f (f16 w 22) (f16 w 18) (f16 w 14))

def decodeI (w : Nat) : Option EngOp := (immFn (bits w 26 6)).bind fun f =>
  let ok := match f with
    | .cmpi => bits w 22 4 == 0
    | .shi => bits w 8 10 == 0 && bits w 5 1 == 0 && bits w 6 2 != 3
    | _ => true
  guardOp ok (.imm f (f16 w 22) (f16 w 18) (BitVec.ofNat 18 w))

/-- Post-modify by M takes off[14:2] = 0. -/
def amOk (w : Nat) : Bool := bits w 15 2 != 1 || bits w 2 13 == 0

def decodeM (w : Nat) : Option EngOp :=
  let ok := amOk w && (bits w 17 2 != 2 || bits w 22 1 == 0)
  if bits w 26 6 = 0x10 then guardOp ok (.ld (f16 w 22) (f8 w 19) (bits w 17 2) (bits w 15 2) (BitVec.ofNat 15 w))
  else guardOp ok (.st (f16 w 22) (f8 w 19) (bits w 17 2) (bits w 15 2) (BitVec.ofNat 15 w))

def decodeMA (w : Nat) : Option EngOp :=
  guardOp (bits w 22 2 == 0 && bits w 17 2 == 1 && amOk w) (.sta (f4 w 24) (f8 w 19) (bits w 15 2) (BitVec.ofNat 15 w))

def decodeP (w : Nat) : Option EngOp := (mulFn (bits w 26 6)).bind fun f =>
  let xm := bits w 8 2
  let ym := bits w 0 2
  guardOp ((f != .ldp || bits w 16 10 == 0) && (xm != 0 || bits w 10 6 == 0) && (ym != 0 || bits w 2 6 == 0)
      && (xm == 0 || ym == 0 || bits w 12 4 != bits w 4 4))
    (.mul f (f4 w 24) (f16 w 20) (f16 w 16) ⟨f16 w 12, f4 w 10, xm⟩ ⟨f16 w 4, f4 w 2, ym⟩)

/-- Format A: the fields that must be 0 by row of Table 9-10. -/
def decodeA (w : Nat) : Option EngOp := (accFn (bits w 0 6)).bind fun f =>
  let adz := bits w 24 2 == 0
  let asz := bits w 22 2 == 0
  let rz := bits w 18 4 == 0
  let shz := bits w 12 6 == 0
  let ok := match f with
    | .aclr => asz && rz && shz
    | .amov | .aadd | .asub | .aneg | .aabs | .asat | .arnd => rz && shz
    | .ashl | .asar => rz
    | .aload | .aloadl => asz && shz
    | .ast => adz && shz
  guardOp (ok && bits w 6 6 == 0) (.acc f (f4 w 24) (f4 w 22) (f16 w 18) (bits w 12 6))

/-- Special register codes of MOVS; the loop registers are read only. -/
def sregOk (dir : Bool) (c : Nat) : Bool :=
  decide (c ≤ 0x1B) || c == 0x20 || c == 0x21 || (!dir && decide (0x22 ≤ c ∧ c ≤ 0x27)) || (decide (0x30 ≤ c ∧ c ≤ 0x3E) && c % 4 != 3)

def decodeS (w : Nat) : Option EngOp :=
  guardOp (bits w 18 3 == 0 && bits w 0 12 == 0 && sregOk (w.testBit 21) (bits w 12 6))
    (.movs (w.testBit 21) (f16 w 22) (bits w 12 6))

def decodeB (w : Nat) : Option EngOp := (brFn (bits w 26 6)).bind fun f =>
  let rel := f == .b || f == .call
  guardOp (bits w 22 4 != 15 && bits w 12 6 == 0 && (!rel || bits w 18 4 == 0) && (rel || bits w 0 12 == 0))
    (.br f (bits w 22 4) (f16 w 18) (bits w 0 12))

def decodeL (w : Nat) : Option EngOp :=
  if w.testBit 25 then guardOp (bits w 12 9 == 0 && bits w 0 12 != 0) (.loop true (f16 w 21) 0 (bits w 0 12))
  else guardOp (bits w 0 12 != 0) (.loop false 0 (bits w 12 13) (bits w 0 12))

/-- Decoding of an instruction word; none for an undefined encoding (R214). -/
def decodeEng (w : Nat) : Option EngOp :=
  let op := bits w 26 6
  if op = 0x00 then
    if bits w 6 20 ≠ 0 then none
    else if bits w 0 6 = 0 then some .nop
    else if bits w 0 6 = 1 then some .wait
    else if bits w 0 6 = 2 then some .rete
    else if bits w 0 6 = 3 then some .brk
    else none
  else if op = 0x01 then decodeR w
  else if 0x04 ≤ op ∧ op ≤ 0x09 then decodeI w
  else if op = 0x0A then guardOp (bits w 16 6 == 0) (.movil (f16 w 22) (BitVec.ofNat 16 w))
  else if op = 0x0B then guardOp (bits w 16 6 == 0) (.movih (f16 w 22) (BitVec.ofNat 16 w))
  else if op = 0x10 ∨ op = 0x11 then decodeM w
  else if op = 0x12 then decodeMA w
  else if op = 0x18 then decodeA w
  else if 0x20 ≤ op ∧ op ≤ 0x23 then decodeP w
  else if op = 0x30 then decodeS w
  else if op = 0x31 then guardOp (bits w 22 4 == 0 && bits w 16 3 == 0) (.padd (f8 w 19) (BitVec.ofNat 16 w))
  else if op = 0x32 then guardOp (bits w 4 21 == 0) (.mdk (w.testBit 25) (BitVec.ofNat 4 w))
  else if 0x38 ≤ op ∧ op ≤ 0x3B then decodeB w
  else if op = 0x3C then decodeL w
  else if op = 0x3D then guardOp (bits w 0 26 == 0) .lpop
  else none

/-- Instructions that may not stand in a delay slot (R219): branches, mode writes, RETE. -/
def EngOp.isBranch : EngOp → Bool
  | .br .. => true
  | _ => false
def EngOp.isModeWrite : EngOp → Bool
  | .mdk .. => true
  | .movs true _ 0x21 => true
  | _ => false
def EngOp.badInSlot (o : EngOp) : Bool := o.isBranch || o.isModeWrite || o == .rete

/-! Pointers and addresses. -/

/-- update(n, m) of R215. -/
def EngineState.update (x : EngineState) (n : Fin 8) (m : Word) : Word :=
  let q := x.p[n] + m
  if x.pl[n] = 0 then q
  else if (x.pb[n] + x.pl[n]).toNat ≤ q.toNat then q - x.pl[n]
  else if q.toNat < x.pb[n].toNat then q + x.pl[n]
  else q

/-- Bytes of a size code. -/
def szBytes : Nat → Nat
  | 1 => 4 | 2 => 8 | _ => 2

/-- The address of an access and the pointer after it (R216). -/
def EngineState.address (x : EngineState) (p : Fin 8) (bytes am : Nat) (off : BitVec 15) : Word × Word :=
  match am with
  | 0 => (x.p[p], x.update p (BitVec.ofNat 32 bytes))
  | 1 => (x.p[p], x.update p x.m[f4 off.toNat 0])
  | 2 => (x.update p (off.signExtend 32), x.p[p])
  | _ => (x.p[p], x.update p (off.signExtend 32))

/-- The modifier of a parallel load code (Table 9-4): 4, or M0/M1 for X, M2/M3 for Y. -/
def EngineState.parMod (x : EngineState) (y : Bool) (code : Nat) : Word :=
  if code = 1 then 4 else x.m[f4 ((if y then 2 else 0) + (code - 2)) 0]

/-- Condition codes (Table 9-5). -/
def condHolds (f : Flags) : Nat → Bool
  | 0 => f.z | 1 => !f.z | 2 => f.c | 3 => !f.c | 4 => f.n | 5 => !f.n | 6 => f.v | 7 => !f.v
  | 8 => f.c && !f.z | 9 => !f.c || f.z | 10 => f.n == f.v | 11 => f.n != f.v | 12 => !f.z && f.n == f.v | 13 => f.z || f.n != f.v
  | _ => true

end Sys2Proof.Machine
end

