-- ==== Sys2Proof/Machine/Engine.lean ====
section
/-! DEFINITION. Engines: states and control, exceptions, watchdog, messages, the I/O page, memory targets
(08_groves_and_engines.md, R178-R209; 09_engine_instruction_set.md, R220, R222). -/
namespace Sys2Proof.Machine
open Sys2Proof

/-! States (R191). -/

/-- The code of ENG_STATUS.STATE. -/
def EngSt.code : EngSt → Nat
  | .reset => 0 | .halted => 1 | .running => 2 | .waiting => 3 | .faultHalt => 4 | .safety => 5

/-- The watchdog counts in RUNNING and WAITING (R195). -/
def EngSt.counts : EngSt → Bool
  | .running | .waiting => true
  | _ => false

/-- A change of state at tick `t`: the watchdog holds or goes on, the busy count is kept. -/
def EngineState.toSt (x : EngineState) (t : Nat) (n : EngSt) : EngineState :=
  let x := if x.st.counts && !n.counts then { x with wdLeft := x.wdLeft - 2 * (t - x.wdAt) }
    else if !x.st.counts && n.counts then { x with wdAt := t } else x
  let x := if x.st = .running && n ≠ .running then { x with busy := x.busy + (t - x.since) }
    else if x.st ≠ .running && n = .running then { x with since := t } else x
  { x with st := n }

/-- The watchdog period in half ticks: 625 to a µs. -/
def State.wdPeriod (s : State) (e : Fin 512) : Nat := 625 * s.fld (P.engine e) F.ENG_WDOG_PERIOD

/-- A kick, or a write of ENG_WDOG: the count reloads, an expiry is forgotten (R195, log 29). -/
def State.wdReload (s : State) (e : Fin 512) : State :=
  s.setEng e fun x => { x with wdLeft := s.wdPeriod e, wdAt := s.now, wdPend := false, wdOnce := false }

/-- The engine enters RESET: an access in progress is abandoned. -/
def State.engReset (s : State) (e : Fin 512) : State :=
  (s.setEng e fun x => { x.toSt s.now .reset with stall := none, rstPend := false, haltReq := false, stepping := false })
    |>.setb (P.engine e) F.ENG_CTRL_RST true

/-- A write of ENG_CTRL.RST with 1: at once, or once the posted writes have completed. -/
def State.engRst (s : State) (e : Fin 512) : State :=
  if (s.eng e).st = .safety then s
  else if (s.eng e).shw.isEmpty && (s.eng e).fbw.isEmpty then s.engReset e
  else (s.setEng e fun x => { x with rstPend := true }).setb (P.engine e) F.ENG_CTRL_RST true

def execEngRst (e : Fin 512) (s : State) : Out := .next (s.engRst e)

/-- The registers, queues and loop levels are cleared, PC takes ENG_START_PC (R191, R210). -/
def State.engRelease (s : State) (e : Fin 512) : State :=
  let s := s.setb (P.engine e) F.ENG_CTRL_RST false
  if (s.eng e).st = .reset then
    s.setEng e fun x => { st := .halted, pc := s.fld (P.engine e) F.ENG_START_PC_PC, cycBase := s.now, busy := x.busy,
                          wdLeft := s.wdPeriod e }
  else s.setEng e fun x => { x with rstPend := false }

def execEngRstRelease (e : Fin 512) (s : State) : Out :=
  .next (if (s.eng e).st = .safety then s else s.engRelease e)

/-- The engine runs from ENG_PC. -/
def State.engRun (s : State) (e : Fin 512) (step : Bool) : State :=
  s.setEng e fun x => { x.toSt s.now .running with stepping := step }

/-- The owning domain is halted (R357). -/
def State.domHalted (s : State) (d : Nat) : Bool := s.rbit P.fault R.FAULT_DOM_HALT d

/-- GO: only in HALTED, in FULL (R192), and not while the owning domain is halted (R357). -/
def State.engGo (s : State) (e : Fin 512) : State :=
  if (s.eng e).st = .halted ∧ s.stage = 3 ∧ !s.domHalted (s.ownerReg (P.engine e)) then s.engRun e false else s

def execEngGo (e : Fin 512) (s : State) : Out := .next (s.engGo e)

/-- STEP: to the next interruptible boundary. -/
def State.engStep (s : State) (e : Fin 512) : State := if (s.eng e).st = .halted then s.engRun e true else s

def execEngStep (e : Fin 512) (s : State) : Out := .next (s.engStep e)

/-! Mode writes (R222). -/

def EngineState.applyMode (x : EngineState) (w : ModeWrite) : EngineState := { x with md := x.md &&& w.keep ||| w.set }

/-- Every pending mode write applies at once, in program order (R198, R222). -/
def EngineState.applyModes (x : EngineState) : EngineState := { x.modes.foldl EngineState.applyMode x with modes := [] }

/-- The mode writes whose shadow is over apply. -/
def EngineState.settle (x : EngineState) : EngineState :=
  { (x.modes.takeWhile (·.left == 0)).foldl EngineState.applyMode x with modes := x.modes.dropWhile (·.left == 0) }

def execModeWriteTakeEffect (e : Fin 512) (s : State) : Out := .next (s.setEng e EngineState.settle)

/-- The engine halts: a pending mode write applies. -/
def EngineState.halt (x : EngineState) (t : Nat) : EngineState :=
  { x.applyModes.toSt t .halted with haltReq := false, stepping := false }

/-- HALT: at the next interruptible boundary; a stalled read completes first (R204); at once in WAITING. -/
def State.engHalt (s : State) (e : Fin 512) : State :=
  let x := s.eng e
  if x.st = .waiting ∨ (x.st = .running ∧ x.slot = none ∧ x.stall = none) then s.setEng e fun x => x.halt s.now
  else if x.st = .running then s.setEng e fun x => { x with haltReq := true }
  else s

def execEngHalt (e : Fin 512) (s : State) : Out := .next (s.engHalt e)

/-! Exceptions (R196-R203). -/

/-- The pending asynchronous exception to be taken: watchdog, call, mail (R197). -/
def State.asyncCause (s : State) (e : Fin 512) : Option Nat :=
  let x := s.eng e
  if x.wdPend then some 5
  else if !x.calls.isEmpty && s.flag (P.engine e) F.ENG_CFG_CALL_EXC then some 7
  else if !x.mails.isEmpty && s.flag (P.engine e) F.ENG_CFG_MAIL_EXC then some 8
  else none

/-- ENG_ESTAT of an exception taken now: cause, PB, LOOP_END, MODE_WAIT, SUB. -/
def EngineState.estatWord (x : EngineState) (cause sub : Nat) (sync : Bool) : Nat :=
  cause + 16 * (sync && x.slot.isSome).toNat + 32 * (sync && decide (x.l0.lc ≠ 0) && x.pc == x.l0.le).toNat
    + 64 * (!x.modes.isEmpty).toNat + 256 * sub

/-- EPC: the branch where the fault is in its delay slot (R199), else the instruction to resume at. -/
def EngineState.resumePc (x : EngineState) (sync : Bool) : Nat := match x.slot with
  | some (b, _) => if sync then b else x.pc
  | none => x.pc

/-- Taking an exception, in one place: pending mode writes apply, EPC, ESTAT, EADDR, ST, MD and the loop levels are saved,
the levels become inactive, EXL is set, and the handler at (VBASE + 2 × cause) mod 4,096 starts (R196, R198). A synchronous
exception while EXL is 1 enters FAULT_HALT instead (R203). -/
def State.exception (s : State) (e : Fin 512) (cause sub addr : Nat) (sync : Bool) : State :=
  let x := (s.eng e).settle
  let epc := x.resumePc sync
  let estat := x.estatWord cause sub sync
  if sync && x.exl then
    (s.setEng e fun _ => { x.toSt s.now .faultHalt with epc := epc, estat := estat, eaddr := addr }).err (P.engine e) E.engine_DOUBLE
  else
    let y := x.applyModes
    s.setEng e fun _ => { y with
      epc := epc
      estat := estat
      eaddr := addr
      est := y.stWord
      emd := y.md.toNat
      eloop := #v[y.l0.ls, y.l0.le, y.l0.lc, y.l1.ls, y.l1.le, y.l1.lc]
      l0 := { y.l0 with lc := 0 }
      l1 := { y.l1 with lc := 0 }
      exl := true
      slot := none
      pc := (s.fld (P.engine e) ⟨R.ENG_VBASE, 0, 12⟩ + 2 * cause) % 4096 }

/-- An arrival or a watchdog expiry wakes a waiting engine; the matching exception is taken where enabled (R201). -/
def execEngineWake (e : Fin 512) (s : State) : Out :=
  .next (
    let x := s.eng e
    if x.st = .waiting ∧ (!x.calls.isEmpty ∨ !x.mails.isEmpty ∨ x.wdPend) then
      let s := s.setEng e fun x => x.toSt s.now .running
      match s.asyncCause e with
      | some c => if x.exl then s else s.exception e c 0 0 false
      | none => s
    else s)

/-- An engine has met an uncorrectable word on a fetch or load: it enters FAULT_HALT before the instruction writes anything (R181). -/
def State.memFault (s : State) (e : Fin 512) : State :=
  (s.setEng e fun x => { x.toSt s.now .faultHalt with stall := none }).err (P.engine e) E.engine_MEM_UE

/-- Where the instruction at PC stands in BAR0, and its word. -/
def State.fetchAddr (s : State) (e : Fin 512) : Nat := 0x2000000 + 0x10000 * e.val + 4 * (s.eng e).pc
def State.fetch (s : State) (e : Fin 512) : Nat := s.load (s.fetchAddr e) 4
/-- The instruction at PC cannot be read (R181). -/
def State.badFetch (s : State) (e : Fin 512) : Bool := s.uncorrectable (s.fetchAddr e) 4

/-- The instruction at PC matches ENG_BRK (R194). -/
def State.brkMatch (s : State) (e : Fin 512) : Bool :=
  let x := s.eng e
  let hit (o : Nat) : Bool := s.rbit (P.engine e) o 31 && bits (s.rd (P.engine e + o)) 0 12 == x.pc
  (hit R.ENG_BRK0 || hit R.ENG_BRK1) && x.brkSkip != some x.pc

/-- The engine is at a point where its next instruction would start: RUNNING, no read stalled. -/
def EngineState.ready (x : EngineState) : Bool := x.st == .running && x.stall.isNone

/-- Something comes before the next instruction at an interruptible boundary: a HALT request, an asynchronous exception. -/
def State.preempted (s : State) (e : Fin 512) : Bool :=
  let x := s.eng e
  x.slot.isNone && (x.haltReq || (!x.exl && (s.asyncCause e).isSome))

/-- Placement errors (Table 8-8): in a delay slot, and at the last instruction of an active loop level. -/
def EngineState.misplaced (x : EngineState) (o : EngOp) : Bool :=
  (x.slot.isSome && o.badInSlot) ||
    ((o.isBranch || x.slot.isSome) &&
      ((x.l0.lc != 0 && x.pc == x.l0.le) || (x.l1.lc != 0 && x.pc == x.l1.le)))

/-- The illegal opcode sub-code of the next instruction, if it is illegal: undefined, placement, RETE outside a handler. -/
def State.illegal (s : State) (e : Fin 512) : Option Nat :=
  let x := s.eng e
  match decodeEng (s.fetch e) with
  | none => some 0
  | some o => if x.misplaced o then some 1 else if o = .rete && !x.exl then some 2 else none

/-- EXCEPTION_ENTRY: the pending asynchronous exception at an interruptible boundary, else the illegal opcode exception of
the next instruction. The exceptions of an instruction's operands are taken by its own command, the match of ENG_BRK by
BREAKPOINT_MATCH, all through `State.exception` (log 30). -/
def execExceptionEntry (e : Fin 512) (s : State) : Out :=
  .next (
    let x := s.eng e
    if !x.ready then s
    else if x.slot = none ∧ x.haltReq then s
    else if x.slot.isNone && !x.exl && (s.asyncCause e).isSome then
      match s.asyncCause e with
      | some c => s.exception e c 0 0 false
      | none => s
    else if s.brkMatch e then s
    else if s.badFetch e then s.memFault e
    else match (s.setEng e EngineState.settle).illegal e with
      | some sub => s.exception e 1 sub 0 true
      | none => s)

/-- BREAKPOINT_MATCH: halt before the instruction, the breakpoint exception, or, for a delay slot with BRK_HALT, a deferred
halt (R194, Table 8-9). An uncorrectable word there comes before the exception. -/
def execBreakpointMatch (e : Fin 512) (s : State) : Out :=
  .next (
    let x := s.eng e
    if !x.ready || s.preempted e || !s.brkMatch e then s
    else if s.flag (P.engine e) F.ENG_CFG_BRK_HALT then
      if x.slot.isSome then s.setEng e fun x => { x with haltReq := true, brkSkip := some x.pc }
      else s.setEng e fun x => { x.halt s.now with brkSkip := some x.pc }
    else if s.badFetch e then s.memFault e
    else s.exception e 6 0 0 true)

/-- The watchdog count has run out: first expiry pending, second FAULT_HALT (R195). -/
def execEngWdogExpiry (e : Fin 512) (s : State) : Out :=
  .next (
    let x := s.eng e
    if s.wdPeriod e = 0 ∨ !x.st.counts ∨ 2 * (s.now - x.wdAt) < x.wdLeft then s
    else if x.wdOnce then (s.setEng e fun x => x.toSt s.now .faultHalt).err (P.engine e) E.engine_WDOG
    else s.setEng e fun x => { x with wdLeft := s.wdPeriod e, wdAt := s.now, wdPend := true, wdOnce := true })

/-! Completion of an instruction (R219, R220). -/

/-- The loop-back after the instruction at `a`: the next PC and the loop levels. -/
def loopBack : Nat → Nat → LoopLevel → LoopLevel → Nat × LoopLevel × LoopLevel
  | 0, a, l0, l1 => ((a + 1) % 4096, l0, l1)
  | n + 1, a, l0, l1 =>
    if l0.lc ≠ 0 ∧ a = l0.le then
      if l0.lc > 1 then (l0.ls, { l0 with lc := l0.lc - 1 }, l1)
      else loopBack n a l1 { l1 with lc := 0 }
    else ((a + 1) % 4096, l0, l1)

/-- The end of every instruction: mode shadows shorten, a passed breakpoint is forgotten, and a HALT request or a STEP ends at
an interruptible boundary. -/
def EngineState.retire (x : EngineState) (t : Nat) : EngineState :=
  let x := { x with modes := x.modes.map fun w => { w with left := w.left - 1 }, brkSkip := none }
  if x.slot.isNone && (x.haltReq || x.stepping) then x.halt t else x

/-- Completion of an instruction other than a branch, RETE or LOOP. -/
def EngineState.advance (x : EngineState) : EngineState := match x.slot with
  | some (_, t) => { x with pc := t, slot := none }
  | none =>
    let r := loopBack 3 x.pc x.l0 x.l1
    { x with pc := r.1, l0 := r.2.1, l1 := r.2.2 }

/-! Messages (R187-R190). -/

/-- A call record enters a CALL queue, or is dropped (Table 8-4). -/
def State.pushCall (s : State) (e : Fin 512) (w : List Word) : State :=
  if (s.eng e).st = .safety then s
  else if (s.eng e).calls.length ≥ 8 then (s.inc (P.engine e) F.ENG_CALL_DROP_COUNT).err (P.engine e) E.engine_CALL_DROP
  else s.setEng e fun x => { x with calls := x.calls ++ [⟨w, 0, false⟩] }

/-- Mail enters a MAIL queue; false where it is full or accepts nothing. -/
def State.pushMail (s : State) (e : Fin 512) (m : Msg) : Bool × State :=
  if (s.eng e).st = .safety ∨ (s.eng e).mails.length ≥ 8 then (false, s)
  else (true, s.setEng e fun x => { x with mails := x.mails ++ [m] })

/-- The HMAIL vector of R190. -/
def State.hmailVec (s : State) (e : Fin 512) : State :=
  if s.flag (P.engine e) F.ENG_HMAIL_VEC_EN && !(s.eng e).hmails.isEmpty then
    s.raiseVec (s.fld (P.engine e) F.ENG_HMAIL_VEC_VEC) (s.ownerReg (P.engine e))
  else s

/-- Words 0 to `len` of the compose buffer. -/
def EngineState.outWords (x : EngineState) (len : Nat) : List Word := x.out.toList.take (len + 1)

/-- REFUSED of the last IO_SEND (R189). -/
def State.setRefused (s : State) (e : Fin 512) (b : Bool) : State := s.setEng e fun x => { x with refused := b }

/-- Send kind 0b00: a five-word reply to the grove's loop unit. -/
def State.sendReply (s : State) (e : Fin 512) (len : Nat) : State :=
  if len ≠ 4 then s.setRefused e true
  else (s.setRefused e false).setReplies (s.replies ++ [(e.val / 32, (s.eng e).outWords 4)])

/-- Send kind 0b01: mail to local engine `t` of the same grove, of the sender's domain unless that is 0. -/
def State.sendMail (s : State) (e : Fin 512) (t : Fin 32) (len : Nat) : State :=
  let q : Fin 512 := ⟨32 * (e.val / 32) + t.val, by omega⟩
  let ok := s.engDom e = some 0 ∨ ((s.engDom e).isSome ∧ s.engDom e = s.engDom q)
  let r := s.pushMail q ⟨(s.eng e).outWords len, e.val % 32, false⟩
  if ok ∧ r.1 then r.2.setRefused e false else s.setRefused e true

/-- Send kind 0b10: mail to the host. -/
def State.sendHostMail (s : State) (e : Fin 512) (len : Nat) : State :=
  if (s.eng e).hmails.length ≥ 4 then s.setRefused e true
  else
    let was := (s.eng e).hmails.isEmpty
    let s := s.setEng e fun x => { x with hmails := x.hmails ++ [x.outWords len], refused := false }
    s.when was fun s => s.hmailVec e

/-- IO_SEND. -/
def State.ioSend (s : State) (e : Fin 512) (v : Nat) : State :=
  match bits v 30 2 with
  | 0 => s.sendReply e (bits v 0 4)
  | 1 => s.sendMail e ⟨bits v 16 5, Nat.mod_lt _ (by decide)⟩ (bits v 0 4)
  | 2 => s.sendHostMail e (bits v 0 4)
  | _ => s.setRefused e true

/-- The engine executes: accesses to its I/O page come from its own instructions. -/
def State.engOn (s : State) (e : Fin 512) : Bool := (s.eng e).st == .running

def execSendReply (e : Fin 512) (len : Fin 16) (s : State) : Out := .next (if s.engOn e then s.sendReply e len else s)
def execSendMail (e : Fin 512) (t : Fin 32) (len : Fin 16) (s : State) : Out :=
  .next (if s.engOn e then s.sendMail e t len else s)
def execSendHostMail (e : Fin 512) (len : Fin 16) (s : State) : Out := .next (if s.engOn e then s.sendHostMail e len else s)

def State.callPop (s : State) (e : Fin 512) : State := s.setEng e fun x => { x with calls := x.calls.drop 1 }
def State.mailPop (s : State) (e : Fin 512) : State := s.setEng e fun x => { x with mails := x.mails.drop 1 }

def execIoCallPop (e : Fin 512) (s : State) : Out := .next (if s.engOn e then s.callPop e else s)
def execIoMailPop (e : Fin 512) (s : State) : Out := .next (if s.engOn e then s.mailPop e else s)
def execIoWdogKick (e : Fin 512) (s : State) : Out := .next (if s.engOn e then s.wdReload e else s)

/-- ENG_MAIL_SEND: a host mail-in; REFUSED shows how the last one ended (R190, log 31). -/
def State.mailIn (s : State) (e : Fin 512) (len : Nat) : State :=
  let w := (List.range (len + 1)).map fun i => s.reg (P.engine e + R.ENG_MAIL_W i)
  let r := s.pushMail e ⟨w, 0, true⟩
  r.2.setb (P.engine e) F.ENG_MAIL_STAT_REFUSED (!r.1)

def execEngMailSend (e : Fin 512) (len : Fin 16) (s : State) : Out :=
  .next (if (s.eng e).st = .safety then s else s.mailIn e len)

/-- ENG_HMAIL_POP: the vector again while messages are left. -/
def State.hmailPop (s : State) (e : Fin 512) : State :=
  if (s.eng e).hmails.isEmpty then s else (s.setEng e fun x => { x with hmails := x.hmails.drop 1 }).hmailVec e

def execEngHmailPop (e : Fin 512) (s : State) : Out := .next (s.hmailPop e)

/-! Debug access (R193). -/

/-- A part of an accumulator: 0 the guard bits, 1 the high part, 2 the low part. -/
def accPart (a : BitVec 72) : Nat → Nat
  | 0 => a.toNat / 2 ^ 64 | 1 => a.toNat / 2 ^ 32 % 2 ^ 32 | _ => a.toNat % 2 ^ 32
def setAccPart (a : BitVec 72) (j v : Nat) : BitVec 72 :=
  BitVec.ofNat 72 (match j with
    | 0 => setBits a.toNat 64 8 v | 1 => setBits a.toNat 32 32 v | _ => setBits a.toNat 0 32 v)

/-- Loop registers in the order LS, LE, LC. -/
def LoopLevel.part (l : LoopLevel) : Nat → Nat
  | 0 => l.ls | 1 => l.le | _ => l.lc
def LoopLevel.setPart (l : LoopLevel) (j v : Nat) : LoopLevel := match j with
  | 0 => { l with ls := v % 4096 } | 1 => { l with le := v % 4096 } | _ => { l with lc := v % 65536 }

/-- The register that ENG_DBG_SEL selects (Table 8-7). -/
def EngineState.dbgRead (x : EngineState) (c : Nat) : Nat :=
  if c < 0x10 then x.d[f16 c 0].toNat
  else if c < 0x1C then accPart x.a[f4 ((c - 0x10) / 3) 0] ((c - 0x10) % 3)
  else if c < 0x20 then 0
  else if c < 0x28 then x.p[f8 c 0].toNat
  else if c < 0x30 then x.pb[f8 c 0].toNat
  else if c < 0x38 then x.pl[f8 c 0].toNat
  else if c < 0x3C then x.m[f4 c 0].toNat
  else if c = 0x40 then x.stWord
  else if c = 0x41 then x.applyModes.md.toNat
  else if c = 0x42 then x.pc
  else if 0x43 ≤ c ∧ c ≤ 0x45 then x.l0.part (c - 0x43)
  else if 0x46 ≤ c ∧ c ≤ 0x48 then x.l1.part (c - 0x46)
  else 0

def EngineState.dbgWrite (x : EngineState) (c v : Nat) : EngineState :=
  let w := BitVec.ofNat 32 v
  if c < 0x10 then { x with d := x.d.set (f16 c 0) w }
  else if c < 0x1C then
    { x with a := x.a.set (f4 ((c - 0x10) / 3) 0) (setAccPart x.a[f4 ((c - 0x10) / 3) 0] ((c - 0x10) % 3) v) }
  else if c < 0x20 then x
  else if c < 0x28 then { x with p := x.p.set (f8 c 0) w }
  else if c < 0x30 then { x with pb := x.pb.set (f8 c 0) w }
  else if c < 0x38 then { x with pl := x.pl.set (f8 c 0) w }
  else if c < 0x3C then { x with m := x.m.set (f4 c 0) w }
  else if c = 0x40 then { x with fl := flagsOf v }
  else if c = 0x41 then { x with md := BitVec.ofNat 4 v, modes := [] }
  else if c = 0x42 then { x with pc := v % 4096 }
  else if 0x43 ≤ c ∧ c ≤ 0x45 then { x with l0 := x.l0.setPart (c - 0x43) v }
  else if 0x46 ≤ c ∧ c ≤ 0x48 then { x with l1 := x.l1.setPart (c - 0x46) v }
  else x

def State.dbgSel (s : State) (e : Fin 512) : Nat := bits (s.rd (P.engine e + R.ENG_DBG_SEL)) 0 8

def State.engDbg (s : State) (e : Fin 512) (v : Nat) : State :=
  if (s.eng e).st = .halted then s.setEng e fun x => x.dbgWrite (s.dbgSel e) v else s

def execEngDbgDataWrite (e : Fin 512) (v : Word) (s : State) : Out := .next (s.engDbg e v.toNat)

/-- ENG_PC: writable in HALTED only; clears the pending-branch bit. -/
def State.setEngPc (s : State) (e : Fin 512) (v : Nat) : State :=
  if (s.eng e).st = .halted then
    s.setEng e fun x => { x with pc := v % 4096, slot := none, estat := setBits x.estat 4 1 0 }
  else s

def execEngPcWrite (e : Fin 512) (v : BitVec 12) (s : State) : Out := .next (s.setEngPc e v.toNat)

/-! The engine I/O page (Table 8-16). -/

/-- Cycles of 1.0 GHz in `t` ticks of 3.2 ns. -/
def cyclesOf (t : Nat) : Nat := t * 16 / 5

/-- Head of a receive queue as its STAT register shows it. -/
def queueStat (q : List Msg) : Nat := match q with
  | [] => 0
  | m :: _ => q.length * 2 ^ 28 + m.host.toNat * 2 ^ 24 + m.sender * 2 ^ 16 + 2 ^ 8 + (m.words.length - 1)

/-- Word i of the head message; 0 beyond it. -/
def queueWord (q : List Msg) (i : Nat) : Nat := match q with
  | [] => 0
  | m :: _ => (m.words.getD i 0).toNat

/-- A read of the I/O page. -/
def State.ioView (s : State) (e : Fin 512) (o : Nat) : Nat :=
  let x := s.eng e
  if o % 4 ≠ 0 then 0
  else if o < 0x040 then queueWord x.calls (o / 4)
  else if o = 0x040 then queueStat x.calls
  else if 0x080 ≤ o ∧ o < 0x0C0 then queueWord x.mails ((o - 0x080) / 4)
  else if o = 0x0C0 then queueStat x.mails
  else if 0x100 ≤ o ∧ o < 0x140 then x.out[f16 ((o - 0x100) / 4) 0].toNat
  else if o = 0x144 then x.refused.toNat
  else if o = 0x180 then x.epc
  else if o = 0x184 then x.estat
  else if o = 0x188 then x.eaddr
  else if o = 0x18C then x.est
  else if o = 0x190 then x.emd
  else if 0x1A0 ≤ o ∧ o < 0x1B8 then x.eloop.toList.getD ((o - 0x1A0) / 4) 0
  else if o = 0x1C0 then s.rd (P.engine e + R.ENG_CFG)
  else if o = 0x1C8 then s.now % 2 ^ 32
  else if o = 0x1CC then cyclesOf (s.now - x.cycBase) % 2 ^ 32
  else if o = 0x1D0 then x.cycHi
  else if o = 0x1D4 then s.ownerReg (P.engine e) * 2 ^ 24 + e.val / 32 * 2 ^ 16 + e.val
  else 0

/-- A read of IO_CYCLE_LO latches IO_CYCLE_HI. -/
def State.latchCycle (s : State) (e : Fin 512) : State :=
  s.setEng e fun x => { x with cycHi := cyclesOf (s.now - x.cycBase) / 2 ^ 32 % 2 ^ 32 }

def State.ioRead (s : State) (e : Fin 512) (o : Nat) : Nat × State :=
  (s.ioView e o, if o = 0x1CC then s.latchCycle e else s)

def execIoCycleLoRead (e : Fin 512) (s : State) : Out := .next (if s.engOn e then s.latchCycle e else s)

/-- A write to the I/O page. -/
def State.ioWrite (s : State) (e : Fin 512) (o v : Nat) : State :=
  if o % 4 ≠ 0 then s
  else if o = 0x044 then s.callPop e
  else if o = 0x0C4 then s.mailPop e
  else if 0x100 ≤ o ∧ o < 0x140 then s.setEng e fun x => { x with out := x.out.set (f16 ((o - 0x100) / 4) 0) (BitVec.ofNat 32 v) }
  else if o = 0x140 then s.ioSend e v
  else if o = 0x180 then s.setEng e fun x => { x with epc := v % 4096, estat := setBits x.estat 4 1 0 }
  else if o = 0x18C then s.setEng e fun x => { x with est := setBits x.est 0 7 v }
  else if o = 0x190 then s.setEng e fun x => { x with emd := v % 16 }
  else if 0x1A0 ≤ o ∧ o < 0x1B8 then
    let j := (o - 0x1A0) / 4
    s.setEng e fun x => { x with eloop := Vector.ofFn fun k => if k.val = j then v % (if j % 3 = 2 then 65536 else 4096) else x.eloop[k] }
  else if o = 0x1C0 then s.wr (P.engine e + R.ENG_CFG) (v &&& 0x206)
  else if o = 0x1C4 then s.wdReload e
  else s

/-! Memory (R178-R180, R185). -/

/-- The external port: a BAR0 write to an engine memory; IMEM only in RESET and HALTED. -/
def State.engMemWrite (s : State) (e : Fin 512) (a n v : Nat) : State :=
  if a % 0x10000 < 0x4000 ∧ (s.eng e).st ≠ .reset ∧ (s.eng e).st ≠ .halted then s.err (P.engine e) E.engine_IMEM_WP
  else s.store a n v

/-- EXTERNAL_MEMORY_WRITE by requester `q`: an aligned access of 2^`sz` bytes into an engine memory, checked under R388. -/
def execExternalMemoryWrite (q : Fin 514) (addr : BitVec 26) (sz : Fin 4) (v : BitVec 64) (s : State) : Out :=
  .next (match regionAt addr.toNat with
    | .engMem e => match fin? 512 e with
      | some e =>
        if addr.toNat % 2 ^ sz.val ≠ 0 then s
        else if s.accessOk q.val addr.toNat true then s.engMemWrite e addr.toNat (2 ^ sz.val) v.toNat
        else s.refuse q.val addr.toNat true
      | none => s
    | _ => s)

/-- What an engine access reaches (Table 8-2). -/
inductive Target where
  | own (a : Nat) | shm (a : Nat) | io (o : Nat) | fabric (a : Nat)
  deriving DecidableEq, Repr

/-- The target of an access of `n` bytes, or the cause and sub-code of its exception: misalignment (R179) before domain
protection (R196). -/
def State.target (s : State) (e : Fin 512) (y : Bool) (a n : Nat) (write : Bool) : Except (Nat × Nat) Target :=
  let base := 0x2000000 + 0x10000 * e.val
  if a % n ≠ 0 then .error (3, 0)
  else if a < 0x4000 then .ok (.own (base + (if y then 0x8000 else 0x4000) + a))
  else if y then .error (2, 0)
  else if 0x40000 ≤ a ∧ a < 0x80000 then
    let b := 16 * (e.val / 32) + (a - 0x40000) / 0x4000
    let d := s.engDom e
    if n = 2 then .error (3, 0)
    else if (d = some 0 ∨ d = some (s.shmDom b)) ∧ !s.cleaning.contains (.shm b) then
      .ok (.shm (0xC00000 + 0x40000 * (e.val / 32) + (a - 0x40000)))
    else .error (2, 1)
  else if 0x80000 ≤ a ∧ a < 0x81000 then (if n = 4 then .ok (.io (a - 0x80000)) else .error (3, 0))
  else if 0x10000000 ≤ a ∧ a < 0x14000000 then
    let o := a - 0x10000000
    if n ≠ 4 then .error (3, 0)
    else if s.accessOk e.val o write && (match s.engDom e with | some d => s.hasSlot d | none => false) then .ok (.fabric o)
    else .error (2, 2)
  else .error (2, 0)

end Sys2Proof.Machine
end

