-- ==== Sys2Proof/Machine/Isa.lean ====
section
/-! DEFINITION. The engine's instructions (09_engine_instruction_set.md, R210-R222). A row's command is: the engine executes
its next instruction, where that is one of the row's; in every other case nothing happens (log 32). -/
namespace Sys2Proof.Machine
open Sys2Proof

/-- What an instruction does: completes, raises a synchronous exception, stalls on a read of shared memory or the fabric, or
waits because the posted writes of its target are all outstanding (R182), or meets an uncorrectable word (R181). -/
inductive Eff where
  | done (s : State)
  | fault (cause sub addr : Nat) (write : Bool)
  | stall (r : Stall) (s : State)
  | retry
  | ue

/-- The outcome of an instruction; a refused fabric access is recorded (R388). -/
def Eff.apply (s t : State) (e : Fin 512) : Eff → State
  | .done u => u
  | .fault c sub a w => (if c = 2 ∧ sub = 2 then t.refuse e.val (a - 0x10000000) w else t).exception e c sub a true
  | .stall r u => u.setEng e fun x => { x with stall := some r }
  | .retry => s
  | .ue => t.memFault e

/-- The engine executes the instruction at PC, where `pick` has a meaning for it and nothing comes before it (R197). A word that cannot be read is no row's: every row's command then enters FAULT_HALT. -/
def State.runOp (s : State) (e : Fin 512) (pick : EngOp → Option (State → Eff)) : State :=
  if !(s.eng e).ready || s.preempted e || s.brkMatch e then s
  else if s.badFetch e then s.memFault e
  else
    let t := (s.eccScan (s.fetchAddr e) 4).setEng e EngineState.settle
    match decodeEng (t.fetch e) with
    | none => s
    | some o => match pick o with
      | none => s
      | some act => match t.illegal e with
        | some sub => t.exception e 1 sub 0 true
        | none => (act t).apply s t e

/-- An instruction that changes the engine alone and completes. -/
def complete (e : Fin 512) (f : EngineState → EngineState) (s : State) : Eff :=
  .done (s.setEng e fun x => (f x).advance.retire s.now)

/-! Register ALU and immediates (Tables 9-6, 9-7). -/

/-- rd = f(ra, rb), with its flags. -/
def aluRow (e : Fin 512) (rd ra rb : Fin 16) (f : Word → Word → Flags → Word × Flags) : State → Eff :=
  complete e fun x =>
    let r := f x.d[ra] x.d[rb] x.fl
    { x with d := x.d.set rd r.1, fl := r.2 }

/-- rd = f(ra, immediate). -/
def immRow (e : Fin 512) (rd ra : Fin 16) (v : Word) (f : Word → Word → Flags → Word × Flags) : State → Eff :=
  complete e fun x =>
    let r := f x.d[ra] v x.fl
    { x with d := x.d.set rd r.1, fl := r.2 }

/-- The flags alone. -/
def flagRow (e : Fin 512) (f : EngineState → Flags) : State → Eff := complete e fun x => { x with fl := f x }

def execMov (e : Fin 512) (s : State) : Out := .next (s.runOp e fun
  | .alu .mov rd ra rb => some (aluRow e rd ra rb fun a _ => aluLogic a)
  | _ => none)
def execAdd (e : Fin 512) (s : State) : Out := .next (s.runOp e fun
  | .alu .add rd ra rb => some (aluRow e rd ra rb aluAdd)
  | _ => none)
def execSub (e : Fin 512) (s : State) : Out := .next (s.runOp e fun
  | .alu .sub rd ra rb => some (aluRow e rd ra rb aluSub)
  | _ => none)
def execAdds (e : Fin 512) (s : State) : Out := .next (s.runOp e fun
  | .alu .adds rd ra rb => some (aluRow e rd ra rb aluAdds)
  | _ => none)
def execSubs (e : Fin 512) (s : State) : Out := .next (s.runOp e fun
  | .alu .subs rd ra rb => some (aluRow e rd ra rb aluSubs)
  | _ => none)
def execAndOp (e : Fin 512) (s : State) : Out := .next (s.runOp e fun
  | .alu .and_ rd ra rb => some (aluRow e rd ra rb fun a b => aluLogic (a &&& b))
  | _ => none)
def execOrOp (e : Fin 512) (s : State) : Out := .next (s.runOp e fun
  | .alu .or_ rd ra rb => some (aluRow e rd ra rb fun a b => aluLogic (a ||| b))
  | _ => none)
def execXor (e : Fin 512) (s : State) : Out := .next (s.runOp e fun
  | .alu .xor rd ra rb => some (aluRow e rd ra rb fun a b => aluLogic (a ^^^ b))
  | _ => none)
def execAndn (e : Fin 512) (s : State) : Out := .next (s.runOp e fun
  | .alu .andn rd ra rb => some (aluRow e rd ra rb fun a b => aluLogic (a &&& ~~~b))
  | _ => none)
def execShl (e : Fin 512) (s : State) : Out := .next (s.runOp e fun
  | .alu .shl rd ra rb => some (aluRow e rd ra rb fun a b => aluShl a (b.toNat % 64))
  | _ => none)
def execShr (e : Fin 512) (s : State) : Out := .next (s.runOp e fun
  | .alu .shr rd ra rb => some (aluRow e rd ra rb fun a b => aluShr a (b.toNat % 64))
  | _ => none)
def execSar (e : Fin 512) (s : State) : Out := .next (s.runOp e fun
  | .alu .sar rd ra rb => some (aluRow e rd ra rb fun a b => aluSar a (b.toNat % 64))
  | _ => none)
def execMul (e : Fin 512) (s : State) : Out := .next (s.runOp e fun
  | .alu .mul rd ra rb => some (aluRow e rd ra rb aluMul)
  | _ => none)

/-- A 32-bit result of the store path into a data register: Z and N of it, L; or the overflow exception. -/
def storeReg (e : Fin 512) (rd : Fin 16) (r : Option (Word × Bool)) : State → Eff := match r with
  | none => fun _ => .fault 4 0 0 false
  | some (v, l) => complete e fun x => { x with d := x.d.set rd v, fl := { x.fl.zn v with l := x.fl.l || l } }

def execMulf (e : Fin 512) (s : State) : Out := .next (s.runOp e fun
  | .alu .mulf rd ra rb => some fun t =>
    let x := t.eng e
    storeReg e rd (store32 x.md true (BitVec.ofInt 72 (2 * (x.d[ra].toInt * x.d[rb].toInt)))) t
  | _ => none)
def execMinOp (e : Fin 512) (s : State) : Out := .next (s.runOp e fun
  | .alu .min_ rd ra rb => some (aluRow e rd ra rb aluMin)
  | _ => none)
def execMaxOp (e : Fin 512) (s : State) : Out := .next (s.runOp e fun
  | .alu .max_ rd ra rb => some (aluRow e rd ra rb aluMax)
  | _ => none)
def execAbs (e : Fin 512) (s : State) : Out := .next (s.runOp e fun
  | .alu .abs rd ra rb => some (aluRow e rd ra rb fun a _ => aluAbs a)
  | _ => none)
def execNeg (e : Fin 512) (s : State) : Out := .next (s.runOp e fun
  | .alu .neg rd ra rb => some (aluRow e rd ra rb fun a _ => aluNeg a)
  | _ => none)
def execClz (e : Fin 512) (s : State) : Out := .next (s.runOp e fun
  | .alu .clz rd ra rb => some (aluRow e rd ra rb fun a _ => aluClz a)
  | _ => none)
def execCmp (e : Fin 512) (s : State) : Out := .next (s.runOp e fun
  | .alu .cmp _ ra rb => some (flagRow e fun x => (aluSub x.d[ra] x.d[rb] x.fl).2)
  | _ => none)
def execAddi (e : Fin 512) (s : State) : Out := .next (s.runOp e fun
  | .imm .addi rd ra v => some (immRow e rd ra (v.signExtend 32) aluAdd)
  | _ => none)
def execAndi (e : Fin 512) (s : State) : Out := .next (s.runOp e fun
  | .imm .andi rd ra v => some (immRow e rd ra (v.setWidth 32) fun a b => aluLogic (a &&& b))
  | _ => none)
def execOri (e : Fin 512) (s : State) : Out := .next (s.runOp e fun
  | .imm .ori rd ra v => some (immRow e rd ra (v.setWidth 32) fun a b => aluLogic (a ||| b))
  | _ => none)
def execXori (e : Fin 512) (s : State) : Out := .next (s.runOp e fun
  | .imm .xori rd ra v => some (immRow e rd ra (v.setWidth 32) fun a b => aluLogic (a ^^^ b))
  | _ => none)
def execCmpi (e : Fin 512) (s : State) : Out := .next (s.runOp e fun
  | .imm .cmpi _ ra v => some (flagRow e fun x => (aluSub x.d[ra] (v.signExtend 32) x.fl).2)
  | _ => none)
def execShi (e : Fin 512) (s : State) : Out := .next (s.runOp e fun
  | .imm .shi rd ra v => some (immRow e rd ra (v.setWidth 32) fun a b =>
      match bits b.toNat 6 2 with
      | 0 => aluShl a (b.toNat % 32)
      | 1 => aluShr a (b.toNat % 32)
      | _ => aluSar a (b.toNat % 32))
  | _ => none)
def execMovil (e : Fin 512) (s : State) : Out := .next (s.runOp e fun
  | .movil rd v => some (complete e fun x => { x with d := x.d.set rd (v.signExtend 32) })
  | _ => none)
def execMovih (e : Fin 512) (s : State) : Out := .next (s.runOp e fun
  | .movih rd v => some (complete e fun x => { x with d := x.d.set rd (v ++ x.d[rd].setWidth 16) })
  | _ => none)

/-! Memory (Table 9-8). -/

/-- A fabric read of a Slate-resident register is forwarded as it is issued (R67). -/
def State.issueRead (s : State) (e : Fin 512) (a : Nat) : State := match pageAt a with
  | some (k, n) => if (slateOfPage k n).isSome then s.slateRegRead e.val k n a else s
  | none => s

/-- One read of `n` bytes: the value and the state after it, an exception, or a stall. `val`: what a stalled read returned. -/
def State.readAt (s : State) (e : Fin 512) (y : Bool) (a n : Nat) (val : Option Nat) (k : Nat → State → Eff) : Eff :=
  match val with
  | some v => k v s
  | none => match s.target e y a n false with
    | .error (c, sub) => .fault c sub a false
    | .ok (.own b) => if s.uncorrectable b n then .ue else k (s.load b n) (s.eccScan b n)
    | .ok (.io o) => k (s.ioRead e o).1 (s.ioRead e o).2
    | .ok (.shm b) => .stall ⟨false, b, n⟩ s
    | .ok (.fabric b) => .stall ⟨true, b, n⟩ (s.issueRead e b)

/-- Place a loaded value by the size code (R216). -/
def EngineState.loadInto (x : EngineState) (r : Fin 16) (sz v : Nat) : EngineState := match sz with
  | 0 => { x with d := x.d.set r ((BitVec.ofNat 16 v).signExtend 32) }
  | 1 => { x with d := x.d.set r (BitVec.ofNat 32 v) }
  | 2 => { x with d := (x.d.set r (BitVec.ofNat 32 v)).set (f16 (r.val + 1) 0) (BitVec.ofNat 32 (v / 2 ^ 32)) }
  | _ => { x with d := x.d.set r (BitVec.ofNat 32 (v % 2 ^ 16 * 2 ^ 16)) }

/-- LD. -/
def ldEff (e : Fin 512) (r : Fin 16) (p : Fin 8) (sz am : Nat) (off : BitVec 15) (val : Option Nat) (s : State) : Eff :=
  let x := s.eng e
  let a := x.address p (szBytes sz) am off
  s.readAt e (decide (p.val ≥ 4)) a.1.toNat (szBytes sz) val fun v =>
    complete e fun x => { x.loadInto r sz v with p := x.p.set p a.2 }

/-- One write of `n` bytes of `v`. -/
def State.writeAt (s : State) (e : Fin 512) (y : Bool) (a n v : Nat) (k : State → Eff) : Eff :=
  match s.target e y a n true with
  | .error (c, sub) => .fault c sub a true
  | .ok (.own b) => k (s.store b n v)
  | .ok (.io o) => k (s.ioWrite e o v)
  | .ok (.shm b) =>
    if (s.eng e).shw.length ≥ 2 then .retry
    else k (s.setEng e fun x => { x with shw := x.shw ++ [⟨b, n, v⟩] })
  | .ok (.fabric b) =>
    if (s.eng e).fbw.length ≥ 4 then .retry
    else k (s.setEng e fun x => { x with fbw := x.fbw ++ [⟨b, n, v⟩] })

/-- The value a store takes by the size code. -/
def EngineState.storeFrom (x : EngineState) (r : Fin 16) (sz : Nat) : Nat := match sz with
  | 0 => x.d[r].toNat % 2 ^ 16
  | 1 => x.d[r].toNat
  | 2 => x.d[r].toNat + x.d[f16 (r.val + 1) 0].toNat * 2 ^ 32
  | _ => x.d[r].toNat / 2 ^ 16

def execLd (e : Fin 512) (s : State) : Out := .next (s.runOp e fun
  | .ld r p sz am off => some (ldEff e r p sz am off none)
  | _ => none)

def execSt (e : Fin 512) (s : State) : Out := .next (s.runOp e fun
  | .st r p sz am off => some fun t =>
    let x := t.eng e
    let a := x.address p (szBytes sz) am off
    t.writeAt e (decide (p.val ≥ 4)) a.1.toNat (szBytes sz) (x.storeFrom r sz)
      (complete e fun x => { x with p := x.p.set p a.2 })
  | _ => none)

/-- STA: the address is tested before the store path. -/
def execSta (e : Fin 512) (s : State) : Out := .next (s.runOp e fun
  | .sta acc p am off => some fun t =>
    let x := t.eng e
    let a := x.address p 4 am off
    match t.target e (decide (p.val ≥ 4)) a.1.toNat 4 true with
    | .error (c, sub) => .fault c sub a.1.toNat true
    | .ok _ => match store32 x.md false x.a[acc] with
      | none => .fault 4 0 a.1.toNat true
      | some (v, l) => t.writeAt e (decide (p.val ≥ 4)) a.1.toNat 4 v.toNat
          (complete e fun x => { x with p := x.p.set p a.2, fl := { x.fl with l := x.fl.l || l } })
  | _ => none)

/-! Multiply and parallel loads (Table 9-9). -/

/-- The accumulator and flags of MAC, MSU, MPY; LDP leaves both. -/
def EngineState.mulAcc (x : EngineState) (f : MulFn) (a : Fin 4) (ra rb : Fin 16) : EngineState :=
  let pr := product (MD.int x.md) x.d[ra] x.d[rb]
  let put (i : Int) : EngineState :=
    let r := accWrite (MD.int x.md) i x.fl
    { x with a := x.a.set a r.1, fl := r.2 }
  match f with
  | .mac => put (x.a[a].toInt + pr)
  | .msu => put (x.a[a].toInt - pr)
  | .mpy => put pr
  | .ldp => x

/-- A parallel load of `v`, with the pointer's post-modification. -/
def EngineState.parLoad (x : EngineState) (y : Bool) (l : ParLoad) (p : Fin 8) (v : Nat) : EngineState :=
  if l.code = 0 then x
  else { x with d := x.d.set l.rd (BitVec.ofNat 32 v), p := x.p.set p (x.update p (x.parMod y l.code)) }

/-- Format P: the X access is tested before the Y access; the multiply uses the registers before the loads (R217). -/
def mulEff (e : Fin 512) (f : MulFn) (a : Fin 4) (ra rb : Fin 16) (lx ly : ParLoad) (val : Option Nat) (s : State) : Eff :=
  let x := s.eng e
  let px : Fin 8 := ⟨lx.ptr.val, by omega⟩
  let py : Fin 8 := ⟨4 + ly.ptr.val, by omega⟩
  let ax := x.p[px].toNat
  let ay := x.p[py].toNat
  let xErr := if lx.code = 0 ∨ val.isSome then none else match s.target e false ax 4 false with
    | .error c => some c
    | .ok _ => none
  match xErr with
  | some (c, sub) => .fault c sub ax false
  | none =>
    let fin (vx vy : Nat) : State → Eff :=
      complete e fun x => ((x.mulAcc f a ra rb).parLoad false lx px vx).parLoad true ly py vy
    let withX (vy : Nat) (t : State) : Eff :=
      if lx.code = 0 then fin 0 vy t else t.readAt e false ax 4 val fun vx => fin vx vy
    if ly.code = 0 then withX 0 s else s.readAt e true ay 4 none withX

def execMac (e : Fin 512) (s : State) : Out := .next (s.runOp e fun
  | .mul .mac a ra rb x y => some (mulEff e .mac a ra rb x y none)
  | _ => none)
def execMsu (e : Fin 512) (s : State) : Out := .next (s.runOp e fun
  | .mul .msu a ra rb x y => some (mulEff e .msu a ra rb x y none)
  | _ => none)
def execMpy (e : Fin 512) (s : State) : Out := .next (s.runOp e fun
  | .mul .mpy a ra rb x y => some (mulEff e .mpy a ra rb x y none)
  | _ => none)
def execLdp (e : Fin 512) (s : State) : Out := .next (s.runOp e fun
  | .mul .ldp a ra rb x y => some (mulEff e .ldp a ra rb x y none)
  | _ => none)

/-! Accumulators (Table 9-10). -/

/-- A[ad] becomes an exact value, wrapped, with Z N V E. -/
def accRow (e : Fin 512) (ad : Fin 4) (f : EngineState → Int) : State → Eff :=
  complete e fun x =>
    let r := accWrite (MD.int x.md) (f x) x.fl
    { x with a := x.a.set ad r.1, fl := r.2 }

def execAclr (e : Fin 512) (s : State) : Out := .next (s.runOp e fun
  | .acc .aclr ad _ _ _ => some (accRow e ad fun _ => 0)
  | _ => none)
def execAmov (e : Fin 512) (s : State) : Out := .next (s.runOp e fun
  | .acc .amov ad as_ _ _ => some (accRow e ad fun x => x.a[as_].toInt)
  | _ => none)
def execAadd (e : Fin 512) (s : State) : Out := .next (s.runOp e fun
  | .acc .aadd ad as_ _ _ => some (accRow e ad fun x => x.a[ad].toInt + x.a[as_].toInt)
  | _ => none)
def execAsub (e : Fin 512) (s : State) : Out := .next (s.runOp e fun
  | .acc .asub ad as_ _ _ => some (accRow e ad fun x => x.a[ad].toInt - x.a[as_].toInt)
  | _ => none)
def execAneg (e : Fin 512) (s : State) : Out := .next (s.runOp e fun
  | .acc .aneg ad as_ _ _ => some (accRow e ad fun x => -x.a[as_].toInt)
  | _ => none)
def execAabs (e : Fin 512) (s : State) : Out := .next (s.runOp e fun
  | .acc .aabs ad as_ _ _ => some (accRow e ad fun x => (x.a[as_].toInt.natAbs : Int))
  | _ => none)
def execAshl (e : Fin 512) (s : State) : Out := .next (s.runOp e fun
  | .acc .ashl ad as_ _ sh => some (accRow e ad fun x => x.a[as_].toInt * 2 ^ sh)
  | _ => none)
def execAsar (e : Fin 512) (s : State) : Out := .next (s.runOp e fun
  | .acc .asar ad as_ _ sh => some (accRow e ad fun x => x.a[as_].toInt / 2 ^ sh)
  | _ => none)
def execAload (e : Fin 512) (s : State) : Out := .next (s.runOp e fun
  | .acc .aload ad _ r _ => some (accRow e ad fun x => x.d[r].toInt * 2 ^ 32)
  | _ => none)
def execAloadl (e : Fin 512) (s : State) : Out := .next (s.runOp e fun
  | .acc .aloadl ad _ r _ => some (accRow e ad fun x => x.d[r].toInt)
  | _ => none)
def execAst (e : Fin 512) (s : State) : Out := .next (s.runOp e fun
  | .acc .ast _ as_ r _ => some fun t => storeReg e r (store32 (t.eng e).md false (t.eng e).a[as_]) t
  | _ => none)
def execAsat (e : Fin 512) (s : State) : Out := .next (s.runOp e fun
  | .acc .asat ad as_ _ _ => some (complete e fun x =>
      let r := accSat (MD.int x.md) x.a[as_] x.fl
      { x with a := x.a.set ad r.1, fl := r.2 })
  | _ => none)
def execArnd (e : Fin 512) (s : State) : Out := .next (s.runOp e fun
  | .acc .arnd ad as_ _ _ => some (accRow e ad fun x =>
      if MD.int x.md then x.a[as_].toInt else roundAcc (MD.trunc x.md) x.a[as_])
  | _ => none)

/-! Control and special instructions (Table 9-11). -/

def execNop (e : Fin 512) (s : State) : Out := .next (s.runOp e fun
  | .nop => some (complete e id)
  | _ => none)

/-- A wake condition: a call, a mail, or a pending watchdog exception (Table 8-6). -/
def EngineState.wake (x : EngineState) : Bool := !x.calls.isEmpty || !x.mails.isEmpty || x.wdPend

def execWait (e : Fin 512) (s : State) : Out := .next (s.runOp e fun
  | .wait => some fun t => .done (t.setEng e fun x =>
      (if x.wake then x.advance else x.advance.toSt t.now .waiting).retire t.now)
  | _ => none)

/-- RETE: ST, MD, both loop levels and PC from the saved registers, EXL cleared (R202). -/
def EngineState.restore (x : EngineState) : EngineState :=
  { x with
    fl := flagsOf x.est
    md := BitVec.ofNat 4 x.emd
    l0 := ⟨x.eloop[0], x.eloop[1], x.eloop[2]⟩
    l1 := ⟨x.eloop[3], x.eloop[4], x.eloop[5]⟩
    pc := x.epc
    slot := none
    exl := false }

def execRete (e : Fin 512) (s : State) : Out := .next (s.runOp e fun
  | .rete => some fun t => .done (t.setEng e fun x => x.restore.retire t.now)
  | _ => none)

def execBrk (e : Fin 512) (s : State) : Out := .next (s.runOp e fun
  | .brk => some fun _ => .fault 6 1 0 false
  | _ => none)

/-- A special register as MOVS reads it. -/
def EngineState.sregRead (x : EngineState) (c : Nat) : Word :=
  if c < 0x08 then x.p[f8 c 0]
  else if c < 0x10 then x.pb[f8 c 0]
  else if c < 0x18 then x.pl[f8 c 0]
  else if c < 0x1C then x.m[f4 c 0]
  else if c = 0x20 then BitVec.ofNat 32 x.stWord
  else if c = 0x21 then x.md.setWidth 32
  else if 0x22 ≤ c ∧ c ≤ 0x24 then BitVec.ofNat 32 (x.l0.part (c - 0x22))
  else if 0x25 ≤ c ∧ c ≤ 0x27 then BitVec.ofNat 32 (x.l1.part (c - 0x25))
  else
    let v := accPart x.a[f4 ((c - 0x30) / 4) 0] (c % 4)
    if c % 4 = 0 then (BitVec.ofNat 8 v).signExtend 32 else BitVec.ofNat 32 v

/-- A special register as MOVS writes it; MD by a mode write. -/
def EngineState.sregWrite (x : EngineState) (c : Nat) (v : Word) : EngineState :=
  if c < 0x08 then { x with p := x.p.set (f8 c 0) v }
  else if c < 0x10 then { x with pb := x.pb.set (f8 c 0) v }
  else if c < 0x18 then { x with pl := x.pl.set (f8 c 0) v }
  else if c < 0x1C then { x with m := x.m.set (f4 c 0) v }
  else if c = 0x20 then { x with fl := flagsOf v.toNat }
  else if c = 0x21 then { x with modes := x.modes ++ [⟨0, v.setWidth 4, 3⟩] }
  else if c ≥ 0x30 then { x with a := x.a.set (f4 ((c - 0x30) / 4) 0) (setAccPart x.a[f4 ((c - 0x30) / 4) 0] (c % 4) v.toNat) }
  else x

def execMovs (e : Fin 512) (s : State) : Out := .next (s.runOp e fun
  | .movs dir r c => some (complete e fun x =>
      if dir then x.sregWrite c x.d[r] else { x with d := x.d.set r (x.sregRead c) })
  | _ => none)

def execPadd (e : Fin 512) (s : State) : Out := .next (s.runOp e fun
  | .padd p v => some (complete e fun x => { x with p := x.p.set p (x.update p (v.signExtend 32)) })
  | _ => none)

/-- A mode write with its shadow of two instructions, its own completion counted with them. -/
def modeRow (e : Fin 512) (w : ModeWrite) : State → Eff := complete e fun x => { x with modes := x.modes ++ [w] }

def execMdset (e : Fin 512) (s : State) : Out := .next (s.runOp e fun
  | .mdk true m => some (modeRow e ⟨0xF, m, 3⟩)
  | _ => none)
def execMdclr (e : Fin 512) (s : State) : Out := .next (s.runOp e fun
  | .mdk false m => some (modeRow e ⟨~~~m, 0, 3⟩)
  | _ => none)

/-- A branch: the delay slot follows, then the target where taken; a taken call writes D15 (R219). -/
def branchRow (e : Fin 512) (cond : Nat) (link : Bool) (target : EngineState → Nat) : State → Eff := fun t =>
  .done (t.setEng e fun x =>
    let taken := condHolds x.fl cond
    let y := if taken && link then { x with d := x.d.set 15 (BitVec.ofNat 32 ((x.pc + 2) % 4096)) } else x
    ({ y with slot := some (x.pc, if taken then target x else (x.pc + 2) % 4096), pc := (x.pc + 1) % 4096 }).retire t.now)

def relTarget (off : Nat) (x : EngineState) : Nat := (x.pc + off) % 4096
def regTarget (rn : Fin 16) (x : EngineState) : Nat := x.d[rn].toNat % 4096

def execB (e : Fin 512) (s : State) : Out := .next (s.runOp e fun
  | .br .b c _ off => some (branchRow e c false (relTarget off))
  | _ => none)
def execBr (e : Fin 512) (s : State) : Out := .next (s.runOp e fun
  | .br .br c rn _ => some (branchRow e c false (regTarget rn))
  | _ => none)
def execCall (e : Fin 512) (s : State) : Out := .next (s.runOp e fun
  | .br .call c _ off => some (branchRow e c true (relTarget off))
  | _ => none)
def execCallr (e : Fin 512) (s : State) : Out := .next (s.runOp e fun
  | .br .callr c rn _ => some (branchRow e c true (regTarget rn))
  | _ => none)

/-- LOOP: a count of 0 skips the body; any other pushes the levels, and a lost third level sets LOV (R220). -/
def EngineState.pushLoop (x : EngineState) (count off : Nat) : EngineState :=
  let le := (x.pc + off) % 4096
  let next (n : Nat) : Nat := match x.slot with
    | some (_, t) => t
    | none => n % 4096
  if count = 0 then { x with pc := next (le + 1), slot := none }
  else { x with
    fl := { x.fl with lov := x.fl.lov || decide (x.l1.lc ≠ 0) }
    l1 := x.l0
    l0 := ⟨(x.pc + 1) % 4096, le, count⟩
    pc := next (x.pc + 1)
    slot := none }

def execLoopOp (e : Fin 512) (s : State) : Out := .next (s.runOp e fun
  | .loop reg rn count off => some fun t => .done (t.setEng e fun x =>
      (x.pushLoop (if reg then x.d[rn].toNat % 65536 else count) off).retire t.now)
  | _ => none)

def execLpop (e : Fin 512) (s : State) : Out := .next (s.runOp e fun
  | .lpop => some (complete e fun x => { x with l0 := x.l1, l1 := { x.l1 with lc := 0 } })
  | _ => none)

/-! Stalled reads (R184, R186). -/

/-- The stalled load instruction completes with the value read. -/
def State.resumeOp (s : State) (e : Fin 512) (v : Nat) : State :=
  let t := s.setEng e fun x => { x with stall := none }
  match decodeEng (t.fetch e) with
  | some (.ld r p sz am off) => (ldEff e r p sz am off (some v) t).apply s t e
  | some (.mul f a ra rb x y) => (mulEff e f a ra rb x y (some v) t).apply s t e
  | _ => s

/-- A shared-memory read gets its bank slot, once every earlier shared write of the engine has completed. -/
def execSharedReadComplete (e : Fin 512) (s : State) : Out :=
  .next (match (s.eng e).stall with
    | some r =>
      if !r.fabric && (s.eng e).shw.isEmpty then
        let t := s.eccScan r.addr r.bytes
        if s.uncorrectable r.addr r.bytes then t.memFault e else t.resumeOp e (s.load r.addr r.bytes)
      else s
    | none => s)

end Sys2Proof.Machine
end

