-- ==== Sys2Proof/Machine/Trunk.lean ====
section
/-! DEFINITION. Trunks (10_motion_profiles_and_trunks.md, R231-R237, R245). -/
namespace Sys2Proof.Machine
open Sys2Proof

def State.trunk (s : State) (k : Fin 8) : Trunk := s.trunks[k]
def State.setTrunk (s : State) (k : Fin 8) (f : Trunk → Trunk) : State :=
  { s with trunks := s.trunks.set k (f s.trunks[k]) }
def State.setPrf (s : State) (a : Fin 64) (f : Profile → Profile) : State :=
  s.setAxis a fun x => { x with prf := f x.prf }

/-- A signed 64-bit value. -/
def wrap64 (x : Int) : Int := toSigned 64 (ofSigned 64 x)

def State.trkSrc (s : State) (k : Fin 8) : Nat := s.fld (P.trunk k) F.TRK_CTRL_SRC
def State.trkIdx (s : State) (k : Fin 8) : Nat := s.fld (P.trunk k) F.TRK_CTRL_SRC_IDX
def State.trkOn (s : State) (k : Fin 8) : Bool := s.flag (P.trunk k) F.TRK_CTRL_EN
def State.trkPitch (s : State) (k : Fin 8) : Nat := s.rd64 (P.trunk k) R.TRK_PITCH_LO
def State.trkOfs (s : State) (k : Fin 8) : Int := toSigned 64 (s.rd64 (P.trunk k) R.TRK_OFS_LO)

/-! VALID (R231, R237, R240). -/

/-- A branch of the axis follows trunk k. -/
def State.follows (s : State) (k : Fin 8) (a : Fin 64) : Bool :=
  let p := (s.axis a).prf
  (p.st == .engaging || p.st == .geared) && p.br.trunk == k.val

/-- VALID of a trunk; where it clears under a branch, INVALID, and the branches with INV_ACT stop. -/
def State.trkValid (s : State) (k : Fin 8) (on : Bool) : State :=
  let was := s.flag (P.trunk k) F.TRK_STATUS_VALID
  let s := s.setb (P.trunk k) F.TRK_STATUS_VALID on
  let fol := (List.finRange 64).filter fun a => s.follows k a
  if was && !on then
    forEach fol (s.errIf (!fol.isEmpty) (P.trunk k) E.trunk_INVALID) fun a t =>
      t.when (t.flag (P.profile a) F.BR_CTRL_INV_ACT) fun t => t.setPrf a fun p => { p with stopAsk := some 4 }
  else s

/-! Time-defined trunks (R232, R234). -/

/-- Device time of a tick in units of 2⁻³² ns modulo 2⁹⁶, and its distance from a time in ns. -/
def State.time96 (s : State) (tick : Nat) : Nat := s.timeAt tick % 2 ^ 96
def since96 (t ns : Nat) : Int := toSigned 96 (t + 2 ^ 96 - ns * 2 ^ 32 % 2 ^ 96)

/-- Position and velocity of a segment, τ in units of 2⁻³² ns: one rounding each. -/
def TrunkSeg.at (g : TrunkSeg) (tau : Int) : Int × Int :=
  let d : Int := g.dur * 2 ^ 32
  let c0 := g.c[0]
  let c1 := g.c[1]
  let c2 := g.c[2]
  let c3 := g.c[3]
  let e := c1 + 2 * c2 + 3 * c3
  if tau ≤ d then
    (roundQ (c0 * d ^ 3 + c1 * tau * d ^ 2 + c2 * tau ^ 2 * d + c3 * tau ^ 3) (d ^ 3).toNat,
     roundQ ((c1 * d ^ 2 + 2 * c2 * tau * d + 3 * c3 * tau ^ 2) * 1000000000) ((d ^ 2).toNat * g.dur))
  else (roundQ ((c0 + c1 + c2 + c3) * d + e * (tau - d)) d.toNat, roundQ (e * 1000000000) g.dur)

/-- Activate the queued segments that are due at time `t` (R234): the jump is judged at each activation time. -/
def activate (tol : Nat) (t : Nat) : List TrunkSeg → Option TrunkSeg → Bool → List TrunkSeg × Option TrunkSeg × Bool
  | [], act, j => ([], act, j)
  | g :: l, act, j =>
    if since96 t g.t < 0 then (g :: l, act, j)
    else activate tol t l (some g) (j || match act with
      | some o => decide (tol * 2 ^ 16 < ((o.at (since96 (g.t * 2 ^ 32) o.t)).1 - g.c[0]).natAbs)
      | none => false)

/-- QUEUED and ACTIVE (Table 10-7). -/
def State.trkCounts (s : State) (k : Fin 8) : State :=
  (s.setf (P.trunk k) F.TRK_STATUS_QUEUED (min 15 (s.trunk k).queue.length)).setb (P.trunk k) F.TRK_STATUS_ACTIVE
    (s.trunk k).active.isSome

/-- The segments due at a request are activated; the first activation sets VALID. -/
def State.trkActivate (s : State) (k : Fin 8) (tick : Nat) : State :=
  let x := s.trunk k
  let r := activate (s.rd (P.trunk k + R.TRK_JUMP_TOL)) (s.time96 tick) x.queue x.active false
  let s := ((s.setTrunk k fun x => { x with queue := r.1, active := r.2.1 }).errIf r.2.2 (P.trunk k) E.trunk_SEG_STEP).trkCounts k
  if r.2.1.isSome && s.trkOn k then s.trkValid k true else s

/-! Measured trunks (R235, R236). -/

/-- The velocity of a measured trunk as a fraction of PITCH × 312,500,000 per second: numerator and denominator. -/
def State.trkRate (s : State) (k : Fin 8) : Int × Nat :=
  if s.trkSrc k = 1 then match fin? 16 (s.trkIdx k) with
    | some t => match s.teeth[t].texp with
      | some e => if s.flag (P.tooth t) F.TOOTH_STATUS_STILL then (0, 1) else (1, max 1 e)
      | none => (0, 1)
    | none => (0, 1)
  else match axis? (s.trkIdx k) with
    | some a => ((s.axis a).est.v, 16 * 312500000)
    | none => (0, 1)

/-- A measured trunk's value at a tick: position, velocity, and whether the clamp was reached: 2 pitches in the direction of
travel. -/
def State.trkMeasured (s : State) (k : Fin 8) (tick : Nat) : Int × Int × Bool :=
  match (s.trunk k).anchor with
  | none => (s.trkOfs k, 0, false)
  | some (x, t0) =>
    let r := s.trkRate k
    let p : Int := s.trkPitch k
    let d := roundQ (p * r.1 * ((tick : Int) - t0)) r.2
    let v := roundQ (p * r.1 * 312500000) r.2
    let lim := 2 * p
    if 0 < r.1 ∧ lim ≤ d then (x + lim, v, true)
    else if r.1 < 0 ∧ d ≤ -lim then (x - lim, v, true)
    else (x + d, v, false)

/-- A trunk's position and velocity at a tick, with no effect on the trunk. -/
def State.trkValue (s : State) (k : Fin 8) (tick : Nat) : Int × Int × Bool :=
  if s.trkSrc k = 0 then match (s.trunk k).active with
    | none => (s.trkOfs k, 0, false)
    | some g => let r := g.at (since96 (s.time96 tick) g.t); (r.1, r.2, false)
  else s.trkMeasured k tick

/-- A request to a trunk at a tick: segments activate, a clamp is recorded (R231, R234, R235). -/
def State.trkAsk (s : State) (k : Fin 8) (tick : Nat) : State :=
  let s := if s.trkSrc k = 0 then s.trkActivate k tick else s
  let s := match (s.trunk k).active with
    | some g => s.setb (P.trunk k) F.TRK_STATUS_HOLDING (s.trkSrc k == 0 && decide ((g.dur * 2 ^ 32 : Nat) < since96 (s.time96 tick) g.t))
    | none => s.setb (P.trunk k) F.TRK_STATUS_HOLDING false
  s.errIf (s.trkValue k tick).2.2 (P.trunk k) E.trunk_CLAMP

/-- Position and velocity as 64-bit values after the request. -/
def State.trkAt (s : State) (k : Fin 8) (tick : Nat) : Int × Int :=
  let r := s.trkValue k tick
  (wrap64 r.1, wrap64 r.2.1)

/-- A new anchor (position, tick): TRK_STEP_MAX compares it with `old`, the old line at the publication tick (R235). -/
def State.trkAnchor (s : State) (k : Fin 8) (x : Int) (tick : Nat) (old : Option Int) : State :=
  let s := s.setTrunk k fun t => { t with anchor := some (wrap64 x, tick) }
  match old with
  | none => s
  | some o =>
    let step := min (2 ^ 32 - 1) (roundQ (((s.trkValue k s.now).1 - o).natAbs) (2 ^ 16)).toNat
    s.wr (P.trunk k + R.TRK_STEP_MAX) (max step (s.rd (P.trunk k + R.TRK_STEP_MAX)))

/-- The old line of a trunk at this tick, where it has an anchor. -/
def State.trkLine (s : State) (k : Fin 8) : Option Int := (s.trunk k).anchor.map fun _ => (s.trkValue k s.now).1

/-- The enabled trunks that take a source. -/
def State.trunksOf (s : State) (src idx : Nat) : List (Fin 8) :=
  (List.finRange 8).filter fun k => s.trkOn k && s.trkSrc k == src && s.trkIdx k == idx

/-- A SNAP of Δ positions moves the anchor (R237); with ABSORB the branches take it out again (R240): the offset in force by
the step times NUM/DEN, the engagement by its reference position, so λ is unchanged. -/
def State.trkSnap (s : State) (k : Fin 8) (delta : Int) : State :=
  let step := delta * s.trkPitch k
  let s := (s.wr (P.trunk k + R.TRK_LAST_SNAP) (ofSigned 16 delta)).err (P.trunk k) E.trunk_SNAP_STEP
  forEach (List.finRange 64) s fun a t =>
    t.when (t.follows k a && t.flag (P.profile a) F.BR_CTRL_ABSORB) fun t => t.setPrf a fun p => { p with
      br := { p.br with ofs := p.br.ofs - roundQ (step * p.br.num) (p.br.den * 2 ^ 16), xt0 := p.br.xt0 + step } }

/-! The extended count of a FEEDBACK record (R158, R236). -/

/-- A difference of counts modulo `w` into (−w/2, w/2]. -/
def wrapDiff (w : Nat) (x : Int) : Int :=
  let r := x % (max 1 w : Nat)
  if 2 * r ≤ max 1 w then r else r - (max 1 w : Nat)

/-- W of an axis at a start of RUN (R159): the shadow's value, or the one before a pending write. -/
def State.runW (s : State) (a : Fin 64) : Nat :=
  let l := (s.axis a).loop
  if bits l.fb.status 7 1 = 0 then s.sh (P.fb a + R.FB_WRAP) % 2 ^ 31 + 1 else l.wBefore

/-- turn × W + p of the latest FEEDBACK record. -/
def State.recTurns (s : State) (a : Fin 64) (w : Nat) : Int :=
  let r := (s.axis a).loop.fb
  toSigned 32 r.turn * w + r.pos

/-- The extended count of the record's change: on the scale of c while RUN keeps it, else turn × W + p. -/
def State.recCount (s : State) (a : Fin 64) : Int :=
  let l := (s.axis a).loop
  match l.lastPos with
  | some p => if s.flag (P.loop a) F.LOOP_CTRL_RUN then l.c + wrapDiff l.wf ((l.fb.pos : Int) - p) else s.recTurns a (s.runW a)
  | none => s.recTurns a (s.runW a)

/-- The anchor of a trunk measured from axis a, from its latest record; `tick` restores the record's tick. -/
def State.axisAnchor (s : State) (a : Fin 64) (k : Fin 8) : Int × Nat :=
  let l := (s.axis a).loop
  (s.recCount a * s.trkPitch k + s.trkOfs k, (nearTick s.now l.fb.tick).toNat)

/-! TRK_CTRL, pushes and reads (R231, R233, R245). -/

/-- A source that the device does not have: an absent tooth input or axis (R5). -/
def State.srcAbsent (s : State) (src idx : Nat) : Bool :=
  if src = 1 then !s.fitted (idx / 2) else src == 2 && !s.fitted (idx / 8)

/-- A source of another domain than the trunk's owner and domain 0 (R231). -/
def State.srcForeign (s : State) (k : Fin 8) (src idx : Nat) : Bool :=
  let d := s.ownerReg (P.trunk k)
  let o := if src = 1 then s.ownerReg (P.tooth idx) else s.axisDom idx
  d != 0 && src != 0 && o != d && o != 0

/-- The anchor a measured trunk starts from when it is enabled: the last published tooth, or the latest record. -/
def State.trkStart (s : State) (k : Fin 8) : State :=
  let s := s.setTrunk k fun t => { t with active := none, anchor := none }
  let s := s.trkCounts k
  if s.trkSrc k = 1 then match fin? 16 (s.trkIdx k) with
    | some t =>
      let u := s.teeth[t]
      let s := match u.last with
        | some l =>
          let c : Int := (u.turn * s.rd (P.tooth t + R.TOOTH_N) + u.pos : Nat)
          s.setTrunk k fun x => { x with anchor := some (wrap64 (c * s.trkPitch k + s.trkOfs k), l.tick) }
        | none => s
      s.trkValid k (s.fld (P.tooth t) F.TOOTH_STATUS_STATE == 2)
    | none => s
  else if s.trkSrc k = 2 then match axis? (s.trkIdx k) with
    | some a =>
      let x := s.axisAnchor a k
      (s.setTrunk k fun t => { t with anchor := some (wrap64 x.1, x.2) }).trkValid k ((s.axis a).loop.fb.status % 2 == 1)
    | none => s
  else s

/-- A write of TRK_CTRL (R5, R231, R233). A change of SRC or SRC_IDX while EN is 1, and SRC 0b11, leave the write without
effect. -/
def State.writeTrkCtrl (s : State) (k : Fin 8) (v : Nat) : State :=
  let src := bits v 2 2
  let idx := bits v 8 6
  let was := s.trkOn k
  if src = 3 ∨ (was ∧ (src ≠ s.trkSrc k ∨ idx ≠ s.trkIdx k)) then s
  else
    let on := v % 2 == 1 && !s.srcAbsent src idx && !s.srcForeign k src idx
    let s := s.wr (P.trunk k + R.TRK_CTRL) (on.toNat + 4 * src + 256 * idx)
    let s := if bits v 16 1 = 1 then (s.setTrunk k fun t => { t with queue := [] }).trkCounts k else s
    if on ∧ !was then s.trkStart k
    else if was ∧ !on then s.trkValid k false
    else s

/-- The staged segment. -/
def State.stagedSeg (s : State) (k : Fin 8) : TrunkSeg :=
  let c (j : Nat) := toSigned 64 (s.rd64 (P.trunk k) (R.TRK_SEG_C_LO j))
  ⟨s.rd64 (P.trunk k) R.TRK_SEG_T_LO, s.rd (P.trunk k + R.TRK_SEG_DUR), #v[c 0, c 1, c 2, c 3]⟩

/-- Activation times in order: `t` is later than `u`, both in ns modulo 2⁶⁴. -/
def laterNs (t u : Nat) : Bool := decide (0 < toSigned 64 (t + 2 ^ 64 - u % 2 ^ 64))

/-- TRK_SEG_PUSH (R233): refusals in the order the rule lists them. -/
def State.pushSeg (s : State) (k : Fin 8) : State :=
  let g := s.stagedSeg k
  let x := s.trunk k
  let prev := match x.queue.getLast? with
    | some q => some q
    | none => x.active
  let why : Option Fld :=
    if x.queue.length ≥ 16 then some F.TRK_SEG_STAT_FULL
    else if (match prev with | some q => !laterNs g.t q.t | none => false) then some F.TRK_SEG_STAT_ORDER
    else if 0 ≤ since96 (s.time96 s.now) g.t then some F.TRK_SEG_STAT_LATE
    else if g.dur = 0 then some F.TRK_SEG_STAT_RANGE
    else none
  match why with
  | some f => (s.setb (P.trunk k) f true).err (P.trunk k) E.trunk_SEG_REJ
  | none => ((s.setTrunk k fun t => { t with queue := t.queue ++ [g] }).setb (P.trunk k) F.TRK_SEG_STAT_DONE true).trkCounts k

def execTrkSegPush (k : Fin 8) (s : State) : Out := .next (s.pushSeg k)

/-- TRK_CTRL written with the enable bit, source and index. -/
def execTrkEnable (k : Fin 8) (v : Word) (s : State) : Out := .next (s.writeTrkCtrl k v.toNat)

/-- TRK_CTRL.FLUSH (R233). -/
def execFlush (k : Fin 8) (s : State) : Out :=
  .next ((s.setTrunk k fun t => { t with queue := [] }).trkCounts k)

/-- A read of TRK_POS_LO (R245): a request at this tick, latched for the reader. -/
def State.readTrkPos (s : State) (q : Nat) (k : Fin 8) : State :=
  let s := s.trkAsk k s.now
  let r := s.trkAt k s.now
  let p := P.trunk k
  let x := ofSigned 64 r.1
  let v := ofSigned 64 r.2
  (((((s.latch q (p + R.TRK_POS_HI) (x / 2 ^ 32)).latch q (p + R.TRK_VEL_LO) (v % 2 ^ 32)).latch q (p + R.TRK_VEL_HI)
    (v / 2 ^ 32)).latch q (p + R.TRK_POS_TICK_LO) (s.now % 2 ^ 32)).latch q (p + R.TRK_POS_TICK_HI) (s.now / 2 ^ 32 % 2 ^ 32)).answer q
      (p + R.TRK_POS_LO) (x % 2 ^ 32)

def execTrkPosRead (q : Fin 514) (k : Fin 8) (s : State) : Out := .next (s.readTrkPos q.val k)

end Sys2Proof.Machine
end

