-- ==== Sys2Proof/Machine/Tooth.lean ====
section
/-! DEFINITION. Tooth inputs and tooth units (06_position_and_speed_feedback.md, R142-R151, R153). -/
namespace Sys2Proof.Machine
open Sys2Proof

def State.tooth (s : State) (t : Fin 16) : ToothUnit := s.teeth[t]
def State.setTooth (s : State) (t : Fin 16) (f : ToothUnit → ToothUnit) : State :=
  { s with teeth := s.teeth.set t (f s.teeth[t]) }

/-! The land at the Slate (R142). -/

/-- An edge of input j, whose level has held since Slate tick `t0`, is accepted after FILT_US µs if it has the polarity. -/
def State.toothLand (s : State) (i : Fin 8) (j : Fin 2) (lvl : Bool) (t0 : Nat) : State :=
  let x := s.slate i
  let acc := t0 + (x.auxFilt[j] * 625 + 1) / 2
  if !x.powered || decide (s.stick i < acc) || lvl == (bits x.auxPol j 1 == 1) then s
  else s.pushEvent i (32 + j) lvl acc

def execToothInputEdge (s : Fin 8) (j : Fin 2) (lvl : Bool) (t0 : Nat) (st : State) : Out := .next (st.toothLand s j lvl t0)

/-! Settings (Table 6-13). -/

def State.toothN (s : State) (t : Fin 16) : Nat := max 1 (bits (s.rd (P.tooth t + R.TOOTH_N)) 0 11)
def State.toothOn (s : State) (t : Fin 16) : Bool := s.flag (P.tooth t) F.TOOTH_CTRL_EN
/-- Extra-tooth mode. -/
def State.toothExtra (s : State) (t : Fin 16) : Bool := s.fld (P.tooth t) F.TOOTH_CTRL_REF == 1
def State.toothM (s : State) (t : Fin 16) : Nat := max 1 (s.fld (P.tooth t) F.TOOTH_CTRL_MISS)
def State.toothF (s : State) (t : Fin 16) : Nat := min 6 (max 4 (s.fld (P.tooth t) F.TOOTH_CTRL_EXTRA_POS))
def State.toothVmax (s : State) (t : Fin 16) : Nat := max 1 (s.fld (P.tooth t) F.TOOTH_CTRL_VMAX)
/-- STATE: 0 disabled, 1 SEARCH, 2 SYNC. -/
def State.toothSt (s : State) (t : Fin 16) : Nat := s.fld (P.tooth t) F.TOOTH_STATUS_STATE
/-- WIN (R144). -/
def State.toothWin (s : State) (t : Fin 16) : Bool := match (s.tooth t).texp with
  | some e => decide (e ≤ s.rd (P.tooth t + R.TOOTH_MAXINT))
  | none => false

/-- WIN, VRUN and T_exp as the registers show them. -/
def State.toothShow (s : State) (t : Fin 16) : State :=
  let u := s.tooth t
  ((s.setb (P.tooth t) F.TOOTH_STATUS_WIN (s.toothWin t)).setf (P.tooth t) F.TOOTH_STATUS_VRUN (min 7 u.vrun)).wr
    (P.tooth t + R.TOOTH_TEXP) (u.texp.getD 0)

/-- The unit enters a state; the trunks on it are VALID while it is SYNC (R235). -/
def State.toothEnter (s : State) (t : Fin 16) (st : Nat) : State :=
  let s := s.setf (P.tooth t) F.TOOTH_STATUS_STATE st
  forEach (s.trunksOf 1 t.val) s fun k x => x.trkValid k (st == 2)

/-- SEARCH: both recognitions are needed again. -/
def State.toothSearch (s : State) (t : Fin 16) : State :=
  (s.setTooth t fun u => { u with since := none, resync := 0, vrun := 0, restored := false }).toothEnter t 1

/-! Publication (R149). -/

/-- The anchor position of a trunk for the unit's position and turn count (R235). -/
def State.toothX (s : State) (t : Fin 16) (k : Fin 8) : Int :=
  let u := s.tooth t
  ((u.turn * s.toothN t + u.pos : Nat) : Int) * s.trkPitch k + s.trkOfs k

/-- The last published tooth becomes the anchor of every trunk on the unit; `s0` is the state before the decision. -/
def State.toothAnchor (s s0 : State) (t : Fin 16) : State := match (s.tooth t).last with
  | none => s
  | some l => forEach (s.trunksOf 1 t.val) s fun k x => x.trkAnchor k (x.toothX t k) l.tick (s0.trkLine k)

/-- A correction is published: to the trunks and the tracking unit, with the start of the suspect span (R260). -/
def State.toothCorrect (s : State) (t : Fin 16) (snap : Bool) (delta : Int) (from_ : Nat) : State :=
  let d := clampI (-(2 ^ 29)) (2 ^ 29 - 1) delta
  let s := ((s.inc (P.tooth t) F.TOOTH_CNT_CORR_COUNT).wr (P.tooth t + R.TOOTH_LAST_CORR)
    ((if snap then 2 else 1) * 2 ^ 30 + ofSigned 30 d)).err (P.tooth t) (if snap then E.tooth_SNAP else E.tooth_RETIME)
  let s := s.setCorrections (s.corrections ++ [⟨t, snap, delta, from_, s.now⟩])
  if snap then forEach (s.trunksOf 1 t.val) s fun k x => x.trkSnap k delta else s

/-- Move to the position `n` pitches on; the change to 0 adds a turn (R143). -/
def State.toothAdvance (s : State) (t : Fin 16) (n : Nat) : State :=
  let w := s.toothN t
  s.setTooth t fun u => { u with
    pos := (u.pos + n) % w, turn := (u.turn + (u.pos + n) / w) % 2 ^ 32, since := u.since.map (· + n), resync := u.resync - n }

/-- A tooth at `tick` is published at the position reached: the records, VRUN and the unaligned flag. -/
def State.toothPublish (s : State) (t : Fin 16) (tick span : Nat) (virt unal : Bool) : State :=
  (s.setTooth t fun u => { u with
    prev := u.last, last := some ⟨tick, virt, span⟩, rej := none, extra := none
    lastReal := (if virt then u.lastReal else some tick), vrun := (if virt then u.vrun + 1 else 0) }).setb (P.tooth t)
      F.TOOTH_STATUS_UNALIGNED unal

/-! T_exp (R144, R148). -/

/-- The pitch interval from `from_` to `tick` over `span` pitches updates T_exp; `win` is WIN before it. -/
def ToothUnit.pitch (u : ToothUnit) (from_ tick span : Nat) (win : Bool) : ToothUnit :=
  let i := (2 * (tick - from_) + span) / (2 * span)
  match u.texp with
  | none => { u with texp := some i, outRun := 0 }
  | some e =>
    if !win then { u with texp := some i, outRun := 0 }
    else if 3 * e * span ≤ 4 * (tick - from_) ∧ 100 * (tick - from_) ≤ 133 * e * span then { u with texp := some i, outRun := 0 }
    else if u.outRun + 1 ≥ 3 then { u with texp := some i, outRun := 0 }
    else { u with outRun := u.outRun + 1 }

/-- Is the tooth published last to be re-timed when a real tooth comes at `tf`? (R148) The new tick. -/
def ToothUnit.retime (u : ToothUnit) (tf : Nat) : Option Nat := match u.texp, u.last, u.prev, u.rej with
  | some e, some l, some p, some r =>
    let dist (x : Nat) : Nat := ((tf : Int) - x - e).natAbs
    if !l.virt && l.span == 1 && u.pos != 0 && decide (dist r < dist l.tick) && decide (e ≤ 2 * (r - p.tick)) &&
        decide (2 * (r - p.tick) < 3 * e) then some r
    else none
  | _, _, _, _ => none

/-- Re-time the last tooth before a real tooth at `tf` that ends no reference interval, with WIN at 1. -/
def State.toothRetime (s : State) (t : Fin 16) (tf : Nat) : State := match (s.tooth t).retime tf, (s.tooth t).last with
  | some r, some l =>
    (s.setTooth t fun u => { u with last := some { l with tick := r }, lastReal := some r }).toothCorrect t false
      ((r : Int) - l.tick) l.tick
  | _, _ => s

/-- The interval that a real tooth at `tf` ends, where no virtual tooth lies in it. -/
def State.toothPitch (s : State) (t : Fin 16) (tf span : Nat) : State := match (s.tooth t).last with
  | some l => if l.virt then s else let w := s.toothWin t; s.setTooth t fun u => u.pitch l.tick tf span w
  | none => s

/-! Real teeth. -/

/-- r is at least a / b, and below a / b, for an interval `d`. -/
def geR (d e a b : Nat) : Bool := decide (a * e ≤ b * d)
def ltR (d e a b : Nat) : Bool := decide (b * d < a * e)

/-- A real tooth that is no reference. -/
def State.toothPlain (s : State) (t : Fin 16) (tick : Nat) (unal : Bool) : State :=
  let s := if s.toothWin t then s.toothRetime t tick else s
  ((s.toothPitch t tick 1).toothAdvance t 1).toothPublish t tick 1 false unal |>.setb (P.tooth t) F.TOOTH_STATUS_STILL false

/-- A recognised reference that `span` pitches end (R147). `counted`: pitches to add to the count for it. -/
def State.toothRef (s : State) (t : Fin 16) (tick span counted : Nat) (unal : Bool) : State :=
  let n := s.toothN t
  let u := s.tooth t
  let sync := s.toothSt t == 2
  let s := s.toothPitch t tick span
  let c := (u.pos + counted) % n
  let delta := wrapDiff n (-(c : Int))
  let s := s.toothAdvance t counted
  let rst := u.restored && !sync
  let fix := sync || rst || decide (counted ≤ u.resync)
  let s := s.setTooth t fun v =>
    if fix then
      let tot : Int := ((v.turn * n + v.pos : Nat) : Int) + delta
      { v with pos := 0, turn := (tot / (n : Int) % 2 ^ 32).toNat, since := if rst then some 0 else none, resync := 0, restored := false }
    else { v with pos := 0, turn := (v.turn + if v.pos = 0 then 0 else 1) % 2 ^ 32, since := some 0 }
  let s := s.toothPublish t tick span false unal |>.setb (P.tooth t) F.TOOTH_STATUS_STILL false
  let s := s.setTooth t fun v => { v with refAt := some tick }
  let prev := u.refAt.getD tick
  if sync ∨ rst then (if delta = 0 then s else s.toothCorrect t true delta prev)
  else if fix then (s.toothCorrect t true delta prev).toothEnter t 2
  else if u.since.map (· + counted) = some n then (s.setTooth t fun v => { v with since := none }).toothEnter t 2
  else s

/-- The reference was not recognised at its expected position: SEARCH, SYNC_LOSS, and 8 positions to come back (R147). -/
def State.toothSyncLoss (s : State) (t : Fin 16) : State :=
  ((s.toothSearch t).setTooth t fun u => { u with resync := 8 }).err (P.tooth t) E.tooth_SYNC_LOSS

/-- A rejected edge (R145). -/
def State.toothNoise (s : State) (t : Fin 16) (tick : Nat) : State :=
  ((s.setTooth t fun u => { u with rej := some tick }).inc (P.tooth t) F.TOOTH_CNT_NOISE_COUNT).err (P.tooth t) E.tooth_NOISE

/-- The next position is the reference: the tooth before the missing ones, or position N − 1 in extra-tooth mode. -/
def State.toothAtRef (s : State) (t : Fin 16) : Bool :=
  (s.tooth t).pos + (if s.toothExtra t then 1 else s.toothM t + 1) == s.toothN t

/-! Virtual teeth (R145, R146). -/

/-- Twice the interval after which no edge counts for the next tooth, in T_exp. -/
def State.toothDue2 (s : State) (t : Fin 16) : Nat :=
  if s.toothAtRef t && !s.toothExtra t then 2 * s.toothM t + 3 else 3

/-- The deadline after the last published tooth lies at or before `tick` (SYNC, WIN at 1). -/
def State.toothLate (s : State) (t : Fin 16) (tick : Nat) : Bool := match (s.tooth t).last, (s.tooth t).texp with
  | some l, some e => s.toothSt t == 2 && s.toothWin t && decide (s.toothDue2 t * e ≤ 2 * (tick - l.tick))
  | _, _ => false

/-- One virtual tooth, or the loss of the unit after VMAX of them. At position 0 the reference has not been recognised. -/
def State.toothVirtual (s : State) (t : Fin 16) : State := match (s.tooth t).last, (s.tooth t).texp with
  | some l, some e =>
    if (s.tooth t).vrun ≥ s.toothVmax t then (s.toothSearch t).err (P.tooth t) E.tooth_LOST
    else
      let ref := s.toothAtRef t
      let span := if ref && !s.toothExtra t then s.toothM t + 1 else 1
      let s0 := s
      let s := ((s.toothAdvance t span).toothPublish t (l.tick + span * e) span true false).inc (P.tooth t) F.TOOTH_CNT_VIRT_COUNT
      let s := (s.err (P.tooth t) E.tooth_VIRTUAL).toothAnchor s0 t
      if ref then s.toothSyncLoss t else s
  | _, _ => s

/-- The virtual teeth due before an edge at `tick`, at most `n`. -/
def State.toothCatchUp (s : State) (t : Fin 16) (tick : Nat) : Nat → State
  | 0 => s
  | n + 1 => if s.toothLate t tick then (s.toothVirtual t).toothCatchUp t tick n else s

def execVirtualTooth (t : Fin 16) (s : State) : Out :=
  .next (if s.toothOn t && s.toothLate t (s.now - 625) then (s.toothVirtual t).toothShow t else s)

/-! Judging an edge (Table 6-6, R147). -/

/-- A real tooth: the reference where its interval says so, else plain; in SYNC a missed reference is a SYNC_LOSS. `d`: the
interval since the last published tooth, `e`: T_exp. -/
def State.toothAccept (s : State) (t : Fin 16) (tick d e : Nat) (unal : Bool) : State :=
  let u := s.tooth t
  let m := s.toothM t
  let free := s.toothSt t != 2 || !s.toothWin t
  let atRef := s.toothSt t == 2 && s.toothAtRef t
  let real := tick - u.lastReal.getD 0
  if s.toothExtra t then
    let hit := u.extra.isSome && u.lastReal.isSome && geR real e 3 4 && decide (4 * real ≤ 5 * e)
    if hit then s.toothRef t tick 1 1 unal
    else if atRef then (s.toothPlain t tick unal).toothSyncLoss t
    else s.toothPlain t tick unal
  else if (free || atRef) && geR d e (2 * m + 1) 2 && ltR d e (2 * m + 3) 2 then s.toothRef t tick (m + 1) (m + 1) unal
  else if atRef then (s.toothPlain t tick unal).toothSyncLoss t
  else if !free && u.vrun == m && u.lastReal.isSome && geR real e (2 * m + 1) 2 && ltR real e (2 * m + 3) 2 then
    s.toothRef t tick (m + 1) 1 unal
  else s.toothPlain t tick unal

/-- An edge with T_exp known: noise, an extra pulse, or a tooth. -/
def State.toothJudge (s : State) (t : Fin 16) (tick d e : Nat) (unal : Bool) : State :=
  let win := s.toothWin t
  let f := s.toothF t
  let ex := s.toothExtra t && geR d e (f - 2) 16 && decide (16 * d ≤ (f + 2) * e)
  let atRef := s.toothSt t == 2 && s.toothAtRef t
  if ex then
    let s := s.setTooth t fun u => { u with extra := some tick }
    if win && !atRef then s.toothNoise t tick else s
  else if win && ltR d e 1 2 then s.toothNoise t tick
  else if win && atRef && !s.toothExtra t && ltR d e (2 * s.toothM t + 1) 2 then s.toothNoise t tick
  else s.toothAccept t tick d e unal

/-- The tooth unit takes an edge released by the event log: stamp less the filter time (R142). -/
def State.toothEdge (s : State) (t : Fin 16) (stamp : Nat) (unal : Bool) : State :=
  if !s.toothOn t then s
  else
    let tick := stamp - (s.fld (P.tooth t) F.TOOTH_CTRL_FILT_US * 625 + 1) / 2
    let s := s.toothCatchUp t tick 9
    let n := (s.tooth t).last
    let s1 := match n, (s.tooth t).texp with
      | some l, some e => s.toothJudge t tick (tick - l.tick) e unal
      | _, _ =>
        let a := s.toothPlain t tick unal
        if s.toothSt t == 2 && s.toothAtRef t then a.toothSyncLoss t else a
    let s2 := if (s1.tooth t).last = n then s1 else s1.toothAnchor s t
    s2.toothShow t

/-- The time since the last real tooth exceeds TOOTH_STILL µs: T_exp is unknown, STILL sets (R150). -/
def execToothStill (t : Fin 16) (s : State) : Out :=
  .next (match (s.tooth t).lastReal with
    | some l =>
      if s.toothOn t && decide (625 * max 1 (bits (s.rd (P.tooth t + R.TOOTH_STILL)) 0 24) < 2 * (s.now - l)) then
        ((s.setTooth t fun u => { u with texp := none, outRun := 0 }).setb (P.tooth t) F.TOOTH_STATUS_STILL true).toothShow t
      else s
    | none => s)

/-! Registers (R142, R143, R151). -/

/-- A write of TOOTH_CTRL: stored, forwarded to the Slate, and the unit enters SEARCH when EN is set or at RESEARCH. -/
def State.writeToothCtrl (s : State) (t : Fin 16) (v : Nat) : State :=
  let was := s.toothOn t
  let s := s.wr (P.tooth t + R.TOOTH_CTRL) (v &&& 0xFFFF3D)
  let s := match slate? (t.val / 2) with
    | some i => s.forward i (auxOff (t.val % 2)) (s.auxWord i (t.val % 2)) 0xFFFFFFFF
    | none => s
  if v % 2 = 0 then
    if was then (s.setTooth t fun u => { u with vrun := 0 }).toothEnter t 0 else s
  else if !was then
    let s := s.setTooth t fun u => { pos := u.pos, turn := u.turn }
    ((s.toothSearch t).setb (P.tooth t) F.TOOTH_STATUS_STILL false).toothShow t
  else if bits v 1 1 = 1 then (s.toothSearch t).toothShow t
  else s.toothShow t

def execToothEnable (t : Fin 16) (v : BitVec 24) (s : State) : Out := .next (s.writeToothCtrl t v.toNat)

/-- TOOTH_CTRL.RESEARCH. -/
def execResearch (t : Fin 16) (s : State) : Out :=
  .next (if s.toothOn t then (s.toothSearch t).toothShow t else s)

/-- A read of TOOTH_POS latches the turn count and tick for the requester (R151). -/
def State.readToothPos (s : State) (q : Nat) (t : Fin 16) : State :=
  let u := s.tooth t
  let p := P.tooth t
  let k := (u.last.map (·.tick)).getD 0
  (((s.latch q (p + R.TOOTH_TURN) u.turn).latch q (p + R.TOOTH_LAST_TICK_LO) (k % 2 ^ 32)).latch q (p + R.TOOTH_LAST_TICK_HI)
    (k / 2 ^ 32 % 2 ^ 32)).answer q (p + R.TOOTH_POS) u.pos

def execToothPosRead (q : Fin 514) (t : Fin 16) (s : State) : Out := .next (s.readToothPos q.val t)

end Sys2Proof.Machine
end

