-- ==== Sys2Proof/Machine/Motion.lean ====
section
/-! DEFINITION. Numbers of the loop units and the profile generators: sine and cosine, jerk-limited ramps and plans
(R163, R167, R228, R229). -/
namespace Sys2Proof.Machine
open Sys2Proof

/-! Sine. -/

/-- π in units of 2⁻⁶⁰. -/
abbrev pi60 : Int := 3622009729038561421

/-- The Taylor series of the sine from term k, `x` and `term` in units of 2⁻⁶⁰. -/
def sinSeries : Nat → Int → Int → Int → Int
  | 0, _, _, acc => acc
  | n + 1, x2, term, acc =>
    let k : Int := 2 * (13 - (n + 1 : Nat))
    let t := -(term * x2 / 2 ^ 60) / ((k + 2) * (k + 3))
    sinSeries n x2 t (acc + t)

/-- sin of an angle in [−1/4, 1/4] turn, in units of 2⁻⁶⁴ turn; the result in units of 2⁻⁶⁰. -/
def sinQuarter (a : Int) : Int :=
  let x := 2 * pi60 * a / 2 ^ 64
  sinSeries 13 (x * x / 2 ^ 60) x x

/-- sin of any angle in units of 2⁻⁶⁴ turn. -/
def sin60 (a : Int) : Int :=
  let b := a % 2 ^ 64
  if b < 2 ^ 62 then sinQuarter b
  else if b < 3 * 2 ^ 62 then sinQuarter (2 ^ 63 - b)
  else sinQuarter (b - 2 ^ 64)
def cos60 (a : Int) : Int := sin60 (a + 2 ^ 62)

/-! Ramps. Units of a plan (State.lean): x in 1/(6U³) counts, V in 1/(2U²) counts/s, A in 1/U counts/s², jerk in counts/s³. -/

/-- Units of 1/256 tick in a second. -/
abbrev unitU : Nat := 80000000000
/-- Units of x in 2⁻¹⁶ counts. -/
abbrev unitX : Nat := 6 * unitU ^ 3 / 2 ^ 16

/-- One segment of jerk `j` and duration `t`. -/
def segStep (s : Int × Int × Int) (j : Int) (t : Nat) : Int × Int × Int :=
  (s.1 + 3 * s.2.1 * t + 3 * s.2.2 * t ^ 2 + j * t ^ 3, s.2.1 + 2 * s.2.2 * t + j * t ^ 2, s.2.2 + j * t)

/-- num / den to the nearest natural number. -/
def roundN (num : Int) (den : Nat) : Nat := (roundQ num den).toNat

/-- The velocity at which the acceleration alone would end: V + A|A|/J. -/
def freeV (v a : Int) (j : Nat) : Int := v + a * a.natAbs / (j : Int)

/-- Three segments from (V, A) to velocity `vt` with zero acceleration, at most `lim` in acceleration and `j` in jerk. -/
def ramp (v a vt : Int) (lim : Nat) (j : Nat) : List (Int × Nat) :=
  let d : Int := if freeV v a j ≤ vt then 1 else -1
  let w := d * (vt - v)
  let b := d * a
  let peak : Int := min lim (isqrt ((j * w + b * b) / 2).toNat)
  let up : Int := if b ≤ peak then j else -j
  let t1 := roundN (peak - b).natAbs j
  let s1 := segStep (0, d * v, b) up t1
  let t3 := roundN (max 0 s1.2.2) j
  let dv3 := 2 * s1.2.2 * t3 - j * t3 ^ 2
  let t2 := if s1.2.2 ≤ 0 then 0 else roundN (d * vt - s1.2.1 - dv3) (2 * s1.2.2).toNat
  [(d * up, t1), (0, t2), (-d * j, t3)]

/-- The acceleration limit of a change of velocity (R228): AMAX while |v| increases, DMAX while it decreases, the lesser of
both where the velocity changes sign. -/
def rampLim (v vt : Int) (amax dmax : Nat) : Nat :=
  if (v < 0 ∧ 0 < vt) ∨ (vt < 0 ∧ 0 < v) then min amax dmax
  else if v.natAbs ≤ vt.natAbs then amax else dmax

/-- Where the segments lead from a state. -/
def runSegs (s : Int × Int × Int) (l : List (Int × Nat)) : Int × Int × Int := l.foldl (fun s e => segStep s e.1 e.2) s

/-- Limits in plan units. -/
structure Limits where
  v : Nat := 0
  a : Nat := 0
  d : Nat := 0
  j : Nat := 0
  deriving DecidableEq, Repr

def rampTo (l : Limits) (v a vt : Int) : List (Int × Nat) := ramp v a vt (rampLim v vt l.a l.d) l.j

/-- Displacement of the ramp to `vc` and the ramp from there to rest. -/
def moveDist (l : Limits) (v a vc : Int) : Int :=
  (runSegs (0, v, a) (rampTo l v a vc)).1 + (runSegs (0, vc, 0) (rampTo l vc 0 0)).1

/-- The greatest cruise velocity in (lo, lo + 2ⁿ·step] whose displacement does not pass the goal, bit by bit. -/
def searchVc (l : Limits) (v a goal : Int) : Nat → Int → Int
  | 0, lo => lo
  | n + 1, lo =>
    let m := lo + 2 ^ n
    if m ≤ l.v ∧ moveDist l v a m ≤ goal then searchVc l v a goal n m else searchVc l v a goal n lo

/-- The plan of a MOVE from (x, V, A) to `goal` (R228): seven segments. -/
def planMove (l : Limits) (x v a goal : Int) : Plan :=
  let g := goal - x
  let lo : Int := -(l.v : Int)
  let vc := if g ≤ moveDist l v a lo then lo else searchVc l v a g (Nat.log2 (2 * l.v + 1) + 1) lo
  let rest := g - moveDist l v a vc
  let t := if vc = 0 then 0 else (rest / (3 * vc)).toNat
  { x := x, v := v, a := a, up := rampTo l v a vc, vc := vc, cruise := some t, down := rampTo l vc 0 0, goal := some goal }

/-- The plan of a VEL (R228): ramp to the velocity and hold it. -/
def planVel (l : Limits) (x v a vt : Int) : Plan :=
  let w := clampI (-(l.v : Int)) l.v vt
  { x := x, v := v, a := a, up := rampTo l v a w, vc := w, cruise := none }

/-- The segments of a stop (R229): to rest without a reversal; where the acceleration alone would reverse the motion, the
velocity reaches 0 while it is being reduced. -/
def stopSegs (v a : Int) (dec jerk : Nat) : List (Int × Nat) :=
  if v = 0 then []
  else
    let d := v.sign
    if freeV (d * v) (d * a) jerk < 0 then
      let b := (d * a).natAbs
      [(d * jerk, roundN ((b : Int) - isqrt (b * b - jerk * v.natAbs)) jerk)]
    else ramp v a 0 dec jerk
def planStop (x v a : Int) (dec jerk : Nat) : Plan := { x := x, v := v, a := a, up := stopSegs v a dec jerk }

/-- Follow segments for at most `t`: the state and what is left of the time, or none of it inside a segment. -/
def walk (s : Int × Int × Int) : List (Int × Nat) → Nat → (Int × Int × Int) × Option Nat
  | [], t => (s, some t)
  | (j, d) :: l, t => if t < d then (segStep s j t, none) else walk (segStep s j d) l (t - d)

/-- The state of a plan at time `t`, and whether the plan has ended. -/
def Plan.at (p : Plan) (t : Nat) : (Int × Int × Int) × Bool :=
  match walk (p.x, p.v, p.a) p.up t with
  | (s, none) => (s, false)
  | (s, some t) => match p.cruise with
    | none => ((s.1 + 3 * p.vc * t, p.vc, 0), false)
    | some c =>
      if t < c then ((s.1 + 3 * p.vc * t, p.vc, 0), false)
      else match walk (s.1 + 3 * p.vc * c, p.vc, 0) p.down (t - c) with
        | (s, none) => (s, false)
        | (s, some _) => ((p.goal.getD s.1, 0, 0), true)

end Sys2Proof.Machine
end

