-- ==== Sys2Proof/Machine/Profile.lean ====
section
/-! DEFINITION. Profile generators, branches and interpolation groups (10_motion_profiles_and_trunks.md, R225-R230, R238-R244). -/
namespace Sys2Proof.Machine
open Sys2Proof

def State.prf (s : State) (a : Fin 64) : Profile := (s.axis a).prf
def State.loopOf (s : State) (a : Fin 64) : LoopSlot := (s.axis a).loop

/-! Running conditions, time base (R225, R226). -/

/-- RUN is 1 and the shadow of PWM_CTRL.EN is 1. -/
def State.prfOn (s : State) (a : Fin 64) : Bool :=
  s.flag (P.loop a) F.LOOP_CTRL_RUN && s.sh (P.pwm a + R.PWM_CTRL) % 2 == 1

/-- The servo period in units of 1/256 tick: k_v × k_p sampling intervals of the carrier in force. -/
def State.servoUnits (s : State) (a : Fin 64) : Nat :=
  let g := (s.loopOf a).graph.getD {}
  (if s.carDouble (slateOf a) then 2 else 4) * s.carT (slateOf a) * g.kv * g.kp

/-- The reference instant of the next set-point, in units of Granite's time. -/
def State.refInstant (s : State) (a : Fin 64) : Int :=
  256 * (s.loopOf a).posStamp + s.servoUnits a + 256 * toSigned 16 (s.rd (P.profile a + R.PRF_LEAD))

/-- The Granite tick nearest a reference instant. -/
def refTick (u : Int) : Nat := (roundQ u 256).toNat

/-! Status (Table 10-4). -/

def prfCode : PrfSt → Nat
  | .idle => 0 | .move => 1 | .vel => 2 | .engaging => 3 | .geared => 4 | .stopping => 5 | .path => 6

/-- STATE, ENGAGING, ENGAGED, LAMBDA and the quotient in force as the registers show them. -/
def State.prfShow (s : State) (a : Fin 64) : State :=
  let p := s.prf a
  let g := P.profile a
  let s := s.setf g F.PRF_STATUS_STATE (prfCode p.st)
  let s := (s.setb g F.BR_STATUS_ENGAGING (p.st == .engaging)).setb g F.BR_STATUS_ENGAGED (p.st == .geared)
  (s.setf g F.BR_STATUS_LAMBDA p.br.lambda).setb g F.PRF_STATUS_HOLD (decide (p.sp.ilim < (s.reg (g + R.PRF_ILIM)).toInt))

/-- The generator enters a state; IDLE starts the delay of R230. -/
def State.prfEnter (s : State) (a : Fin 64) (st : PrfSt) : State :=
  s.setPrf a fun p => { p with st := st, t := 0, idleAt := if st = .idle then s.now else p.idleAt }

/-! Limits and ramps. -/

/-- A limit register in plan units: VMAX is UQ27.4 counts/s, the accelerations 16 counts/s², the jerks 4,096 counts/s³. -/
def velUnits (q4 : Int) : Int := q4 * (unitU ^ 2 / 8 : Nat)
def accUnits (n : Nat) : Nat := n * 16 * unitU
def jerkUnits (n : Nat) : Nat := n * 4096

def limitsOf (l : Vector Nat 4) : Limits := ⟨(velUnits l[0]).toNat, accUnits l[1], accUnits l[2], jerkUnits l[3]⟩

/-- VMAX, AMAX, DMAX, JMAX as they stand. -/
def State.prfLim (s : State) (a : Fin 64) : Vector Nat 4 :=
  let r (o : Nat) := s.rd (P.profile a + o)
  #v[r R.PRF_VMAX % 2 ^ 31, r R.PRF_AMAX, r R.PRF_DMAX, r R.PRF_JMAX]

/-- STOP_DEC and STOP_JERK, 0 acting as the largest value. -/
def State.stopLim (s : State) (a : Fin 64) : Nat × Nat :=
  let z (n : Nat) := if n = 0 then 0xFFFFFFFF else n
  (accUnits (z (s.rd (P.profile a + R.PRF_STOP_DEC))), jerkUnits (z (s.rd (P.profile a + R.PRF_STOP_JERK))))

/-! Set-points. -/

/-- Position of a plan state in Q48.16, and the set-point with it. -/
def xOf (x : Int) : Int := wrap64 (roundQ x unitX)
def SetPoint.upTo (p : SetPoint) (st : Int × Int × Int) : SetPoint := { p with x := xOf st.1, v := st.2.1, a := st.2.2 }

/-- The set-point the next one is formed from: the one computed last. -/
def Profile.cur (p : Profile) : SetPoint := p.nx.getD p.sp

/-- ILIM_SP (R230): PRF_ILIM, falling over 64 servo periods to PRF_ILIM × FRAC / 256 once IDLE has lasted DLY ms. -/
def State.ilimStep (s : State) (a : Fin 64) : Nat :=
  let p := s.prf a
  let dly := min 10000 (s.fld (P.profile a) F.PRF_HOLD_DLY)
  if p.st = .idle ∧ p.idleAt + dly * 312500 ≤ s.now then min 64 (p.ramp + 1) else 0
def State.ilimSp (s : State) (a : Fin 64) (n : Nat) : Int :=
  let i := (s.reg (P.profile a + R.PRF_ILIM)).toInt
  i - roundQ (i * (256 - (s.fld (P.profile a) F.PRF_HOLD_FRAC : Int)) * n) (256 * 64)

/-! Branches (R238-R240). -/

/-- Trunk of the branch. -/
def State.brTrunk (s : State) (a : Fin 64) : Fin 8 := ⟨(s.prf a).br.trunk % 8, by omega⟩

/-- x_sp of a geared axis: OFS + x_T × NUM / DEN, rounded once. -/
def Branch.gearX (b : Branch) (xt : Int) : Int := b.ofs + roundQ (xt * b.num) (b.den * 2 ^ 16)
/-- A velocity q × v_T in plan units, q in 2⁻⁶⁴. -/
def Branch.vel (q vt : Int) : Int := roundQ (q * vt * (2 * unitU ^ 2 : Nat)) (2 ^ 96)

/-- q₁ in units of 2⁻⁶⁴. -/
def Branch.q1 (b : Branch) : Int := roundQ (b.num * 2 ^ 64) b.den

/-- λ and L as the numerator and denominator of R239: an ENG_LEN of 0 gives λ = 1. -/
def Branch.lam (b : Branch) (d : Int) : Nat × Nat := if b.len = 0 then (1, 1) else (min d.natAbs b.len, b.len)

/-- q during an engagement. -/
def Branch.blend (b : Branch) (d : Int) : Int :=
  let (n, l) := b.lam d
  b.q0 + roundQ ((b.q1 - b.q0) * (3 * n ^ 2 * l - 2 * n ^ 3)) (l ^ 3)

/-- x_sp during an engagement: x_A0 + q₀ d + sign(d)(q₁ − q₀) L (λ³ − λ⁴/2), rounded once to Q48.16. -/
def Branch.engX (b : Branch) (d : Int) : Int :=
  let (n, l) := b.lam d
  b.xa0 + roundQ (b.q0 * d * (2 * l ^ 4) + d.sign * (b.q1 - b.q0) * b.len * (2 * n ^ 3 * l - n ^ 4)) (2 * l ^ 4 * 2 ^ 80)

/-- α during an engagement: the rate of q times v_T. -/
def Branch.engA (b : Branch) (d vt : Int) : Int :=
  let (n, l) := b.lam d
  if b.len = 0 ∨ l ≤ n then 0
  else roundQ (d.sign * (b.q1 - b.q0) * 6 * (n * l - n ^ 2) * vt ^ 2 * unitU) (l ^ 3 * 2 ^ 96)

/-- The quotient in force: a geared axis holds q₁ exactly. -/
def Branch.follow (b : Branch) (p : SetPoint) (xt vt : Int) : SetPoint :=
  { p with x := wrap64 (b.gearX xt), v := roundQ (vt * b.num * (2 * unitU ^ 2 : Nat)) (b.den * 2 ^ 32), a := 0 }

/-- The engagement completes (R239): the offset in force; with OFS_MODE 1 the superimposed move starts (R240). -/
def State.engDone (s : State) (a : Fin 64) (x xt : Int) : State :=
  let b := (s.prf a).br
  let ofs := wrap64 (x - roundQ (xt * b.num) (b.den * 2 ^ 16))
  let want := toSigned 64 (s.rd64 (P.profile a) R.BR_OFS_LO)
  let sup := if s.flag (P.profile a) F.BR_CTRL_OFS_MODE then
      some (planMove (limitsOf (s.prf a).lim) 0 0 0 ((want - ofs) * unitX)) else none
  s.setPrf a fun p => { p with
    br := { p.br with ofs := ofs, q := p.br.q1, lambda := 0xFFFF, sup := sup, supT := 0 }
    st := if sup.isSome then .engaging else .geared }

/-- One servo period of a branch at the reference instant `ref`. -/
def State.branchStep (s : State) (a : Fin 64) (ref : Int) (per : Nat) : State × SetPoint :=
  let k := s.brTrunk a
  let s := s.trkAsk k (refTick ref)
  let (xt, vt) := s.trkAt k (refTick ref)
  let p := s.prf a
  let b := p.br
  if p.st = .geared then (s, b.follow p.cur xt vt)
  else match b.sup with
    | some m =>
      let t := b.supT + per
      let r := m.at t
      let base := b.follow p.cur xt vt
      if r.2 then
        let ofs := wrap64 (b.ofs + xOf r.1.1)
        let s := s.setPrf a fun p => { p with st := .geared, br := { p.br with sup := none, ofs := ofs } }
        (s, (s.prf a).br.follow p.cur xt vt)
      else (s.setPrf a fun p => { p with br := { p.br with supT := t } },
            { base with x := wrap64 (base.x + xOf r.1.1), v := base.v + r.1.2.1, a := base.a + r.1.2.2 })
    | none =>
      let d := xt - b.xt0
      let x := wrap64 (b.engX d)
      let q := b.blend d
      let (n, l) := b.lam d
      let s := s.setPrf a fun p => { p with br := { p.br with q := q, lambda := min 0xFFFF (n * 65536 / l) } }
      if l ≤ n then (s.engDone a x xt, { p.cur with x := x, v := Branch.vel q vt, a := 0 })
      else (s, { p.cur with x := x, v := Branch.vel q vt, a := b.engA d vt })

/-! Group paths (R241, R242). -/

/-- Axis in slot j of the grove of `a`. -/
def slotAxis (a : Fin 64) (j : Nat) : Fin 64 := ⟨4 * (a.val / 4) + j % 4, by omega⟩
def State.grpOn (s : State) (a : Fin 64) : Bool := s.flag (P.profile a) F.PRF_GRP_EN
def State.grpLead (s : State) (a : Fin 64) : Fin 64 := slotAxis a (s.fld (P.profile a) F.PRF_GRP_LEAD)
def State.grpMember (s : State) (a : Fin 64) : Nat := s.fld (P.profile a) F.PRF_GRP_MEMBER
/-- The members of the group a leads. -/
def State.members (s : State) (a : Fin 64) : List (Fin 64) :=
  ((List.range 4).map (slotAxis a)).filter fun m => s.grpOn m && s.grpLead m == a
/-- The axes that follow the same path as `a`. -/
def State.pathAxes (s : State) (a : Fin 64) : List (Fin 64) :=
  ((List.range 4).map (slotAxis a)).filter fun m => (s.prf m).path.len != 0 && (s.prf m).path.lead == (s.prf a).path.lead

def State.prfTarget (s : State) (a : Fin 64) : Int := toSigned 64 (s.rd64 (P.profile a) R.PRF_TARGET_LO)
def State.prfCentre (s : State) (a : Fin 64) : Int := toSigned 64 (s.rd64 (P.profile a) R.PRF_CENTRE_LO)

/-- The member with a number. -/
def State.memberNo (s : State) (l : List (Fin 64)) (n : Nat) : Option (Fin 64) := l.find? fun m => s.grpMember m == n

/-- Radius components (x₀₀, x₁₀) less the centre in Q48.16, for a circle. -/
def State.radius (s : State) (l : List (Fin 64)) : Option (Int × Int) := match s.memberNo l 0, s.memberNo l 1 with
  | some m0, some m1 => some ((s.prf m0).cur.x - s.prfCentre m0 * 2 ^ 16, (s.prf m1).cur.x - s.prfCentre m1 * 2 ^ 16)
  | _, _ => none

/-- The conditions of R241 on a PATH of lead `a`. -/
def State.pathOk (s : State) (a : Fin 64) : Bool :=
  let l := s.members a
  let g (m : Fin 64) := let x := (s.loopOf m).graph.getD {}; x.kv * x.kp
  let code := s.fld (P.profile a) F.PRF_CTRL_PATH
  decide (2 ≤ l.length) && l.contains a && s.grpMember a == 0 && decide ((l.map s.grpMember).Nodup) &&
    l.all (fun m => s.axisDom m == s.axisDom a && g m == g a && (s.prf m).st == .idle) && decide (code ≤ 1) &&
    (code == 0 || (match s.radius l with | some r => r != (0, 0) | none => false))

/-- A member's part: linear by its target, or one of the two members on the circle. `len` is S in plan units. -/
def State.pathPart (s : State) (lead m : Fin 64) (plan : Plan) (t0 : Int) (len : Nat) (circ : Option (Int × Int)) : PathPart :=
  let x0 := (s.prf m).cur.x
  let base : PathPart := { lead := lead, plan := plan, t0 := t0, len := len, x0 := x0 }
  match circ with
  | some (rx, ry) =>
    if s.grpMember m ≤ 1 then { base with
      role := 1 + s.grpMember m, centre := s.prfCentre m * 2 ^ 16, rx := rx, ry := ry
      sweep := toSigned 32 (s.rd (P.profile lead + R.PRF_SWEEP)) }
    else { base with delta := s.prfTarget m * 2 ^ 16 - x0 }
  | none => { base with delta := s.prfTarget m * 2 ^ 16 - x0 }

/-- S in units of 2⁻¹⁶ counts squared: ΣΔ², and the arc of a circle. -/
def State.pathLen2 (s : State) (lead : Fin 64) (l : List (Fin 64)) (circ : Option (Int × Int)) : Nat :=
  let lin := l.foldl (fun n m =>
    if circ.isSome && decide (s.grpMember m ≤ 1) then n else n + ((s.prfTarget m * 2 ^ 16 - (s.prf m).cur.x) ^ 2).natAbs) 0
  match circ with
  | none => lin
  | some (rx, ry) =>
    let sw := toSigned 32 (s.rd (P.profile lead + R.PRF_SWEEP))
    lin + ((rx ^ 2 + ry ^ 2) * (2 * pi60 * sw) ^ 2 / 2 ^ 168).natAbs

/-- A PATH is accepted (R242): the lead's profile of the path length, shared by the members. -/
def State.startPath (s : State) (a : Fin 64) : State :=
  let l := s.members a
  let circ := if s.fld (P.profile a) F.PRF_CTRL_PATH = 1 then s.radius l else none
  let len := isqrt (s.pathLen2 a l circ * unitX ^ 2)
  if len = 0 then s
  else
    let t0 := l.foldl (fun t m => max t (s.prf m).ref) (s.prf a).ref
    let plan := planMove (limitsOf (s.prfLim a)) 0 0 0 len
    forEach (l.map fun m => (m, s.pathPart a m plan t0 len circ)) s fun e t =>
      t.setPrf e.1 fun p => { p with st := .path, path := e.2, ramp := 0 }

/-- A member's set-point at its reference instant, and whether the path has ended there. -/
def PathPart.at (q : PathPart) (p : SetPoint) (ref : Int) : SetPoint × Bool :=
  let r := q.plan.at (ref - q.t0).toNat
  let n := r.1.1
  let l : Int := q.len
  if q.role = 0 then
    ({ p with x := wrap64 (q.x0 + roundQ (q.delta * n) q.len), v := q.delta * r.1.2.1 * unitX / l, a := q.delta * r.1.2.2 * unitX / l }, r.2)
  else
    let ang := q.sweep * n * 2 ^ 40 / l
    let c := cos60 ang
    let w := sin60 ang
    let (u, d) := if q.role = 1 then (q.rx * c - q.ry * w, -(q.rx * w) - q.ry * c) else (q.rx * w + q.ry * c, q.rx * c - q.ry * w)
    let (u2, turns) := (-u, 2 * pi60 * q.sweep)
    let vs := turns * r.1.2.1 * unitX
    let v := d * vs / (l * 2 ^ 144)
    let a2 := u2 * turns ^ 2 * unitX ^ 2 * r.1.2.1 ^ 2 / (l ^ 2 * 2 ^ 212 * (4 * unitU ^ 3 : Nat))
    ({ p with x := wrap64 (q.centre + roundQ u (2 ^ 60)), v := v, a := d * turns * r.1.2.2 * unitX / (l * 2 ^ 144) + a2 }, r.2)

/-! Stops (R229, R240, R242). -/

/-- STOP_WHY. -/
def State.setWhy (s : State) (a : Fin 64) (why : Nat) : State := s.setf (P.profile a) F.PRF_STATUS_STOP_WHY why

/-- The group of `a` stops along its path with the lead's ramp, from the latest reference instant of its members. -/
def State.stopPath (s : State) (a : Fin 64) : State :=
  let l := s.pathAxes a
  match axis? (s.prf a).path.lead with
  | none => s
  | some lead =>
    let q := (s.prf a).path
    let t0 := l.foldl (fun t m => max t (s.prf m).ref) (s.prf a).ref
    let r := (q.plan.at (t0 - q.t0).toNat).1
    let lim := s.stopLim lead
    let plan := planStop r.1 r.2.1 r.2.2 lim.1 lim.2
    forEach l s fun m t => (if m = a then t else t.setWhy m 3).setPrf m fun p => { p with
      st := .stopping, path := { p.path with plan := plan, t0 := t0 } }

/-- A stop takes effect with the present set-point `sp`. -/
def State.prfStop (s : State) (a : Fin 64) (why : Nat) (sp : SetPoint) : State :=
  let s := s.setWhy a why
  let p := s.prf a
  if p.st = .stopping then s
  else if p.st = .path then s.stopPath a
  else
    let lim := s.stopLim a
    (s.setPrf a fun p => { p with
      st := .stopping, t := 0, ramp := 0, br := { p.br with sup := none }
      plan := planStop (sp.x * unitX) sp.v sp.a lim.1 lim.2 })

/-! Cancellation (R225). -/

/-- RUN or EN as they stand now: where a condition has been lost, motion is cancelled; where both hold again, the set-point
starts at c. -/
def State.prfGate (s : State) (a : Fin 64) : State :=
  let p := s.prf a
  let on := s.prfOn a
  if on = p.on then s
  else
    let busy := p.st ≠ .idle
    let s := if !on && p.path.len != 0 then
        let lead := match axis? p.path.lead with | some x => x | none => a
        ((s.stopPath a).err (P.profile lead) E.profile_GRP_BREAK)
      else s
    let s := s.errIf busy (P.profile a) E.profile_CANCEL
    let c := wrap64 ((s.loopOf a).c * 2 ^ 16)
    let i := (s.reg (P.profile a + R.PRF_ILIM)).toInt
    (s.setPrf a fun p => { p with
      st := .idle, on := on, sp := ⟨c, 0, 0, i⟩, nx := none, plan := {}, t := 0, br := { p.br with sup := none }
      path := {}, idleAt := s.now, ramp := 0, stopAsk := none }).prfShow a

/-! Commands (R227, R228, R238, R239). -/

/-- A command is rejected with a reason. -/
def State.prfReject (s : State) (a : Fin 64) (why : Nat) : State :=
  (s.setf (P.profile a) F.PRF_STATUS_LAST_REJ why).err (P.profile a) E.profile_CMD_REJ

/-- A group member other than the lead. -/
def State.grpFollower (s : State) (a : Fin 64) : Bool := s.grpOn a && s.grpLead a != a

/-- MOVE, VEL and PATH: the reason of a rejection, 0 for none, tested in the order of R227. A command of a group member on a
path is turned away with the group's reason. -/
def State.moveRej (s : State) (a : Fin 64) (need : List Nat) (path : Bool) : Nat :=
  if need.contains 0 then 1
  else if (s.prf a).st = .stopping then 2
  else if s.grpFollower a then 3
  else if path && !s.pathOk a then 4
  else if !path && (s.prf a).st == .path then 4
  else 0

/-- The conditions of R238 on a GEAR, at the trunk velocity `vt`. -/
def State.gearOk (s : State) (a : Fin 64) (k : Fin 8) (sp : SetPoint) (vt : Int) : Bool :=
  s.rd (P.profile a + R.BR_DEN) != 0 && s.trkOn k && s.flag (P.trunk k) F.TRK_STATUS_VALID &&
    (s.ownerReg (P.trunk k) == 0 || s.ownerReg (P.trunk k) == s.axisDom a) && !s.grpOn a && !(sp.v != 0 && vt == 0)

/-- An accepted GEAR: the engagement starts at this reference instant. -/
def State.startGear (s : State) (a : Fin 64) (k : Fin 8) (sp : SetPoint) (xt vt : Int) : State :=
  let g := P.profile a
  let num := (s.reg (g + R.BR_NUM)).toInt
  let den := s.rd (g + R.BR_DEN)
  let p := s.prf a
  let q0 := if p.st = .engaging ∨ p.st = .geared then p.br.q
    else if vt = 0 then 0 else vt.sign * roundQ (sp.v * 2 ^ 96) (vt.natAbs * (2 * unitU ^ 2))
  let s := (s.wr (g + R.BR_NUM_NOW) (s.rd (g + R.BR_NUM))).wr (g + R.BR_DEN_NOW) den
  let lim := s.prfLim a
  let s := s.setPrf a fun p => { p with
    st := .engaging, ramp := 0, lim := lim
    br := { trunk := k, num := num, den := den, q0 := q0, q := q0, xa0 := sp.x, xt0 := xt, ofs := p.br.ofs
            len := s.rd64 g R.BR_ENG_LEN_LO } }
  if (s.prf a).br.len = 0 then s.engDone a sp.x xt else s

/-- GEAR (R227, R238, R239). -/
def State.cmdGear (s : State) (a : Fin 64) (sp : SetPoint) (ref : Int) : State :=
  let k : Fin 8 := ⟨s.fld (P.profile a) F.BR_CTRL_TRUNK % 8, by omega⟩
  let s := s.trkAsk k (refTick ref)
  let (xt, vt) := s.trkAt k (refTick ref)
  if s.flag (P.profile a) F.BR_CTRL_OFS_MODE && (s.prfLim a).toList.contains 0 then s.prfReject a 1
  else if (s.prf a).st = .stopping then s.prfReject a 2
  else if !s.gearOk a k sp vt then s.prfReject a 5
  else s.startGear a k sp xt vt

/-- MOVE and VEL replan from the present state; the branch is disengaged. -/
def State.cmdPlan (s : State) (a : Fin 64) (st : PrfSt) (plan : Plan) : State :=
  let lim := s.prfLim a
  (s.setb (P.profile a) F.PRF_STATUS_AT_TARGET false).setPrf a fun p => { p with
    st := st, plan := plan, t := 0, ramp := 0, lim := lim, br := { p.br with sup := none } }

def State.cmdMove (s : State) (a : Fin 64) (sp : SetPoint) : State :=
  let l := s.prfLim a
  let r := s.moveRej a l.toList false
  if r ≠ 0 then s.prfReject a r
  else
    let t := s.prfTarget a * 2 ^ 16 + if s.flag (P.profile a) F.PRF_CTRL_REL then sp.x else 0
    s.cmdPlan a .move (planMove (limitsOf l) (sp.x * unitX) sp.v sp.a (t * unitX))

def State.cmdVel (s : State) (a : Fin 64) (sp : SetPoint) : State :=
  let l := s.prfLim a
  let r := s.moveRej a l.toList false
  if r ≠ 0 then s.prfReject a r
  else s.cmdPlan a .vel (planVel (limitsOf l) (sp.x * unitX) sp.v sp.a (velUnits (s.reg (P.profile a + R.PRF_VEL_TGT)).toInt))

def State.cmdPath (s : State) (a : Fin 64) : State :=
  let r := s.moveRej a (s.prfLim a).toList true
  if r ≠ 0 then s.prfReject a r else (s.setb (P.profile a) F.PRF_STATUS_AT_TARGET false).startPath a

/-- The command bits of PRF_CMD are taken: one of them, in the order STOP, PATH, GEAR, VEL, MOVE (R227). -/
def State.takeCmd (s : State) (a : Fin 64) (sp : SetPoint) (ref : Int) : State :=
  let c := s.rd (P.profile a + R.PRF_CMD)
  let s := s.wr (P.profile a + R.PRF_CMD) 0
  if bits c 3 1 = 1 then s.prfStop a 1 sp
  else if bits c 4 1 = 1 then s.cmdPath a
  else if bits c 2 1 = 1 then s.cmdGear a sp ref
  else if bits c 1 1 = 1 then s.cmdVel a sp
  else if bits c 0 1 = 1 then s.cmdMove a sp
  else s

/-! The set-point of a servo period (R226). -/

/-- The motion in progress at the reference instant `ref`, one servo period `per` after the last. -/
def State.prfMotion (s : State) (a : Fin 64) (ref : Int) (per : Nat) : State × SetPoint :=
  let p := s.prf a
  match p.st with
  | .idle => (s, { p.cur with v := 0, a := 0 })
  | .engaging | .geared => s.branchStep a ref per
  | .path =>
    let r := p.path.at p.cur ref
    if r.2 then ((s.prfEnter a .idle).setPrf a fun p => { p with path := {} }, { r.1 with v := 0, a := 0 }) else (s, r.1)
  | .move | .vel | .stopping =>
    if p.path.len ≠ 0 then
      let r := p.path.at p.cur ref
      if r.2 then ((s.prfEnter a .idle).setPrf a fun p => { p with path := {} }, { r.1 with v := 0, a := 0 }) else (s, r.1)
    else
      let t := p.t + per
      let r := p.plan.at t
      let s1 := s.setPrf a fun p => { p with t := t }
      if r.2 then ((s1.prfEnter a .idle).setb (P.profile a) F.PRF_STATUS_AT_TARGET
          (p.st == .move || s.flag (P.profile a) F.PRF_STATUS_AT_TARGET), p.cur.upTo r.1)
      else (s1, p.cur.upTo r.1)

/-- The next set-point is computed: the motion in progress, a stop asked for, then the commands. -/
def State.prfComputeAt (s : State) (a : Fin 64) (ref : Int) : State :=
  let s := s.prfGate a
  if !(s.prf a).on || (s.prf a).nx.isSome then s
  else
    let per := s.servoUnits a
    let s := s.setPrf a fun p => { p with ref := ref }
    let m := s.prfMotion a ref per
    let sp := m.2
    let s := match (m.1.prf a).stopAsk with
      | some w => (m.1.setPrf a fun p => { p with stopAsk := none }).prfStop a w sp
      | none => m.1
    let s := s.takeCmd a sp ref
    let n := s.ilimStep a
    let sp := { sp with ilim := s.ilimSp a n }
    (s.setPrf a fun p => { p with nx := some sp, ramp := n }).prfShow a

/-- SETPOINT_COMPUTE: once in each servo period, from the first position cycle on. -/
def execSetpointCompute (a : Fin 64) (s : State) : Out :=
  .next (if (s.loopOf a).posStamp = 0 then s.prfGate a else s.prfComputeAt a (s.refInstant a))

/-- PRF_LEAD. -/
def State.prfLead (s : State) (a : Fin 64) : Int := toSigned 16 (s.rd (P.profile a + R.PRF_LEAD))

/-- The set-point computed comes into force at the input stage of the position cycle whose set has stamp `stamp` (R226);
computed now where it has not been. -/
def State.prfPromote (s : State) (a : Fin 64) (stamp : Nat) : State :=
  let s := s.prfComputeAt a (256 * stamp + 256 * s.prfLead a)
  (s.setPrf a fun p => { p with sp := p.nx.getD p.sp, nx := none }).prfShow a

/-- x_sp in force: c while the generator does not compute (R225). -/
def State.prfX (s : State) (a : Fin 64) : Int := if s.prfOn a then (s.prf a).sp.x else wrap64 ((s.loopOf a).c * 2 ^ 16)

/-- VEL_SP, ACC_SP and ILIM_SP (R226). -/
def State.velSp (s : State) (a : Fin 64) : Int :=
  sat32 (roundQ (8 * (s.prf a).sp.v * (s.reg (P.loop a + R.LOOP_SPD_K)).toInt)
    (unitU ^ 2 * 2 ^ s.fld (P.loop a) F.LOOP_SHIFT_SPD_SH))
def State.accSp (s : State) (a : Fin 64) : Int :=
  sat32 (roundQ ((s.prf a).sp.a * (s.reg (P.profile a + R.PRF_ACC_K)).toInt)
    (unitU * 2 ^ s.fld (P.profile a) F.PRF_ACC_SH_ACC_SH))

/-! Commands as writes of PRF_CMD, and reads (R227, R244). -/

/-- A command bit of PRF_CMD is written with 1: pending until the next set-point computation. -/
def State.prfCmd (s : State) (a : Fin 64) (bit : Nat) : State := s.setbit (P.profile a) R.PRF_CMD bit true

def execMove (a : Fin 64) (s : State) : Out := .next (s.prfCmd a 0)
def execVel (a : Fin 64) (s : State) : Out := .next (s.prfCmd a 1)
def execGear (a : Fin 64) (s : State) : Out := .next (s.prfCmd a 2)
def execStop (a : Fin 64) (s : State) : Out := .next (s.prfCmd a 3)
def execPath (a : Fin 64) (s : State) : Out := .next (s.prfCmd a 4)

/-- v in Q28.4 and α in units of 16 counts/s², as the registers show them. -/
def State.prfVel (s : State) (a : Fin 64) : Nat := ofSigned 32 (sat32 (roundQ (8 * (s.prf a).sp.v) (unitU ^ 2)))
def State.prfAcc (s : State) (a : Fin 64) : Nat := ofSigned 32 (sat32 (roundQ (s.prf a).sp.a (16 * unitU)))

/-- A read of PRF_SP_LO (R244). -/
def State.readPrfSp (s : State) (q : Nat) (a : Fin 64) : State :=
  let g := P.profile a
  let x := ofSigned 64 (s.prfX a)
  (((s.latch q (g + R.PRF_SP_HI) (x / 2 ^ 32)).latch q (g + R.PRF_VEL) (s.prfVel a)).latch q (g + R.PRF_ACC) (s.prfAcc a)).answer q
    (g + R.PRF_SP_LO) (x % 2 ^ 32)

def execPrfSpRead (q : Fin 514) (a : Fin 64) (s : State) : Out := .next (s.readPrfSp q.val a)

/-- A read of BR_OFS_NOW_LO (R244). -/
def State.readBrOfs (s : State) (q : Nat) (a : Fin 64) : State :=
  let g := P.profile a
  let x := ofSigned 64 (s.prf a).br.ofs
  (s.latch q (g + R.BR_OFS_NOW_HI) (x / 2 ^ 32)).answer q (g + R.BR_OFS_NOW_LO) (x % 2 ^ 32)

def execBrOfsNowRead (q : Fin 514) (a : Fin 64) (s : State) : Out := .next (s.readBrOfs q.val a)

end Sys2Proof.Machine
end

