-- ==== Sys2Proof/Machine/Nodes.lean ====
section
/-! DEFINITION. The primitives of a control graph: arithmetic and state of each node (07_loop_units_and_control_graphs.md,
R163, R165-R168). -/
namespace Sys2Proof.Machine
open Sys2Proof

/-! Sine and cosine of a 32-bit angle, in units of 2⁻⁴⁰, with the deviation R163 allows. -/

def sin40 (a : Int) : Int :=
  let b := a % 2 ^ 32
  roundQ (sin60 (b * 2 ^ 32)) (2 ^ 20) + clampI (-4095) 4095 (Config.sinDeviation b.toNat)
def cos40 (a : Int) : Int := sin40 (a + 2 ^ 30)

/-- The constants held to 40 bits: 1/3, 1/√3, √3/2 (log 16). -/
abbrev third40 : Int := 366503875925
abbrev invSqrt3 : Int := 634803334274
abbrev sqrt3half : Int := 952205001410

/-- What a node reads: inputs, COND, parameters and state words. -/
structure NodeIn where
  a : Int := 0
  b : Int := 0
  c : Int := 0
  d : Int := 0
  cond : Bool := false
  p : Vector Int 10 := Vector.replicate 10 0
  s0 : Int := 0
  s1 : Int := 0
  s2 : Int := 0
  deriving DecidableEq, Repr

/-- What a node leaves: outputs A to C and its state words. -/
structure NodeOut where
  a : Int := 0
  b : Int := 0
  c : Int := 0
  s0 : Int := 0
  s1 : Int := 0
  s2 : Int := 0
  deriving DecidableEq, Repr

/-- The state words as they stand. -/
def NodeIn.keep (i : NodeIn) : NodeOut := { s0 := i.s0, s1 := i.s1, s2 := i.s2 }

/-- Round and saturate to a signal (R165). -/
def sig (num : Int) (den : Nat) : Int := sat32 (roundQ num den)
/-- Wrap modulo 2³². -/
def wrap32 (x : Int) : Int := toSigned 32 (ofSigned 32 x)

/-- The flags of LIMIT. -/
abbrev flagHi : Int := 0x7FFFFFFF
abbrev flagLo : Int := -0x80000000

/-- x · m / √n to the nearest integer, halves toward +∞. -/
def scaleRoot (x m : Int) (n : Nat) : Int :=
  let t := x * m
  let q := 4 * t.natAbs ^ 2
  let f := isqrt (q / n)
  if 0 ≤ t then (f + 1 : Int) / 2
  else -((if f * f * n = q then f else f + 1 : Int) / 2)

/-! R166. -/

def nodePi (i : NodeIn) : NodeOut :=
  let e := sat32 (i.a - i.b)
  let y := sig (i.p[0] * e + (i.s0 + i.c) * 2 ^ 24) (2 ^ 24)
  { i.keep with a := y, s0 := wrap32 (i.s0 + roundQ (i.p[1] * e) (2 ^ 24)) }

def nodePid (i : NodeIn) : NodeOut :=
  let e := sat32 (i.a - i.b)
  let s2 := sig (i.s2 * 2 ^ 55 + i.p[3] * (i.p[2] * (e - i.s1) - i.s2 * 2 ^ 25)) (2 ^ 55)
  let y := sig (i.p[0] * e + (i.s0 + i.c) * 2 ^ 24 + s2 * 2 ^ 25) (2 ^ 24)
  { a := y, s0 := wrap32 (i.s0 + roundQ (i.p[1] * e) (2 ^ 24)), s1 := e, s2 := s2 }

def nodeCpi (i : NodeIn) : NodeOut :=
  let e := sat32 (i.a - i.b)
  let y := sig (i.p[0] * e + (i.s0 + i.c) * 2 ^ 24) (2 ^ 24)
  let go := !i.cond || decide (e * i.s1 < 0)
  { i.keep with a := y, s0 := if go then wrap32 (i.s0 + roundQ (i.p[1] * e) (2 ^ 24)) else i.s0, s1 := y }

/-- A second-order section whose coefficients have `q` fraction bits (Table 7-4); the updates use the exact y. -/
def section2 (i : NodeIn) (q : Nat) (b0 b1 b2 a1 a2 : Int) : NodeOut :=
  let y := b0 * i.a + i.s0 * 2 ^ (q + 1)
  { i.keep with
    a := sig y (2 ^ q)
    s0 := sig (b1 * i.a * 2 ^ q - a1 * y + i.s1 * 2 ^ (2 * q + 1)) (2 ^ (2 * q + 1))
    s1 := sig (b2 * i.a * 2 ^ q - a2 * y) (2 ^ (2 * q + 1)) }

def nodeLeadlag (i : NodeIn) : NodeOut :=
  let y := i.p[0] * i.a + i.s0 * 2 ^ 31
  { i.keep with a := sig y (2 ^ 30), s0 := sig (i.p[1] * i.a * 2 ^ 30 - i.p[2] * y) (2 ^ 61) }

/-- LIMIT between `lo` and `hi`. -/
def nodeLimit (i : NodeIn) (lo hi : Int) : NodeOut :=
  let y := max (min i.a hi) lo
  { i.keep with a := sat32 y, b := if min i.a hi < lo then flagLo else if hi < i.a then flagHi else 0 }

def nodeLimitVec (i : NodeIn) : NodeOut :=
  let m := i.p[0]
  let n := (i.a ^ 2 + i.b ^ 2).natAbs
  if m ^ 2 < n then { i.keep with a := sat32 (scaleRoot i.a m n), b := sat32 (scaleRoot i.b m n), c := flagHi }
  else { i.keep with a := i.a, b := i.b }

def nodeDeadband (i : NodeIn) (sub : Bool) : NodeOut :=
  if i.a.natAbs ≤ i.p[0] then i.keep
  else { i.keep with a := if sub then sat32 (i.a - i.a.sign * i.p[0]) else i.a }

/-! Transforms. -/

def nodeClarke (i : NodeIn) (three : Bool) : NodeOut :=
  if three then { i.keep with a := sig ((2 * i.a - i.b - i.c) * third40) (2 ^ 40), b := sig ((i.b - i.c) * invSqrt3) (2 ^ 40) }
  else { i.keep with a := i.a, b := sig ((i.a + 2 * i.b) * invSqrt3) (2 ^ 40) }

def nodePark (i : NodeIn) : NodeOut :=
  let t := i.c + i.p[0]
  { i.keep with a := sig (i.a * cos40 t + i.b * sin40 t) (2 ^ 40), b := sig (i.b * cos40 t - i.a * sin40 t) (2 ^ 40) }

def nodeIpark (i : NodeIn) : NodeOut :=
  let t := i.c + i.p[0] + roundQ (i.p[1] * i.d) (2 ^ 23)
  { i.keep with a := sig (i.a * cos40 t - i.b * sin40 t) (2 ^ 40), b := sig (i.a * sin40 t + i.b * cos40 t) (2 ^ 40) }

def nodeDqdec (i : NodeIn) : NodeOut :=
  { i.keep with a := sig (-(i.p[1] * i.c * i.b)) (2 ^ 55), b := sig (i.p[0] * i.c * i.a + i.p[2] * i.c * 2 ^ 31) (2 ^ 55) }

/-- A duty, in [0, 1 − 2⁻³¹] (R167). -/
def duty (num : Int) (den : Nat) : Int := clampI 0 0x7FFFFFFF (roundQ num den)

def nodeSvm (i : NodeIn) (three : Bool) : NodeOut :=
  if three then
    let va := i.a * 2 ^ 42
    let vb := -(i.a * 2 ^ 41) + 4 * i.b * sqrt3half
    let vc := -(i.a * 2 ^ 41) - 4 * i.b * sqrt3half
    let off := -((max va (max vb vc) + min va (min vb vc)) / 2)
    let d (v : Int) := duty (2 ^ 112 + (v + off) * invSqrt3) (2 ^ 82)
    { i.keep with a := d va, b := d vb, c := d vc }
  else { i.keep with a := duty (2 ^ 31 + i.a) 2, b := duty (2 ^ 31 - i.a) 2 }

def nodeVff (i : NodeIn) : NodeOut :=
  let m := (max i.c (max 1 i.p[1])).toNat
  { i.keep with a := sig (i.a * i.p[0] * 2 ^ 7) m, b := sig (i.b * i.p[0] * 2 ^ 7) m }

/-- SUM: two sign bits for each input. -/
def nodeSum (i : NodeIn) : NodeOut :=
  let s (k : Nat) (x : Int) : Int := match bits (ofSigned 32 i.p[0]) (2 * k) 2 with | 1 => x | 3 => -x | _ => 0
  { i.keep with a := sat32 (s 0 i.a + s 1 i.b + s 2 i.c + s 3 i.d + i.p[1]) }

/-- RATEDIV (R168): the counter steps modulo DIV. -/
def rateDiv (p : Int) : Nat := bits (ofSigned 32 p) 0 4 + 1
def ratePhase (p : Int) : Nat := bits (ofSigned 32 p) 8 4
def rateSpan (p : Int) : Nat := bits (ofSigned 32 p) 16 4
def nodeRatediv (i : NodeIn) : NodeOut := { i.keep with s0 := (ofSigned 32 i.s0 + 1 : Nat) % rateDiv i.p[0] }

/-! Opcodes (Table 7-4). -/

/-- Inputs, COND and outputs of an opcode's mode; none where the mode is not listed. -/
def nodeShape (opc mode : Nat) : Option (Nat × Bool × Nat) := match opc, mode with
  | 0x00, 0 => some (0, false, 0)
  | 0x01, 0 => some (1, false, 1)
  | 0x01, 1 => some (2, false, 1)
  | 0x02, 0 => some (4, false, 1)
  | 0x08, 0 => some (3, false, 1)
  | 0x09, 0 => some (3, false, 1)
  | 0x0A, 0 => some (3, true, 1)
  | 0x0B, 0 => some (1, false, 1)
  | 0x10, 0 => some (1, false, 1)
  | 0x11, 0 => some (1, false, 1)
  | 0x18, 0 => some (1, false, 2)
  | 0x18, 1 => some (2, false, 2)
  | 0x18, 2 => some (2, false, 3)
  | 0x19, 0 => some (1, false, 1)
  | 0x19, 1 => some (1, false, 1)
  | 0x1A, 0 => some (2, true, 1)
  | 0x1A, 1 => some (2, false, 1)
  | 0x1A, 2 => some (2, false, 1)
  | 0x20, 0 => some (3, false, 2)
  | 0x20, 1 => some (2, false, 2)
  | 0x21, 0 => some (3, false, 2)
  | 0x22, 0 => some (4, false, 2)
  | 0x23, 0 => some (3, false, 2)
  | 0x28, 0 => some (2, false, 3)
  | 0x28, 1 => some (1, false, 3)
  | 0x30, 0 => some (3, false, 2)
  | 0x31, 0 => some (2, false, 1)
  | 0x38, 0 => some (0, false, 0)
  | 0x3C, 0 => some (4, false, 3)
  | 0x3E, 0 => some (1, false, 0)
  | _, _ => none

/-- Opcodes of Table 7-4, each with its cost in axis cycles. -/
def nodeCost (opc : Nat) : Option Nat := match opc with
  | 0x00 => some 0 | 0x01 => some 2 | 0x02 => some 3 | 0x08 => some 6 | 0x09 => some 9 | 0x0A => some 7 | 0x0B => some 5
  | 0x10 => some 7 | 0x11 => some 7 | 0x18 => some 2 | 0x19 => some 2 | 0x1A => some 2 | 0x20 => some 4 | 0x21 => some 8
  | 0x22 => some 8 | 0x23 => some 6 | 0x28 => some 10 | 0x30 => some 4 | 0x31 => some 3 | 0x38 => some 1 | 0x3C => some 4
  | 0x3E => some 1 | _ => none

/-- The cost, with the vector form of LIMIT apart. -/
def costOf (opc mode : Nat) : Nat := if opc = 0x18 ∧ mode = 2 then 6 else (nodeCost opc).getD 0

/-- One node, calls and taps apart. -/
def nodeRun (opc mode : Nat) (i : NodeIn) : NodeOut := match opc with
  | 0x01 => if mode = 1 then { i.keep with a := sig (i.p[0] * i.a * i.b) (2 ^ 55) } else { i.keep with a := sig (i.p[0] * i.a) (2 ^ 24) }
  | 0x02 => nodeSum i
  | 0x08 => nodePi i
  | 0x09 => nodePid i
  | 0x0A => nodeCpi i
  | 0x0B => nodeLeadlag i
  | 0x10 => section2 i 30 i.p[0] i.p[1] i.p[2] i.p[3] i.p[4]
  | 0x11 => section2 i 60 (i.p[2] * 2 ^ 30) (-2 * i.p[2] * i.p[0]) (i.p[2] * 2 ^ 30) (-2 * i.p[1] * i.p[0]) (i.p[1] ^ 2)
  | 0x18 => match mode with
    | 0 => nodeLimit i i.p[1] i.p[0]
    | 1 => nodeLimit i (-(i.b.natAbs : Int)) i.b.natAbs
    | _ => nodeLimitVec i
  | 0x19 => nodeDeadband i (mode == 0)
  | 0x1A => { i.keep with a := match mode with | 0 => if i.cond then i.b else i.a | 1 => max i.a i.b | _ => min i.a i.b }
  | 0x20 => nodeClarke i (mode == 0)
  | 0x21 => nodePark i
  | 0x22 => nodeIpark i
  | 0x23 => nodeDqdec i
  | 0x28 => nodeSvm i (mode == 0)
  | 0x30 => nodeVff i
  | 0x31 => { i.keep with a := sig (i.a * 2 ^ 24 + i.p[0] * i.b) (2 ^ 24) }
  | 0x38 => nodeRatediv i
  | _ => i.keep

end Sys2Proof.Machine
end

