-- ==== Sys2Proof/Machine/Loop.lean ====
section
/-! DEFINITION. Loop units: sample sets, input stage, evaluation, emission, engine calls, graph changes (R21-R28, R154-R176). -/
namespace Sys2Proof.Machine
open Sys2Proof

def State.setLoop (s : State) (a : Fin 64) (f : LoopSlot → LoopSlot) : State :=
  s.setAxis a fun x => { x with loop := f x.loop }

/-- Grove and slot of an axis (R154), and its own fabric cycle at or after a tick: slot j has tick parity ⌊j/2⌋ (R21). -/
def groveOf (a : Fin 64) : Nat := a.val / 4
def slotOf (a : Fin 64) : Nat := a.val % 4
def ownCycle (a : Fin 64) (t : Nat) : Nat := if t % 2 = slotOf a / 2 then t else t + 1
/-- A duration rounded up to axis cycles. -/
def roundUp2 (t : Nat) : Nat := (t + 1) / 2 * 2

def State.loopRun (s : State) (a : Fin 64) : Bool := s.flag (P.loop a) F.LOOP_CTRL_RUN
/-- An evaluation of the slot is in progress. -/
def State.evaluating (s : State) (a : Fin 64) : Bool := (s.loopOf a).wait.isSome || decide (s.now < (s.loopOf a).endAt)

/-! Descriptors (R154, R162). -/

def descBase (g : Nat) : Nat := 0x402000 + 0x40000 * g
/-- Word w of descriptor i of grove g. -/
def State.descWord (s : State) (g i w : Nat) : Nat := s.load (descBase g + 64 * i + 4 * w) 4
def State.setDescWord (s : State) (g i w : Nat) (v : Int) : State := s.store (descBase g + 64 * i + 4 * w) 4 (ofSigned 32 v)

def dOpc (w0 : Nat) : Nat := bits w0 26 6
def dRate (w0 : Nat) : Nat := bits w0 24 2
def dBg (w0 : Nat) : Bool := bits w0 23 1 == 1
def dEmit (w0 : Nat) : Bool := bits w0 22 1 == 1
def dMode (w0 : Nat) : Nat := bits w0 18 4
/-- Selector k of a word: 0 the most significant byte. -/
def selOf (w k : Nat) : Nat := bits w (24 - 8 * k) 8

/-! Signals (R155). -/

def LoopSlot.read (l : LoopSlot) (sel : Nat) : Int := match fin? 64 sel with
  | some i => (l.sig[i]).toInt
  | none => 0
def LoopSlot.write (l : LoopSlot) (sel : Nat) (v : Int) : LoopSlot := match fin? 64 sel with
  | some i => if i.val < 16 then l else { l with sig := l.sig.set i (BitVec.ofInt 32 v) }
  | none => l

/-! Sample sets (R22, R27, R157-R159, R171). -/

/-- The graph in force has an ECALL in its current-rate foreground. -/
def State.callsFast (s : State) (a : Fin 64) : Bool := match (s.loopOf a).graph with
  | none => false
  | some g => (List.range g.count).any fun k =>
      let w := s.descWord (groveOf a) (g.first + k) 0
      dOpc w == 0x3C && dRate w == 0 && !dBg w

/-- c and W_f at a sample set (R158, R159). -/
def State.trackPos (s : State) (a : Fin 64) (r : SampleRec) : State :=
  let l := s.loopOf a
  let wrapAt := r.wrap % 2 = 1
  let now := bits r.wrap 1 1 = 1
  let wNew := if wrapAt ∨ now then s.sh (P.fb a + R.FB_WRAP) % 2 ^ 31 + 1 else l.wf
  let held := s.flag (P.loop a) F.LOOP_STATUS_POS_HELD
  if bits r.flags 7 1 = 0 then
    ((s.setLoop a fun l => { l with wf := wNew }).setb (P.loop a) F.LOOP_STATUS_POS_HELD true).err (P.loop a) E.loop_POS_INV
  else
    let c := match l.lastPos with
      | none => s.recTurns a wNew
      | some p => if held then s.recTurns a wNew
          else if now then l.c
          else l.c + wrapDiff l.wf ((r.pos : Int) - p)
    (s.setLoop a fun l => { l with wf := wNew, c := wrap64 c, lastPos := some r.pos }).setb (P.loop a) F.LOOP_STATUS_POS_HELD false

/-- The Hall state of a set (R157): the last valid one, and the stamp of the first set that showed it. -/
def LoopSlot.seeHall (l : LoopSlot) (r : SampleRec) : LoopSlot :=
  let st := bits r.flags 4 3
  if (hallIndex st).isSome then
    let at_ := if st = l.hall then l.hallAt else r.stamp
    { l with hall := st, hallAt := at_, hallD := r.stamp - at_ }
  else l

/-- A sample set arrives: its stamp, and ECALL_RATE where it follows the previous one too closely (R171, Table 7-5). -/
def State.arriveSample (s : State) (a : Fin 64) (r : SampleRec) : State :=
  (s.errIf (s.callsFast a && (s.loopOf a).lastArr.any fun t => decide (s.now < t + 3900)) (P.loop a) E.loop_ECALL_RATE).setLoop a fun l =>
    { l with lastArr := some s.now, lastStamp := r.stamp, stamps := (r.stamp :: l.stamps).take 8 }

/-- The graph in force may run: a user graph in FULL, the built-in one in BASIC too (Table 1-6). -/
def State.graphRuns (s : State) (a : Fin 64) : Bool := s.stage == 3 || (s.stage == 2 && (s.loopOf a).basic)

/-- A sample set reaches its loop unit: `r.stamp` is the full Granite tick. While RUN is 0 it is discarded (R173). -/
def State.postSample (s : State) (a : Fin 64) (r : SampleRec) : State :=
  let s := s.arriveSample a r
  if !s.loopRun a then s
  else
    let l := s.loopOf a
    let s := (s.trackPos a r).setLoop a fun l => { l.seeHall r with n := l.n + 1 }
    if l.graph.isNone || !s.graphRuns a then s
    else
      let lu := P.loopunit (groveOf a)
      let s := if l.pend.isSome then
          (s.inc lu (F.LU_OVERRUN_CNT_COUNT (slotOf a))).err lu (E.loopunit_OVERRUN + slotOf a) else s
      s.setLoop a fun x => { x with pend := some ⟨s.now, r, l.n⟩ }

/-! Input stage (R156, R157). -/

/-- HALL_ANG(h). -/
def State.hallAng (s : State) (a : Fin 64) (h : Nat) : Nat :=
  bits (s.rd (P.loop a + R.LOOP_HALL_ANG01 + 4 * (h / 2))) (16 * (h % 2)) 16

/-- Electrical angle (R157). -/
def State.theta (s : State) (a : Fin 64) (set : SampleSet) : Int :=
  let l := s.loopOf a
  let g := P.loop a
  let ofs : Int := s.rd (g + R.LOOP_ANG_OFS)
  match s.fld g F.LOOP_ANG_CFG_SRC with
  | 1 =>
    let h := (hallIndex l.hall).getD 0
    let dl := if s.flag g F.LOOP_ANG_CFG_INTERP then
        clampI (-357913941) 357913941 (roundQ ((s.axis a).est.v * l.hallD * s.rd (g + R.LOOP_K_INT)) (2 ^ 32)) else 0
    s.hallAng a h * 2 ^ 16 + ofs + dl
  | 2 => l.ext[0].toNat
  | _ =>
    let p := if bits set.r.flags 7 1 = 1 then set.r.pos else l.lastPos.getD set.r.pos
    p * (s.rd (g + R.LOOP_K_ANG)) + ofs

/-- POS_ERR and SPEED (Table 7-1). -/
def State.posErr (s : State) (a : Fin 64) : Int :=
  let g := P.loop a
  sat32 (roundQ ((s.prfX a - (s.loopOf a).c * 2 ^ 16) * (s.reg (g + R.LOOP_POS_K)).toInt) (2 ^ 16 * 2 ^ s.fld g F.LOOP_SHIFT_POS_SH))
def State.speedSig (s : State) (a : Fin 64) : Int :=
  let g := P.loop a
  sat32 (roundQ ((s.axis a).est.v * (s.reg (g + R.LOOP_SPD_K)).toInt) (2 ^ s.fld g F.LOOP_SHIFT_SPD_SH))

/-- Signals 0 to 15. -/
def State.inputs (s : State) (a : Fin 64) (set : SampleSet) : Vector Word 16 :=
  let l := s.loopOf a
  let r := set.r
  let w (x : Int) : Word := BitVec.ofInt 32 x
  let cur (x : Nat) : Word := w (toSigned 16 x * 2 ^ 16)
  let fl := r.flags % 256 + 256 * r.edge.toNat + 512 * s.fld (P.loop a) F.LOOP_STATUS_POS_HELD + 1024 * bits l.fb.status 1 1
  #v[cur r.iu, cur r.iv, cur r.iw, w (r.vbus * 2 ^ 15), w (s.theta a set), w (s.speedSig a), w (s.posErr a), w (s.velSp a),
     w (s.accSp a), w (s.prf a).sp.ilim, w fl, l.ext[0], l.ext[1], 0, 0, 0]

/-- The input stage; at a position cycle the set-point comes into force first. -/
def State.inputStage (s : State) (a : Fin 64) (set : SampleSet) (g : Graph) : State :=
  let s := if set.n % (g.kv * g.kp) = 0 then
      (s.prfPromote a set.r.stamp).setLoop a fun l => { l with posStamp := set.r.stamp } else s
  let v := s.inputs a set
  s.setLoop a fun l => { l with sig := Vector.ofFn fun i => if h : i.val < 16 then v[i.val] else l.sig[i] }

/-! Nodes (R160-R170). -/

/-- A rate class is due (Table 7-2). -/
def rateDue (g : Graph) (rate n : Nat) : Bool := match rate with
  | 0 => true
  | 1 => n % g.kv == 0
  | 2 => n % (g.kv * g.kp) == 0
  | _ => false

/-- The node's operands as they stand. -/
def State.nodeIn (s : State) (a : Fin 64) (i : Nat) : NodeIn :=
  let g := groveOf a
  let l := s.loopOf a
  let w1 := s.descWord g i 1
  let sg (k : Nat) : Int := toSigned 32 (s.descWord g i k)
  { a := l.read (selOf w1 0), b := l.read (selOf w1 1), c := l.read (selOf w1 2), d := l.read (selOf w1 3)
    cond := l.read (selOf (s.descWord g i 2) 3) != 0
    p := #v[sg 3, sg 4, sg 5, sg 6, sg 7, sg 8, sg 9, sg 10, sg 11, sg 12], s0 := sg 13, s1 := sg 14, s2 := sg 15 }

/-- Store a node's outputs; its state words where they changed. -/
def State.nodeWrite (s : State) (a : Fin 64) (i : Nat) (x : NodeIn) (o : NodeOut) (outs : Nat) : State :=
  let g := groveOf a
  let w2 := s.descWord g i 2
  let put (k : Nat) (v : Int) (l : LoopSlot) : LoopSlot := if k < outs then l.write (selOf w2 k) v else l
  let s := s.setLoop a fun l => put 2 o.c (put 1 o.b (put 0 o.a l))
  let s := if o.s0 = x.s0 then s else s.setDescWord g i 13 o.s0
  let s := if o.s1 = x.s1 then s else s.setDescWord g i 14 o.s1
  if o.s2 = x.s2 then s else s.setDescWord g i 15 o.s2

/-- Emission (R169): the compare set is queued for the frame after tick `t`. -/
def State.emit (s : State) (a : Fin 64) (set : SampleSet) (o : NodeOut) (t : Nat) : State :=
  let h := bits (s.rd (P.loop a + R.LOOP_CMP_SCALE)) 0 24
  let c (d : Int) : Nat := (roundQ (max d 0 * h) (2 ^ 31)).toNat
  s.setLink (slateOf a) fun l => { l with
    cmpq := insertAged (fun x => match x.1 with | .compare n _ _ _ _ => n | _ => 0) t
      (.compare (localOf a) set.r.tag (c o.a) (c o.b) (c o.c), false) l.cmpq }

/-- The call record of Table 7-6. -/
def State.callRecord (s : State) (a : Fin 64) (i : Nat) (set : SampleSet) (x : NodeIn) : List Word :=
  let l := s.loopOf a
  let w (v : Int) : Word := BitVec.ofInt 32 v
  [w (a.val * 2 ^ 24 + i * 2 ^ 16 + set.r.tag * 2 ^ 8 + bits (ofSigned 32 x.p[0]) 8 8 : Nat), w x.a, w x.b, w x.c, w x.d, l.sig[4], l.sig[5],
   l.sig[3], w set.r.stamp]

/-- A value passed to a trace channel (TAP). -/
def LoopSlot.tap (l : LoopSlot) (ch : Nat) (v : Int) : LoopSlot :=
  { l with taps := Assoc.put (fun _ => 0) l.taps ch (BitVec.ofInt 32 v) }

/-- A node that runs at tick `e.at_`: an ECALL suspends the evaluation (the result says so), any other node completes. -/
def State.nodeStep (s : State) (a : Fin 64) (i w0 : Nat) (e : EvalWait) : State × EvalWait × Bool :=
  let x := s.nodeIn a i
  let opc := dOpc w0
  if opc = 0x3C then
    let rec_ := s.callRecord a i e.set x
    let k : Fin 512 := ⟨32 * groveOf a + bits (ofSigned 32 x.p[0]) 0 5, by
      have h : bits (ofSigned 32 x.p[0]) 0 5 < 32 := Nat.mod_lt _ (by decide)
      have h2 : groveOf a < 16 := by unfold groveOf; omega
      omega⟩
    let e := { e with desc := i, word0 := rec_.headD 0, tmo := max 1 (bits (ofSigned 32 x.p[1]) 0 10) }
    ((s.pushCall k rec_).setLoop a fun l => { l with wait := some e }, e, true)
  else
    let o := nodeRun opc (dMode w0) x
    let s := s.nodeWrite a i x o (((nodeShape opc (dMode w0)).map (·.2.2)).getD 0)
    let s := if opc = 0x3E then s.setLoop a fun l => l.tap (bits (ofSigned 32 x.p[0]) 0 6) x.a else s
    let t := e.at_ + 2 * costOf opc (dMode w0)
    let gate := if opc = 0x38 ∧ ofSigned 32 x.s0 ≠ ratePhase x.p[0] then max e.gated (i + rateSpan x.p[0] + 1) else e.gated
    if dEmit w0 then
      (s.emit a e.set o (t + 6), { e with at_ := t + 6, gated := gate, fg := some (t + 6), fgl := t + 6 }, false)
    else (s, { e with at_ := t, gated := gate, fgl := if dBg w0 then e.fgl else t }, false)

/-- Does a node run? (R160) -/
def nodeRuns (g : Graph) (w0 i : Nat) (e : EvalWait) : Bool :=
  dOpc w0 != 0 && rateDue g (dRate w0) e.set.n && decide (e.gated ≤ i) && (!dBg w0 || !e.lagged)

/-- The evaluation ends (R161): the foreground time, and the signals of the completed evaluation (R173). -/
def State.evalEnd (s : State) (a : Fin 64) (e : EvalWait) : State :=
  let fg := min 65535 ((e.fg.getD e.fgl) - e.start)
  let g := P.loop a
  let s := (s.setf g F.LOOP_FG_TIME_FG_LAST fg).setf g F.LOOP_FG_TIME_FG_MAX (max fg (s.fld g F.LOOP_FG_TIME_FG_MAX))
  s.setLoop a fun l => { l with wait := none, endAt := e.at_, sigDone := l.sig }

/-- The nodes from descriptor `i` on, `n` of them left. A RATEDIV that does not run closes its gate. -/
def State.evalNodes (s : State) (a : Fin 64) (g : Graph) (e : EvalWait) (i : Nat) : Nat → State
  | 0 => s.evalEnd a e
  | n + 1 =>
    let w0 := s.descWord (groveOf a) i 0
    if nodeRuns g w0 i e then
      let r := s.nodeStep a i w0 e
      if r.2.2 then r.1 else r.1.evalNodes a g r.2.1 (i + 1) n
    else if dOpc w0 = 0x38 then
      s.evalNodes a g { e with gated := max e.gated (i + rateSpan (toSigned 32 (s.descWord (groveOf a) i 3)) + 1) } (i + 1) n
    else s.evalNodes a g e (i + 1) n

/-! Graph changes between evaluations (R164, R172). -/

/-- A descriptor of the graph in force of its slot. -/
def State.descLive (s : State) (a : Fin 64) (k : Nat) : Bool := match (s.loopOf a).graph with
  | some g => decide (g.first ≤ k ∧ k < g.first + g.count)
  | none => false

/-- The axis whose slot's range contains descriptor k of grove g. -/
def State.descAxis (s : State) (g k : Nat) : Option (Fin 64) :=
  ((List.range 4).find? fun j =>
    let r := s.rd (P.loopunit g + R.LU_DESC_RANGE j)
    decide (bits r 0 7 ≤ k ∧ k < bits r 0 7 + bits r 16 8)).bind fun j => axis? (4 * g + j)

/-- Apply one write; words 0 to 2 of a running descriptor stay, with DESC_WP. -/
def State.applyDesc (s : State) (a : Fin 64) (w : DescWrite) : State :=
  let o := w.addr % 0x40000 - 0x2000
  if s.descLive a (o / 64) && decide (o % 64 < 12) then s.err (P.loop a) E.loop_DESC_WP else s.store w.addr w.bytes w.val

/-- WBUF. -/
def State.wbufShow (s : State) (a : Fin 64) : State := s.setf (P.loop a) F.LOOP_STATUS_WBUF (s.loopOf a).wbuf.length

/-- The deferred writes take effect together. -/
def State.flushDesc (s : State) (a : Fin 64) : State :=
  let d := (s.loopOf a).deferred
  forEach d (s.setLoop a fun l => { l with deferred := [] }) fun w t => t.applyDesc a w

/-- An accepted descriptor write (R172). -/
def State.descWrite (s : State) (addr n v : Nat) : State :=
  let g := (addr - 0x400000) / 0x40000
  let o := addr % 0x40000 - 0x2000
  match s.descAxis g (o / 64) with
  | none => s.store addr n v
  | some a =>
    if s.descLive a (o / 64) && decide (o % 64 < 12) then s.err (P.loop a) E.loop_DESC_WP
    else if s.flag (P.loop a) F.LOOP_CTRL_HOLD then
      if (s.loopOf a).wbuf.length ≥ 64 then s.err (P.loop a) E.loop_WBUF_OVF
      else (s.setLoop a fun l => { l with wbuf := l.wbuf ++ [⟨addr, n, v⟩] }).wbufShow a
    else if s.descLive a (o / 64) && s.evaluating a then s.setLoop a fun l => { l with deferred := l.deferred ++ [⟨addr, n, v⟩] }
    else s.store addr n v

/-- DESCRIPTOR_WRITE: `sz` bytes (1, 2, 4 or 8) by requester q. -/
def execDescriptorWrite (q : Fin 514) (g : Fin 16) (off : Fin 8192) (sz : Fin 4) (v : BitVec 64) (s : State) : Out :=
  .next (
    let addr := descBase g + off
    if s.accessOk q.val addr true then s.descWrite addr (2 ^ sz.val) (v.toNat % 2 ^ (8 * 2 ^ sz.val)) else s.refuse q.val addr true)

/-- HOLD changes to 0: the buffered writes become due together. -/
def State.holdRelease (s : State) (a : Fin 64) : State :=
  if s.flag (P.loop a) F.LOOP_CTRL_HOLD then
    let s := (s.setb (P.loop a) F.LOOP_CTRL_HOLD false).setLoop a fun l => { l with wbuf := [], deferred := l.deferred ++ l.wbuf }
    let s := s.wbufShow a
    if s.evaluating a then s else s.flushDesc a
  else s

def execHoldRelease (a : Fin 64) (s : State) : Out := .next (s.holdRelease a)

/-- DESCRIPTOR_WRITES_APPLY: between two evaluations. -/
def execDescriptorWritesApply (a : Fin 64) (s : State) : Out := .next (if s.evaluating a then s else s.flushDesc a)

/-- A used selector is not allowed (Table 7-5, reason 4). -/
def badSel (w1 w2 : Nat) (sh : Nat × Bool × Nat) : Bool :=
  (List.range sh.1).any (fun k => decide (64 ≤ selOf w1 k) && selOf w1 k != 255) ||
    (sh.2.1 && decide (64 ≤ selOf w2 3) && selOf w2 3 != 255) ||
    (List.range sh.2.2).any fun k => !(decide (16 ≤ selOf w2 k ∧ selOf w2 k < 64) || selOf w2 k == 255)

/-- The reason a descriptor is rejected with, 0 for none. `emits`: EMIT nodes before it; `last`: the last descriptor. -/
def State.descReason (s : State) (a : Fin 64) (i emits last : Nat) : Nat :=
  let g := groveOf a
  let w0 := s.descWord g i 0
  let opc := dOpc w0
  if (nodeCost opc).isNone then 2
  else match nodeShape opc (dMode w0) with
    | none => 3
    | some sh =>
      let p := toSigned 32 (s.descWord g i 3)
      let e := 32 * g + bits (ofSigned 32 p) 0 5
      if badSel (s.descWord g i 1) (s.descWord g i 2) sh then 4
      else if dEmit w0 ∧ (1 ≤ emits ∨ dBg w0 ∨ dRate w0 ≠ 0) then 5
      else if opc = 0x3C ∧ (s.ownerReg (P.engine e) ≠ s.axisDom a ∨ (fin? 512 e).any fun x => (s.eng x).st = .safety) then 6
      else if opc = 0x38 ∧ (last < i + rateSpan p ∨ rateDiv p ≤ ratePhase p) then 7
      else 0

/-- The first failing descriptor of a graph, with its reason. -/
def State.graphReason (s : State) (a : Fin 64) (last : Nat) : Nat → Nat → Nat → Option (Nat × Nat)
  | 0, _, _ => none
  | n + 1, i, emits =>
    let r := s.descReason a i emits last
    if r ≠ 0 then some (i, r)
    else s.graphReason a last n (i + 1) (emits + (dEmit (s.descWord (groveOf a) i 0)).toNat)

/-- Reason 8: the servo period at the measured rate lies outside 12.5 µs to 4 ms, by more than the tick of the stamps. -/
def State.badPeriod (s : State) (a : Fin 64) (k : Nat) : Bool :=
  let st := (s.loopOf a).stamps
  let span := (st.headD 0) - (st.getLastD 0)
  decide (st.length = 8 ∧ 7 * (s.now - st.headD 0) ≤ 2 * span + 7 * 937) &&
    (decide (4 * k * (span + 1) < 7 * 15625) || decide (7 * 1250000 < k * (span - 1)))

/-- The staged graph, and why it is rejected: descriptor and reason. -/
def State.stagedGraph (s : State) (a : Fin 64) : Graph :=
  let g := P.loop a
  ⟨s.fld g F.LOOP_GRAPH_FIRST, s.fld g F.LOOP_GRAPH_COUNT, s.fld g F.LOOP_RATE_KV + 1, s.fld g F.LOOP_RATE_KP + 1⟩
def State.validate (s : State) (a : Fin 64) : Option (Nat × Nat) :=
  let g := s.stagedGraph a
  let r := s.rd (P.loopunit (groveOf a) + R.LU_DESC_RANGE (slotOf a))
  if g.count = 0 ∨ g.first < bits r 0 7 ∨ bits r 0 7 + bits r 16 8 < g.first + g.count then some (g.first, 1)
  else match s.graphReason a (g.first + g.count - 1) g.count g.first 0 with
    | some x => some x
    | none => if s.badPeriod a (g.kv * g.kp) then some (g.first, 8) else none

/-- Validation of the staged graph, once the slot is not evaluating (R164). -/
def State.applyGraph (s : State) (a : Fin 64) : State :=
  let g := P.loop a
  if !s.flag g F.LOOP_CTRL_APPLY then s
  else
    let s := (s.setb g F.LOOP_CTRL_APPLY false).setb g F.LOOP_STATUS_APPLY_PEND false
    match s.validate a with
    | some (i, r) => (s.wr (g + R.LOOP_REJECT) (r * 2 ^ 24 + i)).err g E.loop_GRAPH_REJ
    | none =>
      let x := s.stagedGraph a
      ((s.setLoop a fun l => { l with
        graph := some x, n := 0, basic := false, posStamp := 0
        sig := Vector.ofFn fun i => if i.val < 16 then l.sig[i] else 0 }).wr (g + R.LOOP_GRAPH_NOW) (x.count * 2 ^ 16 + x.first)).setb g
          F.LOOP_STATUS_BASIC false

/-- APPLY. -/
def State.askApply (s : State) (a : Fin 64) : State :=
  (s.setb (P.loop a) F.LOOP_CTRL_APPLY true).setb (P.loop a) F.LOOP_STATUS_APPLY_PEND true

def execApply (a : Fin 64) (s : State) : Out := .next (s.askApply a)

/-- GRAPH_VALIDATE. -/
def execGraphValidate (a : Fin 64) (s : State) : Out := .next (if s.evaluating a then s else s.applyGraph a)

/-! Evaluation (R22, R25, R26, R28, R161). -/

/-- The start of the evaluation of a waiting set: its nominal start and its actual start. -/
def State.evalStart (s : State) (a : Fin 64) (set : SampleSet) : Nat × Nat :=
  let nom := ownCycle a set.arr
  (nom, max nom (ownCycle a (s.loopOf a).endAt))

/-- LU_LAG, its peak, and the LAG error (R25, R28). -/
def State.noteLag (s : State) (a : Fin 64) (lag : Nat) : State :=
  let lu := P.loopunit (groveOf a)
  let j := slotOf a
  let s := s.wr (lu + R.LU_LAG j) (min 65535 lag)
  let s := s.wr (lu + R.LU_LAG_PEAK j) (max (min 65535 lag) (s.rd (lu + R.LU_LAG_PEAK j)))
  let s := s.setLoop a fun l => { l with lagRun := if lag = 0 then 0 else l.lagRun + 1 }
  s.errIf (lag != 0 && decide (max 1 (bits (s.rd (lu + R.LU_LAG_LIMIT)) (8 * j) 8) ≤ (s.loopOf a).lagRun)) lu (E.loopunit_LAG + j)

/-- EVALUATION_START: the set that waits is evaluated, once the previous evaluation has ended and the start has come. Writes
and a graph that wait for the slot come into force first. -/
def State.evaluate (s : State) (a : Fin 64) : State := match (s.loopOf a).pend with
  | none => s
  | some set =>
    let (nom, start) := s.evalStart a set
    if s.evaluating a ∨ s.now < start ∨ !s.loopRun a then s
    else
      let s := (s.flushDesc a).applyGraph a
      match (s.loopOf a).graph with
      | none => s
      | some g =>
        if !s.graphRuns a then s.setLoop a fun l => { l with pend := none }
        else
        let set := if (s.loopOf a).n = 0 then { set with n := 0 } else set
        let s := s.setLoop a fun l => { l with pend := none, evalSet := set, n := max l.n (set.n + 1) }
        let s := (s.noteLag a (start - nom)).incw (P.loop a) R.LOOP_EVAL_CNT
        let s := s.inputStage a set g
        s.evalNodes a g { start := start, at_ := start + 20, fgl := start + 20, set := set, lagged := start != nom } g.first g.count

def execEvaluationStart (a : Fin 64) (s : State) : Out := .next (s.evaluate a)

/-! Engine calls (R170). -/

/-- An ECALL node completes `wait` ticks after its start, with outputs or with its previous ones. -/
def State.callDone (s : State) (a : Fin 64) (e : EvalWait) (wait : Nat) (outs : Option (List Word)) : State :=
  let g := groveOf a
  let w0 := s.descWord g e.desc 0
  let w2 := s.descWord g e.desc 2
  let t := e.at_ + 8 + roundUp2 wait
  let s := match outs with
    | none => s
    | some l => s.setLoop a fun x =>
        ((x.write (selOf w2 0) (l.getD 1 0).toInt).write (selOf w2 1) (l.getD 2 0).toInt).write (selOf w2 2) (l.getD 3 0).toInt
  let l := s.loopOf a
  let o : NodeOut := { a := l.read (selOf w2 0), b := l.read (selOf w2 1), c := l.read (selOf w2 2) }
  let s := s.setLoop a fun l => { l with wait := none }
  let (s, e) := if dEmit w0 then (s.emit a e.set o (t + 6), { e with at_ := t + 6, fg := some (t + 6), fgl := t + 6 })
    else (s, { e with at_ := t, fgl := if dBg w0 then e.fgl else t })
  match l.graph with
  | none => s.evalEnd a e
  | some gr => s.evalNodes a gr e (e.desc + 1) (gr.first + gr.count - (e.desc + 1))

/-- The timeout of a waiting node. -/
def State.callTmo (s : State) (a : Fin 64) (e : EvalWait) : State :=
  ((s.inc (P.loop a) F.LOOP_ECALL_CNT_TMO).err (P.loop a) E.loop_ECALL_TMO).callDone a e e.tmo none

def execEcallTmo (a : Fin 64) (s : State) : Out :=
  .next (match (s.loopOf a).wait with
    | some e => if e.at_ + e.tmo ≤ s.now then s.callTmo a e else s
    | none => s)

/-- A reply reaches the loop unit of grove g: it completes the node whose call it echoes, or is discarded as late. -/
def State.callReply (s : State) (g : Nat) (words : List Word) : State := match axis? ((words.headD 0).toNat / 2 ^ 24) with
  | none => s
  | some a =>
    if groveOf a ≠ g then s
    else match (s.loopOf a).wait with
      | none => s.inc (P.loop a) F.LOOP_ECALL_CNT_LATE
      | some e =>
        if words.headD 0 ≠ e.word0 then s.inc (P.loop a) F.LOOP_ECALL_CNT_LATE
        else if e.at_ + e.tmo < s.now then (s.callTmo a e).inc (P.loop a) F.LOOP_ECALL_CNT_LATE
        else s.callDone a e (s.now - e.at_) (some words)

/-- ECALL_REPLY: the oldest reply that engines of the grove have sent. -/
def execEcallReply (g : Fin 16) (s : State) : Out :=
  .next (match s.replies.find? fun r => r.1 == g.val with
    | none => s
    | some r => (s.setReplies (s.replies.erase r)).callReply g r.2)

/-! RUN, reads, descriptor ranges (R158, R159, R173, R176). -/

/-- A write of LOOP_CTRL.RUN. -/
def State.setRun (s : State) (a : Fin 64) (on : Bool) : State :=
  let was := s.loopRun a
  let s := s.setb (P.loop a) F.LOOP_CTRL_RUN on
  if on = was then s
  else if on then
    let w := s.runW a
    let c := wrap64 (s.recTurns a w)
    ((s.setLoop a fun l => { l with n := 0, wf := w, c := c, lastPos := some l.fb.pos, posStamp := 0, pend := none }).setb
      (P.loop a) F.LOOP_STATUS_POS_HELD false).prfGate a
  else (s.setLoop a fun l => { l with pend := none }).prfGate a

def execLoopRun (a : Fin 64) (on : Bool) (s : State) : Out := .next (s.setRun a on)

/-- A write of LOOP_CTRL (Table 7-11). -/
def State.writeLoopCtrl (s : State) (a : Fin 64) (v : Nat) : State :=
  let s := if bits v 1 1 = 1 then s.setb (P.loop a) F.LOOP_CTRL_HOLD true else s.holdRelease a
  let s := s.setRun a (v % 2 = 1)
  if bits v 8 1 = 1 then s.askApply a else s

/-- A read of LOOP_POS_LO latches LOOP_POS_HI. -/
def State.readLoopPos (s : State) (q : Nat) (a : Fin 64) : State :=
  let x := ofSigned 64 (s.loopOf a).c
  (s.latch q (P.loop a + R.LOOP_POS_HI) (x / 2 ^ 32)).answer q (P.loop a + R.LOOP_POS_LO) (x % 2 ^ 32)

def execLoopPosLoRead (q : Fin 514) (a : Fin 64) (s : State) : Out := .next (s.readLoopPos q.val a)

/-- LU_DESC_RANGE: a range past descriptor 127 or over another slot's is ignored. -/
def State.writeDescRange (s : State) (g : Nat) (j v : Nat) : State :=
  let lu := P.loopunit g
  let f := bits v 0 7
  let n := bits v 16 8
  let clash := (List.range 4).any fun k =>
    let r := s.rd (lu + R.LU_DESC_RANGE k)
    k != j && n != 0 && bits r 16 8 != 0 && decide (f < bits r 0 7 + bits r 16 8) && decide (bits r 0 7 < f + n)
  if clash || decide (128 < f + n) then s.err lu E.loopunit_RANGE_OVL else s.wr (lu + R.LU_DESC_RANGE j) (n * 2 ^ 16 + f)

def execLuDescRangeWrite (g : Fin 16) (j : Fin 4) (v : Word) (s : State) : Out :=
  .next (if s.locked then s.lockedWr else s.writeDescRange g j v.toNat)

/-! The BASIC graph (R174). -/

/-- Words 0 to 2 of the built-in graph (Table 7-8). -/
def basicWords : List (Nat × Nat × Nat) :=
  let w0 (opc rate emit mode : Nat) := opc * 2 ^ 26 + rate * 2 ^ 24 + emit * 2 ^ 22 + mode * 2 ^ 18
  [(w0 0x0A 1 0 0, 0x0705FFFF, 0x13FFFF14), (w0 0x20 0 0 0, 0x000102FF, 0x1617FFFF), (w0 0x21 0 0 0, 0x161704FF, 0x1819FFFF),
   (w0 0x18 0 0 1, 0x1309FFFF, 0x1A14FFFF), (w0 0x0A 0 0 0, 0xFF18FFFF, 0x1DFFFF1F), (w0 0x0A 0 0 0, 0x1A19FFFF, 0x1EFFFF1F),
   (w0 0x30 0 0 0, 0x1D1E03FF, 0x2021FFFF), (w0 0x18 0 0 2, 0x2021FFFF, 0x22231FFF), (w0 0x22 0 0 0, 0x222304FF, 0x2425FFFF),
   (w0 0x28 0 1 0, 0x2425FFFF, 0x262728FF)]

/-- The built-in graph is written at FIRST with the parameter words `par` (one list a node, from P0) and applied, RUN set. -/
def State.loadBasic (s : State) (a : Fin 64) (first kv : Nat) (par : List (List Nat)) : State :=
  let g := groveOf a
  let s := forEach ((List.range 10).zip basicWords) s fun (k, w) t =>
    let ws : List Nat := [w.1, w.2.1, w.2.2] ++ (par.getD k []) ++ List.replicate (13 - (par.getD k []).length) 0
    forEach ((List.range 16).zip (ws.take 16)) t fun (j, v) u => u.setDescWord g (first + k) j (v : Nat)
  let x : Graph := ⟨first, 10, max 1 kv, 1⟩
  let s := (s.setLoop a fun l => { l with
    graph := some x, n := 0, basic := true, posStamp := 0, sig := Vector.ofFn fun i => if i.val < 16 then l.sig[i] else 0 }).wr
      (P.loop a + R.LOOP_GRAPH_NOW) (10 * 2 ^ 16 + first)
  (s.setb (P.loop a) F.LOOP_STATUS_BASIC true).setRun a true

end Sys2Proof.Machine
end

