-- ==== Sys2Proof/Machine/Up.lean ====
section
/-! DEFINITION. Granite's side of an upstream frame: link state, records, speed estimates, waiting reads (R44, R58, R59,
R62, R65, R67, R70, R139, R296). -/
namespace Sys2Proof.Machine
open Sys2Proof

/-! Restoring ticks (Table 3-5). -/

/-- The most recent tick at or before `start` whose low `n` bits are `low`. -/
def restoreTick (start low n : Nat) : Nat := start - (start + 2 ^ n - low % 2 ^ n) % 2 ^ n

/-- The Granite tick of the start of a frame that arrived at `arrival` taps (log 26). -/
def State.frameStart (s : State) (i : Fin 8) (arrival : Int) : Nat :=
  (roundQ (arrival - s.rd (P.time + R.TIME_LDLY i)) 64).toNat

/-! FEEDBACK (R139, R236). -/

/-- W of the axis as the loop unit knows it. -/
def State.axisW (s : State) (a : Fin 64) : Nat := if s.loopRun a then (s.loopOf a).wf else s.runW a

/-- A FEEDBACK record: kept as the latest of the axis; a speed record steps the estimator; trunks on the axis take a new anchor. -/
def State.takeFeedback (s : State) (a : Fin 64) (r : FbRec) (start : Nat) : State :=
  let s0 := s
  let w := s.axisW a
  let t := restoreTick start r.tick 32
  let s := s.setLoop a fun l => { l with fb := r }
  let s := if bits r.status 6 1 = 1 then
      let d := s.draw
      let est := (s.axis a).est.step (bits r.status 1 1 == 1) (bits r.status 2 1 == 1) (toSigned 32 r.turn * w + r.pos) t start w (toSigned 32 d.1)
      d.2.setAxis a fun x => { x with est := est }
    else s
  forEach (s.trunksOf 2 a.val) s fun k t =>
    let p := t.axisAnchor a k
    (t.trkAnchor k p.1 p.2 (s0.trkLine k)).trkValid k (r.status % 2 == 1)

/-! Answers to reads (R67, R296). -/

/-- The bits of a shared field register that a requester may see. -/
def State.readMask (s : State) (q a v : Nat) : Nat :=
  let o := a % 0x1000
  match pageAt a with
  | some (.fio, n) =>
    if o = R.FIO_OUT ∨ o = R.FIO_IN ∨ o = R.FIO_DIAG_A ∨ o = R.FIO_DIAG_B ∨ o = R.FIO_RANGE_STAT then
      match slate? n, s.reqDom q with
      | some i, some d => let m := s.pointMask d i; v &&& (m + m * 2 ^ 16)
      | _, _ => 0
    else v
  | _ => v

/-- REG_DATA: the read of the replay, the answer of a snapshot (R378), or a waiting read. -/
def State.takeData (s : State) (i : Fin 8) (tag off data : Nat) : State :=
  let l := (s.slate i).link
  if l.replayTag = some tag then
    (s.setLink i fun l => { l with replayTag := none }).setb (P.link i) F.LINK_STATUS_REPLAY_DONE true
  else match l.reads.find? fun r => r.tag == tag with
    | some r =>
      ((s.setLink i fun l => { l with reads := l.reads.erase r }).answer r.req r.addr (s.readMask r.req r.addr data)).promoteReads i
    | none => if off = 0xF004 then s.setSlate i fun x => { x with snapAns := some (data % 2 = 1) } else s

/-- One upstream record. -/
def State.applyUp (s : State) (i : Fin 8) (start : Nat) : UpRec → State
  | .sample r => match fin? 8 r.ax with
    | some n =>
      let r := { r with stamp := restoreTick start r.stamp 16 }
      (s.setLoop (axisOf i n) fun l => { l with smp := r }).postSample (axisOf i n) r
    | none => s
  | .event r => s.setEvlog fun v => { v with held := v.held ++ [(restoreTick start r.stamp 32, i.val, r.ch, r.level, r.unal)] }
  | .field ins diag => s.setSlate i fun x => { x with gIn := ins, gDiag := diag, gAt := start }
  | .feedback r => match fin? 8 r.ax with
    | some n => s.takeFeedback (axisOf i n) r start
    | none => s
  | .regData tag off data _ => s.takeData i tag off data
  | .undef => (s.inc (P.link i) F.LINK_REC_BAD_GRANITE).err (P.link i) E.link_REC_BAD

/-! Header (Table 3-3). -/

/-- A marker's echo (R44): the round trip is the time since the MARKER frame less the Slate's turn time. -/
def State.takeEcho (s : State) (i : Fin 8) (arrival : Int) (turn : Nat) : State :=
  let m := (s.slate i).link.mark
  match m.sent with
  | none => s
  | some t =>
    if !m.active ∨ turn = 0xFFFF ∨ 256 ≤ m.cnt then s
    else
      let rtt := (arrival - 64 * (t : Int) - turn).toNat
      (s.setLink i fun l => { l with mark := { l.mark with sent := none, cnt := m.cnt + 1, sum := m.sum + rtt, last := rtt } }).wr
        (P.link i + R.LINK_RTT) (min 65535 rtt)

/-- A Slate in its safe state has cleared EN of its axes: so does the shadow (R81). -/
def State.clearEnShadow (s : State) (i : Fin 8) : State :=
  forEach (axesOf i) s fun a t =>
    let p := P.pwm a + R.PWM_CTRL
    (t.setsh p (t.sh p / 2 * 2)).prfGate a

/-- The collector's reads of the Slate's PAGE_ERR words, which STAT bit 0 asks for (R354). -/
def State.readErrors (s : State) (i : Fin 8) : State :=
  let l := (slatePages i).filterMap fun (_, p) =>
    let e := s.rd (p + R.PAGE_ERR)
    if e = 0 then none else some (p, e)
  s.setFault fun f => { f with seen := f.seen.set i l }

/-- The header of an applied frame. -/
def State.applyUpHeader (s : State) (i : Fin 8) (rx : FrameRx) : State :=
  let b := rx.bytes
  let st := field b 5 1
  let p := P.link i
  let dnUp := bits st 6 1 = 1
  let was := s.flag p F.LINK_STATUS_DN_UP
  let s := ((s.setf p F.LINK_STATUS_SAFE_WHY (field b 6 1 % 4)).setf p F.LINK_STATUS_RESET_SEEN (bits st 1 1)).setf p
    F.LINK_STATUS_SAFE (bits st 2 1)
  let s := ((s.setf p F.LINK_STATUS_GS_ON (bits st 3 1)).setf p F.LINK_STATUS_SB_UP (bits st 4 1)).setb p F.LINK_STATUS_DN_UP dnUp
  let s := s.setf P.time (F.TIME_ALIGN_ALIGNED i) (bits st 5 1)
  let s := s.when (was && !dnUp) fun s => s.setb p F.LINK_STATUS_REPLAY_DONE false
  let s := (s.when (bits st 2 1 == 1) fun s => s.clearEnShadow i).readErrors i
  s.takeEcho i rx.arrival (field b 2 2)

/-- The upstream direction has gone down: what the link still owes fails. -/
def State.upDown (s : State) (i : Fin 8) : State :=
  (s.setb (P.link i) F.LINK_STATUS_UP_UP false).linkDown i false

/-- One received upstream frame slot at Granite (R62). -/
def State.upFrame (s : State) (i : Fin 8) (rx : FrameRx) : State :=
  let good := frameGood rx 0xA
  let seq := field rx.bytes 1 1
  let r := (s.slate i).link.up
  let s := s.setLink i fun l => { l with up := l.up.take good seq }
  if !good then
    let s := (s.incs (P.link i) R.LINK_BAD_UP).err (P.link i) E.link_CRC_BAD
    if r.up && !(s.slate i).link.up.up then s.upDown i else s
  else
    let s := s.when (r.gap seq) fun s => s.incs (P.link i) R.LINK_SEQ_GAP
    if !(s.slate i).link.up.up then s
    else
      let s := s.noteSilence i
      let s := s.setLink i fun l => { l with up := { l.up with last := s.now, fired := false, tmo := s.linkTmo i } }
      let s := if r.up then s else (s.setb (P.link i) F.LINK_STATUS_UP_UP true).startMarkers i
      let start := s.frameStart i rx.arrival
      forEach (upBody rx.bytes) (s.applyUpHeader i rx) fun x t => t.applyUp i start x

def execUpstreamFrame (s : Fin 8) (rx : FrameRx) (st : State) : Out := .next (st.upFrame s rx)

end Sys2Proof.Machine
end

