-- ==== Sys2Proof/Machine/Capture.lean ====
section
/-! DEFINITION. The recorders: writing entries and taking triggers (R367-R372). Sources and commands are in Trace.lean. -/
namespace Sys2Proof.Machine
open Sys2Proof

def State.setCap (s : State) (f : CaptureState → CaptureState) : State := { s with capture := f s.capture }
def State.recorder (s : State) (r : Fin 8) : Recorder := s.capture.rec_[r]
def State.setRec (s : State) (r : Fin 8) (f : Recorder → Recorder) : State :=
  s.setCap fun c => { c with rec_ := c.rec_.set r (f c.rec_[r]) }

/-- TRC_STATUS.STATE: 0 IDLE, 1 ARMED, 2 TRIGGERED, 3 DONE. -/
def State.trcSt (s : State) (r : Nat) : Nat := s.fld (P.trc r) F.TRC_STATUS_STATE
def State.setTrcSt (s : State) (r v : Nat) : State := s.setf (P.trc r) F.TRC_STATUS_STATE v
def State.trcOwner (s : State) (r : Nat) : Nat := s.ownerReg (P.trc r)

def State.wptr (s : State) (r : Nat) : Nat := s.rd (P.trc r + R.TRC_WPTR)

/-- One entry (Table 16-2) is written at WPTR; one that would overtake FIRST moves it in ARMED, and ends the capture in TRIGGERED
(R370). -/
def State.putEntry (s : State) (r : Fin 8) (tick src tag value : Nat) : State :=
  let x := s.recorder r
  let p := P.trc r
  let full := decide (x.set.n ≤ x.valid)
  if full && s.trcSt r == 2 then (s.setTrcSt r 3).setb p F.TRC_STATUS_TRUNC true
  else
    let w := s.wptr r
    let a := 0x1800000 + x.set.base + 16 * w
    let s := ((((s.store a 4 tick).store (a + 4) 1 src).store (a + 5) 1 tag).store (a + 6) 2 x.written).store (a + 8) 8 value
    let s := s.wr (p + R.TRC_WPTR) ((w + 1) % x.set.n)
    let s := if full then s.wr (p + R.TRC_FIRST) ((s.rd (p + R.TRC_FIRST) + 1) % x.set.n) else s
    s.setRec r fun x => { x with written := x.written + 1, valid := min x.set.n (x.valid + 1), hi := tick / 2 ^ 32 }

/-- A marker entry with the full tick. -/
def State.putMarker (s : State) (r : Fin 8) (tick : Nat) : State := s.putEntry r tick 0xF0 0 tick

/-- A trigger is permitted to the recorder's owner (Table 16-3) where the owner is domain 0 or `ok` holds. -/
def State.trcMay (s : State) (r : Nat) (ok : Nat → Bool) : Bool := s.trcOwner r == 0 || ok (s.trcOwner r)

/-- A trigger waits to be taken: the earlier tick stands (R371). Only an ARMED recorder takes one. -/
def State.offer (s : State) (r : Fin 8) (tick : Nat) : State :=
  if s.trcSt r = 1 then s.setRec r fun x => { x with due := some (match x.due with | none => tick | some t => min t tick) } else s

/-- Offered to each recorder whose TRC_TRIG `hit` accepts by CODE and PARAM, where `ok` permits the owner. -/
def State.offerAll (s : State) (tick : Nat) (hit : Nat → Nat → Bool) (ok : Nat → Bool) : State :=
  forEach (List.finRange 8) s fun r t =>
    let v := t.rd (P.trc r + R.TRC_TRIG)
    if hit (v / 2 ^ 24) (v % 2 ^ 24) && t.trcMay r ok then t.offer r tick else t

/-- A trigger takes effect on an ARMED recorder (R370), and is offered to those that follow this one. -/
def State.takeTrigger (s : State) (r : Fin 8) (tick : Nat) : State :=
  if s.trcSt r ≠ 1 then s
  else
    let p := P.trc r
    let x := s.recorder r
    let w := s.wptr r
    let s := (s.wr (p + R.TRC_TPTR) w).wr64 p R.TRC_TTICK_LO (tick % 2 ^ 64)
    let s := if x.written < x.set.pre then s
      else (s.wr (p + R.TRC_FIRST) ((w + x.set.n - x.set.pre % x.set.n) % x.set.n)).setRec r fun x => { x with valid := min x.valid x.set.pre }
    let s := s.setRec r fun x => { x with due := none, left := x.set.post }
    let s := s.setTrcSt r (if x.set.post = 0 then 3 else 2)
    s.offerAll tick (fun c q => c == 0x41 && q % 8 == r.val) fun d => s.trcOwner r == d

/-- The domain that may use an event channel of a Slate: the owner of its point or axis (Table 16-1, Table 3-8). -/
def State.ownsChannel (s : State) (d : Nat) (i ch : Nat) : Bool :=
  if ch < 16 then s.ownsPoint d (16 * i + ch)
  else if ch < 32 then s.axisDom (8 * i + ch % 8) == d
  else if 40 ≤ ch ∧ ch < 48 then s.axisDom (8 * i + ch % 8) == d
  else false

/-- A released Slate event as a trigger: PARAM [18:16] Slate, [8] level, [7:0] channel. -/
def State.offerEvent (s : State) (i : Fin 8) (ch : Nat) (level : Bool) (tick : Nat) : State :=
  s.offerAll tick (fun c q => c == 0x20 && bits q 16 3 == i.val && (bits q 8 1 == 1) == level && q % 256 == ch)
    fun d => s.ownsChannel d i ch

end Sys2Proof.Machine
end

