-- ==== Sys2Proof/Machine/Network.lean ====
section
/-! DEFINITION. Line network: ring ports, the switch, descriptor rings, launches and stamps
(13_line_network_and_time_stamping.md, R300-R319; host memory by R437, R438). -/
namespace Sys2Proof.Machine
open Sys2Proof

def State.port (s : State) (p : Fin 4) : NetPort := s.net.ports[p]
def State.setNet (s : State) (f : NetState → NetState) : State := { s with net := f s.net }
def State.setPort (s : State) (p : Fin 4) (f : NetPort → NetPort) : State :=
  s.setNet fun n => { n with ports := n.ports.set p (f n.ports[p]) }

/-- A saturating counter in the low `w` bits of the register at `o`. -/
def State.bump (s : State) (p o w : Nat) : State := s.inc p ⟨o, 0, w⟩

/-! Frames. -/

/-- Bytes `i` to `i + n - 1`, the first the most significant: addresses and EtherTypes on the wire. -/
def fieldBE (l : List Byte) (i n : Nat) : Nat := ((l.drop i).take n).foldl (fun x b => 256 * x + b.toNat) 0
def bytesBE (n v : Nat) : List Byte := (bytesOf n v).reverse

def frameDst (b : List Byte) : Nat := fieldBE b 0 6
def frameSrc (b : List Byte) : Nat := fieldBE b 6 6
def frameTagged (b : List Byte) : Bool := fieldBE b 12 2 == 0x8100
/-- The VID of a tagged frame. -/
def frameVid (b : List Byte) : Option Nat := if frameTagged b then some (fieldBE b 14 2 % 4096) else none
def frameType (b : List Byte) : Nat := if frameTagged b then fieldBE b 16 2 else fieldBE b 12 2
/-- The frame with its tag removed. -/
def untag (b : List Byte) : List Byte := if frameTagged b then b.take 12 ++ b.drop 16 else b
/-- A group address. -/
def isGroup (b : List Byte) : Bool := (b.headD 0).toNat % 2 == 1

/-- A tag inserted after the addresses. -/
def addTag (b : List Byte) (pcp vid : Nat) : List Byte := b.take 12 ++ bytesBE 2 0x8100 ++ bytesBE 2 (pcp * 8192 + vid) ++ b.drop 12
/-- Padding to 60 bytes (R310). -/
def padFrame (b : List Byte) : List Byte := b ++ List.replicate (60 - b.length) 0

/-- Cells of 256 bytes a stored frame takes (R306), its FCS included. -/
def cellsOf (b : List Byte) : Nat := (b.length + 4 + 255) / 256
def cellsOfQ (l : List TxFrame) : Nat := (l.map fun f => cellsOf f.bytes).foldl (· + ·) 0

def State.swMac (s : State) : Nat := s.rd (P.switch + R.SW_MAC_HI) % 2 ^ 16 * 2 ^ 32 + s.rd (P.switch + R.SW_MAC_LO)
def State.maxFrame (s : State) : Nat := min 2048 (max 64 (bits (s.rd (P.switch + R.SW_MAX_FRAME)) 0 12))
/-- The domain a VID maps to (SW_DOM_VLAN). -/
def State.vidDom (s : State) (v : Nat) : Option Nat :=
  (List.range 8).find? fun d => s.flag P.switch (F.SW_DOM_VLAN_EN d) && s.fld P.switch (F.SW_DOM_VLAN_VID d) == v

/-! Ports (R301, R302). -/

def State.portUp (s : State) (p : Fin 4) : Bool := s.flag (P.net p) F.NET_STATUS_LINK_UP
/-- 1000BASE-X is in use. -/
def State.slow (s : State) (p : Fin 4) : Bool := s.fld (P.net p) F.NET_STATUS_MODE_NOW == 2
def State.portRate (s : State) (p : Fin 4) : Nat := if s.slow p then 1000 else 10000
/-- Time of a frame with preamble, FCS and gap in quarter ticks: 1 or 10 a byte. -/
def State.wireTime (s : State) (p : Fin 4) (b : List Byte) : Nat := (max 60 b.length + 24) * if s.slow p then 10 else 1
/-- From the start of a frame to its SFD, in taps (7 byte times). -/
def State.sfdLead (s : State) (p : Fin 4) : Nat := if s.slow p then 1120 else 112

/-- Where a launch frame must start, in taps, for its SFD to cross the reference plane at the launch tick (R312, R313). -/
def State.launchStart (s : State) (p : Fin 4) (tick : Nat) : Int :=
  64 * tick - s.sfdLead p - toSigned 16 (s.rd (P.net p + R.NET_DLY_TX))

/-! Queues and admission (R306). -/

def State.rsv (s : State) (q : Nat) : Nat := bits (s.rd (P.switch + R.SW_BUF_RSV q)) 0 13
/-- Cells in use, and those beyond the reserves. -/
def State.cellsUsed (s : State) : Nat :=
  ((List.finRange 4).map fun p => (((List.finRange 9).map fun q => cellsOfQ (s.port p).q[q]).foldl (· + ·) 0) +
    cellsOfQ ((s.port p).launch.map (·.frame))).foldl (· + ·) 0
def State.poolFree (s : State) : Nat :=
  let r := ((List.range 9).map s.rsv).foldl (· + ·) 0
  8192 - 4 * r - ((List.finRange 4).map fun p =>
    ((List.finRange 9).map fun (q : Fin 9) => cellsOfQ (s.port p).q[q] - s.rsv q).foldl (· + ·) 0).foldl (· + ·) 0

/-- The frame joins queue q of the port where it is admitted; else NET_Q_DROP counts. Answers whether it was. -/
def State.enqueue (s : State) (p : Fin 4) (q : Fin 9) (f : TxFrame) : Bool × State :=
  if decide (cellsOfQ (s.port p).q[q] < s.rsv q) || decide (0 < s.poolFree) then
    (true, s.setPort p fun x => { x with q := x.q.set q (x.q[q] ++ [f]) })
  else (false, s.bump (P.net p) R.NET_Q_DROP 16)

/-! Shaping (R308). -/

/-- Credits brought to this tick with the slopes in force; the slopes written since come into force (R316). -/
def State.credits (s : State) (p : Fin 4) : State :=
  let rate := s.portRate p
  s.setPort p fun x =>
    let dt := s.now - x.creditAt
    { x with
      creditAt := s.now
      slope := Vector.ofFn fun q => bits (s.rd (P.net p + R.NET_CBS q)) 0 14
      credit := Vector.ofFn fun q =>
        let c := x.credit[q]
        let sl := x.slope[q]
        if sl = 0 then 0
        else if (x.tx.map (·.2)) = some q.val then c + ((sl : Int) - rate) * dt
        else if x.q[q].isEmpty then min 0 (c + sl * dt)
        else c + sl * dt }

/-- Queue q may send: not empty, and no negative credit where it is shaped. -/
def State.eligible (s : State) (p : Fin 4) (q : Fin 9) : Bool :=
  !(s.port p).q[q].isEmpty && (decide ((s.port p).slope[q] = 0) || decide (0 ≤ (s.port p).credit[q]))

/-- A frame that starts now ends, with its gap, before the first launch frame starts (R312). -/
def State.guardOk (s : State) (p : Fin 4) (b : List Byte) : Bool :=
  (s.port p).launch.all fun l => decide (64 * (s.now : Int) + 16 * s.wireTime p b ≤ s.launchStart p l.tick)

/-- The next queue in rotation whose frame may start. -/
def State.nextQueue (s : State) (p : Fin 4) : Option (Fin 9) :=
  let n := (s.port p).served
  ((List.finRange 9).map fun i => (⟨(n + 1 + i.val) % 9, Nat.mod_lt _ (by omega)⟩ : Fin 9)).find? fun q => s.eligible p q &&
    s.guardOk p (((s.port p).q[q].headD {}).bytes)

/-! Host memory (R437, R438) and the memories of a ring. -/

/-- HOST_ERR of a device access for domain d (Table 19-9). -/
def State.dmaErr (s : State) (bit d a q : Nat) (write : Bool) : State :=
  (((s.err P.host bit).wr (P.host + R.HOST_ERR_ADDR) (a % 2 ^ 32)).wr (P.host + R.HOST_ERR_INFO)
    (2 ^ 31 + bit * 2 ^ 26 + write.toNat * 2 ^ 24 + d * 2 ^ 16 + reqCode q)).inc P.host F.HOST_ERR_CNT_COUNT

/-- An access of domain d to host memory is permitted. -/
def State.dmaOk (s : State) (d a n : Nat) : Bool :=
  let base := s.rd (P.host + R.HOST_WIN_HI d) * 2 ^ 32 + s.rd (P.host + R.HOST_WIN_LO d) / 4096 * 4096
  let size := bits (s.rd (P.host + R.HOST_WIN_SIZE d)) 0 20
  s.flag P.host F.HOST_STATUS_BME && decide (size ≠ 0 ∧ base ≤ a ∧ a + n ≤ base + size * 4096)

/-- A write to host memory leaves; the newest 16 are kept. -/
def State.hostWrite (s : State) (a : Nat) (b : List Byte) : State :=
  s.setNet fun n => { n with dma := (n.dma ++ [(a, b)]).drop (n.dma.length - 15) }

/-- A BAR0 range that domain d owns: shared memory or memories of its engines (R309). -/
def State.memOwned (s : State) (d a n : Nat) : Bool :=
  let ok (x : Nat) : Bool := match regionAt x with
    | .shm _ | .engMem _ => s.accessOk (Req.queue d) x true
    | _ => false
  decide (a + n ≤ 0x4000000) && ok a && ok (a + n - 1)

def State.nqHost (s : State) (d : Nat) : Bool := s.flag (P.netq d) F.NQ_CTRL_HOST

/-- A ring's descriptor or buffer may be used; a refused host access is recorded. -/
def State.ringOk (s : State) (d a n : Nat) (write : Bool) : Bool × State :=
  if s.nqHost d then
    if s.dmaOk d a n then (true, s) else (false, s.dmaErr E.host_DMA_WIN d a (Req.queue d) write)
  else (s.memOwned d a n, s)

/-- Write bytes of a ring's descriptor or buffer. -/
def State.ringWrite (s : State) (d a : Nat) (b : List Byte) : State :=
  if s.nqHost d then s.hostWrite a b else s.store a b.length (ofBytes b)

def State.ringSize (s : State) (d o : Nat) : Nat := min 1024 (max 8 (bits (s.rd (P.netq d + o)) 0 11))

/-- A descriptor of domain d's rings was written back: the vector, at most once per 10 µs. -/
def State.ringVec (s : State) (d : Fin 8) : State :=
  let p := P.netq d
  let due := match s.net.vecAt[d] with
    | some t => decide (t + 3125 ≤ s.now)
    | none => true
  if s.flag p F.NQ_CTRL_VEC_EN && due then
    (s.setNet fun n => { n with vecAt := n.vecAt.set d (some s.now) }).raiseVec (s.fld p F.NQ_CTRL_VEC) d
  else s

/-! Transmit descriptors (R310, R315). -/

/-- Order of severity of the codes of Table 13-4. -/
def txRank (c : Nat) : Nat := match c with
  | 5 => 6 | 6 => 5 | 3 => 4 | 2 => 3 | 4 => 2 | 1 => 1 | _ => 0
def txWorst (a b : Nat) : Nat := if txRank a < txRank b then b else a

/-- STATUS and OWN are written back. -/
def State.txBack (s : State) (d : Fin 8) (addr code : Nat) : State :=
  let s := s.when (code == 5) fun s => (s.bump (P.netq d) R.NQ_TX_REFUSED 16).err (P.netq d) E.netq_TX_REFUSED
  (s.ringWrite d (addr + 14) (bytesOf 1 code ++ [0])).ringVec d

/-- One copy of a descriptor's frame has ended with a status. -/
def State.txCopy (s : State) (job : Option (Nat × Nat)) (code : Nat) : State := match job with
  | none => s
  | some (d, a) => match s.net.jobs.find? fun j => j.dom == d && j.addr == a with
    | none => s
    | some j =>
      let w := txWorst j.worst code
      let rest := s.net.jobs.filter fun x => !(x.dom == d && x.addr == a)
      if j.left ≤ 1 then match fin? 8 d with
        | some d => (s.setNet fun n => { n with jobs := rest }).txBack d a w
        | none => s
      else s.setNet fun n => { n with jobs := { j with left := j.left - 1, worst := w } :: rest }

/-- A launch frame ends with an outcome other than SENT (R315). -/
def State.launchErr (s : State) (p : Fin 4) (code : Nat) : State :=
  let f := match code with
    | 6 => F.NET_LAUNCH_ERR_LINK | 5 => F.NET_LAUNCH_ERR_REFUSED | 4 => F.NET_LAUNCH_ERR_FULL | 3 => F.NET_LAUNCH_ERR_INHIB
    | _ => F.NET_LAUNCH_ERR_LATE
  let s := s.inc (P.net p) f
  if code = 1 ∨ code = 2 then s.err (P.net p) E.net_LAUNCH_LATE
  else s.errIf (code == 3) (P.net p) E.net_LAUNCH_INH

/-- A launch frame is not sent. -/
def State.launchEnd (s : State) (p : Fin 4) (f : TxFrame) (code : Nat) : State := (s.launchErr p code).txCopy f.job code

/-- A frame of a descriptor on one port: to the launch list, or to its domain's queue. -/
def State.txPort (s : State) (d : Fin 8) (p : Fin 4) (f : TxFrame) (launch drop : Bool) (tick : Nat) : State :=
  if launch then
    let late := decide (tick < s.now + 1000)
    if 2 ^ 32 < (tick : Int) - s.now then s.launchEnd p f 5
    else if late && drop then s.launchEnd p f 2
    else if (s.port p).launch.length ≥ 16 then s.launchEnd p f 4
    else s.setPort p fun x => { x with launch := x.launch ++ [⟨tick, { f with launch := true, late := late }, late⟩] }
  else if !s.portUp p then (s.bump (P.net p) R.NET_TX_DISC 16).txCopy f.job 6
  else
    let r := s.enqueue p ⟨d.val, by omega⟩ f
    if r.1 then r.2 else r.2.txCopy f.job 2

/-- The fields of a transmit descriptor (Table 13-4). -/
structure TxDesc where
  addr : Nat
  len : Nat
  fid : Nat
  ports : Nat
  flags : Nat
  own : Bool
  tick : Nat

def txDesc (w : Nat) : TxDesc :=
  ⟨bits w 0 64, bits w 64 16, bits w 80 16, bits w 96 8, bits w 104 8, bits w 127 1 = 1, bits w 128 64⟩

/-- The descriptor is refused whatever its buffer (R310). -/
def State.txBad (s : State) (d : Nat) (t : TxDesc) : Bool :=
  decide (t.ports % 16 = 0 ∨ t.len < 14 ∨ s.maxFrame < t.len + 8) || (d != 0 && (bits t.flags 3 1 == 1 || bits t.flags 1 1 == 1))

/-- HEAD moves on. -/
def State.txAdvance (s : State) (d : Fin 8) : State :=
  let p := P.netq d
  s.wr (p + R.NQ_TX_HEAD) ((s.rd (p + R.NQ_TX_HEAD) + 1) % s.ringSize d R.NQ_TX_SIZE)

/-- A read of host memory failed: the ring stops until its TAIL is written (R438). -/
def State.txStop (s : State) (d : Fin 8) (a : Nat) : State :=
  (s.dmaErr E.host_DMA_TMO d a (Req.queue d) false).setNet fun n => { n with stopT := n.stopT ||| 2 ^ d.val }

/-- The frame of an accepted descriptor goes to each port that PORTS names. -/
def State.txGo (s : State) (d : Fin 8) (a : Nat) (t : TxDesc) (data : List Byte) : State :=
  let p := P.netq d
  let b := padFrame data
  let b := if bits t.flags 3 1 = 1 then b else addTag b (s.fld p F.NQ_CTRL_PCP) (s.fld P.switch (F.SW_DOM_VLAN_VID d))
  let ps := (List.finRange 4).filter fun (n : Fin 4) => bits t.ports n 1 == 1
  let s := s.setNet fun n => { n with jobs := n.jobs ++ [⟨d, a, ps.length, 0⟩] }
  forEach ps s fun n x => x.txPort d n ⟨b, some (d.val, a), t.fid, bits t.flags 1 1 = 1, false, false, none⟩ (bits t.flags 0 1 == 1)
    (bits t.flags 2 1 == 1) t.tick

/-- The device takes the descriptor at NQ_TX_HEAD (R309, R310). `h`: what host memory answered. -/
def State.txFetch (s : State) (d : Fin 8) (h : HostTx) : State :=
  let p := P.netq d
  let head := s.rd (p + R.NQ_TX_HEAD)
  let a := s.rd64 p R.NQ_TX_BASE_LO / 32 * 32 + 32 * head
  if !s.flag p F.NQ_CTRL_TX_EN || head == s.rd (p + R.NQ_TX_TAIL) % 2 ^ 10 || bits s.net.stopT d 1 == 1 then s
  else
    let r := s.ringOk d a 32 false
    if !r.1 then ((r.2.bump p R.NQ_TX_REFUSED 16).err p E.netq_TX_REFUSED).txAdvance d
    else
    let s := if s.nqHost d then s else s.eccScan a 32
    match (if s.nqHost d then h.desc.map (·.toNat) else some (s.extLoad a 32)) with
      | none => s.txStop d a
      | some w =>
        let t := txDesc w
        if !t.own then s
        else if s.txBad d t then (s.txAdvance d).txBack d a 5
        else
          let r := s.ringOk d t.addr t.len false
          if !r.1 then (r.2.txAdvance d).txBack d a 5
          else if s.nqHost d then match h.data with
            | none => ((s.dmaErr E.host_DMA_TMO d t.addr (Req.queue d) false).txAdvance d).txBack d a 5
            | some x => (s.txAdvance d).txGo d a t ((x ++ List.replicate t.len 0).take t.len)
          else ((s.eccScan t.addr t.len).txAdvance d).txGo d a t (bytesOf t.len (s.extLoad t.addr t.len))

def execTxDescriptorFetch (d : Fin 8) (h : HostTx) (s : State) : Out := .next (s.txFetch d h)

/-- NQ_TX_TAIL, NQ_RX_TAIL: descriptors are posted; a stopped ring runs on, after R435 once Bus Master Enable is set. -/
def State.writeTxTail (s : State) (d : Fin 8) (v : Nat) : State :=
  let s := s.wr (P.netq d + R.NQ_TX_TAIL) (v % 2 ^ 10)
  if s.flag P.host F.HOST_STATUS_BME then s.setNet fun n => { n with stopT := setBits n.stopT d 1 0 } else s
def execTxTailWrite (d : Fin 8) (v : Word) (s : State) : Out := .next (s.writeTxTail d v.toNat)

def State.writeRxTail (s : State) (d : Fin 8) (v : Nat) : State :=
  let s := s.wr (P.netq d + R.NQ_RX_TAIL) (v % 2 ^ 10)
  if s.flag P.host F.HOST_STATUS_BME then s.setNet fun n => { n with stopR := setBits n.stopR d 1 0 } else s
def execRxTailWrite (d : Fin 8) (v : Word) (s : State) : Out := .next (s.writeRxTail d v.toNat)

/-! Frames on the wire (R308, R312, R314). -/

/-- The port starts a frame of queue `q`. -/
def State.startTx (s : State) (p : Fin 4) (f : TxFrame) (q : Nat) : State :=
  (s.credits p).setPort p fun x => { x with tx := some (f, q) }

/-- The launch entry to go next: the earliest tick, first in first out. -/
def firstLaunch : List Launch → Option Launch
  | [] => none
  | l :: r => match firstLaunch r with
    | none => some l
    | some m => if m.tick < l.tick then some m else some l

/-- The entry is due: a start at the boundary before this tick ends would bring its SFD nearest, or it was late at fetch. -/
def State.launchDue (s : State) (p : Fin 4) (l : Launch) : Bool :=
  l.late || decide (s.launchStart p l.tick < 64 * ((s.now : Int) + 1))

/-- A due launch frame is sent, or ends inhibited or on a down link; a busy port holds it (R315). -/
def State.launchGo (s : State) (p : Fin 4) (l : Launch) : State :=
  let drop := s.setPort p fun x => { x with launch := x.launch.erase l }
  if !s.portUp p then drop.launchEnd p l.frame 6
  else if s.inhibited F.TIME_INH_CFG_LAUNCH then drop.launchEnd p l.frame 3
  else if (s.port p).tx.isSome then s
  else
    let late := l.late || decide (s.launchStart p l.tick + 64 < 64 * (s.now : Int))
    (drop.when late fun x => x.launchErr p 1).startTx p { l.frame with late := late } 9

def execLaunch (p : Fin 4) (s : State) : Out :=
  .next (match firstLaunch (s.port p).launch with
    | some l => if s.launchDue p l then s.launchGo p l else s
    | none => s)

/-- A free port chooses its next frame (R308). -/
def State.startFrame (s : State) (p : Fin 4) : State :=
  if !s.portUp p || (s.port p).tx.isSome then s
  else match (firstLaunch (s.port p).launch).filter fun l => s.launchDue p l with
    | some l => s.launchGo p l
    | none =>
      let s := s.credits p
      match s.nextQueue p with
      | none => s
      | some q => match (s.port p).q[q] with
        | [] => s
        | f :: r => (s.setPort p fun x => { x with q := x.q.set q r, served := q }).startTx p f q

def execFrameStart (p : Fin 4) (s : State) : Out := .next (s.startFrame p)

/-- The registers that show the head of the transmit stamp queue. -/
def State.showTsq (s : State) (p : Fin 4) : State :=
  let b := P.net p
  match (s.port p).stamps with
  | [] => ((s.wr (b + R.NET_TSQ_HEAD) 0).wr (b + R.NET_TSQ_TICK_LO) 0).wr (b + R.NET_TSQ_TICK_HI) 0
  | (fid, t) :: r =>
    ((s.wr (b + R.NET_TSQ_HEAD) (2 ^ 31 + min 15 (r.length + 1) * 2 ^ 24 + t % 64 * 2 ^ 16 + fid)).wr (b + R.NET_TSQ_TICK_LO)
      (t / 64 % 2 ^ 32)).wr (b + R.NET_TSQ_TICK_HI) (t / 2 ^ 38 % 2 ^ 32)

/-- ECC has met a soft error in the buffered frame: a corrected word is counted, and an uncorrectable one ends the frame with an
inverted FCS (R306). -/
def State.bufEcc (s : State) (p : Fin 4) : Option Bool → State
  | none => s
  | some false => (s.bump P.switch R.SW_BUF_CE 16).err P.switch E.switch_BUF_CE
  | some true => ((s.bump (P.net p) R.NET_STOMP 16).err (P.net p) E.net_STOMP).err P.switch E.switch_BUF_UE

/-- A frame completes on the wire; its SFD crossed the lands at `sfd` taps (R313, R314). -/
def State.endFrame (s : State) (p : Fin 4) (sfd : Int) : State := match (s.port p).tx with
  | none => s
  | some (f, _) =>
    let b := P.net p
    let t := (sfd + toSigned 16 (s.rd (b + R.NET_DLY_TX))).toNat
    let s := ((s.credits p).setPort p fun x => { x with tx := none }).bump b R.NET_TX_FRAMES 31
    let s := s.txCopy f.job (if f.late then 1 else 0)
    let s := s.bufEcc p f.soft
    if !f.stamp then s
    else if (s.port p).stamps.length ≥ 16 then (s.bump b R.NET_TSQ_OVF 16).err b E.net_TSQ_OVF
    else (s.setPort p fun x => { x with stamps := x.stamps ++ [(f.fid, t)] }).showTsq p

def execFrameSent (p : Fin 4) (sfd : Int) (s : State) : Out := .next (s.endFrame p sfd)

def State.tsqPop (s : State) (p : Fin 4) : State := (s.setPort p fun x => { x with stamps := x.stamps.tail }).showTsq p

def execNetTsqPop (p : Fin 4) (s : State) : Out := .next (s.tsqPop p)

/-! Agent frames. -/

/-- A frame of the tracking unit, the safety layer or the management agent, in the queue of domain `d` with its tag (R303,
R306): sent on each port named in `ports` whose link is up. -/
def State.agentSend (s : State) (d : Fin 8) (ports : List (Fin 4)) (dst type : Nat) (body : List Byte) : State :=
  let b := padFrame (bytesBE 6 dst ++ bytesBE 6 s.swMac ++ bytesBE 2 type ++ body)
  let f : TxFrame := { bytes := addTag b (s.fld (P.netq d) F.NQ_CTRL_PCP) (s.fld P.switch (F.SW_DOM_VLAN_VID d)) }
  forEach ports s fun p x => if x.portUp p then (x.enqueue p ⟨d.val, by omega⟩ f).2 else x.bump (P.net p) R.NET_TX_DISC 16

/-! Rings (R305). -/

def portRing (p : Fin 4) : Fin 2 := ⟨p.val / 2, by omega⟩
def ringPort (r : Fin 2) (k : Fin 2) : Fin 4 := ⟨2 * r.val + k.val, by omega⟩
def otherPort (p : Fin 4) : Fin 4 := ⟨2 * (p.val / 2) + (1 - p.val % 2), by omega⟩
/-- This node manages the ring. -/
def State.ringMgr (s : State) (r : Fin 2) : Bool := bits (s.rd (P.switch + R.SW_RING_CFG)) r 1 == 1
def State.ringBlocked (s : State) (r : Fin 2) : Bool := bits (s.rd (P.switch + R.SW_RING_STATUS)) r 1 == 1
def State.setRing (s : State) (r : Fin 2) (f : RingState → RingState) : State :=
  s.setNet fun n => { n with rings := n.rings.set r (f n.rings[r]) }
/-- TEST in ticks. -/
def State.ringTest (s : State) : Nat := max 100 (s.fld P.switch F.SW_RING_CFG_TEST) * 625 / 2

/-- The ring is open. -/
def State.openRing (s : State) (r : Fin 2) : State :=
  if bits (s.rd (P.switch + R.SW_RING_STATUS)) (8 + r) 1 = 1 then s
  else
    let s := (s.setbit P.switch R.SW_RING_STATUS r false).setbit P.switch R.SW_RING_STATUS (8 + r) true
    let s := s.setRing r fun x => { x with run := 0 }
    (s.inc P.switch ⟨R.SW_RING_OPEN_CNT, 8 * r.val, 8⟩).err P.switch E.switch_RING_OPEN

/-- The interval that ends is judged; then a test frame is sent on each port. -/
def State.ringTestSend (s : State) (r : Fin 2) : State :=
  if !s.ringMgr r then s
  else
    let x := s.net.rings[r]
    let n := if x.got[0] && x.got[1] then min 3 (x.run + 1) else 0
    let s := s.setRing r fun x => { x with got := Vector.replicate 2 false, run := n }
    let s := if n = 3 then (s.setbit P.switch R.SW_RING_STATUS r true).setbit P.switch R.SW_RING_STATUS (8 + r) false else s
    let m := s.swMac
    let b := padFrame (bytesBE 6 m ++ bytesBE 6 m ++ bytesBE 2 (s.rd (P.switch + R.SW_RING_ETYPE) % 2 ^ 16))
    forEach [ringPort r 0, ringPort r 1] s fun p t => if t.portUp p then (t.enqueue p 8 { bytes := b }).2 else t

def execRingTestSend (r : Fin 2) (s : State) : Out := .next (s.ringTestSend r)

def execRingOpen (r : Fin 2) (s : State) : Out :=
  .next (if s.ringMgr r && decide (s.net.rings[r].last + 3 * s.ringTest ≤ s.now) then s.openRing r else s)

/-! Links (R301, R302). -/

/-- The link goes down: queued frames and the one on the wire are discarded; a manager's ring opens. -/
def State.portDown (s : State) (p : Fin 4) : State :=
  if !s.portUp p then s
  else
    let b := P.net p
    let x := s.port p
    let gone := (x.q.toList.foldl (· ++ ·) []) ++ (x.tx.map (·.1)).toList
    let s := ((s.setb b F.NET_STATUS_LINK_UP false).bump b R.NET_LINK_DOWN_CNT 16).err b E.net_LINK_DOWN
    let s := s.setPort p fun x => { x with q := Vector.replicate 9 [], tx := none, trySince := s.now }
    let s := forEach gone s fun f t => (t.bump b R.NET_TX_DISC 16).txCopy f.job 6
    if s.ringMgr (portRing p) then s.openRing (portRing p) else s

def execPortLinkDown (p : Fin 4) (hiBer : Bool) (s : State) : Out :=
  .next (if s.portUp p then ((s.portDown p).setb (P.net p) F.NET_STATUS_HI_BER hiBer).setb (P.net p) F.NET_STATUS_LOCK hiBer else s)

/-- The mode the port tries or uses. -/
def State.portMode (s : State) (p : Fin 4) : Nat :=
  let m := s.fld (P.net p) F.NET_CFG_MODE
  if m = 3 then (s.port p).tryMode else m

def execPortLinkUp (p : Fin 4) (s : State) : Out :=
  .next (if s.flag (P.net p) F.NET_CFG_EN && !s.portUp p then
    let b := P.net p
    (((s.setf b F.NET_STATUS_MODE_NOW (s.portMode p)).setb b F.NET_STATUS_LOCK true).setb b F.NET_STATUS_HI_BER false).setb b
      F.NET_STATUS_LINK_UP true
  else s)

/-- 200 ms (62,500,000 ticks) of one mode have brought no link. -/
def execAutoModeSwitch (p : Fin 4) (s : State) : Out :=
  .next (if s.fld (P.net p) F.NET_CFG_MODE = 3 ∧ s.flag (P.net p) F.NET_CFG_EN ∧ !s.portUp p ∧
      (s.port p).trySince + 62500000 ≤ s.now then
    s.setPort p fun x => { x with tryMode := if x.tryMode = 0 then 2 else 0, trySince := s.now }
  else s)

/-- A write of NET_CFG: a change of MODE, FEC_EN or KR_TRAIN, or EN at 0, takes the link down. -/
def State.writeNetCfg (s : State) (p : Fin 4) (v : Nat) : State :=
  let b := P.net p
  let old := s.rd (b + R.NET_CFG)
  let new := v &&& 0x30F
  let s := if (old ^^^ new) &&& 0x306 ≠ 0 ∨ new % 2 = 0 then s.portDown p else s
  let s := s.wr (b + R.NET_CFG) new
  if (old ^^^ new) &&& 0x307 ≠ 0 then s.setPort p fun x => { x with tryMode := 0, trySince := s.now } else s
def execNetCfgWrite (p : Fin 4) (v : Word) (s : State) : Out := .next (s.writeNetCfg p v.toNat)

/-- NET_CBS(q): ignored where the slopes would exceed 75 % of the port rate. -/
def State.writeCbs (s : State) (p : Fin 4) (q : Fin 9) (v : Nat) : State :=
  let b := P.net p
  let sum := ((List.finRange 9).map fun i => if i = q then v % 2 ^ 14 else bits (s.rd (b + R.NET_CBS i)) 0 14).foldl (· + ·) 0
  let rate := if s.portUp p then s.portRate p else if s.portMode p = 2 then 1000 else 10000
  if 4 * sum > 3 * rate then s.err b E.net_CBS_REJ else s.wr (b + R.NET_CBS q) (v % 2 ^ 14)
def execNetCbsWrite (p : Fin 4) (q : Fin 9) (v : Word) (s : State) : Out := .next (s.writeCbs p q v.toNat)

/-- SW_BUF_RSV(q): ignored where four ports' reserves would exceed the buffer (R318). -/
def State.writeRsv (s : State) (q : Fin 9) (v : Nat) : State :=
  let sum := ((List.finRange 9).map fun i => if i = q then v % 2 ^ 13 else s.rsv i).foldl (· + ·) 0
  if 8192 < 4 * sum then s.err P.switch E.switch_RSV_REJ else s.wr (P.switch + R.SW_BUF_RSV q) (v % 2 ^ 13)
def execSwBufRsvWrite (q : Fin 9) (v : Word) (s : State) : Out := 
  .next (s.unlessLocked fun s => s.writeRsv q v.toNat)

/-! Receiving (R303, R304, R307, R311). -/

/-- A frame is sent on the other port of its ring: cut through where R307 allows it, else stored if its FCS was good. -/
def State.forwardFrame (s : State) (p : Fin 4) (rx : NetRx) : State :=
  let o := otherPort p
  let dom := (frameVid rx.bytes).bind s.vidDom
  let q : Fin 9 := ⟨min 8 (dom.getD 8), by omega⟩
  if !s.portUp o || (s.ringMgr (portRing p) && s.ringBlocked (portRing p)) then s
  else
    let c := s.credits o
    let x := c.port o
    let cut := x.tx.isNone && x.q[q].isEmpty && (decide (x.slope[q] = 0) || decide (0 ≤ x.credit[q])) && c.guardOk o rx.bytes &&
      !s.slow p && !s.slow o
    if cut then
      let s := c.startTx o { bytes := rx.bytes } q
      if rx.fcs then s else (s.bump (P.net o) R.NET_STOMP 16).err (P.net o) E.net_STOMP
    else if rx.fcs then (s.enqueue o q { bytes := rx.bytes }).2
    else s.bump (P.net p) R.NET_RX_BAD 16

/-- A frame that finds no descriptor (R311). -/
def State.rxDrop (s : State) (d : Fin 8) : State := (s.bump (P.netq d) R.NQ_RX_DROP 16).err (P.netq d) E.netq_RX_DROP

/-- A delivered frame goes into the descriptor at NQ_RX_HEAD (R311). -/
def State.rxRing (s : State) (d : Fin 8) (p : Fin 4) (rx : NetRx) : State :=
  let b := P.netq d
  let head := s.rd (b + R.NQ_RX_HEAD)
  let a := s.rd64 b R.NQ_RX_BASE_LO / 32 * 32 + 32 * head
  let next (s : State) : State := s.wr (b + R.NQ_RX_HEAD) ((head + 1) % s.ringSize d R.NQ_RX_SIZE)
  if !s.flag b F.NQ_CTRL_RX_EN || head == s.rd (b + R.NQ_RX_TAIL) % 2 ^ 10 || bits s.net.stopR d 1 == 1 then s.rxDrop d
  else
    let r := s.ringOk d a 32 true
    if !r.1 then next (r.2.rxDrop d)
    else
    let s := if s.nqHost d then s else s.eccScan a 32
    match (if s.nqHost d then rx.desc.map (·.toNat) else some (s.extLoad a 32)) with
      | none => ((s.dmaErr E.host_DMA_TMO d a (Req.queue d) false).setNet fun n => { n with stopR := n.stopR ||| 2 ^ d.val }).rxDrop d
      | some w =>
        if bits w 127 1 = 0 then s.rxDrop d
        else
          let size := bits w 64 16
          let body := (untag rx.bytes).take size
          let t := (rx.sfd - toSigned 16 (s.rd (P.net p + R.NET_DLY_RX))).toNat
          let flags := (isGroup rx.bytes).toNat + 2 * (decide (size < (untag rx.bytes).length)).toNat + 4 * (!frameTagged rx.bytes).toNat
          let back (s : State) (n : Nat) : State :=
            (next (s.ringWrite d (a + 10) (bytesOf 2 n ++ bytesOf 1 p.val ++ bytesOf 1 flags ++ bytesOf 1 (t % 64) ++ [0] ++
              bytesOf 8 (t / 64)))).ringVec d
          let r := s.ringOk d (bits w 0 64) (max 1 body.length) true
          if r.1 then back (s.ringWrite d (bits w 0 64) body) body.length else back (r.2.rxDrop d) 0

/-- EtherTypes whose frames the agent port or the management agent takes; their commands carry the message (log 33). -/
def State.agentFrame (s : State) (d : Nat) (type : Nat) : Bool :=
  type == s.rd (P.track + R.TRACK_HO_ETYPE) % 2 ^ 16 || (d == 0 && type == s.fld P.safe F.SAFE_ETYPE_SAFE_ETYPE) ||
    (d == 0 && s.flag P.host F.HOST_MGMT_CTRL_EN && type == s.fld P.host F.HOST_MGMT_CTRL_ETYPE && decide (2 ≤ s.stage))

/-- Delivery to a domain; none in SAFE_HOLD. -/
def State.deliverTo (s : State) (d : Fin 8) (p : Fin 4) (rx : NetRx) : State :=
  if s.stage ≤ 1 ∨ s.agentFrame d (frameType rx.bytes) then s else s.rxRing d p rx

/-- Delivery by VID; a frame without a mapped one counts in SW_UNMAPPED. -/
def State.deliver (s : State) (p : Fin 4) (rx : NetRx) (group : Bool) : State :=
  if s.stage ≤ 1 then s
  else match ((frameVid rx.bytes).bind s.vidDom).bind (fin? 8) with
    | none => s.bump P.switch R.SW_UNMAPPED 16
    | some d => if group && !s.flag (P.netq d) F.NQ_CTRL_RX_MC then s else s.deliverTo d p rx

/-- An own ring test frame reaches its manager (R305). -/
def State.ringTestGot (s : State) (p : Fin 4) : State :=
  s.setRing (portRing p) fun x => { x with got := x.got.set (p.val % 2) true (by omega), last := s.now }

/-- Rows 2 to 8 of Table 13-3. -/
def State.classify (s : State) (p : Fin 4) (rx : NetRx) : State :=
  let b := rx.bytes
  let dst := frameDst b
  let src := frameSrc b
  let type := frameType b
  let held := decide (s.stage ≤ 1)
  let bad (s : State) : State := s.bump (P.net p) R.NET_RX_BAD 16
  if (dst = 0x0180C200000E ∨ dst = 0x011B19000000) ∧ type = 0x88F7 then (if rx.fcs then s.deliverTo 0 p rx else bad s)
  else if 0x0180C2000000 ≤ dst ∧ dst ≤ 0x0180C200000F then (if rx.fcs then s else bad s)
  else if type = s.rd (P.switch + R.SW_RING_ETYPE) % 2 ^ 16 ∧ dst = src ∧ (src ≠ s.swMac ∨ held ∨ s.ringMgr (portRing p)) then
    if src = s.swMac ∧ !held then (if rx.fcs then s.ringTestGot p else bad s)
    else (s.errIf (s.ringMgr (portRing p) && src != s.swMac) P.switch E.switch_MGR_CONFLICT).forwardFrame p rx
  else if src = s.swMac ∧ !held then (if rx.fcs then s.bump P.switch R.SW_STRIP 16 else bad s)
  else if dst = s.swMac then (if rx.fcs then s.deliver p rx false else bad s)
  else if isGroup b then (s.when rx.fcs fun s => s.deliver p rx true).forwardFrame p rx
  else s.forwardFrame p rx

/-- A frame arrives on a ring port whose link is up. -/
def State.receive (s : State) (p : Fin 4) (rx : NetRx) : State :=
  if !s.portUp p then s
  else
    let s := s.bump (P.net p) R.NET_RX_FRAMES 31
    if s.maxFrame < rx.bytes.length + 4 then s.bump (P.net p) R.NET_RX_BAD 16 else s.classify p rx

def execFrameReceive (p : Fin 4) (rx : NetRx) (s : State) : Out := .next (s.receive p rx)

end Sys2Proof.Machine
end

