-- ==== Sys2Proof/Machine/Track.lean ====
section
/-! DEFINITION. The tracking table: records, regions, reports, compare lists, rebuild, inversion of trunks
(11_item_tracking_and_handover.md, R246-R250, R253, R261, R262, R272). -/
namespace Sys2Proof.Machine
open Sys2Proof

def State.lane (s : State) (a : Fin 64) : Lane := s.track.lanes[a]
def State.setLane (s : State) (a : Fin 64) (f : Lane → Lane) : State :=
  s.setTrack fun t => { t with lanes := t.lanes.set a (f t.lanes[a]) }

/-- The unit runs: EN in FULL; it is inhibited in every other stage (Table 1-6). -/
def State.trackRun (s : State) : Bool := s.flag P.track F.TRACK_CTRL_EN && s.stage == 3

/-! Records (R246, Tables 11-1, 11-2): 256-bit words; a field is its lowest bit and width. -/

abbrev Rf := Nat × Nat
abbrev Rf.type : Rf := (4, 4)
abbrev Rf.state : Rf := (0, 4)
abbrev It.seen : Rf := (8, 1)
abbrev It.arrived : Rf := (9, 1)
abbrev It.suspect : Rf := (10, 1)
abbrev It.shifted : Rf := (11, 1)
abbrev It.trunk : Rf := (16, 3)
abbrev It.lane : Rf := (24, 6)
abbrev It.id : Rf := (32, 32)
abbrev It.origin : Rf := (64, 64)
abbrev It.first : Rf := (160, 32)
abbrev It.xfer : Rf := (224, 32)
abbrev Ev.kind : Rf := (8, 4)
abbrev Ev.level : Rf := (12, 1)
abbrev Ev.doubt : Rf := (13, 1)
abbrev Ev.align : Rf := (14, 1)
abbrev Ev.late : Rf := (15, 1)
abbrev Ev.lane : Rf := (16, 6)
abbrev Ev.target : Rf := (24, 8)
abbrev Ev.xfire : Rf := (32, 64)
abbrev Ev.width : Rf := (96, 32)
abbrev Ev.item : Rf := (128, 32)
abbrev Ev.next : Rf := (160, 32)
abbrev Ev.tick : Rf := (192, 32)
abbrev Ev.ofs : Rf := (224, 24)
abbrev Ev.trunk : Rf := (248, 3)
abbrev Ev.corr : Rf := (251, 5)
/-- No record. -/
abbrev noRec : Nat := 0xFFFFFFFF

def rg (w : Nat) (f : Rf) : Nat := bits w f.1 f.2
def rput (w : Nat) (f : Rf) (v : Nat) : Nat := setBits w f.1 f.2 v
def trkAddr (i : Nat) : Nat := 0x1000000 + 32 * i
def State.rec_ (s : State) (i : Nat) : Nat := s.load (trkAddr i) 32
def State.putRec (s : State) (i w : Nat) : State := s.store (trkAddr i) 32 w
def State.rget (s : State) (i : Nat) (f : Rf) : Nat := rg (s.rec_ i) f
def State.rset (s : State) (i : Nat) (f : Rf) (v : Nat) : State := s.putRec i (rput (s.rec_ i) f v)
def State.isItem (s : State) (i : Nat) : Bool := s.rget i Rf.type == 1
def State.isEvent (s : State) (i : Nat) : Bool := s.rget i Rf.type == 2
def sx64 (x : Nat) : Int := toSigned 64 x

/-- Records in use, ascending. -/
def State.usedRecs (s : State) : List Nat :=
  s.mem.filterMap fun c =>
    if 0x1000000 ≤ c.1 ∧ c.1 < 0x1800000 ∧ c.1 % 32 = 0 ∧ c.2.toNat / 16 ≠ 0 then some ((c.1 - 0x1000000) / 32) else none

/-- The region a record lies in. -/
def State.rgnOf (s : State) (i : Nat) : Option (Fin 8) := (List.finRange 8).find? fun d => s.inTrackRgn d.val i

def State.freeRecs (s : State) (d : Nat) : List Nat :=
  let used := s.usedRecs
  ((List.range (s.fld P.track (F.TRACK_RGN_COUNT d) * 1024)).map (· + s.fld P.track (F.TRACK_RGN_BASE d) * 1024)).filter fun i =>
    !used.contains i

/-- A free record of the region: which one is not given (log 34). -/
def State.allocate (s : State) (d : Nat) : Option Nat × State :=
  let l := s.freeRecs d
  match l with
  | [] => (none, s)
  | _ => let r := s.draw; (l[r.1 % l.length]?, r.2)

/-- The item an event belongs to. -/
def State.evItem (s : State) (i : Nat) : Option Nat :=
  let j := s.rget i Ev.item
  if j < 262144 ∧ s.isItem j then some j else none

/-- The events of an item in list order. -/
def State.chain (s : State) : Nat → Nat → List Nat
  | 0, _ => []
  | n + 1, i => if i < 262144 ∧ s.isEvent i then i :: s.chain n (s.rget i Ev.next) else []
def State.itemEvents (s : State) (i : Nat) : List Nat := s.chain 262144 (s.rget i It.first)

/-- An event is appended to the tail of its item's list. -/
def State.appendEvent (s : State) (i e : Nat) : State :=
  match (s.itemEvents i).getLast? with
  | none => s.rset i It.first e
  | some l => s.rset l Ev.next e

/-- An event leaves its item's list. -/
def State.unlink (s : State) (e : Nat) : State := match s.evItem e with
  | none => s
  | some i =>
    let nx := s.rget e Ev.next
    if s.rget i It.first = e then s.rset i It.first nx
    else match (s.itemEvents i).find? fun p => s.rget p Ev.next == e with
      | some p => s.rset p Ev.next nx
      | none => s

/-- What the unit holds about a record beside the record. -/
def TrackState.drop (t : TrackState) (i : Nat) : TrackState := { t with
  rb := t.rb.map fun r => { r with recs := r.recs.filter (· ≠ i) }
  inh := t.inh.filter (· ≠ i), wins := t.wins.filter (·.1 ≠ i), fin := t.fin.filter (·.1 ≠ i), susp := t.susp.filter (·.1 ≠ i)
  com := t.com.filter (·.1 ≠ i)
  ho := t.ho.filter (·.rec_ ≠ i) }

/-- A record is freed. -/
def State.freeRec (s : State) (i : Nat) : State := (s.putRec i 0).setTrack fun t => t.drop i
/-- An item is freed with its events. -/
def State.freeItem (s : State) (i : Nat) : State := (forEach (s.itemEvents i) s fun e t => t.freeRec e).freeRec i

def State.evLane (s : State) (i : Nat) : Fin 64 := ⟨s.rget i Ev.lane % 64, Nat.mod_lt _ (by omega)⟩
def State.itLane (s : State) (i : Nat) : Fin 64 := ⟨s.rget i It.lane % 64, Nat.mod_lt _ (by omega)⟩
def State.evTrunk (s : State) (i : Nat) : Fin 8 := ⟨s.rget i Ev.trunk % 8, Nat.mod_lt _ (by omega)⟩
def State.itTrunk (s : State) (i : Nat) : Fin 8 := ⟨s.rget i It.trunk % 8, Nat.mod_lt _ (by omega)⟩
def State.xfire (s : State) (i : Nat) : Int := sx64 (s.rget i Ev.xfire)
/-- The half-width of a window in Q32.32. -/
def State.halfWidth (s : State) (i : Nat) : Int := s.rget i Ev.width * 2 ^ 16
def State.isWindow (s : State) (i : Nat) : Bool := s.rget i Ev.kind == 3
def State.final (s : State) (i : Nat) : Bool := decide (8 ≤ s.rget i Rf.state)

/-! Reports (R272). -/

/-- RGN_RPT_HEAD and RGN_RPT show the head of the queue. -/
def State.showRpt (s : State) (d : Fin 8) : State :=
  let p := P.rgn d
  let l := s.track.reports[d]
  let s := s.wr (p + R.RGN_RPT_HEAD) (l.length * 2 ^ 16 + (!l.isEmpty).toNat)
  let h := l.headD (Vector.replicate 4 0)
  forEach (List.finRange 4) s fun k t => t.wr (p + R.RGN_RPT k) h[k].toNat

/-- The queue's vector. -/
def State.rptVec (s : State) (d : Fin 8) : State :=
  if s.flag (P.rgn d) F.RGN_CFG_VEC_EN then s.raiseVec (s.fld (P.rgn d) F.RGN_CFG_VEC) d else s

/-- A report of region d of a happening at tick `t`. FIRED and MARK only while RPT_FIRED is 1. -/
def State.reportAt (s : State) (t : Nat) (d : Fin 8) (code lane idx id detail : Nat) : State :=
  let p := P.rgn d
  let l := s.track.reports[d]
  if (code = 1 ∨ code = 0xB) ∧ !s.flag p F.RGN_CFG_RPT_FIRED then s
  else if l.length ≥ 256 then (s.inc p F.RGN_RPT_LOST_COUNT).err p E.rgn_RPT_OVF
  else
    let w : Vector Word 4 := #v[BitVec.ofNat 32 (code * 2 ^ 24 + lane * 2 ^ 18 + idx), BitVec.ofNat 32 id, BitVec.ofNat 32 t,
      BitVec.ofNat 32 detail]
    let s := (s.setTrack fun t => { t with reports := t.reports.set d (l ++ [w]) }).showRpt d
    if l.isEmpty then s.rptVec d else s

/-- A report about record i, of a happening at tick `t`, and of one at this tick. -/
def State.reportRecAt (s : State) (t i code detail : Nat) : State := match s.rgnOf i with
  | none => s
  | some d =>
    if s.isItem i then s.reportAt t d code (s.itLane i) i (s.rget i It.id) detail
    else s.reportAt t d code (s.evLane i) i (((s.evItem i).map fun j => s.rget j It.id).getD 0) detail
def State.reportRec (s : State) (i code detail : Nat) : State := s.reportRecAt s.now i code detail

def State.popReport (s : State) (d : Fin 8) : State :=
  let s := (s.setTrack fun t => { t with reports := t.reports.set d t.reports[d].tail }).showRpt d
  if s.track.reports[d].isEmpty then s else s.rptVec d

def execRgnRptPop (d : Fin 8) (s : State) : Out := .next (s.popReport d)

/-! Handover segments (R264). -/

def State.hoBin (s : State) (k : Nat) : Int := sx64 (s.rd64 (P.handover k) R.HO_BIN_LO)
def State.hoBout (s : State) (k : Nat) : Int := sx64 (s.rd64 (P.handover k) R.HO_BOUT_LO)
def State.hoLead (s : State) (k : Nat) : Int := s.rd (P.handover k + R.HO_LEAD) * 2 ^ 16
def State.outEn (s : State) (k : Nat) : Bool := s.flag (P.handover k) F.HO_CTRL_OUT_EN
def State.hoOwner (s : State) (k : Nat) : Fin 8 := ⟨s.ownerReg (P.handover k) % 8, Nat.mod_lt _ (by omega)⟩

/-- An event of an item lies at or beyond B_out while OUT_EN is 1. -/
def State.beyond (s : State) (i : Nat) : Bool := match s.evItem i with
  | none => false
  | some j => s.outEn (s.evTrunk i) && decide (s.hoBout (s.evTrunk i) ≤ wrap64 (s.xfire i - sx64 (s.rget j It.origin)))

/-! Compare lists (R261). -/

/-- The entries of a record with their lanes. -/
def State.entriesOf (s : State) (i : Nat) : List (Fin 64 × Entry) :=
  if s.isItem i then
    let k := s.itTrunk i
    let x := wrap64 (sx64 (s.rget i It.origin) + s.hoBout k)
    [(s.itLane i, ⟨k, wrap64 (x - s.hoLead k), i⟩), (s.itLane i, ⟨k, x, i⟩)]
  else if s.isEvent i && !s.final i then
    [(s.evLane i, ⟨s.evTrunk i, if s.isWindow i then wrap64 (s.xfire i - s.halfWidth i) else s.xfire i, i⟩)]
  else []

/-- The entry still stands for its record. -/
def State.live (s : State) (a : Fin 64) (e : Entry) : Bool := (s.entriesOf e.rec_).contains (a, e)

/-- Ascending by trunk, then key. -/
def insertEntry (e : Entry) : List Entry → List Entry
  | [] => [e]
  | f :: l =>
    if e.trunk < f.trunk ∨ (e.trunk = f.trunk ∧ e.key < f.key) then e :: f :: l
    else if e = f then f :: l else f :: insertEntry e l

/-- LANE_STATUS shows the buffer. -/
def State.showLane (s : State) (a : Fin 64) : State := s.setf (P.lane a) F.LANE_STATUS_N (min 64 (s.lane a).buf.length)

/-- The insert buffers have room for the entries of these records. -/
def State.roomFor (s : State) (ws : List Nat) : Bool :=
  let lane (w : Nat) : Fin 64 := ⟨rg w (if rg w Rf.type = 1 then It.lane else Ev.lane) % 64, Nat.mod_lt _ (by omega)⟩
  let need (w : Nat) : Nat := if rg w Rf.type = 1 then 2 else 1
  ws.all fun w => decide ((s.lane (lane w)).buf.length +
    (((ws.filter fun v => lane v == lane w).map need).foldl (· + ·) 0) ≤ 64)

/-- Record i enters the insert buffer of its lane. -/
def State.buffer (s : State) (i : Nat) : State :=
  forEach (s.entriesOf i) s fun (a, e) t => (t.setLane a fun l => { l with buf := l.buf ++ [e] }).showLane a

/-- TRACK_DEAD: dead entries in the active bank. -/
def State.deadCount (s : State) : Nat :=
  ((List.finRange 64).map fun a => ((s.lane a).act.filter fun e => !s.live a e).length).foldl (· + ·) 0

/-! Rebuild (R262). -/

def State.startRebuild (s : State) : State := match s.track.rb with
  | some r => s.setTrack fun t => { t with rb := some { r with again := true } }
  | none => (s.setTrack fun t => { t with rb := some { start := s.now, recs := s.usedRecs } }).setb P.track F.TRACK_STATUS_REBUILDING true

/-- The dead entries reach TRACK_DEAD_LIM. -/
def State.deadRebuild (s : State) : State :=
  let lim := bits (s.rd (P.track + R.TRACK_DEAD_LIM)) 0 20
  if s.track.rb.isNone && decide (lim ≠ 0 ∧ lim ≤ s.deadCount) then s.startRebuild else s

def State.laneOn (s : State) (a : Fin 64) : Bool := s.flag (P.lane a) F.LANE_CTRL_EN

/-- The last enabled lane has swapped: the merger resumes; a held request starts anew. -/
def State.endRebuild (s : State) : State := match s.track.rb with
  | none => s
  | some r =>
    if !r.built || s.track.swap.any (fun n => s.flag (P.lane n) F.LANE_CTRL_EN) then s
    else
      let us := min 65535 ((s.now - r.start) * 2 / 625)
      let s := ((s.setTrack fun t => { t with rb := none }).setb P.track F.TRACK_STATUS_REBUILDING false).wr (P.track + R.TRACK_RB_TIME) us
      if r.again then s.startRebuild else s

/-- The builder completes: sorted shadow lists of the records allocated at the start, final events left out. -/
def State.completeRebuild (s : State) : State := match s.track.rb with
  | none => s
  | some r =>
    if r.built then s
    else
      let es := r.recs.flatMap s.entriesOf
      let s := forEach (List.finRange 64) s fun a t =>
        (t.setLane a fun l => { l with shd := (es.filter fun x => x.1 == a).foldl (fun l x => insertEntry x.2 l) [] }).setb (P.lane a)
          F.LANE_STATUS_SWAP_PEND true
      (s.setTrack fun t => { t with rb := some { r with built := true }, swap := List.range 64 }).endRebuild

def execRebuildComplete (s : State) : Out := .next s.completeRebuild
def execRebuild (s : State) : Out := .next s.startRebuild

/-- A lane swaps its banks. -/
def State.swapLane (s : State) (a : Fin 64) : State :=
  if !s.track.swap.contains a.val then s
  else
    let p := P.lane a
    let s := (s.setLane a fun l => { l with act := l.shd, shd := l.act }).setTrack fun t => { t with swap := t.swap.filter (· ≠ a.val) }
    ((s.setb p F.LANE_STATUS_SWAP_PEND false).setb p F.LANE_STATUS_BANK (!s.flag p F.LANE_STATUS_BANK)).endRebuild

/-- LANE_CTRL: a lane that is enabled again performs a pending swap. -/
def State.writeLaneCtrl (s : State) (a : Fin 64) (v : Nat) : State :=
  let was := s.laneOn a
  let s := s.wr (P.lane a + R.LANE_CTRL) (v % 2)
  if v % 2 = 1 ∧ !was then s.swapLane a else s.endRebuild

/-- The merger moves a lane's buffer into the active bank, outside a rebuild. -/
def execMerge (a : Fin 64) (s : State) : Out :=
  .next (if s.track.rb.isSome then s
    else ((s.setLane a fun l => { l with act := l.buf.foldl (fun m e => insertEntry e m) l.act, buf := [] }).showLane a).deadRebuild)

/-- TRACK_CTRL.INIT: every record is freed. -/
def State.trackInit (s : State) : State :=
  (s.clearMem 0x1000000 0x800000).setTrack fun t => { t with
    rb := t.rb.map fun r => { r with recs := [] }
    inh := [], wins := [], fin := [], susp := [], com := [], ho := [] }
def execInit (s : State) : Out := .next s.trackInit

/-- A write of TRACK_RGN (R246). -/
def State.writeTrackRgn (s : State) (d : Fin 8) (v : Nat) : State :=
  let b := v % 2 ^ 8
  let n := bits v 16 9
  let bad := decide (262144 < (b + n) * 1024) || (List.finRange 8).any fun e => e ≠ d &&
    decide (0 < n ∧ 0 < s.fld P.track (F.TRACK_RGN_COUNT e) ∧ b < s.fld P.track (F.TRACK_RGN_BASE e) + s.fld P.track (F.TRACK_RGN_COUNT e) ∧
      s.fld P.track (F.TRACK_RGN_BASE e) < b + n)
  if bad then s.err P.track E.track_RGN_OVL
  else
    let old := s.usedRecs.filter fun i => s.inTrackRgn d i
    let s := forEach old s fun i t => t.freeRec i
    let s := s.wr (P.track + R.TRACK_RGN d) (v &&& 0x1FF00FF)
    (forEach (s.usedRecs.filter fun i => s.inTrackRgn d i) s fun i t => t.freeRec i).startRebuild
def execTrackRgnWrite (d : Fin 8) (v : Word) (s : State) : Out := 
  .next (s.unlessLocked fun s => s.writeTrackRgn d v.toNat)

/-! Inversion (R253): the instant a trunk reaches X, as a fraction in ticks. -/

/-- The active segment at a tick, and the units of 2⁻³² ns until the next activation. -/
def State.segAt (s : State) (k : Fin 8) (t : Nat) : Option TrunkSeg × Option Int :=
  let r := activate 0 (s.time96 t) (s.trunk k).queue (s.trunk k).active false
  (r.2.1, r.1.head?.map fun g => -since96 (s.time96 t) g.t)

/-- The first tick from `t` on, before `stop`, at which a time-defined trunk is at or past X. Where the gap and the largest
velocity of the segment rule the next ticks out they are passed over. -/
def State.scan (s : State) (k : Fin 8) (x : Int) (stop : Nat) : Nat → Nat → Option Nat
  | 0, _ => none
  | n + 1, t =>
    if stop ≤ t then none
    else match s.segAt k t with
      | (none, some u) => s.scan k x stop n (t + max 1 (u / s.time.cur.inc).toNat)
      | (none, none) => none
      | (some g, u) =>
        let gap := wrap64 (x - (g.at (since96 (s.time96 t) g.t)).1)
        if gap ≤ 0 then some t
        else
          let v : Nat := g.c[1].natAbs + 2 * g.c[2].natAbs + 3 * g.c[3].natAbs
          let j := if v = 0 then stop else ((gap - 1).toNat * g.dur * 2 ^ 32) / (v * max 1 s.time.cur.inc)
          let j := match u with
            | some u => min j (u / s.time.cur.inc).toNat
            | none => j
          s.scan k x stop n (t + max 1 j)

/-- t_X at compare instant c with a look-ahead in ticks: numerator and denominator; none where X is not placeable. -/
def State.invert (s : State) (k : Fin 8) (x : Int) (c look : Nat) : Option (Int × Nat) :=
  if !s.flag (P.trunk k) F.TRK_STATUS_VALID then none
  else if s.trkSrc k = 0 then
    let r := s.trkValue k c
    if r.2.1 ≤ 0 ∧ 0 < wrap64 (x - r.1) then none
    else (s.scan k x (c + look) (look + 1) c).map fun t => ((t : Int), 1)
  else match (s.trunk k).anchor with
    | none => none
    | some (xa, ta) =>
      let r := s.trkRate k
      let p := s.trkPitch k
      let d := wrap64 (x - xa)
      if r.1 ≤ 0 ∨ p = 0 ∨ 2 * (p : Int) < d then none
      else some ((ta : Int) * (p * r.1) + d * r.2, p * r.1.toNat)

/-- τ = round(t_X + OFS), halves upward (R254). -/
def State.tau (s : State) (k : Fin 8) (x : Int) (ofs : Int) (c look : Nat) : Option Int :=
  (s.invert k x c look).map fun r => roundQ (r.1 + ofs * r.2) r.2

/-- x_T at a tick. -/
def State.xT (s : State) (k : Fin 8) (t : Nat) : Int := (s.trkAt k t).1

end Sys2Proof.Machine
end

