-- ==== Sys2Proof/Machine/Handover.lean ====
section
/-! DEFINITION. Handover between nodes: messages, sessions, ownership and doubt (11_item_tracking_and_handover.md,
R264-R271). -/
namespace Sys2Proof.Machine
open Sys2Proof

/-! Handover state of an item. -/

def State.hoGet (s : State) (i : Nat) : HoItem := (s.track.ho.find? fun h => h.rec_ == i).getD { rec_ := i, page := s.itTrunk i }
def State.hoPut (s : State) (h : HoItem) : State :=
  s.setTrack fun t => { t with ho := t.ho.filter (fun x => x.rec_ ≠ h.rec_) ++ [h] }
def State.hoMod (s : State) (i : Nat) (f : HoItem → HoItem) : State := s.hoPut (f (s.hoGet i))
/-- The item of a transfer on a page. -/
def State.hoFind (s : State) (k : Fin 8) (down : Bool) (xfer : Nat) : Option HoItem :=
  s.track.ho.find? fun h => h.page == k.val && h.down == down && s.rget h.rec_ It.xfer == xfer

/-- COMMIT_TMO and RETRY in ticks; 0 acts as 1 µs. -/
def State.commitTmo (s : State) (k : Nat) : Nat := max 1 (s.fld (P.handover k) F.HO_TIMING_COMMIT_TMO) * 625 / 2
def State.hoRetry (s : State) (k : Nat) : Nat := max 1 (s.fld (P.handover k) F.HO_TIMING_RETRY) * 625 / 2
def State.doubtTmo (s : State) (k : Nat) : Nat := max 1 (bits (s.rd (P.handover k + R.HO_DOUBT_TMO)) 0 16) * 312500

/-- Sessions (R266): toward the downstream or the upstream neighbour. -/
def State.sessUp (s : State) (k : Nat) (dn : Bool) : Bool :=
  s.flag (P.handover k) (if dn then F.HO_STATUS_DN_UP else F.HO_STATUS_UP_UP)
def State.sessVer (s : State) (k : Nat) (dn : Bool) : Nat :=
  s.fld (P.handover k) (if dn then F.HO_STATUS_DN_VER else F.HO_STATUS_UP_VER)

/-- HO_STATUS.DOUBT. -/
def State.showDoubt (s : State) (k : Nat) : State :=
  s.setf (P.handover k) F.HO_STATUS_DOUBT (min 255 (s.track.ho.filter fun h => h.page == k && s.rget h.rec_ Rf.state == 6).length)

/-- An item enters IN_DOUBT (R270). -/
def State.enterDoubt (s : State) (i : Nat) : State :=
  let k := (s.hoGet i).page
  let s := (s.rset i Rf.state 6).inc (P.handover k) F.HO_CNT_DOUBT_COUNT
  ((s.err (P.handover k) E.handover_IN_DOUBT).reportRec i 0x15 (s.rget i It.xfer)).showDoubt k

/-- An item ends with a report and is freed; `fail`: counted in HO_CNT_FAIL. -/
def State.endItem (s : State) (i code detail : Nat) (fail : Bool) : State :=
  let k := (s.hoGet i).page
  ((s.when fail fun s => s.inc (P.handover k) F.HO_CNT_FAIL_COUNT).reportRec i code detail |>.freeItem i).showDoubt k

/-! Messages (R265). -/

/-- A message to a neighbour, once on each ring. -/
def State.hoSend (s : State) (k : Fin 8) (dn : Bool) (type ver xfer id count arg : Nat) (body : List Byte) : State :=
  let p := P.handover k
  let dst := if dn then s.rd (p + R.HO_DN_ADDR_HI) % 2 ^ 16 * 2 ^ 32 + s.rd (p + R.HO_DN_ADDR_LO)
    else s.rd (p + R.HO_UP_ADDR_HI) % 2 ^ 16 * 2 ^ 32 + s.rd (p + R.HO_UP_ADDR_LO)
  let msg (r : Nat) : List Byte := bytesOf 1 (ver * 16 + type) ++ bytesOf 1 r ++ bytesOf 2 (s.rd (p + R.HO_LINE_ID)) ++ bytesOf 4 xfer ++
    bytesOf 4 id ++ bytesOf 2 count ++ bytesOf 2 arg ++ body
  let et := s.rd (P.track + R.TRACK_HO_ETYPE) % 2 ^ 16
  (s.agentSend (s.hoOwner k) [0, 1] dst et (msg 0)).agentSend (s.hoOwner k) [2, 3] dst et (msg 1)

/-- A message about an item in the session's version. -/
def State.hoAbout (s : State) (k : Fin 8) (dn : Bool) (type xfer id arg : Nat) (body : List Byte) : State :=
  s.hoSend k dn type (s.sessVer k dn) xfer id 0 arg body

/-- The events of an item that are not final, lowest XFIRE first. -/
def insertByX (f : Nat → Int) (i : Nat) : List Nat → List Nat
  | [] => [i]
  | j :: l => if f i < f j then i :: j :: l else j :: insertByX f i l
def State.openEvents (s : State) (i : Nat) : List Nat :=
  ((s.itemEvents i).filter fun e => !s.final e).foldl (fun l e => insertByX s.xfire e l) []

/-- OFFER: the item, then at most 40 events; in version 2 without DOUBT_FIRE and ALIGN. -/
def State.sendOffer (s : State) (i : Nat) : State :=
  let h := s.hoGet i
  let k : Fin 8 := ⟨h.page % 8, Nat.mod_lt _ (by omega)⟩
  let v2 := s.sessVer k true == 2
  let es := (s.openEvents i).take 40
  let ev (e : Nat) : Nat :=
    let w := rput (rput (rput (s.rec_ e) Ev.item noRec) Ev.next noRec) Ev.tick 0
    if v2 then rput (rput w Ev.doubt 0) Ev.align 0 else w
  let body := bytesOf 32 (rput (s.rec_ i) It.first noRec) ++ es.flatMap fun e => bytesOf 32 (ev e)
  (s.hoSend k true 1 (s.sessVer k true) (s.rget i It.xfer) (s.rget i It.id) (es.length + 1) 0 body).hoMod i fun h =>
    { h with sent := s.now }

/-- The first OFFER of an item (R267): XFER is assigned; events beyond 40 are CANCELLED and reported under a code the spec does
not give (log 35). -/
def State.offerItem (s : State) (i : Nat) : State :=
  let k := s.itTrunk i
  let x := (s.rd (P.handover k + R.HO_XFER) + 1) % 2 ^ 32
  let s := ((s.wr (P.handover k + R.HO_XFER) x).rset i It.xfer x).rset i Rf.state 2
  let s := forEach ((s.openEvents i).drop 40) s fun e t =>
    let r := t.draw
    (r.2.rset e Rf.state 13).reportRec e (r.1 % 256) 0
  (s.hoPut { rec_ := i, page := k, offered := true }).sendOffer i

/-- COMMIT with the device time of t_B in ns. -/
def State.sendCommit (s : State) (i : Nat) : State :=
  let h := s.hoGet i
  let k : Fin 8 := ⟨h.page % 8, Nat.mod_lt _ (by omega)⟩
  let tb := s.timeAt (h.tB.getD 0) / 2 ^ 32 % 2 ^ 64
  (s.hoAbout k true 4 (s.rget i It.xfer) (s.rget i It.id) 0 (bytesOf 8 tb)).hoMod i fun h => { h with sent := s.now, committed := true }

def State.sendWithdraw (s : State) (i : Nat) : State :=
  let h := s.hoGet i
  let k : Fin 8 := ⟨h.page % 8, Nat.mod_lt _ (by omega)⟩
  (s.hoAbout k true 6 (s.rget i It.xfer) (s.rget i It.id) 0 []).hoMod i fun h => { h with sent := s.now }

/-- The crossing of an upstream item at t_B (R267). -/
def State.crossItem (s : State) (i tB : Nat) : State :=
  let k := s.itTrunk i
  let h := s.hoGet i
  let st := s.rget i Rf.state
  let s := s.hoMod i fun h => { h with tB := some tB }
  if h.del then (s.freeItem i).showDoubt k
  else if st = 3 then (s.rset i Rf.state 4).sendCommit i
  else if st = 2 then match h.refused with
    | some r => s.endItem i 0x12 r true
    | none => s.enterDoubt i
  else if s.flag (P.handover k) F.HO_CTRL_EXIT then s.endItem i 0x14 0 false
  else s.endItem i 0x13 0 true

/-! Receiving (R265, R266). -/

def State.hoDrop (s : State) (k : Nat) : State := (s.inc (P.handover k) F.HO_CNT_DROP_COUNT).err (P.handover k) E.handover_DROP

/-- A neighbour has been heard. -/
def State.hoHeard (s : State) (k : Fin 8) (dn : Bool) : State :=
  s.setTrack fun t => { t with pages := t.pages.set k (if dn then { t.pages[k] with dn := some s.now } else { t.pages[k] with up := some s.now }) }

/-- The first of the two copies of a message, or one sent again. -/
def State.hoFirst (s : State) (k : Fin 8) (type : Nat) (m : HoMsg) : Bool × State :=
  let me (x : HoSeen) : Bool := x.page == k.val && x.type == type && x.xfer == m.xfer
  let put (x : HoSeen) : State := s.setTrack fun t => { t with seen := x :: t.seen.filter fun y => !me y }
  let new : HoSeen := ⟨k, type, m.xfer, m.ringB, false⟩
  match s.track.seen.find? me with
  | none => (true, put new)
  | some x => if x.ringB = m.ringB ∨ x.dup then (true, put new) else (false, put { x with dup := true })

/-- A message other than HELLO from a neighbour: in the session's version, and its first copy. -/
def State.hoRecv (s : State) (k : Fin 8) (dn : Bool) (type : Nat) (m : HoMsg) (f : State → State) : State :=
  if !s.sessUp k dn || m.ver != s.sessVer k dn || (type == 7 && m.ver == 2) then s.hoDrop k
  else
    let r := (s.hoHeard k dn).hoFirst k type m
    if r.1 then f r.2 else r.2.inc (P.handover k) F.HO_CNT_DROP_COUNT

/-- HELLO (R266): its ARG holds the sender's version and the lowest it accepts. -/
def State.hello (s : State) (k : Fin 8) (dn : Bool) (m : HoMsg) : State :=
  let p := P.handover k
  let v := m.arg % 256
  if v < 2 ∨ 4 < v then s.err p E.handover_VER_MISMATCH
  else
    let s := s.hoHeard k dn
    if dn then (s.setf p F.HO_STATUS_DN_VER (min 3 v)).setb p F.HO_STATUS_DN_UP true
    else (s.setf p F.HO_STATUS_UP_VER (min 3 v)).setb p F.HO_STATUS_UP_UP true
def execHello (k : Fin 8) (dn : Bool) (m : HoMsg) (s : State) : Out := .next (s.hello k dn m)

/-- HELLO to each configured neighbour, every 100 ms (31,250,000 ticks). -/
def execHelloSend (k : Fin 8) (s : State) : Out :=
  .next (
    let p := P.handover k
    let due := match s.track.pages[k].hello with
      | some t => decide (t + 31250000 ≤ s.now)
      | none => true
    if !due then s
    else
      let s := s.setTrack fun t => { t with pages := t.pages.set k { t.pages[k] with hello := some s.now } }
      let ask (s : State) (dn : Bool) (o : Nat) : State := if s.rd64 p o % 2 ^ 48 = 0 then s else s.hoSend k dn 8 3 0 0 0 0x203 []
      ask (ask s true R.HO_DN_ADDR_LO) false R.HO_UP_ADDR_LO)

/-- 350 ms (109,375,000 ticks) without a message. -/
def execSessionDown (k : Fin 8) (dn : Bool) (s : State) : Out :=
  .next (
    let p := P.handover k
    let t := (if dn then s.track.pages[k].dn else s.track.pages[k].up).getD 0
    if s.sessUp k dn && decide (t + 109375000 ≤ s.now) then
      let s := if dn then (s.setb p F.HO_STATUS_DN_UP false).setf p F.HO_STATUS_DN_VER 0
        else (s.setb p F.HO_STATUS_UP_UP false).setf p F.HO_STATUS_UP_VER 0
      s.err p E.handover_SESSION_DOWN
    else s)

/-! The downstream node (R268). -/

/-- Inserts counted against a domain's budget (R392). -/
def State.countInserts (s : State) (d : Fin 8) (n : Nat) : State :=
  let ms := s.now / 312500
  s.setTrack fun t =>
    let b := t.budget[d]
    { t with budget := t.budget.set d (ms, (if b.1 = ms then b.2 else 0) + n) }

/-- A record is allocated, written and buffered; an event joins its item's list, CARRIED where R264 makes it so. -/
def State.addRecord (s : State) (d : Fin 8) (w : Nat) : Option Nat × State :=
  match s.allocate d with
  | (none, s) => (none, s)
  | (some i, s) =>
    let s := s.putRec i w
    let s := if rg w Rf.type = 2 then
        let s := match s.evItem i with
          | some j => s.appendEvent j i
          | none => s
        s.rset i Rf.state (if s.beyond i then 5 else 1)
      else s
    (some i, s.buffer i)

/-- The records of an OFFER: the item as it is stored, and the events from B_in on. -/
def arrivalItem (k : Fin 8) (m : HoMsg) : Nat :=
  let w := field m.body 0 32
  rput (rput (rput (rput (rput (rput w Rf.type 1) Rf.state 5) It.arrived 1) It.trunk k) It.first noRec) It.xfer m.xfer
def State.arrivalEvents (s : State) (k : Fin 8) (m : HoMsg) : List Nat :=
  let o := sx64 (rg (field m.body 0 32) It.origin)
  let es := ((List.range (m.count - 1)).map fun j => field m.body (32 * (j + 1)) 32).filter fun w =>
    decide (s.hoBin k ≤ wrap64 (sx64 (rg w Ev.xfire) - o))
  let es := es.map fun w => rput (rput (rput (rput w Rf.type 2) Ev.trunk k) Ev.next noRec) Ev.tick 0
  if s.flag (P.handover k) F.HO_ARR_CFG_EN then
    let p := P.handover k
    let x := o + s.hoBin k + s.rd (p + R.HO_ARR_POS) * 2 ^ 16
    let w := rput (rput (rput (rput (rput 0x20 Ev.kind 3) Ev.level (s.fld p F.HO_ARR_CFG_ARR_LEVEL)) Ev.lane (s.fld p F.HO_ARR_CFG_ARR_LANE))
      Ev.target (s.fld p F.HO_ARR_CFG_ARR_CH)) Ev.xfire (ofSigned 64 x)
    es ++ [rput (rput (rput w Ev.width (s.rd (p + R.HO_ARR_W))) Ev.next noRec) Ev.trunk k]
  else es

/-- The item of an OFFER becomes HELD with its events. -/
def State.holdItem (s : State) (k : Fin 8) (m : HoMsg) : State :=
  let d := s.hoOwner k
  let es := s.arrivalEvents k m
  match s.addRecord d (arrivalItem k m) with
  | (none, s) => s
  | (some i, s) =>
    let r := es.foldl (fun (r : Option Nat × State) w => r.2.addRecord d (rput w Ev.item i)) (none, s)
    let arr := if s.flag (P.handover k) F.HO_ARR_CFG_EN then r.1 else none
    (r.2.hoPut { rec_ := i, page := k, down := true, arr := arr, since := s.now }).countInserts d (es.length + 1)

/-- OFFER (R268): REFUSE for an unknown LINE_ID, IN_EN at 0 or no room, else HELD and ACCEPT. -/
def State.takeOffer (s : State) (k : Fin 8) (m : HoMsg) : State :=
  let p := P.handover k
  let back (s : State) (type arg : Nat) : State := s.hoAbout k false type m.xfer m.id arg []
  if m.count = 0 ∨ 41 < m.count ∨ m.body.length < 32 * m.count then s.hoDrop k
  else if (s.hoFind k true m.xfer).isSome then back s 2 0
  else if m.line ≠ s.rd (p + R.HO_LINE_ID) % 2 ^ 16 then back s 3 3
  else if !s.flag p F.HO_CTRL_IN_EN then back s 3 2
  else
    let ws := arrivalItem k m :: s.arrivalEvents k m
    if (s.freeRecs (s.hoOwner k)).length < ws.length ∨ !s.roomFor ws then back s 3 1 else back (s.holdItem k m) 2 0
def execOffer (k : Fin 8) (m : HoMsg) (s : State) : Out := .next (s.hoRecv k false 1 m fun s => s.takeOffer k m)

/-- COMMIT (R268, Table 11-9). -/
def State.takeCommitMsg (s : State) (k : Fin 8) (m : HoMsg) : State := match s.hoFind k true m.xfer with
  | none =>
    if s.track.gone.contains (k.val, m.xfer) then s.hoAbout k false 3 m.xfer m.id 4 [] else s.hoDrop k
  | some h =>
    let i := h.rec_
    let st := s.rget i Rf.state
    let s := if st = 5 then ((s.rset i Rf.state 1).inc (P.handover k) F.HO_CNT_IN_COUNT).reportRec i 0x11 m.xfer
      else if st = 6 then ((s.rset i Rf.state 1).reportRec i 0x16 m.xfer).showDoubt k
      else s
    s.hoAbout k false 5 m.xfer m.id 0 []
def execCommit (k : Fin 8) (m : HoMsg) (s : State) : Out := .next (s.hoRecv k false 4 m fun s => s.takeCommitMsg k m)

/-- WITHDRAW. -/
def State.takeWithdraw (s : State) (k : Fin 8) (m : HoMsg) : State := match s.hoFind k true m.xfer with
  | none => s.hoDrop k
  | some h =>
    let st := s.rget h.rec_ Rf.state
    if st = 5 then (s.freeItem h.rec_).hoAbout k false 5 m.xfer m.id 0 []
    else if st = 6 then (s.endItem h.rec_ 0x17 m.xfer true).hoAbout k false 5 m.xfer m.id 0 []
    else s.hoDrop k
def execWithdraw (k : Fin 8) (m : HoMsg) (s : State) : Out := .next (s.hoRecv k false 6 m fun s => s.takeWithdraw k m)

/-- t_B′: the instant the trunk reached ORIGIN + B_in, if it has by now. -/
def State.tBin (s : State) (h : HoItem) : Option Nat := match h.tB with
  | some t => some t
  | none =>
    let k : Fin 8 := ⟨h.page % 8, Nat.mod_lt _ (by omega)⟩
    let x := wrap64 (sx64 (s.rget h.rec_ It.origin) + s.hoBin k)
    let t := if s.trkSrc k = 0 then (s.scan k x (s.now + 1) (s.now - h.since + 1) h.since).map fun t => (t : Int)
      else s.tau k x 0 s.now 0
    match t with
    | some t => if t ≤ s.now then some t.toNat else none
    | none => none

/-- A downstream item in doubt turns out absent (Table 11-9). -/
def State.absentItem (s : State) (i : Nat) : State :=
  let h := s.hoGet i
  let k : Fin 8 := ⟨h.page % 8, Nat.mod_lt _ (by omega)⟩
  let x := s.rget i It.xfer
  let id := s.rget i It.id
  let s := (s.endItem i 0x17 x true).setTrack fun t => { t with gone := (k.val, x) :: t.gone }
  if s.sessVer k false = 3 then s.hoAbout k false 7 x id 0 [] else s

/-- A downstream item in doubt has been seen. -/
def State.foundItem (s : State) (i : Nat) : State :=
  let h := s.hoGet i
  let k : Fin 8 := ⟨h.page % 8, Nat.mod_lt _ (by omega)⟩
  let x := s.rget i It.xfer
  let s := ((s.rset i Rf.state 1).reportRec i 0x16 x).showDoubt k
  if s.sessVer k false = 3 then s.hoAbout k false 7 x (s.rget i It.id) 1 [] else s

/-- No COMMIT until COMMIT_TMO after t_B′. -/
def execHeldCommitTimeout (i : Fin 262144) (s : State) : Out :=
  .next (
    let h := s.hoGet i
    if s.isItem i && h.down && s.rget i Rf.state == 5 then match s.tBin h with
      | some t => if t + s.commitTmo h.page ≤ s.now then (s.hoMod i fun h => { h with tB := some t }).enterDoubt i else s
      | none => s
    else s)

/-- The doubt timeout: DOUBT_TMO after t_B or t_B′. -/
def execDoubtTmo (i : Fin 262144) (s : State) : Out :=
  .next (
    let h := s.hoGet i
    if s.isItem i && s.rget i Rf.state == 6 && decide (h.tB.getD 0 + s.doubtTmo h.page ≤ s.now) then
      if h.down then s.absentItem i else s.endItem i 0x18 (s.rget i It.xfer) true
    else s)

/-! The upstream node (R267). -/

/-- ACCEPT. -/
def State.takeAccept (s : State) (k : Fin 8) (m : HoMsg) : State := match s.hoFind k false m.xfer with
  | none => s.hoDrop k
  | some h =>
    let i := h.rec_
    let st := s.rget i Rf.state
    if st = 2 then s.rset i Rf.state 3
    else if st = 6 then ((s.rset i Rf.state 4).sendCommit i).showDoubt k
    else s
def execAccept (k : Fin 8) (m : HoMsg) (s : State) : Out := .next (s.hoRecv k true 2 m fun s => s.takeAccept k m)

/-- REFUSE. -/
def State.takeRefuse (s : State) (k : Fin 8) (m : HoMsg) : State := match s.hoFind k false m.xfer with
  | none => s.hoDrop k
  | some h =>
    let i := h.rec_
    let st := s.rget i Rf.state
    if st = 2 then (s.hoMod i fun h => { h with refused := some m.arg }).err (P.handover k) E.handover_REFUSED
    else if st = 6 ∧ m.arg = 4 then s.endItem i 0x12 4 true
    else s
def execRefuse (k : Fin 8) (m : HoMsg) (s : State) : Out := .next (s.hoRecv k true 3 m fun s => s.takeRefuse k m)

/-- DONE. -/
def State.takeDone (s : State) (k : Fin 8) (m : HoMsg) : State := match s.hoFind k false m.xfer with
  | none => s.hoDrop k
  | some h =>
    let st := s.rget h.rec_ Rf.state
    if h.del then s.freeItem h.rec_
    else if st = 4 ∨ st = 6 then (s.bump (P.handover k) R.HO_CNT_OUT 16).endItem h.rec_ 0x10 m.xfer false
    else s
def execDoneMsg (k : Fin 8) (m : HoMsg) (s : State) : Out := .next (s.hoRecv k true 5 m fun s => s.takeDone k m)

/-- RESOLVE. -/
def State.takeResolve (s : State) (k : Fin 8) (m : HoMsg) : State := match s.hoFind k false m.xfer with
  | none => s.hoDrop k
  | some h =>
    if s.rget h.rec_ Rf.state = 6 then
      (if m.arg = 1 then s.endItem h.rec_ 0x16 m.xfer false else s.endItem h.rec_ 0x17 m.xfer true)
    else s
def execResolve (k : Fin 8) (m : HoMsg) (s : State) : Out := .next (s.hoRecv k true 7 m fun s => s.takeResolve k m)

/-- An outstanding OFFER, COMMIT or WITHDRAW is sent again every RETRY. -/
def execHoRetry (i : Fin 262144) (s : State) : Out :=
  .next (
    let h := s.hoGet i
    let st := s.rget i Rf.state
    if !s.isItem i || h.down || decide (s.now < h.sent + s.hoRetry h.page) then s
    else if h.del then s.sendWithdraw i
    else if st = 2 ∧ h.refused = none then s.sendOffer i
    else if (st = 4 ∨ st = 6) ∧ h.committed then s.sendCommit i
    else s)

/-- No DONE until COMMIT_TMO after t_B. -/
def execCommitTmo (i : Fin 262144) (s : State) : Out :=
  .next (
    let h := s.hoGet i
    if s.isItem i && !h.down && s.rget i Rf.state == 4 && decide (h.tB.getD 0 + s.commitTmo h.page ≤ s.now) then s.enterDoubt i else s)

end Sys2Proof.Machine
end

