-- ==== Sys2Proof/Machine/Compare.lean ====
section
/-! DEFINITION. The compare unit, windows, corrections, the event log's release and the commands of the RGN pages
(11_item_tracking_and_handover.md, R251-R260, R263, R392; event log by R71). -/
namespace Sys2Proof.Machine
open Sys2Proof

/-! Compare instants (R252). -/

/-- Ticks between position cycles of an axis at the measured sampling rate, while sample sets arrive. -/
def State.posInterval (s : State) (a : Fin 64) : Option Nat :=
  let l := s.loopOf a
  match l.stamps, l.graph with
  | x :: y :: _, some g =>
    if s.flag (P.loop a) F.LOOP_STATUS_RUNNING ∧ l.posStamp ≠ 0 ∧ s.now ≤ l.lastStamp + 2 * (x - y) then
      some (max 1 (g.kv * g.kp * (x - y))) else none
  | _, _ => none

/-- LANE_PERIOD in µs within its limits. -/
def State.lanePeriod (s : State) (a : Fin 64) : Nat := min 4000 (max 13 (bits (s.rd (P.lane a + R.LANE_PERIOD)) 0 12))

/-- The latest compare instant, the one that follows it, and whether the lane is axis-timed. -/
def State.instants (s : State) (a : Fin 64) : Nat × Nat × Bool := match s.posInterval a with
  | some d => ((s.loopOf a).posStamp, (s.loopOf a).posStamp + d, true)
  | none =>
    let p := s.lanePeriod a * 625
    let k := (2 * s.now + 1) / p
    (k * p / 2, (k + 1) * p / 2, false)

/-- Look-ahead in ticks: at most 100 ms, at least one period. -/
def State.look (s : State) (a : Fin 64) (period : Nat) : Nat :=
  max period (min 100000 (bits (s.rd (P.lane a + R.LANE_LOOKAHEAD)) 0 20) * 625 / 2)

/-! What may be done with an event (R254, R268, R270). -/

inductive Run where
  | go | hold | skip | no
  deriving DecidableEq, Repr

/-- By the state of its item: run; placed only (HELD); SKIPPED at τ (in doubt); not compared. -/
def State.runOf (s : State) (i : Nat) : Run := match s.evItem i with
  | none => if s.rget i Ev.item = noRec then .go else .no
  | some j => match s.rget j Rf.state with
    | 1 | 2 | 3 => .go
    | 5 => .hold
    | 6 => if s.rget i Ev.doubt = 1 ∨ s.isWindow i then .go else .skip
    | _ => .no

/-! The compare pass (R254-R257, R267). -/

structure Pass where
  a : Fin 64
  c : Nat
  next : Nat
  reach : Nat
  look : Nat

inductive ActKind where
  | commit | window | offer | cross
  deriving DecidableEq, Repr

/-- An action: τ, record, kind. -/
structure Action where
  tau : Int
  rec_ : Nat
  kind : ActKind

def Action.before (x y : Action) : Bool := decide (x.tau < y.tau ∨ (x.tau = y.tau ∧ x.rec_ < y.rec_))
def insertAction (x : Action) : List Action → List Action
  | [] => [x]
  | y :: l => if x.before y then x :: y :: l else y :: insertAction x l

def State.place (s : State) (i st : Nat) (tau : Int) : State := (s.rset i Ev.tick (ofSigned 32 tau)).rset i Rf.state st

/-- The tick an event is placed or committed at, in full. -/
def State.evTick (s : State) (i : Nat) : Int := nearTick s.now (s.rget i Ev.tick)

def State.tauOf (s : State) (p : Pass) (i : Nat) (x : Int) : Option Int :=
  s.tau (s.evTrunk i) (wrap64 x) (toSigned 24 (s.rget i Ev.ofs)) p.c p.look

def State.setWin (s : State) (i : Nat) (t : Int) : State :=
  s.setTrack fun k => { k with wins := (i, t.toNat) :: k.wins.filter (·.1 ≠ i) }

/-- A window: its open tick decides, and its close tick is kept while it can be found (R257). -/
def State.compareWindow (s : State) (p : Pass) (i : Nat) : State × List Action :=
  let close := s.tauOf p i (s.xfire i + s.halfWidth i)
  if s.rget i Rf.state = 4 then (match close with | some t => s.setWin i t | none => s, [])
  else match s.tauOf p i (s.xfire i - s.halfWidth i) with
    | none => (s.rset i Rf.state 1, [])
    | some t =>
      if p.c + p.look ≤ t then (s.rset i Rf.state 1, [])
      else if p.next + p.reach ≤ t then (s.place i 2 t, [])
      else (s, [⟨t, i, .window⟩])

/-- An event of the lane: its state, and an action where it is due. -/
def State.compareEvent (s : State) (p : Pass) (i : Nat) : State × List Action :=
  let st := s.rget i Rf.state
  if s.final i || st == 3 || s.track.inh.contains i then (s, [])
  else if s.beyond i then (s.rset i Rf.state 5, [])
  else match s.runOf i with
    | .no => (s, [])
    | r =>
      let s := if st = 5 then s.rset i Rf.state 1 else s
      if s.isWindow i && r == .go then s.compareWindow p i
      else match s.tauOf p i (s.xfire i) with
        | none => (s.rset i Rf.state 1, [])
        | some t =>
          if p.c + p.look ≤ t then (s.rset i Rf.state 1, [])
          else if p.next + p.reach ≤ t ∨ r ≠ .go then (s.place i 2 t, [])
          else (s, [⟨t, i, .commit⟩])

/-- An item of the lane: its OFFER or its crossing, where due (R267). -/
def State.compareItem (s : State) (p : Pass) (i : Nat) : List Action :=
  let k := s.itTrunk i
  let st := s.rget i Rf.state
  let x := wrap64 (sx64 (s.rget i It.origin) + s.hoBout k)
  let xt := s.xT k p.c
  let exit_ := s.flag (P.handover k) F.HO_CTRL_EXIT
  if !(s.outEn k || exit_) || st == 0 || decide (3 < st) then []
  else
    let tb : Int := ((s.hoGet i).tB.map fun t => (t : Int)).getD (min p.c ((s.tau k x 0 p.c 0).getD p.c))
    if 0 ≤ wrap64 (xt - x) then [⟨tb, i, .cross⟩]
    else if st = 1 ∧ s.outEn k ∧ s.sessUp k true ∧ 0 ≤ wrap64 (xt - (x - s.hoLead k)) then
      [⟨min p.c ((s.tau k (wrap64 (x - s.hoLead k)) 0 p.c 0).getD p.c), i, .offer⟩]
    else []

/-- The Slate of a lane is aligned as Granite sees it, and events are not inhibited (R256). -/
def State.evInhibited (s : State) (a : Fin 64) : Bool :=
  s.inhibited F.TIME_INH_CFG_EVENTS || !s.flag P.time (F.TIME_ALIGN_ALIGNED (slateOf a))

/-- The event becomes INHIBITED at tick `t`. -/
def State.makeInhibited (s : State) (i t : Nat) : State :=
  let p := P.lane (s.evLane i)
  (((s.rset i Rf.state 11).setTrack fun t => { t with inh := t.inh.filter (· ≠ i) }).inc p F.LANE_CNT_INHIB_COUNT).err p E.lane_INHIBIT
    |>.reportRecAt t i 4 0

/-- The event becomes MISSED at tick `t`. -/
def State.makeMissed (s : State) (i late t : Nat) : State :=
  let p := P.lane (s.evLane i)
  ((s.rset i Rf.state 10).inc p F.LANE_CNT_MISSED_COUNT).err p E.lane_MISSED |>.reportRecAt t i 3 (min (2 ^ 32 - 1) late)

/-- The records of a committed event (R254). -/
def State.commitAt (s : State) (i : Nat) (t : Nat) : State :=
  let sl := slateOf (s.evLane i)
  let lvl := s.rget i Ev.level == 1
  let c := s.rget i Ev.target
  let s := match s.rget i Ev.kind with
    | 1 => s.queueOut sl lvl c t
    | 2 => (s.queueOut sl lvl c t).queueOut sl (!lvl) c (t + s.rget i Ev.width)
    | _ => s
  (s.place i 3 t).setTrack fun k => { k with com := (i, sl.val, (s.slate sl).safe) :: k.com.filter (·.1 ≠ i) }

/-- A commit action: on time, late, missed or inhibited. -/
def State.commitEvent (s : State) (p : Pass) (i : Nat) (t : Int) : State :=
  let pg := P.lane p.a
  let edge : Int := p.c + p.reach
  let l := (edge - t).toNat
  if l > s.rd (pg + R.LANE_LATE_TOL) % 2 ^ 16 then s.makeMissed i l s.now
  else if s.evInhibited p.a then
    let s := (s.place i 2 t).setTrack fun k => { k with inh := i :: k.inh }
    if t ≤ s.now then s.makeInhibited i s.now else s
  else
    let s := s.commitAt i (max t edge).toNat
    if l = 0 then s
    else ((s.rset i Ev.late 1).inc pg F.LANE_CNT_LATE_COUNT).err pg E.lane_LATE_FIRE |>.reportRec i 6 l

def State.act (s : State) (p : Pass) (x : Action) : State := match x.kind with
  | .commit => s.commitEvent p x.rec_ x.tau
  | .window =>
    let s := s.place x.rec_ 2 x.tau
    match s.tauOf p x.rec_ (s.xfire x.rec_ + s.halfWidth x.rec_) with
    | some t => s.setWin x.rec_ t
    | none => s.setWin x.rec_ x.tau
  | .offer => s.offerItem x.rec_
  | .cross => s.crossItem x.rec_ x.tau.toNat

/-- The records the lane compares: live entries of the active bank and of the buffer, each record once. -/
def State.laneRecs (s : State) (a : Fin 64) : List Nat :=
  let l := s.lane a
  (((l.act ++ l.buf).filter fun e => s.live a e).map (·.rec_)).eraseDups

/-- One record of a pass: the state after it and the actions found so far, in the order they are carried out. -/
def State.compareOne (s : State) (p : Pass) (l : List Action) (i : Nat) : State × List Action :=
  if s.isItem i then (s, (s.compareItem p i).foldl (fun l x => insertAction x l) l)
  else
    let e := s.compareEvent p i
    (e.1, e.2.foldl (fun l x => insertAction x l) l)

def State.compareAll (s : State) (p : Pass) (l : List Action) : List Nat → State × List Action
  | [] => (s, l)
  | i :: r => let x := s.compareOne p l i
              x.1.compareAll p x.2 r

/-- An action beyond the sixteen of a pass waits for the next. -/
def State.deferAction (s : State) (p : Pass) (x : Action) : State :=
  let t := s.inc (P.lane p.a) F.LANE_CNT_DEFER_COUNT
  if x.kind = .cross then t.hoMod x.rec_ fun h => { h with tB := some x.tau.toNat } else t

/-- Processing of a lane at compare instant c. -/
def State.comparePass (s : State) (p : Pass) : State :=
  let recs := s.laneRecs p.a
  let trunks := (List.finRange 8).filter fun k => recs.any fun i => if s.isItem i then s.itTrunk i == k else s.evTrunk i == k
  let r := (forEach trunks s fun k t => t.trkAsk k p.c).compareAll p [] recs
  let late := r.2.drop 16
  let s := (forEach late r.1 fun x t => t.deferAction p x).errIf (!late.isEmpty) (P.lane p.a) E.lane_CAPACITY
  (forEach (r.2.take 16) s fun x t => t.act p x).deadRebuild

/-- Records in use with an uncorrectable word, ascending. -/
def State.badRecs (s : State) : List Nat := s.usedRecs.filter fun i => s.uncorrectable (trkAddr i) 32

/-- They are freed and reported, their index recorded (R273). -/
def State.recordUe (s : State) : State :=
  forEach s.badRecs s fun i t => (((t.reportRec i 0x19 0).freeRec i).wr (P.track + R.TRACK_UE_ADDR) (2 ^ 31 + i)).err P.track E.track_REC_UE

/-- COMPARE_INSTANT: a swap due; then, while the unit runs, the lane's events, windows and items, after the records that the
unit finds uncorrectable. -/
def execCompareInstant (a : Fin 64) (s : State) : Out :=
  .next (
    let t := s.instants a
    let fresh := match (s.lane a).ck with
      | some c => decide (c < t.1)
      | none => true
    if !s.laneOn a || !fresh then s
    else
      let s := (s.setLane a fun l => { l with ck := some t.1 }).setb (P.lane a) F.LANE_STATUS_AXIS_TIMED t.2.2
      let s := if (s.track.rb.map (·.built)).getD true then s.swapLane a else s
      if !s.trackRun then s
      else s.recordUe.comparePass ⟨a, t.1, t.2.1, s.reach, s.look a (t.2.1 - t.1)⟩)

/-! Firing (R254, R256, R260, R270). -/

def State.setFin (s : State) (i t : Nat) : State := s.setTrack fun k => { k with fin := (i, t) :: k.fin.filter (·.1 ≠ i) }

/-- CORR increments, saturating at 31. -/
def State.bumpCorr (s : State) (i : Nat) : State := s.rset i Ev.corr (min 31 (s.rget i Ev.corr + 1))

/-- A fired event inside a suspect span, reported as of tick `t`. -/
def State.makeSuspect (s : State) (i : Nat) (delta : Int) (t : Nat) : State :=
  let p := P.lane (s.evLane i)
  let s := (s.rset i Rf.state 9).bumpCorr i
  let s := match s.evItem i with
    | some j => s.rset j It.suspect 1
    | none => s
  (s.inc p F.LANE_CNT_SUSPECT_COUNT).err p E.lane_SUSPECT |>.reportRecAt t i 2 (ofSigned 32 delta)

/-- The Slate of a committed event has been in its safe state since the commit. -/
def State.wasCut (s : State) (i : Nat) : Bool := s.track.com.any fun c => c.1 == i && c.2.2

/-- A committed event at its tick `t`. -/
def State.fireEvent (s : State) (i : Nat) (t : Nat) : State :=
  let a := s.evLane i
  let cut := s.wasCut i
  let s := s.setTrack fun k => { k with com := k.com.filter (·.1 ≠ i) }
  if cut then s.makeMissed i 0 t
  else if !s.flag P.time (F.TIME_ALIGN_ALIGNED (slateOf a)) then s.makeInhibited i t
  else
    let s := ((s.rset i Rf.state 8).setFin i t).inc (P.lane a) F.LANE_CNT_FIRED_FIRED
    match s.track.susp.find? fun x => x.1 == i with
    | some x => (s.setTrack fun k => { k with susp := k.susp.filter (·.1 ≠ i) }).makeSuspect i x.2 t
    | none => s.reportRecAt t i (if s.rget i Ev.kind = 4 then 0xB else 1) 0

def execEventFire (i : Fin 262144) (s : State) : Out :=
  .next (
    let t := s.evTick i
    let st := s.rget i Rf.state
    if !s.isEvent i || decide (s.now < t) then s
    else if st = 3 then s.fireEvent i t.toNat
    else if st = 2 ∧ s.track.inh.contains i.val then s.makeInhibited i t.toNat
    else if st = 2 ∧ s.runOf i = .skip then (s.rset i Rf.state 12).reportRecAt t.toNat i 5 0
    else s)

/-! Windows (R257-R259). -/

/-- A decided window reaches its open tick. -/
def execWindowOpen (i : Fin 262144) (s : State) : Out :=
  .next (
    if s.isEvent i && s.isWindow i && s.rget i Rf.state == 2 && s.track.wins.any (·.1 == i.val) && decide (s.evTick i ≤ s.now) then
      s.rset i Rf.state 4
    else s)

/-- The close tick plus 625 has passed without a match. -/
def execNotSeen (i : Fin 262144) (s : State) : Out :=
  .next (match s.track.wins.find? fun w => w.1 == i.val with
    | none => s
    | some w =>
      if !s.isEvent i || s.final i || s.runOf i != .go || decide (s.now < w.2 + 625) then s
      else
        let p := P.lane (s.evLane i)
        let s := (((s.rset i Rf.state 15).setFin i (w.2 + 625)).err p E.lane_NOT_SEEN).reportRecAt (w.2 + 625) i 8 0
        match s.evItem i with
        | some j => if s.rget j Rf.state = 6 ∧ (s.hoGet j).arr = some i.val then s.absentItem j else s
        | none => s)

/-- ORIGIN and the uncommitted events of an item move by `d`; fresh entries are made (Table 11-4, log 36). `but`: the
window that matched keeps its XFIRE. -/
def State.shiftItem (s : State) (i : Nat) (d : Int) (but : Option Nat) : State :=
  let s := (s.rset i It.origin (ofSigned 64 (sx64 (s.rget i It.origin) + d))).rset i It.shifted 1
  let es := (s.itemEvents i).filter fun e => some e ≠ but && [1, 2, 4, 5].contains (s.rget e Rf.state)
  let s := forEach es s fun e t => (t.rset e Ev.xfire (ofSigned 64 (t.xfire e + d))).buffer e
  s.buffer i

/-- A window matches an edge at stamp `t`, `p` from its XFIRE. -/
def State.seeWindow (s : State) (i t : Nat) (p : Int) (unal : Bool) : State :=
  let s := ((s.rset i Rf.state 14).rset i Ev.tick (t % 2 ^ 32)).setFin i s.now
  let s := s.reportRecAt t i 7 (ofSigned 31 (p / 2 ^ 16) + unal.toNat * 2 ^ 31)
  match s.evItem i with
  | none => s
  | some j =>
    let s := s.rset j It.seen 1
    let st := s.rget j Rf.state
    let s := if s.rget i Ev.align = 1 ∧ (st = 1 ∨ st = 6) then s.shiftItem j p (some i) else s
    if st = 6 ∧ (s.hoGet j).down then s.foundItem j else s

/-- Windows of Slate i on a channel that an edge may match. -/
def State.openWindows (s : State) (i : Fin 8) (ch : Nat) (level : Bool) : List Nat :=
  s.usedRecs.filter fun r => s.isEvent r && s.isWindow r && !s.final r && s.rget r Rf.state != 5 && slateOf (s.evLane r) == i &&
    s.laneOn (s.evLane r) && s.rget r Ev.target == ch && (s.rget r Ev.level == 1) == level && s.runOf r == .go

/-- The nearest of the windows in reach of the edge, the lower index among equals. -/
def State.nearestWindow (s : State) (t : Nat) (l : List Nat) : Option (Nat × Int) :=
  l.foldl (fun b r =>
    let p := wrap64 (s.xT (s.evTrunk r) t - s.xfire r)
    if s.halfWidth r < p.natAbs then b
    else match b with
      | none => some (r, p)
      | some (_, q) => if p.natAbs < q.natAbs then some (r, p) else b) none

/-- An edge that matches no window (R259), for each lane that watches the channel. -/
def State.unexpected (s : State) (i : Fin 8) (ch : Nat) (level : Bool) (t : Nat) : State :=
  forEach (axesOf i) s fun a x =>
    let p := P.lane a
    if x.laneOn a && x.flag p F.LANE_WIN_CH_EN && x.fld p F.LANE_WIN_CH_CH == ch && x.flag p F.LANE_WIN_CH_POL == level then
      let k := ((x.usedRecs.find? fun r => x.isEvent r && x.isWindow r && x.evLane r == a && x.rget r Ev.target == ch).map x.evTrunk).getD 0
      let d : Fin 8 := ⟨x.axisDom a % 8, Nat.mod_lt _ (by omega)⟩
      ((x.inc p F.LANE_CNT_UNEXP_COUNT).err p E.lane_UNEXP).reportAt t d 0xA a (ch * 2 ^ 12 + 0xFFF) 0 (ofSigned 32 (x.xT k t / 2 ^ 16))
    else x

/-- A released edge at the tracking unit. -/
def State.trackEdge (s : State) (i : Fin 8) (ch : Nat) (level unal : Bool) (t : Nat) : State :=
  if !s.trackRun then s
  else match s.nearestWindow t (s.openWindows i ch level) with
    | some (r, p) => s.seeWindow r t p unal
    | none => s.unexpected i ch level t

/-! Corrections (R260). -/

/-- What a correction does to one record of a trunk on the unit. -/
def State.correctRec (s : State) (c : Correction) (i : Nat) : State :=
  let st := s.rget i Rf.state
  let inSpan (t : Int) : Bool := decide ((c.from_ : Int) ≤ t ∧ t ≤ c.till)
  let fin := (s.track.fin.find? fun x => x.1 == i).map (·.2)
  if st = 8 then (if (fin.map fun t => inSpan t).getD false then s.makeSuspect i c.delta s.now else s)
  else if st = 3 then
    (if inSpan (s.evTick i) then s.setTrack fun k => { k with susp := (i, c.delta) :: k.susp.filter (·.1 ≠ i) } else s)
  else if st = 14 ∨ st = 15 then
    (if (fin.map fun t => inSpan t).getD false then s.reportRec i 9 (ofSigned 32 c.delta) else s)
  else if st = 2 then
    let a := s.evLane i
    let cc := (s.lane a).ck.getD s.now
    let x := if s.isWindow i then s.xfire i - s.halfWidth i else s.xfire i
    match s.tauOf ⟨a, cc, cc, 0, s.look a 0⟩ i x with
    | none => s
    | some t =>
      if 1 < (t - s.evTick i).natAbs then
        ((s.rset i Ev.tick (ofSigned 32 t)).bumpCorr i).inc (P.lane a) F.LANE_CNT_RETIME_COUNT
      else s.rset i Ev.tick (ofSigned 32 t)
  else s

def execCorrectionApply (s : State) : Out :=
  .next (match s.corrections with
    | [] => s
    | c :: r =>
      let s := s.setCorrections r
      let ks := s.trunksOf 1 c.input
      forEach (s.usedRecs.filter fun i => s.isEvent i && ks.contains (s.evTrunk i)) s fun i t => t.correctRec c i)

/-! The event log (R71). -/

def keyLt (x y : Nat × Nat × Nat) : Bool :=
  decide (x.1 < y.1 ∨ (x.1 = y.1 ∧ (x.2.1 < y.2.1 ∨ (x.2.1 = y.2.1 ∧ x.2.2 < y.2.2))))
abbrev EvHeld := Nat × Nat × Nat × Bool × Bool
def evKey (e : EvHeld) : Nat × Nat × Nat := (e.1, e.2.1, e.2.2.1)

def insertHeld (e : EvHeld) : List EvHeld → List EvHeld
  | [] => [e]
  | f :: l => if keyLt (evKey e) (evKey f) then e :: f :: l else f :: insertHeld e l

/-- A record is released to its consumers: counted where late, tooth units, windows. -/
def State.releaseEvent (s : State) (e : EvHeld) : State := match slate? e.2.1 with
  | none => s
  | some i =>
    let late := match s.evlog.lastKey with
      | some k => keyLt (evKey e) k
      | none => false
    let s := s.setEvlog fun v => { v with lastKey := (if late then v.lastKey else some (evKey e)), released := v.released ++ [(e, late)] }
    let s := s.when late fun s => (s.inc (P.link i) F.LINK_EVT_LATE).err (P.link i) E.link_EVT_LATE
    let ch := e.2.2.1
    let s := if ch = 32 ∨ ch = 33 then match fin? 16 (2 * i.val + (ch - 32)) with
        | some t => s.toothEdge t e.1 e.2.2.2.2
        | none => s
      else s
    (s.offerEvent i ch e.2.2.2.1 e.1).trackEdge i ch e.2.2.2.1 e.2.2.2.2 e.1

/-- Records whose stamp plus 625 is reached, and late ones at once, in key order. `released` holds those of this release. -/
def execEventLogRelease (s : State) : Out :=
  .next (
    let due (e : EvHeld) : Bool := decide (e.1 + 625 ≤ s.now) || (match s.evlog.lastKey with | some k => keyLt (evKey e) k | none => false)
    let l := (s.evlog.held.filter due).foldl (fun m e => insertHeld e m) []
    forEach l (s.setEvlog fun v => { v with held := v.held.filter (fun e => !due e), released := [] }) fun e t => t.releaseEvent e)

/-! Commands of a region (R251). -/

/-- A command ends: RGN_RESULT; a status other than 0 sets CMD_REJ. -/
def State.rgnDone (s : State) (d : Fin 8) (status idx : Nat) : State :=
  let p := P.rgn d
  ((s.setb p F.RGN_CMD_GO false).wr (p + R.RGN_RESULT) (status * 2 ^ 28 + idx)).errIf (status != 0) p E.rgn_CMD_REJ

/-- The staged image as one record. -/
def State.staged (s : State) (d : Fin 8) : Nat := (List.range 8).foldr (fun j x => s.rd (P.rgn d + R.RGN_STAGE j) + 2 ^ 32 * x) 0

/-- An axis whose lane the domain may use, and a trunk it may follow. -/
def State.laneUsable (s : State) (d a : Nat) : Bool := s.axisDom a == d && s.fitted (a / 8)
def State.trunkUsable (s : State) (d : Nat) (k : Fin 8) : Bool :=
  s.trkOn k && (s.ownerReg (P.trunk k) == d || s.ownerReg (P.trunk k) == 0)

/-- TARGET names a point the domain may act on; a channel without a point is domain 0's. -/
def State.targetOk (s : State) (d : Nat) (w : Nat) : Bool :=
  let a := rg w Ev.lane
  let t := rg w Ev.target
  let sl := a / 8
  match rg w Ev.kind with
  | 4 => true
  | 3 => if t < 16 then s.ownsPoint d (16 * sl + t) else t == 32 || t == 33
  | _ =>
    if t < 16 then
      let m := s.rd (P.fsch sl + R.FSCH_MAP t)
      if bits m 4 1 = 1 then s.ownsPoint d (16 * sl + m % 16) else d == 0
    else d == 0

/-- The fields of a staged image are valid (R251). -/
def State.imageOk (s : State) (d : Fin 8) (w : Nat) (item : Bool) : Bool :=
  if item then rg w Rf.type == 1 && s.laneUsable d (rg w It.lane) && s.trunkUsable d ⟨rg w It.trunk % 8, Nat.mod_lt _ (by omega)⟩
  else
    let k := rg w Ev.kind
    let wd := rg w Ev.width
    let j := rg w Ev.item
    rg w Rf.type == 2 && decide (1 ≤ k ∧ k ≤ 4) && (if k = 2 then decide (1 ≤ wd ∧ wd ≤ 2 ^ 31) else k == 3 || wd == 0) &&
      s.laneUsable d (rg w Ev.lane) && s.trunkUsable d ⟨rg w Ev.trunk % 8, Nat.mod_lt _ (by omega)⟩ && s.targetOk d w &&
      (j == noRec || (decide (j < 262144) && s.isItem j && s.inTrackRgn d j && s.rget j Rf.state == 1 && s.rget j It.trunk == rg w Ev.trunk))

/-- An insert is carried out: FIELD, FULL, BUFFER, in this order, else DONE. -/
def State.insertRec (s : State) (d : Fin 8) (w : Nat) (item : Bool) : State :=
  if !s.imageOk d w item then s.rgnDone d 3 0
  else
    let w := rput w (if item then (19, 5) else (22, 2)) 0
    let w := if item then rput (rput (rput (rput (rput w Rf.state 1) (8, 8) 0) (30, 2) 0) It.first noRec) It.xfer 0
      else rput (rput (rput w Ev.late 0) Ev.next noRec) Ev.corr 0
    if (s.freeRecs d).isEmpty then s.rgnDone d 1 0
    else if !s.roomFor [w] then
      (s.rgnDone d 5 0).err (P.lane (rg w (if item then It.lane else Ev.lane))) E.lane_BUF_FULL
    else
      let r := (s.countInserts d 1).addRecord d w
      r.2.rgnDone d 0 (r.1.getD 0)

/-- The domain's budget allows a further insert in this millisecond (R392). -/
def State.budgetLeft (s : State) (d : Fin 8) : Bool :=
  let b := s.track.budget[d]
  let f := bits (s.rd (P.dom + (if d.val < 4 then R.DOM_INS_LO else R.DOM_INS_HI))) (8 * (d.val % 4)) 8
  decide ((if b.1 = s.now / 312500 then b.2 else 0) < 8 * f)

/-- GO is accepted: a write while GO is 1 is ignored. -/
def State.rgnGo (s : State) (d : Fin 8) (op idx : Nat) (f : State → State) : State :=
  let p := P.rgn d
  if s.flag p F.RGN_CMD_GO then s else f (s.wr (p + R.RGN_CMD) (op * 2 ^ 24 + idx))

/-- INSERT_ITEM and INSERT_EVENT: held over budget until the next millisecond. -/
def State.insertCmd (s : State) (d : Fin 8) (idx : Nat) (item : Bool) : State :=
  let op := if item then 1 else 2
  s.rgnGo d op idx fun s =>
    let w := s.staged d
    if s.budgetLeft d then s.insertRec d w item
    else ((s.setb (P.rgn d) F.RGN_CMD_GO true).inc P.dom F.DOM_INS_HELD_COUNT).setTrack fun t =>
      { t with heldIns := t.heldIns.set d (some (op, w)) }
def execInsertItem (d : Fin 8) (s : State) : Out := .next (s.insertCmd d 0 true)
def execInsertEvent (d : Fin 8) (s : State) : Out := .next (s.insertCmd d 0 false)

def execHeldInsertRelease (d : Fin 8) (s : State) : Out :=
  .next (match s.track.heldIns[d] with
    | none => s
    | some (op, w) =>
      if s.budgetLeft d then (s.setTrack fun t => { t with heldIns := t.heldIns.set d none }).insertRec d w (op == 1) else s)

/-- Record idx of the region, in use and of the type asked. -/
def State.rgnRec (s : State) (d : Fin 8) (i : Nat) : Bool := s.inTrackRgn d i && s.rget i Rf.type != 0

def State.cancelCmd (s : State) (d : Fin 8) (i : Nat) : State := s.rgnGo d 3 i fun s =>
  if !s.rgnRec d i || !s.isEvent i then s.rgnDone d 2 i
  else if !([1, 2, 4, 5].contains (s.rget i Rf.state)) then s.rgnDone d 4 i
  else ((s.rset i Rf.state 13).rgnDone d 0 i).deadRebuild
def execCancel (d : Fin 8) (i : Fin 262144) (s : State) : Out := .next (s.cancelCmd d i)

def State.deleteCmd (s : State) (d : Fin 8) (i : Nat) : State := s.rgnGo d 4 i fun s =>
  if !s.rgnRec d i then s.rgnDone d 2 i
  else if s.isEvent i then
    if s.rget i Rf.state = 3 then s.rgnDone d 4 i else (((s.unlink i).freeRec i).rgnDone d 0 i).deadRebuild
  else match s.rget i Rf.state with
    | 1 => ((s.freeItem i).rgnDone d 0 i).deadRebuild
    | 2 | 3 => ((s.hoMod i fun h => { h with del := true }).sendWithdraw i).rgnDone d 0 i
    | _ => s.rgnDone d 4 i
def execDelete (d : Fin 8) (i : Fin 262144) (s : State) : Out := .next (s.deleteCmd d i)

def State.shiftCmd (s : State) (d : Fin 8) (i : Nat) : State := s.rgnGo d 5 i fun s =>
  if !s.rgnRec d i || !s.isItem i then s.rgnDone d 2 i
  else if s.rget i Rf.state ≠ 1 ∧ s.rget i Rf.state ≠ 6 then s.rgnDone d 4 i
  else ((s.shiftItem i (sx64 (s.rd64 (P.rgn d) (R.RGN_STAGE 0))) none).rgnDone d 0 i).deadRebuild
def execShift (d : Fin 8) (i : Fin 262144) (s : State) : Out := .next (s.shiftCmd d i)

def State.readCmd (s : State) (d : Fin 8) (i : Nat) : State := s.rgnGo d 6 i fun s =>
  if !s.rgnRec d i then s.rgnDone d 2 i
  else
    let w := s.rec_ i
    (forEach (List.range 8) s fun j t => t.wr (P.rgn d + R.RGN_STAGE j) (bits w (32 * j) 32)).rgnDone d 0 i
def execRead (d : Fin 8) (i : Fin 262144) (s : State) : Out := .next (s.readCmd d i)

/-- A write of RGN_CMD (Table 11-4). -/
def State.writeRgnCmd (s : State) (d : Fin 8) (v : Nat) : State :=
  let op := bits v 24 3
  let i := bits v 0 18
  if bits v 31 1 = 0 then s.rgnGo d op i fun s => s
  else match op with
    | 1 => s.insertCmd d i true
    | 2 => s.insertCmd d i false
    | 3 => s.cancelCmd d i
    | 4 => s.deleteCmd d i
    | 5 => s.shiftCmd d i
    | 6 => s.readCmd d i
    | _ => s.rgnGo d op i fun s => s.rgnDone d 7 i

/-! Restore (R273). -/

/-- States after a power dip; then a rebuild. A handover is taken up in doubt from now on (log 37). -/
def State.trackRestore (s : State) : State :=
  let s := s.recordUe
  let s := forEach s.usedRecs s fun i t =>
    let st := t.rget i Rf.state
    if t.isEvent i then (if st = 2 ∨ st = 3 ∨ st = 4 then t.rset i Rf.state 1 else t)
    else if 2 ≤ st ∧ st ≤ 6 then
      let down := st == 5 || (st == 6 && t.rget i It.arrived == 1)
      (t.hoPut { rec_ := i, page := t.itTrunk i, down := down, offered := !down, tB := some t.now, since := t.now }).rset i Rf.state 6
    else t
  (forEach (List.finRange 8) s fun k t => t.showDoubt k).startRebuild

end Sys2Proof.Machine
end

