-- ==== Sys2Proof/Machine/SafeCfg.lean ====
section
/-! DEFINITION. The safety configuration: its encoding (R401), its check, and how boot code hands it to both channels
(R205, R206, R294, R295, R322, R323, R329, R331). -/
namespace Sys2Proof.Machine
open Sys2Proof

/-! CRC-32 (R401) and CRC-32C (R344): reflected, one bit at a time. -/

def crcBit32 (poly c : Nat) (b : Bool) : Nat :=
  let x := c / 2
  if (c % 2 == 1) != b then x ^^^ poly else x
def crc32 (poly init : Nat) (l : List Byte) : Nat :=
  l.foldl (fun c b => [0, 1, 2, 3, 4, 5, 6, 7].foldl (fun c k => crcBit32 poly c (b.getLsbD k)) c) init ^^^ 0xFFFFFFFF
/-- CRC-32 of the configuration, polynomial 0x04C1_1DB7. -/
def cfgCrc (l : List Byte) : Nat := crc32 0xEDB88320 0xFFFFFFFF l
/-- CRC-32C of a DSC message, polynomial 0x1EDC_6F41, from the connection identity. -/
def dscCrc (id : Nat) (l : List Byte) : Nat := crc32 0x82F63B78 id l

/-! Table 17-8. -/

/-- `n` records of `size` bytes from byte `off`. -/
def recsOf (l : List Byte) (off size n : Nat) : List (List Byte) :=
  (List.range n).map fun k => (l.drop (off + size * k)).take size

def zoneCfg (l : List Byte) : ZoneCfg :=
  { slates := field l 0 1, rkind := field l 1 1, rsrc := field l 2 1, rbit := field l 3 1, type3 := field l 4 1 % 2 = 1 }
def pairCfg (l : List Byte) : PairCfg :=
  { pair := field l 0 1 % 64, anti := field l 1 1 % 2 = 1, startup := bits (field l 1 1) 1 1 = 1, type3 := bits (field l 1 1) 2 1 = 1
    sf := field l 2 2, tpW := field l 4 1, tpSet := field l 5 1, tpPer := field l 6 1, disc := field l 8 2, srcA := field l 10 1
    srcB := field l 11 1 }
def outCfg (l : List Byte) : OutCfg := { point := field l 0 1, brake := field l 1 1 == 2, axis := field l 2 1 }
def axisCfg (l : List Byte) : AxisCfg :=
  { axis := field l 0 1, kab := field l 4 4, tolAbs := field l 8 4, tolRel := field l 12 2, spw := max 1 (field l 14 2)
    vzA := field l 16 4, vzB := field l 20 4 }
def funcCfg (l : List Byte) : FuncCfg :=
  { kind := field l 0 1, zone := field l 1 1, axis := field l 2 1, opt := field l 3 1
    srcs := (List.range 8).map fun k => field l (4 + 2 * k) 2, act := field l 20 2
    p := #v[field l 24 4, field l 28 4, field l 32 4, field l 36 4, field l 40 4] }
def connCfg (l : List Byte) : ConnCfg :=
  { id := field l 0 4, side := field l 4 1 % 2, mode := field l 5 1, period := max 1 (field l 6 1), react := field l 7 1
    peer := field l 8 6, mask := field l 14 1, te := field l 16 2, win := field l 18 2
    out := (List.range (min 16 (field l 20 1))).map fun k => (field l (24 + 4 * k) 1, field l (26 + 4 * k) 2) }

/-- Offsets of the parts that follow the pairs. -/
def cfgOuts (l : List Byte) : Nat := 80 + 16 * field l 4 1
def cfgAxes (l : List Byte) : Nat := cfgOuts l + 4 * field l 5 1
def cfgFuncs (l : List Byte) : Nat := cfgAxes l + 24 * field l 6 1
def cfgConns (l : List Byte) : Nat := cfgFuncs l + 48 * field l 7 1
def cfgSize (l : List Byte) : Nat := cfgConns l + 88 * field l 8 1

/-- The configuration of a SAFETY_CFG block. -/
def parseCfg (l : List Byte) : SafeCfg :=
  { en := field l 1 1 % 2 = 1, etype := field l 2 2
    zones := Vector.ofFn fun (z : Fin 8) => zoneCfg ((l.drop (16 + 8 * z.val)).take 8)
    pairs := (recsOf l 80 16 (field l 4 1)).map pairCfg, outs := (recsOf l (cfgOuts l) 4 (field l 5 1)).map outCfg
    axes := (recsOf l (cfgAxes l) 24 (field l 6 1)).map axisCfg, funcs := (recsOf l (cfgFuncs l) 48 (field l 7 1)).map funcCfg
    conns := (recsOf l (cfgConns l) 88 (field l 8 1)).map connCfg }

/-- Points that zone records name as reset sources (R295), with their type. -/
def SafeCfg.resetPts (c : SafeCfg) : List (Nat × Bool) :=
  c.zones.toList.filterMap fun z => if z.rkind = 1 then some (z.rsrc, z.type3) else none

/-- A valid configuration: its version, its size and counts, and no reset source that a pair or an output claims (R295). -/
def SafeCfg.valid (c : SafeCfg) (l : List Byte) : Bool :=
  field l 0 1 == 1 && decide (cfgSize l ≤ l.length) && decide (field l 7 1 ≤ 128) && decide (field l 8 1 ≤ 32) &&
    c.resetPts.all fun r => c.pairs.all (fun p => decide (r.1 / 2 ≠ p.pair)) && c.outs.all fun o => decide (r.1 ≠ o.point)

/-- The configuration names no Slate, point or axis that the device does not have (R5). -/
def State.cfgFitted (s : State) (c : SafeCfg) : Bool :=
  c.zones.toList.all (fun z => (List.range 8).all fun i => bits z.slates i 1 == 0 || s.fitted i) &&
    c.resetPts.all (fun r => s.fitted (r.1 / 16)) &&
    c.pairs.all (fun p => s.fitted (p.pair / 8) && s.fitted (p.srcA / 16) && s.fitted (p.srcB / 16)) &&
    c.outs.all (fun o => s.fitted (o.point / 16) && (!o.brake || s.fitted (o.axis / 8))) &&
    c.axes.all (fun x => s.fitted (x.axis / 8)) && c.funcs.all fun f => f.axis == 0xFF || s.fitted (f.axis / 8)

/-- What the configuration makes of a point: its FIO_CFG; none where it claims nothing. FILT of an input is SF in units of
16 ns, or 5 ms of a reset source (R281, R295). -/
def SafeCfg.claimOf (c : SafeCfg) (n : Nat) : Option Nat :=
  if !c.en then none
  else match c.pairs.find? fun p => p.pair == n / 2 with
    | some p => some (1 + 4 * p.type3.toNat + 256 * (1250 * p.sf))
    | none => match c.outs.find? fun o => o.point == n with
      | some o => some (2 + 16 * (!o.brake).toNat)
      | none => match c.resetPts.find? fun r => r.1 == n with
        | some r => some (1 + 4 * r.2.toNat + 256 * 312500)
        | none => none

/-- The claims of Slate i take effect: the shadow and, while the link is up, the Slate take the values. -/
def State.claimSlate (s : State) (i : Fin 8) : State :=
  let c := s.safety.cfg
  let of_ (j : Nat) := c.claimOf (16 * i.val + j)
  let s := s.setSlate i fun x => { x with
    claim := (List.range 16).foldl (fun m j => m + if (of_ j).isSome then 2 ^ j else 0) 0
    claimCfg := Vector.ofFn fun (j : Fin 16) => ((of_ j.val).getD 0) &&& 0x7FFFFF7F
    claimPair := if c.en then (List.range 8).foldl (fun m k => m + if c.pairs.any (fun p => p.pair == 8 * i.val + k) then 2 ^ k else 0) 0 else 0 }
  forEach (List.finRange 16) s fun j t => (of_ j.val).elim t fun v =>
    t.slateRegWrite .fio i (P.fio i + R.FIO_CFG j) (v &&& 0x7FFFFF7F) 0xFFFFFFFF

def State.setSafety (s : State) (f : SafetyState → SafetyState) : State := { s with safety := f s.safety }

/-- A channel at a safety start: every zone latched, every start-up test outstanding (R329, R334). -/
def startChannel (c : SafeCfg) (ok : Bool) (cycle : Nat) : Channel :=
  { run := c.en && ok, cycle := cycle
    zones := Vector.replicate 8 { cause := if c.en then 1 else 0 }
    pairs := c.pairs.foldl (fun v p => if p.startup then v.setIfInBounds p.pair { startup := 1 } else v) (Vector.replicate 64 {}) }

/-- Engines 510 and 511. -/
def safeEngines : List (Fin 512) := [510, 511]

/-- Engines 510 and 511 follow the enable (R205, R206). -/
def State.safeEngs (s : State) (was en : Bool) : State :=
  forEach safeEngines s fun e t =>
    let t := if was = en then t else (t.engReset e).clearMem (0x2000000 + 0x10000 * e.val) 0x10000
    if en then (t.setEng e fun x => { x with st := .safety }).wr (P.engine e + R.PAGE_OWNER) 0 else t

/-- Boot code hands the configuration to both channels in SAFE_HOLD: the bytes of SAFETY_CFG, none where the image has no such
block. Flint's cycle number goes on, and channel A adopts it (R325). -/
def State.safetyLoad (s : State) (l : List Byte) : State :=
  let c := if l.isEmpty then {} else parseCfg l
  let ok := l.isEmpty || (c.valid l && s.cfgFitted c)
  let crc := if l.isEmpty then 0 else cfgCrc l
  let was := s.safety.cfg.en
  let s := s.setSafety fun x => { x with
    cfg := c, held := true, ok := ok, crcA := crc, crcB := crc, a := startChannel c ok x.b.cycle, b := startChannel c ok x.b.cycle
    wins := [], dsc := Vector.replicate 32 {}, pts := Vector.replicate 128 {} }
  let s := (s.safeEngs was c.en).errIf (!ok) P.safe E.safe_CFG
  let s := (s.wr (P.safe + R.SAFE_ETYPE) c.etype).setf P.safe F.SAFE_STATUS_EN c.en.toNat
  let s := ((s.wr (P.safe + R.SAFE_CFG_CRC_A) crc).wr (P.safe + R.SAFE_CFG_CRC_B) crc).setb P.safe F.SAFE_STATUS_CFG_OK ok
  forEach (List.finRange 8) s fun i t => t.claimSlate i

end Sys2Proof.Machine
end

