-- ==== Sys2Proof/Machine/Safe.lean ====
section
/-! DEFINITION. The two safety channels: inputs, functions, zones, paths, the cycle and the cross-compare
(14_safety_functions_and_safe_communication.md, R320-R341). A Boolean `f` names a channel: channel A, or Flint where true. -/
namespace Sys2Proof.Machine
open Sys2Proof

def State.chan (s : State) (f : Bool) : Channel := if f then s.safety.b else s.safety.a
def State.setChan (s : State) (f : Bool) (g : Channel → Channel) : State :=
  s.setSafety fun x => if f then { x with b := g x.b } else { x with a := g x.a }
def State.both (s : State) (g : Bool → State → State) : State := g true (g false s)
def State.safeCfg (s : State) : SafeCfg := s.safety.cfg

/-- A channel fault stands (R328). -/
def State.chanFault (s : State) : Bool := s.safety.faultA || s.safety.faultB || s.safety.clock

/-- The zone of a Slate. -/
def SafeCfg.zoneOf (c : SafeCfg) (i : Nat) : Option (Fin 8) := (List.finRange 8).find? fun z => bits c.zones[z].slates i 1 == 1
def SafeCfg.zoneSlates (c : SafeCfg) (z : Fin 8) : List (Fin 8) := (List.finRange 8).filter fun i => bits c.zones[z].slates i 1 == 1
/-- The zones whose functions name pair n. -/
def SafeCfg.zonesOfPair (c : SafeCfg) (n : Nat) : List (Fin 8) :=
  (List.finRange 8).filter fun z => c.funcs.any fun r => r.zone == z.val && ((0x1000 + n) ∈ r.act :: r.srcs)
def SafeCfg.funcsOf (c : SafeCfg) (z : Fin 8) : List (FuncCfg × Nat) := c.funcs.zipIdx.filter fun r => r.1.zone == z.val
/-- The monitored axes of a function. -/
def SafeCfg.axesOfFunc (c : SafeCfg) (r : FuncCfg) : List AxisCfg :=
  c.axes.filter fun a => a.axis == r.axis || (r.axis == 0xFF && (c.zoneOf (a.axis / 8)).map (·.val) == some r.zone)

/-! What each channel sees (Table 14-1). -/

/-- The filtered level of a point: the FIELD record, or Flint's own filter. -/
def State.safeLevel (s : State) (f : Bool) (n : Nat) : Bool :=
  if f then match fin? 128 n with | some k => s.safety.pts[k].lvl | none => false
  else match slate? (n / 16) with | some i => bits (s.slate i).gIn (n % 16) 1 == 1 | none => false

/-- A source code stands (R401, R336). A DSC bit demands at its safe value 0. -/
def State.srcOn (s : State) (f : Bool) (kind zone code : Nat) : Bool := match code / 4096 with
  | 1 => match fin? 64 (code % 64) with
    | some n => (s.chan f).pairs[n].dA || (s.chan f).pairs[n].dB
    | none => false
  | 2 => match fin? 32 (code / 128 % 32) with
    | some c => bits s.safety.dsc[c].inNow (code % 128) 1 == 0
    | none => false
  | 3 => s.rbit P.safe R.SAFE_REQ (if kind = 2 ∨ kind = 3 then 8 + zone else zone)
  | 4 => match fin? 128 (code % 128) with
    | some k => (s.chan f).funcs[k].viol
    | none => false
  | 5 => match fin? 8 (code % 8) with
    | some z => (s.chan f).zones[z].st != 0
    | none => false
  | _ => false

/-- CAUSE of a source (Table 14-14). -/
def causeOf (code : Nat) : Nat := match code / 4096 with
  | 1 => 2 | 2 => 3 | 3 => 4 | _ => 5

/-! Zones (R329). -/

def State.setZone (s : State) (f : Bool) (z : Fin 8) (g : ZoneCopy → ZoneCopy) : State :=
  s.setChan f fun c => { c with zones := c.zones.set z (g c.zones[z]) }
def State.zone (s : State) (f : Bool) (z : Fin 8) : ZoneCopy := (s.chan f).zones[z]

/-- Drive is removed from now on, where it was permitted. -/
def ZoneCopy.leave (x : ZoneCopy) (now st cause : Nat) : ZoneCopy :=
  { x with st := st, cause := cause, stoAt := if x.st ≤ 1 then now else x.stoAt, latch := false }

/-- The zone enters STO_LATCHED in one channel; one that is there keeps its cause. -/
def State.latchZone (s : State) (f : Bool) (z : Fin 8) (cause : Nat) : State :=
  if (s.zone f z).st = 3 then s else s.setZone f z fun x => x.leave s.now 3 cause

/-- The zone enters SS1: channel A asks the generators of its axes to stop, with STOP_WHY 2 (R337). -/
def State.enterSs1 (s : State) (f : Bool) (z : Fin 8) (t cause : Nat) (latch : Bool) : State :=
  let s := s.setZone f z fun x => { x with st := 1, cause := cause, ss1At := s.now, ss1T := t * 312500, latch := latch }
  if f then s
  else forEach (s.safeCfg.zoneSlates z) s fun i t => forEach (axesOf i) t fun a u => u.setPrf a fun p => { p with stopAsk := some 2 }

/-- The zone enters STO. -/
def State.enterSto (s : State) (f : Bool) (z : Fin 8) (cause : Nat) : State := s.setZone f z fun x => x.leave s.now 2 cause

/-! Pairs (R332, R334). -/

/-- The contacts of a pair as the channel latches them at tick `t`. -/
def PairCopy.take (x : PairCopy) (dA dB : Bool) (t : Nat) : PairCopy :=
  let both := x.both || (dA && dB)
  let free := !dA && !dB
  let fault := x.fault && !(free && both)
  { dA := dA, dB := dB, alone := if dA != dB then some (x.alone.getD t) else none, fault := fault
    both := fault && both, startup := if x.startup = 1 ∧ (dA ∨ dB) then 2 else if x.startup = 2 ∧ free then 0 else x.startup }

def State.setPair (s : State) (f : Bool) (n : Nat) (g : PairCopy → PairCopy) : State := match fin? 64 n with
  | some k => s.setChan f fun c => { c with pairs := c.pairs.set k (g c.pairs[k]) }
  | none => s
def State.pairOf (s : State) (f : Bool) (n : Nat) : PairCopy := ((s.chan f).pairs[n]?).getD {}

def State.latchPairs (s : State) (f : Bool) : State :=
  forEach s.safeCfg.pairs s fun p t =>
    t.setPair f p.pair fun x => x.take (!t.safeLevel f (2 * p.pair)) (t.safeLevel f (2 * p.pair + 1) == p.anti) t.now

/-- A pair fault latches, and the zones that use the pair with it (Table 14-4). -/
def State.pairFault (s : State) (f : Bool) (n : Nat) : State :=
  let s := (s.setPair f n fun x => { x with fault := true, both := x.dA && x.dB }).err P.safe E.safe_PAIR
  forEach (s.safeCfg.zonesOfPair n) s fun z t => t.latchZone f z 6

/-! Motion (R326, R336). -/

/-- Direction of `n` Hall transitions from state `x` to `y`: as the states say; where they leave it open, as before. -/
def hallDown (x y n : Nat) (was : Bool) : Bool := match hallIndex x, hallIndex y with
  | some p, some q =>
    let d := (q + 6 - p) % 6
    let fwd := d == n % 6
    let rev := (6 - d) % 6 == n % 6
    if fwd && !rev then false else if rev && !fwd then true else was
  | _, _ => was

/-- Channel A: counts and last-change tick of the latest FEEDBACK record. -/
def AxisCopy.takeA (x : AxisCopy) (pos : Int) (tick : Nat) : AxisCopy :=
  let d := (tick + 2 ^ 32 - x.tick) % 2 ^ 32
  let v := if x.init ∧ d ≠ 0 then roundQ ((pos - x.pos) * 312500000) d else 0
  { x with init := true, pos := pos, tick := tick, v := v }

/-- Channel B: the Hall byte of the latest sideband frame, steps summed over SPW cycles. -/
def AxisCopy.takeB (x : AxisCopy) (spw byte : Nat) : AxisCopy :=
  let hall := byte % 8
  let cnt := byte / 8 % 32
  let n := if x.init then (cnt + 32 - x.cnt) % 32 else 0
  let down := hallDown x.hall hall n x.down
  let st : Int := if down then -(n : Int) else n
  let steps := (st :: x.steps).take (min 32 spw)
  { x with
    init := true, pos := x.pos + st, cnt := cnt, hall := hall, steps := steps, v := steps.foldl (· + ·) 0, down := down
    bad := hall == 0 || hall == 7 }

def State.latchAxes (s : State) (f : Bool) : State :=
  forEach s.safeCfg.axes s fun c t => (axis? c.axis).elim t fun a =>
      let r := (t.loopOf a).fb
      let byte := field (bytesOf 8 (t.slate (slateOf a)).sb.halls) (localOf a) 1
      let pos := toSigned 32 r.turn * t.axisW a + r.pos
      t.setChan f fun x => { x with axes := x.axes.set a (if f then x.axes[a].takeB c.spw byte else x.axes[a].takeA pos r.tick) }

def State.axisCopy (s : State) (f : Bool) (a : Nat) : AxisCopy := ((s.chan f).axes[a]?).getD {}

/-- The speed of an axis as a fraction: counts/s, or Hall steps/s. -/
def State.speedOf (s : State) (f : Bool) (c : AxisCfg) : Int × Nat :=
  let v := (s.axisCopy f c.axis).v
  if f then (v * 2000, c.spw) else (v, 1)
/-- |v| is at most VZERO. -/
def State.still (s : State) (f : Bool) (c : AxisCfg) : Bool := decide ((s.axisCopy f c.axis).v.natAbs ≤ if f then c.vzB else c.vzA)
/-- |v| is at most a limit. -/
def State.withinSpeed (s : State) (f : Bool) (c : AxisCfg) (lim : Nat) : Bool :=
  let v := s.speedOf f c
  decide (v.1.natAbs ≤ lim * v.2)

/-! Functions (Table 14-5). -/

def State.setFunc (s : State) (f : Bool) (k : Nat) (g : FuncCopy → FuncCopy) : State := match fin? 128 k with
  | some j => s.setChan f fun c => { c with funcs := c.funcs.set j (g c.funcs[j]) }
  | none => s
def State.funcOf (s : State) (f : Bool) (k : Nat) : FuncCopy := ((s.chan f).funcs[k]?).getD {}

/-- The limit of a function in this channel's units: P1 or P2. -/
def FuncCfg.lim (r : FuncCfg) (f : Bool) : Nat := if f then r.p[2] else r.p[1]
/-- What was recorded for an axis. -/
def FuncCopy.ref (x : FuncCopy) (a : Nat) : Int := ((x.refs.find? fun e => e.1 == a).map (·.2)).getD 0

/-- The monitored limit holds on an axis. An impossible Hall state violates it (R336). -/
def State.limitHolds (s : State) (f : Bool) (r : FuncCfg) (x : FuncCopy) (c : AxisCfg) : Bool :=
  let a := s.axisCopy f c.axis
  let d := a.pos - x.ref c.axis
  !(f && a.bad) && (match r.kind with
    | 4 => decide (d.natAbs ≤ r.lim f) && s.still f c
    | 5 => s.withinSpeed f c (r.lim f)
    | 6 => decide ((if bits r.opt 1 1 = 1 then -d else d) ≤ (r.lim f : Int))
    | _ => true)

/-- SS1-r: |v| ≤ max(v₀ − SS1_DEC (t − t₀), 0) + SS1_TOL, v₀ kept as the numerator of the speed. -/
def State.rampHolds (s : State) (f : Bool) (r : FuncCfg) (x : FuncCopy) (z : Fin 8) (c : AxisCfg) : Bool :=
  let v := s.speedOf f c
  let dt : Int := s.now - (s.zone f z).ss1At
  let dec : Int := if f then r.p[2] else r.p[1]
  let tol : Int := if f then r.p[4] else r.p[3]
  !(f && (s.axisCopy f c.axis).bad) &&
    decide ((v.1.natAbs : Int) * 312500000 ≤ max (x.ref c.axis * 312500000 - dec * v.2 * dt) 0 + tol * v.2 * 312500000)

/-- SS1_T of a zone, in ms: its demanded SS1 function's, else its first one's. -/
def State.ss1Time (s : State) (f : Bool) (z : Fin 8) : Nat :=
  let l := (s.safeCfg.funcsOf z).filter fun r => r.1.kind == 2 || r.1.kind == 3
  match l.find? fun r => r.1.srcs.any fun c => s.srcOn f r.1.kind z c with
  | some r => r.1.p[0]
  | none => ((l.head?).map (·.1.p[0])).getD 0

/-- A limit is violated: the zone goes to STO_LATCHED, or first through SS1 (Table 14-5). -/
def State.violate (s : State) (f : Bool) (z : Fin 8) (viaSs1 : Bool) : State :=
  let st := (s.zone f z).st
  if st = 3 then s
  else
    let s := s.err P.safe E.safe_LIMIT
    if viaSs1 ∧ st = 0 then s.enterSs1 f z (s.ss1Time f z) 5 true
    else if viaSs1 ∧ st = 1 then s.setZone f z fun x => { x with latch := true }
    else s.latchZone f z 5

/-- SOS, SLS and SDI: activation, and the limit while active. They monitor while the zone permits drive. -/
def State.monitor (s : State) (f : Bool) (r : FuncCfg) (k : Nat) : State :=
  let drive := match fin? 8 r.zone with | some z => decide ((s.zone f z).st ≤ 1) | none => false
  let on := drive && (r.act / 4096 == 0 || s.srcOn f r.kind r.zone r.act)
  let ax := s.safeCfg.axesOfFunc r
  let old := s.funcOf f k
  let refs := if old.active then old.refs else ax.map fun c => (c.axis, (s.axisCopy f c.axis).pos)
  let x : FuncCopy := { active := on, refs := if on then refs else [] }
  let viol := on && ax.any fun c => !s.limitHolds f r x c
  let s := s.setFunc f k fun _ => { x with viol := viol }
  match fin? 8 r.zone with
  | some z => if viol then s.violate f z (r.kind ≠ 4 && r.opt % 2 == 1) else s
  | none => s

/-- SS1-r while its zone is in SS1: the ramp, and standstill. -/
def State.ss1Ramp (s : State) (f : Bool) (r : FuncCfg) (k : Nat) : State := match fin? 8 r.zone with
  | none => s
  | some z =>
    let ax := s.safeCfg.axesOfFunc r
    let old := s.funcOf f k
    if (s.zone f z).st ≠ 1 then s.setFunc f k fun _ => {}
    else if !old.active then
      if r.srcs.any (fun c => s.srcOn f r.kind r.zone c) then
        s.setFunc f k fun _ => { active := true, refs := ax.map fun c => (c.axis, ((s.speedOf f c).1.natAbs : Int)) }
      else s
    else if ax.any fun c => !s.rampHolds f r old z c then (s.setFunc f k fun x => { x with viol := true }).violate f z false
    else if !ax.isEmpty && ax.all fun c => s.still f c then s.enterSto f z (s.zone f z).cause
    else s

def State.runFuncs (s : State) (f : Bool) (ramp : Bool) : State :=
  forEach s.safeCfg.funcs.zipIdx s fun r t =>
    if ramp then (if r.1.kind = 3 then t.ss1Ramp f r.1 r.2 else t)
    else if r.1.kind = 4 ∨ r.1.kind = 5 ∨ r.1.kind = 6 then t.monitor f r.1 r.2 else t

/-! Demands and the reset acknowledgement (R335, R338, R341). -/

/-- The first source that demands, of the functions of the zone of the given kinds. -/
def State.demand (s : State) (f : Bool) (z : Fin 8) (sto : Bool) : Option Nat :=
  ((s.safeCfg.funcsOf z).filter fun r => if sto then r.1.kind == 1 else r.1.kind == 2 || r.1.kind == 3).findSome? fun r =>
    r.1.srcs.find? fun c => s.srcOn f r.1.kind z c

/-- A link the channel needs is lost (R341): channel A's main link or the sideband, or Flint's report of the main link. -/
def State.linkLost (s : State) (f : Bool) (z : Fin 8) : Bool :=
  (s.safeCfg.zoneSlates z).any fun i =>
    if f then bits (s.slate i).sb.stat 2 1 == 0
    else !s.linkOk i || (s.slate i).link.up.fired || !s.flag (P.link i) F.LINK_STATUS_SB_UP

/-- The pairs that the zone uses. -/
def SafeCfg.pairsOf (c : SafeCfg) (z : Fin 8) : List PairCfg := c.pairs.filter fun p => (c.zonesOfPair p.pair).contains z

/-- The level of the zone's reset source. -/
def State.resetLevel (s : State) (f : Bool) (z : Fin 8) : Bool :=
  let c := s.safeCfg.zones[z]
  if c.rkind = 1 then s.safeLevel f c.rsrc
  else if c.rkind = 2 then match fin? 32 c.rsrc with | some k => bits s.safety.dsc[k].inNow c.rbit 1 == 1 | none => false
  else false

/-- The source has gone from 1 to 0 after 0.1 s to 3.0 s at 1. -/
def State.acknowledged (s : State) (f : Bool) (z : Fin 8) : Bool := match (s.chan f).reset[z] with
  | some t => !s.resetLevel f z && decide (t + 31250000 ≤ s.now) && decide (s.now ≤ t + 937500000)
  | none => false

def State.noteReset (s : State) (f : Bool) (z : Fin 8) : State :=
  let l := s.resetLevel f z
  s.setChan f fun c => { c with reset := c.reset.set z (if l then some (c.reset[z].getD s.now) else none) }

/-- One zone at a mark; `was`: its state before the mark. -/
def State.stepZone (s : State) (f : Bool) (z : Fin 8) (was : Nat) : State :=
  let c := s.safeCfg
  let x := s.zone f z
  let sto := s.demand f z true
  let ss1 := s.demand f z false
  let none_ := sto.isNone && ss1.isNone
  let flt := (c.pairsOf z).any fun p => (s.pairOf f p.pair).fault
  let start := (c.pairsOf z).any fun p => (s.pairOf f p.pair).startup ≠ 0
  let ack := s.acknowledged f z && was == 3
  let s := s.noteReset f z
  if s.linkLost f z then s.latchZone f z 9
  else if flt then s.latchZone f z 6
  else match x.st with
    | 0 => match sto, ss1 with
      | some d, _ => (s.enterSto f z (causeOf d)).err P.safe E.safe_DEMAND
      | none, some d => (s.enterSs1 f z (s.ss1Time f z) (causeOf d) false).err P.safe E.safe_DEMAND
      | none, none => s
    | 1 => match sto with
      | some d => (s.enterSto f z (causeOf d)).err P.safe E.safe_DEMAND
      | none => s
    | 2 => if none_ then s.setZone f z fun x => { x with st := 3 } else s
    | 3 => if ack && none_ && decide (8 ≤ (s.chan f).agree) then s.setZone f z fun x => { x with st := if start then 4 else 0 } else s
    | _ => if !start && none_ then s.setZone f z fun x => { x with st := 0 } else s

/-- A Slate of a zone has powered up: the start-up tests of a latched zone are outstanding again (R334). -/
def State.noteRestarts (s : State) (f : Bool) : State :=
  let seen := (s.chan f).restarts
  let now := (List.finRange 8).foldl (fun m (i : Fin 8) => m + if s.flag (P.link i.val) F.LINK_STATUS_RESET_SEEN then 2 ^ i.val else 0) 0
  let s := s.setChan f fun c => { c with restarts := now }
  forEach s.safeCfg.pairs s fun p t =>
    if p.startup && ((s.safeCfg.zonesOfPair p.pair).any fun z => (t.zone f z).st == 3 &&
        (s.safeCfg.zoneSlates z).any fun i => bits now i 1 == 1 && bits seen i 1 == 0) then
      t.setPair f p.pair fun x => { x with startup := 1 }
    else t

/-! Brakes (R339). -/

/-- Bit a of SAFE_BRK_REQ. -/
def State.brkReq (s : State) (a : Nat) : Bool := s.rbit P.safe (R.SAFE_BRK_REQ_LO + 4 * (a / 32)) (a % 32) && decide (a < 64)
/-- SBC_DLY of an axis in ticks: the shortest its SBC functions give, else 0. -/
def SafeCfg.sbcDelay (c : SafeCfg) (z : Fin 8) (a : Nat) : Nat :=
  (((c.funcs.filter fun r => r.kind == 7 && r.zone == z.val && (r.axis == a || r.axis == 0xFF)).map fun r => r.p[0] * 312500).min?).getD 0

/-- Whether a brake output is released after this mark. -/
def State.brakeWant (s : State) (f : Bool) (o : OutCfg) : Bool := match s.safeCfg.zoneOf (o.point / 16) with
  | none => false
  | some z =>
    let x := s.zone f z
    let was := (s.chan f).brakes.contains o.point
    if x.st = 0 then s.brkReq o.axis
    else was && s.brkReq o.axis && (x.st == 1 || decide (s.now < x.stoAt + s.safeCfg.sbcDelay z o.axis))

/-- The read-back of an output as the channel sees it. -/
def State.brakeBack (s : State) (f : Bool) (n : Nat) : Bool := match slate? (n / 16) with
  | some i => bits (if f then (s.slate i).sb.backs else (s.slate i).gIn) (n % 16) 1 == 1
  | none => false

/-- A brake fails its read-back or its test: BRAKE, and its zone is latched. -/
def State.brakeFail (s : State) (f : Bool) (n : Nat) : State :=
  let s := s.err P.safe E.safe_BRAKE
  match s.safeCfg.zoneOf (n / 16) with
  | some z => s.latchZone f z 10
  | none => s

/-- Outside a test the read-back equals the decision of both channels. -/
def State.checkBrakes (s : State) (f : Bool) : State :=
  forEach (s.safeCfg.outs.filter (·.brake)) s fun o t =>
    let d := t.safety.a.brakes.contains o.point
    if d = t.safety.b.brakes.contains o.point ∧ !(t.safety.wins.any fun w => w.brake && w.src == o.point) ∧
      t.brakeBack f o.point ≠ d then t.brakeFail f o.point else t

def State.decideBrakes (s : State) (f : Bool) : State :=
  let l := (s.safeCfg.outs.filter fun o => o.brake && s.brakeWant f o).map (·.point)
  s.setChan f fun c => { c with brakes := l }

/-! The STO paths (R321, R328, R330, R331). -/

/-- Channel `f` permits drive on Slate i; `was`: what it permits now. -/
def State.permits (s : State) (f : Bool) (i : Fin 8) (was : Bool) : Bool :=
  (s.chan f).run && !s.chanFault && s.safety.ok && (match s.safeCfg.zoneOf i with
    | some z => (s.zone f z).st ≤ 1
    | none => was || decide (1 ≤ (s.chan f).agree))

/-- EN of an axis is cleared at the Slate and in the shadow (R330). -/
def State.clearEn (s : State) (a : Fin 64) : State :=
  let p := P.pwm a + R.PWM_CTRL
  (s.slateRegWrite .pwm a p (s.sh p / 2 * 2) 0xFFFFFFFF).prfGate a

/-- Channel A's path on a Slate: GEN bits; where they go, EN of the axes; CHOP_EN stays 1. -/
def State.driveA (s : State) (i : Fin 8) : State :=
  let was := (s.slate i).genA != 0
  let on := s.permits false i was
  let s := s.setSlate i fun x => { x with genA := if on then 0xFF else 0, chopA := true }
  if was && !on then forEach (axesOf i) s fun a t => t.clearEn a else s

/-- One claimed output. -/
def State.commandOut (s : State) (o : OutCfg) : State := match slate? (o.point / 16), fin? 16 (o.point % 16) with
  | some i, some j =>
    if (s.slate i).powered && (s.slate i).link.dn.up && (s.pt i j).mode == 2 then
      s.setOutBit i j (!o.brake || s.safety.a.brakes.contains o.point)
    else s
  | _, _ => s

/-- Channel A's commanded levels of claimed outputs. -/
def State.commandOuts (s : State) : State := forEach s.safeCfg.outs s fun o t => t.commandOut o

/-- Flint's masks: the pulses of open test windows, and every brake that is not released. -/
def State.flintMask (s : State) (i : Fin 8) : Nat :=
  (List.range 16).foldl (fun m j =>
    let n := 16 * i.val + j
    m + if (s.safety.wins.any fun w => w.src == n && decide (w.k < w.w)) ||
      (s.safeCfg.outs.any fun o => o.brake && o.point == n && !s.safety.b.brakes.contains n) then 2 ^ j else 0) 0

/-- Flint's path on a Slate: GS_CMD and TEST_MASK. -/
def State.driveB (s : State) (i : Fin 8) : State :=
  let on := s.safety.flintOk && s.permits true i (s.slate i).sb.gsCmd
  let m := s.flintMask i
  s.setSlate i fun x => { x with sb := { x.sb with gsCmd := on, tMask := m } }

/-- ACTIVE of a zone. -/
def State.activeOf (s : State) (z : Fin 8) : Nat :=
  let on (k : Nat) := (s.safeCfg.funcsOf z).any fun r => r.1.kind == k && (s.funcOf false r.2).active
  (on 5).toNat + 2 * (on 4).toNat + 4 * (on 6).toNat

/-- The SAFE page shows channel A's copies, and pair faults of either channel (Table 14-13). -/
def State.showSafe (s : State) : State :=
  let mask (p : Fin 8 → Bool) := (List.finRange 8).foldl (fun m z => m + if p z then 2 ^ z.val else 0) 0
  let word (p : Nat → Bool) (b : Nat) := (List.range 32).foldl (fun m k => m + if p (b + k) then 2 ^ k else 0) 0
  let st (z : Fin 8) := (s.zone false z).st
  let c := s.safeCfg
  let dem (n : Nat) := (s.pairOf false n).dA || (s.pairOf false n).dB
  let flt (n : Nat) := (s.pairOf false n).fault || (s.pairOf true n).fault
  let claimed (n : Nat) := c.pairs.any fun p => p.pair == n
  let x := s.safety
  let s := s.wr (P.safe + R.SAFE_STATUS) (c.en.toNat + 2 * x.ok.toNat + 4 * (decide (1 ≤ x.a.agree)).toNat +
    8 * (x.a.run && !x.faultA).toNat + 16 * (x.held && x.flintOk && !x.faultB).toNat + 2 ^ 16 * mask (fun z => c.en && decide (3 ≤ st z))
    + 2 ^ 24 * mask (fun z => c.en && decide (st z ≤ 1)))
  let s := forEach (List.finRange 8) s fun z t =>
    t.wr (P.safe + R.SAFE_ZONE z) (st z + 2 ^ 8 * (t.zone false z).cause + 2 ^ 16 * t.activeOf z)
  let s := (s.wr (P.safe + R.SAFE_PAIR_DEM_LO) (word (fun n => claimed n && dem n) 0)).wr (P.safe + R.SAFE_PAIR_DEM_HI)
    (word (fun n => claimed n && dem n) 32)
  (s.wr (P.safe + R.SAFE_PAIR_FLT_LO) (word flt 0)).wr (P.safe + R.SAFE_PAIR_FLT_HI) (word flt 32)

/-- Drive while the safety function set is disabled (R323): every GEN bit, CHOP_EN and, while Flint's self-test holds, every gate
supply, from BASIC on. -/
def State.driveFree (s : State) : State :=
  let on := decide (2 ≤ s.stage)
  forEach (List.finRange 8) s fun i t => t.setSlate i fun x => { x with
    genA := if on then 0xFF else 0, chopA := on, sb := { x.sb with gsCmd := on && s.safety.held && s.safety.flintOk && !s.safety.faultB, tMask := 0 } }

/-- Both channels act on their paths, and the SAFE page shows them. -/
def State.safeAct (s : State) : State :=
  if s.safeCfg.en then
    (forEach (List.finRange 8) s fun i t => (t.driveA i).driveB i).commandOuts.showSafe
  else s.driveFree.showSafe

/-! Channel faults (R328). -/

def State.faultChanA (s : State) : State :=
  ((s.setSafety fun x => { x with faultA := true, a := { x.a with run := false } }).err P.safe E.safe_CHA_FAULT).safeAct
def State.faultFlint (s : State) : State :=
  ((s.setSafety fun x => { x with faultB := true, flintOk := false, b := { x.b with run := false } }).err P.safe E.safe_FLINT_FAULT).safeAct
def State.faultClock (s : State) : State := ((s.setSafety fun x => { x with clock := true }).err P.safe E.safe_CLOCK).safeAct

/-- Engines 510 and 511 differ, or either faults (R205). -/
def execLockstepMismatch (s : State) : Out := .next (if s.safeCfg.en then s.faultChanA else s)
def execFlintSelfTestFail (s : State) : Out := .next s.faultFlint
/-- 22,000 Flint cycles, 550 µs or 171,875 ticks, without a mark. -/
def execMarkMissing (s : State) : Out :=
  .next (match s.safety.mark with
    | some t => if s.safeCfg.en ∧ t + 171875 ≤ s.now then s.faultClock else s
    | none => s)

/-! Test windows (R333, R339). -/

/-- A claimed test-pulse source on the pair's Slate. -/
def SafeCfg.isSource (c : SafeCfg) (p : PairCfg) (n : Nat) : Bool :=
  n / 16 == p.pair / 8 && c.outs.any fun o => o.point == n && !o.brake

/-- The window of one contact of a pair, where its source is claimed. -/
def State.openTest (s : State) (p : PairCfg) (second : Bool) : State :=
  let src := if second then p.srcB else p.srcA
  let fed := 2 * p.pair + second.toNat
  let oth := 2 * p.pair + (!second).toNat
  if s.safeCfg.isSource p src then s.setSafety fun x => { x with wins := x.wins ++ [
    { src := src, pair := p.pair, second := second, w := p.tpW, len := p.tpW + p.tpSet
      fed1 := s.safeLevel true fed, oth1 := s.safeLevel true oth }] }
  else s

/-- Flint opens the test windows of a cycle: each source once in TP_PER cycles, the two of a pair in different cycles; each
released brake once in the TP_PER of its Slate's first pair. -/
def State.openTests (s : State) : State :=
  let n := s.safety.b.cycle
  let s := forEach s.safeCfg.pairs s fun p t =>
    if p.tpPer ≤ 1 then t.openTest p (n % 2 == 1)
    else if n % p.tpPer = 0 then t.openTest p false
    else if n % p.tpPer = 1 then t.openTest p true
    else t
  forEach (s.safeCfg.outs.filter (·.brake)) s fun o t => (s.safeCfg.pairs.find? fun p => p.pair / 8 == o.point / 16).elim t fun p =>
      if n % max 1 p.tpPer = 0 ∧ t.safety.b.brakes.contains o.point then
        t.setSafety fun x => { x with wins := x.wins ++ [{ src := o.point, brake := true, w := p.tpW, len := p.tpW + p.tpSet }] }
      else t

/-- A frame of Slate i inside a window. -/
def TestWin.see (w : TestWin) (pts backs : Nat) : TestWin :=
  let fed := bits pts ((2 * w.pair + w.second.toNat) % 16) 1
  let oth := bits pts ((2 * w.pair + (!w.second).toNat) % 16) 1
  { w with k := w.k + 1, low := w.low || (if w.brake then bits backs (w.src % 16) 1 == 0 else fed == 0), moved := w.moved || oth != 1 }

def TestWin.failed (w : TestWin) : Bool := if w.brake then !w.low else (w.fed1 && !w.low) || (w.oth1 && w.moved)

/-- The windows of Slate i see a frame; those at their end are checked and close. -/
def State.seeTests (s : State) (i : Fin 8) : State :=
  let b := (s.slate i).sb
  let l := s.safety.wins.map fun w => if w.src / 16 = i.val then w.see b.pts b.backs else w
  let s := s.setSafety fun x => { x with wins := l.filter fun w => decide (w.k < w.len) }
  forEach (l.filter fun w => decide (w.len ≤ w.k) && w.failed) s fun w t =>
    if w.brake then t.brakeFail true w.src else t.pairFault true w.pair

/-! Sideband frames at Flint (R69, R332). -/

def FlintPoint.see (x : FlintPoint) (need : Nat) (raw : Bool) : FlintPoint :=
  if raw = x.lvl then { x with run := 0 } else if need ≤ x.run + 1 then { lvl := raw, run := 0 } else { x with run := x.run + 1 }

/-- Samples Flint's filter asks for at a claimed input: SF, or 5 ms at a reset source (R295). -/
def SafeCfg.filterOf (c : SafeCfg) (n : Nat) : Option Nat := match c.pairs.find? fun p => p.pair == n / 2 with
  | some p => some p.sf
  | none => if c.resetPts.any (fun r => r.1 == n) then some 250 else none

/-- Flint filters the claimed inputs of Slate i, but for those inside a test window. -/
def State.flintFilter (s : State) (i : Fin 8) : State :=
  forEach (List.finRange 16) s fun j t =>
    (s.safeCfg.filterOf (16 * i.val + j.val)).elim t fun need => (fin? 128 (16 * i.val + j.val)).elim t fun n =>
      if s.safety.wins.any fun w => !w.brake && w.pair == n.val / 2 then t
      else t.setSafety fun x => { x with pts := x.pts.set n (x.pts[n].see need (bits (s.slate i).sb.pts j 1 == 1)) }

/-- A Slate frame at Flint, judged as the Slate judges Flint's; after 100 µs without a good one it has no predecessor. -/
def execSidebandFrameAtFlint (s : Fin 8) (rx : SbRx) (st : State) : Out :=
  .next (
    let b := (st.slate s).sb
    let q := field rx.bytes 0 1 % 16
    let last := if b.fLast + 31250 ≤ st.now then none else b.fSeq
    if sbChecks rx 3 && seqCont last q then
      let st := st.setSlate s fun x => { x with sb := { x.sb with
        fSeq := some q, fLast := st.now, fUp := true, stat := field rx.bytes 1 1, pts := field rx.bytes 2 2, halls := field rx.bytes 4 8
        backs := field rx.bytes 12 2 } }
      if st.safeCfg.en ∧ st.safety.b.run then ((st.flintFilter s).seeTests s).safeAct else st
    else st)

/-! The cycle (R324, R325). -/

/-- A DSC expiry takes effect in both channels (R349): IN bits at their safe value, REACT, back to CONNECT. -/
def State.reactDsc (s : State) (c : ConnCfg) : State :=
  forEach ((List.finRange 8).filter fun (z : Fin 8) => bits c.mask z.val 1 == 1) s fun z t => t.both fun f t =>
    let st := (t.zone f z).st
    if c.react = 2 then (if st = 0 then (t.enterSs1 f z (t.ss1Time f z) 8 false).err P.safe E.safe_DEMAND else t)
    else if st ≤ 1 then (t.enterSto f z 8).err P.safe E.safe_DEMAND else t

def State.setDsc (s : State) (c : Fin 32) (g : DscConn → DscConn) : State := s.setSafety fun x => { x with dsc := x.dsc.set c (g x.dsc[c]) }
def State.dscOf (s : State) (c : Fin 32) : DscConn := s.safety.dsc[c]
def State.connOf (s : State) (c : Fin 32) : Option ConnCfg := s.safeCfg.conns[c.val]?

/-- SAFE_DSC_STAT. -/
def State.showDsc (s : State) (c : Fin 32) : State :=
  let x := s.dscOf c
  s.wr (P.safe + R.SAFE_DSC_STAT c) (((s.connOf c).isSome).toNat * (1 + x.run.toNat) * 2 ^ 28 + x.ver * 2 ^ 24 + (x.seqRx.getD 0))

/-- At a mark: due expiries, then the data received since. -/
def State.latchDsc (s : State) : State :=
  forEach (List.finRange 32) s fun c t => (t.connOf c).elim t fun k =>
      let t := if !(t.dscOf c).due then t else
        ((t.setDsc c fun x => { x with due := false, run := false, conn := false, inNext := 0, expd := true, seqRx := none, hold := none }).bump
          P.safe (R.SAFE_DSC_CNT_A c) 16).err P.safe E.safe_DSC_EXP |>.reactDsc k
      (t.setDsc c fun x => { x with inNow := x.inNext }).showDsc c

/-- One channel latches and evaluates. -/
def State.channelCycle (s : State) (f : Bool) : State :=
  if !(s.chan f).run then s
  else
    let pre := (s.chan f).zones
    let s := s.setChan f fun c => { c with cycle := (c.cycle + 1) % 65536, waits := true }
    let s := ((s.noteRestarts f).latchPairs f).latchAxes f
    let s := (s.runFuncs f false).checkBrakes f
    let s := (forEach (List.finRange 8) s fun z t => t.stepZone f z pre[z].st).runFuncs f true
    s.decideBrakes f

/-- A cycle mark, with the count of Flint cycles since the previous one; the limits are 19,600 and 20,400. -/
def execCycleMark (count : BitVec 16) (s : State) : Out :=
  .next (
    let due := match s.safety.mark with | none => true | some t => decide (t + 156250 ≤ s.now)
    if !due then s
    else
      let first := s.safety.mark.isNone
      let s := s.setSafety fun x => { x with mark := some s.now, cnt := if first then x.cnt else count.toNat }
      let s := if first then s else s.setf P.clk F.CLK_FLINT_CYC_CYC count.toNat
      if !s.safeCfg.en then s
      else
        let s := if 19600 ≤ s.safety.cnt ∧ s.safety.cnt ≤ 20400 then s else s.faultClock
        let s := s.latchDsc
        let s := s.both fun f t => t.channelCycle f
        (if s.safety.b.run then s.openTests else s).safeAct)

/-! The cross-compare (R325-R327). -/

/-- A compared item: its row of Table 14-3 and index, the zones it concerns (none: all), cycles allowed, and whether it differs. -/
structure Item where
  kind : Nat
  idx : Nat
  zones : Option (List (Fin 8))
  allow : Nat
  differs : Bool

def State.items (s : State) : List Item :=
  let c := s.safeCfg
  let a := s.safety.a
  let b := s.safety.b
  let zoneOf (i : Nat) : Option (List (Fin 8)) := some (c.zoneOf i).toList
  [⟨1, 0, none, 0, a.cycle != b.cycle⟩, ⟨2, 0, none, 0, s.safety.crcA != s.safety.crcB⟩,
   ⟨3, 0, none, 0, !(decide (19600 ≤ s.safety.cnt) && decide (s.safety.cnt ≤ 20400))⟩] ++
  (c.pairs.flatMap fun p =>
    let x := s.pairOf false p.pair
    let y := s.pairOf true p.pair
    [⟨4, 2 * p.pair, some (c.zonesOfPair p.pair), 3, x.dA != y.dA⟩, ⟨4, 2 * p.pair + 1, some (c.zonesOfPair p.pair), 3, x.dB != y.dB⟩]) ++
  ((List.finRange 8).filterMap fun z => if c.zones[z].rkind = 1 then
      some ⟨4, 128 + z.val, some [z], 3, a.reset[z].isSome != b.reset[z].isSome⟩ else none) ++
  ((List.finRange 8).map fun z => ⟨5, z.val, some [z], 3, a.zones[z].st != b.zones[z].st⟩) ++
  (c.axes.map fun x =>
    let va := (s.axisCopy false x.axis).v
    let vb := (s.axisCopy true x.axis).v
    ⟨6, x.axis, zoneOf (x.axis / 8), 8,
      !decide ((va * 65536 * x.spw - x.kab * vb * 2000).natAbs ≤ max (x.tolAbs * 65536 * x.spw) (x.tolRel * va.natAbs * x.spw))⟩) ++
  (c.outs.map fun o => ⟨7, o.point, zoneOf (o.point / 16), 1, a.brakes.contains o.point != b.brakes.contains o.point⟩)

/-- Consecutive differing cycles of an item, after this one. -/
def Channel.runOf (c : Channel) (x : Item) : Nat :=
  if x.differs then (((c.diffs.find? fun d => d.1 == x.kind && d.2.1 == x.idx).map (·.2.2)).getD 0) + 1 else 0

/-- A disagreement: the zones it concerns latch in both channels, from the cycle it is found in (R327). -/
def State.disagree (s : State) (kind : Nat) (zones : Option (List (Fin 8))) : State :=
  let zs := zones.getD (List.finRange 8)
  let s := forEach zs s fun z t => t.both fun f u => u.latchZone f z 7
  let zn := match zones with | none => 0xFF | some l => ((l.head?).map (·.val)).getD 0xFF
  let s := (s.wr (P.safe + R.SAFE_MISM) (zn * 2 ^ 24 + kind * 2 ^ 16 + s.safety.a.cycle % 65536)).err P.safe E.safe_MISMATCH
  s.both fun f t => t.setChan f fun c => { c with agree := 0 }

/-- A channel compares. The last compare's cycle shows in SAFE_CYCLE. -/
def State.compareBy (s : State) (f : Bool) : State :=
  let l := s.items
  let c := s.chan f
  let bad := l.filter fun x => decide (x.allow < c.runOf x)
  let s := s.setChan f fun c => { c with
    waits := false, agree := c.agree + 1
    diffs := l.filterMap fun x => if x.differs then some (x.kind, x.idx, c.runOf x) else none }
  let s := s.wr (P.safe + R.SAFE_CYCLE) ((s.chan f).cycle % 65536)
  let s := forEach bad s fun x t => t.disagree x.kind x.zones
  let s := if bad.any (fun x => x.kind == 3) then s.faultClock else s
  let s := if bad.any (fun x => x.kind == 2) then (s.setSafety fun x => { x with ok := false }).err P.safe E.safe_CFG else s
  s.safeAct

/-- A(n) at Flint. -/
def execRecordA (s : State) : Out :=
  .next (if s.safeCfg.en ∧ s.safety.a.run ∧ s.safety.b.run ∧ s.safety.b.waits then s.compareBy true else s)
/-- B(n) with Flint's verdict at channel A. -/
def execRecordB (s : State) : Out :=
  .next (if s.safeCfg.en ∧ s.safety.a.run ∧ s.safety.b.run ∧ s.safety.a.waits ∧ !s.safety.b.waits then s.compareBy false else s)

/-- A record has not come by 300 µs (A at Flint) or 400 µs (B at channel A) after the mark; recorded as KIND 1. -/
def execRecordDeadline (atFlint : Bool) (s : State) : Out :=
  .next (match s.safety.mark with
    | none => s
    | some t =>
      if s.safeCfg.en ∧ (s.chan atFlint).run ∧ (s.chan atFlint).waits ∧ t + (if atFlint then 93750 else 125000) ≤ s.now then
        ((s.setChan atFlint fun c => { c with waits := false }).disagree 1 none).safeAct
      else s)

/-! Time-outs of pairs and functions. -/

/-- One contact has demanded alone for longer than DISC_T. -/
def execPairDiscrepancy (flint : Bool) (pair : Fin 64) (s : State) : Out :=
  .next (match s.safeCfg.pairs.find? fun p => p.pair == pair.val, (s.pairOf flint pair).alone with
    | some p, some t =>
      if s.safeCfg.en ∧ (s.chan flint).run ∧ !(s.pairOf flint pair).fault ∧ t + p.disc * 312500 < s.now then
        (s.pairFault flint pair).safeAct
      else s
    | _, _ => s)

/-- SS1_T runs out: STO, or STO_LATCHED after a violation. -/
def execSs1TExpiry (z : Fin 8) (s : State) : Out :=
  .next (if s.safeCfg.en then
      (s.both fun f t =>
        let x := t.zone f z
        if (t.chan f).run ∧ x.st = 1 ∧ x.ss1At + x.ss1T ≤ t.now then
          t.setZone f z fun y => y.leave t.now (if x.latch then 3 else 2) x.cause
        else t).safeAct
    else s)

/-- SBC_DLY after STO entry the brake outputs of the function's axes go off in both channels. -/
def execSbcDlyExpiry (f : Fin 128) (s : State) : Out :=
  .next (match s.safeCfg.funcs[f.val]? with
    | none => s
    | some r => match fin? 8 r.zone with
      | none => s
      | some z =>
        if s.safeCfg.en ∧ r.kind = 7 then
          let hit (n : Nat) := s.safeCfg.outs.any fun o =>
            o.brake && o.point == n && (o.axis == r.axis || (r.axis == 0xFF && s.safeCfg.zoneOf (n / 16) == some z))
          (s.both fun f t =>
            let x := t.zone f z
            if 2 ≤ x.st ∧ x.stoAt + r.p[0] * 312500 ≤ t.now then
              t.setChan f fun c => { c with brakes := c.brakes.filter fun n => !hit n }
            else t).safeAct
        else s)

/-! Requests (R339, R351). -/

/-- A write of SAFE_REQ: the demands stand while their bits are 1. -/
def execSafeReqWrite (v : BitVec 16) (s : State) : Out := .next (s.wr (P.safe + R.SAFE_REQ) v.toNat)

/-- The axes whose SAFE_BRK_REQ bits requester `q` may write: those its domain owns, all for domain 0. -/
def State.brkMask (s : State) (q hi : Nat) : Nat := match s.reqDom q with
  | none => 0
  | some d => (List.range 32).foldl (fun m k => m + if d == 0 || s.axisDom (32 * hi + k) == d then 2 ^ k else 0) 0

def State.writeBrkReq (s : State) (q hi v : Nat) : State :=
  let a := P.safe + R.SAFE_BRK_REQ_LO + 4 * hi
  let m := s.brkMask q hi
  s.wr a (without (s.rd a) m ||| (v &&& m))

def execSafeBrkReqWrite (q : Fin 514) (hi : Bool) (v : Word) (s : State) : Out := .next (s.writeBrkReq q hi.toNat v.toNat)

end Sys2Proof.Machine
end

