-- ==== Sys2Proof/Machine/Dsc.lean ====
section
/-! DEFINITION. Safe communication: DSC and TPC (14_safety_functions_and_safe_communication.md, R342-R349). Both channels check the
same bytes, so one state stands for both. -/
namespace Sys2Proof.Machine
open Sys2Proof

/-- The DSC version of this device (R348). -/
abbrev dscVersion : Nat := 2

/-- Bits of the OUT map as channel A finds them: pair demands and zones that are not RELEASED (Table 14-8). -/
def State.dscOut (s : State) (k : ConnCfg) : Nat :=
  k.out.foldl (fun m e => m ||| if (e.2 / 4096 = 1 ∨ e.2 / 4096 = 5) ∧ s.srcOn false 1 0 e.2 then 2 ^ (e.1 % 128) else 0) 0

/-- PERIOD and TE in ticks. -/
def ConnCfg.periodT (k : ConnCfg) : Nat := k.period * 156250
def ConnCfg.teT (k : ConnCfg) : Nat := k.te * 312500
/-- The connection runs under TPC (R347). -/
def ConnCfg.tpc (k : ConnCfg) : Bool := k.mode == 2 || k.mode == 3
/-- SEQ is checked: MODE DSC and DSC + TPC. -/
def ConnCfg.seqd (k : ConnCfg) : Bool := k.mode != 2

/-- A DSC payload (Table 14-9) of type `type` with its CRC, and the padding. -/
def DscConn.payload (x : DscConn) (k : ConnCfg) (type : Nat) (data : List Byte) : List Byte :=
  let ver := if type = 1 ∨ x.ver = 0 ∨ x.ver = 15 then dscVersion else x.ver
  let l := bytesOf 1 (ver * 16 + type) ++ bytesOf 1 (k.side + 2 * k.tpc.toNat) ++ bytesOf 2 x.seq ++ bytesOf 2 x.echo ++
    bytesOf 2 ((x.inNow == 0).toNat + 2 * (x.expd && ver != 1).toNat) ++ bytesOf 4 k.id ++ data
  l ++ bytesOf 4 (dscCrc k.id l) ++ List.replicate 10 0

/-- A message is sent on all four ports with the next SEQ (R343, R345). -/
def State.dscSend (s : State) (c : Fin 32) (k : ConnCfg) (type : Nat) (data : List Byte) : State :=
  let s := s.setDsc c fun x => { x with
    seq := (x.seq + 1) % 65536, hist := (((x.seq + 1) % 65536, s.now) :: x.hist).take 600 }
  s.agentSend 0 [0, 1, 2, 3] k.peer s.safeCfg.etype ((s.dscOf c).payload k type data)

/-- Safe communication runs: both channels do. -/
def State.dscOn (s : State) : Bool := s.safeCfg.en && s.safety.a.run && s.safety.b.run

/-- A DATA message: due every PERIOD and at any change of the OUT bits, once a CONNECT has been accepted. -/
def execDscDataSend (c : Fin 32) (s : State) : Out :=
  .next (match s.connOf c with
    | none => s
    | some k =>
      let x := s.dscOf c
      let o := s.dscOut k
      let due : Bool := match x.sentAt with | none => true | some t => decide (t + k.periodT ≤ s.now) || o != x.outs
      if s.dscOn ∧ (x.run ∨ x.conn) ∧ due then
        (s.dscSend c k 2 (bytesOf 16 o)).setDsc c fun x => { x with sentAt := some s.now, outs := o }
      else s)

/-- In CONNECT, a CONNECT message every PERIOD (R349). -/
def execDscConnectSend (c : Fin 32) (s : State) : Out :=
  .next (match s.connOf c with
    | none => s
    | some k =>
      let x := s.dscOf c
      let due : Bool := match x.connAt with | none => true | some t => decide (t + k.periodT ≤ s.now)
      if s.dscOn ∧ !x.run ∧ due then
        ((s.dscSend c k 1 (bytesOf 16 (dscVersion + 256 * (dscVersion - 1)))).setDsc c fun x => { x with
          connAt := some s.now, expd := false }).showDsc c
      else s)

/-- A copy is discarded: its counter and DSC_REJ (R346). -/
def State.dscReject (s : State) (c : Option (Fin 32)) (f : Nat → Fld) : State :=
  (match c with | some k => s.inc P.safe (f k) | none => s).err P.safe E.safe_DSC_REJ

/-- The lower of the two versions, or 15 where they are more than one apart (R348). -/
def sessionVer (peer : Nat) : Nat :=
  if peer ≤ dscVersion + 1 ∧ dscVersion ≤ peer + 1 then min peer dscVersion else 15

/-- Both channels have accepted a message. MODE TPC does not check ECHO (R347). -/
def State.dscAccept (s : State) (c : Fin 32) (k : ConnCfg) (l : List Byte) : State :=
  let type := field l 0 1 % 16
  let seq := field l 2 2
  let s := s.setDsc c fun x => { x with seqRx := some seq, echo := seq }
  let s := match type with
    | 1 =>
      let v := sessionVer (field l 12 1)
      s.setDsc c fun x => if x.run then x else { x with ver := v, conn := v != 15 }
    | 2 =>
      let x := s.dscOf c
      let e : Option (Nat × Nat) := if k.seqd then x.hist.find? fun h => h.1 == field l 4 2 else some (0, s.now)
      let at_ := match e with | some h => max x.echoAt h.2 | none => x.echoAt
      let run := x.run || (x.conn && e.isSome)
      s.setDsc c fun x => { x with
        dataAt := s.now, echoAt := at_, run := run, conn := x.conn && !run, inNext := if run then field l 12 16 else 0 }
    | _ => s.setDsc c fun x => { x with due := x.due || x.run }
  s.showDsc c

/-- Check 5 of Table 14-10, then acceptance. A CONNECT that reaches a connection in CONNECT starts the numbering anew. -/
def State.dscSeq (s : State) (c : Fin 32) (k : ConnCfg) (l : List Byte) : State :=
  let x := s.dscOf c
  let seq := field l 2 2
  match x.seqRx with
  | none => s.dscAccept c k l
  | some last =>
    let d := (seq + 65536 - last) % 65536
    if !k.seqd then s.dscAccept c k l
    else if d = 0 then s
    else if d ≤ 16 ∨ (field l 0 1 % 16 = 1 ∧ !x.run) then s.dscAccept c k l
    else s.dscReject (some c) F.SAFE_DSC_CNT_B_SEQ

/-- Check 4: under TPC the first copy of one ring waits for the equal copy of the other (R347). -/
def State.dscTpc (s : State) (c : Fin 32) (k : ConnCfg) (ring : Nat) (l : List Byte) : State :=
  if !k.tpc then s.dscSeq c k l
  else match (s.dscOf c).hold with
    | none => s.setDsc c fun x => { x with hold := some (ring, s.now, l) }
    | some h =>
      if h.1 = ring then s
      else
        let s := s.setDsc c fun x => { x with hold := none }
        if h.2.2 = l then s.dscSeq c k l else s.dscReject (some c) F.SAFE_DSC_CNT_B_TPC_DIFF

/-- The connection a message names. -/
def State.dscNamed (s : State) (l : List Byte) : Option (Fin 32) :=
  (List.finRange 32).find? fun c => match s.connOf c with | some k => k.id == field l 8 4 | none => false

/-- TYPE is defined and VER accepted (R348): a CONNECT in any version its byte 13 admits, else the session's. -/
def DscConn.admits (x : DscConn) (l : List Byte) : Bool :=
  let ver := field l 0 1 / 16
  match field l 0 1 % 16 with
  | 1 => decide (field l 13 1 ≤ ver)
  | 2 | 3 => if x.ver = 0 ∨ x.ver = 15 then ver == dscVersion || ver == dscVersion - 1 else ver == x.ver
  | _ => false

/-- Table 14-10 on the payload of a received copy: 32 bytes and 10 of padding. -/
def State.dscReceive (s : State) (p : Fin 4) (body : List Byte) : State :=
  let l := body.take 32
  let id := s.dscNamed l
  let x := (id.map s.dscOf).getD {}
  if body.length ≠ 42 ∨ !x.admits l then s.dscReject id F.SAFE_DSC_CNT_A_FORMAT
  else match id with
    | none => s.dscReject none F.SAFE_DSC_CNT_A_FORMAT
    | some c => match s.connOf c with
      | none => s
      | some k =>
        if field l 1 1 % 2 = k.side then s.dscReject id F.SAFE_DSC_CNT_A_FORMAT
        else if k.seqd ∧ field l 28 4 ≠ dscCrc k.id (l.take 28) then s.dscReject id F.SAFE_DSC_CNT_A_FORMAT
        else s.dscTpc c k (p.val / 2) l

def execDscReceive (p : Fin 4) (body : List Byte) (s : State) : Out := .next (if s.dscOn then s.dscReceive p body else s)

/-- The time expectation expires: no DATA for TE, or the newest echoed message was sent more than TE ago. Both channels act
at the next mark. -/
def execDscExpiry (c : Fin 32) (s : State) : Out :=
  .next (match s.connOf c with
    | none => s
    | some k =>
      let x := s.dscOf c
      if s.dscOn ∧ x.run ∧ (x.dataAt + k.teT ≤ s.now ∨ x.echoAt + k.teT < s.now) then s.setDsc c fun x => { x with due := true }
      else s)

/-- No partner within TPC_WIN: the held copy is discarded. -/
def execTpcWindowExpiry (c : Fin 32) (s : State) : Out :=
  .next (match s.connOf c, (s.dscOf c).hold with
    | some k, some h =>
      if h.2.1 + k.win * 31250 ≤ s.now then
        (s.setDsc c fun x => { x with hold := none }).dscReject (some c) F.SAFE_DSC_CNT_B_TPC_DIFF
      else s
    | _, _ => s)

end Sys2Proof.Machine
end

