-- ==== Sys2Proof/Machine/View.lean ====
section
/-! DEFINITION. What a read of a Granite-resident register shows where that is computed from other state: the values of the
snapshot mirrors too (R377, R429). -/
namespace Sys2Proof.Machine
open Sys2Proof

/-- ENG_STATUS (Table 8-14). -/
def EngineState.status (x : EngineState) : Nat :=
  x.st.code + 128 * (!x.modes.isEmpty).toNat + 256 * x.exl.toNat + x.calls.length * 2 ^ 12 + x.mails.length * 2 ^ 16 +
    x.hmails.length * 2 ^ 20

/-- The watchdog's remaining half ticks. -/
def EngineState.wdNow (x : EngineState) (t : Nat) : Nat := if x.st.counts then x.wdLeft - 2 * (t - x.wdAt) else x.wdLeft

/-- The engine control page (R208). -/
def State.engView (s : State) (e : Fin 512) (a : Nat) : Nat :=
  let x := s.eng e
  let o := a % 0x1000
  if o = R.ENG_STATUS then x.status
  else if x.st = .safety then 0
  else if o = R.ENG_PC then x.pc
  else if o = R.ENG_EPC then x.epc
  else if o = R.ENG_ESTAT then x.estat
  else if o = R.ENG_EADDR then x.eaddr
  else if o = R.ENG_WDOG_LEFT then x.wdNow s.now / 625
  else if o = R.ENG_DBG_DATA then (if x.st = .halted then x.dbgRead (s.dbgSel e) else 0)
  else if o = R.ENG_BUSY then cyclesOf (x.busy + (if x.st = .running then s.now - x.since else 0)) % 2 ^ 32
  else if o = R.ENG_STALL then (Config.stallCycles e.val).toNat
  else if o = R.ENG_HMAIL_HEAD then match x.hmails with
    | [] => 0
    | m :: _ => x.hmails.length * 2 ^ 28 + 2 ^ 8 + (m.length - 1)
  else if 0x100 ≤ o ∧ o < 0x140 then ((x.hmails.headD []).getD ((o - 0x100) / 4) 0).toNat
  else s.rd a

/-- The engines of grove g whose state `f` holds, by bit. -/
def State.engMask (s : State) (g : Nat) (f : EngSt → Bool) : Nat :=
  (List.range 32).foldl (fun m n => match fin? 512 (32 * g + n) with
    | some e => if f (s.eng e).st then m + 2 ^ n else m
    | none => m) 0

/-- The LOOP page (R175). Its mirror shows the signals at the end of the last completed evaluation (Table 7-7). -/
def State.loopView (s : State) (x : Fin 64) (a : Nat) (mirror : Bool) : Nat :=
  let o := a % 0x1000
  let l := s.loopOf x
  let lu := P.loopunit (x.val / 4)
  if o = R.LOOP_STATUS then setBits (s.rd a) 1 1 (s.evaluating x).toNat
  else if o = R.LOOP_SPEED then ofSigned 32 (s.axis x).est.v
  else if o = R.LOOP_POS_LO then ofSigned 64 l.c % 2 ^ 32
  else if o = R.LOOP_POS_HI then ofSigned 64 l.c / 2 ^ 32
  else if o = R.LOOP_LAG then s.rd (lu + R.LU_LAG_PEAK (x.val % 4)) * 2 ^ 16 + s.rd (lu + R.LU_LAG (x.val % 4))
  else if 0x400 ≤ o ∧ o < 0x500 then
    let j := (o - 0x400) / 4
    if j = 11 ∨ j = 12 then (l.ext.toList.getD (j - 11) 0).toNat
    else ((if mirror then l.sigDone else l.sig).toList.getD j 0).toNat
  else s.rd a

/-- The LOOPUNIT page (R176). -/
def State.luView (s : State) (g a : Nat) : Nat :=
  if a % 0x1000 = R.LU_STATUS then
    (List.range 4).foldl (fun m j => match axis? (4 * g + j) with
      | some x => m + (s.evaluating x).toNat * 2 ^ j + (s.loopOf x).pend.isSome.toNat * 2 ^ (4 + j) +
          (s.rd (P.loopunit g + R.LU_LAG j) != 0).toNat * 2 ^ (8 + j)
      | none => m) 0
  else s.rd a

/-- The PROFILE page (R244); a plain read of the latching registers does not come here. -/
def State.profileView (s : State) (x : Fin 64) (a : Nat) : Nat :=
  let o := a % 0x1000
  if o = R.PRF_SP_LO then ofSigned 64 (s.prfX x) % 2 ^ 32
  else if o = R.PRF_SP_HI then ofSigned 64 (s.prfX x) / 2 ^ 32
  else if o = R.PRF_VEL then s.prfVel x
  else if o = R.PRF_ACC then s.prfAcc x
  else if o = R.BR_OFS_NOW_LO then ofSigned 64 (s.prf x).br.ofs % 2 ^ 32
  else if o = R.BR_OFS_NOW_HI then ofSigned 64 (s.prf x).br.ofs / 2 ^ 32
  else s.rd a

/-- Measured velocity is forced to 0 (R235). -/
def State.trkStill (s : State) (k : Fin 8) : Bool :=
  if s.trkSrc k = 1 then s.flag (P.tooth (s.trkIdx k)) F.TOOTH_STATUS_STILL
  else if s.trkSrc k = 2 then match axis? (s.trkIdx k) with
    | some x => bits (s.loopOf x).fb.status 1 1 == 1
    | none => false
  else false

/-- The TRUNK page (R245). -/
def State.trunkView (s : State) (k : Fin 8) (a : Nat) : Nat :=
  let o := a % 0x1000
  let r := s.trkAt k s.now
  if o = R.TRK_STATUS then setBits (s.rd a) 2 1 (s.trkStill k).toNat
  else if o = R.TRK_POS_LO then ofSigned 64 r.1 % 2 ^ 32
  else if o = R.TRK_POS_HI then ofSigned 64 r.1 / 2 ^ 32
  else if o = R.TRK_VEL_LO then ofSigned 64 r.2 % 2 ^ 32
  else if o = R.TRK_VEL_HI then ofSigned 64 r.2 / 2 ^ 32
  else if o = R.TRK_POS_TICK_LO then s.now % 2 ^ 32
  else if o = R.TRK_POS_TICK_HI then s.now / 2 ^ 32 % 2 ^ 32
  else s.rd a

/-- The TOOTH page (R151). -/
def State.toothView (s : State) (t : Fin 16) (a : Nat) : Nat :=
  let o := a % 0x1000
  let u := s.tooth t
  let k := (u.last.map (·.tick)).getD 0
  if o = R.TOOTH_POS then u.pos
  else if o = R.TOOTH_TURN then u.turn
  else if o = R.TOOTH_LAST_TICK_LO then k % 2 ^ 32
  else if o = R.TOOTH_LAST_TICK_HI then k / 2 ^ 32 % 2 ^ 32
  else s.rd a

/-- The TIME page (R53): the tick and time registers at this tick. -/
def State.timeView (s : State) (a : Nat) : Nat :=
  let o := a % 0x1000
  let x := timeWith s.time.cur s.now
  if o = R.TIME_TICK_LO ∨ o = R.TIME_LAT_TICK_LO then s.now % 2 ^ 32
  else if o = R.TIME_TICK_HI ∨ o = R.TIME_LAT_TICK_HI then s.now / 2 ^ 32 % 2 ^ 32
  else if o = R.TIME_SUBNS then timeFrac x / 2 ^ 16
  else if o = R.TIME_NS then timeNs x
  else if o = R.TIME_SEC_LO then timeSec x % 2 ^ 32
  else if o = R.TIME_SEC_HI then timeSec x / 2 ^ 32
  else if o = R.TIME_LOCK_STAT then
    (List.range 8).foldl (fun v i => setBits v (16 + i) 1 (s.fld P.time (F.TIME_ALIGN_ALIGNED i))) (s.rd a)
  else if o = R.TIME_HOLD_LEFT then s.holdLeft
  else s.rd a

/-! The fault page (R365). -/

/-- PAGE_ERR of a page as the collector knows it: Slate-resident pages by the last forwarded read (R354). -/
def State.errSeen (s : State) (k : PageKind) (n : Nat) : Nat :=
  let p := pageBase k n
  match slateOfPage k n with
  | some i => (((s.fault.seen[i]).find? fun e => e.1 == p).map (·.2)).getD 0
  | none => s.rd (p + R.PAGE_ERR)

/-- Class of error bit b of a page kind. -/
def errClass (k : PageKind) (b : Nat) : Nat := bits (errClasses k) (2 * b) 2

/-- The class of a page's error line: the highest among the set and unmasked bits; a mask bit over a fatal error has no effect
(R352). 0: not asserted. -/
def State.pageClass (s : State) (k : PageKind) (n : Nat) : Nat :=
  let e := s.errSeen k n
  let m := s.rd (pageBase k n + R.PAGE_ERR_MASK)
  (List.range 16).foldl (fun c b =>
    let x := errClass k b
    if bits e b 1 = 1 ∧ (bits m b 1 = 0 ∨ x = 3) then max c x else c) 0

/-- Pages of a list of instances. -/
def pagesOf (k : PageKind) (lo n : Nat) : List (PageKind × Nat) := (List.range n).map fun j => (k, lo + j)

/-- Engine e is in SAFETY. -/
def State.engSafety (s : State) (e : Nat) : Bool := match fin? 512 e with
  | some x => (s.eng x).st == .safety
  | none => false

/-- The pages that drive source i (Table 15-1). -/
def State.srcPages (s : State) (i : Nat) : List (PageKind × Nat) :=
  if i < 16 then
    [(.grove, i), (.loopunit, i)] ++ ((pagesOf .engine (32 * i) 32).filter fun p => !s.engSafety p.2) ++ pagesOf .loop (4 * i) 4 ++
      pagesOf .profile (4 * i) 4
  else if i < 24 then
    let n := i - 16
    if s.fitted n then
      ([.link, .carrier, .gate, .adc, .fio, .chop, .timers, .fsch] : List PageKind).map (fun k => (k, n)) ++ pagesOf .pwm (8 * n) 8 ++
        pagesOf .fb (8 * n) 8 ++ pagesOf .tooth (2 * n) 2
    else []
  else if i < 28 then [(.net, i - 24)]
  else match i with
  | 28 => (.switch, 0) :: pagesOf .netq 0 8
  | 29 => [(.time, 0)]
  | 30 => [(.clk, 0)]
  | 31 => (.track, 0) :: (pagesOf .rgn 0 8 ++ pagesOf .lane 0 64 ++ pagesOf .handover 0 8 ++ pagesOf .trunk 0 8)
  | 32 => [(.trace, 0), (.trig, 0), (.snap, 0)] ++ pagesOf .trc 0 8
  | 33 => [(.amber, 0)]
  | 34 => (.safe, 0) :: ((pagesOf .engine 510 2).filter fun p => s.engSafety p.2)
  | 35 => [(.pwr, 0)]
  | 36 => [(.host, 0)]
  | 37 => [(.dom, 0)]
  | 38 => [(.sys, 0)]
  | 39 => [(.fault, 0)]
  | _ => []

/-- The line class of source i (R353). -/
def State.lineClass (s : State) (i : Nat) : Nat := (s.srcPages i).foldl (fun c p => max c (s.pageClass p.1 p.2)) 0

/-- FAULT_LINE, as 40 bits. -/
def State.lines (s : State) : Nat := (List.range 40).foldl (fun m i => if s.lineClass i = 0 then m else m + 2 ^ i) 0

/-- Recorded class of source i (FAULT_CLASS). -/
def State.recClass (s : State) (i : Nat) : Nat := bits (s.rd (P.fault + R.FAULT_CLASS (i / 16))) (2 * (i % 16)) 2

/-- Words of a partner record (Table 15-4). -/
def Partner.word (r : Partner) (w : Nat) : Nat := match w with
  | 0 => r.kind * 2 ^ 24 + r.cls * 2 ^ 22 + r.count
  | 1 => r.subj % 2 ^ 32
  | 2 => r.subj / 2 ^ 32
  | _ => r.first % 2 ^ 32

def State.faultView (s : State) (a : Nat) : Nat :=
  let o := a % 0x1000
  let f := s.fault
  if o = R.FAULT_STATUS then
    s.fld P.fault F.FAULT_STATUS_DSS * 256 + s.rd (P.fault + R.FAULT_DOM_HALT) % 256 * 2 ^ 16 +
      2 * ((List.range 40).any fun i => s.recClass i == 3).toNat +
      (s.rd (P.fault + R.FAULT_SOURCE_LO) != 0 || s.rd (P.fault + R.FAULT_SOURCE_HI) != 0).toNat
  else if o = R.FAULT_LINE_LO then s.lines % 2 ^ 32
  else if o = R.FAULT_LINE_HI then s.lines / 2 ^ 32
  else if o = R.FAULT_LOG_HEAD then (!f.log.isEmpty).toNat * 2 ^ 31 + f.log.length * 2 ^ 16
  else if 0x054 ≤ o ∧ o < 0x064 then ((f.log.head?.map fun (w : Vector Word 4) => w.toList.getD ((o - 0x054) / 4) 0).getD 0).toNat
  else if o = R.FAULT_PR_HEAD then (!f.prq.isEmpty).toNat * 2 ^ 31 + f.prq.length * 2 ^ 16 + f.opn.length
  else if 0x1D0 ≤ o ∧ o < 0x1E0 then ((f.prq.head?).map fun r => r.word ((o - 0x1D0) / 4)).getD 0
  else s.rd a

/-! The TRIG page (R383). -/

/-- A head register: entries, level, OWN and taps of the oldest stamp. -/
def headReg (q : List Stamp) : Nat := match q with
  | [] => 0
  | x :: _ => 2 ^ 31 + q.length * 2 ^ 24 + x.level.toNat * 2 ^ 23 + x.own.toNat * 2 ^ 22 + x.tap % 64

/-- The stamp tick of the head. -/
def headTick (q : List Stamp) : Nat := match q with
  | [] => 0
  | x :: _ => x.tap / 64

def State.trigView (s : State) (a : Nat) : Nat :=
  let o := a % 0x1000
  let c := s.capture
  let inq (n : Nat) : List Stamp := (c.ins.toList.map (·.q)).getD n []
  let busq (n : Nat) : List Stamp := (c.bus.toList.map (·.q)).getD n []
  if 0x030 ≤ o ∧ o < 0x040 then headReg (inq ((o - 0x030) / 4))
  else if 0x040 ≤ o ∧ o < 0x060 then
    let t := headTick (inq ((o - 0x040) / 8))
    if o % 8 = 0 then t % 2 ^ 32 else t / 2 ^ 32 % 2 ^ 32
  else if 0x0E0 ≤ o ∧ o < 0x0F0 then headReg (busq ((o - 0x0E0) / 4))
  else if 0x0F0 ≤ o ∧ o < 0x110 then
    let t := headTick (busq ((o - 0x0F0) / 8))
    if o % 8 = 0 then t % 2 ^ 32 else t / 2 ^ 32 % 2 ^ 32
  else if o = R.TBUS_CAL then
    s.rd a / 16 * 16 + (List.range 4).foldl (fun m n => if ((c.bus.toList.map (·.cal.isSome)).getD n false) then m + 2 ^ n else m) 0
  else s.rd a

/-! SYS, AMBER, HOST. -/

/-- Remaining milliseconds of the system watchdog (R411). -/
def State.wdogLeft (s : State) : Nat :=
  let n := s.fld P.sys F.SYS_WDOG_PERIOD
  match s.power.wdFrom with
  | none => n
  | some t => n - (s.now - t) / 312500

/-- Every fitted Slate has CAL_DONE; every fitted Slate is aligned. -/
def State.allCal (s : State) : Bool :=
  (List.finRange 8).all fun (i : Fin 8) => !s.fitted i || s.flag (P.carrier i) F.CARRIER_STATUS_CAL_DONE
def State.allAligned (s : State) : Bool :=
  (List.finRange 8).all fun (i : Fin 8) => !s.fitted i || s.flag P.time (F.TIME_ALIGN_ALIGNED i)

/-- SYS_STATE (Table 18-9): the WAIT bits are shown from SAFE_HOLD on. -/
def State.sysState (s : State) : Nat :=
  s.stage + 256 * s.fld P.sys F.SYS_STATE_RESTORED +
    (if s.stage = 0 then 0
     else (!s.power.applied).toNat * 2 ^ 16 + (!s.allCal).toNat * 2 ^ 17 + (!(s.timeLocked && s.allAligned)).toNat * 2 ^ 18 +
       (!s.power.restored).toNat * 2 ^ 19)

def State.sysView (s : State) (a : Nat) : Nat :=
  let o := a % 0x1000
  if o = R.SYS_STATE then s.sysState
  else if o = R.SYS_WDOG_LEFT then s.wdogLeft
  else if o = R.SYS_DEVICE then (if s.dev.bv3204 then 32 else 64) * 256 + s.dev.xa.toNat
  else s.rd a

/-- Remaining seconds of the trial timer (R399). -/
def State.trialLeft (s : State) : Nat := match s.boot.trialEnd with
  | none => 0
  | some e => (e - s.now + 312499999) / 312500000

def State.amberView (s : State) (a : Nat) : Nat :=
  let o := a % 0x1000
  let b := s.boot
  if o = R.AMBER_STATUS then s.rd a / 2 ^ 14 * 2 ^ 14 + b.floor * 256 + b.revoked * 16 + b.keys
  else if o = R.AMBER_TRIAL_LEFT then s.trialLeft
  else s.rd a

def State.hostView (s : State) (a : Nat) : Nat :=
  let o := a % 0x1000
  if o = R.HOST_ID then (if s.dev.bv3204 then 0x3204 else 0x6408) * 2 ^ 16 + Config.vendorId.toNat
  else if o = R.HOST_MGMT_EPOCH then (Config.epochDraw s.mgmt.epoch).toNat
  else if 0x0E0 ≤ o ∧ o < 0x100 then 0
  else s.rd a

/-- A committed save record is in Amber (Table 18-6). -/
def State.saveRecord (s : State) : Bool := s.aload 0x1E20000 4 == 0x544D4F43

/-- The PWR page (R425): RECORD, CHARGING below 22.8 V, and the measured voltages. -/
def State.pwrView (s : State) (a : Nat) : Nat :=
  let o := a % 0x1000
  if o = R.PWR_STATUS then
    let chg := s.flag P.pwr F.PWR_CFG_CHG_EN && bits (s.rd a) 8 1 == 1 && !s.flag P.pwr F.PWR_STATUS_HOLD_OK
    setBits (setBits (s.rd a) 5 1 s.saveRecord.toNat) 1 1 chg.toNat
  else if o = R.PWR_VSENSE then (Config.measuredMv (2 * s.now)).toNat
  else if o = R.PWR_VHOLD then (Config.measuredMv (2 * s.now + 1)).toNat
  else s.rd a

/-- A block register of a Granite-resident page. -/
def State.blockView (s : State) (k : PageKind) (n a : Nat) (mirror : Bool) : Nat :=
  let o := a % 0x1000
  match k with
  | .sys => s.sysView a
  | .time => s.timeView a
  | .fault => s.faultView a
  | .trig => s.trigView a
  | .amber => s.amberView a
  | .host => s.hostView a
  | .pwr => s.pwrView a
  | .loop => ((axis? n).map fun x => s.loopView x a mirror).getD 0
  | .profile => ((axis? n).map fun x => s.profileView x a).getD 0
  | .loopunit => s.luView n a
  | .grove =>
    if o = R.GROVE_RUN then s.engMask n fun t => t == .running || t == .waiting
    else if o = R.GROVE_FAULTED then s.engMask n fun t => t == .faultHalt
    else s.rd a
  | .engine => ((fin? 512 n).map fun e => s.engView e a).getD 0
  | .trunk => ((fin? 8 n).map fun k => s.trunkView k a).getD 0
  | .tooth => ((fin? 16 n).map fun t => s.toothView t a).getD 0
  | .track =>
    if o = R.TRACK_USED then s.usedRecs.length
    else if o = R.TRACK_DEAD then s.deadCount
    else if o = R.TRACK_STATUS then setBits (s.rd a) 0 1 s.trackRun.toNat
    else s.rd a
  | .rgn => if o = R.RGN_FREE then (s.freeRecs n).length else s.rd a
  | .lane => if o = R.LANE_LIVE then ((axis? n).map fun x => ((s.laneRecs x).filter fun i => !s.final i).length).getD 0 else s.rd a
  | .switch => if o = R.SW_BUF_FREE then 8192 - s.cellsUsed else s.rd a
  | .trace => if o = R.TRC_BUSY then
      (List.range 8).foldl (fun m r => if s.trcSt r = 1 ∨ s.trcSt r = 2 then m + 2 ^ r else m) 0 else s.rd a
  | _ => s.rd a

/-- Any Granite-resident register. Engine pages in SAFETY show four registers (R205). -/
def State.view (s : State) (a : Nat) (mirror : Bool) : Nat :=
  let o := a % 0x1000
  match pageAt a with
  | none => 0
  | some (k, n) =>
    if o = R.PAGE_VER then s.rd a % 2 ^ 24 + (Config.dieRev 0).toNat * 2 ^ 24
    else if o = R.PAGE_STATUS then 1 + 4 + s.rd a / 8 % 2 * 8
    else if k = .engine ∧ s.engSafety n ∧ o ≠ R.PAGE_ID ∧ o ≠ R.ENG_STATUS then 0
    else if o < 0x20 ∨ 0x800 ≤ o then s.rd a
    else s.blockView k n a mirror

end Sys2Proof.Machine
end

