-- ==== Sys2Proof/Machine/Trace.lean ====
section
/-! DEFINITION. Trace sources and recorder commands, external triggers, the cabinet bus, the common snapshot (R366-R384). -/
namespace Sys2Proof.Machine
open Sys2Proof

/-! Grants and sources (Table 16-1). -/

/-- GRANT bit of a TRIG_IN input, or of a bus line. -/
def State.inGrant (s : State) (n d : Nat) : Bool := bits (s.fld P.trig (F.TRIG_IN_CFG_GRANT n)) d 1 == 1
def State.busGrant (s : State) (n d : Nat) : Bool := bits (s.fld P.trig (F.TBUS_CFG_GRANT n)) d 1 == 1

/-- Fields of a TRC_SRC word. -/
def srcEn (w : Nat) : Bool := bits w 31 1 == 1
def srcKind (w : Nat) : Nat := bits w 24 4
def srcIdx (w : Nat) : Nat := bits w 16 6
def srcSel (w : Nat) : Nat := bits w 8 6
/-- DIV. -/
def srcDiv (w : Nat) : Nat := w % 256 + 1

/-- The unit a source names exists on this device (R5). -/
def State.srcExists (s : State) (w : Nat) : Bool :=
  let i := srcIdx w
  match srcKind w with
  | 1 | 2 => s.fitted (i / 8)
  | 3 => s.fitted (i / 8) && decide (srcSel w < 6)
  | 4 => s.fitted (i / 8) && decide (srcSel w < 4)
  | 5 | 6 => s.fitted i
  | 7 => decide (i < 8)
  | 8 => decide (i < 4)
  | _ => false

/-- A source is permitted to domain `d`. -/
def State.srcMay (s : State) (d w : Nat) : Bool :=
  let i := srcIdx w
  s.srcExists w && (d == 0 || match srcKind w with
  | 1 | 2 | 3 | 4 => s.axisDom i == d
  | 5 => (List.range 16).any fun j => s.ownsPoint d (16 * i + j)
  | 6 => s.ownsChannel d i (srcSel w)
  | 7 => s.ownerReg (P.trunk i) == d
  | 8 => s.inGrant i d
  | _ => false)

/-- The trigger of TRC_TRIG is permitted to domain `d` (Table 16-3). -/
def State.trigMay (s : State) (r d : Nat) : Bool :=
  let v := s.rd (P.trc r + R.TRC_TRIG)
  let c := v / 2 ^ 24
  let q := v % 2 ^ 24
  if c = 0x00 ∨ c = 0x02 ∨ c = 0x40 then true
  else if c = 0x08 then srcEn (s.rd (P.trc r + R.TRC_SRC (q % 16)))
  else if 0x10 ≤ c ∧ c < 0x14 then d == 0 || s.inGrant (c - 0x10) d
  else if 0x18 ≤ c ∧ c < 0x1C then d == 0 || s.busGrant (c - 0x18) d
  else if c = 0x20 then s.fitted (bits q 16 3) && (d == 0 || s.ownsChannel d (bits q 16 3) (q % 256))
  else if c = 0x28 then d == 0
  else if c = 0x41 then d == 0 || s.trcOwner (q % 8) == d
  else false

/-- A value as 64 bits: signed numbers sign-extended. -/
def ext64 (x : Int) : Nat := ofSigned 64 x

/-- What a source shows now: the tick, TAG and value of its entry; `n` picks among the records of one release. The spec states no
value for EVENT and TRIG_IN, whose record is in the tag: a free value (log 38). -/
def State.srcValue (s : State) (d w n : Nat) : Option (Nat × Nat × Nat) × State :=
  let i := srcIdx w
  let sel := srcSel w
  match srcKind w with
  | 1 => (axis? i).elim (none, s) fun a =>
    let l := s.loopOf a
    (some (l.evalSet.r.stamp, l.evalSet.r.tag, ext64 (Assoc.get (fun _ => 0) l.taps sel).toInt), s)
  | 2 => (axis? i).elim (none, s) fun a =>
    let l := s.loopOf a
    (some (l.evalSet.r.stamp, l.evalSet.r.tag, ext64 (l.sigDone.toList.getD sel 0).toInt), s)
  | 3 => (axis? i).elim (none, s) fun a =>
    let x := (s.loopOf a).smp
    let v := match sel with
      | 0 => ext64 (toSigned 16 x.iu)
      | 1 => ext64 (toSigned 16 x.iv)
      | 2 => ext64 (toSigned 16 x.iw)
      | 3 => x.vbus
      | 4 => x.pos
      | _ => x.flags
    (some (x.stamp, x.tag, v), s)
  | 4 => (axis? i).elim (none, s) fun a =>
    let f := (s.loopOf a).fb
    let v := match sel with
      | 0 => f.pos
      | 1 => ext64 (toSigned 32 f.turn)
      | 2 => f.int
      | _ => ext64 (s.axis a).est.v
    (some (restoreTick s.now f.tick 32, bits f.status 1 1, v), s)
  | 5 => (slate? i).elim (none, s) fun k => (some ((s.slate k).gAt, 0, (s.slate k).gIn &&& s.pointMask d k), s)
  | 6 => match (s.evlog.released.filter fun e => e.1.2.1 == i && e.1.2.2.1 == sel)[n]? with
    | some e =>
      let x := s.draw
      let y := x.2.draw
      (some (e.1.1, e.1.2.2.2.1.toNat * 128 + e.1.2.2.2.2.toNat * 64 + e.2.toNat * 32, x.1 + y.1 * 2 ^ 32), y.2)
    | none => (none, s)
  | 7 => (fin? 8 i).elim (none, s) fun k =>
    (some (s.now, s.fld (P.trunk k) F.TRK_STATUS_VALID, ext64 (s.trkAt k s.now).1), s)
  | 8 => match (fin? 4 i).bind fun (k : Fin 4) => s.capture.ins[k].last with
    | some e =>
      let x := s.draw
      let y := x.2.draw
      (some (e.tap / 64, e.level.toNat * 128 + e.tap % 64, x.1 + y.1 * 2 ^ 32), y.2)
    | none => (none, s)
  | _ => (none, s)

/-! Entries (R367-R370, R372). -/

/-- The half tick of the next write slot of recorder r after those queued: fabric cycle c belongs to recorder c mod 9. -/
def Recorder.nextSlot (x : Recorder) (r now : Nat) : Nat :=
  let c := 2 * now
  max (x.slot + 9) (c + (r + 9 - c % 9) % 9)

/-- A value crosses TLEVEL between two entries of the source (R372). -/
def crosses (dirDown : Bool) (level : Int) (p v : Int) : Bool :=
  if dirDown then decide (level < p) && decide (v ≤ level) else decide (p < level) && decide (level ≤ v)

/-- An entry that is not a marker: POST counts it in TRIGGERED. -/
def State.dataEntry (s : State) (r : Fin 8) (tick src tag value : Nat) : State :=
  if s.trcSt r = 3 then s
  else
    let s := if tick / 2 ^ 32 ≠ (s.recorder r).hi then s.putMarker r tick else s
    let trig := s.trcSt r == 2
    let s := s.putEntry r (tick % 2 ^ 32) src tag value
    if trig && s.trcSt r == 2 then
      let left := (s.recorder r).left - 1
      let s := s.setRec r fun x => { x with left := left }
      if left = 0 then s.setTrcSt r 3 else s
    else s

/-- A recorder takes one value of an enabled source: each DIV-th is written, or discarded where 64 entries wait. -/
def State.traceEntry (s : State) (r : Fin 8) (j : Fin 16) (n : Nat) : State :=
  let x := s.recorder r
  let w := x.set.src[j]
  if !srcEn w ∨ (s.trcSt r ≠ 1 ∧ s.trcSt r ≠ 2) then s
  else
    let v := s.srcValue (s.trcOwner r) w n
    match v.1 with
    | none => v.2
    | some (tick, tag, val) =>
      let s := v.2
      if x.cnt[j] + 1 < srcDiv w then s.setRec r fun x => { x with cnt := x.cnt.set j (x.cnt[j] + 1) }
      else
        let s := s.setRec r fun x => { x with cnt := x.cnt.set j 0 }
        let slot := x.nextSlot r s.now
        if 2 * s.now + 9 * 64 < slot then (s.inc (P.trc r) F.TRC_LOST_COUNT).err (P.trc r) E.trc_LOST
        else
          let q := s.rd (P.trc r + R.TRC_TRIG)
          let now := toSigned 32 val
          let hit := q / 2 ^ 24 == 8 && q % 16 == j.val && (match x.prev[j] with
            | some p => crosses (bits q 8 1 == 1) (toSigned 32 (s.rd (P.trc r + R.TRC_TLEVEL))) p now
            | none => false)
          let s := s.setRec r fun x => { x with slot := slot, prev := x.prev.set j (some now) }
          let s := s.when (hit && s.trcSt r == 1) fun s => s.takeTrigger r (match x.due with | some t => min t tick | none => tick)
          s.dataEntry r tick (srcKind w * 16 + j.val) tag val

def execTraceEntry (r : Fin 8) (j : Fin 16) (n : Fin 64) (s : State) : Out := .next (s.traceEntry r j n.val)

/-! Commands of a recorder (R370, R371, R373). -/

/-- The reason ARM is refused: 1 buffer, 2 depth, 5 no source, 3 source, 4 trigger; 0 accepted. -/
def State.armReason (s : State) (r : Nat) : Nat :=
  let p := P.trc r
  let d := s.trcOwner r
  let base := s.fld p F.TRC_BUF_BASE
  let len := s.fld p F.TRC_BUF_LEN
  let rb := s.fld P.trace (F.TRC_RGN_BASE d) * 16
  let rc := s.fld P.trace (F.TRC_RGN_COUNT d) * 16
  let srcs := (List.range 16).map fun j => s.rd (p + R.TRC_SRC j)
  if len = 0 ∨ base < rb ∨ rb + rc < base + len then 1
  else if len * 256 < s.rd (p + R.TRC_PRE) + s.rd (p + R.TRC_POST) + 16 then 2
  else if !srcs.any srcEn then 5
  else if srcs.any fun w => srcEn w && !s.srcMay d w then 3
  else if !s.trigMay r d then 4
  else 0

/-- ARM. -/
def State.trcArm (s : State) (r : Fin 8) : State :=
  let p := P.trc r
  if s.trcSt r = 1 ∨ s.trcSt r = 2 then s
  else
    let why := s.armReason r
    if why ≠ 0 then ((s.setf p F.TRC_STATUS_REASON why).setb p F.TRC_STATUS_REFUSED true).err p E.trc_REFUSED
    else
      let u : TrcSetup := {
        base := s.fld p F.TRC_BUF_BASE * 4096, n := s.fld p F.TRC_BUF_LEN * 256, pre := s.rd (p + R.TRC_PRE), post := s.rd (p + R.TRC_POST)
        src := Vector.ofFn fun (j : Fin 16) => s.rd (p + R.TRC_SRC j) }
      let s := (s.setRec r fun _ => { set := u, slot := 0 }).setTrcSt r 1
      let s := forEach [F.TRC_STATUS_REFUSED, F.TRC_STATUS_LATE, F.TRC_STATUS_INHIB, F.TRC_STATUS_TRUNC] s fun f t => t.setb p f false
      ((s.wr (p + R.TRC_WPTR) 0).wr (p + R.TRC_FIRST) 0).putMarker r s.now

def execTrcArm (r : Fin 8) (s : State) : Out := .next (s.trcArm r)

/-- STOP in ARMED or TRIGGERED: DONE; in ARMED TPTR takes WPTR. -/
def State.trcStop (s : State) (r : Fin 8) : State :=
  if s.trcSt r = 1 then (s.wr (P.trc r + R.TRC_TPTR) (s.wptr r)).setTrcSt r 3
  else if s.trcSt r = 2 then s.setTrcSt r 3
  else s

def execTrcStop (r : Fin 8) (s : State) : Out := .next (s.trcStop r)

/-- FORCE. -/
def execTrcForce (r : Fin 8) (s : State) : Out := .next (s.takeTrigger r s.now)

/-- A delivered trigger takes effect. -/
def execTraceTrigger (r : Fin 8) (s : State) : Out :=
  .next (match (s.recorder r).due with
    | some t => if s.trcSt r = 1 then s.takeTrigger r t else s.setRec r fun x => { x with due := none }
    | none => s)

/-- At TRC_TAT (R373). -/
def State.timeTrigger (s : State) (r : Fin 8) : State :=
  let p := P.trc r
  let t := s.rd64 p R.TRC_TAT_LO
  if s.trcSt r ≠ 1 ∨ s.fld p F.TRC_TRIG_CODE ≠ 2 ∨ (s.recorder r).timed ∨ s.now < t then s
  else
    let s := s.setRec r fun x => { x with timed := true }
    if s.inhibited F.TIME_INH_CFG_TTRIG then (s.setb p F.TRC_STATUS_INHIB true).err p E.trc_INHIB
    else s.takeTrigger r t

def execTraceTimeTrigger (r : Fin 8) (s : State) : Out := .next (s.timeTrigger r)

/-- A write of TRC_TAT_HI: the trigger waits anew; a tick already past is LATE and acts at the next tick. -/
def State.writeTat (s : State) (r : Fin 8) (v : Nat) : State :=
  let s := (s.wr (P.trc r + R.TRC_TAT_HI) v).setRec r fun x => { x with timed := false }
  s.when (decide (s.rd64 (P.trc r) R.TRC_TAT_LO < s.now)) fun s => s.setb (P.trc r) F.TRC_STATUS_LATE true

/-! Trace regions (R366). -/

/-- The recorders of domain `d` that are capturing stop: DONE, TRUNC (Table 16-4). -/
def State.stopRecorders (s : State) (d : Nat) : State :=
  forEach (List.finRange 8) s fun r t =>
    if t.trcOwner r = d ∧ (t.trcSt r = 1 ∨ t.trcSt r = 2) then (t.trcStop r).setb (P.trc r) F.TRC_STATUS_TRUNC true else t

/-- The domain whose region holds unit u; 0 where none does. -/
def State.unitDom (s : State) (u : Nat) : Nat := ((List.range 8).find? fun d => s.inTrcRgn d u).getD 0

/-- A resource is being cleaned. -/
def State.clean (s : State) (r : Res) : State := s.setCleaning (if s.cleaning.contains r then s.cleaning else s.cleaning ++ [r])

/-- A write of TRC_RGN(d): units that change owner are cleared (R387). -/
def State.writeTrcRgn (s : State) (d : Fin 8) (v : Nat) : State :=
  let b := v % 128
  let c := bits v 16 8
  let clash := (List.range 8).any fun e =>
    let eb := s.fld P.trace (F.TRC_RGN_BASE e)
    let ec := s.fld P.trace (F.TRC_RGN_COUNT e)
    e != d.val && decide (0 < c ∧ 0 < ec ∧ b < eb + ec ∧ eb < b + c)
  if s.locked then s.lockedWr
  else if 128 < b + c ∨ clash then s.err P.trace E.trace_RGN_OVL
  else
    let t := (s.wr (P.trace + R.TRC_RGN d) (v &&& 0xFF007F)).stopRecorders d
    forEach ((List.range 128).filter fun u => s.unitDom u != t.unitDom u) t fun u t =>
      (t.clearMem (0x1800000 + 0x10000 * u) 0x10000).clean (.trace u)

def execTrcRgnWrite (d : Fin 8) (v : Word) (s : State) : Out := .next (s.writeTrcRgn d v.toNat)

/-! The common snapshot (R377-R379). -/

/-- Pages resident in Granite with SNAP_EN at 1. -/
def State.snapPages (s : State) : List (PageKind × Nat) :=
  s.regs.filterMap fun e =>
    if e.1 % 0x1000 = R.PAGE_CTRL ∧ bits e.2.toNat 8 1 = 1 then match pageAt e.1 with
      | some (k, _) => if pageOnSlate k then none else some (k, e.1 - R.PAGE_CTRL)
      | none => none
    else none

/-- The mirrors Granite latches. -/
def State.graniteMirrors (s : State) : List (Nat × Nat) :=
  s.snapPages.flatMap fun (k, p) => (snapOffsets k).map fun o => (p + 0x800 + o, s.view (p + o) true)

/-- A line of the bus; a pulse driven on it at tick t: the edge starts LDLY + OFS taps ahead. Not while it is calibrated. -/
def State.bus (s : State) (n : Fin 4) : BusLine := s.capture.bus[n]
def State.setBus (s : State) (n : Fin 4) (f : BusLine → BusLine) : State :=
  s.setCap fun c => { c with bus := c.bus.set n (f c.bus[n]) }
def State.busComp (s : State) (n : Nat) : Int :=
  (s.rd (P.trig + R.TBUS_LDLY n) : Int) + toSigned 16 (s.rd (P.trig + R.TBUS_OFS n))
def State.busPulse (s : State) (n : Fin 4) (src t : Nat) : State :=
  if !s.flag P.trig (F.TBUS_CFG_DRV_EN n) ∨ s.fld P.trig (F.TBUS_CFG_DRV_SRC n) ≠ src ∨ (s.bus n).cal.isSome then s
  else s.setBus n fun b => { b with pulse := some (64 * (t : Int) - s.busComp n, max 2 (s.fld P.trig (F.TBUS_CFG_WIDTH n))) }
def State.busAll (s : State) (src t : Nat) : State := forEach (List.finRange 4) s fun n u => u.busPulse n src t

/-- Slate i is asked to latch T_s and to answer; one whose downstream direction is down does not latch. -/
def State.snapSlate (s : State) (i : Fin 8) : State :=
  if (s.slate i).link.dn.up then
    let m := s.slateMirrors i
    (s.setSlate i fun x => { x with snapStash := m, snapTick := x.tick, snapAns := none }).setLink i fun l => { l with
      regq := l.regq ++ [.regWr 0xF000 (s.now % 2 ^ 32) 0xFFFFFFFF, .regRd l.rdTag 0xF004], rdTag := (l.rdTag + 1) % 256 }
  else (s.setbit P.snap R.SNAP_SLATE i true).err P.snap E.snap_MISS

/-- A snapshot trigger acts in this tick. -/
def State.snapshot (s : State) (cause : Nat) : State :=
  if s.flag P.snap F.SNAP_STATUS_BUSY then (s.inc P.snap ⟨R.SNAP_LOST, 0, 16⟩).err P.snap E.snap_LOST
  else
    let m := s.graniteMirrors
    let fitted := (List.finRange 8).filter fun (i : Fin 8) => s.fitted i
    let seq := (s.fld P.snap F.SNAP_STATUS_SEQ + 1) % 2 ^ 16
    let s := (s.wrAll m).wr (P.snap + R.SNAP_STATUS) (2 ^ 31 + cause * 2 ^ 24 + seq)
    let s := (s.wr64 P.snap R.SNAP_TICK_LO s.now).wr (P.snap + R.SNAP_SLATE) 0
    let s := forEach fitted (s.setCap fun c => { c with snapWait := fitted.map (·.val) }) fun i t => t.snapSlate i
    (s.busAll 0x40 s.now).offerAll s.now (fun c _ => c == 0x40) fun _ => true

def execSnapGo (s : State) : Out := .next (s.snapshot 1)

/-- At SNAP_AT (R373). -/
def State.snapAt (s : State) : State :=
  if !s.capture.snapArmed ∨ !s.flag P.snap F.SNAP_CFG_AT_EN ∨ s.now < s.rd64 P.snap R.SNAP_AT_LO then s
  else
    let s := s.setCap fun c => { c with snapArmed := false }
    if s.inhibited F.TIME_INH_CFG_TTRIG then s.err P.snap E.snap_INHIB else s.snapshot 2

def execSnapAt (s : State) : Out := .next s.snapAt

/-- A Slate's answer to the exchange. -/
def State.snapAnswer (s : State) (i : Fin 8) : State := match (s.slate i).snapAns with
  | none => s
  | some late =>
    let s := (s.setSlate i fun x => { x with snapAns := none }).setCap fun c => { c with snapWait := c.snapWait.erase i.val }
    s.when late fun s => (s.setbit P.snap R.SNAP_SLATE (8 + i) true).err P.snap E.snap_LATE

def execSlateSnapshotAnswer (s : Fin 8) (st : State) : Out := .next (st.snapAnswer s)

/-- BUSY ends when every fitted Slate has answered, or 20 µs after T_s. -/
def State.snapEnd (s : State) : State :=
  if s.flag P.snap F.SNAP_STATUS_BUSY ∧ (s.capture.snapWait.isEmpty ∨ s.rd64 P.snap R.SNAP_TICK_LO + 6250 ≤ s.now) then
    (s.setb P.snap F.SNAP_STATUS_BUSY false).setCap fun c => { c with snapWait := [] }
  else s

def execSnapBusyEnd (s : State) : Out := .next s.snapEnd

/-! TRIG_IN (R374). -/

/-- An overflow field of input or line n. -/
def ovfField (o n : Nat) : Fld := ⟨o, 6 * n, 6⟩

/-- An edge at this tick and tap. -/
def State.trigEdge (s : State) (n : Fin 4) (level : Bool) (tap : Nat) : State :=
  let e := s.fld P.trig (F.TRIG_IN_CFG_EDGE n)
  let x := s.capture.ins[n]
  let t := 64 * s.now + tap
  if !s.flag P.trig (F.TRIG_IN_CFG_EN n) ∨ bits e (if level then 0 else 1) 1 = 0 then s
  else if (x.last.map fun l => decide (t < l.tap + 128)).getD false then s.inc P.trig (ovfField R.TRIG_IN_OVF n)
  else
    let st : Stamp := ⟨t, level, false⟩
    let full := decide (16 ≤ x.q.length)
    let s := s.setCap fun c => { c with ins := c.ins.set n { q := if full then x.q else x.q ++ [st], last := some st } }
    let s := s.when full fun s => (s.inc P.trig (ovfField R.TRIG_IN_OVF n)).err P.trig E.trig_IN_OVF
    let s := (s.offerAll s.now (fun c _ => c == 0x10 + n.val) fun d => s.inGrant n d).busAll (0x10 + n.val) s.now
    s.when (bits (s.fld P.snap F.SNAP_CFG_TRIG_IN) n 1 == 1) fun s => s.snapshot 3

def execTrigInEdge (n : Fin 4) (level : Bool) (tap : Fin 64) (s : State) : Out := .next (s.trigEdge n level tap.val)

def State.trigPop (s : State) (mask : Nat) : State :=
  s.setCap fun c => { c with ins := Vector.ofFn fun n => if bits mask n 1 = 1 then { c.ins[n] with q := c.ins[n].q.drop 1 } else c.ins[n] }

def execTrigInPop (mask : BitVec 4) (s : State) : Out := .next (s.trigPop mask.toNat)

/-! The cabinet bus (R375, R376). -/

/-- A write of TBUS_PULSE. -/
def State.tbusPulse (s : State) (mask : Nat) : State :=
  forEach ((List.finRange 4).filter fun (n : Fin 4) => bits mask n 1 == 1) s fun n t => t.busPulse n 1 t.now

def execTbusPulse (mask : BitVec 4) (s : State) : Out := .next (s.tbusPulse mask.toNat)

/-- At TBUS_AT(n). -/
def State.tbusAt (s : State) (n : Fin 4) : State :=
  let t := s.rd64 P.trig (R.TBUS_AT_LO n)
  if !(s.bus n).armed ∨ s.now < t then s
  else
    let s := s.setBus n fun b => { b with armed := false }
    if s.inhibited F.TIME_INH_CFG_TTRIG then s.err P.trig E.trig_INHIB else s.busPulse n 2 (max t s.now)

def execTbusAt (n : Fin 4) (s : State) : Out := .next (s.tbusAt n)

/-- A rising edge at the land of line n; `own`: of the module's own pulse. -/
def State.tbusEdge (s : State) (n : Fin 4) (own : Bool) (tap : Nat) : State :=
  let raw := 64 * s.now + tap
  let s := s.setBus n fun b => { b with cal := b.cal.map fun c =>
    if own then { c with n := c.n + 1, sum := c.sum + (raw - 64 * (c.start + 256 * c.n)) } else { c with bad := true } }
  if !s.flag P.trig (F.TBUS_CFG_RX_EN n) then s
  else
    let st : Stamp := ⟨((raw : Int) - s.busComp n).toNat, true, own⟩
    let full := decide (16 ≤ (s.bus n).q.length)
    let s := if full then (s.inc P.trig (ovfField R.TBUS_OVF n)).err P.trig E.trig_BUS_OVF
      else s.setBus n fun b => { b with q := b.q ++ [st] }
    let s := s.offerAll (st.tap / 64) (fun c _ => c == 0x18 + n.val) fun d => s.busGrant n d
    s.when (bits (s.fld P.snap F.SNAP_CFG_TBUS) n 1 == 1) fun s => s.snapshot 4

def execTbusEdge (n : Fin 4) (own : Bool) (tap : Fin 64) (s : State) : Out := .next (s.tbusEdge n own tap.val)

def State.tbusPop (s : State) (mask : Nat) : State :=
  s.setCap fun c => { c with bus := Vector.ofFn fun n => if bits mask n 1 = 1 then { c.bus[n] with q := c.bus[n].q.drop 1 } else c.bus[n] }

def execTbusPop (mask : BitVec 4) (s : State) : Out := .next (s.tbusPop mask.toNat)

/-- A write of TBUS_CAL.GO: 64 pulses from this tick. -/
def State.tbusCal (s : State) (mask : Nat) : State :=
  forEach ((List.finRange 4).filter fun (n : Fin 4) => bits mask n 1 == 1 && (s.bus n).cal.isNone) s fun n t =>
    (t.setBus n fun b => { b with cal := some { start := t.now } }).setbit P.trig R.TBUS_CAL (8 + n) false

def execTbusCal (mask : BitVec 4) (s : State) : Out := .next (s.tbusCal mask.toNat)

/-- The measurement ends 64 × 256 ticks after its start. -/
def State.tbusCalDone (s : State) (n : Fin 4) : State := match (s.bus n).cal with
  | none => s
  | some c =>
    if s.now < c.start + 16384 then s
    else
      let s := s.setBus n fun b => { b with cal := none }
      if c.bad ∨ c.n ≠ 64 then (s.setbit P.trig R.TBUS_CAL (8 + n) true).err P.trig E.trig_CAL_FAIL
      else s.wr (P.trig + R.TBUS_LDLY n) (c.sum / 128 % 2 ^ 16)

def execTbusCalDone (n : Fin 4) (s : State) : Out := .next (s.tbusCalDone n)

end Sys2Proof.Machine
end

