-- ==== Sys2Proof/Machine/Fault.lean ====
section
/-! DEFINITION. The fault collector: rises, reactions, log, partner reports (R352-R365). -/
namespace Sys2Proof.Machine
open Sys2Proof


/-! Reactions (R357). -/

/-- An axis stops under R229 with STOP_WHY 2, where its generator computes. -/
def State.faultStop (s : State) (a : Fin 64) : State :=
  if s.prfOn a then s.setPrf a fun x => { x with stopAsk := some 2 } else s

/-- Ramp-stop of axis group g. -/
def State.stopGroup (s : State) (g : Nat) : State :=
  let m := s.rd (P.fault + R.FAULT_GRP_LO g) + s.rd (P.fault + R.FAULT_GRP_HI g) * 2 ^ 32
  forEach ((List.finRange 64).filter fun (a : Fin 64) => bits m a 1 == 1) s fun a t => t.faultStop a

/-- Halt of domain d. -/
def State.haltDomain (s : State) (d : Nat) : State :=
  let s := forEach ((List.finRange 512).filter fun (e : Fin 512) => s.engDom e == some d) s fun e t => t.engHalt e
  let s := forEach ((List.finRange 64).filter fun (a : Fin 64) => s.axisDom a == d) s fun a t => t.faultStop a
  (s.setb (P.netq d) F.NQ_CTRL_TX_EN false).setbit P.fault R.FAULT_DOM_HALT d true

/-- Device safe stop: SAFE_CMD toward every fitted Slate until its own release. -/
def State.safeStop (s : State) : State :=
  forEach ((List.finRange 8).filter fun (i : Fin 8) => s.fitted i) (s.setb P.fault F.FAULT_STATUS_DSS true) fun i t => t.setSafeCmd i

/-- The action that FAULT_REACT(i) assigns to a class; codes above 4 act as 4. -/
def State.reaction (s : State) (i cls : Nat) : Nat :=
  min 4 (s.fld P.fault (if cls = 3 then F.FAULT_REACT_FATAL_ACT i else if cls = 2 then F.FAULT_REACT_CONT_ACT i else F.FAULT_REACT_CORR_ACT i))

/-- The action takes place; `d` owns the page of the log record. -/
def State.react (s : State) (i act d : Nat) : State :=
  if act = 2 then s.haltDomain d
  else if act = 3 then s.stopGroup (s.fld P.fault (F.FAULT_REACT_GROUP i))
  else if act = 4 then s.safeStop
  else s

/-- The fault interrupt (R359). -/
def State.faultVec (s : State) : State :=
  if s.flag P.fault F.FAULT_IRQ_EN then s.raiseVec (s.fld P.fault F.FAULT_IRQ_VEC) 0 else s

/-! Rises (R355, R358). -/

/-- The page named in the log record: of those whose line carries the class, the one at the lowest address. -/
def State.risePage (s : State) (i cls : Nat) : PageKind × Nat :=
  let l := (s.srcPages i).filter fun p => s.pageClass p.1 p.2 == cls
  l.foldl (fun b p => if pageBase p.1 p.2 < pageBase b.1 b.2 then p else b) (l.headD (.sys, 0))

/-- A record enters the log, or is lost. -/
def State.putLog (s : State) (w : Vector Word 4) : State :=
  if 64 ≤ s.fault.log.length then (s.inc P.fault ⟨R.FAULT_LOG_LOST, 0, 16⟩).err P.fault E.fault_LOG_LOST
  else s.setFault fun f => { f with log := f.log ++ [w] }

/-- The line class of source i has risen above its recorded class. -/
def State.faultRise (s : State) (i : Nat) : State :=
  let cls := s.lineClass i
  if cls ≤ s.recClass i then s
  else
    let pg := s.risePage i cls
    let d := s.pageOwner pg.1 pg.2
    let act := s.reaction i cls
    let word (n : Nat) : Word := BitVec.ofNat 32 n
    let rec_ : Vector Word 4 := #v[word (i * 2 ^ 24 + cls * 2 ^ 22 + act * 2 ^ 19 + d * 2 ^ 16), word (pageBase pg.1 pg.2),
      word (s.errSeen pg.1 pg.2), word s.now]
    let empty := s.fault.log.isEmpty
    let s := s.setf P.fault ⟨R.FAULT_CLASS (i / 16), 2 * (i % 16), 2⟩ cls
    let s := s.setbit P.fault (R.FAULT_SOURCE_LO + 4 * (i / 32)) (i % 32) true
    let s := ((s.putLog rec_).react i act d).when (act != 0 || empty) fun s => s.faultVec
    let s := s.offerAll s.now (fun c q => c == 0x28 && q % 64 == i) fun _ => false
    s.when (s.rbit P.fault (R.FAULT_SNAP_LO + 4 * (i / 32)) (i % 32) && s.flag P.snap F.SNAP_CFG_FAULT_EN) fun s => s.snapshot 5

def execFaultRise (i : Fin 40) (s : State) : Out := .next (s.faultRise i.val)

/-- A write of 1 to FAULT_SOURCE bits: cleared where the line is not asserted (R356). -/
def State.clearSources (s : State) (hi : Bool) (v : Nat) : State :=
  forEach (List.range 32) s fun b t =>
    let i := b + 32 * hi.toNat
    if bits v b 1 = 1 ∧ i < 40 ∧ t.lineClass i = 0 then
      (t.setbit P.fault (R.FAULT_SOURCE_LO + 4 * (i / 32)) b false).setf P.fault ⟨R.FAULT_CLASS (i / 16), 2 * (i % 16), 2⟩ 0
    else t

def execFaultSourceClear (hi : Bool) (v : Word) (s : State) : Out := .next (s.clearSources hi v.toNat)

/-- DSS_CLR. -/
def execDssClr (s : State) : Out := .next (s.setb P.fault F.FAULT_STATUS_DSS false)

/-- A write of 1 to FAULT_DOM_HALT bits releases the domains. -/
def State.releaseDomains (s : State) (v : Nat) : State :=
  s.wr (P.fault + R.FAULT_DOM_HALT) (without (s.rd (P.fault + R.FAULT_DOM_HALT)) v)

def execDomHaltRelease (mask : BitVec 8) (s : State) : Out := .next (s.releaseDomains mask.toNat)

/-- FAULT_LOG_POP; a log left non-empty raises the interrupt again. -/
def State.popLog (s : State) : State :=
  let s := s.setFault fun f => { f with log := f.log.drop 1 }
  s.when (!s.fault.log.isEmpty) fun s => s.faultVec

def execFaultLogPop (s : State) : Out := .next s.popLog

/-! Partner reports (R361, R362). -/

/-- A report or record is discarded: the count of its kind, and PR_DROP. -/
def State.dropPartner (s : State) (f : Fld) : State := (s.inc P.fault f).err P.fault E.fault_PR_DROP

/-- A closed record enters the partner queue and sets the error of its class. -/
def State.queuePartner (s : State) (r : Partner) : State :=
  if 64 ≤ s.fault.prq.length then s.dropPartner F.FAULT_PR_DROP_FULL
  else (s.setFault fun f => { f with prq := f.prq ++ [r] }).err P.fault (r.cls - 1)

/-- Open records whose 312,500 ticks are over close. -/
def State.closePartners (s : State) : State :=
  let due (r : Partner) : Bool := decide (r.first + 312500 ≤ s.now)
  forEach (s.fault.opn.filter due) (s.setFault fun f => { f with opn := f.opn.filter fun r => !due r }) fun r t => t.queuePartner r

def execPartnerRecordClose (s : State) : Out := .next s.closePartners

/-- A write of FAULT_PR_IN. -/
def State.partnerReport (s : State) (v : Nat) : State :=
  let kind := bits v 24 8
  let cls := bits v 22 2
  let s := s.closePartners
  let subj := s.rd (P.fault + R.FAULT_PR_SUBJ_LO) + s.rd (P.fault + R.FAULT_PR_SUBJ_HI) * 2 ^ 32
  let hit (r : Partner) : Bool := r.subj == subj && r.kind == kind
  let ms := s.now / 312500
  let n := if s.fault.ms.1 = ms then s.fault.ms.2 else 0
  if kind = 0 ∨ cls = 0 then s.dropPartner F.FAULT_PR_DROP_BAD
  else if s.fault.opn.any hit then
    s.setFault fun f => { f with
      opn := f.opn.map fun r => if hit r then { r with count := min 65535 (r.count + 1), cls := max r.cls cls } else r }
  else if 64 ≤ n ∨ 128 ≤ s.fault.opn.length then s.dropPartner F.FAULT_PR_DROP_RATE
  else s.setFault fun f => { f with opn := f.opn ++ [⟨subj, kind, cls, 1, s.now⟩], ms := (ms, n + 1) }

def execPartnerReport (v : Word) (s : State) : Out := .next (s.partnerReport v.toNat)

def execFaultPrPop (s : State) : Out := .next (s.setFault fun f => { f with prq := f.prq.drop 1 })

end Sys2Proof.Machine
end

