-- ==== Sys2Proof/Machine/Domain.lean ====
section
/-! DEFINITION. Assignments and cleaning, the lock, slots and budgets (R386-R392). -/
namespace Sys2Proof.Machine
open Sys2Proof

/-! Cleaning (R387). -/

/-- A write of a Slate-resident register by the domain hardware itself. -/
def State.forceSlate (s : State) (k : PageKind) (n a v : Nat) : State := s.slateRegWrite k n a v 0xFFFFFFFF

def State.cleanAxis (s : State) (a : Fin 64) : State :=
  let c := P.pwm a + R.PWM_CTRL
  let s := ((s.setRun a false).forceSlate .pwm a c (s.sh c / 2 * 2)).prfGate a
  let s := s.writeLaneCtrl a (s.rd (P.lane a + R.LANE_CTRL) / 2 * 2)
  (s.setLoop a fun l => { l with ext := Vector.replicate 2 0 }).clean (.axis a)

/-- The pending transitions of channels mapped to point j of Slate i are discarded, and FIO_CFG returns to its reset value. -/
def State.cleanPoint (s : State) (i : Fin 8) (j : Fin 16) : State :=
  if bits (s.slate i).claim j 1 = 1 then s
  else
    let mine (c : Fin 16) : Bool :=
      let m := s.rd (P.fsch i + R.FSCH_MAP c)
      bits m 4 1 == 1 && m % 16 == j.val
    let s := forEach ((List.finRange 16).filter mine) s fun c t => (t.fschCancel i c).setPt i c fun x => { x with pend := [] }
    (s.forceSlate .fio i (P.fio i + R.FIO_CFG j) 0).clean (.point (16 * i + j))

def State.cleanEngine (s : State) (e : Fin 512) : State :=
  if (s.eng e).st = .safety then s
  else
    let s := (s.engReset e).clearMem (0x2000000 + 0x10000 * e) 0xC000
    (s.setEng e fun x => { x with calls := [], mails := [], hmails := [], shw := [], fbw := [] }).clean (.engine e)

def State.cleanShm (s : State) (b : Nat) : State :=
  (s.clearMem (0xC00000 + 0x40000 * (b / 16) + 0x4000 * (b % 16)) 0x4000).clean (.shm b)

/-- A pending raise is dropped. -/
def State.cleanVec (s : State) (v : Nat) : State := s.setbit P.host (R.HOST_MSIX_PBA_LO + 4 * (v / 32)) (v % 32) false

/-- Cleaning of the resource that has waited longest completes. -/
def execCleaningDone (s : State) : Out := .next (s.setCleaning (s.cleaning.drop 1))

/-! Assignment registers (Table 17-2). -/

/-- Pages whose PAGE_OWNER is assigned (R386). -/
def ownable (k : PageKind) : Bool := k == .engine || k == .trc || k == .tooth || k == .trunk || k == .handover

/-- The nibbles of a word that differ in their domain. -/
def changed (x y : Nat) : List Nat := (List.range 8).filter fun j => bits x (4 * j) 3 != bits y (4 * j) 3

/-- Registers of the DOM page that assign resources, slots or budgets. -/
def domAssign (o : Nat) : Bool := decide (0x028 ≤ o ∧ o < 0x0C0)

/-- Bit 3 of a nibble is reserved; nibbles of absent axes and points read 0 (R5, R403). -/
def State.domMask (s : State) (o : Nat) : Nat :=
  if s.dev.bv3204 ∧ ((0x040 ≤ o ∧ o < 0x050) ∨ (0x070 ≤ o ∧ o < 0x090)) then 0
  else if 0x030 ≤ o ∧ o < 0x0B0 then 0x77777777 else 0xFFFFFFFF

/-- The eight budgets of DOM_INS sum to at most 125 (R392). -/
def insSum (lo hi : Nat) : Nat := (List.range 4).foldl (fun m j => m + bits lo (8 * j) 8 + bits hi (8 * j) 8) 0

/-- A write of an assigning register of the DOM page. -/
def State.writeDom (s : State) (o v : Nat) : State :=
  let a := P.dom + o
  let old := s.rd a
  let t := s.plainWrite .dom P.dom o (v &&& s.domMask o) true
  let new := t.rd a
  if 0x030 ≤ o ∧ o < 0x050 then
    forEach (changed old new) t fun j u => (axis? (8 * ((o - 0x030) / 4) + j)).elim u fun x => u.cleanAxis x
  else if 0x050 ≤ o ∧ o < 0x090 then
    forEach (changed old new) t fun j u =>
      let n := 8 * ((o - 0x050) / 4) + j
      (slate? (n / 16)).elim u fun i => (fin? 16 (n % 16)).elim u fun k => u.cleanPoint i k
  else if 0x090 ≤ o ∧ o < 0x0B0 then forEach (changed old new) t fun j u => u.cleanVec (8 * ((o - 0x090) / 4) + j)
  else if o = R.DOM_FAB_SLOT_LO ∨ o = R.DOM_FAB_SLOT_HI then (if t.hasSlot 0 then t else s.lockedWr)
  else if o = R.DOM_INS_LO ∨ o = R.DOM_INS_HI then
    (if 125 < insSum (t.rd (P.dom + R.DOM_INS_LO)) (t.rd (P.dom + R.DOM_INS_HI)) then s.err P.dom E.dom_SUM_REJ else t)
  else t

/-- A write of PAGE_OWNER. -/
def State.writeOwner (s : State) (k : PageKind) (n v : Nat) : State :=
  let p := pageBase k n
  if s.ownerReg p = v % 8 then s
  else
    let t := s.setf p F.PAGE_OWNER_DOMAIN v
    match k with
    | .engine => (fin? 512 n).elim s fun e => if (s.eng e).st = .safety then s else t.cleanEngine e
    | .trc => (fin? 8 n).elim s fun r => t.trcStop r
    | _ => t

/-- A write of GROVE_SHM_OWN. -/
def State.writeShmOwn (s : State) (g o v : Nat) : State :=
  let t := s.wr (P.grove g + o) v
  forEach ((List.range 16).filter fun j => s.shmDom (16 * g + j) != t.shmDom (16 * g + j)) t fun j u => u.cleanShm (16 * g + j)

/-- A write of a register that assigns resources, by domain 0 while the lock is clear; none for any other register. -/
def State.assign (s : State) (k : PageKind) (n o v : Nat) : Option State :=
  if k = .dom ∧ domAssign o then some (s.writeDom o v)
  else if ownable k ∧ o = R.PAGE_OWNER then some (s.writeOwner k n v)
  else if k = .grove ∧ (o = R.GROVE_SHM_OWN_LO ∨ o = R.GROVE_SHM_OWN_HI) then some (s.writeShmOwn n o v)
  else if k = .track ∧ 0x030 ≤ o ∧ o < 0x050 then (fin? 8 ((o - 0x030) / 4)).map fun d => s.writeTrackRgn d v
  else if k = .trace ∧ 0x020 ≤ o ∧ o < 0x040 then (fin? 8 ((o - 0x020) / 4)).map fun d => s.writeTrcRgn d v
  else none

/-- A write of domain 0 that changes an assignment; after DOM_LOCK it is ignored with LOCKED_WR. -/
def execAssignmentWrite (addr : BitVec 26) (v : Word) (s : State) : Out :=
  .next (match pageAt addr.toNat with
    | some (k, n) => match s.assign k n (addr.toNat % 0x1000) v.toNat with
      | some t => if s.locked then s.lockedWr else t
      | none => s
    | none => s)

/-- DOM_LOCK.LOCK (R390). -/
def execDomLock (s : State) : Out := .next (s.setb P.dom F.DOM_LOCK_LOCK true)

end Sys2Proof.Machine
end

