-- ==== Sys2Proof/Machine/Amber.lean ====
section
/-! DEFINITION. Amber, images and the Amber commands (R395-R402). -/
namespace Sys2Proof.Machine
open Sys2Proof

def State.setBoot (s : State) (f : AmberState → AmberState) : State := { s with boot := f s.boot }

/-! The boot record (R395). -/

/-- The record in force: the valid copy with the higher SEQ; with none valid, slot A and no trial (R398). -/
def AmberState.record (b : AmberState) : BootRec :=
  let x := b.recs[0]
  let y := b.recs[1]
  if x.valid && (!y.valid || decide (y.seq ≤ x.seq)) then x else if y.valid then y else { host := x.host }

/-- A record is written to the copy with the lower SEQ, a copy that is not valid counting as the lowest. -/
def AmberState.writeRecord (b : AmberState) (r : BootRec) : AmberState :=
  let x := b.recs[0]
  let y := b.recs[1]
  let n := { r with valid := true, seq := b.record.seq + 1 }
  if !x.valid || (y.valid && decide (x.seq ≤ y.seq)) then { b with recs := #v[n, y] } else { b with recs := #v[x, n] }

/-- Offset of a slot; its size of 11 MiB. -/
def slotBase (slot : Bool) : Nat := if slot then 0xB10000 else 0x10000
abbrev slotSize : Nat := 0xB00000
abbrev amberSize : Nat := 0x2000000

/-- The slot the device runs from; before any boot, the record's. -/
def AmberState.active (b : AmberState) : Bool := b.booted.getD b.record.active

/-! Images (R396, R397). -/

/-- A block of the header. -/
structure Block where
  type : Nat := 0
  dom : Nat := 0
  off : Nat := 0
  len : Nat := 0
  deriving DecidableEq, Repr

def State.hdr (s : State) (slot : Bool) (o n : Nat) : Nat := s.aload (slotBase slot + o) n
def State.blockCount (s : State) (slot : Bool) : Nat := s.hdr slot 20 4
def State.block (s : State) (slot : Bool) (i : Nat) : Block :=
  let o := 64 + 64 * i
  ⟨s.hdr slot o 1, s.hdr slot (o + 1) 1, s.hdr slot (o + 4) 4, s.hdr slot (o + 8) 4⟩
/-- The blocks in order with their numbers. -/
def State.blocks (s : State) (slot : Bool) : List (Nat × Block) := (List.range (min 32 (s.blockCount slot))).map fun i => (i, s.block slot i)

/-- Bytes of a block. -/
def State.blockBytes (s : State) (slot : Bool) (b : Block) : List Byte :=
  (List.range b.len).map fun j => s.abyte (slotBase slot + b.off + j)

/-- SAFETY_CFG enables safety: bit 0 of its byte 1. -/
def State.cfgEnables (s : State) (slot : Bool) : Bool :=
  (s.blocks slot).any fun (_, b) => b.type == 3 && s.aload (slotBase slot + b.off + 1) 1 % 2 == 1

/-- Every block lies inside the image, and the types meet Table 17-6. -/
def State.blocksOk (s : State) (slot : Bool) : Bool :=
  let n := s.blockCount slot
  let len := s.hdr slot 12 4
  let l := s.blocks slot
  let count (t : Nat) : Nat := l.countP fun e => e.2.type == t
  decide (1 ≤ n ∧ n ≤ 32 ∧ len ≤ slotSize) && l.all (fun e => decide (1 ≤ e.2.type ∧ e.2.type ≤ 6 ∧ e.2.off + e.2.len ≤ len)) &&
    count 1 == 1 && decide (count 2 ≤ 1 ∧ count 3 ≤ 1 ∧ count 4 ≤ 1 ∧ count 5 ≤ 16 ∧ count 6 ≤ 8) &&
    (!s.cfgEnables slot || count 4 == 1)

/-- RESULT of a header check in the order of R397: 0 valid, 5 FORMAT, 3 KEY, 4 FLOOR, 1 SIGNATURE. `x`: what the hash and signature
units found. -/
def State.headerCode (s : State) (slot : Bool) (x : ImageCheck) : Nat :=
  let k := s.hdr slot 6 2
  let svn := s.hdr slot 8 4
  if s.hdr slot 0 4 ≠ 0x4D495642 ∨ s.hdr slot 4 2 ≠ 1 ∨ 63 < svn then 5
  else if 3 < k ∨ bits s.boot.keys k 1 = 0 ∨ bits s.boot.revoked k 1 = 1 ∨ !x.key then 3
  else if svn < s.boot.floor then 4
  else if !x.sig then 1
  else if !s.blocksOk slot then 5
  else 0

/-- RESULT of VERIFY: the header, then every block. -/
def State.verifyCode (s : State) (slot : Bool) (x : ImageCheck) : Nat :=
  let c := s.headerCode slot x
  if c ≠ 0 then c else if (s.blocks slot).all fun e => x.hash.getLsbD e.1 then 0 else 2

/-- AMBER_STATUS [17:16], SVN of the last good verification. -/
def State.setValid (s : State) (slot ok : Bool) : State := s.setbit P.amber R.AMBER_STATUS (16 + slot.toNat) ok

/-- Whether a slot's last VERIFY gave OK. -/
def State.unverify (s : State) (slot ok : Bool) : State :=
  (s.setBoot fun b => { b with verified := b.verified.set slot.toNat ok (by cases slot <;> decide) }).setValid slot ok

/-! Commands (R400). -/

/-- A command ends with a result. -/
def State.amberResult (s : State) (code : Nat) : State :=
  (((s.setBoot fun b => { b with job := none }).setb P.amber F.AMBER_CMD_GO false).setf P.amber F.AMBER_STATUS_RESULT code).errIf
    (code != 0) P.amber E.amber_CMD_FAIL

/-- Length and place of a copy are legal: 64 B to 256 KiB in multiples of 64 B, inside Amber. -/
def State.copyRange (s : State) : Bool :=
  let n := s.fld P.amber ⟨R.AMBER_LEN, 0, 19⟩
  decide (64 ≤ n ∧ n ≤ 262144 ∧ n % 64 = 0 ∧ s.rd (P.amber + R.AMBER_DST) + n ≤ amberSize)

/-- The copy's host or BAR0 address, and its length. -/
def State.copySrc (s : State) : Nat := s.rd (P.amber + R.AMBER_SRC_LO) + s.rd (P.amber + R.AMBER_SRC_HI) % 2 ^ 31 * 2 ^ 32
def State.copyLen (s : State) : Nat := s.fld P.amber ⟨R.AMBER_LEN, 0, 19⟩

/-- A 64-byte piece of a BAR0 memory region belongs to domain 0. -/
def State.zeroOwns (s : State) (a : Nat) : Bool := match regionAt a with
  | .desc _ => true
  | .shm g => s.shmDom (16 * g + (a - 0xC00000) % 0x40000 / 0x4000) == 0
  | .table_ => (List.range 7).all fun d => !s.inTrackRgn (d + 1) ((a - 0x1000000) / 32)
  | .trace_ => s.unitDom ((a - 0x1800000) / 0x10000) == 0
  | .engMem e => !s.engSafety e && s.ownerReg (P.engine e) == 0
  | _ => false

/-- The whole range of a copy may be read or written as the command does. -/
def State.srcOk (s : State) (write : Bool) : Bool :=
  if s.flag P.amber F.AMBER_SRC_HI_HOST then s.dmaOk 0 s.copySrc s.copyLen
  else (List.range (s.copyLen / 64)).all fun i =>
    let a := s.copySrc + 64 * i
    let ro := match regionAt a with | .table_ | .trace_ => true | _ => false
    s.zeroOwns a && !(write && ro) && s.zeroOwns (a + 63)

/-- A range of Amber touches a slot. -/
def touches (a n : Nat) (slot : Bool) : Bool := decide (a < slotBase slot + slotSize ∧ slotBase slot < a + n)

/-- A trial is running. -/
def State.inTrial (s : State) : Bool := s.flag P.amber F.AMBER_STATUS_TRIAL

/-- Why a command is refused at once: 0 accepted (Table 17-7). -/
def State.amberRefusal (s : State) (v : Nat) : Nat :=
  let slot := bits v 8 1 == 1
  let key := bits v 4 2
  let b := s.boot
  let dst := s.rd (P.amber + R.AMBER_DST)
  match bits v 24 4 with
  | 1 =>
    if !s.copyRange ∨ !s.srcOk false then 7
    else if dst < 0x10000 ∨ touches dst s.copyLen b.active ∨ (s.inTrial ∧ touches dst s.copyLen b.record.prev) then 6
    else 0
  | 2 => if !s.copyRange ∨ !s.srcOk true then 7 else 0
  | 4 =>
    if slot = b.active ∨ !(b.verified.toList.getD slot.toNat false) then 8
    else if s.hdr slot 8 4 < b.floor then 4
    else 0
  | 5 => if s.inTrial then 0 else 8
  | 6 => if s.inTrial then 8 else 0
  | 7 => if s.locked ∨ key = 0 ∨ bits b.keys key 1 = 1 then 8 else 0
  | 8 => if key = s.hdr b.active 6 2 then 8 else 0
  | 9 => if b.wait then 0 else 8
  | _ => 0

/-- A write of AMBER_CMD. An OP outside the table starts nothing. -/
def State.amberCmd (s : State) (v : Nat) : State :=
  if s.boot.job.isSome then s
  else
    let s := s.wr (P.amber + R.AMBER_CMD) (v &&& 0x8F000330)
    let op := bits v 24 4
    if bits v 31 1 = 0 ∨ op = 0 ∨ 9 < op then s.setb P.amber F.AMBER_CMD_GO false
    else
      let host := decide (op ≤ 2) && s.flag P.amber F.AMBER_SRC_HI_HOST
      let code := s.amberRefusal v
      if code ≠ 0 then
        ((if code = 7 ∧ host then s.dmaErr E.host_DMA_WIN 0 s.copySrc (Req.boot) (op == 2) else s).amberResult code)
      else
        let s := s.setBoot fun b => { b with job := some v }
        if op = 1 then
          let t := s.rd (P.amber + R.AMBER_DST)
          forEach [false, true] s fun slot u => if touches t u.copyLen slot then u.unverify slot false else u
        else s

/-- The AMBER_CMD word of an operation. -/
def amberWord (op : Nat) (slot trial : Bool) (key : Nat) : Nat := 2 ^ 31 + op * 2 ^ 24 + trial.toNat * 512 + slot.toNat * 256 + key * 16

def execCopyIn (s : State) : Out := .next (s.amberCmd (amberWord 1 false false 0))
def execCopyOut (s : State) : Out := .next (s.amberCmd (amberWord 2 false false 0))
def execVerify (slot : Bool) (s : State) : Out := .next (s.amberCmd (amberWord 3 slot false 0))
def execSwitch (slot trial : Bool) (s : State) : Out := .next (s.amberCmd (amberWord 4 slot trial 0))
def execConfirm (s : State) : Out := .next (s.amberCmd (amberWord 5 false false 0))
def execRaiseFloor (s : State) : Out := .next (s.amberCmd (amberWord 6 false false 0))
def execFuseKey (key : Fin 4) (s : State) : Out := .next (s.amberCmd (amberWord 7 false false key.val))
def execRevoke (key : Fin 4) (s : State) : Out := .next (s.amberCmd (amberWord 8 false false key.val))
def execBoot (slot : Bool) (s : State) : Out := .next (s.amberCmd (amberWord 9 slot false 0))

/-! Ends of commands. -/

/-- Bytes into Amber. -/
def State.astoreBytes (s : State) (a : Nat) : List Byte → State
  | [] => s
  | b :: l => (s.setAbyte a b).astoreBytes (a + 1) l

/-- `n` bytes of Amber that the spec leaves open, from a. -/
def State.drawAmber (s : State) (a : Nat) : Nat → State
  | 0 => s
  | n + 1 => let x := s.draw
             (x.2.setAbyte a (BitVec.ofNat 8 x.1)).drawAmber (a + 1) n

/-- A byte of Amber as COPY_OUT reads it; the layout of the boot record is not given: free values there (log 7). -/
def State.amberOut (s : State) (a : Nat) : Nat → List Byte × State
  | 0 => ([], s)
  | n + 1 =>
    let x := if a < 0x10000 then s.draw else ((s.abyte a).toNat, s)
    let r := x.2.amberOut (a + 1) n
    (BitVec.ofNat 8 x.1 :: r.1, r.2)

/-- Bytes into BAR0 memory. -/
def State.storeBytes (s : State) (a : Nat) : List Byte → State
  | [] => s
  | b :: l => (s.setByte a b).storeBytes (a + 1) l

/-- SWITCH writes the boot record; to PREV during a trial, it ends the trial. The slot's mark of
a bad image is cleared, since its VERIFY gave OK (log 44). -/
def State.doSwitch (s : State) (slot trial : Bool) : State :=
  let r := s.boot.record
  let back := s.inTrial && slot == r.prev
  let tmo := min 3600 (max 10 (s.fld P.amber F.AMBER_TRIAL_TRIAL_TMO))
  let s := s.setBoot fun b => { (b.writeRecord { r with
      active := slot, prev := b.active, trial := trial, tries := 0, tmo := tmo, bad := r.bad - bits r.bad slot.toNat 1 * 2 ^ slot.toNat }) with
    trialEnd := if back then none else b.trialEnd }
  s.when back fun s => s.setb P.amber F.AMBER_STATUS_TRIAL false

/-- CONFIRM ends the trial. -/
def State.doConfirm (s : State) : State :=
  (s.setBoot fun b => { (b.writeRecord { b.record with trial := false }) with trialEnd := none }).setb P.amber F.AMBER_STATUS_TRIAL false

/-- AMBER_KEY_HASH as one number, bytes in ascending order. -/
def State.keyHash (s : State) : Nat := (List.range 12).foldl (fun h i => h + s.rd (P.amber + R.AMBER_KEY_HASH i) * 2 ^ (32 * i)) 0

/-- COPY_IN. `src`: what a read of host memory brought. -/
def State.copyIn (s : State) (src : HostData) : State :=
  let n := s.copyLen
  let dst := s.rd (P.amber + R.AMBER_DST)
  if s.flag P.amber F.AMBER_SRC_HI_HOST then match src with
    | some l => (s.astoreBytes dst (l.take n)).amberResult 0
    | none => (s.dmaErr E.host_DMA_TMO 0 s.copySrc Req.boot false).amberResult 7
  else ((s.eccScan s.copySrc n).astoreBytes dst (bytesOf n (s.extLoad s.copySrc n))).amberResult 0

/-- COPY_OUT. -/
def State.copyOut (s : State) : State :=
  let r := s.amberOut (s.rd (P.amber + R.AMBER_DST)) s.copyLen
  (if s.flag P.amber F.AMBER_SRC_HI_HOST then r.2.hostWrite s.copySrc r.1 else r.2.storeBytes s.copySrc r.1).amberResult 0

/-- VERIFY of a slot. -/
def State.doVerify (s : State) (slot : Bool) (x : ImageCheck) : State :=
  let code := s.verifyCode slot x
  let ok := code == 0
  ((s.unverify slot ok).when ok fun t => t.wr (P.amber + R.AMBER_SVN_A + 4 * slot.toNat) (s.hdr slot 8 4)).amberResult code

/-- Fuses, which are never restored: FLOOR rises to the active image's SVN; key slot `k` takes AMBER_KEY_HASH; key slot `k` is revoked. -/
def State.blowFloor (s : State) : State := s.setBoot fun b => { b with floor := max b.floor (min 63 (s.hdr b.active 8 4)) }
def State.fuseKey (s : State) (k : Nat) : State :=
  s.setBoot fun b => { b with keys := b.keys ||| 2 ^ k, hashes := Vector.ofFn fun i => if i.val = k then s.keyHash else b.hashes[i] }
def State.revokeKey (s : State) (k : Nat) : State := s.setBoot fun b => { b with revoked := b.revoked ||| 2 ^ k }
def State.bootSlot (s : State) (slot : Bool) : State := s.setBoot fun b => { b with want := some slot }

/-- The effect of an accepted command, and its result. -/
def State.amberDo (s : State) (v : Nat) (x : ImageCheck) (src : HostData) : State :=
  let slot := bits v 8 1 == 1
  let key := bits v 4 2
  match bits v 24 4 with
  | 1 => s.copyIn src
  | 2 => s.copyOut
  | 3 => s.doVerify slot x
  | 4 => (s.doSwitch slot (bits v 9 1 == 1)).amberResult 0
  | 5 => s.doConfirm.amberResult 0
  | 6 => s.blowFloor.amberResult 0
  | 7 => (s.fuseKey key).amberResult 0
  | 8 => (s.revokeKey key).amberResult 0
  | _ => (s.bootSlot slot).amberResult 0

def execAmberCmdComplete (x : ImageCheck) (src : HostData) (s : State) : Out :=
  .next (match s.boot.job with
    | some v => s.amberDo v x src
    | none => s)

/-- A command is aborted (R402, R435): what a COPY_IN left in its range is open, and its slot is unverified. -/
def State.abortAmber (s : State) : State := match s.boot.job with
  | none => s
  | some v =>
    let op := bits v 24 4
    let slot := bits v 8 1 == 1
    let s := if op = 1 then s.drawAmber (s.rd (P.amber + R.AMBER_DST)) s.copyLen
      else if op = 3 then s.unverify slot false
      else s
    s.amberResult 9

/-- The scrub has read a word (R32): corrected, or uncorrectable at word offset `a`. -/
def State.amberScrub (s : State) (a : Nat) (ue : Bool) : State :=
  if ue then (s.wr (P.amber + R.AMBER_UE_ADDR) (2 ^ 31 + a / 8 * 8)).err P.amber E.amber_UE
  else (s.inc P.amber F.AMBER_CE_COUNT).err P.amber E.amber_CE

/-- AMBER_SCRUB: `found` none, the word needed no correction; else whether it was uncorrectable. -/
def execAmberScrub (addr : BitVec 25) (found : Option Bool) (s : State) : Out :=
  .next (match found with
    | none => s
    | some ue => s.amberScrub addr.toNat ue)

end Sys2Proof.Machine
end

