-- ==== Sys2Proof/Machine/Power.lean ====
section
/-! DEFINITION. Resets, clocks' locks, the system watchdog, sag and hold-up save (R36, R52, R399, R405-R420, R423). -/
namespace Sys2Proof.Machine
open Sys2Proof

def State.setPower (s : State) (f : PowerState → PowerState) : State := { s with power := f s.power }

/-! Resets (R409, R410). -/

/-- Bits of SYS_RST_CAUSE (Table 18-2). -/
abbrev Cause.por : Nat := 1
abbrev Cause.ext : Nat := 2
abbrev Cause.soft : Nat := 4
abbrev Cause.softSave : Nat := 8
abbrev Cause.clock : Nat := 16
abbrev Cause.trial : Nat := 32
abbrev Cause.image : Nat := 64
abbrev Cause.wdog : Nat := 128
abbrev Cause.resume : Nat := 256

/-- Registers a Granite reset leaves: those on the Slates, the six of R410, and the status of the PLLs and of the supplies. -/
def keptReg (a : Nat) : Bool :=
  (List.finRange 8).any (fun i => onSlate i a) ||
    [P.sys + R.SYS_RST_CAUSE, P.pwr + R.PWR_SAVE_STAT, P.pwr + R.PWR_SAVE_TICK_LO, P.pwr + R.PWR_SAVE_TICK_HI, P.pwr + R.PWR_HOLD_CAP,
     P.pwr + R.PWR_SAG_CNT, P.clk + R.CLK_STATUS, P.pwr + R.PWR_STATUS].contains a

/-- Granite's side of a Slate at reset; Flint holds the Slate in its safe state (R30). -/
def SlateState.graniteReset (x : SlateState) : SlateState :=
  { x with
    genA := 0, chopA := false, gIn := 0, gDiag := 0, gAt := 0, snapStash := [], snapTick := 0, snapAns := none
    link := { x.link with
      up := {}, seqDn := 0, mark := { arr := x.link.mark.arr }, cmpq := [], outq := [], hiPend := false, regq := [], reads := [],
      waiting := [], rdTag := 0, replayTag := none, dnAt := none, dnWire := [] }
    sb := { x.sb with gsCmd := false, tMask := 0 } }

/-- What is left after a Granite reset. -/
def State.afterReset (s : State) (held : Bool) : State :=
  let f := s.safety
  { pending := s.pending, free := s.free, resp := s.resp, dev := s.dev, regs := s.regs.filter fun e => keptReg e.1, amber := s.amber
    time := { locPresent := s.time.locPresent, cabPresent := s.time.cabPresent }
    slates := s.slates.map SlateState.graniteReset
    axes := s.axes.map fun x => { pwm := x.pwm, fb := x.fb }
    safety := { faultB := f.faultB, clock := f.clock, flintOk := f.flintOk, cnt := f.cnt }
    boot := { recs := s.boot.recs, floor := s.boot.floor, keys := s.boot.keys, revoked := s.boot.revoked, hashes := s.boot.hashes }
    power := { held := held, seq := s.power.seq }
    mgmt := { epoch := s.mgmt.epoch + 1 } }

/-- A Granite reset. Flint, the Slates and Amber keep running; `held`: the source still holds the reset. -/
def State.graniteReset (s : State) (cause : Nat) (held : Bool) : State :=
  let t := s.afterReset held
  let t := t.wr (P.sys + R.SYS_RST_CAUSE) (t.rd (P.sys + R.SYS_RST_CAUSE) ||| cause)
  let t := t.setb P.pwr F.PWR_STATUS_SAVING false
  (t.setb P.clk F.CLK_STATUS_HOLDOVER false).setb P.clk F.CLK_STATUS_ACTIVE_REF s.dev.refStrap

/-- A reset source acts; during a save it is deferred (R423). -/
def State.askReset (s : State) (cause : Nat) (held : Bool) : State :=
  if s.power.save.isSome then s.setPower fun p => { p with defer := p.defer ||| cause } else s.graniteReset cause held

/-- A power-on reset: Granite and Flint; the kept registers return to their reset values, the PLLs are unlocked. -/
def State.powerOnReset (s : State) : State :=
  let t := ((s.graniteReset 0 true).keepRegs fun a => (List.finRange 8).any fun i => onSlate i a).setSafety fun _ => {}
  let t := t.setb P.clk F.CLK_STATUS_ACTIVE_REF s.dev.refStrap
  t.setSlates fun x => { x with sb := { x.sb with
    seqF := 0, fSeq := none, fLast := 0, fUp := false, pts := 0, halls := 0, backs := 0, stat := 0, gsCmd := false, wireF := [] } }

def execPowerOnReset (s : State) : Out := .next s.powerOnReset

/-- RST_N low for at least 1 µs. -/
def execExternalReset (s : State) : Out := .next (s.askReset Cause.ext true)

/-- POR_N or RST_N is released: with it, after a power-on reset, every Granite-side rail is good. -/
def execResetRelease (s : State) : Out :=
  .next (if s.power.held then
      (s.setPower fun p => { p with held := false, rel := s.now }).setf P.pwr F.PWR_STATUS_RAIL_OK 0x1F
    else s)

/-! PLLs (R36, R52). -/

/-- A PLL has locked: 0 system and 1 link, which set together, 2 SerDes, which locks after them. -/
def execPllLock (p : Fin 3) (s : State) : Out :=
  .next (if s.power.held then s
    else if p.val < 2 then (s.setb P.clk F.CLK_STATUS_SYS_LOCK true).setb P.clk F.CLK_STATUS_LINK_LOCK true
    else if s.flag P.clk F.CLK_STATUS_SYS_LOCK && s.flag P.clk F.CLK_STATUS_LINK_LOCK then s.setb P.clk F.CLK_STATUS_SERDES_LOCK true
    else s)

/-- A save ends without its commit record (R423). -/
def State.abortSave (s : State) : State :=
  (((s.setPower fun p => { p with save := none }).setb P.pwr F.PWR_STATUS_SAVING false).wr (P.pwr + R.PWR_SAVE_STAT)
    (3 * 2 ^ 28 + min 65535 ((s.now - (s.power.save.map (·.at_)).getD 0) * 2 / 625))).err P.pwr E.pwr_SAVE_FAIL

/-- SYS_UNLOCK: a save is aborted, and Granite is reset (R36, R423). -/
def State.sysUnlock (s : State) : State :=
  let s := (s.setb P.clk F.CLK_STATUS_SYS_LOCK false).err P.clk E.clk_SYS_UNLOCK
  (s.when s.power.save.isSome State.abortSave).graniteReset Cause.clock false

/-- A PLL loses lock. -/
def execPllUnlock (p : Fin 3) (s : State) : Out :=
  .next (match p with
    | 0 => s.sysUnlock
    | 1 => (s.setb P.clk F.CLK_STATUS_LINK_LOCK false).err P.clk E.clk_LINK_UNLOCK
    | 2 => (s.setb P.clk F.CLK_STATUS_SERDES_LOCK false).err P.clk E.clk_SERDES_UNLOCK)

/-- 100 µs of holdover have passed (31,250 ticks). -/
def execHoldoverExpiry (s : State) : Out :=
  .next (match s.time.holdStart with
    | some t => if s.flag P.clk F.CLK_STATUS_HOLDOVER ∧ t + 31250 ≤ s.now then s.sysUnlock else s
    | none => s)

def execFlintSelfTestPass (s : State) : Out :=
  .next (if s.power.held then s else s.setSafety fun f => { f with flintOk := !f.faultB })

/-! The system watchdog (R411). -/

/-- The watchdog is reloaded; it counts in BASIC and FULL. -/
def State.wdogKick (s : State) : State :=
  s.setPower fun p => { p with wdFrom := if 2 ≤ s.stage ∧ s.fld P.sys F.SYS_WDOG_PERIOD ≠ 0 then some s.now else none }

def execSysWdogKick (s : State) : Out := .next s.wdogKick

def execSysWdogExpiry (s : State) : Out :=
  .next (match s.power.wdFrom with
    | some t => if t + 312500 * s.fld P.sys F.SYS_WDOG_PERIOD ≤ s.now then s.askReset Cause.wdog false else s
    | none => s)

/-- The trial timer expires (R399). -/
def execTrialExpiry (s : State) : Out :=
  .next (match s.boot.trialEnd with
    | some t => if t ≤ s.now then s.askReset Cause.trial false else s
    | none => s)

/-! The save (R417, R418). -/

abbrev Save.base : Nat := 0x1610000
abbrev Save.table : Nat := 0x1620000
abbrev Save.commit : Nat := 0x1E20000

/-- An axis record, its fields in the order of Table 18-6 (log 17). -/
def State.saveAxis (s : State) (a : Fin 64) : State :=
  let l := s.loopOf a
  let p := P.profile a
  let w := Save.base + 0x100 + 64 * a
  let x := ((((s.astore w 8 (ofSigned 64 l.c)).astore (w + 8) 4 l.fb.pos).astore (w + 12) 4 l.fb.turn).astore (w + 16) 4
    (s.sh (P.fb a + R.FB_WRAP))).astore (w + 20) 8 (ofSigned 64 (s.prfX a))
  ((((x.astore (w + 28) 4 (s.fld p F.PRF_STATUS_STATE)).astore (w + 32) 4 (s.rd (p + R.BR_NUM_NOW))).astore (w + 36) 4
    (s.rd (p + R.BR_DEN_NOW))).astore (w + 40) 8 (ofSigned 64 (s.prf a).br.ofs)).astore (w + 48) 4 (s.rd (p + R.BR_CTRL))

/-- A segment in 48 bytes. -/
def State.saveSeg (s : State) (w : Nat) (g : TrunkSeg) : State :=
  forEach (List.finRange 4) ((s.astore w 8 g.t).astore (w + 8) 8 g.dur) fun j t => t.astore (w + 16 + 8 * j) 8 (ofSigned 64 g.c[j])

/-- A trunk record: registers 0x020 to 0x08C, counts, the active and the queued segments, the anchor (log 17). -/
def State.saveTrunk (s : State) (k : Fin 8) : State :=
  let w := Save.base + 0x1100 + 0x400 * k
  let x := s.trunk k
  let s := forEach (List.range 28) s fun j t => t.astore (w + 4 * j) 4 (t.rd (P.trunk k + 0x020 + 4 * j))
  let s := ((s.astore (w + 112) 1 x.active.isSome.toNat).astore (w + 113) 1 x.queue.length).astore (w + 114) 1 x.anchor.isSome.toNat
  let s := x.active.elim s fun g => s.saveSeg (w + 128) g
  let s := forEach ((List.range 16).zip x.queue) s fun (j, g) t => t.saveSeg (w + 176 + 48 * j) g
  x.anchor.elim s fun y => (s.astore (w + 944) 8 (ofSigned 64 y.1)).astore (w + 952) 8 y.2

/-- A tooth-unit record: position, turn count, STATE. -/
def State.saveTooth (s : State) (t : Fin 16) : State :=
  let w := Save.base + 0x3100 + 32 * t
  let u := s.tooth t
  ((s.astore w 4 u.pos).astore (w + 4) 4 u.turn).astore (w + 8) 4 (s.fld (P.tooth t) F.TOOTH_STATUS_STATE)

/-- Device time in 12 bytes: fraction (16 bits), nanoseconds, seconds (48 bits). -/
def packTime (x : Nat) : Nat := timeFrac x / 2 ^ 16 + timeNs x * 2 ^ 16 + timeSec x * 2 ^ 48

/-- The state block, all taken at T_s. -/
def State.saveBlock (s : State) : State :=
  let b := Save.base
  let s := s.azero b 0x10000
  let s := ((s.astore b 4 0x56415348).astore (b + 4) 2 1).astore (b + 8) 8 s.now
  let s := (s.astore (b + 16) 12 (packTime (timeWith s.time.cur s.now))).astore (b + 28) 8 s.time.cur.inc
  let s := forEach (List.finRange 8) s fun d t => t.astore (b + 64 + 4 * d) 4 (t.rd (P.track + R.TRACK_RGN d))
  let s := forEach (List.finRange 64) s fun a t => t.saveAxis a
  let s := forEach (List.finRange 8) s fun k t => t.saveTrunk k
  let s := forEach (List.finRange 16) s fun i t => t.saveTooth i
  forEach (List.finRange 8) s fun k t => t.astore (b + 0x3300 + 4 * k) 4 (t.rd (P.handover k + R.HO_XFER))

/-- The tracking table, record by record. -/
def State.saveTable (s : State) : State :=
  let t := (s.mem.filter fun e => decide (0x1000000 ≤ e.1) && decide (e.1 < 0x1800000)).map fun e => (e.1 + 0x620000, e.2)
  { s with amber := (s.amber.filter fun e => decide (e.1 < Save.table)) ++ t ++ (s.amber.filter fun e => decide (Save.commit ≤ e.1)) }

/-- CRC-32 of `n` bytes of Amber. -/
def State.amberCrc (s : State) (a n : Nat) : Nat := cfgCrc ((List.range n).map fun j => s.abyte (a + j))

/-- Step 2 of Table 18-5: SAFE_CMD toward every fitted Slate. -/
def State.safeCmdAll (s : State) : State :=
  forEach ((List.finRange 8).filter fun (i : Fin 8) => s.fitted i) s fun i t => t.setSafeCmd i

/-- Step 3: engines, loop units, the switch with its ports, and compare processing stop. -/
def State.stopBlocks (s : State) : State :=
  let s := forEach (List.finRange 512) s fun e t => if (t.eng e).st = .safety then t else t.engHalt e
  let s := forEach (List.finRange 64) s fun a t => t.setRun a false
  let s := forEach (List.finRange 4) s fun p t => t.wr (P.net p + R.NET_CFG) (t.rd (P.net p + R.NET_CFG) / 2 * 2)
  (s.setNet fun _ => {}).setb P.track F.TRACK_CTRL_EN false

/-- A save starts: steps 1 to 6; the commit record of the previous save is cleared first. -/
def State.startSave (s : State) (sag : Bool) : State :=
  let s := (s.wr64 P.pwr R.PWR_SAVE_TICK_LO s.now).setb P.pwr F.PWR_STATUS_SAVING true
  let s := (s.setPower fun p => { p with save := some ⟨s.now, sag⟩ }).safeCmdAll.abortAmber.azero Save.commit 64
  s.saveBlock.saveTable.stopBlocks

/-- SAVE_COMPLETE: the commit record, PWR_SAVE_STAT, and what follows: after SYS_RESET, or a sag that has ended, the reset (with the
deferred causes in place of RESUME); else the wait for the sag's end. -/
def State.saveComplete (s : State) : State := match s.power.save with
  | none => s
  | some v =>
    let n := s.power.seq + 1
    let s := ((s.astore Save.commit 4 0x544D4F43).astore (Save.commit + 4) 4 n).astore (Save.commit + 8) 4 (s.amberCrc Save.base 0x10000)
    let s := s.astore (Save.commit + 12) 4 (s.amberCrc Save.table 0x800000)
    let s := (s.wr (P.pwr + R.PWR_SAVE_STAT) (2 ^ 28 + min 65535 ((s.now - v.at_) * 2 / 625))).setb P.pwr F.PWR_STATUS_SAVING false
    let d := s.power.defer
    let s := s.setPower fun p => { p with save := none, seq := n % 2 ^ 32, defer := 0, wait := v.sag }
    if !v.sag then s.graniteReset (Cause.softSave ||| d) (bits d 1 1 == 1)
    else if d ≠ 0 then s.graniteReset d (bits d 1 1 == 1)
    else if s.flag P.pwr F.PWR_STATUS_SAG then s
    else s.graniteReset Cause.resume false

def execSaveComplete (s : State) : Out := .next s.saveComplete

/-- HOLD falls below 12 V before the commit: the save stops; the device waits for the end of the sag. -/
def execHoldCollapse (s : State) : Out :=
  .next (match s.power.save with
    | some ⟨_, true⟩ => s.abortSave.setPower fun p => { p with wait := true }
    | _ => s)

/-- A restore is under way: the images are applied, and a record waits to be written back. -/
def State.restoring (s : State) : Bool :=
  s.power.applied && !s.power.restored && s.flag P.pwr F.PWR_CFG_RESTORE_EN && s.saveRecord

/-- A sag is detected, by PFAIL or by VAUX_SENSE (R416, R423). -/
def State.sagDetect (s : State) (pfail : Bool) : State :=
  if !s.flag P.pwr (if pfail then F.PWR_CFG_PFAIL_EN else F.PWR_CFG_SENSE_EN) then s
  else
    let s := s.when pfail fun s => s.setb P.pwr F.PWR_STATUS_PFAIL true
    if s.power.wait then s.inc P.pwr F.PWR_SAG_CNT_COUNT
    else if s.flag P.pwr F.PWR_STATUS_SAG then s
    else
      let s := ((s.inc P.pwr F.PWR_SAG_CNT_COUNT).err P.pwr E.pwr_SAG).setb P.pwr F.PWR_STATUS_SAG true
      if s.stage < 2 ∨ s.power.save.isSome then s
      else if s.restoring then
        (s.setPower fun p => { p with restored := true }).wr (P.pwr + R.PWR_REST_STAT) (7 * 2 ^ 28) |>.err P.pwr E.pwr_REST_SKIP
      else if !s.flag P.pwr F.PWR_CFG_SAVE_EN then
        (s.wr64 P.pwr R.PWR_SAVE_TICK_LO s.now).safeCmdAll.wr (P.pwr + R.PWR_SAVE_STAT) (4 * 2 ^ 28)
      else if !s.flag P.pwr F.PWR_STATUS_HOLD_OK then
        ((s.wr64 P.pwr R.PWR_SAVE_TICK_LO s.now).safeCmdAll.wr (P.pwr + R.PWR_SAVE_STAT) (2 * 2 ^ 28)).err P.pwr E.pwr_SAVE_FAIL
      else s.startSave true

def execSagDetect (pfail : Bool) (s : State) : Out := .next (s.sagDetect pfail)

/-- The sag has ended for RESUME_DLY; after a save the device resets with cause RESUME (R419). -/
def execSagEnd (s : State) : Out :=
  .next (
    let t := (s.setb P.pwr F.PWR_STATUS_SAG false).setb P.pwr F.PWR_STATUS_PFAIL false
    if s.power.wait then t.graniteReset Cause.resume false else t)

/-- A charge from 12 V to 22 V completes: the capacitance in µF (R415). -/
def execHoldCapMeasure (uF : BitVec 16) (s : State) : Out :=
  .next ((s.wr (P.pwr + R.PWR_HOLD_CAP) uF.toNat).errIf (decide (uF.toNat < 780)) P.pwr E.pwr_HOLD_LOW)

def execHoldOkChange (ok : Bool) (s : State) : Out := .next (s.setb P.pwr F.PWR_STATUS_HOLD_OK ok)

/-! SYS_RESET (R409, R420). -/

/-- A write of SYS_RESET: other keys, and a save request while a save runs, are ignored. -/
def State.writeSysReset (s : State) (v : Nat) : State :=
  if v / 2 ^ 16 ≠ 0xA5A5 ∨ v % 2 = 0 then s
  else if bits v 1 1 = 0 then s.askReset Cause.soft false
  else if s.power.save.isSome then s
  else s.startSave false

def execSysReset (key : BitVec 16) (s : State) : Out := .next (s.writeSysReset (key.toNat * 2 ^ 16 + 1))
def execSysResetSave (key : BitVec 16) (s : State) : Out := .next (s.writeSysReset (key.toNat * 2 ^ 16 + 3))

end Sys2Proof.Machine
end

