-- ==== Sys2Proof/Machine/Access.lean ====
section
/-! DEFINITION. Access to BAR0 by a requester: what a read shows and what a write does, for every page and memory region, under
the permission of R388 and the lock of R390 (R4, R10, R12, R67, R186, R247, R296, R352, R366, R426-R430). -/
namespace Sys2Proof.Machine
open Sys2Proof

/-! Permission. -/

/-- The requester's domain holds a fabric slot (R391). -/
def State.slotOk (s : State) (q : Nat) : Bool := match s.reqDom q with
  | some d => s.hasSlot d
  | none => false

/-- The access may be carried out (R388, R391). -/
def State.mayAccess (s : State) (q a : Nat) (write : Bool) : Bool := s.accessOk q a write && s.slotOk q

/-! Reads. -/

/-- The value of the newest answer. -/
def State.answered (s : State) : Nat := (s.resp.head?.map (·.data)).getD 0

/-- A read register that latches others for the requester, and what the latching read does (R40). -/
def State.latchRead (s : State) (q : Nat) (k : PageKind) (n o : Nat) : Option State := match k with
  | .time =>
    if o = R.TIME_TICK_LO then (fin? 514 q).map fun r => s.readTickLo r
    else if o = R.TIME_SUBNS then (fin? 514 q).map fun r => s.readSubns r
    else none
  | .loop => if o = R.LOOP_POS_LO then (axis? n).map fun x => s.readLoopPos q x else none
  | .profile =>
    if o = R.PRF_SP_LO then (axis? n).map fun x => s.readPrfSp q x
    else if o = R.BR_OFS_NOW_LO then (axis? n).map fun x => s.readBrOfs q x
    else none
  | .tooth => if o = R.TOOTH_POS then (fin? 16 n).map fun t => s.readToothPos q t else none
  | .trunk => if o = R.TRK_POS_LO then (fin? 8 n).map fun k => s.readTrkPos q k else none
  | _ => none

/-- Registers that show what a latching read of the requester kept. -/
def latchedAt (k : PageKind) (o : Nat) : Bool := match k with
  | .loop => o == R.LOOP_POS_HI
  | .profile => o == R.PRF_SP_HI || o == R.PRF_VEL || o == R.PRF_ACC || o == R.BR_OFS_NOW_HI
  | .tooth => o == R.TOOTH_TURN || o == R.TOOTH_LAST_TICK_LO || o == R.TOOTH_LAST_TICK_HI
  | .trunk => o == R.TRK_POS_HI || o == R.TRK_VEL_LO || o == R.TRK_VEL_HI || o == R.TRK_POS_TICK_LO || o == R.TRK_POS_TICK_HI
  | _ => false

/-- The latched time registers of a requester (Table 2-8). -/
def State.timeLatched (s : State) (q : Fin 514) (o : Nat) : Option Nat :=
  let l := s.latchOf q
  if o = R.TIME_TICK_HI then some l.tickHi
  else if o = R.TIME_NS then some (timeNs l.time)
  else if o = R.TIME_SEC_LO then some (timeSec l.time % 2 ^ 32)
  else if o = R.TIME_SEC_HI then some (timeSec l.time / 2 ^ 32)
  else if o = R.TIME_LAT_TICK_LO then some (l.tick % 2 ^ 32)
  else if o = R.TIME_LAT_TICK_HI then some (l.tick / 2 ^ 32 % 2 ^ 32)
  else none

/-- A permitted read of a Granite-resident register: its value, and the state after what the read latches. -/
def State.readGranite (s : State) (q a : Nat) : Nat × State := match pageAt a with
  | none => (0, s)
  | some (k, n) =>
    let o := a % 0x1000
    match s.latchRead q k n o with
    | some t => (t.answered, t)
    | none =>
      if latchedAt k o then (s.latched q a, s)
      else match (if k = .time then (fin? 514 q).bind fun r => s.timeLatched r o else none) with
        | some v => (v, s)
        | none => (s.view a false, s)

/-- What an access came to: the value read (none: a forwarded read has been issued), whether it was refused, the state. -/
structure Done where
  val : Option Nat := some 0
  refused : Bool := false
  st : State

/-- A refused access: a write is discarded, a read returns 0. -/
def State.refused (s : State) (q a : Nat) (write : Bool) : Done := { refused := true, st := s.refuse q a write }

/-- A permitted read of memory: ECC meets its words, and the host port reports an uncorrectable one (R181, R433). -/
def State.readMem (s : State) (q a n : Nat) : Done :=
  { val := some (s.extLoad a n)
    st := (s.eccScan a n).when (q == Req.host && s.uncorrectable a n) fun t => t.dmaErr E.host_RD_UE ((s.reqDom q).getD 0) a q false }

/-- A read of `n` bytes at `a`, aligned, in a width the region takes (Table 19-1). -/
def State.busRead (s : State) (q a n : Nat) : Done :=
  if s.absent a then { st := s }
  else match regionAt a with
  | .unmapped => { st := s }
  | .page k i =>
    if n ≠ 4 ∨ a % 4 ≠ 0 then { st := s }
    else if !s.mayAccess q a false then s.refused q a false
    else if (slateOfPage k i).isSome then { val := none, st := s.slateRegRead q k i a }
    else
      let r := s.readGranite q a
      { val := some r.1, st := r.2 }
  | _ => if s.mayAccess q a false then s.readMem q a n else s.refused q a false

/-! Writes of Slate-resident registers. -/

/-- The value and mask with which a write of a shared field register is forwarded (R296): only the bits of the writer's points. -/
def State.fieldWrite (s : State) (d : Nat) (i : Fin 8) (o v : Nat) : Nat × Nat :=
  let m := s.pointMask d i
  if o = R.FIO_OUT then (v, m)
  else if o = R.FIO_DIAG_A ∨ o = R.FIO_DIAG_B then (v &&& (m + m * 2 ^ 16), 0xFFFFFFFF)
  else if o = R.FIO_RANGE_STAT then (v &&& m, 0xFFFFFFFF)
  else (v, 0xFFFFFFFF)

/-- Granite's shadow of a page after a soft reset: the RW fields at their reset values, but for the header (R430). -/
def State.softShadow (s : State) (k : PageKind) (p : Nat) : State :=
  forEach ((shadowOffsets k).filter fun o => decide (0x20 ≤ o)) s fun o s =>
    let m := ((regAt k o).map (·.rw)).getD 0
    s.setsh (p + o) (without (s.sh (p + o)) m ||| ((regDefault (p + o)).toNat &&& m))

/-- The W in force before a write of FB_WRAP, which Granite keeps beside the shadow (R159). -/
def State.keepWrap (s : State) (x : Fin 64) : State :=
  s.setLoop x fun l => { l with
    wBefore := if s.loopRun x then l.wf else if bits l.fb.status 7 1 = 1 then l.wBefore else s.sh (P.fb x + R.FB_WRAP) % 2 ^ 31 + 1 }

/-- A permitted write of a Slate-resident register. -/
def State.writeSlate (s : State) (d : Nat) (k : PageKind) (n a v : Nat) : State :=
  let o := a % 0x1000
  match k with
  | .fio => match slate? n with
    | some i =>
      let w := s.fieldWrite d i o v
      if 0x080 ≤ o ∧ o < 0x100 ∧ o % 8 = 0 ∧ s.claimed (16 * n + (o - 0x080) / 8) then s.forward i (recOff k n a) v 0xFFFFFFFF
      else
        let s := if o = R.PAGE_CTRL ∧ bits v 1 1 = 1 then s.softShadow k (pageBase k n) else s
        s.slateRegWrite k n a w.1 w.2
    | none => s
  | _ =>
    let s := if o = R.PAGE_CTRL ∧ bits v 1 1 = 1 then s.softShadow k (pageBase k n) else s
    match k, axis? n with
    | .fb, some x => (if o = R.FB_WRAP then s.keepWrap x else s).slateRegWrite k n a v 0xFFFFFFFF
    | .pwm, some x => (s.slateRegWrite k n a v 0xFFFFFFFF).when (o == R.PWM_CTRL || o == R.PAGE_CTRL) fun s => s.prfGate x
    | _, _ => s.slateRegWrite k n a v 0xFFFFFFFF

/-! Writes of Granite-resident registers, page by page. A register not named is written by its access types. -/

/-- The plain write; RWL fields come here only from domain 0 with the lock clear. -/
def State.plain (s : State) (k : PageKind) (n o v : Nat) : State := s.plainWrite k (pageBase k n) o v true

def State.writeSys (s : State) (o v : Nat) : State :=
  if o = R.SYS_RESET then s.writeSysReset v
  else if o = R.SYS_WDOG then (s.plain .sys 0 o v).wdogKick
  else if o = R.SYS_WDOG_KICK then s.wdogKick
  else s.plain .sys 0 o v

def State.writeClk (s : State) (o v : Nat) : State :=
  if o = R.CLK_CTRL then (s.setf P.clk F.CLK_CTRL_FAILOVER_EN (bits v 2 1)).selectRef (BitVec.ofNat 2 v)
  else s.plain .clk 0 o v

def State.writeTime (s : State) (o v : Nat) : State :=
  if R.TIME_SET_SUBNS ≤ o ∧ o ≤ R.TIME_CMT_TICK_HI then s.writeStage ((o - R.TIME_SET_SUBNS) / 4) v
  else if o = R.TIME_CMT_CTRL then s.writeCmtCtrl v
  else if o = R.TIME_MEAS_OFS then s.measOfs (BitVec.ofNat 32 v)
  else if o = R.TIME_LOCK_CFG then
    let was := s.fld P.time F.TIME_LOCK_CFG_NET_MASTER
    ((s.plain .time 0 o v).setf P.time F.TIME_LOCK_CFG_NET_MASTER was).setMaster (bits v F.TIME_LOCK_CFG_NET_MASTER.lo 1 == 1)
  else s.plain .time 0 o v

def State.writeFault (s : State) (o v : Nat) : State :=
  if o = R.FAULT_CTRL then s.when (bits v 1 1 == 1) fun s => s.setb P.fault F.FAULT_STATUS_DSS false
  else if o = R.FAULT_SOURCE_LO then s.clearSources false v
  else if o = R.FAULT_SOURCE_HI then s.clearSources true (v % 256)
  else if o = R.FAULT_DOM_HALT then s.releaseDomains (v % 256)
  else if o = R.FAULT_LOG_POP then s.popLog
  else if o = R.FAULT_PR_IN then s.partnerReport v
  else if o = R.FAULT_PR_POP then s.setFault fun f => { f with prq := f.prq.drop 1 }
  else s.plain .fault 0 o v

def State.writeSnap (s : State) (o v : Nat) : State :=
  if o = R.SNAP_CTRL then s.when (v % 2 = 1) fun s => s.snapshot 1
  else if o = R.SNAP_AT_HI then
    (s.plain .snap 0 o v).when (s.flag P.snap F.SNAP_CFG_AT_EN) fun s => s.setCap fun c => { c with snapArmed := true }
  else s.plain .snap 0 o v

def State.writeTrig (s : State) (o v : Nat) : State :=
  if o = R.TRIG_IN_POP then s.trigPop (v % 16)
  else if o = R.TBUS_PULSE then s.tbusPulse (v % 16)
  else if o = R.TBUS_CAL then s.tbusCal (v % 16)
  else if o = R.TBUS_POP then s.tbusPop (v % 16)
  else if R.TBUS_AT_HI 0 ≤ o ∧ o ≤ R.TBUS_AT_HI 3 ∧ o % 8 = 4 then
    (fin? 4 ((o - R.TBUS_AT_HI 0) / 8)).elim s fun n => (s.plain .trig 0 o v).setBus n fun b => { b with armed := true }
  else s.plain .trig 0 o v

def State.writeSafe (s : State) (q o v : Nat) : State :=
  if o = R.SAFE_BRK_REQ_LO then s.writeBrkReq q 0 v
  else if o = R.SAFE_BRK_REQ_HI then s.writeBrkReq q 1 v
  else s.plain .safe 0 o v

/-- A vector's message goes out. -/
def State.sendVec (s : State) (v : Nat) : State :=
  (s.setbit P.host (R.HOST_MSIX_PBA_LO + 4 * (v / 32)) (v % 32) false).setMsi
    (s.rd (P.host + R.HOST_MSIX_ADDR_HI v) * 2 ^ 32 + s.rd (P.host + R.HOST_MSIX_ADDR_LO v), s.rd (P.host + R.HOST_MSIX_DATA v))

/-- Pending vectors whose masks are both clear send their messages (R436). -/
def State.sendPending (s : State) : State :=
  if !s.flag P.host F.HOST_STATUS_MSIX_EN || s.flag P.host F.HOST_STATUS_FMASK then s
  else forEach ((List.range 64).filter fun v =>
    s.rbit P.host (R.HOST_MSIX_PBA_LO + 4 * (v / 32)) (v % 32) && !s.flag P.host (F.HOST_MSIX_CTRL_MASK v)) s fun v s => s.sendVec v

def State.writeHost (s : State) (o v : Nat) : State :=
  if 0x0E0 ≤ o ∧ o < 0x100 then s.wr (P.host + o) v
  else if 0x400 ≤ o ∧ o < 0x800 then (s.plain .host 0 o v).sendPending
  else s.plain .host 0 o v

def State.writeLoop (s : State) (x : Fin 64) (o v : Nat) : State :=
  if o = R.LOOP_CTRL then s.writeLoopCtrl x v
  else if o = R.LOOP_SIG 11 then s.setLoop x fun l => { l with ext := l.ext.set 0 (BitVec.ofNat 32 v) }
  else if o = R.LOOP_SIG 12 then s.setLoop x fun l => { l with ext := l.ext.set 1 (BitVec.ofNat 32 v) }
  else s.plain .loop x o v

def State.writeLoopunit (s : State) (g o v : Nat) : State :=
  if 0x030 ≤ o ∧ o < 0x040 then (if v = 0 then s.plain .loopunit g o 0 else s)
  else if 0x050 ≤ o ∧ o < 0x060 then s.writeDescRange g ((o - 0x050) / 4) v
  else s.plain .loopunit g o v

def State.writeProfile (s : State) (x : Fin 64) (o v : Nat) : State :=
  if o = R.PRF_CMD then forEach ((List.range 5).filter fun b => bits v b 1 == 1) s fun b s => s.prfCmd x b
  else s.plain .profile x o v

/-- LINK_CTRL (R64): RELEASE stays 1 until SAFE_CMD clears; FORCE_SAFE sets SAFE_CMD. -/
def State.writeLink (s : State) (i : Fin 8) (o v : Nat) : State :=
  if o = R.LINK_CTRL then
    let s := (s.plain .link i o v).when (bits v 1 1 == 1) fun s => s.setb (P.link i) F.LINK_CTRL_RELEASE true
    s.when (bits v 2 1 == 1) fun s => s.setSafeCmd i
  else s.plain .link i o v

def State.writeNet (s : State) (p : Fin 4) (o v : Nat) : State :=
  if o = R.NET_CFG then s.writeNetCfg p v
  else if o = R.NET_TSQ_POP then s.tsqPop p
  else if R.NET_CBS 0 ≤ o ∧ o ≤ R.NET_CBS 8 then (fin? 9 ((o - R.NET_CBS 0) / 4)).elim s fun q => s.writeCbs p q v
  else s.plain .net p o v

/-- SW_DOM_VLAN: a VID already mapped to another domain is ignored (Table 13-11). -/
def State.writeSwitch (s : State) (o v : Nat) : State :=
  if R.SW_BUF_RSV 0 ≤ o ∧ o ≤ R.SW_BUF_RSV 8 then (fin? 9 ((o - R.SW_BUF_RSV 0) / 4)).elim s fun q => s.writeRsv q v
  else if R.SW_DOM_VLAN 0 ≤ o ∧ o ≤ R.SW_DOM_VLAN 7 then
    let d := (o - R.SW_DOM_VLAN 0) / 4
    let clash := (List.range 8).any fun e =>
      e != d && s.flag P.switch (F.SW_DOM_VLAN_EN e) && s.fld P.switch (F.SW_DOM_VLAN_VID e) == v % 2 ^ 12
    if clash ∧ bits v 12 1 = 1 then s else s.plain .switch 0 o v
  else s.plain .switch 0 o v

/-- The NETQ page (R319): ring registers only while their ring is off; TX_EN not while the domain is halted (R357). -/
def State.writeNetq (s : State) (d : Fin 8) (o v : Nat) : State :=
  let p := P.netq d
  if o = R.NQ_TX_TAIL then s.writeTxTail d v
  else if o = R.NQ_RX_TAIL then s.writeRxTail d v
  else if o = R.NQ_TX_BASE_LO ∨ o = R.NQ_TX_BASE_HI ∨ o = R.NQ_TX_SIZE then
    (if s.flag p F.NQ_CTRL_TX_EN then s.err p E.netq_RING_CFG else s.plain .netq d o v)
  else if o = R.NQ_RX_BASE_LO ∨ o = R.NQ_RX_BASE_HI ∨ o = R.NQ_RX_SIZE then
    (if s.flag p F.NQ_CTRL_RX_EN then s.err p E.netq_RING_CFG else s.plain .netq d o v)
  else if o = R.NQ_CTRL then s.plain .netq d o (if s.domHalted d then v / 2 * 2 else v)
  else s.plain .netq d o v

/-- ENG_CTRL (Table 8-13): RST; then HALT, GO and STEP in this order. -/
def State.writeEngCtrl (s : State) (e : Fin 512) (v : Nat) : State :=
  if bits v 3 1 = 1 then s.engRst e
  else
    let s := s.when (s.flag (P.engine e) F.ENG_CTRL_RST) fun s => s.engRelease e
    let s := s.when (bits v 1 1 == 1) fun s => s.engHalt e
    (s.when (v % 2 = 1) fun s => s.engGo e).when (bits v 2 1 == 1) fun s => s.engStep e

def State.writeEngine (s : State) (e : Fin 512) (o v : Nat) : State :=
  if o = R.ENG_CTRL then s.writeEngCtrl e v
  else if o = R.ENG_PC then s.setEngPc e v
  else if o = R.ENG_WDOG then (s.plain .engine e o v).wdReload e
  else if o = R.ENG_DBG_DATA then s.engDbg e v
  else if o = R.ENG_MAIL_SEND then s.mailIn e (v % 16)
  else if o = R.ENG_HMAIL_POP then s.hmailPop e
  else s.plain .engine e o v

def State.writeTrackPage (s : State) (o v : Nat) : State :=
  if o = R.TRACK_CTRL then
    let s := s.setb P.track F.TRACK_CTRL_EN (v % 2 = 1)
    (s.when (bits v 2 1 == 1) fun s => s.trackInit).when (bits v 1 1 == 1) fun s => s.startRebuild
  else s.plain .track 0 o v

/-- TRC_CTRL (R370): STOP wins over ARM and FORCE. -/
def State.writeTrc (s : State) (r : Fin 8) (o v : Nat) : State :=
  if o = R.TRC_CTRL then
    if bits v 1 1 = 1 then s.trcStop r
    else (s.when (v % 2 = 1) fun s => s.trcArm r).when (bits v 2 1 == 1) fun s => s.takeTrigger r s.now
  else if o = R.TRC_TAT_HI then s.writeTat r v
  else s.plain .trc r o v

def State.writeTrunk (s : State) (k : Fin 8) (o v : Nat) : State :=
  if o = R.TRK_CTRL then s.writeTrkCtrl k v
  else if o = R.TRK_SEG_PUSH then s.pushSeg k
  else if o = R.TRK_STEP_MAX then (if v = 0 then s.wr (P.trunk k + o) 0 else s)
  else s.plain .trunk k o v

def State.writeRgn (s : State) (d : Fin 8) (o v : Nat) : State :=
  if o = R.RGN_CMD then s.writeRgnCmd d v
  else if o = R.RGN_RPT_POP then s.popReport d
  else s.plain .rgn d o v

/-- FSCH_CTRL(c): CANCEL, then GO with the written LEVEL (R292). -/
def State.writeFsch (s : State) (i : Fin 8) (o v : Nat) : State :=
  if 0x020 ≤ o ∧ o < 0x060 then (fin? 16 ((o - 0x020) / 4)).elim s fun c => s.writeFschMap i c (v % 32)
  else if 0x100 ≤ o ∧ o < 0x300 ∧ o % 32 = 0 then (fin? 16 ((o - 0x100) / 32)).elim s fun c =>
    let lvl := bits v 8 1 == 1
    let s := s.when (bits v 1 1 == 1) fun s => s.fschCancel i c
    if v % 2 = 1 then s.fschGo i c lvl else s.setb (P.fsch i) (F.FSCH_CTRL_LEVEL c) lvl
  else s.plain .fsch i o v

/-! Soft reset of Granite-resident pages (R430). -/

def State.softReset (s : State) (k : PageKind) (n : Nat) : State :=
  let s := match k with
    | .loop => (axis? n).elim s fun x =>
        (s.writeLoopCtrl x 0).setLoop x fun l => { l with pend := none, wbuf := [], deferred := [], ext := Vector.replicate 2 0 }
    | .net => (fin? 4 n).elim s fun p => (s.writeNetCfg p 0x300).setPort p fun x => { x with stamps := [], launch := [] }
    | .netq => (s.wr (P.netq n + R.NQ_TX_HEAD) 0).wr (P.netq n + R.NQ_RX_HEAD) 0
    | .trc => (fin? 8 n).elim s fun r => (s.trcStop r).setRec r fun _ => {}
    | .tooth => (fin? 16 n).elim s fun t => s.writeToothCtrl t 0
    | .trunk => (fin? 8 n).elim s fun t =>
        (s.writeTrkCtrl t (s.rd (P.trunk t + R.TRK_CTRL) / 2 * 2)).writeTrkCtrl t (2 ^ 16)
    | .rgn => (fin? 8 n).elim s fun d =>
        (s.setTrack fun t => { t with reports := t.reports.set d [], heldIns := t.heldIns.set d none }).showRpt d
    | .lane => (axis? n).elim s fun x => ((s.writeLaneCtrl x 0).setLane x fun l => { l with buf := [] }).showLane x
    | .fsch => (slate? n).elim s fun i => forEach (List.finRange 16) s fun c s => s.fschCancel i c
    | _ => s
  s.softRegs k (pageBase k n)

/-! The write. -/

/-- RWL registers: fields of type RWL, the assignments of PAGE_OWNER, and the management key (R12, R386, R444). -/
def lockable (k : PageKind) (o : Nat) : Bool :=
  ((regAt k o).map (·.rwl)).getD 0 != 0 || (ownable k && o == R.PAGE_OWNER) || (k == .host && decide (0x0E0 ≤ o ∧ o < 0x100))

/-- A block register of a Granite-resident page. -/
def State.writeBlock (s : State) (q : Nat) (k : PageKind) (n o v : Nat) : State := match k with
  | .sys => s.writeSys o v
  | .clk => s.writeClk o v
  | .time => s.writeTime o v
  | .fault => s.writeFault o v
  | .snap => s.writeSnap o v
  | .trig => s.writeTrig o v
  | .safe => s.writeSafe q o v
  | .amber => if o = R.AMBER_CMD then s.amberCmd v else s.plain .amber 0 o v
  | .host => s.writeHost o v
  | .loop => (axis? n).elim s fun x => s.writeLoop x o v
  | .loopunit => s.writeLoopunit n o v
  | .profile => (axis? n).elim s fun x => s.writeProfile x o v
  | .link => (slate? n).elim s fun i => s.writeLink i o v
  | .net => (fin? 4 n).elim s fun p => s.writeNet p o v
  | .switch => s.writeSwitch o v
  | .netq => (fin? 8 n).elim s fun d => s.writeNetq d o v
  | .engine => (fin? 512 n).elim s fun e => s.writeEngine e o v
  | .track => s.writeTrackPage o v
  | .trc => (fin? 8 n).elim s fun r => s.writeTrc r o v
  | .tooth => (fin? 16 n).elim s fun t => if o = R.TOOTH_CTRL then s.writeToothCtrl t v else s.plain .tooth n o v
  | .trunk => (fin? 8 n).elim s fun k => s.writeTrunk k o v
  | .rgn => (fin? 8 n).elim s fun d => s.writeRgn d o v
  | .lane => (axis? n).elim s fun x => if o = R.LANE_CTRL then s.writeLaneCtrl x v else s.plain .lane n o v
  | .fsch => (slate? n).elim s fun i => s.writeFsch i o v
  | _ => s.plain k n o v

/-- A permitted write of a Granite-resident register. -/
def State.writeGranite (s : State) (q : Nat) (k : PageKind) (n o v : Nat) : State :=
  match s.assign k n o v with
  | some t => t
  | none =>
    if o = R.PAGE_CTRL then
      let s := s.plain k n o v
      if bits v 1 1 = 1 ∧ softPage k then s.softReset k n else s
    else if o < 0x20 ∨ 0x800 ≤ o then (if 0x800 ≤ o then s else s.plain k n o v)
    else s.writeBlock q k n o v

/-- A write of an aligned register (R12, R388, R390). -/
def State.writeReg (s : State) (q a v : Nat) : State := match pageAt a with
  | none => s
  | some (k, n) =>
    let o := a % 0x1000
    let d := (s.reqDom q).getD 0
    if s.absent a ∨ a % 4 ≠ 0 then s
    else if !s.mayAccess q a true then s.refuse q a true
    else if lockable k o ∧ d ≠ 0 then s.refuse q a true
    else if lockable k o ∧ s.locked then s.lockedWr
    else if k = .engine ∧ s.engSafety n then s
    else if (slateOfPage k n).isSome then (if o < 0x800 then s.writeSlate d k n a v else s)
    else s.writeGranite q k n o v

/-- A write of `n` bytes at `a`, aligned, in a width the region takes; the tracking table and trace memory take none (R247, R366). -/
def State.busWrite (s : State) (q a n v : Nat) : Done :=
  if s.absent a then { st := s }
  else match regionAt a with
  | .unmapped => { st := s }
  | .page _ _ =>
    if n ≠ 4 then { st := s }
    else { refused := !s.mayAccess q a true, st := s.writeReg q a v }
  | .desc _ => if s.mayAccess q a true then { st := s.descWrite a n v } else s.refused q a true
  | .shm _ => if s.mayAccess q a true then { st := s.store a n v } else s.refused q a true
  | .engMem e => if s.mayAccess q a true then { st := (fin? 512 e).elim s fun e => s.engMemWrite e a n v } else s.refused q a true
  | .table_ | .trace_ => s.refused q a true

/-! Commands. -/

/-- REGISTER_WRITE: a write by requester q of any register. -/
def execRegisterWrite (q : Fin 514) (addr : BitVec 26) (v : Word) (s : State) : Out := .next (s.writeReg q addr.toNat v.toNat)

/-- The address lies in a Slate-resident page. -/
def slateResident (a : Nat) : Bool := match pageAt a with
  | some (k, n) => (slateOfPage k n).isSome
  | none => false

def execSlateRegWrite (q : Fin 514) (addr : BitVec 26) (v : Word) (s : State) : Out :=
  .next (if slateResident addr.toNat then s.writeReg q addr.toNat v.toNat else s)

/-- A read answered to its requester; a forwarded read is answered later. -/
def Done.answer (r : Done) (q a : Nat) : State :=
  if r.refused then r.st.deny q a
  else match r.val with
    | some v => r.st.answer q a v
    | none => r.st

def execSlateRegRead (q : Fin 514) (addr : BitVec 26) (s : State) : Out :=
  .next (if slateResident addr.toNat ∧ addr.toNat % 4 = 0 then (s.busRead q addr.toNat 4).answer q addr.toNat else s)

/-- The page of an address. -/
def pageOf (a : Nat) : Nat := a - a % 0x1000

/-- SOFT_RESET: PAGE_CTRL of the page of `addr` is written with SOFT_RESET at 1. -/
def execSoftReset (q : Fin 514) (addr : BitVec 26) (snap : Bool) (s : State) : Out :=
  .next (s.writeReg q (pageOf addr.toNat + R.PAGE_CTRL) (2 + 256 * snap.toNat))

def execPageErrClear (q : Fin 514) (addr : BitVec 26) (v : Word) (s : State) : Out :=
  .next (s.writeReg q (pageOf addr.toNat + R.PAGE_ERR) v.toNat)

/-- COUNTER_CLEAR: a register whose bit 31 is CLR is written with it at 1. -/
def execCounterClear (q : Fin 514) (addr : BitVec 26) (s : State) : Out :=
  .next (match pageAt addr.toNat with
    | some (k, _) => match regAt k (addr.toNat % 0x1000) with
      | some d => if hasClr k (addr.toNat % 0x1000) d then s.writeReg q addr.toNat (2 ^ 31) else s
      | none => s
    | none => s)

/-! Engines' accesses complete (R182, R186). -/

/-- A forwarded read of requester q is still under way. -/
def State.readOut (s : State) (q : Nat) : Bool :=
  s.slates.toList.any fun x => x.link.reads.any (·.req == q) || x.link.waiting.any (·.req == q)

/-- The answer to the latest read of requester q at `a`. -/
def State.answerOf (s : State) (q a : Nat) : Nat := ((s.resp.find? fun r => r.req == q && r.addr == a).map (·.data)).getD 0

/-- A stalled fabric read gets its data, once every earlier fabric write of the engine has completed. -/
def execFabricReadComplete (e : Fin 512) (s : State) : Out :=
  .next (match (s.eng e).stall with
    | some r =>
      if !r.fabric || !(s.eng e).fbw.isEmpty then s
      else if slateResident r.addr then (if s.readOut e then s else s.resumeOp e (s.answerOf e r.addr))
      else
        let x := s.busRead e r.addr r.bytes
        x.st.resumeOp e (x.val.getD 0)
    | none => s)

/-- The oldest posted write of an engine completes; a pending RST acts once none is left (R191). -/
def State.postedDone (s : State) (e : Fin 512) (fabric : Bool) : State :=
  let s := if fabric then match (s.eng e).fbw with
      | [] => s
      | w :: l => ((s.setEng e fun x => { x with fbw := l }).busWrite e w.addr w.bytes w.val).st
    else match (s.eng e).shw with
      | [] => s
      | w :: l => (s.setEng e fun x => { x with shw := l }).store w.addr w.bytes w.val
  if (s.eng e).rstPend && (s.eng e).shw.isEmpty && (s.eng e).fbw.isEmpty then s.engReset e else s

def execPostedWriteComplete (e : Fin 512) (fabric : Bool) (s : State) : Out := .next (s.postedDone e fabric)

end Sys2Proof.Machine
end

