-- ==== Sys2Proof/Machine/Hostport.lean ====
section
/-! DEFINITION. The host port and the management agent (19_host_port_and_address_map.md, R428, R432-R444). -/
namespace Sys2Proof.Machine
open Sys2Proof

/-! Errors of the host port (Table 19-9). -/

/-- An access of the host is recorded with its error bit. -/
def State.hostErr (s : State) (bit a : Nat) (write : Bool) : State := s.dmaErr bit ((s.reqDom Req.host).getD 0) a Req.host write

/-- The link to the host is up. -/
def State.hostUp (s : State) : Bool := s.flag P.host F.HOST_STATUS_LINK_UP

/-! Transaction layer packets (R433). -/

/-- Rows of Table 19-1 that hold memory, as numbers; grove windows are 1, unmapped and reserved ranges 0. -/
def mapRow (a : Nat) : Nat :=
  if 0x400000 ≤ a ∧ a < 0x800000 then 1
  else if 0xC00000 ≤ a ∧ a < 0x1000000 then 2
  else if 0x1000000 ≤ a ∧ a < 0x1800000 then 3
  else if 0x1800000 ≤ a ∧ a < 0x2000000 then 4
  else if 0x2000000 ≤ a ∧ a < 0x4000000 then 5
  else 0

/-- The smallest width a memory region takes: 4 bytes in shared memory (R185). -/
def minWidth (a : Nat) : Nat := match regionAt a with
  | .shm _ => 4
  | _ => 1

/-- The widest aligned access at `a` within `n` bytes that the region takes; 0 where none fits. -/
def accessWidth (a n : Nat) : Nat :=
  ([8, 4, 2, 1].find? fun w => decide (minWidth a ≤ w ∧ w ≤ n) && a % w == 0).getD 0

/-- The accesses of a packet: address, width and offset in its data. Bytes that no permitted width covers are passed over. -/
def splitTlp (a n i : Nat) : Nat → List (Nat × Nat × Nat)
  | 0 => []
  | f + 1 =>
    if n ≤ i then []
    else
      let w := accessWidth (a + i) (n - i)
      if w = 0 then splitTlp a n (i + 1) f else (a + i, w, i) :: splitTlp a n (i + w) f

/-- How a packet of `n` bytes at `a` is taken: one register access, memory accesses, or discarded with an error bit. -/
inductive Tlp where
  | reg | mem | bad (bit : Nat) | absent
  deriving DecidableEq, Repr

def State.tlpKind (s : State) (a n : Nat) : Tlp :=
  if s.absent a then .absent
  else match regionAt a with
  | .unmapped => .bad E.host_UNMAPPED
  | .page _ _ => if n = 4 ∧ a % 4 = 0 then .reg else .bad E.host_WIDTH
  | _ => if mapRow a = mapRow (a + n - 1) then .mem else .bad E.host_UNMAPPED

/-- One access of a split packet; an unmapped part is reported. -/
def State.hostPiece (s : State) (a : Nat) (write : Bool) (f : State → Done) : Done :=
  if regionAt a = .unmapped then { st := s.hostErr E.host_UNMAPPED a write } else f s

/-- A memory write of the host. -/
def State.hostTlpWrite (s : State) (a : Nat) (data : List Byte) : State :=
  if !s.hostUp then s
  else match s.tlpKind a data.length with
    | .absent => s
    | .bad b => s.hostErr b a true
    | .reg => s.writeReg Req.host a (ofBytes data)
    | .mem => forEach (splitTlp a data.length 0 data.length) s fun x s =>
        (s.hostPiece x.1 true fun s => s.busWrite Req.host x.1 x.2.1 (field data x.2.2 x.2.1)).st

/-- HOST_WRITE: a memory write packet with its data. -/
def execHostWrite (addr : BitVec 26) (data : List Byte) (s : State) : Out := .next (s.hostTlpWrite addr.toNat data)

/-- The pieces of a read put together, the first byte the least significant. -/
def State.hostPieces (s : State) : List (Nat × Nat × Nat) → Nat × State
  | [] => (0, s)
  | x :: l =>
    let r := s.hostPiece x.1 false fun s => s.busRead Req.host x.1 x.2.1
    let t := r.st.hostPieces l
    ((r.val.getD 0) * 256 ^ x.2.2 + t.1, t.2)

/-- A memory read of the host. -/
def State.hostTlpRead (s : State) (a n : Nat) : State :=
  if !s.hostUp then s
  else match s.tlpKind a n with
    | .absent => s.answer Req.host a 0
    | .bad b => (s.hostErr b a false).answer Req.host a 0
    | .reg => (s.busRead Req.host a 4).answer Req.host a
    | .mem =>
      let r := s.hostPieces (splitTlp a n 0 n)
      r.2.answer Req.host a r.1

/-- HOST_READ: a memory read packet of `n` bytes. -/
def execHostRead (addr : BitVec 26) (n : Fin 513) (s : State) : Out := .next (s.hostTlpRead addr.toNat n)

/-- HOST_UNSUPPORTED: the requester is told Unsupported Request; nothing else happens. -/
def execHostUnsupported (s : State) : Out := .next (if s.hostUp then s.deny Req.host 0 else s)

/-! Resets of the host port (R435). -/

/-- A read of the host under way is abandoned (Table 19-8). -/
def State.abandonReads (s : State) : State :=
  s.setSlates fun x => { x with link := { x.link with
      reads := x.link.reads.map fun r => if r.req = Req.host then { r with req := noReq } else r
      waiting := x.link.waiting.filter fun r => r.req ≠ Req.host } }

/-- The MSI-X table returns to its reset values and every pending raise is dropped. -/
def State.clearMsix (s : State) : State :=
  s.keepRegs fun a =>
    !(decide (P.host + 0x400 ≤ a) && decide (a < P.host + 0x800)) && a != P.host + R.HOST_MSIX_PBA_LO && a != P.host + R.HOST_MSIX_PBA_HI

/-- What FLR, PERST_N and a link-down each do to the host port. -/
def State.hostReset (s : State) : State :=
  let s := (s.err P.host E.host_LINK_DOWN).abandonReads.clearMsix
  let s := ((s.setb P.host F.HOST_STATUS_BME false).setb P.host F.HOST_STATUS_MSIX_EN false).setb P.host F.HOST_STATUS_FMASK false
  let m := (List.range 8).foldl (fun m d => if s.nqHost d then m + 2 ^ d else m) 0
  let s := s.setNet fun n => { n with stopT := n.stopT ||| m, stopR := n.stopR ||| m }
  s.when (match s.boot.job with
    | some v => s.flag P.amber F.AMBER_SRC_HI_HOST && decide (bits v 24 4 ≤ 2)
    | none => false) State.abortAmber

/-- The link is no longer up. -/
def State.hostLinkDown (s : State) : State :=
  ((s.hostReset.setb P.host F.HOST_STATUS_LINK_UP false).setf P.host F.HOST_STATUS_WIDTH 0).setf P.host F.HOST_STATUS_SPEED 0

def execFlr (s : State) : Out := .next (if s.hostUp then s.hostReset else s)
def execPerst (s : State) : Out := .next s.hostLinkDown
def execPcieLinkDown (s : State) : Out := .next (if s.hostUp then s.hostLinkDown else s)

/-- Training completes, from SAFE_HOLD on (Table 18-3): at generation `gen` + 1, on one lane or two. -/
def execPcieLinkUp (gen : Fin 3) (x2 : Bool) (s : State) : Out :=
  .next (if s.stage = 0 then s
    else ((s.setb P.host F.HOST_STATUS_LINK_UP true).setf P.host F.HOST_STATUS_WIDTH (1 + x2.toNat)).setf P.host F.HOST_STATUS_SPEED (gen + 1))

/-- A configuration write of Bus Master Enable, MSI-X Enable and the Function Mask. -/
def execPcieConfigWrite (bme msix fmask : Bool) (s : State) : Out :=
  .next (if s.hostUp then
      (((s.setb P.host F.HOST_STATUS_BME bme).setb P.host F.HOST_STATUS_MSIX_EN msix).setb P.host F.HOST_STATUS_FMASK fmask).sendPending
    else s)

/-- MSIX_UNMASK: the mask of vector v is written with 0 (R436). -/
def execMsixUnmask (v : Fin 64) (s : State) : Out := .next (s.writeReg Req.host (P.host + R.HOST_MSIX_CTRL v) 0)

/-! DMA (R438). -/

/-- A device read of host memory fails: a refusal; a descriptor that cannot be read stays at HEAD, and its ring stops. -/
def State.dmaFail (s : State) : DmaRead → State
  | .tx d desc => if s.nqHost d then s.txFetch d ⟨desc, none⟩ else s
  | .rx d =>
    let p := P.netq d
    if s.nqHost d && s.flag p F.NQ_CTRL_RX_EN && s.rd (p + R.NQ_RX_HEAD) != s.rd (p + R.NQ_RX_TAIL) % 2 ^ 10 && bits s.net.stopR d 1 == 0 then
      (s.dmaErr E.host_DMA_TMO d (s.rd64 p R.NQ_RX_BASE_LO / 32 * 32 + 32 * s.rd (p + R.NQ_RX_HEAD)) (Req.queue d) false).setNet fun n =>
        { n with stopR := n.stopR ||| 2 ^ d.val }
    else s
  | .amber => match s.boot.job with
    | some v => if bits v 24 4 = 1 ∧ s.flag P.amber F.AMBER_SRC_HI_HOST then s.amberDo v ⟨false, false, 0⟩ none else s
    | none => s

def execDmaTmo (r : DmaRead) (s : State) : Out := .next (s.dmaFail r)

/-! The management agent (R439-R442). -/

def State.setMgmt (s : State) (f : MgmtState → MgmtState) : State := { s with mgmt := f s.mgmt }

abbrev MgmtFrame.type (f : MgmtFrame) : Nat := field f.body 0 1 % 16
abbrev MgmtFrame.count (f : MgmtFrame) : Nat := field f.body 2 2
abbrev MgmtFrame.seq (f : MgmtFrame) : Nat := field f.body 4 4
abbrev MgmtFrame.addr (f : MgmtFrame) : Nat := field f.body 8 4

/-- Bytes of the payload, tag included (Table 19-7). -/
def MgmtFrame.size (f : MgmtFrame) : Nat := 24 + (if f.type = 2 then 4 * f.count else 0) + 16

/-- Check 1: version, type, and a length that covers DATA and TAG. -/
def MgmtFrame.formed (f : MgmtFrame) : Bool :=
  field f.body 0 1 / 16 == 1 && decide (1 ≤ f.type ∧ f.type ≤ 3 ∧ f.size ≤ f.body.length) &&
    (if f.type = 3 then f.count == 0 else decide (1 ≤ f.count ∧ f.count ≤ 64))

/-- A payload is discarded. -/
def State.mgmtReject (s : State) (f : Fld) : State := (s.inc P.host f).err P.host E.host_MGMT_REJ

/-- The epoch of this Granite reset. -/
def State.mgmtEpoch (s : State) : Nat := (Config.epochDraw s.mgmt.epoch).toNat

/-- A reply leaves on the port that received the request. -/
def State.mgmtSend (s : State) (f : MgmtFrame) (payload : List Byte) : State := match fin? 4 f.port with
  | some p => s.agentSend 0 [p] f.src (s.fld P.host F.HOST_MGMT_CTRL_ETYPE) payload
  | none => s

/-- The payload of a reply (Table 19-7). -/
def State.mgmtReply (s : State) (f : MgmtFrame) (status index : Nat) (data : List Word) : List Byte :=
  [0x18, 0] ++ bytesOf 2 data.length ++ bytesOf 4 f.seq ++ bytesOf 4 f.addr ++ bytesOf 4 s.mgmtEpoch ++ bytesOf 2 status ++
    bytesOf 2 index ++ [0, 0, 0, 0] ++ data.flatMap (fun w => bytesOf 4 w.toNat) ++ bytesOf 16 f.tag

/-- STATUS: four words, and nothing changes. -/
def State.mgmtStatus (s : State) (f : MgmtFrame) : State :=
  let w (a : Nat) : Word := BitVec.ofNat 32 (s.view a false)
  s.mgmtSend f (s.mgmtReply f 0 0 [w (P.sys + R.SYS_STATE), w (P.fault + R.FAULT_STATUS), w (P.amber + R.AMBER_STATUS), w (P.host + R.HOST_MGMT_SEQ)])

/-- The request in progress ends: its reply is stored and sent. -/
def State.mgmtEnd (s : State) (j : MgmtJob) (status : Nat) : State :=
  let r := s.mgmtReply j.f status (if status = 0 then 0 else j.i) j.data
  (s.setMgmt fun m => { m with job := none, reply := r }).mgmtSend j.f r

/-- A payload in turn: the checks of R441, in order. -/
def State.mgmtStart (s : State) (f : MgmtFrame) : State :=
  let peer := s.rd (P.host + R.HOST_MGMT_PEER_LO) + s.rd (P.host + R.HOST_MGMT_PEER_HI) % 2 ^ 16 * 2 ^ 32
  let last := s.rd (P.host + R.HOST_MGMT_SEQ)
  if !f.formed ∨ (peer ≠ 0 ∧ peer ≠ f.src) ∨ !f.tagOk then s.mgmtReject F.HOST_MGMT_CNT_AUTH
  else if f.type = 3 then s.mgmtStatus f
  else if field f.body 12 4 ≠ s.mgmtEpoch then s.mgmtReject F.HOST_MGMT_CNT_SEQ
  else if last < f.seq then
    (s.wr (P.host + R.HOST_MGMT_SEQ) f.seq).setMgmt fun m => { m with last := f.body.take f.size, job := some { f := f } }
  else if f.seq = last ∧ f.body.take f.size = s.mgmt.last then (s.inc P.host F.HOST_MGMT_CNT_DUP).mgmtSend f s.mgmt.reply
  else s.mgmtReject F.HOST_MGMT_CNT_SEQ

/-- One word of the request in progress (R442). -/
def State.mgmtWord (s : State) (j : MgmtJob) : State :=
  let a := j.f.addr + 4 * j.i
  let next (s : State) (d : List Word) : State := s.setMgmt fun m => { m with job := some { j with i := j.i + 1, data := j.data ++ d, wait := false } }
  if j.wait then next s [BitVec.ofNat 32 (s.answerOf Req.mgmt a)]
  else if j.f.count ≤ j.i then s.mgmtEnd j 0
  else if a % 4 ≠ 0 then s.mgmtEnd j 2
  else if !s.absent a && regionAt a == .unmapped then s.mgmtEnd j 3
  else
    let r := if j.f.type = 2 then s.busWrite Req.mgmt a 4 (field j.f.body (24 + 4 * j.i) 4) else s.busRead Req.mgmt a 4
    if r.refused then r.st.mgmtEnd j 1
    else if j.f.type = 2 then next r.st []
    else match r.val with
      | some v => next r.st [BitVec.ofNat 32 v]
      | none => r.st.setMgmt fun m => { m with job := some { j with wait := true } }

/-- The agent works, at most `n` steps: on the request in progress, else on the payload that waits longest; it waits for a forwarded
read. After step 3 of a save nothing more is carried out and no reply sent (Table 19-8). -/
def State.mgmtRun (s : State) : Nat → State
  | 0 => s
  | n + 1 =>
    if s.power.save.isSome || s.power.wait then s.setMgmt fun m => { m with todo := [], job := none }
    else match s.mgmt.job with
      | some j => if j.wait && s.readOut Req.mgmt then s else (s.mgmtWord j).mgmtRun n
      | none => match s.mgmt.todo with
        | [] => s
        | f :: l => ((s.setMgmt fun m => { m with todo := l }).mgmtStart f).mgmtRun n

/-- A frame reaches the agent, while it is enabled, from BASIC on (R439). -/
def State.mgmtTake (s : State) (f : MgmtFrame) : State :=
  if s.flag P.host F.HOST_MGMT_CTRL_EN && decide (2 ≤ s.stage) then
    (s.setMgmt fun m => { m with todo := m.todo ++ [f] }).mgmtRun 68
  else s

/-- MGMT_READ: a frame whose payload has TYPE 1. -/
def execMgmtRead (p : Fin 4) (src : BitVec 48) (body : List Byte) (tagOk : Bool) (tag : BitVec 128) (s : State) : Out :=
  .next (if field body 0 1 % 16 = 1 then s.mgmtTake ⟨p, src.toNat, body, tagOk, tag.toNat⟩ else s)

/-- MGMT_WRITE: TYPE 2. -/
def execMgmtWrite (p : Fin 4) (src : BitVec 48) (body : List Byte) (tagOk : Bool) (tag : BitVec 128) (s : State) : Out :=
  .next (if field body 0 1 % 16 = 2 then s.mgmtTake ⟨p, src.toNat, body, tagOk, tag.toNat⟩ else s)

/-- MGMT_STATUS: TYPE 3; a payload of any other type is discarded here (R441). -/
def execMgmtStatus (p : Fin 4) (src : BitVec 48) (body : List Byte) (tagOk : Bool) (tag : BitVec 128) (s : State) : Out :=
  .next (if field body 0 1 % 16 = 1 ∨ field body 0 1 % 16 = 2 then s
    else s.mgmtTake ⟨p, src.toNat, body, tagOk, tag.toNat⟩)

end Sys2Proof.Machine
end

