-- ==== Sys2Proof/Machine/Boot.lean ====
section
/-! DEFINITION. Service stages, boot code, the image loader and the restore (R29, R174, R322, R398, R412, R413, R421, R422). -/
namespace Sys2Proof.Machine
open Sys2Proof

/-- One tick of an idle device: the clocks advance and the management agent works on (log 6). -/
def State.idle (s : State) : State := s.tickOn.mgmtRun 68

/-- Microseconds since the release of reset, saturating (R412). -/
def State.sinceReset (s : State) : Nat := min ((s.now - s.power.rel) * 2 / 625) (2 ^ 32 - 1)

/-- A stage is entered, and its time recorded. -/
def State.enterStage (s : State) (st timeReg : Nat) : State := (s.setf P.sys F.SYS_STATE_STATE st).wr (P.sys + timeReg) s.sinceReset

/-- SAFE_HOLD: reset released, system PLL locked, Flint's self-test passed. -/
def execEnterSafeHold (s : State) : Out :=
  .next (if s.stage = 0 ∧ !s.power.held ∧ s.flag P.clk F.CLK_STATUS_SYS_LOCK ∧ s.safety.flintOk then s.enterStage 1 R.SYS_T_SAFE else s)

/-! Boot code (R398). -/

/-- The boot record is read: a trial that has been tried falls back, one that has not is counted and its timer starts (R399). -/
def State.readBoot (s : State) : State :=
  if s.boot.read then s
  else
    let r := s.boot.record
    let back := r.trial && decide (1 ≤ r.tries)
    let r := if back then { r with active := r.prev, trial := false } else if r.trial then { r with tries := r.tries + 1 } else r
    let end_ := if r.trial then some (s.now + 312500000 * min 3600 (max 10 r.tmo)) else none
    let s := s.setBoot fun b => { (b.writeRecord r) with read := true, wait := r.host, trialEnd := end_ }
    let s := s.setb P.amber F.AMBER_STATUS_TRIAL r.trial
    (s.when back fun s => s.setb P.amber F.AMBER_STATUS_FELL_BACK true).errIf back P.amber E.amber_FELL_BACK

/-- The hash of every block of a type is right. -/
def State.hashOk (s : State) (slot : Bool) (x : ImageCheck) (type : Nat) : Bool :=
  (s.blocks slot).all fun e => e.2.type != type || x.hash.getLsbD e.1

/-- A slot marked invalid in the boot record. -/
def AmberState.badSlot (b : AmberState) (slot : Bool) : Bool := bits b.record.bad slot.toNat 1 == 1
def AmberState.markBad (b : AmberState) (slot : Bool) : AmberState := b.writeRecord { b.record with bad := b.record.bad ||| 2 ^ slot.toNat }

/-- A block has a wrong hash: the slot is marked invalid; with the other slot's header valid Granite is reset. -/
def State.badBlock (s : State) (slot other : Bool) : State :=
  let s := (s.setBoot fun b => b.markBad slot).err P.amber E.amber_IMG_BAD
  if other && !s.boot.badSlot (!slot) then s.graniteReset Cause.image false else s.setPower fun p => { p with failed := true }

/-- The bytes of the first block of a type; empty where the image has none. -/
def State.typeBytes (s : State) (slot : Bool) (type : Nat) : List Byte :=
  (((s.blocks slot).find? fun e => e.2.type == type).map fun e => s.blockBytes slot e.2).getD []

/-- The slots boot code tries, in order: the one BOOT names, or ACTIVE and the other (log 43). -/
def State.candidates (s : State) : List Bool :=
  if s.boot.wait then s.boot.want.toList
  else [s.boot.record.active, !s.boot.record.active].filter fun x => !s.boot.badSlot x

/-- A slot is selected, and both channels receive the safety configuration. -/
def State.selectSlot (s : State) (a b : ImageCheck) : State :=
  let chk (slot : Bool) : ImageCheck := if slot then b else a
  match s.candidates.find? fun x => s.headerCode x (chk x) == 0 && s.hashOk x (chk x) 1 with
  | none => s.setBoot fun b => { b with wait := true, want := none }
  | some x =>
    let back := x != s.boot.record.active && !s.boot.wait
    let s := (s.setBoot fun b => { b with booted := some x, wait := false, want := none }).setb P.amber F.AMBER_STATUS_ACTIVE x
    let s := (s.when back fun s => s.setb P.amber F.AMBER_STATUS_FELL_BACK true).errIf back P.amber E.amber_FELL_BACK
    if s.hashOk x (chk x) 3 && s.hashOk x (chk x) 4 then s.safetyLoad (s.typeBytes x 3)
    else s.badBlock x (s.headerCode (!x) (chk (!x)) == 0)

/-! The BASIC block (R413). -/

/-- The early writes, as domain 0. -/
def State.earlyWrites (s : State) (l : List Byte) : State :=
  forEach (recsOf l (field l 8 4) 8 (field l 4 4)) s fun r s => (s.busWrite Req.boot (field r 0 4) 4 (field r 4 4)).st

/-- Registers that an axis record names, with their offsets in it. -/
def axisRegs : List (Nat × Nat) :=
  [(R.LOOP_K_ANG, 4), (R.LOOP_ANG_OFS, 8), (R.LOOP_HALL_ANG01, 12), (R.LOOP_HALL_ANG23, 16), (R.LOOP_HALL_ANG45, 20), (R.LOOP_K_INT, 24),
   (R.LOOP_SPD_K, 28), (R.LOOP_SHIFT, 32), (R.LOOP_CMP_SCALE, 36)]

/-- One axis record (R174). -/
def State.axisRecord (s : State) (r : List Byte) : State :=
  match axis? (field r 0 1) with
  | none => s
  | some a =>
    if !s.fitted (slateOf a) then s
    else
      let w (o : Nat) : Nat := field r o 4
      let s := s.plain .loop a R.LOOP_ANG_CFG (field r 3 1)
      let s := forEach axisRegs s fun e s => s.plain .loop a e.1 (w e.2)
      let s := s.plain .profile a R.PRF_ILIM (w 68)
      s.loadBasic a (field r 1 1) (field r 2 1 + 1)
        [[w 40, w 44], [], [], [], [w 48, w 52], [w 48, w 52], [w 56, w 60], [w 64]]

/-- Bytes of the block into BAR0 memory. -/
def State.loadMem (s : State) (a : Nat) (l : List Byte) (off n : Nat) : State := s.storeBytes a ((l.drop off).take n)

/-- One engine record: an engine below 510 that domain 0 owns is loaded, released and started. -/
def State.engRecord (s : State) (l r : List Byte) : State :=
  match fin? 512 (field r 0 2) with
  | none => s
  | some e =>
    if 509 < e.val ∨ s.ownerReg (P.engine e) ≠ 0 then s
    else
      let base := 0x2000000 + 0x10000 * e.val
      let s := s.loadMem base l (field r 4 4) (4 * min 4096 (field r 8 2))
      let s := s.loadMem (base + 0x4000) l (field r 12 4) (min 0x4000 (field r 16 2))
      let s := s.loadMem (base + 0x8000) l (field r 20 4) (min 0x4000 (field r 24 2))
      let s := s.plain .engine e R.ENG_START_PC (field r 2 2)
      let s := s.writeEngine e R.ENG_WDOG (field r 28 4)
      (s.engRelease e).engRun e false

/-- The three steps of R413. -/
def State.applyBasic (s : State) (l : List Byte) : State :=
  let s := s.earlyWrites l
  let s := forEach (recsOf l (field l 12 4) 80 (field l 1 1)) s fun r s => s.axisRecord r
  forEach (recsOf l (field l 16 4) 32 (field l 2 1)) s fun r s => s.engRecord l r

/-- The safety condition for leaving SAFE_HOLD (R29, R323, R330). -/
def State.basicReady (s : State) : Bool :=
  s.safety.held && (!s.safety.cfg.en || (s.safety.a.run && decide (4 ≤ s.safety.a.agree)))

/-- ENTER_BASIC: boot code goes as far as it can; `a`, `b`: what the hash and signature units find of the slots. -/
def execEnterBasic (a b : ImageCheck) (s : State) : Out :=
  .next (if s.stage ≠ 1 then s
    else
      let s := s.readBoot
      let s := if s.boot.booted.isNone then s.selectSlot a b else s
      match s.boot.booted with
      | some x => if s.basicReady then ((s.enterStage 2 R.SYS_T_BASIC).wdogKick.safeAct).applyBasic (s.typeBytes x 1) else s
      | none => s)

/-! The full images (R398). -/

/-- The pairs of a CONFIG block. -/
def State.applyConfig (s : State) (l : List Byte) : State :=
  forEach (recsOf l 0 8 (l.length / 8)) s fun r s => (s.busWrite Req.boot (field r 0 4) 4 (field r 4 4)).st

/-- A byte of a LOAD record, into a memory that domain `d` owns. -/
def State.loadByte (s : State) (d a : Nat) (b : Byte) : State := match regionAt a with
  | .desc g => if d = 0 ∨ s.ownsDesc d g (a % 0x40000 / 64 - 0x80) then s.descWrite a 1 b.toNat else s
  | .shm g => if s.shmDom (16 * g + (a - 0xC00000) % 0x40000 / 0x4000) = d then s.setByte a b else s
  | .engMem e => if s.ownerReg (P.engine e) = d ∧ !s.engSafety e then (fin? 512 e).elim s fun e => s.engMemWrite e a 1 b.toNat else s
  | _ => s

/-- The bytes of one record. -/
def State.loadBytes (s : State) (d a : Nat) : List Byte → State
  | [] => s
  | b :: l => (s.loadByte d a b).loadBytes d (a + 1) l

/-- The records of a LOAD block, at most `n`: offset and length of 4 bytes each, then the data (log 42). -/
def State.applyLoad (s : State) (d : Nat) (l : List Byte) : Nat → State
  | 0 => s
  | n + 1 => if l.length < 8 then s
    else (s.loadBytes d (field l 0 4) ((l.drop 8).take (field l 4 4))).applyLoad d (l.drop (8 + field l 4 4)) n

/-- One block after its hash has been found right. -/
def State.applyBlock (s : State) (slot : Bool) (b : Block) : State := match b.type with
  | 2 => s.applyConfig (s.blockBytes slot b)
  | 5 => s.applyLoad (b.dom % 8) (s.blockBytes slot b) b.len
  | _ => s

/-- The blocks in turn; the first wrong hash ends the load. -/
def State.applyBlocks (s : State) (slot : Bool) (x : ImageCheck) (other : Bool) : List (Nat × Block) → State
  | [] => s.setPower fun p => { p with applied := true }
  | (i, b) :: l => if x.hash.getLsbD i then (s.applyBlock slot b).applyBlocks slot x other l else s.badBlock slot other

/-- IMAGE_LOAD: in BASIC the loader checks and applies CONFIG, then LOAD, then the rest. `other`: what the units find of the other slot. -/
def execImageLoad (x other : ImageCheck) (s : State) : Out :=
  .next (match s.boot.booted with
    | none => s
    | some slot =>
      if s.stage ≠ 2 ∨ s.power.applied ∨ s.power.failed then s
      else
        let l := s.blocks slot
        let of (p : Nat → Bool) : List (Nat × Block) := l.filter fun e => p e.2.type
        s.applyBlocks slot x (s.headerCode (!slot) other == 0) (of (· == 2) ++ of (· == 5) ++ of fun t => t == 3 || t == 4 || t == 6))

/-! The restore (R421, R422). -/

/-- Why nothing is restored, as PWR_REST_STAT codes it; 1: everything holds. -/
def State.restoreCode (s : State) : Nat :=
  let b := Save.base
  if !s.flag P.pwr F.PWR_CFG_RESTORE_EN then 6
  else if !s.saveRecord then 2
  else if s.aload (Save.commit + 8) 4 ≠ s.amberCrc Save.base 0x10000 ∨ s.aload (Save.commit + 12) 4 ≠ s.amberCrc Save.table 0x800000 then 3
  else if s.aload b 4 ≠ 0x56415348 ∨ s.aload (b + 4) 2 ≠ 1 then 4
  else if (List.finRange 8).any fun d => s.aload (b + 64 + 4 * d) 4 != s.rd (P.track + R.TRACK_RGN d) then 5
  else 1

/-- The tracking table is written back. -/
def State.restoreTable (s : State) : State :=
  let t := (s.amber.filter fun e => decide (Save.table ≤ e.1) && decide (e.1 < Save.commit)).map fun e => (e.1 - 0x620000, e.2)
  { s with mem := (s.mem.filter fun e => decide (e.1 < 0x1000000)) ++ t ++ (s.mem.filter fun e => decide (0x1800000 ≤ e.1)) }

/-- A saved segment. -/
def State.savedSeg (s : State) (w : Nat) : TrunkSeg :=
  ⟨s.aload w 8, s.aload (w + 8) 8, Vector.ofFn fun j => toSigned 64 (s.aload (w + 16 + 8 * j) 8)⟩

/-- A trunk record; a segment that was active waits for its time again. -/
def State.restoreTrunk (s : State) (k : Fin 8) : State :=
  let w := Save.base + 0x1100 + 0x400 * k
  if bits (s.aload w 4) 2 2 ≠ s.trkSrc k then s
  else
    let q := (if s.aload (w + 112) 1 = 1 then [s.savedSeg (w + 128)] else []) ++
      (List.range (min 16 (s.aload (w + 113) 1))).map fun j => s.savedSeg (w + 176 + 48 * j)
    let y := if s.aload (w + 114) 1 = 1 then some (toSigned 64 (s.aload (w + 944) 8), s.now) else none
    let s := forEach ((List.range 28).filter (· ≠ 1)) s fun j t => t.wr (P.trunk k + 0x020 + 4 * j) (t.aload (w + 4 * j) 4)
    ((s.setTrunk k fun _ => ⟨q, none, y⟩).trkValid k false).trkCounts k

/-- A tooth-unit record (R422). -/
def State.restoreTooth (s : State) (t : Fin 16) : State :=
  let w := Save.base + 0x3100 + 32 * t
  let s := s.setTooth t fun u => { u with pos := s.aload w 4, turn := s.aload (w + 4) 4, texp := none }
  (s.when (s.toothOn t) fun s => s.toothSearch t).setTooth t fun u => { u with restored := true }

/-- The branch registers of an axis record. -/
def State.restoreAxis (s : State) (a : Fin 64) : State :=
  let w := Save.base + 0x100 + 64 * a
  let p := P.profile a
  (((s.wr (p + R.BR_NUM) (s.aload (w + 32) 4)).wr (p + R.BR_DEN) (s.aload (w + 36) 4)).wr (p + R.BR_CTRL) (s.aload (w + 48) 4)).wr64 p
    R.BR_OFS_LO (s.aload (w + 40) 8)

/-- Steps 1 to 7 of R421. -/
def State.restore (s : State) (us : Nat) : State :=
  let s := s.restoreTable.trackRestore
  let s := forEach (List.finRange 8) s fun k s => s.restoreTrunk k
  let s := forEach (List.finRange 16) s fun t s => s.restoreTooth t
  let s := forEach (List.finRange 64) s fun a s => if s.fitted (slateOf a) then s.restoreAxis a else s
  let s := forEach (List.finRange 8) s fun k s => s.wr (P.handover k + R.HO_XFER) (s.aload (Save.base + 0x3300 + 4 * k) 4)
  ((s.azero Save.commit 64).wr (P.pwr + R.PWR_REST_STAT) (2 ^ 28 + us)).setb P.sys F.SYS_STATE_RESTORED true

/-- RESTORE ends, after `us` microseconds. -/
def execRestore (us : BitVec 16) (s : State) : Out :=
  .next (if s.stage ≠ 2 ∨ !s.power.applied ∨ s.power.restored then s
    else
      let c := s.restoreCode
      (if c = 1 then s.restore us.toNat else (s.wr (P.pwr + R.PWR_REST_STAT) (c * 2 ^ 28)).err P.pwr E.pwr_REST_SKIP).setPower fun p =>
        { p with restored := true })

/-- FULL: the images applied and the restore over, every fitted Slate calibrated and aligned, time locked. -/
def execEnterFull (s : State) : Out :=
  .next (if s.stage = 2 ∧ s.power.applied ∧ s.power.restored ∧ s.allCal ∧ s.timeLocked ∧ s.allAligned then s.enterStage 3 R.SYS_T_FULL else s)

end Sys2Proof.Machine
end

