-- ==== Sys2Proof/Machine/Dispatch.lean ====
section
/-! DEFINITION. One arm per constructor of Instr: the meaning of each command, or its rejection by name. -/
namespace Sys2Proof.Machine
open Sys2Proof

def exec (i : Instr) (s : State) : Host.Outcome State Fault Refusal :=
  match i with
  | .samplingInstant a edge => Sys2Proof.Machine.execSamplingInstant a edge s
  | .conversionComplete a iu iv iw vbus => Sys2Proof.Machine.execConversionComplete a iu iv iw vbus s
  | .downstreamFrame sl rx => Sys2Proof.Machine.execDownstreamFrame sl rx s
  | .upstreamFrame sl rx => Sys2Proof.Machine.execUpstreamFrame sl rx s
  | .downstreamFrameSend sl => Sys2Proof.Machine.execDownstreamFrameSend sl s
  | .upstreamFrameSend sl => Sys2Proof.Machine.execUpstreamFrameSend sl s
  | .evaluationStart a => Sys2Proof.Machine.execEvaluationStart a s
  | .updateInstant a => Sys2Proof.Machine.execUpdateInstant a s
  | .enterSafeHold => Sys2Proof.Machine.execEnterSafeHold s
  | .enterBasic a b => Sys2Proof.Machine.execEnterBasic a b s
  | .enterFull => Sys2Proof.Machine.execEnterFull s
  | .refSel v => Sys2Proof.Machine.execRefSel v s
  | .refclkLoss cab => Sys2Proof.Machine.execRefclkLoss cab s
  | .holdoverExpiry => Sys2Proof.Machine.execHoldoverExpiry s
  | .altDevMeasure ppm => Sys2Proof.Machine.execAltDevMeasure ppm s
  | .timeTickLo q => Sys2Proof.Machine.execTimeTickLo q s
  | .timeSubns q => Sys2Proof.Machine.execTimeSubns q s
  | .timeCmtGo v => Sys2Proof.Machine.execTimeCmtGo v s
  | .timeStageWrite r v => Sys2Proof.Machine.execTimeStageWrite r v s
  | .commitTakeEffect => Sys2Proof.Machine.execCommitTakeEffect s
  | .timeMeasOfs v => Sys2Proof.Machine.execTimeMeasOfs v s
  | .netHoldoverExpiry => Sys2Proof.Machine.execNetHoldoverExpiry s
  | .netMaster on => Sys2Proof.Machine.execNetMaster on s
  | .linkDelayMeasured sl => Sys2Proof.Machine.execLinkDelayMeasured sl s
  | .slatePowerUp sl => Sys2Proof.Machine.execSlatePowerUp sl s
  | .slatePowerLoss sl => Sys2Proof.Machine.execSlatePowerLoss sl s
  | .slateSilenceTimeout sl => Sys2Proof.Machine.execSlateSilenceTimeout sl s
  | .linkTimeout sl => Sys2Proof.Machine.execLinkTimeout sl s
  | .release sl => Sys2Proof.Machine.execRelease sl s
  | .safeCmdClear sl => Sys2Proof.Machine.execSafeCmdClear sl s
  | .slateRegWrite q addr v => Sys2Proof.Machine.execSlateRegWrite q addr v s
  | .slateRegRead q addr => Sys2Proof.Machine.execSlateRegRead q addr s
  | .forwardedReadTimeout sl => Sys2Proof.Machine.execForwardedReadTimeout sl s
  | .sidebandSend sl fromFlint halls pts => Sys2Proof.Machine.execSidebandSend sl fromFlint halls pts s
  | .sidebandFrameAtSlate sl rx => Sys2Proof.Machine.execSidebandFrameAtSlate sl rx s
  | .sidebandFrameAtFlint sl rx => Sys2Proof.Machine.execSidebandFrameAtFlint sl rx s
  | .sbDown sl => Sys2Proof.Machine.execSbDown sl s
  | .eventLogRelease => Sys2Proof.Machine.execEventLogRelease s
  | .carrierRun sl v => Sys2Proof.Machine.execCarrierRun sl v s
  | .carrierEdge sl => Sys2Proof.Machine.execCarrierEdge sl s
  | .carrierApplyGo sl v => Sys2Proof.Machine.execCarrierApplyGo sl v s
  | .axisEdge a => Sys2Proof.Machine.execAxisEdge a s
  | .pwmEdge t e otherLow => Sys2Proof.Machine.execPwmEdge t e otherLow s
  | .pwmPhaseWrite a v => Sys2Proof.Machine.execPwmPhaseWrite a v s
  | .delayLineSwap sl ix delta bad => Sys2Proof.Machine.execDelayLineSwap sl ix delta bad s
  | .calDone sl bad => Sys2Proof.Machine.execCalDone sl bad s
  | .pwmEn a v => Sys2Proof.Machine.execPwmEn a v s
  | .prechargeEnd a => Sys2Proof.Machine.execPrechargeEnd a s
  | .tripQualify a src => Sys2Proof.Machine.execTripQualify a src s
  | .tripLatchClear a => Sys2Proof.Machine.execTripLatchClear a s
  | .chopPeriodStart sl => Sys2Proof.Machine.execChopPeriodStart sl s
  | .chopTrip sl ocp => Sys2Proof.Machine.execChopTrip sl ocp s
  | .timerTrigger sl code => Sys2Proof.Machine.execTimerTrigger sl code s
  | .timerWindowOpen sl n => Sys2Proof.Machine.execTimerWindowOpen sl n s
  | .timerWindowClose sl n => Sys2Proof.Machine.execTimerWindowClose sl n s
  | .gatePhaseAdvance sl ix => Sys2Proof.Machine.execGatePhaseAdvance sl ix s
  | .tonTmo sl ix => Sys2Proof.Machine.execTonTmo sl ix s
  | .turnOnRelease sl ix => Sys2Proof.Machine.execTurnOnRelease sl ix s
  | .glock sl ix => Sys2Proof.Machine.execGlock sl ix s
  | .vgdLockout sl enter => Sys2Proof.Machine.execVgdLockout sl enter s
  | .vgdUvReport sl => Sys2Proof.Machine.execVgdUvReport sl s
  | .bstLockout sl k enter => Sys2Proof.Machine.execBstLockout sl k enter s
  | .otShut sl enter => Sys2Proof.Machine.execOtShut sl enter s
  | .desatReport sl ix on => Sys2Proof.Machine.execDesatReport sl ix on s
  | .ocpAssert sl ph on => Sys2Proof.Machine.execOcpAssert sl ph on s
  | .adcCalGo sl mask => Sys2Proof.Machine.execAdcCalGo sl mask s
  | .adcCalComplete sl n u v w => Sys2Proof.Machine.execAdcCalComplete sl n u v w s
  | .backgroundConversion sl ch k v => Sys2Proof.Machine.execBackgroundConversion sl ch k v s
  | .hallChange a lands t0 => Sys2Proof.Machine.execHallChange a lands t0 s
  | .abzEdge a la lb t0 => Sys2Proof.Machine.execAbzEdge a la lb t0 s
  | .index a t0 => Sys2Proof.Machine.execIndex a t0 s
  | .fbModeWrite a v lands => Sys2Proof.Machine.execFbModeWrite a v lands s
  | .serialRequest a => Sys2Proof.Machine.execSerialRequest a s
  | .serialReading a start raw raw2 => Sys2Proof.Machine.execSerialReading a start raw raw2 s
  | .fbPosRead q a => Sys2Proof.Machine.execFbPosRead q a s
  | .preset a => Sys2Proof.Machine.execPreset a s
  | .fbWrapWrite a v => Sys2Proof.Machine.execFbWrapWrite a v s
  | .fbStill a => Sys2Proof.Machine.execFbStill a s
  | .virtualTooth t => Sys2Proof.Machine.execVirtualTooth t s
  | .toothStill t => Sys2Proof.Machine.execToothStill t s
  | .toothEnable t v => Sys2Proof.Machine.execToothEnable t v s
  | .research t => Sys2Proof.Machine.execResearch t s
  | .toothPosRead q t => Sys2Proof.Machine.execToothPosRead q t s
  | .ecallReply g => Sys2Proof.Machine.execEcallReply g s
  | .ecallTmo a => Sys2Proof.Machine.execEcallTmo a s
  | .apply a => Sys2Proof.Machine.execApply a s
  | .graphValidate a => Sys2Proof.Machine.execGraphValidate a s
  | .descriptorWrite q g off sz v => Sys2Proof.Machine.execDescriptorWrite q g off sz v s
  | .holdRelease a => Sys2Proof.Machine.execHoldRelease a s
  | .descriptorWritesApply a => Sys2Proof.Machine.execDescriptorWritesApply a s
  | .loopRun a on => Sys2Proof.Machine.execLoopRun a on s
  | .loopPosLoRead q a => Sys2Proof.Machine.execLoopPosLoRead q a s
  | .luDescRangeWrite g j v => Sys2Proof.Machine.execLuDescRangeWrite g j v s
  | .engRst e => Sys2Proof.Machine.execEngRst e s
  | .engRstRelease e => Sys2Proof.Machine.execEngRstRelease e s
  | .engGo e => Sys2Proof.Machine.execEngGo e s
  | .engStep e => Sys2Proof.Machine.execEngStep e s
  | .engHalt e => Sys2Proof.Machine.execEngHalt e s
  | .engineWake e => Sys2Proof.Machine.execEngineWake e s
  | .exceptionEntry e => Sys2Proof.Machine.execExceptionEntry e s
  | .breakpointMatch e => Sys2Proof.Machine.execBreakpointMatch e s
  | .engWdogExpiry e => Sys2Proof.Machine.execEngWdogExpiry e s
  | .ioWdogKick e => Sys2Proof.Machine.execIoWdogKick e s
  | .ioCallPop e => Sys2Proof.Machine.execIoCallPop e s
  | .ioMailPop e => Sys2Proof.Machine.execIoMailPop e s
  | .sendReply e len => Sys2Proof.Machine.execSendReply e len s
  | .sendMail e t len => Sys2Proof.Machine.execSendMail e t len s
  | .sendHostMail e len => Sys2Proof.Machine.execSendHostMail e len s
  | .engMailSend e len => Sys2Proof.Machine.execEngMailSend e len s
  | .engHmailPop e => Sys2Proof.Machine.execEngHmailPop e s
  | .engDbgDataWrite e v => Sys2Proof.Machine.execEngDbgDataWrite e v s
  | .engPcWrite e v => Sys2Proof.Machine.execEngPcWrite e v s
  | .externalMemoryWrite q addr sz v => Sys2Proof.Machine.execExternalMemoryWrite q addr sz v s
  | .ioCycleLoRead e => Sys2Proof.Machine.execIoCycleLoRead e s
  | .sharedReadComplete e => Sys2Proof.Machine.execSharedReadComplete e s
  | .fabricReadComplete e => Sys2Proof.Machine.execFabricReadComplete e s
  | .modeWriteTakeEffect e => Sys2Proof.Machine.execModeWriteTakeEffect e s
  | .mov e => Sys2Proof.Machine.execMov e s
  | .add e => Sys2Proof.Machine.execAdd e s
  | .sub e => Sys2Proof.Machine.execSub e s
  | .adds e => Sys2Proof.Machine.execAdds e s
  | .subs e => Sys2Proof.Machine.execSubs e s
  | .andOp e => Sys2Proof.Machine.execAndOp e s
  | .orOp e => Sys2Proof.Machine.execOrOp e s
  | .xor e => Sys2Proof.Machine.execXor e s
  | .andn e => Sys2Proof.Machine.execAndn e s
  | .shl e => Sys2Proof.Machine.execShl e s
  | .shr e => Sys2Proof.Machine.execShr e s
  | .sar e => Sys2Proof.Machine.execSar e s
  | .mul e => Sys2Proof.Machine.execMul e s
  | .mulf e => Sys2Proof.Machine.execMulf e s
  | .minOp e => Sys2Proof.Machine.execMinOp e s
  | .maxOp e => Sys2Proof.Machine.execMaxOp e s
  | .abs e => Sys2Proof.Machine.execAbs e s
  | .neg e => Sys2Proof.Machine.execNeg e s
  | .clz e => Sys2Proof.Machine.execClz e s
  | .cmp e => Sys2Proof.Machine.execCmp e s
  | .addi e => Sys2Proof.Machine.execAddi e s
  | .andi e => Sys2Proof.Machine.execAndi e s
  | .ori e => Sys2Proof.Machine.execOri e s
  | .xori e => Sys2Proof.Machine.execXori e s
  | .cmpi e => Sys2Proof.Machine.execCmpi e s
  | .shi e => Sys2Proof.Machine.execShi e s
  | .movil e => Sys2Proof.Machine.execMovil e s
  | .movih e => Sys2Proof.Machine.execMovih e s
  | .ld e => Sys2Proof.Machine.execLd e s
  | .st e => Sys2Proof.Machine.execSt e s
  | .sta e => Sys2Proof.Machine.execSta e s
  | .mac e => Sys2Proof.Machine.execMac e s
  | .msu e => Sys2Proof.Machine.execMsu e s
  | .mpy e => Sys2Proof.Machine.execMpy e s
  | .ldp e => Sys2Proof.Machine.execLdp e s
  | .aclr e => Sys2Proof.Machine.execAclr e s
  | .amov e => Sys2Proof.Machine.execAmov e s
  | .aadd e => Sys2Proof.Machine.execAadd e s
  | .asub e => Sys2Proof.Machine.execAsub e s
  | .aneg e => Sys2Proof.Machine.execAneg e s
  | .aabs e => Sys2Proof.Machine.execAabs e s
  | .ashl e => Sys2Proof.Machine.execAshl e s
  | .asar e => Sys2Proof.Machine.execAsar e s
  | .aload e => Sys2Proof.Machine.execAload e s
  | .aloadl e => Sys2Proof.Machine.execAloadl e s
  | .ast e => Sys2Proof.Machine.execAst e s
  | .asat e => Sys2Proof.Machine.execAsat e s
  | .arnd e => Sys2Proof.Machine.execArnd e s
  | .nop e => Sys2Proof.Machine.execNop e s
  | .wait e => Sys2Proof.Machine.execWait e s
  | .rete e => Sys2Proof.Machine.execRete e s
  | .brk e => Sys2Proof.Machine.execBrk e s
  | .movs e => Sys2Proof.Machine.execMovs e s
  | .padd e => Sys2Proof.Machine.execPadd e s
  | .mdset e => Sys2Proof.Machine.execMdset e s
  | .mdclr e => Sys2Proof.Machine.execMdclr e s
  | .b e => Sys2Proof.Machine.execB e s
  | .br e => Sys2Proof.Machine.execBr e s
  | .call e => Sys2Proof.Machine.execCall e s
  | .callr e => Sys2Proof.Machine.execCallr e s
  | .loopOp e => Sys2Proof.Machine.execLoopOp e s
  | .lpop e => Sys2Proof.Machine.execLpop e s
  | .setpointCompute a => Sys2Proof.Machine.execSetpointCompute a s
  | .move a => Sys2Proof.Machine.execMove a s
  | .vel a => Sys2Proof.Machine.execVel a s
  | .gear a => Sys2Proof.Machine.execGear a s
  | .stop a => Sys2Proof.Machine.execStop a s
  | .path a => Sys2Proof.Machine.execPath a s
  | .trkEnable k v => Sys2Proof.Machine.execTrkEnable k v s
  | .trkSegPush k => Sys2Proof.Machine.execTrkSegPush k s
  | .flush k => Sys2Proof.Machine.execFlush k s
  | .trkPosRead q k => Sys2Proof.Machine.execTrkPosRead q k s
  | .prfSpRead q a => Sys2Proof.Machine.execPrfSpRead q a s
  | .brOfsNowRead q a => Sys2Proof.Machine.execBrOfsNowRead q a s
  | .insertItem d => Sys2Proof.Machine.execInsertItem d s
  | .insertEvent d => Sys2Proof.Machine.execInsertEvent d s
  | .cancel d ix => Sys2Proof.Machine.execCancel d ix s
  | .delete d ix => Sys2Proof.Machine.execDelete d ix s
  | .shift d ix => Sys2Proof.Machine.execShift d ix s
  | .read d ix => Sys2Proof.Machine.execRead d ix s
  | .heldInsertRelease d => Sys2Proof.Machine.execHeldInsertRelease d s
  | .compareInstant a => Sys2Proof.Machine.execCompareInstant a s
  | .eventFire ix => Sys2Proof.Machine.execEventFire ix s
  | .windowOpen ix => Sys2Proof.Machine.execWindowOpen ix s
  | .notSeen ix => Sys2Proof.Machine.execNotSeen ix s
  | .correctionApply => Sys2Proof.Machine.execCorrectionApply s
  | .rebuild => Sys2Proof.Machine.execRebuild s
  | .rebuildComplete => Sys2Proof.Machine.execRebuildComplete s
  | .merge a => Sys2Proof.Machine.execMerge a s
  | .init => Sys2Proof.Machine.execInit s
  | .trackRgnWrite d v => Sys2Proof.Machine.execTrackRgnWrite d v s
  | .offer k m => Sys2Proof.Machine.execOffer k m s
  | .accept k m => Sys2Proof.Machine.execAccept k m s
  | .refuse k m => Sys2Proof.Machine.execRefuse k m s
  | .commit k m => Sys2Proof.Machine.execCommit k m s
  | .doneMsg k m => Sys2Proof.Machine.execDoneMsg k m s
  | .withdraw k m => Sys2Proof.Machine.execWithdraw k m s
  | .resolve k m => Sys2Proof.Machine.execResolve k m s
  | .hello k dn m => Sys2Proof.Machine.execHello k dn m s
  | .helloSend k => Sys2Proof.Machine.execHelloSend k s
  | .sessionDown k dn => Sys2Proof.Machine.execSessionDown k dn s
  | .hoRetry ix => Sys2Proof.Machine.execHoRetry ix s
  | .commitTmo ix => Sys2Proof.Machine.execCommitTmo ix s
  | .heldCommitTimeout ix => Sys2Proof.Machine.execHeldCommitTimeout ix s
  | .doubtTmo ix => Sys2Proof.Machine.execDoubtTmo ix s
  | .rgnRptPop d => Sys2Proof.Machine.execRgnRptPop d s
  | .fieldInputChange sl j lvl t0 => Sys2Proof.Machine.execFieldInputChange sl j lvl t0 s
  | .pulseWindow sl levels => Sys2Proof.Machine.execPulseWindow sl levels s
  | .fieldVoltageMeasure sl j mv => Sys2Proof.Machine.execFieldVoltageMeasure sl j mv s
  | .stuck sl j => Sys2Proof.Machine.execStuck sl j s
  | .short sl j => Sys2Proof.Machine.execShort sl j s
  | .shortRetry sl j => Sys2Proof.Machine.execShortRetry sl j s
  | .shortClear sl mask => Sys2Proof.Machine.execShortClear sl mask s
  | .openLoad sl j => Sys2Proof.Machine.execOpenLoad sl j s
  | .readbackMismatch sl j land => Sys2Proof.Machine.execReadbackMismatch sl j land s
  | .vfieldUv sl enter => Sys2Proof.Machine.execVfieldUv sl enter s
  | .fioCfgWrite sl j v land => Sys2Proof.Machine.execFioCfgWrite sl j v land s
  | .outputDischarged sl j land => Sys2Proof.Machine.execOutputDischarged sl j land s
  | .fioOutWrite sl data mask => Sys2Proof.Machine.execFioOutWrite sl data mask s
  | .scheduledTransition sl c => Sys2Proof.Machine.execScheduledTransition sl c s
  | .fschMapWrite sl c v => Sys2Proof.Machine.execFschMapWrite sl c v s
  | .fschGo sl c level => Sys2Proof.Machine.execFschGo sl c level s
  | .fschCancel sl c => Sys2Proof.Machine.execFschCancel sl c s
  | .fschSend sl c => Sys2Proof.Machine.execFschSend sl c s
  | .fschDone sl c => Sys2Proof.Machine.execFschDone sl c s
  | .frameReceive p rx => Sys2Proof.Machine.execFrameReceive p rx s
  | .frameStart p => Sys2Proof.Machine.execFrameStart p s
  | .frameSent p sfd => Sys2Proof.Machine.execFrameSent p sfd s
  | .launch p => Sys2Proof.Machine.execLaunch p s
  | .portLinkUp p => Sys2Proof.Machine.execPortLinkUp p s
  | .portLinkDown p hiBer => Sys2Proof.Machine.execPortLinkDown p hiBer s
  | .autoModeSwitch p => Sys2Proof.Machine.execAutoModeSwitch p s
  | .netCfgWrite p v => Sys2Proof.Machine.execNetCfgWrite p v s
  | .ringTestSend r => Sys2Proof.Machine.execRingTestSend r s
  | .ringOpen r => Sys2Proof.Machine.execRingOpen r s
  | .txTailWrite d v => Sys2Proof.Machine.execTxTailWrite d v s
  | .txDescriptorFetch d h => Sys2Proof.Machine.execTxDescriptorFetch d h s
  | .rxTailWrite d v => Sys2Proof.Machine.execRxTailWrite d v s
  | .netTsqPop p => Sys2Proof.Machine.execNetTsqPop p s
  | .netCbsWrite p q v => Sys2Proof.Machine.execNetCbsWrite p q v s
  | .swBufRsvWrite q v => Sys2Proof.Machine.execSwBufRsvWrite q v s
  | .cycleMark count => Sys2Proof.Machine.execCycleMark count s
  | .markMissing => Sys2Proof.Machine.execMarkMissing s
  | .recordA => Sys2Proof.Machine.execRecordA s
  | .recordB => Sys2Proof.Machine.execRecordB s
  | .recordDeadline atFlint => Sys2Proof.Machine.execRecordDeadline atFlint s
  | .lockstepMismatch => Sys2Proof.Machine.execLockstepMismatch s
  | .flintSelfTestFail => Sys2Proof.Machine.execFlintSelfTestFail s
  | .pairDiscrepancy flint pair => Sys2Proof.Machine.execPairDiscrepancy flint pair s
  | .ss1TExpiry z => Sys2Proof.Machine.execSs1TExpiry z s
  | .sbcDlyExpiry f => Sys2Proof.Machine.execSbcDlyExpiry f s
  | .safeReqWrite v => Sys2Proof.Machine.execSafeReqWrite v s
  | .safeBrkReqWrite q hi v => Sys2Proof.Machine.execSafeBrkReqWrite q hi v s
  | .dscReceive p body => Sys2Proof.Machine.execDscReceive p body s
  | .dscDataSend c => Sys2Proof.Machine.execDscDataSend c s
  | .dscConnectSend c => Sys2Proof.Machine.execDscConnectSend c s
  | .dscExpiry c => Sys2Proof.Machine.execDscExpiry c s
  | .tpcWindowExpiry c => Sys2Proof.Machine.execTpcWindowExpiry c s
  | .faultRise ix => Sys2Proof.Machine.execFaultRise ix s
  | .faultSourceClear hi v => Sys2Proof.Machine.execFaultSourceClear hi v s
  | .dssClr => Sys2Proof.Machine.execDssClr s
  | .domHaltRelease mask => Sys2Proof.Machine.execDomHaltRelease mask s
  | .faultLogPop => Sys2Proof.Machine.execFaultLogPop s
  | .partnerReport v => Sys2Proof.Machine.execPartnerReport v s
  | .partnerRecordClose => Sys2Proof.Machine.execPartnerRecordClose s
  | .faultPrPop => Sys2Proof.Machine.execFaultPrPop s
  | .traceEntry r j n => Sys2Proof.Machine.execTraceEntry r j n s
  | .trcArm r => Sys2Proof.Machine.execTrcArm r s
  | .trcStop r => Sys2Proof.Machine.execTrcStop r s
  | .trcForce r => Sys2Proof.Machine.execTrcForce r s
  | .traceTrigger r => Sys2Proof.Machine.execTraceTrigger r s
  | .traceTimeTrigger r => Sys2Proof.Machine.execTraceTimeTrigger r s
  | .trcRgnWrite d v => Sys2Proof.Machine.execTrcRgnWrite d v s
  | .trigInEdge n level tap => Sys2Proof.Machine.execTrigInEdge n level tap s
  | .trigInPop mask => Sys2Proof.Machine.execTrigInPop mask s
  | .tbusPulse mask => Sys2Proof.Machine.execTbusPulse mask s
  | .tbusAt n => Sys2Proof.Machine.execTbusAt n s
  | .tbusEdge n own tap => Sys2Proof.Machine.execTbusEdge n own tap s
  | .tbusPop mask => Sys2Proof.Machine.execTbusPop mask s
  | .tbusCal mask => Sys2Proof.Machine.execTbusCal mask s
  | .tbusCalDone n => Sys2Proof.Machine.execTbusCalDone n s
  | .snapGo => Sys2Proof.Machine.execSnapGo s
  | .snapAt => Sys2Proof.Machine.execSnapAt s
  | .slateSnapshotAnswer sl => Sys2Proof.Machine.execSlateSnapshotAnswer sl s
  | .snapBusyEnd => Sys2Proof.Machine.execSnapBusyEnd s
  | .assignmentWrite addr v => Sys2Proof.Machine.execAssignmentWrite addr v s
  | .cleaningDone => Sys2Proof.Machine.execCleaningDone s
  | .domLock => Sys2Proof.Machine.execDomLock s
  | .copyIn => Sys2Proof.Machine.execCopyIn s
  | .copyOut => Sys2Proof.Machine.execCopyOut s
  | .verify slot => Sys2Proof.Machine.execVerify slot s
  | .switch slot trial => Sys2Proof.Machine.execSwitch slot trial s
  | .confirm => Sys2Proof.Machine.execConfirm s
  | .raiseFloor => Sys2Proof.Machine.execRaiseFloor s
  | .fuseKey key => Sys2Proof.Machine.execFuseKey key s
  | .revoke key => Sys2Proof.Machine.execRevoke key s
  | .boot slot => Sys2Proof.Machine.execBoot slot s
  | .amberCmdComplete x src => Sys2Proof.Machine.execAmberCmdComplete x src s
  | .trialExpiry => Sys2Proof.Machine.execTrialExpiry s
  | .imageLoad x other => Sys2Proof.Machine.execImageLoad x other s
  | .restore us => Sys2Proof.Machine.execRestore us s
  | .powerOnReset => Sys2Proof.Machine.execPowerOnReset s
  | .externalReset => Sys2Proof.Machine.execExternalReset s
  | .sysReset key => Sys2Proof.Machine.execSysReset key s
  | .sysResetSave key => Sys2Proof.Machine.execSysResetSave key s
  | .sysWdogExpiry => Sys2Proof.Machine.execSysWdogExpiry s
  | .sysWdogKick => Sys2Proof.Machine.execSysWdogKick s
  | .pllLock p => Sys2Proof.Machine.execPllLock p s
  | .flintSelfTestPass => Sys2Proof.Machine.execFlintSelfTestPass s
  | .sagDetect pfail => Sys2Proof.Machine.execSagDetect pfail s
  | .saveComplete => Sys2Proof.Machine.execSaveComplete s
  | .holdCollapse => Sys2Proof.Machine.execHoldCollapse s
  | .sagEnd => Sys2Proof.Machine.execSagEnd s
  | .holdCapMeasure uF => Sys2Proof.Machine.execHoldCapMeasure uF s
  | .softReset q addr snap => Sys2Proof.Machine.execSoftReset q addr snap s
  | .hostWrite addr data => Sys2Proof.Machine.execHostWrite addr data s
  | .hostRead addr n => Sys2Proof.Machine.execHostRead addr n s
  | .hostUnsupported => Sys2Proof.Machine.execHostUnsupported s
  | .flr => Sys2Proof.Machine.execFlr s
  | .perst => Sys2Proof.Machine.execPerst s
  | .pcieLinkDown => Sys2Proof.Machine.execPcieLinkDown s
  | .msixUnmask v => Sys2Proof.Machine.execMsixUnmask v s
  | .dmaTmo r => Sys2Proof.Machine.execDmaTmo r s
  | .mgmtRead p src body tagOk tag => Sys2Proof.Machine.execMgmtRead p src body tagOk tag s
  | .mgmtWrite p src body tagOk tag => Sys2Proof.Machine.execMgmtWrite p src body tagOk tag s
  | .mgmtStatus p src body tagOk tag => Sys2Proof.Machine.execMgmtStatus p src body tagOk tag s
  | .pageErrClear q addr v => Sys2Proof.Machine.execPageErrClear q addr v s
  | .counterClear q addr => Sys2Proof.Machine.execCounterClear q addr s
  | .registerWrite q addr v => Sys2Proof.Machine.execRegisterWrite q addr v s
  | .toothInputEdge sl j lvl t0 => Sys2Proof.Machine.execToothInputEdge sl j lvl t0 s
  | .pllUnlock p => Sys2Proof.Machine.execPllUnlock p s
  | .inactiveRefLoss cab absent => Sys2Proof.Machine.execInactiveRefLoss cab absent s
  | .refclkRecovery cab => Sys2Proof.Machine.execRefclkRecovery cab s
  | .postedWriteComplete e fabric => Sys2Proof.Machine.execPostedWriteComplete e fabric s
  | .resetRelease => Sys2Proof.Machine.execResetRelease s
  | .pcieLinkUp gen x2 => Sys2Proof.Machine.execPcieLinkUp gen x2 s
  | .pcieConfigWrite bme msix fmask => Sys2Proof.Machine.execPcieConfigWrite bme msix fmask s
  | .amberScrub addr found => Sys2Proof.Machine.execAmberScrub addr found s
  | .holdOkChange ok => Sys2Proof.Machine.execHoldOkChange ok s

end Sys2Proof.Machine
end

