-- ==== Sys2Proof/Safety.lean ====
section
/-! DEFINITION. The words the statements use: a command completes, what it leaves as it was, what may happen to memory. -/
namespace Sys2Proof.Machine
open Sys2Proof

/-- The command answers a next state, and `Q` holds of it. -/
def Completes (c : Instr) (s : State) (Q : State → Prop) : Prop := ∃ t, exec c s = .next t ∧ Q t

/-- Every register outside the list reads as before. -/
def RegsBut (l : List Nat) (s t : State) : Prop := ∀ a, a ∉ l → t.rd a = s.rd a

/-- PAGE_ERR bit `b` of the page at `p` (R352). -/
def State.pageErr (s : State) (p b : Nat) : Bool := s.rbit p R.PAGE_ERR b

/-- The next instruction that engine `e` executes is `o`: it runs, nothing comes before `o`, its word holds no soft error, and `o`
is legal where it stands. -/
def State.runs (s : State) (e : Fin 512) (o : EngOp) : Prop :=
  (s.eng e).ready = true ∧ s.preempted e = false ∧ s.brkMatch e = false ∧ s.softIn (s.fetchAddr e) 4 = [] ∧ decodeEng (s.fetch e) = some o ∧
    (s.setEng e EngineState.settle).illegal e = none

/-- The engine's state with the mode writes whose shadow is over applied, as the next instruction finds it (R222). -/
def State.core (s : State) (e : Fin 512) : EngineState := (s.eng e).settle

/-- The next state of an instruction that changes its engine alone: `x` is the engine with its registers written, the end of
the instruction follows (R219, R220). -/
def State.afterOp (s : State) (e : Fin 512) (x : EngineState) : State := s.setEng e fun _ => x.advance.retire s.now

end Sys2Proof.Machine

/-- The commands that may write BAR0 memory: their own bytes, or all of it on a Granite reset. -/
def Sys2Proof.Instr.mayWriteMem : Instr → Bool
  | .externalMemoryWrite .. | .st .. | .sta .. | .descriptorWrite .. => true
  | .holdRelease .. | .descriptorWritesApply .. | .evaluationStart .. | .ecallTmo .. => true
  | .ecallReply .. | .txDescriptorFetch .. | .launch .. | .frameStart .. => true
  | .frameSent .. | .portLinkDown .. | .netCfgWrite .. | .frameReceive .. => true
  | .init | .trackRgnWrite .. | .offer .. | .commit .. => true
  | .withdraw .. | .heldCommitTimeout .. | .doubtTmo .. | .accept .. => true
  | .refuse .. | .doneMsg .. | .resolve .. | .commitTmo .. => true
  | .compareInstant .. | .eventFire .. | .windowOpen .. | .notSeen .. => true
  | .correctionApply | .eventLogRelease | .insertItem .. | .insertEvent .. => true
  | .heldInsertRelease .. | .cancel .. | .delete .. | .shift .. => true
  | .cycleMark .. | .traceEntry .. | .trcArm .. | .trcRgnWrite .. => true
  | .faultRise .. | .assignmentWrite .. | .amberCmdComplete .. | .powerOnReset => true
  | .externalReset | .pllUnlock .. | .holdoverExpiry | .sysWdogExpiry => true
  | .trialExpiry | .saveComplete | .sagEnd | .sysReset .. => true
  | .sysResetSave .. | .registerWrite .. | .slateRegWrite .. | .softReset .. => true
  | .pageErrClear .. | .counterClear .. | .postedWriteComplete .. | .hostWrite .. => true
  | .msixUnmask .. | .dmaTmo .. | .mgmtRead .. | .mgmtWrite .. => true
  | .mgmtStatus .. | .enterBasic .. | .imageLoad .. | .restore .. => true
  | _ => false

/-- The commands that may write Amber. -/
def Sys2Proof.Instr.mayWriteAmber : Instr → Bool
  | .amberCmdComplete .. | .saveComplete | .sagDetect .. | .sysReset .. => true
  | .sysResetSave .. | .registerWrite .. | .slateRegWrite .. | .softReset .. => true
  | .pageErrClear .. | .counterClear .. | .postedWriteComplete .. | .hostWrite .. => true
  | .flr | .perst | .pcieLinkDown | .msixUnmask .. => true
  | .dmaTmo .. | .mgmtRead .. | .mgmtWrite .. | .mgmtStatus .. => true
  | .enterBasic .. | .imageLoad .. | .restore .. => true
  | _ => false
end

