-- ==== Sys2Proof/Certificates/Slice0/Obligations.lean ====
section
/-! DEFINITION. The statements for the provers. A command's clause names it in a comment; `Completes` and an equation with `.next`
both say that exec answers a next state. -/
open Sys2Proof Sys2Proof.Machine

/-- A step runs the command at the front of the queue on the rest of the queue; on an empty queue one tick passes (the model's choice, log 6) (R37). Rests on log 6. -/
def Obligations.StepRunsTheFront : Prop :=
  -- front
  (∀ (c : Instr) (l : List Instr) (s : State), s.pending = c :: l → step s = exec c { s with pending := l }) ∧
  -- idle
  (∀ s : State, s.pending = [] → step s = .next (s.tickOn.mgmtRun 68)) ∧
  -- tick
  (∀ s : State, s.tickOn.now = (s.now + 1) % 2 ^ 64 ∧ s.tickOn.regs = s.regs ∧ s.tickOn.mem = s.mem ∧ s.tickOn.amber = s.amber) ∧
  -- quiet
  (∀ s : State, s.mgmt.job = none → s.mgmt.todo = [] → s.power.save = none → s.power.wait = false → s.pending = [] → step s = .next s.tickOn)

/-- Soft errors in ECC memory: corrected words are counted, uncorrectable ones read 0 from outside and halt an engine (R181, R366). Rests on log 45. -/
def Obligations.SoftErrors : Prop :=
  -- memFault
  (∀ (e : Fin 512) (s : State), ((s.memFault e).eng e).st = .faultHalt ∧ (s.memFault e).pageErr (P.engine e) E.engine_MEM_UE = true ∧ (s.memFault e).mem = s.mem ∧
     ((s.memFault e).eng e).d = (s.eng e).d ∧ ((s.memFault e).eng e).a = (s.eng e).a ∧ ((s.memFault e).eng e).p = (s.eng e).p ∧ ((s.memFault e).eng e).fl = (s.eng e).fl ∧ ((s.memFault e).eng e).pc = (s.eng e).pc ∧
     ((s.memFault e).eng e).modes = (s.eng e).modes) ∧
  -- extLoad
  (∀ (a : Nat) (s : State), (s.softIn a 4 = [] → s.extLoad a 4 = s.load a 4) ∧ (a % 4 = 0 → s.uncorrectable a 4 = true → s.extLoad a 4 = 0)) ∧
  -- eccScan
  (∀ (g : Nat) (m : Nat × Bool) (s t : State), s.ecc = [m] → regionAt m.1 = .shm g → t = s.eccScan m.1 1 →
     (m.2 = true → t.ecc = [m] ∧ t.mem = s.mem ∧ t.pageErr (P.grove g) E.grove_SHM_UE = true ∧ t.rd (P.grove g + R.GROVE_SHM_UE_ADDR) = (m.1 - 0xC00000) % 0x40000 / 8 * 8 + 1) ∧
     (m.2 = false → t.ecc = [] ∧ t.mem = s.mem ∧ t.pageErr (P.grove g) E.grove_SHM_CE = true ∧ t.fld (P.grove g) F.GROVE_SHM_CE_COUNT = min 65535 (s.fld (P.grove g) F.GROVE_SHM_CE_COUNT + 1))) ∧
  -- hostRead
  (∀ (a g : Nat) (s : State) (w : BitVec 26), w.toNat = a → s.hostUp = true → s.absent a = false → regionAt a = .shm g → a % 4 = 0 → s.mayAccess Req.host a false = true →
     (s.softIn a 4 = [] → exec (.hostRead w 4) s = .next (s.answer Req.host a (s.load a 4))) ∧
     (s.uncorrectable a 4 = true → exec (.hostRead w 4) s = .next (((s.eccScan a 4).dmaErr E.host_RD_UE ((s.reqDom Req.host).getD 0) a Req.host false).answer Req.host a 0)))

/-- The machine right after reset: every register at its reset value; stage, tick, lock, links, engines and queues (R29, R37, R191, R390, R409). Rests on log 10. -/
def Obligations.ResetState : Prop :=
  -- registers
  (∀ a : Nat, State.reset.rd a = resetVal a % 2 ^ 32 ∧ State.reset.sh a = resetVal a % 2 ^ 32) ∧
  -- values
  (State.reset.stage = 0 ∧ State.reset.now = 0 ∧ State.reset.pending = [] ∧ State.reset.locked = false ∧ State.reset.hostUp = false ∧ State.reset.timeLocked = false ∧
     State.reset.power.held = true ∧ State.reset.power.save = none ∧ State.reset.boot.booted = none ∧ State.reset.fault.log = [] ∧ State.reset.fault.prq = []) ∧
  -- engines
  (∀ e : Fin 512, (State.reset.eng e).st = .reset ∧ (State.reset.eng e).pc = 0 ∧ (State.reset.eng e).calls = [] ∧ (State.reset.eng e).mails = [])

/-- The reset state has its memories and register files in canonical form and its rollback floor within range (R9, R397). Rests on log 3, 4. -/
def Obligations.ResetMeetsInvariants : Prop :=
  (Memory.wf State.reset.mem = true ∧ Memory.wf State.reset.amber = true ∧ RegFile.wf State.reset.regs = true ∧ RegFile.wf State.reset.shadow = true ∧ State.reset.boot.floor ≤ 63)

/-- Every step keeps BAR0 memory, Amber, the registers and Granite's shadow in canonical form (R10, R246, R395). Rests on log 3, 4. -/
def Obligations.CanonicalFormKept : Prop :=
  (∀ s t : State, Memory.wf s.mem = true ∧ Memory.wf s.amber = true ∧ RegFile.wf s.regs = true ∧ RegFile.wf s.shadow = true → step s = .next t →
     Memory.wf t.mem = true ∧ Memory.wf t.amber = true ∧ RegFile.wf t.regs = true ∧ RegFile.wf t.shadow = true)

/-- No step lowers the rollback floor or takes it past 63, and none unblows a key or revocation fuse (R397, R400). -/
def Obligations.FusesOnlyBlow : Prop :=
  (∀ s t : State, step s = .next t → s.boot.floor ≤ t.boot.floor ∧ (s.boot.floor ≤ 63 → t.boot.floor ≤ 63) ∧
     (∀ i, s.boot.keys.testBit i = true → t.boot.keys.testBit i = true) ∧ (∀ i, s.boot.revoked.testBit i = true → t.boot.revoked.testBit i = true))

/-- No command changes the queue of waiting commands or the variant and strap inputs of the device (R2, R34). Rests on log 12. -/
def Obligations.QueueAndVariantKept : Prop :=
  (∀ (c : Instr) (s t : State), exec c s = .next t → t.pending = s.pending ∧ t.dev = s.dev)

/-- Commands outside the listed writers of BAR0 memory leave every byte of BAR0 memory (R178, R183, R246, R366). Rests on log 4. -/
def Obligations.MemoryFrame : Prop :=
  (∀ (c : Instr) (s t : State), c.mayWriteMem = false → exec c s = .next t → ∀ a, t.byte a = s.byte a)

/-- Commands outside the listed writers of Amber leave every byte of Amber (R395, R400, R417). Rests on log 4. -/
def Obligations.AmberFrame : Prop :=
  (∀ (c : Instr) (s t : State), c.mayWriteAmber = false → exec c s = .next t → ∀ a, t.abyte a = s.abyte a)

/-- While DOM_LOCK is 1 a write of a lockable register changes nothing but the record of the refusal (R12, R388, R390). -/
def Obligations.LockedWrites : Prop :=
  (∀ (q : Fin 514) (addr : BitVec 26) (v : Word) (k : PageKind) (n : Nat) (s : State), s.locked = true → pageAt addr.toNat = some (k, n) → lockable k (addr.toNat % 0x1000) = true →
     Completes (.registerWrite q addr v) s fun t =>
       RegsBut [P.dom + R.DOM_REF_CNT, P.dom + R.DOM_REF_ADDR, P.dom + R.DOM_REF_INFO, P.dom + R.PAGE_ERR] s t ∧ t.locked = true ∧
       t.mem = s.mem ∧ t.amber = s.amber ∧ t.shadow = s.shadow ∧ t.slates = s.slates ∧ t.engines = s.engines ∧ t.cleaning = s.cleaning ∧ t.track = s.track ∧ t.capture = s.capture)

/-- A refused access to BAR0 discards the write or reads 0, and is recorded in the DOM page (R388). -/
def Obligations.RefusedAccess : Prop :=
  -- law
  (∀ (q a n v : Nat) (w : Bool) (s : State), s.absent a = false → s.mayAccess q a w = false → (∀ k i, regionAt a = .page k i → n = 4 ∧ a % 4 = 0) → regionAt a ≠ .unmapped →
     (w = true → ∀ t, t = (s.busWrite q a n v).st → t = s.refuse q a true ∧ (s.busWrite q a n v).refused = true ∧
       RegsBut [P.dom + R.DOM_REF_CNT, P.dom + R.DOM_REF_ADDR, P.dom + R.DOM_REF_INFO, P.dom + R.PAGE_ERR] s t ∧ t.mem = s.mem ∧ t.slates = s.slates ∧ t.engines = s.engines) ∧
     (w = false → ∀ t, t = (s.busRead q a n).st → t = s.refuse q a false ∧ (s.busRead q a n).refused = true ∧ (s.busRead q a n).val = some 0 ∧
       RegsBut [P.dom + R.DOM_REF_CNT, P.dom + R.DOM_REF_ADDR, P.dom + R.DOM_REF_INFO, P.dom + R.PAGE_ERR] s t ∧ t.mem = s.mem ∧ t.slates = s.slates ∧ t.engines = s.engines)) ∧
  -- record
  (∀ (q a : Nat) (w : Bool) (s : State), a < 2 ^ 26 → q < 514 → (s.refuse q a w).pageErr P.dom E.dom_REFUSED = true ∧ errClass .dom E.dom_REFUSED = 1 ∧ (s.refuse q a w).rd (P.dom + R.DOM_REF_ADDR) = a ∧
     (s.refuse q a w).fld P.dom F.DOM_REF_CNT_COUNT = min (s.fld P.dom F.DOM_REF_CNT_COUNT + 1) (2 ^ F.DOM_REF_CNT_COUNT.w - 1))

/-- Unmapped addresses read 0 and discard writes; the host's access to one is reported; absent windows report nothing (R428). -/
def Obligations.UnmappedAccess : Prop :=
  -- law
  (∀ (q a n v : Nat) (s : State), (regionAt a = .unmapped ∨ s.absent a = true) →
     (s.busRead q a n).val = some 0 ∧ (s.busRead q a n).refused = false ∧ (s.busRead q a n).st = s ∧ (s.busWrite q a n v).refused = false ∧ (s.busWrite q a n v).st = s) ∧
  -- hostWrite
  (∀ (addr : BitVec 26) (data : List Byte) (s : State), s.hostUp = true → s.absent addr.toNat = false → regionAt addr.toNat = .unmapped →
     Completes (.hostWrite addr data) s fun t => t.pageErr P.host E.host_UNMAPPED = true ∧ errClass .host E.host_UNMAPPED = 1 ∧ t.rd (P.host + R.HOST_ERR_ADDR) = addr.toNat ∧
       (bits (t.rd (P.host + R.HOST_ERR_INFO)) 31 1 = 1 ∧ bits (t.rd (P.host + R.HOST_ERR_INFO)) 26 4 = E.host_UNMAPPED ∧ bits (t.rd (P.host + R.HOST_ERR_INFO)) 24 1 = 1 ∧ bits (t.rd (P.host + R.HOST_ERR_INFO)) 16 3 = (s.reqDom Req.host).getD 0 ∧ bits (t.rd (P.host + R.HOST_ERR_INFO)) 0 10 = reqCode Req.host) ∧
       RegsBut [P.host + R.PAGE_ERR, P.host + R.HOST_ERR_ADDR, P.host + R.HOST_ERR_INFO, P.host + R.HOST_ERR_CNT] s t ∧ t.mem = s.mem ∧ t.slates = s.slates) ∧
  -- hostRead
  (∀ (addr : BitVec 26) (n : Fin 513) (s : State), s.hostUp = true → s.absent addr.toNat = false → regionAt addr.toNat = .unmapped →
     Completes (.hostRead addr n) s fun t => (∃ l, t.resp = ⟨Req.host, addr.toNat, 0, false⟩ :: l) ∧ t.pageErr P.host E.host_UNMAPPED = true ∧ t.rd (P.host + R.HOST_ERR_ADDR) = addr.toNat ∧
       (bits (t.rd (P.host + R.HOST_ERR_INFO)) 31 1 = 1 ∧ bits (t.rd (P.host + R.HOST_ERR_INFO)) 26 4 = E.host_UNMAPPED ∧ bits (t.rd (P.host + R.HOST_ERR_INFO)) 24 1 = 0 ∧ bits (t.rd (P.host + R.HOST_ERR_INFO)) 16 3 = (s.reqDom Req.host).getD 0 ∧ bits (t.rd (P.host + R.HOST_ERR_INFO)) 0 10 = reqCode Req.host) ∧
       RegsBut [P.host + R.PAGE_ERR, P.host + R.HOST_ERR_ADDR, P.host + R.HOST_ERR_INFO, P.host + R.HOST_ERR_CNT] s t ∧ t.mem = s.mem ∧ t.slates = s.slates) ∧
  -- absent
  (∀ (addr : BitVec 26) (data : List Byte) (n : Fin 513) (s : State), s.hostUp = true → s.absent addr.toNat = true →
     exec (.hostWrite addr data) s = .next s ∧ exec (.hostRead addr n) s = .next (s.answer Req.host addr.toNat 0))

/-- Reference inputs, NET_LOCK and holdover, latched time reads, staged commits; what clearing NET_LOCK does (R34, R35, R36, R39, R40, R41, R42, R47, R48, R49, R50, R51). Rests on log 12. -/
def Obligations.TimeAndClocks : Prop :=
  -- refSel
  (∀ (v : BitVec 2) (s : State), Completes (.refSel v) s fun t =>
     (v.toNat < 2 → decide (v = 1) ≠ s.refActive → s.refOk (decide (v = 1)) = true →
       t.refActive = decide (v = 1) ∧ t.flag P.clk F.CLK_STATUS_HOLDOVER = false ∧ t.time.holdStart = none ∧ t.timeLocked = false ∧
       t.fld P.clk F.CLK_CTRL_REF_SEL = v.toNat ∧
       (s.flag P.clk F.CLK_STATUS_HOLDOVER = true → t.pageErr P.clk E.clk_REF_LOSS = true)) ∧
     ((v.toNat ≥ 2 ∨ decide (v = 1) = s.refActive ∨ s.refOk (decide (v = 1)) = false) → t = s)) ∧
  -- refclkLoss
  (∀ (cab : Bool) (s : State), Completes (.refclkLoss cab) s fun t =>
     (cab ≠ s.refActive → t = s) ∧
     (cab = s.refActive → t.refOk cab = false ∧
       if s.flag P.clk F.CLK_CTRL_FAILOVER_EN && s.refOk (!cab) then
         t.refActive = !cab ∧ t.fld P.clk F.CLK_CTRL_REF_SEL = (!cab).toNat ∧ t.pageErr P.clk E.clk_REF_LOSS = true ∧ t.timeLocked = false
       else t.flag P.clk F.CLK_STATUS_HOLDOVER = true ∧ t.refActive = cab ∧ t.time.holdStart = some (s.time.holdStart.getD s.now))) ∧
  -- inactiveRefLoss
  (∀ (cab absent : Bool) (s : State), Completes (.inactiveRefLoss cab absent) s fun t =>
     if cab = s.refActive then t = s
     else t.refOk cab = false ∧ (absent = true → t.fld P.clk F.CLK_ALT_DEV_DEV_PPM = 0x8000) ∧
       RegsBut [P.clk + R.CLK_STATUS, P.clk + R.CLK_ALT_DEV] s t) ∧
  -- refclkRecovery
  (∀ (cab : Bool) (s : State), Completes (.refclkRecovery cab) s fun t =>
     t.refOk cab = true ∧ t.refActive = s.refActive ∧ RegsBut [P.clk + R.CLK_STATUS] s t) ∧
  -- altDevMeasure
  (∀ (ppm : Int) (s : State), (if s.refActive then s.time.locPresent else s.time.cabPresent) = true →
     Completes (.altDevMeasure ppm) s fun t =>
       toSigned 16 (t.fld P.clk F.CLK_ALT_DEV_DEV_PPM) = clampI (-32767) 32767 ppm ∧ t.refOk (!s.refActive) = decide (ppm.natAbs ≤ 100) ∧
       RegsBut [P.clk + R.CLK_STATUS, P.clk + R.CLK_ALT_DEV] s t) ∧
  -- timeMeasOfs
  (∀ (v : Word) (s : State),
     (v.toInt.natAbs ≤ s.netGuard → Completes (.timeMeasOfs v) s fun t =>
       t.fld P.time F.TIME_LOCK_STAT_GOOD_CNT = min (s.fld P.time F.TIME_LOCK_STAT_GOOD_CNT + 1) 255) ∧
     (v.toInt.natAbs ≤ s.netGuard → s.lockCnt ≤ min (s.fld P.time F.TIME_LOCK_STAT_GOOD_CNT + 1) 255 →
       Completes (.timeMeasOfs v) s fun t => t.timeLocked = true) ∧
     (s.netGuard < v.toInt.natAbs → s.masterHolds = true → exec (.timeMeasOfs v) s = .next (s.setf P.time F.TIME_LOCK_STAT_GOOD_CNT 0)) ∧
     (s.netGuard < v.toInt.natAbs → s.masterHolds = false → exec (.timeMeasOfs v) s = .next (s.netUnlock 1))) ∧
  -- netHoldoverExpiry
  (∀ s : State, Completes .netHoldoverExpiry s fun t =>
     (∀ e, s.time.holdEnd = some e → e ≤ s.now → s.timeLocked = true →
       t.timeLocked = false ∧ t.fld P.time F.TIME_LOCK_STAT_WHY = 2 ∧ t.time.holdEnd = none ∧ t.pageErr P.time E.time_UNLOCK = true) ∧
     ((s.time.holdEnd = none ∨ s.timeLocked = false ∨ ∃ e, s.time.holdEnd = some e ∧ s.now < e) → t = s)) ∧
  -- netMaster
  (∀ (on : Bool) (s : State), Completes (.netMaster on) s fun t =>
     t.flag P.time F.TIME_LOCK_CFG_NET_MASTER = on ∧
     (on = true → s.flag P.time F.TIME_LOCK_CFG_NET_MASTER = false → t.time.masterOk = true ∧
       (s.flag P.clk F.CLK_STATUS_SYS_LOCK = true → t.timeLocked = true ∧ t.time.holdEnd = none)) ∧
     (on = false → s.masterHolds = true → s.timeLocked = true → t.time.holdEnd.isSome)) ∧
  -- timeTickLo
  (∀ (q : Fin 514) (s : State), Completes (.timeTickLo q) s fun t =>
     (t.latchOf q).tickHi = s.now / 2 ^ 32 % 2 ^ 32 ∧ t.resp.head? = some ⟨q.val, P.time + R.TIME_TICK_LO, s.now % 2 ^ 32, false⟩ ∧
     (∀ p, p ≠ q → t.latchOf p = s.latchOf p) ∧ t = { s with time := t.time, resp := t.resp }) ∧
  -- timeSubns
  (∀ (q : Fin 514) (s : State), Completes (.timeSubns q) s fun t =>
     (t.latchOf q).time = timeWith s.time.cur s.now ∧ (t.latchOf q).tick = s.now ∧
     t.resp.head? = some ⟨q.val, P.time + R.TIME_SUBNS, timeFrac (timeWith s.time.cur s.now) / 2 ^ 16, false⟩ ∧
     (∀ p, p ≠ q → t.latchOf p = s.latchOf p) ∧ t = { s with time := t.time, resp := t.resp }) ∧
  -- timeStageWrite
  (∀ (r : Fin 10) (v : Word) (s : State), Completes (.timeStageWrite r v) s fun t =>
     if s.cmtPending then t = s.err P.time E.time_STAGE_COLLIDE
     else t.rd (P.time + R.TIME_SET_SUBNS + 4 * r.val) = v.toNat &&& stageMask r.val ∧
       RegsBut [P.time + R.TIME_SET_SUBNS + 4 * r.val] s t ∧ t = { s with regs := t.regs }) ∧
  -- timeCmtGo
  (∀ (v : Word) (s : State),
     (s.cmtPending = true → exec (.timeCmtGo v) s = .next (s.err P.time E.time_STAGE_COLLIDE)) ∧
     (s.cmtPending = false → v.toNat % 2 = 0 → exec (.timeCmtGo v) s = .next (s.wr (P.time + R.TIME_CMT_CTRL) (v.toNat % 2 ^ 7 &&& 0x73))) ∧
     (s.cmtPending = false → v.toNat % 2 = 1 → Completes (.timeCmtGo v) s fun t => t.time.pend =
       some (if (s.wr (P.time + R.TIME_CMT_CTRL) (v.toNat % 2 ^ 7 &&& 0x73)).flag P.time F.TIME_CMT_CTRL_AT_TICK ∧ s.now < s.rd64 P.time R.TIME_CMT_TICK_LO
         then s.rd64 P.time R.TIME_CMT_TICK_LO else s.now + 1))) ∧
  -- commitTakeEffect
  (∀ (s : State) (tn : Nat), s.time.pend = some tn → tn ≤ s.now → Completes .commitTakeEffect s fun t =>
     t.time.pend = none ∧ t.time.commits =
     if (s.flag P.time F.TIME_CMT_CTRL_SEL_SET && decide (s.rd (P.time + R.TIME_SET_NS) ≥ 1000000000)) ||
         (s.flag P.time F.TIME_CMT_CTRL_SEL_INC && !incOk s.stagedInc) then s.time.commits
     else ⟨s.commitBase tn, tn, if s.flag P.time F.TIME_CMT_CTRL_SEL_INC then s.stagedInc else s.time.cur.inc⟩ :: s.time.commits.take 3) ∧
  -- law
  (∀ (s : State) (why : Nat), (s.netUnlock why).timeLocked = false ∧ (s.netUnlock why).fld P.time F.TIME_LOCK_STAT_GOOD_CNT = 0 ∧
     (s.timeLocked = true → (s.netUnlock why).fld P.time F.TIME_LOCK_STAT_WHY = why % 8 ∧
       (s.netUnlock why).pageErr P.time E.time_UNLOCK = true ∧ (s.netUnlock why).time.holdEnd = none) ∧
     RegsBut [P.time + R.TIME_LOCK_STAT, P.time + R.PAGE_ERR, P.time + R.TIME_UNLOCK_CNT] s (s.netUnlock why))

/-- Frames of the barrier links and the sideband, silence, safe commands and their release (R56, R57, R60, R62, R63, R64, R68, R69, R330). -/
def Obligations.BarrierLinks : Prop :=
  -- downstreamFrameSend
  (∀ (i : Fin 8) (s : State), s.now % 64 = 0 → (s.slate i).link.dnAt ≠ some s.now → Completes (.downstreamFrameSend i) s fun t =>
     (t.slate i).link.seqDn = ((s.slate i).link.seqDn + 1) % 256 ∧ (t.slate i).link.dnAt = some s.now ∧
     (t.slate i).link.dnWire[1]? = some (BitVec.ofNat 8 (s.slate i).link.seqDn)) ∧
  -- upstreamFrameSend
  (∀ (i : Fin 8) (s : State), (s.slate i).powered = true → s.stick i % 64 = 0 → (s.slate i).link.upAt ≠ some (s.stick i) →
     Completes (.upstreamFrameSend i) s fun t =>
       (t.slate i).link.upAt.isSome ∧ (t.slate i).link.upWire[0]? = some 0xA0 ∧ (t.slate i).link.mark.arr = none) ∧
  -- downstreamFrame
  (∀ (i : Fin 8) (rx : FrameRx) (s : State), (s.slate i).powered = true →
     (frameGood rx 5 = false → exec (.downstreamFrame i rx) s = .next (
       let u := ((s.setLink i fun l => { l with dn := l.dn.take false (field rx.bytes 1 1) }).incs (P.link i) R.LINK_BAD_DN).err (P.link i) E.link_CRC_BAD
       if (s.slate i).link.dn.up && !(u.slate i).link.dn.up then u.linkDown i true else u)) ∧
     (frameGood rx 5 = true → (s.slate i).link.dn.up = true → exec (.downstreamFrame i rx) s = .next (
       let u := s.setLink i fun l => { l with dn := l.dn.take true (field rx.bytes 1 1) }
       let u := if (s.slate i).link.dn.gap (field rx.bytes 1 1) then u.incs (P.link i) R.LINK_SEQ_GAP else u
       forEach (dnBody rx.bytes) (u.applyDnHeader i rx) fun x t => t.applyDn i x))) ∧
  -- upstreamFrame
  (∀ (i : Fin 8) (rx : FrameRx) (s : State),
     (frameGood rx 0xA = false → exec (.upstreamFrame i rx) s = .next (
       let u := ((s.setLink i fun l => { l with up := l.up.take false (field rx.bytes 1 1) }).incs (P.link i) R.LINK_BAD_UP).err (P.link i) E.link_CRC_BAD
       if (s.slate i).link.up.up && !(u.slate i).link.up.up then u.upDown i else u)) ∧
     (frameGood rx 0xA = true → (s.slate i).link.up.up = true → exec (.upstreamFrame i rx) s = .next (
       let u := s.setLink i fun l => { l with up := l.up.take true (field rx.bytes 1 1) }
       let u := (if (s.slate i).link.up.gap (field rx.bytes 1 1) then u.incs (P.link i) R.LINK_SEQ_GAP else u).noteSilence i
       let u := u.setLink i fun l => { l with up := { l.up with last := u.now, fired := false, tmo := u.linkTmo i } }
       forEach (upBody rx.bytes) (u.applyUpHeader i rx) fun x t => t.applyUp i (u.frameStart i rx.arrival) x))) ∧
  -- forwardedReadTimeout
  (∀ (i : Fin 8) (s : State) (r : FwdRead) (rest : List FwdRead), (s.slate i).link.reads = r :: rest → r.at_ + 1250 ≤ s.now →
     exec (.forwardedReadTimeout i) s =
       .next (((s.setLink i fun l => { l with reads := rest }).answer r.req r.addr 0).err (P.link i) E.link_RD_FAIL |>.promoteReads i)) ∧
  -- slateSilenceTimeout
  (∀ (i : Fin 8) (s : State), (s.slate i).powered = true → (s.slate i).link.dn.ever = true → (s.slate i).link.dn.fired = false →
     (s.slate i).link.dn.last + (s.slate i).link.dn.tmo < s.stick i →
     exec (.slateSilenceTimeout i) s = .next ((s.setLink i fun l => { l with dn := { l.dn with fired := true } }).enterSafe i 2)) ∧
  -- linkTimeout
  (∀ (i : Fin 8) (s : State), (s.slate i).link.up.ever = true → (s.slate i).link.up.fired = false →
     (s.slate i).link.up.last + (s.slate i).link.up.tmo < s.now → Completes (.linkTimeout i) s fun t =>
       t.flag (P.link i) F.LINK_STATUS_SAFE_CMD = true ∧ (t.slate i).link.up.fired = true) ∧
  -- release
  (∀ (i : Fin 8) (s : State), exec (.release i) s = .next (s.setb (P.link i) F.LINK_CTRL_RELEASE true)) ∧
  -- safeCmdClear
  (∀ (i : Fin 8) (s : State), s.releaseReady i = true →
     exec (.safeCmdClear i) s = .next ((s.setb (P.link i) F.LINK_STATUS_SAFE_CMD false).setb (P.link i) F.LINK_CTRL_RELEASE false)) ∧
  -- linkDelayMeasured
  (∀ (i : Fin 8) (s : State), (s.slate i).link.mark.active = true → (s.slate i).link.mark.cnt = 256 → Completes (.linkDelayMeasured i) s fun t =>
     t.rd (P.time + R.TIME_LDLY i) = (s.slate i).link.mark.sum / 512 % 2 ^ 32 ∧ (t.slate i).link.mark.known = true ∧
     (t.slate i).link.mark.active = false ∧ RegsBut [P.time + R.TIME_LDLY i] s t) ∧
  -- slatePowerUp
  (∀ (i : Fin 8) (s : State), s.fitted i = true → (s.slate i).powered = false → Completes (.slatePowerUp i) s fun t =>
     (t.slate i).powered = true ∧ (t.slate i).restart = true ∧ (t.slate i).safe = true ∧ (t.slate i).tick = 0 ∧ (t.slate i).aligned = false) ∧
  -- slatePowerLoss
  (∀ (i : Fin 8) (s : State), (s.slate i).powered = true → Completes (.slatePowerLoss i) s fun t =>
     (t.slate i).powered = false ∧ ((s.slate i).aligned = true → t.pageErr P.time E.time_SLATE_MISALIGN = true)) ∧
  -- sidebandSend
  (∀ (i : Fin 8) (halls : BitVec 64) (pts : BitVec 16) (s : State),
     (Completes (.sidebandSend i true halls pts) s fun t => (t.slate i).sb.seqF = ((s.slate i).sb.seqF + 1) % 16 ∧
       (t.slate i).sb.wireF = sealSide (bytesOf 1 (0xC0 + (s.slate i).sb.seqF % 16) ++ bytesOf 1 (if (s.slate i).sb.gsCmd then 0xA5 else 0) ++
         bytesOf 2 (s.slate i).sb.tMask ++ List.replicate 10 0)) ∧
     ((s.slate i).powered = true → Completes (.sidebandSend i false halls pts) s fun t => (t.slate i).sb.seqS = ((s.slate i).sb.seqS + 1) % 16 ∧
       (t.slate i).sb.wireS = sealSide (bytesOf 1 (0x30 + (s.slate i).sb.seqS % 16) ++ bytesOf 1 (s.sideStat i) ++ bytesOf 2 pts.toNat ++
         bytesOf 8 halls.toNat ++ bytesOf 2 (s.readBacks i)))) ∧
  -- sidebandFrameAtSlate
  (∀ (i : Fin 8) (rx : SbRx) (s : State), (s.slate i).powered = true →
     (sbChecks rx 0xC = true → seqCont (s.slate i).sb.rxSeq (field rx.bytes 0 1 % 16) = true → exec (.sidebandFrameAtSlate i rx) s = .next
       ((s.setSlate i fun x =>
         { x with sb := { x.sb with rxSeq := some (field rx.bytes 0 1 % 16), lastGood := x.tick, up := true, testMask := field rx.bytes 2 2 } }).setGs i (field rx.bytes 1 1 == 0xA5))) ∧
     (sbChecks rx 0xC = false → exec (.sidebandFrameAtSlate i rx) s = .next (s.incs (P.link i) R.LINK_SB_BAD))) ∧
  -- sbDown
  (∀ (i : Fin 8) (s : State), (s.slate i).powered = true → (s.slate i).sb.up = true → (s.slate i).sb.lastGood + 31250 ≤ s.stick i →
     exec (.sbDown i) s = .next (((s.setSlate i fun x => { x with sb := { x.sb with up := false, rxSeq := none } }).setGs i false).err (P.link i) E.link_SB_DOWN))

/-- A direction comes up on the 16th consecutive good frame and goes down on the 4th consecutive bad one (R62). -/
def Obligations.LinkDirection : Prop :=
  -- up
  (∀ (r : RxDir) (l : List Nat), l.length = 16 → (l.foldl (fun r q => r.take true q) r).up = true) ∧
  -- down
  (∀ (r : RxDir) (l : List Nat), l.length = 4 → (l.foldl (fun r q => r.take false q) r).up = false) ∧
  -- keep
  (∀ (r : RxDir) (q : Nat), r.up = false → r.good < 15 → (r.take true q).up = false)

/-- The carrier and its staged applies, edges, trips, the latch, switching permission, delay lines and the chopper (R73, R79, R80, R81, R82, R83, R84, R85, R86, R87, R88, R90, R91, R92). Rests on log 21, 22. -/
def Obligations.PwmCommands : Prop :=
  -- carrierRun
  (∀ (i : Fin 8) (v : BitVec 2) (s : State),
     (v = 1 → s.flag (P.carrier i) F.CARRIER_CTRL_RUN = false → exec (.carrierRun i v) s = .next (
       let n := s.stick i + 2
       let u := (((s.wr (P.carrier i + R.CARRIER_CTRL) 1).wr64 (P.carrier i) R.CARRIER_EPOCH_LO n).setb (P.carrier i)
         F.CARRIER_STATUS_RUNNING true).wr (P.carrier i + R.CARRIER_EDGE_CNT) 0
       (forEach (axesOf i) (u.setSlate i fun x => { x with car := { x.car with next := 64 * n } }) fun a t =>
         t.setPwm a fun p => { p with edges := [], smpN := 0, perT := 0, updEdge := false, updCentre := false }).checkSlate i)) ∧
     (v = 0 → s.flag (P.carrier i) F.CARRIER_CTRL_RUN = true → (s.slate i).car.pend = none → exec (.carrierRun i v) s = .next
       ((((s.wr (P.carrier i + R.CARRIER_CTRL) 0).setb (P.carrier i) F.CARRIER_STATUS_RUNNING false) |> fun u =>
         forEach (axesOf i) u fun a t => t.setPwm a fun p => { p with edges := [], updEdge := false, updCentre := false }).checkSlate i))) ∧
  -- carrierApplyGo
  (∀ (i : Fin 8) (s : State),
     (s.carRun i = false → exec (.carrierApplyGo i 1) s = .next
       ((s.wr (P.carrier i + R.CARRIER_APPLY) (setBits (s.rd (P.carrier i + R.CARRIER_APPLY)) 1 1 0)).applyStaged i)) ∧
     (s.carRun i = true → Completes (.carrierApplyGo i 1) s fun t => (t.slate i).car.pend = some none ∧
       t.flag (P.carrier i) F.CARRIER_STATUS_APPLY_PEND = true)) ∧
  -- carrierEdge
  (∀ (i : Fin 8) (s : State), s.carRun i = true → s.reached i (s.slate i).car.next = true → (s.slate i).car.pend = none →
     exec (.carrierEdge i) s = .next (
       let e := (s.slate i).car.next
       let u := (s.setSlate i fun x => { x with car := { x.car with next := e + s.carT i } }).incw (P.carrier i) R.CARRIER_EDGE_CNT
       ((forEach (axesOf i) u fun a u => u.setPwm a fun p => { p with edges := p.edges ++ [(e, s.carT i)] }).timerTrig i 0x30).checkSlate i)) ∧
  -- axisEdge
  (∀ (a : Fin 64) (s : State) (tap p : Nat), s.nextEdge a = some (tap, p) → s.reached (slateOf a) tap = true →
     exec (.axisEdge a) s = .next (
       let i := slateOf a
       let u := (s.endPeriod a).setPwm a fun x => { x with
         edges := x.edges.tail, perStart := tap, perT := p, updEdge := true, updCentre := true
         dt := max 400 (bits ((s.endPeriod a).rd (P.pwm a + R.PWM_DT)) 0 16), minon := bits ((s.endPeriod a).rd (P.pwm a + R.PWM_MINON)) 0 16 }
       let u := u.timerTrig i (0x28 + localOf a)
       let u := if u.permit a then
           let v := u.startStep a tap
           if (v.pwm a).start = .switching then
             v.setPwm a fun x => { x with act := true, hb := x.hb.map fun h =>
               if x.act && !(s.pwm a).tripPer then h else { h with ref := refHigh p h.c1 h.c2 0, onAt := tap + x.dt } }
           else v
         else u
       if u.pwmEnabled a && u.anyQualified a then u.trip a else u)) ∧
  -- updateInstant
  (∀ (a : Fin 64) (s : State),
     ((s.pwm a).updEdge = true → exec (.updateInstant a) s = .next ((s.setPwm a fun p => { p with updEdge := false }).update a true (s.pwm a).perStart)) ∧
     ((s.pwm a).updEdge = false → (s.pwm a).updCentre = true → s.carDouble (slateOf a) = true →
       s.reached (slateOf a) ((s.pwm a).perStart + (s.pwm a).perT / 2) = true → exec (.updateInstant a) s = .next
         ((s.setPwm a fun p => { p with updCentre := false }).update a false ((s.pwm a).perStart + (s.pwm a).perT / 2)))) ∧
  -- prechargeEnd
  (∀ (a : Fin 64) (s : State) (u : Nat), (s.pwm a).start = .boot u → u / 64 ≤ s.stick (slateOf a) →
     exec (.prechargeEnd a) s = .next ((s.bootLows a false u).setPwm a fun p => { p with start := .booted })) ∧
  -- tripQualify
  (∀ (a : Fin 64) (src : Fin 3) (s : State), src ≠ 0 → exec (.tripQualify a src) s = .next (
     let u := s.axisEdge a
     if u.pwmEnabled a && u.qualified a src then u.trip a else u)) ∧
  -- tripLatchClear
  (∀ (a : Fin 64) (s : State),
     (s.flag (P.pwm a) F.PWM_TRIP_STAT_LATCH = true → s.anyQualified a = false → exec (.tripLatchClear a) s = .next (
       let u := (s.setb (P.pwm a) F.PWM_TRIP_STAT_LATCH false).setf (P.pwm a) F.PWM_TRIP_STAT_CONSEC 0
       ((u.pushEvent (slateOf a) (40 + localOf a) false (s.stick (slateOf a))).setPwm a fun p => { p with run := false }).checkPermit a)) ∧
     (s.anyQualified a = true → exec (.tripLatchClear a) s = .next s)) ∧
  -- pwmEn
  (∀ (a : Fin 64) (v : BitVec 7) (s : State),
     (v.toNat % 2 = 1 → s.pwmEnabled a = false → exec (.pwmEn a v) s = .next (
       (((s.wr (P.pwm a + R.PWM_CTRL) (v.toNat &&& 0x73)).setPwm a fun p => { p with
         start := .armed, stagedPhase := false
         phase := if p.stagedPhase then bits (s.rd (P.pwm a + R.PWM_PHASE)) 0 24 else p.phase }).offHeld a).checkPermit a)) ∧
     (v.toNat % 2 = 0 → exec (.pwmEn a v) s = .next (
       (((s.wr (P.pwm a + R.PWM_CTRL) (v.toNat &&& 0x73)).setPwm a fun p => { p with start := .off }).offHeld a).checkPermit a))) ∧
  -- pwmPhaseWrite
  (∀ (a : Fin 64) (v : BitVec 24) (s : State),
     ((s.wr (P.pwm a + R.PWM_PHASE) v.toNat).pwmEnabled a = true → exec (.pwmPhaseWrite a v) s = .next
       ((s.wr (P.pwm a + R.PWM_PHASE) v.toNat).setPwm a fun p => { p with stagedPhase := true })) ∧
     ((s.wr (P.pwm a + R.PWM_PHASE) v.toNat).pwmEnabled a = false → exec (.pwmPhaseWrite a v) s = .next
       (((s.wr (P.pwm a + R.PWM_PHASE) v.toNat).setPwm a fun p => { p with phase := v.toNat, stagedPhase := false }).checkPermit a))) ∧
  -- pwmEdge
  (∀ (a : Fin 64) (k : Fin 3) (low : Bool) (s : State), (s.pwm a).act = true → (s.pwm a).tripPer = false → s.heldOff a k = false →
     (s.pwm a).hb[k].ref = true →
     (refHigh (s.pwm a).perT (s.pwm a).hb[k].c1 (s.pwm a).hb[k].c2 (s.pwm a).hb[k].c1 = false →
       s.reached (slateOf a) (s.placed (slateOf a) (hbOut a k false) ((s.pwm a).perStart + (s.pwm a).hb[k].c1)) = true →
       exec (.pwmEdge (.axis a k) .hsOff low) s = .next
         ((s.setPwm a fun p => { p with hb := p.hb.set k { p.hb[k] with ref := false, onAt := (s.pwm a).perStart + (s.pwm a).hb[k].c1 + (s.pwm a).dt } }).gateOff
           (slateOf a) (hbOut a k false) ((s.pwm a).perStart + (s.pwm a).hb[k].c1))) ∧
     (s.reached (slateOf a) (s.placed (slateOf a) (hbOut a k false) (s.pwm a).hb[k].onAt) = true →
       exec (.pwmEdge (.axis a k) .hsOn low) s = .next (s.gateOn (slateOf a) (hbOut a k false) (s.pwm a).hb[k].onAt low))) ∧
  -- delayLineSwap
  (∀ (i : Fin 8) (k : Fin 49) (delta : Int) (bad : Bool) (s : State), s.edgeNear i k = false → Completes (.delayLineSwap i k delta bad) s fun t =>
     ((t.slate i).dl[k]).twin = !((s.slate i).dl[k]).twin ∧
     (((s.slate i).dl[k]).twin = true → ((t.slate i).dl[k]).trimB = ((s.slate i).dl[k]).trimB ∧
       ((t.slate i).dl[k]).trimA = ((s.slate i).dl[k]).trimA + clampI (-1) 1 delta)) ∧
  -- calDone
  (∀ (i : Fin 8) (s : State), (s.slate i).calRun = true →
     exec (.calDone i 0) s = .next ((s.setSlate i fun x => { x with calRun := false }).setb (P.carrier i) F.CARRIER_STATUS_CAL_DONE true)) ∧
  -- chopPeriodStart
  (∀ (i : Fin 8) (s : State), (s.slate i).chop.next ≤ (s.slate i).tick → s.fld (P.chop i) F.CHOP_CTRL_MODE = 0 →
     Completes (.chopPeriodStart i) s fun t => (t.slate i).chop.gate = false ∧
       (t.slate i).chop.next = (s.slate i).chop.next + max 3125 (min 312500 (bits (s.rd (P.chop i + R.CHOP_PERIOD)) 0 19))) ∧
  -- chopTrip
  (∀ (i : Fin 8) (s : State), s.chopSeen i true = true → s.flag (P.chop i) F.CHOP_CTRL_OCP_EN = true → (s.slate i).chop.tripNow = true →
     exec (.chopTrip i true) s = .next ((s.setSlate i fun x => { x with chop := { x.chop with gate := false } }).gateOff i 48 (64 * s.stick i)))

/-- A staged carrier period and mode come into force together or are rejected together (R83). -/
def Obligations.StagedPeriod : Prop :=
  (∀ (i : Fin 8) (s : State),
     ((200000 ≤ bits (s.rd (P.carrier i + R.CARRIER_PERIOD)) 1 23 * 2 ∧ bits (s.rd (P.carrier i + R.CARRIER_PERIOD)) 1 23 * 2 ≤ 2500000) →
       (bits (s.rd (P.carrier i + R.CARRIER_MODE)) 0 1 = 1 → 250000 ≤ bits (s.rd (P.carrier i + R.CARRIER_PERIOD)) 1 23 * 2) →
       (∀ a ∈ axesOf i, s.pwmEnabled a = true → (s.pwm a).phase < bits (s.rd (P.carrier i + R.CARRIER_PERIOD)) 1 23 * 2) →
       (s.applyStaged i).carT i = bits (s.rd (P.carrier i + R.CARRIER_PERIOD)) 1 23 * 2 ∧
       (s.applyStaged i).carDouble i = decide (bits (s.rd (P.carrier i + R.CARRIER_MODE)) 0 1 = 1) ∧
       (s.applyStaged i).flag (P.carrier i) F.CARRIER_APPLY_STAT_DONE = true) ∧
     ((bits (s.rd (P.carrier i + R.CARRIER_PERIOD)) 1 23 * 2 < 200000 ∨ 2500000 < bits (s.rd (P.carrier i + R.CARRIER_PERIOD)) 1 23 * 2) →
       (s.applyStaged i).carT i = s.carT i ∧ (s.applyStaged i).flag (P.carrier i) F.CARRIER_APPLY_STAT_REJECT = true ∧
       (s.applyStaged i).pageErr (P.carrier i) E.carrier_PER_REJECT = true))

/-- Compare values coming into force are clamped by Table 4-1, row by row, and PWM_CMP shows them (R77). -/
def Obligations.CompareClamp : Prop :=
  -- rows
  (∀ h cmin c : Nat, (h ≤ c → clampCompare h cmin c = h) ∧ (c < h → c < cmin → clampCompare h cmin c = 0) ∧
     (c < h → cmin ≤ c → (h : Int) - cmin < c → clampCompare h cmin c = h) ∧ (c < h → cmin ≤ c → (c : Int) ≤ (h : Int) - cmin → clampCompare h cmin c = c)) ∧
  -- loadSet
  (∀ (a : Fin 64) (edge : Bool) (c : CmpSet) (k : Fin 3) (f : Nat → Nat) (s : State), f = clampCompare ((s.pwm a).perT / 2) ((s.pwm a).dt + (s.pwm a).minon) →
     (((s.loadSet a edge c).pwm a).hb[k]).c2 = f (#v[c.u, c.v, c.w][k]) ∧
     (edge = true → (((s.loadSet a edge c).pwm a).hb[k]).c1 = f (#v[c.u, c.v, c.w][k])) ∧
     (edge = false → (((s.loadSet a edge c).pwm a).hb[k]).c1 = ((s.pwm a).hb[k]).c1) ∧
     bits ((s.loadSet a edge c).rd (P.pwm a + R.PWM_CMP_U + 4 * k)) 0 24 = f (#v[c.u, c.v, c.w][k]) % 2 ^ 24) ∧
  -- loadInit
  (∀ (a : Fin 64) (k : Fin 3) (v : Nat) (s : State), v = clampCompare (s.carT (slateOf a) / 2) ((s.pwm a).dt + (s.pwm a).minon) (bits (s.rd (P.pwm a + R.PWM_CMP_INIT)) 0 24) →
     (((s.loadInit a).pwm a).hb[k]).c1 = v ∧ (((s.loadInit a).pwm a).hb[k]).c2 = v ∧ bits ((s.loadInit a).rd (P.pwm a + R.PWM_CMP_U + 4 * k)) 0 24 = v % 2 ^ 24) ∧
  -- law
  (∀ h cmin c : Nat, clampCompare h cmin c = 0 ∨ clampCompare h cmin c = h ∨
     (clampCompare h cmin c = c ∧ cmin ≤ c ∧ c + cmin ≤ h)) ∧
  -- mono
  (∀ h cmin c d : Nat, c ≤ d → clampCompare h cmin c ≤ clampCompare h cmin d) ∧
  -- duty
  (∀ t c1 c2 : Nat, c1 + c2 ≤ t → ((List.range t).filter (refHigh t c1 c2)).length = c1 + c2)

/-- Gate drivers: phases, interlock, lockouts, reports; sampling, conversion, calibration, background channels (R19, R20, R99, R100, R101, R106, R108, R109, R110, R111, R115, R116, R118, R119). Rests on log 9, 15. -/
def Obligations.GateAndSampling : Prop :=
  -- gatePhaseAdvance
  (∀ (i : Fin 8) (k : Fin 49) (s : State),
     ((s.out i k).ph = .pre → exec (.gatePhaseAdvance i k) s = .next
       (s.setOut i k fun o => { o with ph := if bits o.prof 16 5 ≤ bits o.prof 0 5 then .hold else .slope })) ∧
     ((s.out i k).ph = .slope → exec (.gatePhaseAdvance i k) s = .next (s.setOut i k fun o => { o with ph := .hold }))) ∧
  -- tonTmo
  (∀ (i : Fin 8) (k : Fin 49) (s : State), (s.out i k).ph = .slope → (s.out i k).onTick + 4 * max 2 (bits (s.out i k).prof 24 8) ≤ s.stick i →
     exec (.tonTmo i k) s = .next ((((s.setOut i k fun o => { o with ph := .hold }).inc (P.gate i) F.GATE_TMO_CNT_COUNT).setf (P.gate i)
       F.GATE_TMO_CNT_LAST_OUT k.val).err (P.gate i) E.gate_TON_TMO)) ∧
  -- turnOnRelease
  (∀ (i : Fin 8) (k : Fin 48) (s : State), (s.out i k.castSucc).ph = .wait → (s.out i (otherOut k.castSucc)).cmd = false →
     (s.out i (otherOut k.castSucc)).offTap + 400 ≤ 64 * s.stick i + 63 →
     exec (.turnOnRelease i k) s = .next (s.setOut i k.castSucc fun o => { o with ph := if s.lockedOut i k.castSucc then .off else .pre })) ∧
  -- glock
  (∀ (i : Fin 8) (k : Fin 48) (s : State), (s.out i k.castSucc).ph = .wait → (s.out i k.castSucc).glock = false →
     (s.out i k.castSucc).onTick + 625 < s.stick i →
     exec (.glock i k) s = .next ((s.setOut i k.castSucc fun o => { o with glock := true }).err (P.gate i) E.gate_GLOCK)) ∧
  -- vgdLockout
  (∀ (i : Fin 8) (s : State), exec (.vgdLockout i false) s = .next
       ((s.setb (P.gate i) F.GATE_STATUS_VGD_UV false).setSlate i fun x => { x with vgdRep := false }) ∧
     exec (.vgdLockout i true) s = .next (
       let t := forEach ((List.finRange 48).map Fin.castSucc) (s.setb (P.gate i) F.GATE_STATUS_VGD_UV true) fun k t => t.gateHold i k
       let t := t.setSlate i fun x => { x with vgdRep := t.gsSettled i }
       if t.gsSettled i then t.err (P.gate i) E.gate_VGD_UV else t)) ∧
  -- vgdUvReport
  (∀ (i : Fin 8) (s : State), s.flag (P.gate i) F.GATE_STATUS_VGD_UV = true → s.gsSettled i = true → (s.slate i).vgdRep = false →
     exec (.vgdUvReport i) s = .next ((s.setSlate i fun x => { x with vgdRep := true }).err (P.gate i) E.gate_VGD_UV)) ∧
  -- bstLockout
  (∀ (i : Fin 8) (k : Fin 24) (s : State), exec (.bstLockout i k false) s = .next (s.setbit (P.gate i) R.GATE_BST_STAT k.val false) ∧
     exec (.bstLockout i k true) s = .next (
       let t := s.setbit (P.gate i) R.GATE_BST_STAT k.val true
       let u := t.gateHold i ⟨2 * k.val, by omega⟩
       if t.gsOn i then u.err (P.gate i) E.gate_BST_UV else u)) ∧
  -- otShut
  (∀ (i : Fin 8) (s : State), exec (.otShut i false) s = .next (s.setb (P.gate i) F.GATE_STATUS_OT_SHUT false) ∧
     exec (.otShut i true) s = .next ((forEach ((List.finRange 48).map Fin.castSucc) (s.setb (P.gate i) F.GATE_STATUS_OT_SHUT true) fun k t =>
       t.gateHold i k).err (P.gate i) E.gate_OT_SHUT)) ∧
  -- desatReport
  (∀ (i : Fin 8) (k : Fin 49) (a : Fin 64) (s : State), outAxis i k = some a →
     (bits (s.out i k).prot 8 1 = 1 → (s.out i k).cmd = true → (s.out i k).ph = .hold → exec (.desatReport i k true) s = .next
       ((s.setOut i k fun o => { o with desat := some (o.desat.getD (s.stick i)) }).refreshDesat a)) ∧
     exec (.desatReport i k false) s = .next ((s.setOut i k fun o => { o with desat := none }).refreshDesat a)) ∧
  -- ocpAssert
  (∀ (n : Fin 8) (i : Fin 8) (on : Bool) (s : State), s.fld (P.adc i) (F.ADC_AXCFG_OCP_TH n.val) ≠ 0 → Completes (.ocpAssert i ⟨3 * n.val, by omega⟩ on) s fun t =>
     (t.pwm (axisOf i n)).ocpPh = setBits (s.pwm (axisOf i n)).ocpPh 0 1 on.toNat ∧ t.regs = s.regs) ∧
  -- samplingInstant
  (∀ (a : Fin 64) (edge : Bool) (s : State), s.samplingDue a edge = true → s.spdDiv a = 0 → isSerial (s.fbModeNow a) = false →
     Completes (.samplingInstant a edge) s fun t => (t.pwm a).tag = ((s.pwm a).tag + 1) % 256 ∧ (t.pwm a).conv = true ∧
       (t.pwm a).held.stamp = s.samplingTap a edge / 64 ∧ (t.pwm a).smpN = (s.pwm a).smpN + 1 ∧ t.regs = s.regs) ∧
  -- conversionComplete
  (∀ (a : Fin 64) (iu iv iw : Int) (vbus : Nat) (s : State), (s.pwm a).conv = true → Completes (.conversionComplete a iu iv iw vbus) s fun t =>
     (t.pwm a).conv = false ∧ ((t.slate (slateOf a)).link.smpq).length = ((s.slate (slateOf a)).link.smpq).length + 1) ∧
  -- adcCalGo
  (∀ (i n : Fin 8) (s : State), s.pwmEnabled (axisOf i n) = false → Completes (.adcCalGo i (1 <<< n.val)) s fun t =>
     t.rbit (P.adc i) R.ADC_CAL n.val = true ∧ (t.pwm (axisOf i n)).cal = true) ∧
  -- adcCalComplete
  (∀ (i n : Fin 8) (u v w : BitVec 16) (s : State), s.rbit (P.adc i) R.ADC_CAL n.val = true → Completes (.adcCalComplete i n u v w) s fun t =>
     t.rbit (P.adc i) R.ADC_CAL n.val = false ∧ (t.pwm (axisOf i n)).cal = false) ∧
  -- backgroundConversion
  (∀ (i : Fin 8) (k : Nat) (v : BitVec 16) (s : State),
     (s.bgDue i .vgd k = true → exec (.backgroundConversion i .vgd k v) s = .next (s.wr (P.adc i + R.ADC_VGD) v.toNat)) ∧
     (s.bgDue i .temp k = true → toSigned 16 (s.rd (P.adc i + R.ADC_TEMP_WARN)) < toSigned 16 v.toNat →
       exec (.backgroundConversion i .temp k v) s = .next ((s.wr (P.adc i + R.ADC_TEMP) v.toNat).err (P.adc i) E.adc_OT_WARN)) ∧
     (s.bgDue i .ain0 k = true → exec (.backgroundConversion i .ain0 k v) s = .next (s.setf (P.adc i) F.ADC_AIN_AIN0 v.toNat)))

/-- A turn-on while the other switch of the half-bridge is commanded on turns both off and sets XCOND (R108). -/
def Obligations.GateInterlock : Prop :=
  (∀ (i : Fin 8) (k : Fin 49) (tap : Nat) (low : Bool) (s : State), k.val < 48 → (s.out i k).cmd = false → (s.out i (otherOut k)).cmd = true →
     ((s.gateOn i k tap low).out i k).ph = .off ∧ ((s.gateOn i k tap low).out i (otherOut k)).ph = .off ∧
     (s.gateOn i k tap low).pageErr (P.gate i) E.gate_XCOND = true ∧ (s.gateOn i k tap low).flag (P.gate i) F.GATE_STATUS_XHOLD = true)

/-- Feedback ports: Hall, quadrature, index, modes, presets, reads; serial sensor requests and readings (R123, R124, R126, R127, R128, R129, R130, R131, R132, R133, R134, R135, R140). Rests on log 28. -/
def Obligations.FeedbackAndSensors : Prop :=
  -- hallChange
  (∀ (a : Fin 64) (lands : BitVec 3) (t0 : Nat) (s : State), fbHallRead (s.fbCtrl a) = true →
     t0 + max (8 * bits (s.fbCtrl a) 20 8) 1 ≤ s.stick (slateOf a) + 1 → lands.toNat ≠ (s.fb a).hall →
     exec (.hallChange a lands t0) s = .next (
       let u := (s.setFb a fun f => { f with hall := lands.toNat }).pushEvent (slateOf a) (24 + localOf a) false (t0 + max (8 * bits (s.fbCtrl a) 20 8) 1 - 1)
       let v := u.setf (P.fb a) F.FB_STATUS_HALL (u.hallState a)
       match hallIndex (u.hallState a) with
       | none => ((v.inc (P.fb a) F.FB_HALL_CNT_ILLEGAL).err (P.fb a) E.fb_HALL_ILLEGAL).setFb a fun f => { f with hallBad := true }
       | some k => v.hallStep a (u.hallState a) k t0)) ∧
  -- abzEdge
  (∀ (a : Fin 64) (la lb : Bool) (t0 : Nat) (s : State), s.fbModeNow a = 2 → t0 + bits (s.fbCtrl a) 16 3 ≤ s.stick (slateOf a) →
     ((quadIndex la lb + 4 - quadIndex (s.fb a).a (s.fb a).b) % 4 = 1 → exec (.abzEdge a la lb t0) s = .next
       ((s.setFb a fun f => { f with a := la, b := lb }).fbCount a 1 (bits (s.fbCtrl a) 3 1 == 1) t0)) ∧
     ((quadIndex la lb + 4 - quadIndex (s.fb a).a (s.fb a).b) % 4 = 3 → exec (.abzEdge a la lb t0) s = .next
       ((s.setFb a fun f => { f with a := la, b := lb }).fbCount a 1 (true != (bits (s.fbCtrl a) 3 1 == 1)) t0)) ∧
     ((quadIndex la lb + 4 - quadIndex (s.fb a).a (s.fb a).b) % 4 = 2 → exec (.abzEdge a la lb t0) s = .next
       ((((s.setFb a fun f => { f with a := la, b := lb }).err (P.fb a) E.fb_QUAD).inc (P.fb a) F.FB_ERR_CNT_COUNT).setFb a fun f =>
         { f with quadBad := true }))) ∧
  -- index
  (∀ (a : Fin 64) (t0 : Nat) (s : State), s.fbModeNow a = 2 → t0 + bits (s.fbCtrl a) 16 3 ≤ s.stick (slateOf a) →
     idxQual (bits (s.fbCtrl a) 11 2) (s.fb a).a (s.fb a).b = true → bits (s.fbCtrl a) 9 2 = 2 → Completes (.index a t0) s fun t =>
       (t.fb a).p = 0 ∧ (t.fb a).turn = (s.fb a).turn ∧ t.flag (P.fb a) F.FB_STATUS_HOMED = true ∧ t.flag (P.fb a) F.FB_STATUS_VALID = true ∧
       t.fld (P.fb a) F.FB_CTRL_IDX_MODE = 1) ∧
  -- fbModeWrite
  (∀ (a : Fin 64) (v : BitVec 28) (lands : BitVec 5) (s : State), isSerial (fbMode (v.toNat &&& 0xFF71FFF)) = false →
     Completes (.fbModeWrite a v lands) s fun t => t.rd (P.fb a + R.FB_CTRL) = v.toNat &&& 0xFF71FFF ∧
       RegsBut [P.fb a + R.FB_CTRL, P.fb a + R.FB_STATUS] s t) ∧
  -- fbWrapWrite
  (∀ (a : Fin 64) (v : Word) (s : State), isSerial (s.fbModeNow a) = false → Completes (.fbWrapWrite a v) s fun t =>
     (bits v.toNat 31 1 = 1 → (t.fb a).w = v.toNat % 2 ^ 31 + 1 ∧ (t.fb a).p = (s.fb a).p % (v.toNat % 2 ^ 31 + 1) ∧ (t.fb a).pendW = none) ∧
     (bits v.toNat 31 1 = 0 → (t.fb a).pendW = some (v.toNat % 2 ^ 31 + 1) ∧ (t.fb a).p = (s.fb a).p ∧ (t.fb a).w = (s.fb a).w)) ∧
  -- preset
  (∀ (a : Fin 64) (s : State), isSerial (s.fbModeNow a) = false → bits (s.rd (P.fb a + R.FB_PRESET_POS)) 0 31 < (s.fb a).w →
     Completes (.preset a) s fun t => (t.fb a).p = bits (s.rd (P.fb a + R.FB_PRESET_POS)) 0 31 ∧
       (t.fb a).turn = (s.reg (P.fb a + R.FB_PRESET_TURN)).toInt ∧ t.flag (P.fb a) F.FB_STATUS_VALID = true ∧ RegsBut [P.fb a + R.FB_STATUS] s t) ∧
  -- fbPosRead
  (∀ (q : Fin 514) (a : Fin 64) (s : State), exec (.fbPosRead q a) s = .next
     ((((s.wr (P.fb a + R.FB_TURN) (ofSigned 32 (s.fbShown a).turn)).wr (P.fb a + R.FB_LAST_TICK) ((s.fbShown a).lastChange % 2 ^ 32)).wr
       (P.fb a + R.FB_LAST_INT) (s.fbShown a).lastInt).answer q.val (P.fb a + R.FB_POS) (s.fbShown a).p)) ∧
  -- fbStill
  (∀ (a : Fin 64) (s : State), 625 * max 1 (s.fld (P.fb a) F.FB_SPD_CFG_STILL_TMO) < 2 * (s.stick (slateOf a) - (s.fb a).lastChange) →
     exec (.fbStill a) s = .next (s.setb (P.fb a) F.FB_STATUS_STILL true)) ∧
  -- serialRequest
  (∀ (a : Fin 64) (s : State), isSerial (s.fbModeNow a) = true → (s.fb a).reqDue = true → (s.fb a).serBusy = false →
     2 * (s.fb a).serEnd + 625 * max 1 (s.fld (P.fb a) F.FB_SER_CLK_GAP_US) ≤ 2 * s.stick (slateOf a) →
     Completes (.serialRequest a) s fun t => (t.fb a).serBusy = true ∧ (t.fb a).reqTick = s.stick (slateOf a) ∧ (t.fb a).reqDue = false ∧
       t.flag (P.fb a) F.FB_STATUS_SER_BUSY = true) ∧
  -- serialReading
  (∀ (a : Fin 64) (start : Bool) (raw raw2 : BitVec 64) (s : State), (s.fb a).serBusy = true → exec (.serialReading a start raw raw2) s = .next (
     let u := ((s.setFb a fun f => { f with serBusy := false, serEnd := s.stick (slateOf a) }).setb (P.fb a) F.FB_STATUS_SER_BUSY false).wr64
       (P.fb a) R.FB_SER_RAW_LO raw.toNat
     let cfg := u.rd (P.fb a + R.FB_SER_CFG)
     match (if u.fbModeNow a = 3 then bissDecode cfg start raw.toNat else ssiDecode cfg raw.toNat raw2.toNat) with
     | .good pos => u.serGood a pos
     | .bad => u.serFail a false
     | .ne => u.serFail a true))

/-- A port's count moves the full position by one, inside the wrap (R132). -/
def Obligations.CountingLaw : Prop :=
  -- up
  (∀ f : FbPort, f.p < f.w → f.pendW = none → -(2 ^ 31) ≤ f.turn → f.turn + 1 < 2 ^ 31 →
     f.up.1.p < f.up.1.w ∧ f.up.1.w = f.w ∧ f.up.2 = false ∧ (f.up.1.p : Int) + f.up.1.turn * f.w = f.p + f.turn * f.w + 1) ∧
  -- down
  (∀ f : FbPort, f.p < f.w → f.pendW = none → -(2 ^ 31) < f.turn → f.turn < 2 ^ 31 →
     f.down.1.p < f.down.1.w ∧ f.down.1.w = f.w ∧ f.down.2 = false ∧ (f.down.1.p : Int) + f.down.1.turn * f.w = f.p + f.turn * f.w - 1)

/-- Descriptor writes, graph changes, the loop unit's registers; evaluations, engine calls and their replies (R22, R25, R154, R158, R159, R161, R164, R170, R172, R173, R176). -/
def Obligations.ControlGraphs : Prop :=
  -- descriptorWrite
  (∀ (q : Fin 514) (g : Fin 16) (off : Fin 8192) (sz : Fin 4) (v : BitVec 64) (s : State), s.accessOk q.val (descBase g + off) true = true →
     (s.descAxis ((descBase g + off - 0x400000) / 0x40000) (((descBase g + off) % 0x40000 - 0x2000) / 64) = none →
       exec (.descriptorWrite q g off sz v) s = .next (s.store (descBase g + off) (2 ^ sz.val) (v.toNat % 2 ^ (8 * 2 ^ sz.val)))) ∧
     (∀ a, s.descAxis ((descBase g + off - 0x400000) / 0x40000) (((descBase g + off) % 0x40000 - 0x2000) / 64) = some a →
       s.descLive a (((descBase g + off) % 0x40000 - 0x2000) / 64) = false → s.flag (P.loop a) F.LOOP_CTRL_HOLD = false →
       exec (.descriptorWrite q g off sz v) s = .next (s.store (descBase g + off) (2 ^ sz.val) (v.toNat % 2 ^ (8 * 2 ^ sz.val)))) ∧
     (∀ a, s.descAxis ((descBase g + off - 0x400000) / 0x40000) (((descBase g + off) % 0x40000 - 0x2000) / 64) = some a →
       s.descLive a (((descBase g + off) % 0x40000 - 0x2000) / 64) = true → ((descBase g + off) % 0x40000 - 0x2000) % 64 < 12 →
       exec (.descriptorWrite q g off sz v) s = .next (s.err (P.loop a) E.loop_DESC_WP))) ∧
  -- holdRelease
  (∀ (a : Fin 64) (s : State), s.flag (P.loop a) F.LOOP_CTRL_HOLD = true → exec (.holdRelease a) s = .next (
     let u := ((s.setb (P.loop a) F.LOOP_CTRL_HOLD false).setLoop a fun l => { l with wbuf := [], deferred := l.deferred ++ l.wbuf }).wbufShow a
     if u.evaluating a then u else u.flushDesc a)) ∧
  -- descriptorWritesApply
  (∀ (a : Fin 64) (s : State), s.evaluating a = false → exec (.descriptorWritesApply a) s = .next
     (forEach (s.loopOf a).deferred (s.setLoop a fun l => { l with deferred := [] }) fun w t => t.applyDesc a w)) ∧
  -- apply
  (∀ (a : Fin 64) (s : State), exec (.apply a) s = .next ((s.setb (P.loop a) F.LOOP_CTRL_APPLY true).setb (P.loop a) F.LOOP_STATUS_APPLY_PEND true)) ∧
  -- graphValidate
  (∀ (a : Fin 64) (s u : State), s.evaluating a = false → s.flag (P.loop a) F.LOOP_CTRL_APPLY = true →
     u = (s.setb (P.loop a) F.LOOP_CTRL_APPLY false).setb (P.loop a) F.LOOP_STATUS_APPLY_PEND false →
     (∀ i r, u.validate a = some (i, r) → exec (.graphValidate a) s = .next ((u.wr (P.loop a + R.LOOP_REJECT) (r * 2 ^ 24 + i)).err (P.loop a) E.loop_GRAPH_REJ)) ∧
     (u.validate a = none → Completes (.graphValidate a) s fun t => (t.loopOf a).graph = some (u.stagedGraph a) ∧ (t.loopOf a).n = 0)) ∧
  -- loopRun
  (∀ (a : Fin 64) (on : Bool) (s : State),
     (on = s.loopRun a → exec (.loopRun a on) s = .next (s.setb (P.loop a) F.LOOP_CTRL_RUN on)) ∧
     (on = false → s.loopRun a = true → exec (.loopRun a on) s = .next
       (((s.setb (P.loop a) F.LOOP_CTRL_RUN false).setLoop a fun l => { l with pend := none }).prfGate a)) ∧
     (on = true → s.loopRun a = false → exec (.loopRun a on) s = .next (
       let u := s.setb (P.loop a) F.LOOP_CTRL_RUN true
       ((u.setLoop a fun l => { l with n := 0, wf := u.runW a, c := wrap64 (u.recTurns a (u.runW a)), lastPos := some (u.loopOf a).fb.pos, posStamp := 0, pend := none }).setb
         (P.loop a) F.LOOP_STATUS_POS_HELD false).prfGate a))) ∧
  -- loopPosLoRead
  (∀ (q : Fin 514) (a : Fin 64) (s : State), exec (.loopPosLoRead q a) s = .next
     ((s.latch q.val (P.loop a + R.LOOP_POS_HI) (ofSigned 64 (s.loopOf a).c / 2 ^ 32)).answer q.val (P.loop a + R.LOOP_POS_LO)
       (ofSigned 64 (s.loopOf a).c % 2 ^ 32))) ∧
  -- luDescRangeWrite
  (∀ (g : Fin 16) (j : Fin 4) (v : Word) (s : State), s.locked = false → bits v.toNat 0 7 + bits v.toNat 16 8 ≤ 128 →
     (∀ k, k < 4 → k ≠ j.val → bits (s.rd (P.loopunit g + R.LU_DESC_RANGE k)) 16 8 = 0) →
     exec (.luDescRangeWrite g j v) s = .next (s.wr (P.loopunit g + R.LU_DESC_RANGE j) (bits v.toNat 16 8 * 2 ^ 16 + bits v.toNat 0 7))) ∧
  -- evaluationStart
  (∀ (a : Fin 64) (set : SampleSet) (s u : State), (s.loopOf a).pend = some set → s.evaluating a = false → (s.evalStart a set).2 ≤ s.now →
     s.loopRun a = true → u = (s.flushDesc a).applyGraph a →
     ((u.loopOf a).graph = none → exec (.evaluationStart a) s = .next u) ∧
     (u.stage ≠ 3 → (u.stage ≠ 2 ∨ (u.loopOf a).basic = false) → (u.loopOf a).graph ≠ none → exec (.evaluationStart a) s = .next (u.setLoop a fun l => { l with pend := none })) ∧
     (∀ g, (u.loopOf a).graph = some g → (u.stage = 3 ∨ (u.stage = 2 ∧ (u.loopOf a).basic = true)) → exec (.evaluationStart a) s = .next (
         let set := if (u.loopOf a).n = 0 then { set with n := 0 } else set
         let v := u.setLoop a fun l => { l with pend := none, evalSet := set, n := max l.n (set.n + 1) }
         let nom := (s.evalStart a set).1
         let start := (s.evalStart a set).2
         let v := ((v.noteLag a (start - nom)).incw (P.loop a) R.LOOP_EVAL_CNT).inputStage a set g
         v.evalNodes a g { start := start, at_ := start + 20, fgl := start + 20, set := set, lagged := start != nom } g.first g.count))) ∧
  -- ecallTmo
  (∀ (a : Fin 64) (e : EvalWait) (s : State), (s.loopOf a).wait = some e → e.at_ + e.tmo ≤ s.now → exec (.ecallTmo a) s = .next
     (((s.inc (P.loop a) F.LOOP_ECALL_CNT_TMO).err (P.loop a) E.loop_ECALL_TMO).callDone a e e.tmo none)) ∧
  -- ecallReply
  (∀ (g : Fin 16) (r : Nat × List Word) (a : Fin 64) (s : State), (s.replies.find? fun r => r.1 == g.val) = some r →
     axis? ((r.2.headD 0).toNat / 2 ^ 24) = some a → groveOf a = g.val →
     ((s.loopOf a).wait = none → exec (.ecallReply g) s = .next ((s.setReplies (s.replies.erase r)).inc (P.loop a) F.LOOP_ECALL_CNT_LATE)) ∧
     (∀ e, (s.loopOf a).wait = some e → r.2.headD 0 = e.word0 → s.now ≤ e.at_ + e.tmo → exec (.ecallReply g) s = .next
       ((s.setReplies (s.replies.erase r)).callDone a e (s.now - e.at_) (some r.2))))

/-- Every node output lies in the signal format when its inputs and parameters do (R165). -/
def Obligations.NodeRange : Prop :=
  (∀ (opc mode : Nat) (x : NodeIn), (-(2 ^ 31) ≤ x.a ∧ x.a < 2 ^ 31) → (-(2 ^ 31) ≤ x.b ∧ x.b < 2 ^ 31) →
     (-(2 ^ 31) ≤ (nodeRun opc mode x).a ∧ (nodeRun opc mode x).a < 2 ^ 31) ∧
     (-(2 ^ 31) ≤ (nodeRun opc mode x).b ∧ (nodeRun opc mode x).b < 2 ^ 31) ∧
     (-(2 ^ 31) ≤ (nodeRun opc mode x).c ∧ (nodeRun opc mode x).c < 2 ^ 31))

/-- The duties of the SVM node lie in [0, 1 − 2⁻³¹] (R167). -/
def Obligations.SpaceVectorDuties : Prop :=
  (∀ (x : NodeIn) (three : Bool), (0 ≤ (nodeSvm x three).a ∧ (nodeSvm x three).a ≤ 0x7FFFFFFF) ∧ (0 ≤ (nodeSvm x three).b ∧ (nodeSvm x three).b ≤ 0x7FFFFFFF) ∧
     (three = true → 0 ≤ (nodeSvm x three).c ∧ (nodeSvm x three).c ≤ 0x7FFFFFFF))

/-- Engine states: reset and release, GO, STEP, HALT, watchdog, breakpoints and debug access (R191, R192, R193, R194, R195, R201, R204). Rests on log 14. -/
def Obligations.EngineControl : Prop :=
  -- engRst
  (∀ (e : Fin 512) (s : State), ((s.eng e).st = .safety → exec (.engRst e) s = .next s) ∧
     ((s.eng e).st ≠ .safety → (s.eng e).shw = [] → (s.eng e).fbw = [] → exec (.engRst e) s = .next
       ((s.setEng e fun x => { x.toSt s.now .reset with stall := none, rstPend := false, haltReq := false, stepping := false }).setb (P.engine e) F.ENG_CTRL_RST true)) ∧
     ((s.eng e).st ≠ .safety → ((s.eng e).shw ≠ [] ∨ (s.eng e).fbw ≠ []) → exec (.engRst e) s = .next
       ((s.setEng e fun x => { x with rstPend := true }).setb (P.engine e) F.ENG_CTRL_RST true))) ∧
  -- engRstRelease
  (∀ (e : Fin 512) (s : State), (s.eng e).st = .reset → exec (.engRstRelease e) s = .next (
     let u := s.setb (P.engine e) F.ENG_CTRL_RST false
     u.setEng e fun x => { st := .halted, pc := u.fld (P.engine e) F.ENG_START_PC_PC, cycBase := u.now, busy := x.busy, wdLeft := u.wdPeriod e })) ∧
  -- engGo
  (∀ (e : Fin 512) (s : State), ((s.eng e).st = .halted → s.stage = 3 → s.domHalted (s.ownerReg (P.engine e)) = false →
       exec (.engGo e) s = .next (s.setEng e fun x => { x.toSt s.now .running with stepping := false })) ∧
     ((s.eng e).st ≠ .halted ∨ s.stage ≠ 3 ∨ s.domHalted (s.ownerReg (P.engine e)) = true → exec (.engGo e) s = .next s)) ∧
  -- engStep
  (∀ (e : Fin 512) (s : State), ((s.eng e).st = .halted → exec (.engStep e) s = .next (s.setEng e fun x => { x.toSt s.now .running with stepping := true })) ∧
     ((s.eng e).st ≠ .halted → exec (.engStep e) s = .next s)) ∧
  -- engHalt
  (∀ (e : Fin 512) (s : State), ((s.eng e).st = .waiting ∨ ((s.eng e).st = .running ∧ (s.eng e).slot = none ∧ (s.eng e).stall = none) →
       exec (.engHalt e) s = .next (s.setEng e fun x => { x.applyModes.toSt s.now .halted with haltReq := false, stepping := false })) ∧
     ((s.eng e).st = .running → ((s.eng e).slot ≠ none ∨ (s.eng e).stall ≠ none) →
       exec (.engHalt e) s = .next (s.setEng e fun x => { x with haltReq := true }))) ∧
  -- engineWake
  (∀ (e : Fin 512) (s u : State), (s.eng e).st = .waiting → ((s.eng e).calls ≠ [] ∨ (s.eng e).mails ≠ [] ∨ (s.eng e).wdPend = true) →
     u = (s.setEng e fun x => x.toSt s.now .running) →
     ((s.eng e).exl = true → exec (.engineWake e) s = .next u) ∧
     ((s.eng e).exl = false → u.asyncCause e = none → exec (.engineWake e) s = .next u) ∧
     (∀ c, (s.eng e).exl = false → u.asyncCause e = some c → exec (.engineWake e) s = .next (u.exception e c 0 0 false))) ∧
  -- breakpointMatch
  (∀ (e : Fin 512) (s : State), (s.eng e).ready = true → s.preempted e = false → s.brkMatch e = true →
     (s.flag (P.engine e) F.ENG_CFG_BRK_HALT = false → s.badFetch e = false → exec (.breakpointMatch e) s = .next (s.exception e 6 0 0 true)) ∧
     (s.flag (P.engine e) F.ENG_CFG_BRK_HALT = false → s.badFetch e = true → exec (.breakpointMatch e) s = .next (s.memFault e)) ∧
     (s.flag (P.engine e) F.ENG_CFG_BRK_HALT = true → (s.eng e).slot = none →
       exec (.breakpointMatch e) s = .next (s.setEng e fun x => { x.halt s.now with brkSkip := some x.pc })) ∧
     (s.flag (P.engine e) F.ENG_CFG_BRK_HALT = true → (s.eng e).slot ≠ none →
       exec (.breakpointMatch e) s = .next (s.setEng e fun x => { x with haltReq := true, brkSkip := some x.pc }))) ∧
  -- engWdogExpiry
  (∀ (e : Fin 512) (s : State), s.wdPeriod e ≠ 0 → (s.eng e).st.counts = true → (s.eng e).wdLeft ≤ 2 * (s.now - (s.eng e).wdAt) →
     ((s.eng e).wdOnce = false → exec (.engWdogExpiry e) s = .next (s.setEng e fun x => { x with wdLeft := s.wdPeriod e, wdAt := s.now, wdPend := true, wdOnce := true })) ∧
     ((s.eng e).wdOnce = true → exec (.engWdogExpiry e) s = .next ((s.setEng e fun x => x.toSt s.now .faultHalt).err (P.engine e) E.engine_WDOG))) ∧
  -- ioWdogKick
  (∀ (e : Fin 512) (s : State), (s.eng e).st = .running → exec (.ioWdogKick e) s = .next
     (s.setEng e fun x => { x with wdLeft := s.wdPeriod e, wdAt := s.now, wdPend := false, wdOnce := false })) ∧
  -- engDbgDataWrite
  (∀ (e : Fin 512) (v : Word) (s : State), ((s.eng e).st = .halted → exec (.engDbgDataWrite e v) s = .next
       (s.setEng e fun x => x.dbgWrite (s.dbgSel e) v.toNat)) ∧
     ((s.eng e).st ≠ .halted → exec (.engDbgDataWrite e v) s = .next s)) ∧
  -- engPcWrite
  (∀ (e : Fin 512) (v : BitVec 12) (s : State), ((s.eng e).st = .halted → exec (.engPcWrite e v) s = .next
       (s.setEng e fun x => { x with pc := v.toNat, slot := none, estat := setBits x.estat 4 1 0 })) ∧
     ((s.eng e).st ≠ .halted → exec (.engPcWrite e v) s = .next s)) ∧
  -- ioCycleLoRead
  (∀ (e : Fin 512) (s : State), (s.eng e).st = .running → exec (.ioCycleLoRead e) s = .next
     (s.setEng e fun x => { x with cycHi := ((s.now - x.cycBase) * 16 / 5) / 2 ^ 32 % 2 ^ 32 })) ∧
  -- externalMemoryWrite
  (∀ (q : Fin 514) (addr : BitVec 26) (sz : Fin 4) (v : BitVec 64) (e : Fin 512) (s : State), regionAt addr.toNat = .engMem e.val →
     addr.toNat % 2 ^ sz.val = 0 → s.accessOk q.val addr.toNat true = true →
     (0x4000 ≤ addr.toNat % 0x10000 ∨ (s.eng e).st = .reset ∨ (s.eng e).st = .halted →
       exec (.externalMemoryWrite q addr sz v) s = .next (s.store addr.toNat (2 ^ sz.val) v.toNat)) ∧
     (addr.toNat % 0x10000 < 0x4000 → (s.eng e).st ≠ .reset → (s.eng e).st ≠ .halted →
       exec (.externalMemoryWrite q addr sz v) s = .next (s.err (P.engine e) E.engine_IMEM_WP)))

/-- Taking an exception: what is saved, where the handler starts, and the double exception (R196, R197, R198, R199, R203). Rests on log 30. -/
def Obligations.Exceptions : Prop :=
  -- law
  (∀ (e : Fin 512) (cause sub addr : Nat) (sync : Bool) (s : State) (x : EngineState), x = s.core e →
     ((sync && x.exl) = false →
       (s.exception e cause sub addr sync).eng e = { x.applyModes with
         epc := (match x.slot with | some (b, _) => if sync then b else x.pc | none => x.pc)
         estat := cause + 16 * (sync && x.slot.isSome).toNat + 32 * (sync && decide (x.l0.lc ≠ 0) && x.pc == x.l0.le).toNat + 64 * (!x.modes.isEmpty).toNat + 256 * sub
         eaddr := addr
         est := x.stWord
         emd := x.applyModes.md.toNat
         eloop := #v[x.l0.ls, x.l0.le, x.l0.lc, x.l1.ls, x.l1.le, x.l1.lc]
         l0 := { x.l0 with lc := 0 }
         l1 := { x.l1 with lc := 0 }
         exl := true
         slot := none
         pc := (s.fld (P.engine e) ⟨R.ENG_VBASE, 0, 12⟩ + 2 * cause) % 4096 } ∧
       (s.exception e cause sub addr sync).regs = s.regs) ∧
     ((sync && x.exl) = true →
       (s.exception e cause sub addr sync).pageErr (P.engine e) E.engine_DOUBLE = true ∧
       ((s.exception e cause sub addr sync).eng e).st = .faultHalt ∧
       ((s.exception e cause sub addr sync).eng e).pc = x.pc)) ∧
  -- exceptionEntry
  (∀ (e : Fin 512) (s : State), (s.eng e).ready = true →
     (∀ c, (s.eng e).slot = none → (s.eng e).haltReq = false → (s.eng e).exl = false → s.asyncCause e = some c →
       exec (.exceptionEntry e) s = .next (s.exception e c 0 0 false)) ∧
     (∀ sub, s.preempted e = false → s.brkMatch e = false → s.badFetch e = false → (s.setEng e EngineState.settle).illegal e = some sub →
       exec (.exceptionEntry e) s = .next (s.exception e 1 sub 0 true)) ∧
     (s.preempted e = false → s.brkMatch e = false → s.badFetch e = true → exec (.exceptionEntry e) s = .next (s.memFault e)))

/-- Engine messages: replies, mail between engines, mail to and from the host, and their queues (R187, R188, R189, R190). Rests on log 31. -/
def Obligations.EngineMessages : Prop :=
  -- sendReply
  (∀ (e : Fin 512) (len : Fin 16) (s : State), (s.eng e).st = .running →
     (len = 4 → exec (.sendReply e len) s = .next ((s.setEng e fun x => { x with refused := false }).setReplies (s.replies ++ [(e.val / 32, (s.eng e).out.toList.take 5)]))) ∧
     (len ≠ 4 → exec (.sendReply e len) s = .next (s.setEng e fun x => { x with refused := true }))) ∧
  -- sendMail
  (∀ (e q : Fin 512) (t : Fin 32) (len : Fin 16) (s : State), (s.eng e).st = .running → q.val = 32 * (e.val / 32) + t.val →
     ((s.engDom e = some 0 ∨ ((s.engDom e).isSome = true ∧ s.engDom e = s.engDom q)) → (s.eng q).st ≠ .safety → (s.eng q).mails.length < 8 →
       exec (.sendMail e t len) s = .next ((s.setEng q fun x => { x with mails := x.mails ++ [⟨(s.eng e).outWords len, e.val % 32, false⟩] }).setEng e fun x => { x with refused := false })) ∧
     (¬ (s.engDom e = some 0 ∨ ((s.engDom e).isSome = true ∧ s.engDom e = s.engDom q)) → exec (.sendMail e t len) s = .next (s.setEng e fun x => { x with refused := true }))) ∧
  -- sendHostMail
  (∀ (e : Fin 512) (len : Fin 16) (s : State), (s.eng e).st = .running →
     (4 ≤ (s.eng e).hmails.length → exec (.sendHostMail e len) s = .next (s.setEng e fun x => { x with refused := true })) ∧
     (0 < (s.eng e).hmails.length → (s.eng e).hmails.length < 4 → exec (.sendHostMail e len) s = .next
       (s.setEng e fun x => { x with hmails := x.hmails ++ [x.outWords len], refused := false })) ∧
     ((s.eng e).hmails = [] → exec (.sendHostMail e len) s = .next
       ((s.setEng e fun x => { x with hmails := x.hmails ++ [x.outWords len], refused := false }).hmailVec e))) ∧
  -- ioCallPop
  (∀ (e : Fin 512) (s : State), (s.eng e).st = .running → exec (.ioCallPop e) s = .next (s.setEng e fun x => { x with calls := x.calls.drop 1 })) ∧
  -- ioMailPop
  (∀ (e : Fin 512) (s : State), (s.eng e).st = .running → exec (.ioMailPop e) s = .next (s.setEng e fun x => { x with mails := x.mails.drop 1 })) ∧
  -- engMailSend
  (∀ (e : Fin 512) (len : Fin 16) (s : State), (s.eng e).st ≠ .safety →
     ((s.eng e).mails.length < 8 → exec (.engMailSend e len) s = .next
       ((s.setEng e fun x => { x with mails := x.mails ++ [⟨(List.range (len.val + 1)).map fun i => s.reg (P.engine e + R.ENG_MAIL_W i), 0, true⟩] }).setb (P.engine e) F.ENG_MAIL_STAT_REFUSED false)) ∧
     (8 ≤ (s.eng e).mails.length → exec (.engMailSend e len) s = .next (s.setb (P.engine e) F.ENG_MAIL_STAT_REFUSED true))) ∧
  -- engHmailPop
  (∀ (e : Fin 512) (s : State), (s.eng e).hmails ≠ [] → exec (.engHmailPop e) s = .next ((s.setEng e fun x => { x with hmails := x.hmails.drop 1 }).hmailVec e)) ∧
  -- modeWriteTakeEffect
  (∀ (e : Fin 512) (s : State), exec (.modeWriteTakeEffect e) s = .next (s.setEng e fun x =>
     { (x.modes.takeWhile fun w => w.left == 0).foldl EngineState.applyMode x with modes := x.modes.dropWhile fun w => w.left == 0 }))

/-- Register and immediate ALU instructions: the result in rd and each flag (R210, R211, R218). Rests on log 2. -/
def Obligations.AluInstructions : Prop :=
  -- mov
  (∀ (e : Fin 512) (rd ra rb : Fin 16) (s : State) (x : EngineState) (r : Word), x = s.core e → r = x.d[ra] →
     s.runs e (.alu .mov rd ra rb) → exec (.mov e) s = .next (s.afterOp e { x with d := x.d.set rd r, fl := { x.fl with z := r == 0, n := r.msb } })) ∧
  -- add
  (∀ (e : Fin 512) (rd ra rb : Fin 16) (s : State) (x : EngineState) (r : Word), x = s.core e → r = x.d[ra] + x.d[rb] →
     s.runs e (.alu .add rd ra rb) → exec (.add e) s = .next (s.afterOp e { x with d := x.d.set rd r, fl := { x.fl with z := r == 0, n := r.msb, c := decide (x.d[ra].toNat + x.d[rb].toNat ≥ 2 ^ 32), v := !fits32 (x.d[ra].toInt + x.d[rb].toInt) } })) ∧
  -- sub
  (∀ (e : Fin 512) (rd ra rb : Fin 16) (s : State) (x : EngineState) (r : Word), x = s.core e → r = x.d[ra] - x.d[rb] →
     s.runs e (.alu .sub rd ra rb) → exec (.sub e) s = .next (s.afterOp e { x with d := x.d.set rd r, fl := { x.fl with z := r == 0, n := r.msb, c := decide (x.d[rb].toNat ≤ x.d[ra].toNat), v := !fits32 (x.d[ra].toInt - x.d[rb].toInt) } })) ∧
  -- adds
  (∀ (e : Fin 512) (rd ra rb : Fin 16) (s : State) (x : EngineState) (r : Word), x = s.core e → r = BitVec.ofInt 32 (clampI (-2147483648) 2147483647 (x.d[ra].toInt + x.d[rb].toInt)) →
     s.runs e (.alu .adds rd ra rb) → exec (.adds e) s = .next (s.afterOp e { x with d := x.d.set rd r, fl := { x.fl with z := r == 0, n := r.msb, v := !fits32 (x.d[ra].toInt + x.d[rb].toInt), l := x.fl.l || !fits32 (x.d[ra].toInt + x.d[rb].toInt) } })) ∧
  -- subs
  (∀ (e : Fin 512) (rd ra rb : Fin 16) (s : State) (x : EngineState) (r : Word), x = s.core e → r = BitVec.ofInt 32 (clampI (-2147483648) 2147483647 (x.d[ra].toInt - x.d[rb].toInt)) →
     s.runs e (.alu .subs rd ra rb) → exec (.subs e) s = .next (s.afterOp e { x with d := x.d.set rd r, fl := { x.fl with z := r == 0, n := r.msb, v := !fits32 (x.d[ra].toInt - x.d[rb].toInt), l := x.fl.l || !fits32 (x.d[ra].toInt - x.d[rb].toInt) } })) ∧
  -- andOp
  (∀ (e : Fin 512) (rd ra rb : Fin 16) (s : State) (x : EngineState) (r : Word), x = s.core e → r = x.d[ra] &&& x.d[rb] →
     s.runs e (.alu .and_ rd ra rb) → exec (.andOp e) s = .next (s.afterOp e { x with d := x.d.set rd r, fl := { x.fl with z := r == 0, n := r.msb } })) ∧
  -- orOp
  (∀ (e : Fin 512) (rd ra rb : Fin 16) (s : State) (x : EngineState) (r : Word), x = s.core e → r = x.d[ra] ||| x.d[rb] →
     s.runs e (.alu .or_ rd ra rb) → exec (.orOp e) s = .next (s.afterOp e { x with d := x.d.set rd r, fl := { x.fl with z := r == 0, n := r.msb } })) ∧
  -- xor
  (∀ (e : Fin 512) (rd ra rb : Fin 16) (s : State) (x : EngineState) (r : Word), x = s.core e → r = x.d[ra] ^^^ x.d[rb] →
     s.runs e (.alu .xor rd ra rb) → exec (.xor e) s = .next (s.afterOp e { x with d := x.d.set rd r, fl := { x.fl with z := r == 0, n := r.msb } })) ∧
  -- andn
  (∀ (e : Fin 512) (rd ra rb : Fin 16) (s : State) (x : EngineState) (r : Word), x = s.core e → r = x.d[ra] &&& ~~~x.d[rb] →
     s.runs e (.alu .andn rd ra rb) → exec (.andn e) s = .next (s.afterOp e { x with d := x.d.set rd r, fl := { x.fl with z := r == 0, n := r.msb } })) ∧
  -- shl
  (∀ (e : Fin 512) (rd ra rb : Fin 16) (s : State) (x : EngineState) (r : Word), x = s.core e → r = x.d[ra] <<< (x.d[rb].toNat % 64) →
     s.runs e (.alu .shl rd ra rb) → exec (.shl e) s = .next (s.afterOp e { x with d := x.d.set rd r, fl := { x.fl with z := r == 0, n := r.msb, c := if x.d[rb].toNat % 64 = 0 then x.fl.c else if x.d[rb].toNat % 64 ≤ 32 then x.d[ra].getLsbD (32 - x.d[rb].toNat % 64) else false } })) ∧
  -- shr
  (∀ (e : Fin 512) (rd ra rb : Fin 16) (s : State) (x : EngineState) (r : Word), x = s.core e → r = x.d[ra] >>> (x.d[rb].toNat % 64) →
     s.runs e (.alu .shr rd ra rb) → exec (.shr e) s = .next (s.afterOp e { x with d := x.d.set rd r, fl := { x.fl with z := r == 0, n := r.msb, c := if x.d[rb].toNat % 64 = 0 then x.fl.c else if x.d[rb].toNat % 64 ≤ 32 then x.d[ra].getLsbD (x.d[rb].toNat % 64 - 1) else false } })) ∧
  -- sar
  (∀ (e : Fin 512) (rd ra rb : Fin 16) (s : State) (x : EngineState) (r : Word), x = s.core e → r = x.d[ra].sshiftRight (x.d[rb].toNat % 64) →
     s.runs e (.alu .sar rd ra rb) → exec (.sar e) s = .next (s.afterOp e { x with d := x.d.set rd r, fl := { x.fl with z := r == 0, n := r.msb, c := if x.d[rb].toNat % 64 = 0 then x.fl.c else if x.d[rb].toNat % 64 ≤ 32 then x.d[ra].getLsbD (x.d[rb].toNat % 64 - 1) else x.d[ra].msb } })) ∧
  -- mul
  (∀ (e : Fin 512) (rd ra rb : Fin 16) (s : State) (x : EngineState) (r : Word), x = s.core e → r = x.d[ra] * x.d[rb] →
     s.runs e (.alu .mul rd ra rb) → exec (.mul e) s = .next (s.afterOp e { x with d := x.d.set rd r, fl := { x.fl with z := r == 0, n := r.msb } })) ∧
  -- minOp
  (∀ (e : Fin 512) (rd ra rb : Fin 16) (s : State) (x : EngineState) (r : Word), x = s.core e → r = (if x.d[rb].toInt < x.d[ra].toInt then x.d[rb] else x.d[ra]) →
     s.runs e (.alu .min_ rd ra rb) → exec (.minOp e) s = .next (s.afterOp e { x with d := x.d.set rd r, fl := { x.fl with z := r == 0, n := r.msb } })) ∧
  -- maxOp
  (∀ (e : Fin 512) (rd ra rb : Fin 16) (s : State) (x : EngineState) (r : Word), x = s.core e → r = (if x.d[ra].toInt < x.d[rb].toInt then x.d[rb] else x.d[ra]) →
     s.runs e (.alu .max_ rd ra rb) → exec (.maxOp e) s = .next (s.afterOp e { x with d := x.d.set rd r, fl := { x.fl with z := r == 0, n := r.msb } })) ∧
  -- abs
  (∀ (e : Fin 512) (rd ra rb : Fin 16) (s : State) (x : EngineState) (r : Word), x = s.core e → r = (if x.d[ra].msb then -x.d[ra] else x.d[ra]) →
     s.runs e (.alu .abs rd ra rb) → exec (.abs e) s = .next (s.afterOp e { x with d := x.d.set rd r, fl := { x.fl with z := r == 0, n := r.msb, v := x.d[ra] == 0x80000000#32 } })) ∧
  -- neg
  (∀ (e : Fin 512) (rd ra rb : Fin 16) (s : State) (x : EngineState) (r : Word), x = s.core e → r = -x.d[ra] →
     s.runs e (.alu .neg rd ra rb) → exec (.neg e) s = .next (s.afterOp e { x with d := x.d.set rd r, fl := { x.fl with z := r == 0, n := r.msb, v := x.d[ra] == 0x80000000#32 } })) ∧
  -- clz
  (∀ (e : Fin 512) (rd ra rb : Fin 16) (s : State) (x : EngineState) (r : Word), x = s.core e → r = BitVec.ofNat 32 (clz x.d[ra]) →
     s.runs e (.alu .clz rd ra rb) → exec (.clz e) s = .next (s.afterOp e { x with d := x.d.set rd r, fl := { x.fl with z := r == 0 } })) ∧
  -- cmp
  (∀ (e : Fin 512) (rd ra rb : Fin 16) (s : State) (x : EngineState) (r : Word), x = s.core e → r = x.d[ra] - x.d[rb] →
     s.runs e (.alu .cmp rd ra rb) → exec (.cmp e) s = .next (s.afterOp e { x with fl := { x.fl with z := r == 0, n := r.msb, c := decide (x.d[rb].toNat ≤ x.d[ra].toNat), v := !fits32 (x.d[ra].toInt - x.d[rb].toInt) } })) ∧
  -- mulf
  (∀ (e : Fin 512) (rd ra rb : Fin 16) (s : State) (x : EngineState) (w : Option (Word × Bool)), x = s.core e →
     w = store32 x.md true (BitVec.ofInt 72 (2 * (x.d[ra].toInt * x.d[rb].toInt))) → s.runs e (.alu .mulf rd ra rb) →
     (∀ r l, w = some (r, l) → exec (.mulf e) s = .next (s.afterOp e { x with d := x.d.set rd r, fl := { x.fl with z := r == 0, n := r.msb, l := x.fl.l || l } })) ∧
     (w = none → exec (.mulf e) s = .next ((s.setEng e EngineState.settle).exception e 4 0 0 true))) ∧
  -- addi
  (∀ (e : Fin 512) (rd ra : Fin 16) (i : BitVec 18) (s : State) (x : EngineState) (b r : Word), x = s.core e → b = i.signExtend 32 → r = x.d[ra] + b →
     s.runs e (.imm .addi rd ra i) → exec (.addi e) s = .next (s.afterOp e { x with d := x.d.set rd r, fl := { x.fl with z := r == 0, n := r.msb, c := decide (x.d[ra].toNat + b.toNat ≥ 2 ^ 32), v := !fits32 (x.d[ra].toInt + b.toInt) } })) ∧
  -- andi
  (∀ (e : Fin 512) (rd ra : Fin 16) (i : BitVec 18) (s : State) (x : EngineState) (b r : Word), x = s.core e → b = i.setWidth 32 → r = x.d[ra] &&& b →
     s.runs e (.imm .andi rd ra i) → exec (.andi e) s = .next (s.afterOp e { x with d := x.d.set rd r, fl := { x.fl with z := r == 0, n := r.msb } })) ∧
  -- ori
  (∀ (e : Fin 512) (rd ra : Fin 16) (i : BitVec 18) (s : State) (x : EngineState) (b r : Word), x = s.core e → b = i.setWidth 32 → r = x.d[ra] ||| b →
     s.runs e (.imm .ori rd ra i) → exec (.ori e) s = .next (s.afterOp e { x with d := x.d.set rd r, fl := { x.fl with z := r == 0, n := r.msb } })) ∧
  -- xori
  (∀ (e : Fin 512) (rd ra : Fin 16) (i : BitVec 18) (s : State) (x : EngineState) (b r : Word), x = s.core e → b = i.setWidth 32 → r = x.d[ra] ^^^ b →
     s.runs e (.imm .xori rd ra i) → exec (.xori e) s = .next (s.afterOp e { x with d := x.d.set rd r, fl := { x.fl with z := r == 0, n := r.msb } })) ∧
  -- cmpi
  (∀ (e : Fin 512) (rd ra : Fin 16) (i : BitVec 18) (s : State) (x : EngineState) (b r : Word), x = s.core e → b = i.signExtend 32 → r = x.d[ra] - b →
     s.runs e (.imm .cmpi rd ra i) → exec (.cmpi e) s = .next (s.afterOp e { x with fl := { x.fl with z := r == 0, n := r.msb, c := decide (b.toNat ≤ x.d[ra].toNat), v := !fits32 (x.d[ra].toInt - b.toInt) } })) ∧
  -- shi
  (∀ (e : Fin 512) (rd ra : Fin 16) (i : BitVec 18) (s : State) (x : EngineState) (k : Nat) (r : Word), x = s.core e → k = i.toNat % 32 →
     s.runs e (.imm .shi rd ra i) →
     (bits i.toNat 6 2 = 0 → r = x.d[ra] <<< k → exec (.shi e) s = .next (s.afterOp e { x with d := x.d.set rd r, fl := { x.fl with z := r == 0, n := r.msb, c := if k = 0 then x.fl.c else x.d[ra].getLsbD (32 - k) } })) ∧
     (bits i.toNat 6 2 = 1 → r = x.d[ra] >>> k → exec (.shi e) s = .next (s.afterOp e { x with d := x.d.set rd r, fl := { x.fl with z := r == 0, n := r.msb, c := if k = 0 then x.fl.c else x.d[ra].getLsbD (k - 1) } })) ∧
     (bits i.toNat 6 2 = 2 → r = x.d[ra].sshiftRight k → exec (.shi e) s = .next (s.afterOp e { x with d := x.d.set rd r, fl := { x.fl with z := r == 0, n := r.msb, c := if k = 0 then x.fl.c else x.d[ra].getLsbD (k - 1) } }))) ∧
  -- movil
  (∀ (e : Fin 512) (rd : Fin 16) (v : BitVec 16) (s : State) (x : EngineState), x = s.core e → s.runs e (.movil rd v) →
     exec (.movil e) s = .next (s.afterOp e { x with d := x.d.set rd (v.signExtend 32) })) ∧
  -- movih
  (∀ (e : Fin 512) (rd : Fin 16) (v : BitVec 16) (s : State) (x : EngineState), x = s.core e → s.runs e (.movih rd v) →
     exec (.movih e) s = .next (s.afterOp e { x with d := x.d.set rd (v ++ x.d[rd].setWidth 16) }))

/-- Accumulator instructions and multiplies with parallel loads: values modulo 2^72, Z N V E, loads, pointers (R179, R212, R213, R215, R217, R218). -/
def Obligations.AccumulatorInstructions : Prop :=
  -- aclr
  (∀ (e : Fin 512) (ad as_ : Fin 4) (r : Fin 16) (sh : Nat) (s : State) (x : EngineState) (i : Int) (w : BitVec 72), x = s.core e → i = 0 → w = BitVec.ofInt 72 i →
     s.runs e (.acc .aclr ad as_ r sh) → exec (.aclr e) s = .next (s.afterOp e { x with a := x.a.set ad w, fl := { x.fl with z := w == 0, n := w.msb, v := decide (w.toInt ≠ i), e := !accFits (MD.int x.md) w } })) ∧
  -- amov
  (∀ (e : Fin 512) (ad as_ : Fin 4) (r : Fin 16) (sh : Nat) (s : State) (x : EngineState) (i : Int) (w : BitVec 72), x = s.core e → i = x.a[as_].toInt → w = BitVec.ofInt 72 i →
     s.runs e (.acc .amov ad as_ r sh) → exec (.amov e) s = .next (s.afterOp e { x with a := x.a.set ad w, fl := { x.fl with z := w == 0, n := w.msb, v := decide (w.toInt ≠ i), e := !accFits (MD.int x.md) w } })) ∧
  -- aadd
  (∀ (e : Fin 512) (ad as_ : Fin 4) (r : Fin 16) (sh : Nat) (s : State) (x : EngineState) (i : Int) (w : BitVec 72), x = s.core e → i = x.a[ad].toInt + x.a[as_].toInt → w = BitVec.ofInt 72 i →
     s.runs e (.acc .aadd ad as_ r sh) → exec (.aadd e) s = .next (s.afterOp e { x with a := x.a.set ad w, fl := { x.fl with z := w == 0, n := w.msb, v := decide (w.toInt ≠ i), e := !accFits (MD.int x.md) w } })) ∧
  -- asub
  (∀ (e : Fin 512) (ad as_ : Fin 4) (r : Fin 16) (sh : Nat) (s : State) (x : EngineState) (i : Int) (w : BitVec 72), x = s.core e → i = x.a[ad].toInt - x.a[as_].toInt → w = BitVec.ofInt 72 i →
     s.runs e (.acc .asub ad as_ r sh) → exec (.asub e) s = .next (s.afterOp e { x with a := x.a.set ad w, fl := { x.fl with z := w == 0, n := w.msb, v := decide (w.toInt ≠ i), e := !accFits (MD.int x.md) w } })) ∧
  -- aneg
  (∀ (e : Fin 512) (ad as_ : Fin 4) (r : Fin 16) (sh : Nat) (s : State) (x : EngineState) (i : Int) (w : BitVec 72), x = s.core e → i = -x.a[as_].toInt → w = BitVec.ofInt 72 i →
     s.runs e (.acc .aneg ad as_ r sh) → exec (.aneg e) s = .next (s.afterOp e { x with a := x.a.set ad w, fl := { x.fl with z := w == 0, n := w.msb, v := decide (w.toInt ≠ i), e := !accFits (MD.int x.md) w } })) ∧
  -- aabs
  (∀ (e : Fin 512) (ad as_ : Fin 4) (r : Fin 16) (sh : Nat) (s : State) (x : EngineState) (i : Int) (w : BitVec 72), x = s.core e → i = (x.a[as_].toInt.natAbs : Int) → w = BitVec.ofInt 72 i →
     s.runs e (.acc .aabs ad as_ r sh) → exec (.aabs e) s = .next (s.afterOp e { x with a := x.a.set ad w, fl := { x.fl with z := w == 0, n := w.msb, v := decide (w.toInt ≠ i), e := !accFits (MD.int x.md) w } })) ∧
  -- ashl
  (∀ (e : Fin 512) (ad as_ : Fin 4) (r : Fin 16) (sh : Nat) (s : State) (x : EngineState) (i : Int) (w : BitVec 72), x = s.core e → i = x.a[as_].toInt * 2 ^ sh → w = BitVec.ofInt 72 i →
     s.runs e (.acc .ashl ad as_ r sh) → exec (.ashl e) s = .next (s.afterOp e { x with a := x.a.set ad w, fl := { x.fl with z := w == 0, n := w.msb, v := decide (w.toInt ≠ i), e := !accFits (MD.int x.md) w } })) ∧
  -- asar
  (∀ (e : Fin 512) (ad as_ : Fin 4) (r : Fin 16) (sh : Nat) (s : State) (x : EngineState) (i : Int) (w : BitVec 72), x = s.core e → i = x.a[as_].toInt / 2 ^ sh → w = BitVec.ofInt 72 i →
     s.runs e (.acc .asar ad as_ r sh) → exec (.asar e) s = .next (s.afterOp e { x with a := x.a.set ad w, fl := { x.fl with z := w == 0, n := w.msb, v := decide (w.toInt ≠ i), e := !accFits (MD.int x.md) w } })) ∧
  -- aload
  (∀ (e : Fin 512) (ad as_ : Fin 4) (r : Fin 16) (sh : Nat) (s : State) (x : EngineState) (i : Int) (w : BitVec 72), x = s.core e → i = x.d[r].toInt * 2 ^ 32 → w = BitVec.ofInt 72 i →
     s.runs e (.acc .aload ad as_ r sh) → exec (.aload e) s = .next (s.afterOp e { x with a := x.a.set ad w, fl := { x.fl with z := w == 0, n := w.msb, v := decide (w.toInt ≠ i), e := !accFits (MD.int x.md) w } })) ∧
  -- aloadl
  (∀ (e : Fin 512) (ad as_ : Fin 4) (r : Fin 16) (sh : Nat) (s : State) (x : EngineState) (i : Int) (w : BitVec 72), x = s.core e → i = x.d[r].toInt → w = BitVec.ofInt 72 i →
     s.runs e (.acc .aloadl ad as_ r sh) → exec (.aloadl e) s = .next (s.afterOp e { x with a := x.a.set ad w, fl := { x.fl with z := w == 0, n := w.msb, v := decide (w.toInt ≠ i), e := !accFits (MD.int x.md) w } })) ∧
  -- arnd
  (∀ (e : Fin 512) (ad as_ : Fin 4) (r : Fin 16) (sh : Nat) (s : State) (x : EngineState) (i : Int) (w : BitVec 72), x = s.core e → i = (if MD.int x.md then x.a[as_].toInt else roundAcc (MD.trunc x.md) x.a[as_]) → w = BitVec.ofInt 72 i →
     s.runs e (.acc .arnd ad as_ r sh) → exec (.arnd e) s = .next (s.afterOp e { x with a := x.a.set ad w, fl := { x.fl with z := w == 0, n := w.msb, v := decide (w.toInt ≠ i), e := !accFits (MD.int x.md) w } })) ∧
  -- ast
  (∀ (e : Fin 512) (ad as_ : Fin 4) (rd : Fin 16) (sh : Nat) (s : State) (x : EngineState), x = s.core e → s.runs e (.acc .ast ad as_ rd sh) →
     (∀ r l, store32 x.md false x.a[as_] = some (r, l) → exec (.ast e) s = .next (s.afterOp e { x with d := x.d.set rd r, fl := { x.fl with z := r == 0, n := r.msb, l := x.fl.l || l } })) ∧
     (store32 x.md false x.a[as_] = none → exec (.ast e) s = .next ((s.setEng e EngineState.settle).exception e 4 0 0 true))) ∧
  -- asat
  (∀ (e : Fin 512) (ad as_ : Fin 4) (r : Fin 16) (sh : Nat) (s : State) (x : EngineState) (i : Int) (w : BitVec 72), x = s.core e →
     i = (if accFits (MD.int x.md) x.a[as_] then x.a[as_].toInt else
       let k : Int := if MD.int x.md then 2 ^ 31 else 2 ^ 63; if x.a[as_].msb then -k else k - 1) →
     w = BitVec.ofInt 72 i → s.runs e (.acc .asat ad as_ r sh) → exec (.asat e) s = .next (s.afterOp e { x with a := x.a.set ad w, fl := { x.fl with z := w == 0, n := w.msb, v := decide (w.toInt ≠ i), e := !accFits (MD.int x.md) w, l := x.fl.l || !accFits (MD.int x.md) x.a[as_] } })) ∧
  -- mac
  (∀ (e : Fin 512) (a : Fin 4) (ra rb : Fin 16) (lx ly : ParLoad) (bx by_ : Nat) (s : State) (x : EngineState) (i : Int) (w : BitVec 72) (y : EngineState), x = s.core e → i = x.a[a].toInt + product (MD.int x.md) x.d[ra] x.d[rb] → w = BitVec.ofInt 72 i →
     y = { x with a := x.a.set a w, fl := { x.fl with z := w == 0, n := w.msb, v := decide (w.toInt ≠ i), e := !accFits (MD.int x.md) w } } →
     s.runs e (.mul .mac a ra rb lx ly) →
     (lx.code ≠ 0 → (s.setEng e EngineState.settle).target e false (x.p[f8 lx.ptr 0]).toNat 4 false = .ok (.own bx) ∧ s.softIn bx 4 = []) →
     (ly.code ≠ 0 → (s.setEng e EngineState.settle).target e true (x.p[f8 (4 + ly.ptr) 0]).toNat 4 false = .ok (.own by_) ∧ s.softIn by_ 4 = []) →
     exec (.mac e) s = .next (s.afterOp e ((y.parLoad false lx (f8 lx.ptr 0) (s.load bx 4)).parLoad true ly (f8 (4 + ly.ptr) 0) (s.load by_ 4)))) ∧
  -- msu
  (∀ (e : Fin 512) (a : Fin 4) (ra rb : Fin 16) (lx ly : ParLoad) (bx by_ : Nat) (s : State) (x : EngineState) (i : Int) (w : BitVec 72) (y : EngineState), x = s.core e → i = x.a[a].toInt - product (MD.int x.md) x.d[ra] x.d[rb] → w = BitVec.ofInt 72 i →
     y = { x with a := x.a.set a w, fl := { x.fl with z := w == 0, n := w.msb, v := decide (w.toInt ≠ i), e := !accFits (MD.int x.md) w } } →
     s.runs e (.mul .msu a ra rb lx ly) →
     (lx.code ≠ 0 → (s.setEng e EngineState.settle).target e false (x.p[f8 lx.ptr 0]).toNat 4 false = .ok (.own bx) ∧ s.softIn bx 4 = []) →
     (ly.code ≠ 0 → (s.setEng e EngineState.settle).target e true (x.p[f8 (4 + ly.ptr) 0]).toNat 4 false = .ok (.own by_) ∧ s.softIn by_ 4 = []) →
     exec (.msu e) s = .next (s.afterOp e ((y.parLoad false lx (f8 lx.ptr 0) (s.load bx 4)).parLoad true ly (f8 (4 + ly.ptr) 0) (s.load by_ 4)))) ∧
  -- mpy
  (∀ (e : Fin 512) (a : Fin 4) (ra rb : Fin 16) (lx ly : ParLoad) (bx by_ : Nat) (s : State) (x : EngineState) (i : Int) (w : BitVec 72) (y : EngineState), x = s.core e → i = product (MD.int x.md) x.d[ra] x.d[rb] → w = BitVec.ofInt 72 i →
     y = { x with a := x.a.set a w, fl := { x.fl with z := w == 0, n := w.msb, v := decide (w.toInt ≠ i), e := !accFits (MD.int x.md) w } } →
     s.runs e (.mul .mpy a ra rb lx ly) →
     (lx.code ≠ 0 → (s.setEng e EngineState.settle).target e false (x.p[f8 lx.ptr 0]).toNat 4 false = .ok (.own bx) ∧ s.softIn bx 4 = []) →
     (ly.code ≠ 0 → (s.setEng e EngineState.settle).target e true (x.p[f8 (4 + ly.ptr) 0]).toNat 4 false = .ok (.own by_) ∧ s.softIn by_ 4 = []) →
     exec (.mpy e) s = .next (s.afterOp e ((y.parLoad false lx (f8 lx.ptr 0) (s.load bx 4)).parLoad true ly (f8 (4 + ly.ptr) 0) (s.load by_ 4)))) ∧
  -- ldp
  (∀ (e : Fin 512) (a : Fin 4) (ra rb : Fin 16) (lx ly : ParLoad) (bx by_ : Nat) (s : State) (x : EngineState) (y : EngineState), x = s.core e → y = x →
     s.runs e (.mul .ldp a ra rb lx ly) →
     (lx.code ≠ 0 → (s.setEng e EngineState.settle).target e false (x.p[f8 lx.ptr 0]).toNat 4 false = .ok (.own bx) ∧ s.softIn bx 4 = []) →
     (ly.code ≠ 0 → (s.setEng e EngineState.settle).target e true (x.p[f8 (4 + ly.ptr) 0]).toNat 4 false = .ok (.own by_) ∧ s.softIn by_ 4 = []) →
     exec (.ldp e) s = .next (s.afterOp e ((y.parLoad false lx (f8 lx.ptr 0) (s.load bx 4)).parLoad true ly (f8 (4 + ly.ptr) 0) (s.load by_ 4))))

/-- Loads and stores of an engine: its own memories, the stall on shared memory, the exceptions (R179, R181, R182, R184, R196, R213, R216). Rests on log 14. -/
def Obligations.LoadsAndStores : Prop :=
  -- ld
  (∀ (e : Fin 512) (r : Fin 16) (p : Fin 8) (sz am : Nat) (off : BitVec 15) (s u : State) (x : EngineState) (a : Word × Word), x = s.core e →
     u = s.setEng e EngineState.settle → a = x.address p (szBytes sz) am off → s.runs e (.ld r p sz am off) →
     (∀ b, u.target e (decide (p.val ≥ 4)) a.1.toNat (szBytes sz) false = .ok (.own b) → s.uncorrectable b (szBytes sz) = true → exec (.ld e) s = .next (u.memFault e)) ∧
     (∀ b, u.target e (decide (p.val ≥ 4)) a.1.toNat (szBytes sz) false = .ok (.own b) → s.softIn b (szBytes sz) = [] → exec (.ld e) s = .next (s.afterOp e { x.loadInto r sz (s.load b (szBytes sz)) with p := x.p.set p a.2 })) ∧
     (∀ b, u.target e (decide (p.val ≥ 4)) a.1.toNat (szBytes sz) false = .ok (.shm b) → exec (.ld e) s = .next (u.setEng e fun x => { x with stall := some ⟨false, b, szBytes sz⟩ })) ∧
     (∀ o, u.target e (decide (p.val ≥ 4)) a.1.toNat (szBytes sz) false = .ok (.io o) → exec (.ld e) s = .next
       ((u.ioRead e o).2.setEng e fun x => ({ x.loadInto r sz (u.ioView e o) with p := x.p.set p a.2 } : EngineState).advance.retire s.now)) ∧
     (∀ b, u.target e (decide (p.val ≥ 4)) a.1.toNat (szBytes sz) false = .ok (.fabric b) → exec (.ld e) s = .next
       ((u.issueRead e b).setEng e fun x => { x with stall := some ⟨true, b, szBytes sz⟩ })) ∧
     (∀ k sub, u.target e (decide (p.val ≥ 4)) a.1.toNat (szBytes sz) false = .error (k, sub) → ¬ (k = 2 ∧ sub = 2) → exec (.ld e) s = .next (u.exception e k sub a.1.toNat true)) ∧
     (u.target e (decide (p.val ≥ 4)) a.1.toNat (szBytes sz) false = .error (2, 2) → exec (.ld e) s = .next
       ((u.refuse e.val (a.1.toNat - 0x10000000) false).exception e 2 2 a.1.toNat true))) ∧
  -- st
  (∀ (e : Fin 512) (r : Fin 16) (p : Fin 8) (sz am : Nat) (off : BitVec 15) (s u : State) (x : EngineState) (a : Word × Word), x = s.core e →
     u = s.setEng e EngineState.settle → a = x.address p (szBytes sz) am off → s.runs e (.st r p sz am off) →
     (∀ b, u.target e (decide (p.val ≥ 4)) a.1.toNat (szBytes sz) true = .ok (.own b) → exec (.st e) s = .next ((s.store b (szBytes sz) (x.storeFrom r sz)).afterOp e { x with p := x.p.set p a.2 })) ∧
     (∀ b, u.target e (decide (p.val ≥ 4)) a.1.toNat (szBytes sz) true = .ok (.shm b) → x.shw.length < 2 →
       exec (.st e) s = .next (s.afterOp e { x with p := x.p.set p a.2, shw := x.shw ++ [⟨b, szBytes sz, x.storeFrom r sz⟩] })) ∧
     (∀ b, u.target e (decide (p.val ≥ 4)) a.1.toNat (szBytes sz) true = .ok (.fabric b) → x.fbw.length < 4 →
       exec (.st e) s = .next (s.afterOp e { x with p := x.p.set p a.2, fbw := x.fbw ++ [⟨b, szBytes sz, x.storeFrom r sz⟩] })) ∧
     (∀ o, u.target e (decide (p.val ≥ 4)) a.1.toNat (szBytes sz) true = .ok (.io o) → exec (.st e) s = .next
       ((u.ioWrite e o (x.storeFrom r sz)).setEng e fun x => ({ x with p := x.p.set p a.2 } : EngineState).advance.retire (u.ioWrite e o ((s.core e).storeFrom r sz)).now)) ∧
     (∀ b, u.target e (decide (p.val ≥ 4)) a.1.toNat (szBytes sz) true = .ok (.shm b) → 2 ≤ x.shw.length → exec (.st e) s = .next s) ∧
     (∀ k sub, u.target e (decide (p.val ≥ 4)) a.1.toNat (szBytes sz) true = .error (k, sub) → ¬ (k = 2 ∧ sub = 2) → exec (.st e) s = .next (u.exception e k sub a.1.toNat true)) ∧
     (u.target e (decide (p.val ≥ 4)) a.1.toNat (szBytes sz) true = .error (2, 2) → exec (.st e) s = .next
       ((u.refuse e.val (a.1.toNat - 0x10000000) true).exception e 2 2 a.1.toNat true))) ∧
  -- sta
  (∀ (e : Fin 512) (i : Fin 4) (p : Fin 8) (am : Nat) (off : BitVec 15) (s u : State) (x : EngineState) (a : Word × Word), x = s.core e →
     u = s.setEng e EngineState.settle → a = x.address p 4 am off → s.runs e (.sta i p am off) →
     (∀ b v l, u.target e (decide (p.val ≥ 4)) a.1.toNat 4 true = .ok (.own b) → store32 x.md false x.a[i] = some (v, l) →
       exec (.sta e) s = .next ((s.store b 4 v.toNat).afterOp e { x with p := x.p.set p a.2, fl := { x.fl with l := x.fl.l || l } })) ∧
     (∀ b, u.target e (decide (p.val ≥ 4)) a.1.toNat 4 true = .ok (.own b) → store32 x.md false x.a[i] = none →
       exec (.sta e) s = .next (u.exception e 4 0 a.1.toNat true))) ∧
  -- sharedReadComplete
  (∀ (e : Fin 512) (r : Fin 16) (p : Fin 8) (sz am : Nat) (off : BitVec 15) (k : Stall) (s : State) (x : EngineState), x = s.eng e →
     x.stall = some k → k.fabric = false → x.shw = [] →
     (s.softIn k.addr k.bytes = [] → decodeEng (s.fetch e) = some (.ld r p sz am off) → exec (.sharedReadComplete e) s = .next
       (s.afterOp e { ({ x with stall := none }.loadInto r sz (s.load k.addr k.bytes)) with p := x.p.set p (x.address p (szBytes sz) am off).2 })) ∧
     (s.uncorrectable k.addr k.bytes = true → exec (.sharedReadComplete e) s = .next ((s.eccScan k.addr k.bytes).memFault e)))

/-- NOP, WAIT, RETE, BRK, MOVS, PADD, mode writes, branches, LOOP and LPOP (R201, R202, R211, R215, R219, R220, R222). -/
def Obligations.ControlInstructions : Prop :=
  -- nop
  (∀ (e : Fin 512)  (s : State) (x : EngineState), x = s.core e → s.runs e .nop → exec (.nop e) s = .next (s.afterOp e x)) ∧
  -- wait
  (∀ (e : Fin 512) (s : State) (x : EngineState), x = s.core e → s.runs e .wait →
     (x.calls ≠ [] ∨ x.mails ≠ [] ∨ x.wdPend = true → exec (.wait e) s = .next (s.afterOp e x)) ∧
     (x.calls = [] → x.mails = [] → x.wdPend = false → exec (.wait e) s = .next (s.setEng e fun _ => (x.advance.toSt s.now .waiting).retire s.now))) ∧
  -- rete
  (∀ (e : Fin 512) (s : State) (x : EngineState), x = s.core e → s.runs e .rete → exec (.rete e) s = .next (s.setEng e fun _ =>
     { x with fl := flagsOf x.est, md := BitVec.ofNat 4 x.emd, l0 := ⟨x.eloop[0], x.eloop[1], x.eloop[2]⟩, l1 := ⟨x.eloop[3], x.eloop[4], x.eloop[5]⟩, pc := x.epc, slot := none, exl := false }.retire s.now)) ∧
  -- brk
  (∀ (e : Fin 512) (s : State), s.runs e .brk → exec (.brk e) s = .next ((s.setEng e EngineState.settle).exception e 6 1 0 true)) ∧
  -- movs
  (∀ (e : Fin 512) (dir : Bool) (r : Fin 16) (n : Nat) (s : State) (x : EngineState), x = s.core e → s.runs e (.movs dir r n) →
     (dir = false → exec (.movs e) s = .next (s.afterOp e { x with d := x.d.set r (x.sregRead n) })) ∧
     (dir = true → n = 0x21 → exec (.movs e) s = .next (s.afterOp e { x with modes := x.modes ++ [⟨0, x.d[r].setWidth 4, 3⟩] })) ∧
     (dir = true → n ≠ 0x21 → exec (.movs e) s = .next (s.afterOp e (x.sregWrite n x.d[r])))) ∧
  -- padd
  (∀ (e : Fin 512) (p : Fin 8) (v : BitVec 16) (s : State) (x : EngineState), x = s.core e → s.runs e (.padd p v) → exec (.padd e) s = .next (s.afterOp e { x with p := x.p.set p (x.update p (v.signExtend 32)) })) ∧
  -- mdset
  (∀ (e : Fin 512) (m : BitVec 4) (s : State) (x : EngineState), x = s.core e → s.runs e (.mdk true m) → exec (.mdset e) s = .next (s.afterOp e { x with modes := x.modes ++ [⟨0xF, m, 3⟩] })) ∧
  -- mdclr
  (∀ (e : Fin 512) (m : BitVec 4) (s : State) (x : EngineState), x = s.core e → s.runs e (.mdk false m) → exec (.mdclr e) s = .next (s.afterOp e { x with modes := x.modes ++ [⟨~~~m, 0, 3⟩] })) ∧
  -- b
  (∀ (e : Fin 512) (c : Nat) (rn : Fin 16) (off : Nat) (s : State) (x : EngineState), x = s.core e → s.runs e (.br .b c rn off) →
     (condHolds x.fl c = true → exec (.b e) s = .next (s.setEng e fun _ => { x with slot := some (x.pc, (x.pc + off) % 4096), pc := (x.pc + 1) % 4096 }.retire s.now)) ∧
     (condHolds x.fl c = false → exec (.b e) s = .next (s.setEng e fun _ => { x with slot := some (x.pc, (x.pc + 2) % 4096), pc := (x.pc + 1) % 4096 }.retire s.now))) ∧
  -- br
  (∀ (e : Fin 512) (c : Nat) (rn : Fin 16) (off : Nat) (s : State) (x : EngineState), x = s.core e → s.runs e (.br .br c rn off) →
     (condHolds x.fl c = true → exec (.br e) s = .next (s.setEng e fun _ => { x with slot := some (x.pc, x.d[rn].toNat % 4096), pc := (x.pc + 1) % 4096 }.retire s.now)) ∧
     (condHolds x.fl c = false → exec (.br e) s = .next (s.setEng e fun _ => { x with slot := some (x.pc, (x.pc + 2) % 4096), pc := (x.pc + 1) % 4096 }.retire s.now))) ∧
  -- call
  (∀ (e : Fin 512) (c : Nat) (rn : Fin 16) (off : Nat) (s : State) (x : EngineState), x = s.core e → s.runs e (.br .call c rn off) →
     (condHolds x.fl c = true → exec (.call e) s = .next (s.setEng e fun _ => { x with d := x.d.set 15 (BitVec.ofNat 32 ((x.pc + 2) % 4096)), slot := some (x.pc, (x.pc + off) % 4096), pc := (x.pc + 1) % 4096 }.retire s.now)) ∧
     (condHolds x.fl c = false → exec (.call e) s = .next (s.setEng e fun _ => { x with slot := some (x.pc, (x.pc + 2) % 4096), pc := (x.pc + 1) % 4096 }.retire s.now))) ∧
  -- callr
  (∀ (e : Fin 512) (c : Nat) (rn : Fin 16) (off : Nat) (s : State) (x : EngineState), x = s.core e → s.runs e (.br .callr c rn off) →
     (condHolds x.fl c = true → exec (.callr e) s = .next (s.setEng e fun _ => { x with d := x.d.set 15 (BitVec.ofNat 32 ((x.pc + 2) % 4096)), slot := some (x.pc, x.d[rn].toNat % 4096), pc := (x.pc + 1) % 4096 }.retire s.now)) ∧
     (condHolds x.fl c = false → exec (.callr e) s = .next (s.setEng e fun _ => { x with slot := some (x.pc, (x.pc + 2) % 4096), pc := (x.pc + 1) % 4096 }.retire s.now))) ∧
  -- loopOp
  (∀ (e : Fin 512) (reg : Bool) (rn : Fin 16) (n off k : Nat) (s : State) (x : EngineState), x = s.core e → s.runs e (.loop reg rn n off) →
     k = (if reg then x.d[rn].toNat % 65536 else n) → x.slot = none →
     (k = 0 → exec (.loopOp e) s = .next (s.setEng e fun _ => { x with pc := ((x.pc + off) % 4096 + 1) % 4096 }.retire s.now)) ∧
     (k ≠ 0 → exec (.loopOp e) s = .next (s.setEng e fun _ => { x with fl := { x.fl with lov := x.fl.lov || decide (x.l1.lc ≠ 0) }, l1 := x.l0, l0 := ⟨(x.pc + 1) % 4096, (x.pc + off) % 4096, k⟩, pc := (x.pc + 1) % 4096 }.retire s.now))) ∧
  -- lpop
  (∀ (e : Fin 512)  (s : State) (x : EngineState), x = s.core e → s.runs e .lpop → exec (.lpop e) s = .next (s.afterOp e { x with l0 := x.l1, l1 := { x.l1 with lc := 0 } }))

/-- A circular pointer stays in its buffer when a modifier no larger than the buffer is added (R215). -/
def Obligations.CircularPointer : Prop :=
  (∀ (x : EngineState) (n : Fin 8) (m : Word), x.pl[n] ≠ 0 → x.pb[n].toNat ≤ x.p[n].toNat → x.p[n].toNat < x.pb[n].toNat + x.pl[n].toNat →
     (m.toNat ≤ x.pl[n].toNat ∧ x.pb[n].toNat + 2 * x.pl[n].toNat ≤ 2 ^ 32) ∨ ((-m).toNat ≤ x.pl[n].toNat ∧ x.pl[n].toNat ≤ x.pb[n].toNat ∧ x.pb[n].toNat + x.pl[n].toNat < 2 ^ 32) →
     x.pb[n].toNat ≤ (x.update n m).toNat ∧ (x.update n m).toNat < x.pb[n].toNat + x.pl[n].toNat)

/-- Words assembled from the field tables decode to their instruction, with every operand at every value (R214). -/
def Obligations.EngineWords : Prop :=
  -- formatR
  (∀ (f : Nat) (g : AluFn) (rd ra rb : Fin 16), aluFn f = some g → (g = .mov ∨ g = .abs ∨ g = .neg ∨ g = .clz → rb = 0) → (g = .cmp → rd = 0) →
     decodeEng (0x01 * 2 ^ 26 + rd.val * 2 ^ 22 + ra.val * 2 ^ 18 + rb.val * 2 ^ 14 + f) = some (.alu g rd ra rb)) ∧
  -- formatI
  (∀ (op v : Nat) (g : ImmFn) (rd ra : Fin 16), immFn op = some g → v < 2 ^ 18 → (g = .cmpi → rd = 0) → (g = .shi → v < 256 ∧ bits v 5 1 = 0 ∧ bits v 6 2 ≠ 3) →
     decodeEng (op * 2 ^ 26 + rd.val * 2 ^ 22 + ra.val * 2 ^ 18 + v) = some (.imm g rd ra (BitVec.ofNat 18 v))) ∧
  -- formatM
  (∀ (r : Fin 16) (p : Fin 8) (sz am off : Nat), sz < 4 → am < 4 → off < 2 ^ 15 → (sz = 2 → r.val % 2 = 0) → (am = 1 → off < 4) →
     decodeEng (0x10 * 2 ^ 26 + r.val * 2 ^ 22 + p.val * 2 ^ 19 + sz * 2 ^ 17 + am * 2 ^ 15 + off) = some (.ld r p sz am (BitVec.ofNat 15 off)) ∧
     decodeEng (0x11 * 2 ^ 26 + r.val * 2 ^ 22 + p.val * 2 ^ 19 + sz * 2 ^ 17 + am * 2 ^ 15 + off) = some (.st r p sz am (BitVec.ofNat 15 off)) ∧
     (∀ a : Fin 4, decodeEng (0x12 * 2 ^ 26 + a.val * 2 ^ 24 + p.val * 2 ^ 19 + 1 * 2 ^ 17 + am * 2 ^ 15 + off) = some (.sta a p am (BitVec.ofNat 15 off)))) ∧
  -- formatP
  (∀ (op : Nat) (g : MulFn) (a : Fin 4) (ra rb : Fin 16) (lx ly : ParLoad), mulFn op = some g → lx.code < 4 → ly.code < 4 →
     (lx.code = 0 → lx.rd = 0 ∧ lx.ptr = 0) → (ly.code = 0 → ly.rd = 0 ∧ ly.ptr = 0) → (lx.code ≠ 0 → ly.code ≠ 0 → lx.rd ≠ ly.rd) →
     (g = .ldp → a = 0 ∧ ra = 0 ∧ rb = 0) →
     decodeEng (op * 2 ^ 26 + a.val * 2 ^ 24 + ra.val * 2 ^ 20 + rb.val * 2 ^ 16 + lx.rd.val * 2 ^ 12 + lx.ptr.val * 2 ^ 10 + lx.code * 2 ^ 8 +
       ly.rd.val * 2 ^ 4 + ly.ptr.val * 2 ^ 2 + ly.code) = some (.mul g a ra rb lx ly)) ∧
  -- formatA
  (∀ (f sh : Nat) (g : AccFn) (ad as_ : Fin 4) (r : Fin 16), accFn f = some g → sh < 64 →
     (g = .ashl ∨ g = .asar ∨ sh = 0) → (g = .aload ∨ g = .aloadl ∨ g = .ast ∨ r = 0) → (g = .aclr ∨ g = .aload ∨ g = .aloadl → as_ = 0) → (g = .ast → ad = 0) →
     decodeEng (0x18 * 2 ^ 26 + ad.val * 2 ^ 24 + as_.val * 2 ^ 22 + r.val * 2 ^ 18 + sh * 2 ^ 12 + f) = some (.acc g ad as_ r sh)) ∧
  -- formatB
  (∀ (op cond off : Nat) (g : BrFn) (rn : Fin 16), brFn op = some g → cond < 15 → off < 2 ^ 12 → (g = .b ∨ g = .call → rn = 0) → (g = .br ∨ g = .callr → off = 0) →
     decodeEng (op * 2 ^ 26 + cond * 2 ^ 22 + rn.val * 2 ^ 18 + off) = some (.br g cond rn off)) ∧
  -- formatL
  (∀ (rn : Fin 16) (count off : Nat), count < 2 ^ 13 → 0 < off → off < 2 ^ 12 →
     decodeEng (0x3C * 2 ^ 26 + count * 2 ^ 12 + off) = some (.loop false 0 count off) ∧
     decodeEng (0x3C * 2 ^ 26 + 2 ^ 25 + rn.val * 2 ^ 21 + off) = some (.loop true rn 0 off)) ∧
  -- formatS
  (∀ (dir : Bool) (r : Fin 16) (c : Nat), c < 64 → sregOk dir c = true →
     decodeEng (0x30 * 2 ^ 26 + r.val * 2 ^ 22 + dir.toNat * 2 ^ 21 + c * 2 ^ 12) = some (.movs dir r c))

/-- Trunk segments, TRK_CTRL, latched reads; tooth inputs, virtual teeth, loss, standstill, TOOTH_CTRL (R142, R143, R145, R146, R150, R151, R231, R233, R245). -/
def Obligations.TrunksAndTeeth : Prop :=
  -- trkSegPush
  (∀ (k : Fin 8) (s : State) (g : TrunkSeg), g = s.stagedSeg k →
     (16 ≤ (s.trunk k).queue.length → exec (.trkSegPush k) s = .next ((s.setb (P.trunk k) F.TRK_SEG_STAT_FULL true).err (P.trunk k) E.trunk_SEG_REJ)) ∧
     (∀ q, (s.trunk k).queue.length < 16 → (s.trunk k).queue.getLast? = some q → laterNs g.t q.t = false →
       exec (.trkSegPush k) s = .next ((s.setb (P.trunk k) F.TRK_SEG_STAT_ORDER true).err (P.trunk k) E.trunk_SEG_REJ)) ∧
     ((s.trunk k).queue = [] → (s.trunk k).active = none → 0 ≤ since96 (s.time96 s.now) g.t →
       exec (.trkSegPush k) s = .next ((s.setb (P.trunk k) F.TRK_SEG_STAT_LATE true).err (P.trunk k) E.trunk_SEG_REJ)) ∧
     ((s.trunk k).queue = [] → (s.trunk k).active = none → since96 (s.time96 s.now) g.t < 0 → g.dur = 0 →
       exec (.trkSegPush k) s = .next ((s.setb (P.trunk k) F.TRK_SEG_STAT_RANGE true).err (P.trunk k) E.trunk_SEG_REJ)) ∧
     ((s.trunk k).queue.length < 16 → (∀ q, (s.trunk k).queue.getLast?.or (s.trunk k).active = some q → laterNs g.t q.t = true) → since96 (s.time96 s.now) g.t < 0 → g.dur ≠ 0 →
       exec (.trkSegPush k) s = .next (((s.setTrunk k fun t => { t with queue := t.queue ++ [g] }).setb (P.trunk k) F.TRK_SEG_STAT_DONE true).trkCounts k))) ∧
  -- trkEnable
  (∀ (k : Fin 8) (v : Word) (s : State),
     (bits v.toNat 2 2 = 3 → exec (.trkEnable k v) s = .next s) ∧
     (s.trkOn k = true → (bits v.toNat 2 2 ≠ s.trkSrc k ∨ bits v.toNat 8 6 ≠ s.trkIdx k) → exec (.trkEnable k v) s = .next s) ∧
     (s.trkOn k = false → v.toNat % 2 = 1 → bits v.toNat 2 2 = 0 → bits v.toNat 16 1 = 0 → exec (.trkEnable k v) s = .next
       ((s.wr (P.trunk k + R.TRK_CTRL) (1 + 256 * bits v.toNat 8 6)).trkStart k)) ∧
     (s.trkOn k = true → v.toNat % 2 = 0 → bits v.toNat 2 2 = s.trkSrc k → bits v.toNat 8 6 = s.trkIdx k → bits v.toNat 2 2 ≠ 3 → bits v.toNat 16 1 = 0 → exec (.trkEnable k v) s = .next
       ((s.wr (P.trunk k + R.TRK_CTRL) (4 * s.trkSrc k + 256 * s.trkIdx k)).trkValid k false)) ∧
     (s.trkOn k = false → s.srcAbsent (bits v.toNat 2 2) (bits v.toNat 8 6) = true → bits v.toNat 2 2 ≠ 3 → bits v.toNat 16 1 = 0 → exec (.trkEnable k v) s = .next
       (s.wr (P.trunk k + R.TRK_CTRL) (4 * bits v.toNat 2 2 + 256 * bits v.toNat 8 6)))) ∧
  -- flush
  (∀ (k : Fin 8) (s : State), exec (.flush k) s = .next ((s.setTrunk k fun t => { t with queue := [] }).trkCounts k)) ∧
  -- trkPosRead
  (∀ (q : Fin 514) (k : Fin 8) (s u : State) (x v : Nat), u = s.trkAsk k s.now → x = ofSigned 64 (u.trkAt k u.now).1 → v = ofSigned 64 (u.trkAt k u.now).2 →
     exec (.trkPosRead q k) s = .next ((((((u.latch q.val (P.trunk k + R.TRK_POS_HI) (x / 2 ^ 32)).latch q.val (P.trunk k + R.TRK_VEL_LO) (v % 2 ^ 32)).latch q.val
       (P.trunk k + R.TRK_VEL_HI) (v / 2 ^ 32)).latch q.val (P.trunk k + R.TRK_POS_TICK_LO) (u.now % 2 ^ 32)).latch q.val (P.trunk k + R.TRK_POS_TICK_HI)
         (u.now / 2 ^ 32 % 2 ^ 32)).answer q.val (P.trunk k + R.TRK_POS_LO) (x % 2 ^ 32))) ∧
  -- toothInputEdge
  (∀ (i : Fin 8) (j : Fin 2) (lvl : Bool) (t0 acc : Nat) (s : State), acc = t0 + ((s.slate i).auxFilt[j] * 625 + 1) / 2 →
     ((s.slate i).powered = true → acc ≤ s.stick i → (bits (s.slate i).auxPol j 1 = 1 ↔ lvl = false) → exec (.toothInputEdge i j lvl t0) s = .next (s.pushEvent i (32 + j) lvl acc)) ∧
     (((s.slate i).powered = false ∨ s.stick i < acc ∨ (bits (s.slate i).auxPol j 1 = 1 ↔ lvl = true)) → exec (.toothInputEdge i j lvl t0) s = .next s)) ∧
  -- virtualTooth
  (∀ (t : Fin 16) (l : ToothRec) (e : Nat) (s : State), s.toothOn t = true → s.toothLate t (s.now - 625) = true → (s.tooth t).last = some l → (s.tooth t).texp = some e →
     (s.toothVmax t ≤ (s.tooth t).vrun → exec (.virtualTooth t) s = .next (((s.toothSearch t).err (P.tooth t) E.tooth_LOST).toothShow t)) ∧
     ((s.tooth t).vrun < s.toothVmax t → s.toothAtRef t = false → exec (.virtualTooth t) s = .next
       ((((((s.toothAdvance t 1).toothPublish t (l.tick + e) 1 true false).inc (P.tooth t) F.TOOTH_CNT_VIRT_COUNT).err (P.tooth t) E.tooth_VIRTUAL).toothAnchor s t).toothShow t))) ∧
  -- toothStill
  (∀ (t : Fin 16) (l : Nat) (s : State), s.toothOn t = true → (s.tooth t).lastReal = some l →
     (625 * max 1 (bits (s.rd (P.tooth t + R.TOOTH_STILL)) 0 24) < 2 * (s.now - l) → exec (.toothStill t) s = .next
       (((s.setTooth t fun u => { u with texp := none, outRun := 0 }).setb (P.tooth t) F.TOOTH_STATUS_STILL true).toothShow t)) ∧
     (2 * (s.now - l) ≤ 625 * max 1 (bits (s.rd (P.tooth t + R.TOOTH_STILL)) 0 24) → exec (.toothStill t) s = .next s)) ∧
  -- toothEnable
  (∀ (t : Fin 16) (v : BitVec 24) (i : Fin 8) (s u : State), slate? (t.val / 2) = some i →
     u = ((s.wr (P.tooth t + R.TOOTH_CTRL) (v.toNat &&& 0xFFFF3D)).forward i (auxOff (t.val % 2)) ((s.wr (P.tooth t + R.TOOTH_CTRL) (v.toNat &&& 0xFFFF3D)).auxWord i (t.val % 2)) 0xFFFFFFFF) →
     (s.toothOn t = true → v.toNat % 2 = 0 → exec (.toothEnable t v) s = .next ((u.setTooth t fun x => { x with vrun := 0 }).toothEnter t 0)) ∧
     (s.toothOn t = false → v.toNat % 2 = 0 → exec (.toothEnable t v) s = .next u) ∧
     (s.toothOn t = false → v.toNat % 2 = 1 → exec (.toothEnable t v) s = .next
       ((((u.setTooth t fun x => { pos := x.pos, turn := x.turn }).toothSearch t).setb (P.tooth t) F.TOOTH_STATUS_STILL false).toothShow t)) ∧
     (s.toothOn t = true → v.toNat % 2 = 1 → bits v.toNat 1 1 = 0 → exec (.toothEnable t v) s = .next (u.toothShow t))) ∧
  -- research
  (∀ (t : Fin 16) (s : State), s.toothOn t = true → exec (.research t) s = .next ((s.toothSearch t).toothShow t)) ∧
  -- toothPosRead
  (∀ (q : Fin 514) (t : Fin 16) (s : State) (k : Nat), k = ((s.tooth t).last.map (·.tick)).getD 0 → exec (.toothPosRead q t) s = .next
     ((((s.latch q.val (P.tooth t + R.TOOTH_TURN) (s.tooth t).turn).latch q.val (P.tooth t + R.TOOTH_LAST_TICK_LO) (k % 2 ^ 32)).latch q.val (P.tooth t + R.TOOTH_LAST_TICK_HI)
       (k / 2 ^ 32 % 2 ^ 32)).answer q.val (P.tooth t + R.TOOTH_POS) (s.tooth t).pos))

/-- Motion commands wait in PRF_CMD; set-point computation; one command is taken, in the order STOP, PATH, GEAR, VEL, MOVE (R225, R226, R227, R228, R244). -/
def Obligations.ProfileCommands : Prop :=
  -- setpointCompute
  (∀ (a : Fin 64) (s : State),
     ((s.loopOf a).posStamp = 0 → exec (.setpointCompute a) s = .next (s.prfGate a)) ∧
     ((s.loopOf a).posStamp ≠ 0 → s.prfOn a = true → (s.prf a).on = true → (s.prf a).nx = none → (s.prf a).st = .idle → (s.prf a).stopAsk = none → s.rd (P.profile a + R.PRF_CMD) = 0 →
       Completes (.setpointCompute a) s fun t => (t.prf a).st = .idle ∧ (t.prf a).sp = (s.prf a).sp ∧
         (t.prf a).nx.map (fun p => (p.x, p.v, p.a)) = some ((s.prf a).sp.x, 0, 0))) ∧
  -- move
  (∀ (a : Fin 64) (s : State), exec (.move a) s = .next (s.wr (P.profile a + R.PRF_CMD) (setBits (s.rd (P.profile a + R.PRF_CMD)) 0 1 1))) ∧
  -- vel
  (∀ (a : Fin 64) (s : State), exec (.vel a) s = .next (s.wr (P.profile a + R.PRF_CMD) (setBits (s.rd (P.profile a + R.PRF_CMD)) 1 1 1))) ∧
  -- gear
  (∀ (a : Fin 64) (s : State), exec (.gear a) s = .next (s.wr (P.profile a + R.PRF_CMD) (setBits (s.rd (P.profile a + R.PRF_CMD)) 2 1 1))) ∧
  -- stop
  (∀ (a : Fin 64) (s : State), exec (.stop a) s = .next (s.wr (P.profile a + R.PRF_CMD) (setBits (s.rd (P.profile a + R.PRF_CMD)) 3 1 1))) ∧
  -- path
  (∀ (a : Fin 64) (s : State), exec (.path a) s = .next (s.wr (P.profile a + R.PRF_CMD) (setBits (s.rd (P.profile a + R.PRF_CMD)) 4 1 1))) ∧
  -- prfSpRead
  (∀ (q : Fin 514) (a : Fin 64) (s : State) (x : Nat), x = ofSigned 64 (s.prfX a) → exec (.prfSpRead q a) s = .next
     ((((s.latch q.val (P.profile a + R.PRF_SP_HI) (x / 2 ^ 32)).latch q.val (P.profile a + R.PRF_VEL) (s.prfVel a)).latch q.val (P.profile a + R.PRF_ACC) (s.prfAcc a)).answer q.val
       (P.profile a + R.PRF_SP_LO) (x % 2 ^ 32))) ∧
  -- brOfsNowRead
  (∀ (q : Fin 514) (a : Fin 64) (s : State) (x : Nat), x = ofSigned 64 (s.prf a).br.ofs → exec (.brOfsNowRead q a) s = .next
     ((s.latch q.val (P.profile a + R.BR_OFS_NOW_HI) (x / 2 ^ 32)).answer q.val (P.profile a + R.BR_OFS_NOW_LO) (x % 2 ^ 32))) ∧
  -- law
  (∀ (a : Fin 64) (s : State) (sp : SetPoint) (ref : Int) (c : Nat) (u : State), c = s.rd (P.profile a + R.PRF_CMD) → u = s.wr (P.profile a + R.PRF_CMD) 0 →
     (c.testBit 3 = true → s.takeCmd a sp ref = u.prfStop a 1 sp) ∧
     (c.testBit 3 = false → c.testBit 4 = true → s.takeCmd a sp ref = u.cmdPath a) ∧
     (c.testBit 3 = false → c.testBit 4 = false → c.testBit 2 = true → s.takeCmd a sp ref = u.cmdGear a sp ref) ∧
     (c.testBit 3 = false → c.testBit 4 = false → c.testBit 2 = false → c.testBit 1 = true → s.takeCmd a sp ref = u.cmdVel a sp) ∧
     (c.testBit 3 = false → c.testBit 4 = false → c.testBit 2 = false → c.testBit 1 = false → c.testBit 0 = true → s.takeCmd a sp ref = u.cmdMove a sp)) ∧
  -- move
  (∀ (a : Fin 64) (s : State) (sp : SetPoint), (s.prfLim a).toList.contains 0 = false → (s.prf a).st ≠ .stopping → s.grpFollower a = false → (s.prf a).st ≠ .path →
     s.cmdMove a sp = s.cmdPlan a .move (planMove (limitsOf (s.prfLim a)) (sp.x * unitX) sp.v sp.a
       ((s.prfTarget a * 2 ^ 16 + if s.flag (P.profile a) F.PRF_CTRL_REL then sp.x else 0) * unitX)))

/-- A geared axis moves NUM counts for every DEN trunk counts exactly: rounding never accumulates (R238, R239). -/
def Obligations.GearRatio : Prop :=
  (∀ (b : Branch) (x n : Int), 0 < b.den → b.gearX (x + n * b.den * 2 ^ 16) = b.gearX x + n * b.num)

/-- The tracking table, its regions, reports and rebuild; inserts, budgets, CANCEL, DELETE, SHIFT, READ (R246, R251, R261, R262, R272, R390, R392). Rests on log 34. -/
def Obligations.TrackingRegions : Prop :=
  -- rgnRptPop
  (∀ (d : Fin 8) (s u : State), u = (s.setTrack fun t => { t with reports := t.reports.set d t.reports[d].tail }).showRpt d →
     (u.track.reports[d] = [] → exec (.rgnRptPop d) s = .next u) ∧ (u.track.reports[d] ≠ [] → exec (.rgnRptPop d) s = .next (u.rptVec d))) ∧
  -- rebuild
  (∀ (s : State), (s.track.rb = none → exec .rebuild s = .next ((s.setTrack fun t => { t with rb := some { start := s.now, recs := s.usedRecs } }).setb P.track F.TRACK_STATUS_REBUILDING true)) ∧
     (∀ r, s.track.rb = some r → exec .rebuild s = .next (s.setTrack fun t => { t with rb := some { r with again := true } }))) ∧
  -- rebuildComplete
  (∀ (s : State), (s.track.rb = none → exec .rebuildComplete s = .next s) ∧
     (∀ r, s.track.rb = some r → r.built = true → exec .rebuildComplete s = .next s) ∧
     (∀ r, s.track.rb = some r → r.built = false → exec .rebuildComplete s = .next (
       ((forEach (List.finRange 64) s fun a t =>
         (t.setLane a fun l => { l with shd := ((r.recs.flatMap s.entriesOf).filter fun x => x.1 == a).foldl (fun l x => insertEntry x.2 l) [] }).setb (P.lane a) F.LANE_STATUS_SWAP_PEND true).setTrack
           fun t => { t with rb := some { r with built := true }, swap := List.range 64 }).endRebuild))) ∧
  -- merge
  (∀ (a : Fin 64) (s : State), (s.track.rb ≠ none → exec (.merge a) s = .next s) ∧
     (s.track.rb = none → exec (.merge a) s = .next (((s.setLane a fun l => { l with act := l.buf.foldl (fun m e => insertEntry e m) l.act, buf := [] }).showLane a).deadRebuild))) ∧
  -- init
  (∀ (s : State), exec .init s = .next ((s.clearMem 0x1000000 0x800000).setTrack fun t =>
     { t with rb := t.rb.map fun r => { r with recs := [] }, inh := [], wins := [], fin := [], susp := [], com := [], ho := [] })) ∧
  -- trackRgnWrite
  (∀ (d : Fin 8) (v : Word) (s : State),
     (s.locked = true → exec (.trackRgnWrite d v) s = .next (s.err P.dom E.dom_LOCKED_WR)) ∧
     (s.locked = false → 262144 < (v.toNat % 2 ^ 8 + bits v.toNat 16 9) * 1024 → exec (.trackRgnWrite d v) s = .next (s.err P.track E.track_RGN_OVL)) ∧
     (s.locked = false → (v.toNat % 2 ^ 8 + bits v.toNat 16 9) * 1024 ≤ 262144 → (∀ e : Fin 8, e ≠ d → s.fld P.track (F.TRACK_RGN_COUNT e) = 0) → s.usedRecs = [] →
       (s.wr (P.track + R.TRACK_RGN d) (v.toNat &&& 0x1FF00FF)).usedRecs = [] →
       exec (.trackRgnWrite d v) s = .next ((s.wr (P.track + R.TRACK_RGN d) (v.toNat &&& 0x1FF00FF)).startRebuild))) ∧
  -- insertItem
  (∀ (d : Fin 8) (s u : State), u = s.wr (P.rgn d + R.RGN_CMD) (1 * 2 ^ 24) →
     (s.flag (P.rgn d) F.RGN_CMD_GO = true → exec (.insertItem d) s = .next s) ∧
     (s.flag (P.rgn d) F.RGN_CMD_GO = false → u.budgetLeft d = false → exec (.insertItem d) s = .next
       (((u.setb (P.rgn d) F.RGN_CMD_GO true).inc P.dom F.DOM_INS_HELD_COUNT).setTrack fun t => { t with heldIns := t.heldIns.set d (some (1, u.staged d)) })) ∧
     (s.flag (P.rgn d) F.RGN_CMD_GO = false → u.budgetLeft d = true → u.imageOk d (u.staged d) true = false → exec (.insertItem d) s = .next (u.rgnDone d 3 0)) ∧
     (s.flag (P.rgn d) F.RGN_CMD_GO = false → u.budgetLeft d = true → u.imageOk d (u.staged d) true = true → u.freeRecs d = [] → exec (.insertItem d) s = .next (u.rgnDone d 1 0)) ∧
     (s.flag (P.rgn d) F.RGN_CMD_GO = false → u.budgetLeft d = true → u.imageOk d (u.staged d) true = true → u.freeRecs d ≠ [] → exec (.insertItem d) s = .next (u.insertRec d (u.staged d) true))) ∧
  -- insertEvent
  (∀ (d : Fin 8) (s u : State), u = s.wr (P.rgn d + R.RGN_CMD) (2 * 2 ^ 24) →
     (s.flag (P.rgn d) F.RGN_CMD_GO = true → exec (.insertEvent d) s = .next s) ∧
     (s.flag (P.rgn d) F.RGN_CMD_GO = false → u.budgetLeft d = false → exec (.insertEvent d) s = .next
       (((u.setb (P.rgn d) F.RGN_CMD_GO true).inc P.dom F.DOM_INS_HELD_COUNT).setTrack fun t => { t with heldIns := t.heldIns.set d (some (2, u.staged d)) })) ∧
     (s.flag (P.rgn d) F.RGN_CMD_GO = false → u.budgetLeft d = true → u.imageOk d (u.staged d) false = false → exec (.insertEvent d) s = .next (u.rgnDone d 3 0)) ∧
     (s.flag (P.rgn d) F.RGN_CMD_GO = false → u.budgetLeft d = true → u.imageOk d (u.staged d) false = true → u.freeRecs d = [] → exec (.insertEvent d) s = .next (u.rgnDone d 1 0)) ∧
     (s.flag (P.rgn d) F.RGN_CMD_GO = false → u.budgetLeft d = true → u.imageOk d (u.staged d) false = true → u.freeRecs d ≠ [] → exec (.insertEvent d) s = .next (u.insertRec d (u.staged d) false))) ∧
  -- heldInsertRelease
  (∀ (d : Fin 8) (s : State), (s.track.heldIns[d] = none → exec (.heldInsertRelease d) s = .next s) ∧
     (∀ op w, s.track.heldIns[d] = some (op, w) → s.budgetLeft d = false → exec (.heldInsertRelease d) s = .next s) ∧
     (∀ op w, s.track.heldIns[d] = some (op, w) → s.budgetLeft d = true → exec (.heldInsertRelease d) s = .next
       ((s.setTrack fun t => { t with heldIns := t.heldIns.set d none }).insertRec d w (op == 1)))) ∧
  -- cancel
  (∀ (d : Fin 8) (i : Fin 262144) (s u : State), u = s.wr (P.rgn d + R.RGN_CMD) (3 * 2 ^ 24 + i.val) →
     (s.flag (P.rgn d) F.RGN_CMD_GO = true → exec (.cancel d i) s = .next s) ∧
     (s.flag (P.rgn d) F.RGN_CMD_GO = false → u.rgnRec d i = false → exec (.cancel d i) s = .next (u.rgnDone d 2 i)) ∧
     (s.flag (P.rgn d) F.RGN_CMD_GO = false → u.rgnRec d i = true → u.isEvent i = false → exec (.cancel d i) s = .next (u.rgnDone d 2 i)) ∧
     (s.flag (P.rgn d) F.RGN_CMD_GO = false → u.rgnRec d i = true → u.isEvent i = true ∧ (u.rget i Rf.state = 1 ∨ u.rget i Rf.state = 2 ∨ u.rget i Rf.state = 4 ∨ u.rget i Rf.state = 5) → exec (.cancel d i) s = .next (((u.rset i Rf.state 13).rgnDone d 0 i).deadRebuild)) ∧
     (s.flag (P.rgn d) F.RGN_CMD_GO = false → u.rgnRec d i = true → u.isEvent i = true ∧ (u.rget i Rf.state = 3 ∨ 8 ≤ u.rget i Rf.state) → exec (.cancel d i) s = .next (u.rgnDone d 4 i))) ∧
  -- delete
  (∀ (d : Fin 8) (i : Fin 262144) (s u : State), u = s.wr (P.rgn d + R.RGN_CMD) (4 * 2 ^ 24 + i.val) →
     (s.flag (P.rgn d) F.RGN_CMD_GO = true → exec (.delete d i) s = .next s) ∧
     (s.flag (P.rgn d) F.RGN_CMD_GO = false → u.rgnRec d i = false → exec (.delete d i) s = .next (u.rgnDone d 2 i)) ∧
     (s.flag (P.rgn d) F.RGN_CMD_GO = false → u.rgnRec d i = true → u.isEvent i = true ∧ u.rget i Rf.state = 3 → exec (.delete d i) s = .next (u.rgnDone d 4 i)) ∧
     (s.flag (P.rgn d) F.RGN_CMD_GO = false → u.rgnRec d i = true → u.isEvent i = true ∧ u.rget i Rf.state ≠ 3 → exec (.delete d i) s = .next ((((u.unlink i).freeRec i).rgnDone d 0 i).deadRebuild)) ∧
     (s.flag (P.rgn d) F.RGN_CMD_GO = false → u.rgnRec d i = true → u.isEvent i = false ∧ u.rget i Rf.state = 1 → exec (.delete d i) s = .next (((u.freeItem i).rgnDone d 0 i).deadRebuild)) ∧
     (s.flag (P.rgn d) F.RGN_CMD_GO = false → u.rgnRec d i = true → u.isEvent i = false ∧ (u.rget i Rf.state = 2 ∨ u.rget i Rf.state = 3) → exec (.delete d i) s = .next (((u.hoMod i fun h => { h with del := true }).sendWithdraw i).rgnDone d 0 i)) ∧
     (s.flag (P.rgn d) F.RGN_CMD_GO = false → u.rgnRec d i = true → u.isEvent i = false ∧ 4 ≤ u.rget i Rf.state → exec (.delete d i) s = .next (u.rgnDone d 4 i))) ∧
  -- shift
  (∀ (d : Fin 8) (i : Fin 262144) (s u : State), u = s.wr (P.rgn d + R.RGN_CMD) (5 * 2 ^ 24 + i.val) →
     (s.flag (P.rgn d) F.RGN_CMD_GO = true → exec (.shift d i) s = .next s) ∧
     (s.flag (P.rgn d) F.RGN_CMD_GO = false → u.rgnRec d i = false → exec (.shift d i) s = .next (u.rgnDone d 2 i)) ∧
     (s.flag (P.rgn d) F.RGN_CMD_GO = false → u.rgnRec d i = true → u.isItem i = false → exec (.shift d i) s = .next (u.rgnDone d 2 i)) ∧
     (s.flag (P.rgn d) F.RGN_CMD_GO = false → u.rgnRec d i = true → u.isItem i = true ∧ u.rget i Rf.state ≠ 1 ∧ u.rget i Rf.state ≠ 6 → exec (.shift d i) s = .next (u.rgnDone d 4 i)) ∧
     (s.flag (P.rgn d) F.RGN_CMD_GO = false → u.rgnRec d i = true → u.isItem i = true ∧ (u.rget i Rf.state = 1 ∨ u.rget i Rf.state = 6) → exec (.shift d i) s = .next (((u.shiftItem i (sx64 (u.rd64 (P.rgn d) (R.RGN_STAGE 0))) none).rgnDone d 0 i).deadRebuild))) ∧
  -- read
  (∀ (d : Fin 8) (i : Fin 262144) (s u : State), u = s.wr (P.rgn d + R.RGN_CMD) (6 * 2 ^ 24 + i.val) →
     (s.flag (P.rgn d) F.RGN_CMD_GO = true → exec (.read d i) s = .next s) ∧
     (s.flag (P.rgn d) F.RGN_CMD_GO = false → u.rgnRec d i = false → exec (.read d i) s = .next (u.rgnDone d 2 i)) ∧
     (s.flag (P.rgn d) F.RGN_CMD_GO = false → u.rgnRec d i = true → True → exec (.read d i) s = .next ((forEach (List.range 8) u fun j t => t.wr (P.rgn d + R.RGN_STAGE j) (bits (u.rec_ i) (32 * j) 32)).rgnDone d 0 i)))

/-- Handover between nodes: sessions, offers, ownership, doubt and their messages (R264, R265, R266, R267, R268, R269, R270, R271). Rests on log 35. -/
def Obligations.Handover : Prop :=
  -- hello
  (∀ (k : Fin 8) (dn : Bool) (m : HoMsg) (s : State), ((m.arg % 256 < 2 ∨ 4 < m.arg % 256) → exec (.hello k dn m) s = .next (s.err (P.handover k) E.handover_VER_MISMATCH)) ∧
     (2 ≤ m.arg % 256 → m.arg % 256 ≤ 4 → dn = true → exec (.hello k dn m) s = .next
       (((s.hoHeard k true).setf (P.handover k) F.HO_STATUS_DN_VER (min 3 (m.arg % 256))).setb (P.handover k) F.HO_STATUS_DN_UP true)) ∧
     (2 ≤ m.arg % 256 → m.arg % 256 ≤ 4 → dn = false → exec (.hello k dn m) s = .next
       (((s.hoHeard k false).setf (P.handover k) F.HO_STATUS_UP_VER (min 3 (m.arg % 256))).setb (P.handover k) F.HO_STATUS_UP_UP true))) ∧
  -- helloSend
  (∀ (k : Fin 8) (s u : State), u = (s.setTrack fun t => { t with pages := t.pages.set k { t.pages[k] with hello := some s.now } }) →
     (∀ t, s.track.pages[k].hello = some t → s.now < t + 31250000 → exec (.helloSend k) s = .next s) ∧
     (s.track.pages[k].hello = none → u.rd64 (P.handover k) R.HO_DN_ADDR_LO % 2 ^ 48 = 0 → u.rd64 (P.handover k) R.HO_UP_ADDR_LO % 2 ^ 48 = 0 → exec (.helloSend k) s = .next u) ∧
     (s.track.pages[k].hello = none → u.rd64 (P.handover k) R.HO_DN_ADDR_LO % 2 ^ 48 ≠ 0 → (u.hoSend k true 8 3 0 0 0 0x203 []).rd64 (P.handover k) R.HO_UP_ADDR_LO % 2 ^ 48 = 0 → exec (.helloSend k) s = .next
       (u.hoSend k true 8 3 0 0 0 0x203 []))) ∧
  -- sessionDown
  (∀ (k : Fin 8) (s : State), (s.sessUp k true = false → exec (.sessionDown k true) s = .next s) ∧
     (s.sessUp k true = true → (s.track.pages[k].dn.getD 0) + 109375000 ≤ s.now → exec (.sessionDown k true) s = .next
       (((s.setb (P.handover k) F.HO_STATUS_DN_UP false).setf (P.handover k) F.HO_STATUS_DN_VER 0).err (P.handover k) E.handover_SESSION_DOWN)) ∧
     (s.sessUp k false = true → (s.track.pages[k].up.getD 0) + 109375000 ≤ s.now → exec (.sessionDown k false) s = .next
       (((s.setb (P.handover k) F.HO_STATUS_UP_UP false).setf (P.handover k) F.HO_STATUS_UP_VER 0).err (P.handover k) E.handover_SESSION_DOWN))) ∧
  -- offer
  (∀ (k : Fin 8) (m : HoMsg) (s u : State),
     ((s.sessUp k false = false ∨ m.ver ≠ s.sessVer k false) → exec (.offer k m) s = .next (s.hoDrop k)) ∧
     (s.sessUp k false = true → m.ver = s.sessVer k false → (s.hoHeard k false).hoFirst k 1 m = (false, u) → exec (.offer k m) s = .next (u.inc (P.handover k) F.HO_CNT_DROP_COUNT)) ∧
     (s.sessUp k false = true → m.ver = s.sessVer k false → (s.hoHeard k false).hoFirst k 1 m = (true, u) →
       (m.count ≠ 0 → m.count ≤ 41 → 32 * m.count ≤ m.body.length → u.hoFind k true m.xfer ≠ none → exec (.offer k m) s = .next (u.hoAbout k false 2 m.xfer m.id 0 [])) ∧
       (m.count ≠ 0 → m.count ≤ 41 → 32 * m.count ≤ m.body.length → u.hoFind k true m.xfer = none → m.line ≠ u.rd (P.handover k + R.HO_LINE_ID) % 2 ^ 16 → exec (.offer k m) s = .next (u.hoAbout k false 3 m.xfer m.id 3 [])) ∧
       (m.count ≠ 0 → m.count ≤ 41 → 32 * m.count ≤ m.body.length → u.hoFind k true m.xfer = none → m.line = u.rd (P.handover k + R.HO_LINE_ID) % 2 ^ 16 → u.flag (P.handover k) F.HO_CTRL_IN_EN = false → exec (.offer k m) s = .next (u.hoAbout k false 3 m.xfer m.id 2 [])) ∧
       (m.count ≠ 0 → m.count ≤ 41 → 32 * m.count ≤ m.body.length → u.hoFind k true m.xfer = none → m.line = u.rd (P.handover k + R.HO_LINE_ID) % 2 ^ 16 → u.flag (P.handover k) F.HO_CTRL_IN_EN = true → (u.freeRecs (u.hoOwner k)).length < (u.arrivalEvents k m).length + 1 → exec (.offer k m) s = .next (u.hoAbout k false 3 m.xfer m.id 1 [])) ∧
       (m.count ≠ 0 → m.count ≤ 41 → 32 * m.count ≤ m.body.length → u.hoFind k true m.xfer = none → m.line = u.rd (P.handover k + R.HO_LINE_ID) % 2 ^ 16 → u.flag (P.handover k) F.HO_CTRL_IN_EN = true → (u.arrivalEvents k m).length + 1 ≤ (u.freeRecs (u.hoOwner k)).length → u.roomFor (arrivalItem k m :: u.arrivalEvents k m) = true → exec (.offer k m) s = .next ((u.holdItem k m).hoAbout k false 2 m.xfer m.id 0 [])))) ∧
  -- commit
  (∀ (k : Fin 8) (m : HoMsg) (s u : State),
     ((s.sessUp k false = false ∨ m.ver ≠ s.sessVer k false) → exec (.commit k m) s = .next (s.hoDrop k)) ∧
     (s.sessUp k false = true → m.ver = s.sessVer k false → (s.hoHeard k false).hoFirst k 4 m = (false, u) → exec (.commit k m) s = .next (u.inc (P.handover k) F.HO_CNT_DROP_COUNT)) ∧
     (s.sessUp k false = true → m.ver = s.sessVer k false → (s.hoHeard k false).hoFirst k 4 m = (true, u) →
       (u.hoFind k true m.xfer = none → u.track.gone.contains (k.val, m.xfer) = true → exec (.commit k m) s = .next (u.hoAbout k false 3 m.xfer m.id 4 [])) ∧
       (u.hoFind k true m.xfer = none → u.track.gone.contains (k.val, m.xfer) = false → exec (.commit k m) s = .next (u.hoDrop k)) ∧
       (∀ h, u.hoFind k true m.xfer = some h → u.rget h.rec_ Rf.state = 5 → exec (.commit k m) s = .next ((((u.rset h.rec_ Rf.state 1).inc (P.handover k) F.HO_CNT_IN_COUNT).reportRec h.rec_ 0x11 m.xfer).hoAbout k false 5 m.xfer m.id 0 [])) ∧
       (∀ h, u.hoFind k true m.xfer = some h → u.rget h.rec_ Rf.state = 6 → exec (.commit k m) s = .next ((((u.rset h.rec_ Rf.state 1).reportRec h.rec_ 0x16 m.xfer).showDoubt k).hoAbout k false 5 m.xfer m.id 0 [])) ∧
       (∀ h, u.hoFind k true m.xfer = some h → u.rget h.rec_ Rf.state = 1 → exec (.commit k m) s = .next (u.hoAbout k false 5 m.xfer m.id 0 [])))) ∧
  -- withdraw
  (∀ (k : Fin 8) (m : HoMsg) (s u : State),
     ((s.sessUp k false = false ∨ m.ver ≠ s.sessVer k false) → exec (.withdraw k m) s = .next (s.hoDrop k)) ∧
     (s.sessUp k false = true → m.ver = s.sessVer k false → (s.hoHeard k false).hoFirst k 6 m = (false, u) → exec (.withdraw k m) s = .next (u.inc (P.handover k) F.HO_CNT_DROP_COUNT)) ∧
     (s.sessUp k false = true → m.ver = s.sessVer k false → (s.hoHeard k false).hoFirst k 6 m = (true, u) →
       (u.hoFind k true m.xfer = none → exec (.withdraw k m) s = .next (u.hoDrop k)) ∧
       (∀ h, u.hoFind k true m.xfer = some h → u.rget h.rec_ Rf.state = 5 → exec (.withdraw k m) s = .next ((u.freeItem h.rec_).hoAbout k false 5 m.xfer m.id 0 [])) ∧
       (∀ h, u.hoFind k true m.xfer = some h → u.rget h.rec_ Rf.state = 6 → exec (.withdraw k m) s = .next ((u.endItem h.rec_ 0x17 m.xfer true).hoAbout k false 5 m.xfer m.id 0 [])) ∧
       (∀ h, u.hoFind k true m.xfer = some h → u.rget h.rec_ Rf.state = 1 → exec (.withdraw k m) s = .next (u.hoDrop k)))) ∧
  -- accept
  (∀ (k : Fin 8) (m : HoMsg) (s u : State),
     ((s.sessUp k true = false ∨ m.ver ≠ s.sessVer k true) → exec (.accept k m) s = .next (s.hoDrop k)) ∧
     (s.sessUp k true = true → m.ver = s.sessVer k true → (s.hoHeard k true).hoFirst k 2 m = (false, u) → exec (.accept k m) s = .next (u.inc (P.handover k) F.HO_CNT_DROP_COUNT)) ∧
     (s.sessUp k true = true → m.ver = s.sessVer k true → (s.hoHeard k true).hoFirst k 2 m = (true, u) →
       (u.hoFind k false m.xfer = none → exec (.accept k m) s = .next (u.hoDrop k)) ∧
       (∀ h, u.hoFind k false m.xfer = some h → u.rget h.rec_ Rf.state = 2 → exec (.accept k m) s = .next (u.rset h.rec_ Rf.state 3)) ∧
       (∀ h, u.hoFind k false m.xfer = some h → u.rget h.rec_ Rf.state = 6 → exec (.accept k m) s = .next (((u.rset h.rec_ Rf.state 4).sendCommit h.rec_).showDoubt k)) ∧
       (∀ h, u.hoFind k false m.xfer = some h → u.rget h.rec_ Rf.state = 3 → exec (.accept k m) s = .next (u)))) ∧
  -- refuse
  (∀ (k : Fin 8) (m : HoMsg) (s u : State),
     ((s.sessUp k true = false ∨ m.ver ≠ s.sessVer k true) → exec (.refuse k m) s = .next (s.hoDrop k)) ∧
     (s.sessUp k true = true → m.ver = s.sessVer k true → (s.hoHeard k true).hoFirst k 3 m = (false, u) → exec (.refuse k m) s = .next (u.inc (P.handover k) F.HO_CNT_DROP_COUNT)) ∧
     (s.sessUp k true = true → m.ver = s.sessVer k true → (s.hoHeard k true).hoFirst k 3 m = (true, u) →
       (u.hoFind k false m.xfer = none → exec (.refuse k m) s = .next (u.hoDrop k)) ∧
       (∀ h, u.hoFind k false m.xfer = some h → u.rget h.rec_ Rf.state = 2 → exec (.refuse k m) s = .next ((u.hoMod h.rec_ fun h => { h with refused := some m.arg }).err (P.handover k) E.handover_REFUSED)) ∧
       (∀ h, u.hoFind k false m.xfer = some h → u.rget h.rec_ Rf.state = 6 → m.arg = 4 → exec (.refuse k m) s = .next (u.endItem h.rec_ 0x12 4 true)))) ∧
  -- doneMsg
  (∀ (k : Fin 8) (m : HoMsg) (s u : State),
     ((s.sessUp k true = false ∨ m.ver ≠ s.sessVer k true) → exec (.doneMsg k m) s = .next (s.hoDrop k)) ∧
     (s.sessUp k true = true → m.ver = s.sessVer k true → (s.hoHeard k true).hoFirst k 5 m = (false, u) → exec (.doneMsg k m) s = .next (u.inc (P.handover k) F.HO_CNT_DROP_COUNT)) ∧
     (s.sessUp k true = true → m.ver = s.sessVer k true → (s.hoHeard k true).hoFirst k 5 m = (true, u) →
       (u.hoFind k false m.xfer = none → exec (.doneMsg k m) s = .next (u.hoDrop k)) ∧
       (∀ h, u.hoFind k false m.xfer = some h → h.del = true → exec (.doneMsg k m) s = .next (u.freeItem h.rec_)) ∧
       (∀ h, u.hoFind k false m.xfer = some h → h.del = false → (u.rget h.rec_ Rf.state = 4 ∨ u.rget h.rec_ Rf.state = 6) → exec (.doneMsg k m) s = .next ((u.inc (P.handover k) ⟨R.HO_CNT_OUT, 0, 16⟩).endItem h.rec_ 0x10 m.xfer false)))) ∧
  -- resolve
  (∀ (k : Fin 8) (m : HoMsg) (s u : State),
     ((s.sessUp k true = false ∨ m.ver ≠ s.sessVer k true) → exec (.resolve k m) s = .next (s.hoDrop k)) ∧
     (s.sessUp k true = true → m.ver = s.sessVer k true → m.ver ≠ 2 → (s.hoHeard k true).hoFirst k 7 m = (false, u) → exec (.resolve k m) s = .next (u.inc (P.handover k) F.HO_CNT_DROP_COUNT)) ∧
     (s.sessUp k true = true → m.ver = s.sessVer k true → m.ver ≠ 2 → (s.hoHeard k true).hoFirst k 7 m = (true, u) →
       (u.hoFind k false m.xfer = none → exec (.resolve k m) s = .next (u.hoDrop k)) ∧
       (∀ h, u.hoFind k false m.xfer = some h → u.rget h.rec_ Rf.state = 6 → m.arg = 1 → exec (.resolve k m) s = .next (u.endItem h.rec_ 0x16 m.xfer false)) ∧
       (∀ h, u.hoFind k false m.xfer = some h → u.rget h.rec_ Rf.state = 6 → m.arg ≠ 1 → exec (.resolve k m) s = .next (u.endItem h.rec_ 0x17 m.xfer true)))) ∧
  -- heldCommitTimeout
  (∀ (i : Fin 262144) (t : Nat) (s : State), s.isItem i = true → (s.hoGet i).down = true → s.rget i Rf.state = 5 → s.tBin (s.hoGet i) = some t →
     (t + s.commitTmo (s.hoGet i).page ≤ s.now → exec (.heldCommitTimeout i) s = .next ((s.hoMod i fun h => { h with tB := some t }).enterDoubt i)) ∧
     (s.now < t + s.commitTmo (s.hoGet i).page → exec (.heldCommitTimeout i) s = .next s)) ∧
  -- doubtTmo
  (∀ (i : Fin 262144) (s : State), s.isItem i = true → s.rget i Rf.state = 6 →
     ((s.hoGet i).tB.getD 0 + s.doubtTmo (s.hoGet i).page ≤ s.now → (s.hoGet i).down = true → exec (.doubtTmo i) s = .next (s.absentItem i)) ∧
     ((s.hoGet i).tB.getD 0 + s.doubtTmo (s.hoGet i).page ≤ s.now → (s.hoGet i).down = false → exec (.doubtTmo i) s = .next (s.endItem i 0x18 (s.rget i It.xfer) true)) ∧
     (s.now < (s.hoGet i).tB.getD 0 + s.doubtTmo (s.hoGet i).page → exec (.doubtTmo i) s = .next s)) ∧
  -- commitTmo
  (∀ (i : Fin 262144) (s : State), s.isItem i = true → (s.hoGet i).down = false → s.rget i Rf.state = 4 →
     ((s.hoGet i).tB.getD 0 + s.commitTmo (s.hoGet i).page ≤ s.now → exec (.commitTmo i) s = .next (s.enterDoubt i)) ∧
     (s.now < (s.hoGet i).tB.getD 0 + s.commitTmo (s.hoGet i).page → exec (.commitTmo i) s = .next s)) ∧
  -- hoRetry
  (∀ (i : Fin 262144) (s : State), s.isItem i = true → (s.hoGet i).down = false →
     (s.now < (s.hoGet i).sent + s.hoRetry (s.hoGet i).page → exec (.hoRetry i) s = .next s) ∧
     ((s.hoGet i).sent + s.hoRetry (s.hoGet i).page ≤ s.now → (s.hoGet i).del = true → exec (.hoRetry i) s = .next (s.sendWithdraw i)) ∧
     ((s.hoGet i).sent + s.hoRetry (s.hoGet i).page ≤ s.now → (s.hoGet i).del = false → s.rget i Rf.state = 2 → (s.hoGet i).refused = none → exec (.hoRetry i) s = .next (s.sendOffer i)) ∧
     ((s.hoGet i).sent + s.hoRetry (s.hoGet i).page ≤ s.now → (s.hoGet i).del = false → (s.rget i Rf.state = 4 ∨ s.rget i Rf.state = 6) → (s.hoGet i).committed = true → exec (.hoRetry i) s = .next (s.sendCommit i)))

/-- The compare pass, firing, windows, corrections and the release of the event log (R71, R252, R254, R255, R256, R257, R260). -/
def Obligations.CompareAndFire : Prop :=
  -- compareInstant
  (∀ (a : Fin 64) (s v w : State), v = ((s.setLane a fun l => { l with ck := some (s.instants a).1 }).setb (P.lane a) F.LANE_STATUS_AXIS_TIMED (s.instants a).2.2) →
     w = (if (v.track.rb.map (·.built)).getD true then v.swapLane a else v) →
     (∀ i, w.badRecs = [i] → w.recordUe = (((w.reportRec i 0x19 0).freeRec i).wr (P.track + R.TRACK_UE_ADDR) (2 ^ 31 + i)).err P.track E.track_REC_UE) ∧
     (w.badRecs = [] → w.recordUe = w) ∧
     ((s.laneOn a = false ∨ (∃ c, (s.lane a).ck = some c ∧ (s.instants a).1 ≤ c)) → exec (.compareInstant a) s = .next s) ∧
     (s.laneOn a = true → (∀ c, (s.lane a).ck = some c → c < (s.instants a).1) → (w.flag P.track F.TRACK_CTRL_EN = false ∨ w.stage ≠ 3) → exec (.compareInstant a) s = .next w) ∧
     (s.laneOn a = true → (∀ c, (s.lane a).ck = some c → c < (s.instants a).1) → w.flag P.track F.TRACK_CTRL_EN = true → w.stage = 3 →
       exec (.compareInstant a) s = .next (
         w.recordUe.comparePass ⟨a, (s.instants a).1, (s.instants a).2.1, w.reach, w.look a ((s.instants a).2.1 - (s.instants a).1)⟩))) ∧
  -- eventFire
  (∀ (i : Fin 262144) (s v : State), v = s.setTrack (fun k => { k with com := k.com.filter (·.1 ≠ i.val) }) →
     ((s.isEvent i = false ∨ (s.now : Int) < s.evTick i) → exec (.eventFire i) s = .next s) ∧
     (s.isEvent i = true → s.evTick i ≤ s.now → s.rget i Rf.state = 3 → (s.track.com.any fun c => c.1 == i.val && c.2.2) = true → exec (.eventFire i) s = .next (v.makeMissed i 0 (s.evTick i).toNat)) ∧
     (s.isEvent i = true → s.evTick i ≤ s.now → s.rget i Rf.state = 3 → (s.track.com.any fun c => c.1 == i.val && c.2.2) = false → s.flag P.time (F.TIME_ALIGN_ALIGNED (slateOf (s.evLane i))) = false →
       exec (.eventFire i) s = .next (v.makeInhibited i (s.evTick i).toNat)) ∧
     (s.isEvent i = true → s.evTick i ≤ s.now → s.rget i Rf.state = 3 → (s.track.com.any fun c => c.1 == i.val && c.2.2) = false → s.flag P.time (F.TIME_ALIGN_ALIGNED (slateOf (s.evLane i))) = true →
       exec (.eventFire i) s = .next (
         let u := ((v.rset i Rf.state 8).setFin i (s.evTick i).toNat).inc (P.lane (s.evLane i)) F.LANE_CNT_FIRED_FIRED
         match u.track.susp.find? fun x => x.1 == i.val with
         | some x => (u.setTrack fun k => { k with susp := k.susp.filter (·.1 ≠ i.val) }).makeSuspect i x.2 (s.evTick i).toNat
         | none => u.reportRecAt (s.evTick i).toNat i (if u.rget i Ev.kind = 4 then 0xB else 1) 0)) ∧
     (s.isEvent i = true → s.evTick i ≤ s.now → s.rget i Rf.state = 2 → s.track.inh.contains i.val = true → exec (.eventFire i) s = .next (s.makeInhibited i (s.evTick i).toNat)) ∧
     (s.isEvent i = true → s.evTick i ≤ s.now → s.rget i Rf.state = 2 → s.track.inh.contains i.val = false → s.runOf i = .skip →
       exec (.eventFire i) s = .next ((s.rset i Rf.state 12).reportRecAt (s.evTick i).toNat i 5 0))) ∧
  -- windowOpen
  (∀ (i : Fin 262144) (s : State),
     (s.isEvent i = true → s.isWindow i = true → s.rget i Rf.state = 2 → (s.track.wins.any fun x => x.1 == i.val) = true → s.evTick i ≤ s.now → exec (.windowOpen i) s = .next (s.rset i Rf.state 4)) ∧
     ((s.isEvent i = false ∨ s.isWindow i = false ∨ s.rget i Rf.state ≠ 2 ∨ (s.now : Int) < s.evTick i) → exec (.windowOpen i) s = .next s)) ∧
  -- notSeen
  (∀ (i : Fin 262144) (w : Nat × Nat) (s : State), (s.track.wins.find? fun w => w.1 == i.val) = some w →
     ((s.isEvent i = false ∨ s.final i = true ∨ s.runOf i ≠ .go ∨ s.now < w.2 + 625) → exec (.notSeen i) s = .next s) ∧
     (s.isEvent i = true → s.final i = false → s.runOf i = .go → w.2 + 625 ≤ s.now → exec (.notSeen i) s = .next (
       let u := (((s.rset i Rf.state 15).setFin i (w.2 + 625)).err (P.lane (s.evLane i)) E.lane_NOT_SEEN).reportRecAt (w.2 + 625) i 8 0
       match u.evItem i with
       | some j => if u.rget j Rf.state = 6 ∧ (u.hoGet j).arr = some i.val then u.absentItem j else u
       | none => u))) ∧
  -- correctionApply
  (∀ (s : State), (s.corrections = [] → exec .correctionApply s = .next s) ∧
     (∀ c r u, s.corrections = c :: r → u = s.setCorrections r → exec .correctionApply s = .next
       (forEach (u.usedRecs.filter fun i => u.isEvent i && (u.trunksOf 1 c.input).contains (u.evTrunk i)) u fun i t => t.correctRec c i))) ∧
  -- eventLogRelease
  (∀ (s : State) (due : EvHeld → Bool),
     due = (fun e => decide (e.1 + 625 ≤ s.now) || (match s.evlog.lastKey with | some k => keyLt (evKey e) k | none => false)) →
     exec .eventLogRelease s = .next (forEach ((s.evlog.held.filter due).foldl (fun m e => insertHeld e m) [])
       (s.setEvlog fun v => { v with held := v.held.filter (fun e => !due e), released := [] }) fun e t => t.releaseEvent e))

/-- An edge is matched to a window in reach of it, and to none that lies farther than another (R258). -/
def Obligations.NearestWindow : Prop :=
  (∀ (s : State) (t : Nat) (l : List Nat) (dist : Nat → Int), (∀ r, dist r = wrap64 (s.xT (s.evTrunk r) t - s.xfire r)) →
     (∀ r p, s.nearestWindow t l = some (r, p) → r ∈ l ∧ p = dist r ∧ (p.natAbs : Int) ≤ s.halfWidth r ∧ ∀ q ∈ l, ((dist q).natAbs : Int) ≤ s.halfWidth q → p.natAbs ≤ (dist q).natAbs) ∧
     (s.nearestWindow t l = none ↔ ∀ q ∈ l, s.halfWidth q < ((dist q).natAbs : Int)))

/-- Field points: filtered inputs, measured voltages, stuck inputs; outputs, shorts, retries, open load, the level at the land (R279, R281, R282, R283, R286, R287, R289, R294, R331). Rests on log 9. -/
def Obligations.FieldPoints : Prop :=
  -- fieldInputChange
  (∀ (i : Fin 8) (j : Fin 16) (lvl : Bool) (t0 acc : Nat) (s u : State), u = (s.setPt i j fun f => { f with land := lvl }) → acc = t0 + 5 * fioFilt (s.cfgAt i j t0) →
     ((s.pt i j).mode ≠ 1 → exec (.fieldInputChange i j lvl t0) s = .next u) ∧
     ((s.pt i j).mode = 1 → (s.pt i j).fresh = true → t0 ≤ (s.pt i j).chg → exec (.fieldInputChange i j lvl t0) s = .next (u.setPt i j fun f => { f with lvl := lvl, fresh := false })) ∧
     ((s.pt i j).mode = 1 → (s.pt i j).fresh = false → (fioPulsed (s.cfgAt i j t0) = true ∨ (s.pt i j).lvl = lvl ∨ s.stick i < acc) → exec (.fieldInputChange i j lvl t0) s = .next u) ∧
     ((s.pt i j).mode = 1 → (s.pt i j).fresh = false → fioPulsed (s.cfgAt i j t0) = false → (s.pt i j).lvl ≠ lvl → acc ≤ s.stick i → exec (.fieldInputChange i j lvl t0) s = .next
       (((u.setPt i j fun f => { f with lvl := lvl, chg := acc, stuck := false, pulseRun := 0 }).setLink i fun l => { l with fieldPend := true }).pushEvent i j lvl acc))) ∧
  -- pulseWindow
  (∀ (i : Fin 8) (levels : BitVec 16) (s : State),
     (s.pulseRead i = none → exec (.pulseWindow i levels) s = .next s) ∧
     (∀ t, s.pulseRead i = some t → t ≤ (s.slate i).pulseAt → exec (.pulseWindow i levels) s = .next s) ∧
     (∀ t, s.pulseRead i = some t → (s.slate i).pulseAt < t → exec (.pulseWindow i levels) s = .next
       (forEach (List.finRange 16) (s.setSlate i fun x => { x with pulseAt := t }) fun j u => u.pulsePoint i j (levels.getLsbD j) t))) ∧
  -- fieldVoltageMeasure
  (∀ (i : Fin 8) (j : Fin 16) (mv v : Int) (s u : State), v = clampI (-32768) 32767 mv → u = s.setf (P.fio i) ⟨R.FIO_VIN (j / 2), 16 * (j % 2), 16⟩ (ofSigned 16 v) →
     (u.flag (P.fio i) (F.FIO_CFG_RC_EN j) = false ∨ (toSigned 16 (u.fld (P.fio i) F.FIO_RANGE_LO) ≤ v ∧ v ≤ toSigned 16 (u.fld (P.fio i) F.FIO_RANGE_HI)) →
       exec (.fieldVoltageMeasure i j mv) s = .next (u.setPt i j fun f => { f with rangeRun := 0 })) ∧
     (u.flag (P.fio i) (F.FIO_CFG_RC_EN j) = true → ¬ (toSigned 16 (u.fld (P.fio i) F.FIO_RANGE_LO) ≤ v ∧ v ≤ toSigned 16 (u.fld (P.fio i) F.FIO_RANGE_HI)) →
       max 1 (u.fld (P.fio i) F.FIO_RANGE_CNT_RCNT) ≤ min 15 ((u.pt i j).rangeRun + 1) → exec (.fieldVoltageMeasure i j mv) s = .next
         (((u.setPt i j fun f => { f with rangeRun := min 15 (f.rangeRun + 1) }).setbit (P.fio i) R.FIO_RANGE_STAT j true).err (P.fio i) E.fio_RANGE))) ∧
  -- stuck
  (∀ (i : Fin 8) (j : Fin 16) (s : State),
     (s.fld (P.fio i) (F.FIO_TMO_TMO j) ≠ 0 → (s.pt i j).mode = 1 → (s.pt i j).lvl = s.flag (P.fio i) (F.FIO_TMO_LVL j) → (s.pt i j).stuck = false →
       (s.pt i j).chg + 312500 * s.fld (P.fio i) (F.FIO_TMO_TMO j) ≤ s.stick i → exec (.stuck i j) s = .next
         (((s.setPt i j fun f => { f with stuck := true }).setbit (P.fio i) R.FIO_DIAG_B (16 + j.val) true).err (P.fio i) E.fio_STUCK)) ∧
     ((s.fld (P.fio i) (F.FIO_TMO_TMO j) = 0 ∨ (s.pt i j).mode ≠ 1 ∨ s.stick i < (s.pt i j).chg + 312500 * s.fld (P.fio i) (F.FIO_TMO_TMO j)) → exec (.stuck i j) s = .next s)) ∧
  -- fioCfgWrite
  (∀ (i : Fin 8) (j : Fin 16) (v : Word) (land : Bool) (s : State),
     (bits (s.slate i).claim j 1 = 1 → v.toNat ≠ (s.slate i).claimCfg[j] → exec (.fioCfgWrite i j v land) s = .next (s.err (P.fio i) E.fio_CFG_LOCK)) ∧
     (bits (s.slate i).claim j 1 = 0 → Completes (.fioCfgWrite i j v land) s fun t => t.fioCfg i j = v.toNat &&& 0x7FFFFF7F ∧
       ((s.pt i j).mode = 2 → fioMode (v.toNat &&& 0x7FFFFF7F) ≠ 2 → (t.pt i j).mode = 2 ∧ (t.pt i j).discharge = true) ∧
       ((s.pt i j).mode ≠ 2 → (t.pt i j).mode = fioMode (v.toNat &&& 0x7FFFFF7F)))) ∧
  -- short
  (∀ (i : Fin 8) (j : Fin 16) (s : State),
     (s.outLevel i j = false → exec (.short i j) s = .next s) ∧
     (s.outLevel i j = true → (s.pt i j).retries < s.fld (P.fio i) (F.FIO_CFG_RETRY j) → exec (.short i j) s = .next (s.setPt i j fun f => { f with cut := true, cutAt := s.stick i })) ∧
     (s.outLevel i j = true → s.fld (P.fio i) (F.FIO_CFG_RETRY j) ≤ (s.pt i j).retries → exec (.short i j) s = .next ((s.setbit (P.fio i) R.FIO_DIAG_A j true).err (P.fio i) E.fio_SHORT))) ∧
  -- shortRetry
  (∀ (i : Fin 8) (j : Fin 16) (s : State),
     ((s.pt i j).cut = true → (s.pt i j).cutAt + 3125000 ≤ s.stick i → exec (.shortRetry i j) s = .next (s.setPt i j fun f => { f with cut := false, retries := f.retries + 1 })) ∧
     (s.stick i < (s.pt i j).cutAt + 3125000 → exec (.shortRetry i j) s = .next s)) ∧
  -- shortClear
  (∀ (i : Fin 8) (mask : BitVec 16) (s : State), exec (.shortClear i mask) s = .next (forEach (List.finRange 16) s fun j t =>
     if bits mask.toNat j 1 = 1 ∧ t.shortBit i j then (t.setbit (P.fio i) R.FIO_DIAG_A j false).setPt i j fun f => { f with retries := 0 } else t)) ∧
  -- openLoad
  (∀ (i : Fin 8) (j : Fin 16) (s : State),
     ((s.pt i j).mode = 2 → s.outLevel i j = false → s.flag (P.fio i) (F.FIO_CFG_OL_EN j) = true → exec (.openLoad i j) s = .next ((s.setbit (P.fio i) R.FIO_DIAG_A (16 + j.val) true).err (P.fio i) E.fio_OPEN)) ∧
     (((s.pt i j).mode ≠ 2 ∨ s.outLevel i j = true ∨ s.flag (P.fio i) (F.FIO_CFG_OL_EN j) = false) → exec (.openLoad i j) s = .next s)) ∧
  -- readbackMismatch
  (∀ (i : Fin 8) (j : Fin 16) (land : Bool) (s : State),
     ((s.pt i j).mode ≠ 2 → exec (.readbackMismatch i j land) s = .next s) ∧
     ((s.pt i j).mode = 2 → land = s.fioOut i j → exec (.readbackMismatch i j land) s = .next (s.setPt i j fun f => { f with land := land })) ∧
     ((s.pt i j).mode = 2 → land ≠ s.fioOut i j → (s.pt i j).cmdAt + 62500 ≤ s.stick i → (s.pt i j).cut = false → s.fieldUv i = false →
       exec (.readbackMismatch i j land) s = .next (((s.setPt i j fun f => { f with land := land }).setbit (P.fio i) R.FIO_DIAG_B j true).err (P.fio i) E.fio_MISMATCH))) ∧
  -- vfieldUv
  (∀ (i : Fin 8) (s : State),
     exec (.vfieldUv i true) s = .next ((s.setb (P.fio i) F.FIO_STATUS_VFIELD_UV true).err (P.fio i) E.fio_VFIELD_UV) ∧
     exec (.vfieldUv i false) s = .next (s.setb (P.fio i) F.FIO_STATUS_VFIELD_UV false)) ∧
  -- fioOutWrite
  (∀ (i : Fin 8) (data mask : BitVec 16) (s : State), exec (.fioOutWrite i data mask) s = .next (forEach (List.finRange 16) s fun j t =>
     if bits mask.toNat j 1 = 1 ∧ (t.pt i j).trAt ≠ t.stick i + 1 then
       if t.fioOut i j = decide (bits data.toNat j 1 = 1) then t else (t.setbit (P.fio i) R.FIO_OUT j (bits data.toNat j 1 = 1)).setPt i j fun f =>
         { f with cmdAt := t.stick i, cut := f.cut && decide (bits data.toNat j 1 = 1), retries := 0 }
     else t)) ∧
  -- outputDischarged
  (∀ (i : Fin 8) (j : Fin 16) (land : Bool) (s : State),
     ((s.pt i j).discharge = false → exec (.outputDischarged i j land) s = .next s) ∧
     ((s.pt i j).discharge = true → Completes (.outputDischarged i j land) s fun t => (t.pt i j).discharge = false ∧ (t.pt i j).mode = fioMode (s.fioCfg i j))) ∧
  -- law
  (∀ (i : Fin 8) (j : Fin 16) (s : State),
     (((s.pt i j).mode ≠ 2 ∨ s.fieldUv i = true ∨ s.shortBit i j = true ∨ (s.pt i j).cut = true ∨ (s.pt i j).discharge = true) → s.outLevel i j = false) ∧
     ((s.pt i j).mode = 2 → s.fieldUv i = false → s.shortBit i j = false → (s.pt i j).cut = false → (s.pt i j).discharge = false →
       (s.testBit i j = false → (s.slate i).safe = true → s.outLevel i j = s.flag (P.fio i) (F.FIO_CFG_SAFE_VAL j)) ∧
       (s.testBit i j = false → (s.slate i).safe = false → s.outLevel i j = s.fioOut i j) ∧
       (s.testBit i j = true → s.outLevel i j = (!(s.slate i).sb.up && s.flag (P.fio i) (F.FIO_CFG_SAFE_VAL j)))))

/-- Schedule channels: mapping, GO, CANCEL, the send ahead of the tick, the transition at the Slate, DONE (R290, R291, R292, R293, R390). -/
def Obligations.ScheduledTransitions : Prop :=
  -- fschMapWrite
  (∀ (i : Fin 8) (c : Fin 16) (v : BitVec 5) (s : State),
     (s.locked = true → exec (.fschMapWrite i c v) s = .next (s.err P.dom E.dom_LOCKED_WR)) ∧
     (∀ d : Fin 16, s.locked = false → bits v.toNat 4 1 = 1 → d ≠ c → bits (s.rd (P.fsch i + R.FSCH_MAP d)) 0 5 = v.toNat % 32 → exec (.fschMapWrite i c v) s = .next (s.err (P.fsch i) E.fsch_MAP_OVL)) ∧
     (s.locked = false → (bits v.toNat 4 1 = 0 ∨ ∀ d : Fin 16, d ≠ c → bits (s.rd (P.fsch i + R.FSCH_MAP d)) 0 5 ≠ v.toNat % 32) → exec (.fschMapWrite i c v) s = .next
       ((s.wr (P.fsch i + R.FSCH_MAP c) (v.toNat % 32)).forward i (0x020 + 4 * c.val) (v.toNat % 32) 0xFFFFFFFF))) ∧
  -- fschGo
  (∀ (i : Fin 8) (c : Fin 16) (level : Bool) (s u : State) (tau w : Nat), tau = s.rd64 (P.fsch i) (R.FSCH_TICK_LO c) → w = bits (s.rd (P.fsch i + R.FSCH_WIDTH c)) 0 31 →
     u = s.setb (P.fsch i) (F.FSCH_CTRL_LEVEL c) level →
     (u.fschArmed i c = true → exec (.fschGo i c level) s = .next (u.setb (P.fsch i) (F.FSCH_STAT_REFUSED c) true)) ∧
     (u.fschArmed i c = false → tau ≤ s.now → exec (.fschGo i c level) s = .next (u.setb (P.fsch i) (F.FSCH_STAT_LATE c) true)) ∧
     (u.fschArmed i c = false → s.now < tau → exec (.fschGo i c level) s = .next
       ((u.setb (P.fsch i) (F.FSCH_CTRL_GO c) true).setFsch i c fun _ => { tau := tau, width := w, level := level, handled := 0, last := tau + w }))) ∧
  -- fschCancel
  (∀ (i : Fin 8) (c : Fin 16) (s : State) (r : FschReq), r = s.fschReq i c →
     (s.fschArmed i c = false → exec (.fschCancel i c) s = .next s) ∧
     (s.fschArmed i c = true → r.handled = 0 → exec (.fschCancel i c) s = .next (s.setb (P.fsch i) (F.FSCH_CTRL_GO c) false)) ∧
     (s.fschArmed i c = true → r.handled ≠ 0 → r.handled < r.count → exec (.fschCancel i c) s = .next (s.setFsch i c fun r => { r with last := r.tick (r.handled - 1), handled := r.count }))) ∧
  -- fschSend
  (∀ (i : Fin 8) (c : Fin 16) (s : State) (r : FschReq), r = s.fschReq i c →
     ((s.fschArmed i c = false ∨ r.count ≤ r.handled ∨ s.now + s.reach < r.tick r.handled) → exec (.fschSend i c) s = .next s) ∧
     (s.fschArmed i c = true → r.handled < r.count → r.tick r.handled ≤ s.now + s.reach → s.inhibited F.TIME_INH_CFG_FIO = false → s.flag P.time (F.TIME_ALIGN_ALIGNED i) = true →
       exec (.fschSend i c) s = .next ((s.setFsch i c fun r => { r with handled := r.handled + 1 }).setLink i fun l =>
         { l with outq := l.outq ++ [.outSched (r.lvl r.handled) c (r.tick r.handled % 2 ^ 32)] })) ∧
     (s.fschArmed i c = true → r.handled < r.count → r.tick r.handled ≤ s.now + s.reach → s.inhibited F.TIME_INH_CFG_FIO = true →
       exec (.fschSend i c) s = .next ((((s.setFsch i c fun r => { r with handled := r.handled + 1 }).inc (P.fsch i) F.FSCH_INH_CNT_COUNT).setb (P.fsch i) (F.FSCH_STAT_INHIBIT c) true).err (P.fsch i) E.fsch_INHIBIT))) ∧
  -- scheduledTransition
  (∀ (i : Fin 8) (c : Fin 16) (s : State),
     ((s.pt i c).pend = [] → exec (.scheduledTransition i c) s = .next s) ∧
     (∀ e r, takeEarliest (s.pt i c).pend = some (e, r) → s.stick i < e.1 → exec (.scheduledTransition i c) s = .next s) ∧
     (∀ e r, takeEarliest (s.pt i c).pend = some (e, r) → e.1 ≤ s.stick i → exec (.scheduledTransition i c) s = .next ((s.setPt i c fun f => { f with pend := r }).applyTransition i c e.2))) ∧
  -- fschDone
  (∀ (i : Fin 8) (c : Fin 16) (s : State),
     (s.fschArmed i c = true → (s.fschReq i c).count ≤ (s.fschReq i c).handled → (s.fschReq i c).last ≤ s.now → exec (.fschDone i c) s = .next
       ((s.setb (P.fsch i) (F.FSCH_CTRL_GO c) false).setb (P.fsch i) (F.FSCH_STAT_DONE c) true)) ∧
     ((s.fschArmed i c = false ∨ (s.fschReq i c).handled < (s.fschReq i c).count ∨ s.now < (s.fschReq i c).last) → exec (.fschDone i c) s = .next s))

/-- The transition taken from a channel's pending list is an earliest one, and no other is lost (R291). -/
def Obligations.EarliestFirst : Prop :=
  (∀ (l r : List (Nat × Bool)) (e : Nat × Bool), takeEarliest l = some (e, r) → l.Perm (e :: r) ∧ ∀ f, f ∈ l → e.1 ≤ f.1)

/-- Descriptor rings, launches, stamps and received frames of the line network (R303, R305, R308, R309, R310, R312, R313, R314, R315). Rests on log 26, 27, 33. -/
def Obligations.NetworkFrames : Prop :=
  -- txDescriptorFetch
  (∀ (d : Fin 8) (h : HostTx) (s : State) (a : Nat), a = s.rd64 (P.netq d) R.NQ_TX_BASE_LO / 32 * 32 + 32 * s.rd (P.netq d + R.NQ_TX_HEAD) →
     ((s.flag (P.netq d) F.NQ_CTRL_TX_EN = false ∨ s.rd (P.netq d + R.NQ_TX_HEAD) = s.rd (P.netq d + R.NQ_TX_TAIL) % 2 ^ 10 ∨ bits s.net.stopT d 1 = 1) →
       exec (.txDescriptorFetch d h) s = .next s) ∧
     (∀ t, s.flag (P.netq d) F.NQ_CTRL_TX_EN = true → s.rd (P.netq d + R.NQ_TX_HEAD) ≠ s.rd (P.netq d + R.NQ_TX_TAIL) % 2 ^ 10 → bits s.net.stopT d 1 = 0 →
       s.nqHost d = false → s.memOwned d a 32 = true → s.softIn a 32 = [] → t = txDesc (s.load a 32) →
       (t.own = false → exec (.txDescriptorFetch d h) s = .next s) ∧
       (t.own = true → s.txBad d t = true → exec (.txDescriptorFetch d h) s = .next ((s.txAdvance d).txBack d a 5)) ∧
       (t.own = true → s.txBad d t = false → s.memOwned d t.addr t.len = true → s.softIn t.addr t.len = [] → exec (.txDescriptorFetch d h) s = .next ((s.txAdvance d).txGo d a t (bytesOf t.len (s.load t.addr t.len)))) ∧
       (t.own = true → s.txBad d t = false → s.memOwned d t.addr t.len = false → exec (.txDescriptorFetch d h) s = .next ((s.txAdvance d).txBack d a 5)))) ∧
  -- txTailWrite
  (∀ (d : Fin 8) (v : Word) (s u : State), u = s.wr (P.netq d + R.NQ_TX_TAIL) (v.toNat % 2 ^ 10) →
     (u.flag P.host F.HOST_STATUS_BME = true → exec (.txTailWrite d v) s = .next (u.setNet fun n => { n with stopT := setBits n.stopT d 1 0 })) ∧
     (u.flag P.host F.HOST_STATUS_BME = false → exec (.txTailWrite d v) s = .next u)) ∧
  -- rxTailWrite
  (∀ (d : Fin 8) (v : Word) (s u : State), u = s.wr (P.netq d + R.NQ_RX_TAIL) (v.toNat % 2 ^ 10) →
     (u.flag P.host F.HOST_STATUS_BME = true → exec (.rxTailWrite d v) s = .next (u.setNet fun n => { n with stopR := setBits n.stopR d 1 0 })) ∧
     (u.flag P.host F.HOST_STATUS_BME = false → exec (.rxTailWrite d v) s = .next u)) ∧
  -- launch
  (∀ (p : Fin 4) (s : State),
     ((s.port p).launch = [] → exec (.launch p) s = .next s) ∧
     (∀ l, firstLaunch (s.port p).launch = some l → s.launchDue p l = false → exec (.launch p) s = .next s) ∧
     (∀ l u, firstLaunch (s.port p).launch = some l → s.launchDue p l = true → u = (s.setPort p fun x => { x with launch := x.launch.erase l }) →
       (s.portUp p = false → exec (.launch p) s = .next ((u.launchErr p 6).txCopy l.frame.job 6)) ∧
       (s.portUp p = true → s.inhibited F.TIME_INH_CFG_LAUNCH = true → exec (.launch p) s = .next ((u.launchErr p 3).txCopy l.frame.job 3)) ∧
       (s.portUp p = true → s.inhibited F.TIME_INH_CFG_LAUNCH = false → (s.port p).tx.isSome = true → exec (.launch p) s = .next s) ∧
       (s.portUp p = true → s.inhibited F.TIME_INH_CFG_LAUNCH = false → (s.port p).tx = none → l.late = false → 64 * (s.now : Int) ≤ s.launchStart p l.tick + 64 →
         exec (.launch p) s = .next (u.startTx p { l.frame with late := false } 9)))) ∧
  -- frameStart
  (∀ (p : Fin 4) (s : State),
     ((s.portUp p = false ∨ (s.port p).tx.isSome = true) → exec (.frameStart p) s = .next s) ∧
     (∀ l, s.portUp p = true → (s.port p).tx = none → firstLaunch (s.port p).launch = some l → s.launchDue p l = true → exec (.frameStart p) s = .next (s.launchGo p l)) ∧
     (∀ q f r, s.portUp p = true → (s.port p).tx = none → (s.port p).launch = [] → (s.credits p).nextQueue p = some q → ((s.credits p).port p).q[q] = f :: r →
       exec (.frameStart p) s = .next (((s.credits p).setPort p fun x => { x with q := x.q.set q r, served := q }).startTx p f q))) ∧
  -- frameSent
  (∀ (p : Fin 4) (sfd : Int) (f : TxFrame) (q t : Nat) (s w u : State), (s.port p).tx = some (f, q) → t = (sfd + toSigned 16 (s.rd (P.net p + R.NET_DLY_TX))).toNat →
     w = (((s.credits p).setPort p fun x => { x with tx := none }).inc (P.net p) ⟨R.NET_TX_FRAMES, 0, 31⟩).txCopy f.job (if f.late then 1 else 0) → u = w.bufEcc p f.soft →
     (f.soft = none → u = w) ∧
     (f.soft = some false → u = (w.inc P.switch ⟨R.SW_BUF_CE, 0, 16⟩).err P.switch E.switch_BUF_CE) ∧
     (f.soft = some true → u = ((w.inc (P.net p) ⟨R.NET_STOMP, 0, 16⟩).err (P.net p) E.net_STOMP).err P.switch E.switch_BUF_UE) ∧
     (f.stamp = false → exec (.frameSent p sfd) s = .next u) ∧
     (f.stamp = true → 16 ≤ (u.port p).stamps.length → exec (.frameSent p sfd) s = .next ((u.inc (P.net p) ⟨R.NET_TSQ_OVF, 0, 16⟩).err (P.net p) E.net_TSQ_OVF)) ∧
     (f.stamp = true → (u.port p).stamps.length < 16 → exec (.frameSent p sfd) s = .next ((u.setPort p fun x => { x with stamps := x.stamps ++ [(f.fid, t)] }).showTsq p))) ∧
  -- netTsqPop
  (∀ (p : Fin 4) (s : State), exec (.netTsqPop p) s = .next ((s.setPort p fun x => { x with stamps := x.stamps.tail }).showTsq p)) ∧
  -- frameReceive
  (∀ (p : Fin 4) (rx : NetRx) (s u : State), u = s.inc (P.net p) ⟨R.NET_RX_FRAMES, 0, 31⟩ →
     (s.portUp p = false → exec (.frameReceive p rx) s = .next s) ∧
     (s.portUp p = true → u.maxFrame < rx.bytes.length + 4 → exec (.frameReceive p rx) s = .next (u.inc (P.net p) ⟨R.NET_RX_BAD, 0, 16⟩)) ∧
     (s.portUp p = true → rx.bytes.length + 4 ≤ u.maxFrame → exec (.frameReceive p rx) s = .next (u.classify p rx))) ∧
  -- law
  (∀ (a b c : Nat), a ≤ 6 → b ≤ 6 → c ≤ 6 → txWorst a b = txWorst b a ∧ txWorst (txWorst a b) c = txWorst a (txWorst b c) ∧
     txRank (txWorst a b) = max (txRank a) (txRank b))

/-- Ring ports and the switch: test frames, an open ring, links going up and down, mode search, rate and reserve limits (R301, R302, R305, R308, R318, R390). -/
def Obligations.NetworkPorts : Prop :=
  -- ringTestSend
  (∀ (r : Fin 2) (s : State),
     (s.ringMgr r = false → exec (.ringTestSend r) s = .next s) ∧
     (s.ringMgr r = true → (s.net.rings[r].got[0] = false ∨ s.net.rings[r].got[1] = false) → s.portUp (ringPort r 0) = false → s.portUp (ringPort r 1) = false →
       exec (.ringTestSend r) s = .next (s.setRing r fun x => { x with got := Vector.replicate 2 false, run := 0 }))) ∧
  -- ringOpen
  (∀ (r : Fin 2) (s : State),
     ((s.ringMgr r = false ∨ s.now < s.net.rings[r].last + 3 * s.ringTest) → exec (.ringOpen r) s = .next s) ∧
     (s.ringMgr r = true → s.net.rings[r].last + 3 * s.ringTest ≤ s.now → bits (s.rd (P.switch + R.SW_RING_STATUS)) (8 + r) 1 = 0 → exec (.ringOpen r) s = .next
       (((((s.setbit P.switch R.SW_RING_STATUS r false).setbit P.switch R.SW_RING_STATUS (8 + r) true).setRing r fun x => { x with run := 0 }).inc P.switch ⟨R.SW_RING_OPEN_CNT, 8 * r.val, 8⟩).err
         P.switch E.switch_RING_OPEN))) ∧
  -- portLinkUp
  (∀ (p : Fin 4) (s : State),
     (s.flag (P.net p) F.NET_CFG_EN = true → s.portUp p = false → exec (.portLinkUp p) s = .next
       ((((s.setf (P.net p) F.NET_STATUS_MODE_NOW (s.portMode p)).setb (P.net p) F.NET_STATUS_LOCK true).setb (P.net p) F.NET_STATUS_HI_BER false).setb (P.net p) F.NET_STATUS_LINK_UP true)) ∧
     ((s.flag (P.net p) F.NET_CFG_EN = false ∨ s.portUp p = true) → exec (.portLinkUp p) s = .next s)) ∧
  -- portLinkDown
  (∀ (p : Fin 4) (hiBer : Bool) (s : State),
     (s.portUp p = false → exec (.portLinkDown p hiBer) s = .next s) ∧
     (s.portUp p = true → exec (.portLinkDown p hiBer) s = .next (((s.portDown p).setb (P.net p) F.NET_STATUS_HI_BER hiBer).setb (P.net p) F.NET_STATUS_LOCK hiBer)) ∧
     (∀ u, s.portUp p = true → s.ringMgr (portRing p) = false → (s.port p).q = Vector.replicate 9 [] → (s.port p).tx = none →
       u = (((s.setb (P.net p) F.NET_STATUS_LINK_UP false).inc (P.net p) ⟨R.NET_LINK_DOWN_CNT, 0, 16⟩).err (P.net p) E.net_LINK_DOWN).setPort p (fun x => { x with q := Vector.replicate 9 [], tx := none, trySince := s.now }) →
       u.ringMgr (portRing p) = false → exec (.portLinkDown p hiBer) s = .next ((u.setb (P.net p) F.NET_STATUS_HI_BER hiBer).setb (P.net p) F.NET_STATUS_LOCK hiBer))) ∧
  -- autoModeSwitch
  (∀ (p : Fin 4) (s : State),
     (s.fld (P.net p) F.NET_CFG_MODE = 3 → s.flag (P.net p) F.NET_CFG_EN = true → s.portUp p = false → (s.port p).trySince + 62500000 ≤ s.now → exec (.autoModeSwitch p) s = .next
       (s.setPort p fun x => { x with tryMode := if x.tryMode = 0 then 2 else 0, trySince := s.now })) ∧
     ((s.fld (P.net p) F.NET_CFG_MODE ≠ 3 ∨ s.portUp p = true ∨ s.now < (s.port p).trySince + 62500000) → exec (.autoModeSwitch p) s = .next s)) ∧
  -- netCfgWrite
  (∀ (p : Fin 4) (v : Word) (s : State) (old new : Nat), old = s.rd (P.net p + R.NET_CFG) → new = v.toNat &&& 0x30F →
     ((old ^^^ new) &&& 0x307 = 0 → new % 2 = 1 → exec (.netCfgWrite p v) s = .next (s.wr (P.net p + R.NET_CFG) new)) ∧
     ((old ^^^ new) &&& 0x306 ≠ 0 → (old ^^^ new) &&& 0x307 ≠ 0 → exec (.netCfgWrite p v) s = .next
       (((s.portDown p).wr (P.net p + R.NET_CFG) new).setPort p fun x => { x with tryMode := 0, trySince := (s.portDown p).now }))) ∧
  -- netCbsWrite
  (∀ (p : Fin 4) (q : Fin 9) (v : Word) (s : State) (sum : Nat), s.portUp p = true →
     sum = ((List.finRange 9).map fun i => if i = q then v.toNat % 2 ^ 14 else bits (s.rd (P.net p + R.NET_CBS i)) 0 14).foldl (· + ·) 0 →
     (3 * s.portRate p < 4 * sum → exec (.netCbsWrite p q v) s = .next (s.err (P.net p) E.net_CBS_REJ)) ∧
     (4 * sum ≤ 3 * s.portRate p → exec (.netCbsWrite p q v) s = .next (s.wr (P.net p + R.NET_CBS q) (v.toNat % 2 ^ 14)))) ∧
  -- swBufRsvWrite
  (∀ (q : Fin 9) (v : Word) (s : State) (sum : Nat), sum = ((List.finRange 9).map fun i => if i = q then v.toNat % 2 ^ 13 else s.rsv i).foldl (· + ·) 0 →
     (s.locked = true → exec (.swBufRsvWrite q v) s = .next (s.err P.dom E.dom_LOCKED_WR)) ∧
     (s.locked = false → 8192 < 4 * sum → exec (.swBufRsvWrite q v) s = .next (s.err P.switch E.switch_RSV_REJ)) ∧
     (s.locked = false → 4 * sum ≤ 8192 → exec (.swBufRsvWrite q v) s = .next (s.wr (P.switch + R.SW_BUF_RSV q) (v.toNat % 2 ^ 13))))

/-- Safety channels, the cycle mark, exchanged records, deadlines, requests; safe communication messages (R324, R325, R326, R328, R332, R335, R337, R339, R343, R345, R346, R347, R349, R351). -/
def Obligations.SafetyCommands : Prop :=
  -- lockstepMismatch
  (∀ (s : State), (s.safeCfg.en = true → exec .lockstepMismatch s = .next
       (((s.setSafety fun x => { x with faultA := true, a := { x.a with run := false } }).err P.safe E.safe_CHA_FAULT).safeAct)) ∧
     (s.safeCfg.en = false → exec .lockstepMismatch s = .next s)) ∧
  -- flintSelfTestFail
  (∀ (s : State), exec .flintSelfTestFail s = .next
     (((s.setSafety fun x => { x with faultB := true, flintOk := false, b := { x.b with run := false } }).err P.safe E.safe_FLINT_FAULT).safeAct)) ∧
  -- markMissing
  (∀ (t : Nat) (s : State), s.safety.mark = some t →
     (s.safeCfg.en = true → t + 171875 ≤ s.now → exec .markMissing s = .next (((s.setSafety fun x => { x with clock := true }).err P.safe E.safe_CLOCK).safeAct)) ∧
     ((s.safeCfg.en = false ∨ s.now < t + 171875) → exec .markMissing s = .next s)) ∧
  -- sidebandFrameAtFlint
  (∀ (i : Fin 8) (rx : SbRx) (q : Nat) (last : Option Nat) (s u : State), q = field rx.bytes 0 1 % 16 →
     last = (if (s.slate i).sb.fLast + 31250 ≤ s.now then none else (s.slate i).sb.fSeq) →
     u = (s.setSlate i fun x => { x with sb := { x.sb with fSeq := some q, fLast := s.now, fUp := true, stat := field rx.bytes 1 1, pts := field rx.bytes 2 2, halls := field rx.bytes 4 8, backs := field rx.bytes 12 2 } }) →
     ((sbChecks rx 3 && seqCont last q) = false → exec (.sidebandFrameAtFlint i rx) s = .next s) ∧
     ((sbChecks rx 3 && seqCont last q) = true → (u.safeCfg.en = false ∨ u.safety.b.run = false) → exec (.sidebandFrameAtFlint i rx) s = .next u) ∧
     ((sbChecks rx 3 && seqCont last q) = true → u.safeCfg.en = true → u.safety.b.run = true → exec (.sidebandFrameAtFlint i rx) s = .next ((u.flintFilter i).seeTests i).safeAct)) ∧
  -- cycleMark
  (∀ (count : BitVec 16) (s : State),
     (∀ t, s.safety.mark = some t → s.now < t + 156250 → exec (.cycleMark count) s = .next s) ∧
     (∀ t, s.safety.mark = some t → t + 156250 ≤ s.now → s.safeCfg.en = false → exec (.cycleMark count) s = .next
       ((s.setSafety fun x => { x with mark := some s.now, cnt := count.toNat }).setf P.clk F.CLK_FLINT_CYC_CYC count.toNat)) ∧
     (∀ t u, s.safety.mark = some t → t + 156250 ≤ s.now → s.safeCfg.en = true → 19600 ≤ count.toNat → count.toNat ≤ 20400 →
       u = ((((s.setSafety fun x => { x with mark := some s.now, cnt := count.toNat }).setf P.clk F.CLK_FLINT_CYC_CYC count.toNat).latchDsc).channelCycle false).channelCycle true →
       exec (.cycleMark count) s = .next ((if u.safety.b.run then u.openTests else u).safeAct))) ∧
  -- recordA
  (∀ (s : State), (s.safeCfg.en = true → s.safety.a.run = true → s.safety.b.run = true → s.safety.b.waits = true → exec .recordA s = .next (s.compareBy true)) ∧
     ((s.safeCfg.en = false ∨ s.safety.a.run = false ∨ s.safety.b.run = false ∨ s.safety.b.waits = false) → exec .recordA s = .next s)) ∧
  -- recordB
  (∀ (s : State), (s.safeCfg.en = true → s.safety.a.run = true → s.safety.b.run = true → s.safety.a.waits = true → s.safety.b.waits = false → exec .recordB s = .next (s.compareBy false)) ∧
     ((s.safeCfg.en = false ∨ s.safety.a.waits = false ∨ s.safety.b.waits = true) → exec .recordB s = .next s)) ∧
  -- recordDeadline
  (∀ (f : Bool) (t : Nat) (s : State), s.safety.mark = some t → s.safeCfg.en = true → (s.chan f).run = true → (s.chan f).waits = true →
     (t + (if f then 93750 else 125000) ≤ s.now → exec (.recordDeadline f) s = .next (((s.setChan f fun c => { c with waits := false }).disagree 1 none).safeAct)) ∧
     (s.now < t + (if f then 93750 else 125000) → exec (.recordDeadline f) s = .next s)) ∧
  -- pairDiscrepancy
  (∀ (f : Bool) (n : Fin 64) (p : PairCfg) (t : Nat) (s : State), (s.safeCfg.pairs.find? fun p => p.pair == n.val) = some p → (s.pairOf f n).alone = some t →
     s.safeCfg.en = true → (s.chan f).run = true →
     ((s.pairOf f n).fault = false → t + p.disc * 312500 < s.now → exec (.pairDiscrepancy f n) s = .next (s.pairFault f n).safeAct) ∧
     (((s.pairOf f n).fault = true ∨ s.now ≤ t + p.disc * 312500) → exec (.pairDiscrepancy f n) s = .next s)) ∧
  -- ss1TExpiry
  (∀ (z : Fin 8) (s : State), (s.safeCfg.en = false → exec (.ss1TExpiry z) s = .next s) ∧
     (s.safeCfg.en = true → exec (.ss1TExpiry z) s = .next ((s.both fun f t =>
       if (t.chan f).run ∧ (t.zone f z).st = 1 ∧ (t.zone f z).ss1At + (t.zone f z).ss1T ≤ t.now then
         t.setZone f z fun y => y.leave t.now (if (t.zone f z).latch then 3 else 2) (t.zone f z).cause
       else t).safeAct))) ∧
  -- sbcDlyExpiry
  (∀ (k : Fin 128) (r : FuncCfg) (z : Fin 8) (hit : Nat → Bool) (s : State), s.safeCfg.funcs[k.val]? = some r → fin? 8 r.zone = some z → s.safeCfg.en = true → r.kind = 7 →
     hit = (fun n => s.safeCfg.outs.any fun o => o.brake && o.point == n && (o.axis == r.axis || (r.axis == 0xFF && s.safeCfg.zoneOf (n / 16) == some z))) →
     exec (.sbcDlyExpiry k) s = .next ((s.both fun f t =>
       if 2 ≤ (t.zone f z).st ∧ (t.zone f z).stoAt + r.p[0] * 312500 ≤ t.now then t.setChan f fun c => { c with brakes := c.brakes.filter fun n => !hit n } else t).safeAct)) ∧
  -- safeReqWrite
  (∀ (v : BitVec 16) (s : State), exec (.safeReqWrite v) s = .next (s.wr (P.safe + R.SAFE_REQ) v.toNat)) ∧
  -- safeBrkReqWrite
  (∀ (q : Fin 514) (hi : Bool) (v : Word) (s : State) (a m : Nat), a = P.safe + R.SAFE_BRK_REQ_LO + 4 * hi.toNat → m = s.brkMask q.val hi.toNat →
     exec (.safeBrkReqWrite q hi v) s = .next (s.wr a (without (s.rd a) m ||| (v.toNat &&& m)))) ∧
  -- dscDataSend
  (∀ (c : Fin 32) (k : ConnCfg) (s : State), s.connOf c = some k →
     (s.dscOn = true → ((s.dscOf c).run = true ∨ (s.dscOf c).conn = true) → (∀ t, (s.dscOf c).sentAt = some t → t + k.periodT ≤ s.now ∨ s.dscOut k ≠ (s.dscOf c).outs) →
       exec (.dscDataSend c) s = .next ((s.dscSend c k 2 (bytesOf 16 (s.dscOut k))).setDsc c fun x => { x with sentAt := some s.now, outs := s.dscOut k })) ∧
     ((s.dscOn = false ∨ ((s.dscOf c).run = false ∧ (s.dscOf c).conn = false)) → exec (.dscDataSend c) s = .next s)) ∧
  -- dscConnectSend
  (∀ (c : Fin 32) (k : ConnCfg) (s : State), s.connOf c = some k →
     (s.dscOn = true → (s.dscOf c).run = false → (∀ t, (s.dscOf c).connAt = some t → t + k.periodT ≤ s.now) → exec (.dscConnectSend c) s = .next
       (((s.dscSend c k 1 (bytesOf 16 (2 + 256 * 1))).setDsc c fun x => { x with connAt := some s.now, expd := false }).showDsc c)) ∧
     ((s.dscOn = false ∨ (s.dscOf c).run = true) → exec (.dscConnectSend c) s = .next s)) ∧
  -- dscReceive
  (∀ (p : Fin 4) (body : List Byte) (s : State),
     (s.dscOn = false → exec (.dscReceive p body) s = .next s) ∧
     (s.dscOn = true → s.dscNamed (body.take 32) = none → exec (.dscReceive p body) s = .next (s.err P.safe E.safe_DSC_REJ)) ∧
     (∀ c k, s.dscOn = true → body.length = 42 → s.dscNamed (body.take 32) = some c → s.connOf c = some k → (s.dscOf c).admits (body.take 32) = true → field (body.take 32) 1 1 % 2 ≠ k.side →
       k.seqd = true → field (body.take 32) 28 4 ≠ dscCrc k.id ((body.take 32).take 28) → exec (.dscReceive p body) s = .next ((s.inc P.safe (F.SAFE_DSC_CNT_A_FORMAT c)).err P.safe E.safe_DSC_REJ)) ∧
     (∀ c k, s.dscOn = true → body.length = 42 → s.dscNamed (body.take 32) = some c → s.connOf c = some k → (s.dscOf c).admits (body.take 32) = true → field (body.take 32) 1 1 % 2 ≠ k.side →
       field (body.take 32) 28 4 = dscCrc k.id ((body.take 32).take 28) → k.tpc = false → exec (.dscReceive p body) s = .next (s.dscSeq c k (body.take 32)))) ∧
  -- dscExpiry
  (∀ (c : Fin 32) (k : ConnCfg) (s : State), s.connOf c = some k → s.dscOn = true → (s.dscOf c).run = true →
     (((s.dscOf c).dataAt + k.teT ≤ s.now ∨ (s.dscOf c).echoAt + k.teT < s.now) → exec (.dscExpiry c) s = .next (s.setDsc c fun x => { x with due := true })) ∧
     (s.now < (s.dscOf c).dataAt + k.teT → s.now ≤ (s.dscOf c).echoAt + k.teT → exec (.dscExpiry c) s = .next s)) ∧
  -- tpcWindowExpiry
  (∀ (c : Fin 32) (k : ConnCfg) (h : Nat × Nat × List Byte) (s : State), s.connOf c = some k → (s.dscOf c).hold = some h →
     (h.2.1 + k.win * 31250 ≤ s.now → exec (.tpcWindowExpiry c) s = .next (((s.setDsc c fun x => { x with hold := none }).inc P.safe (F.SAFE_DSC_CNT_B_TPC_DIFF c)).err P.safe E.safe_DSC_REJ)) ∧
     (s.now < h.2.1 + k.win * 31250 → exec (.tpcWindowExpiry c) s = .next s))

/-- A latched zone permits drive again only after an acknowledgement, eight agreed cycles and no demand (R329, R338, R341). -/
def Obligations.ZoneLatch : Prop :=
  (∀ (f : Bool) (z : Fin 8) (was : Nat) (s t : State), t = s.stepZone f z was →
     ((s.zone f z).st = 3 → (s.acknowledged f z = false ∨ (s.chan f).agree < 8 ∨ s.demand f z true ≠ none ∨ s.demand f z false ≠ none) → (t.zone f z).st = 3) ∧
     (s.linkLost f z = true → (s.noteReset f z).linkLost f z = true → (t.zone f z).st = 3) ∧
     (2 ≤ (s.zone f z).st → (s.demand f z true ≠ none ∨ s.demand f z false ≠ none) → 2 ≤ (t.zone f z).st))

/-- A pair fault clears only at a mark where both contacts are free, after both have demanded (R334). -/
def Obligations.PairFaultClears : Prop :=
  (∀ (x : PairCopy) (l : List (Bool × Bool × Nat)), x.fault = true → x.both = false →
     (l.foldl (fun y e => y.take e.1 e.2.1 e.2.2) x).fault = false →
     ∃ l₁ l₂ t₁ t₂ l₃, l = l₁ ++ (true, true, t₁) :: l₂ ++ (false, false, t₂) :: l₃)

/-- The fault collector: rises, reactions, the log, partner reports, the owner's clears (R355, R356, R357, R358, R359, R360, R361, R362, R363). -/
def Obligations.FaultCollector : Prop :=
  -- faultRise
  (∀ (i : Fin 40) (s : State),
     (s.lineClass i ≤ s.recClass i → exec (.faultRise i) s = .next s) ∧
     (∀ (pg : PageKind × Nat) (act d : Nat) (u : State), s.recClass i < s.lineClass i → pg = s.risePage i (s.lineClass i) → d = s.pageOwner pg.1 pg.2 →
       act = s.reaction i (s.lineClass i) →
       u = (((s.setf P.fault ⟨R.FAULT_CLASS (i / 16), 2 * (i % 16), 2⟩ (s.lineClass i)).setbit P.fault (R.FAULT_SOURCE_LO + 4 * (i / 32)) (i % 32) true).putLog
         #v[BitVec.ofNat 32 (i * 2 ^ 24 + s.lineClass i * 2 ^ 22 + act * 2 ^ 19 + d * 2 ^ 16), BitVec.ofNat 32 (pageBase pg.1 pg.2), BitVec.ofNat 32 (s.errSeen pg.1 pg.2), BitVec.ofNat 32 s.now]) →
       exec (.faultRise i) s = .next
         ((((if act = 2 then u.haltDomain d else if act = 3 then u.stopGroup (u.fld P.fault (F.FAULT_REACT_GROUP i)) else if act = 4 then u.safeStop else u).when
           (act != 0 || s.fault.log.isEmpty) State.faultVec).offerAll s.now (fun c q => c == 0x28 && q % 64 == i) fun _ => false) |> fun t =>
         if t.rbit P.fault (R.FAULT_SNAP_LO + 4 * (i / 32)) (i % 32) && t.flag P.snap F.SNAP_CFG_FAULT_EN then t.snapshot 5 else t))) ∧
  -- faultSourceClear
  (∀ (hi : Bool) (v : Word) (s : State), Completes (.faultSourceClear hi v) s fun t =>
     t = forEach (List.range 32) s fun b u =>
       if bits v.toNat b 1 = 1 ∧ b + 32 * hi.toNat < 40 ∧ u.lineClass (b + 32 * hi.toNat) = 0 then
         (u.setbit P.fault (R.FAULT_SOURCE_LO + 4 * ((b + 32 * hi.toNat) / 32)) b false).setf P.fault ⟨R.FAULT_CLASS ((b + 32 * hi.toNat) / 16), 2 * ((b + 32 * hi.toNat) % 16), 2⟩ 0
       else u) ∧
  -- dssClr
  (∀ (s : State), Completes .dssClr s fun t => t.flag P.fault F.FAULT_STATUS_DSS = false ∧ RegsBut [P.fault + R.FAULT_STATUS] s t ∧ t.mem = s.mem ∧ t.slates = s.slates) ∧
  -- domHaltRelease
  (∀ (mask : BitVec 8) (s : State), exec (.domHaltRelease mask) s = .next
     (s.wr (P.fault + R.FAULT_DOM_HALT) (without (s.rd (P.fault + R.FAULT_DOM_HALT)) mask.toNat))) ∧
  -- faultLogPop
  (∀ (s u : State), u = (s.setFault fun f => { f with log := f.log.drop 1 }) →
     (u.fault.log = [] → exec .faultLogPop s = .next u) ∧
     (u.fault.log ≠ [] → u.flag P.fault F.FAULT_IRQ_EN = false → exec .faultLogPop s = .next u) ∧
     (u.fault.log ≠ [] → u.flag P.fault F.FAULT_IRQ_EN = true → exec .faultLogPop s = .next (u.raiseVec (u.fld P.fault F.FAULT_IRQ_VEC) 0))) ∧
  -- partnerRecordClose
  (∀ (s : State), exec .partnerRecordClose s = .next
     (forEach (s.fault.opn.filter fun r => decide (r.first + 312500 ≤ s.now))
       (s.setFault fun f => { f with opn := f.opn.filter fun r => !decide (r.first + 312500 ≤ s.now) })
       fun r u => if 64 ≤ u.fault.prq.length then (u.inc P.fault F.FAULT_PR_DROP_FULL).err P.fault E.fault_PR_DROP
         else (u.setFault fun f => { f with prq := f.prq ++ [r] }).err P.fault (r.cls - 1))) ∧
  -- partnerReport
  (∀ (v : Word) (subj n : Nat) (s u : State), u = s.closePartners → subj = u.rd (P.fault + R.FAULT_PR_SUBJ_LO) + u.rd (P.fault + R.FAULT_PR_SUBJ_HI) * 2 ^ 32 →
     n = (if u.fault.ms.1 = u.now / 312500 then u.fault.ms.2 else 0) →
     ((bits v.toNat 24 8 = 0 ∨ bits v.toNat 22 2 = 0) → exec (.partnerReport v) s = .next ((u.inc P.fault F.FAULT_PR_DROP_BAD).err P.fault E.fault_PR_DROP)) ∧
     (bits v.toNat 24 8 ≠ 0 → bits v.toNat 22 2 ≠ 0 →
       (u.fault.opn.any (fun r => r.subj == subj && r.kind == bits v.toNat 24 8) = true → exec (.partnerReport v) s = .next (u.setFault fun f => { f with
         opn := f.opn.map fun r => if r.subj == subj && r.kind == bits v.toNat 24 8 then { r with count := min 65535 (r.count + 1), cls := max r.cls (bits v.toNat 22 2) } else r })) ∧
       (u.fault.opn.any (fun r => r.subj == subj && r.kind == bits v.toNat 24 8) = false → (64 ≤ n ∨ 128 ≤ u.fault.opn.length) →
         exec (.partnerReport v) s = .next ((u.inc P.fault F.FAULT_PR_DROP_RATE).err P.fault E.fault_PR_DROP)) ∧
       (u.fault.opn.any (fun r => r.subj == subj && r.kind == bits v.toNat 24 8) = false → n < 64 → u.fault.opn.length < 128 →
         exec (.partnerReport v) s = .next (u.setFault fun f => { f with opn := f.opn ++ [⟨subj, bits v.toNat 24 8, bits v.toNat 22 2, 1, u.now⟩], ms := (u.now / 312500, n + 1) })))) ∧
  -- faultPrPop
  (∀ (s : State), exec .faultPrPop s = .next (s.setFault fun f => { f with prq := f.prq.drop 1 }))

/-- Trace recorders: entries, ARM, STOP, FORCE, triggers; trace regions (R366, R370, R371, R372, R373). Rests on log 38. -/
def Obligations.TraceRecorders : Prop :=
  -- traceEntry
  (∀ (r : Fin 8) (j : Fin 16) (n : Fin 64) (w : Nat) (s : State), w = (s.recorder r).set.src[j] →
     ((srcEn w = false ∨ (s.trcSt r ≠ 1 ∧ s.trcSt r ≠ 2)) → exec (.traceEntry r j n) s = .next s) ∧
     (∀ (u : State), srcEn w = true → (s.trcSt r = 1 ∨ s.trcSt r = 2) → s.srcValue (s.trcOwner r) w n = (none, u) → exec (.traceEntry r j n) s = .next u) ∧
     (∀ (tick tag val slot : Nat) (u : State), srcEn w = true → (s.trcSt r = 1 ∨ s.trcSt r = 2) → s.srcValue (s.trcOwner r) w n = (some (tick, tag, val), u) →
       slot = (s.recorder r).nextSlot r u.now →
       ((s.recorder r).cnt[j] + 1 < srcDiv w → exec (.traceEntry r j n) s = .next (u.setRec r fun x => { x with cnt := x.cnt.set j (x.cnt[j] + 1) })) ∧
       (∀ y, srcDiv w ≤ (s.recorder r).cnt[j] + 1 → y = (u.setRec r fun x => { x with cnt := x.cnt.set j 0 }) →
         (2 * y.now + 576 < slot → exec (.traceEntry r j n) s = .next ((y.inc (P.trc r) F.TRC_LOST_COUNT).err (P.trc r) E.trc_LOST)) ∧
         (slot ≤ 2 * y.now + 576 → y.rd (P.trc r + R.TRC_TRIG) / 2 ^ 24 ≠ 8 → exec (.traceEntry r j n) s = .next
           ((y.setRec r fun x => { x with slot := slot, prev := x.prev.set j (some (toSigned 32 val)) }).dataEntry r tick (srcKind w * 16 + j.val) tag val))))) ∧
  -- trcArm
  (∀ (r : Fin 8) (s : State),
     ((s.trcSt r = 1 ∨ s.trcSt r = 2) → exec (.trcArm r) s = .next s) ∧
     (s.trcSt r ≠ 1 → s.trcSt r ≠ 2 → s.armReason r ≠ 0 → exec (.trcArm r) s = .next
       (((s.setf (P.trc r) F.TRC_STATUS_REASON (s.armReason r)).setb (P.trc r) F.TRC_STATUS_REFUSED true).err (P.trc r) E.trc_REFUSED)) ∧
     (∀ u, s.trcSt r ≠ 1 → s.trcSt r ≠ 2 → s.armReason r = 0 →
       u = (s.setRec r fun _ => { set := { base := s.fld (P.trc r) F.TRC_BUF_BASE * 4096, n := s.fld (P.trc r) F.TRC_BUF_LEN * 256, pre := s.rd (P.trc r + R.TRC_PRE), post := s.rd (P.trc r + R.TRC_POST), src := Vector.ofFn fun (j : Fin 16) => s.rd (P.trc r + R.TRC_SRC j) }, slot := 0 }).setTrcSt r 1 →
       exec (.trcArm r) s = .next (((((((u.setb (P.trc r) F.TRC_STATUS_REFUSED false).setb (P.trc r) F.TRC_STATUS_LATE false).setb (P.trc r) F.TRC_STATUS_INHIB false).setb
         (P.trc r) F.TRC_STATUS_TRUNC false).wr (P.trc r + R.TRC_WPTR) 0).wr (P.trc r + R.TRC_FIRST) 0).putMarker r s.now))) ∧
  -- trcStop
  (∀ (r : Fin 8) (s : State), (s.trcSt r = 1 → exec (.trcStop r) s = .next ((s.wr (P.trc r + R.TRC_TPTR) (s.rd (P.trc r + R.TRC_WPTR))).setTrcSt r 3)) ∧
     (s.trcSt r = 2 → exec (.trcStop r) s = .next (s.setTrcSt r 3)) ∧ ((s.trcSt r = 0 ∨ s.trcSt r = 3) → exec (.trcStop r) s = .next s)) ∧
  -- trcForce
  (∀ (r : Fin 8) (s : State), exec (.trcForce r) s = .next (s.takeTrigger r s.now)) ∧
  -- traceTrigger
  (∀ (r : Fin 8) (s : State), ((s.recorder r).due = none → exec (.traceTrigger r) s = .next s) ∧
     (∀ t, (s.recorder r).due = some t → s.trcSt r = 1 → exec (.traceTrigger r) s = .next (s.takeTrigger r t)) ∧
     (∀ t, (s.recorder r).due = some t → s.trcSt r ≠ 1 → exec (.traceTrigger r) s = .next (s.setRec r fun x => { x with due := none }))) ∧
  -- traceTimeTrigger
  (∀ (r : Fin 8) (s u : State), u = (s.setRec r fun x => { x with timed := true }) →
     ((s.trcSt r ≠ 1 ∨ s.fld (P.trc r) F.TRC_TRIG_CODE ≠ 2 ∨ (s.recorder r).timed = true ∨ s.now < s.rd64 (P.trc r) R.TRC_TAT_LO) → exec (.traceTimeTrigger r) s = .next s) ∧
     (s.trcSt r = 1 → s.fld (P.trc r) F.TRC_TRIG_CODE = 2 → (s.recorder r).timed = false → s.rd64 (P.trc r) R.TRC_TAT_LO ≤ s.now →
       (u.inhibited F.TIME_INH_CFG_TTRIG = true → exec (.traceTimeTrigger r) s = .next ((u.setb (P.trc r) F.TRC_STATUS_INHIB true).err (P.trc r) E.trc_INHIB)) ∧
       (u.inhibited F.TIME_INH_CFG_TTRIG = false → exec (.traceTimeTrigger r) s = .next (u.takeTrigger r (s.rd64 (P.trc r) R.TRC_TAT_LO))))) ∧
  -- trcRgnWrite
  (∀ (d : Fin 8) (v : Word) (s : State), (s.locked = true → exec (.trcRgnWrite d v) s = .next s.lockedWr) ∧
     (s.locked = false → 128 < v.toNat % 128 + bits v.toNat 16 8 → exec (.trcRgnWrite d v) s = .next (s.err P.trace E.trace_RGN_OVL)) ∧
     (s.locked = false → v.toNat % 128 + bits v.toNat 16 8 ≤ 128 → (∀ e, e < 8 → e ≠ d.val → bits v.toNat 16 8 = 0 ∨ s.fld P.trace (F.TRC_RGN_COUNT e) = 0 ∨
         s.fld P.trace (F.TRC_RGN_BASE e) + s.fld P.trace (F.TRC_RGN_COUNT e) ≤ v.toNat % 128 ∨ v.toNat % 128 + bits v.toNat 16 8 ≤ s.fld P.trace (F.TRC_RGN_BASE e)) →
       ∀ t, t = (s.wr (P.trace + R.TRC_RGN d) (v.toNat &&& 0xFF007F)).stopRecorders d →
       exec (.trcRgnWrite d v) s = .next (forEach ((List.range 128).filter fun k => s.unitDom k != t.unitDom k) t fun k t => (t.clearMem (0x1800000 + 0x10000 * k) 0x10000).clean (.trace k))))

/-- The common snapshot, TRIG_IN edges, the cabinet trigger bus and its calibration (R373, R374, R375, R376, R377, R378, R379). -/
def Obligations.SnapshotAndBus : Prop :=
  -- snapGo
  (∀ (s : State), (s.flag P.snap F.SNAP_STATUS_BUSY = true → exec .snapGo s = .next ((s.inc P.snap ⟨R.SNAP_LOST, 0, 16⟩).err P.snap E.snap_LOST)) ∧
     (∀ (fit : List (Fin 8)) (u : State), s.flag P.snap F.SNAP_STATUS_BUSY = false → fit = (List.finRange 8).filter (fun (i : Fin 8) => s.fitted i) →
       u = (((s.wrAll s.graniteMirrors).wr (P.snap + R.SNAP_STATUS) (2 ^ 31 + 1 * 2 ^ 24 + (s.fld P.snap F.SNAP_STATUS_SEQ + 1) % 2 ^ 16)).wr64 P.snap R.SNAP_TICK_LO s.now).wr (P.snap + R.SNAP_SLATE) 0 →
       exec .snapGo s = .next (((forEach fit (u.setCap fun c => { c with snapWait := fit.map (·.val) }) fun i t => t.snapSlate i).busAll 0x40 s.now).offerAll s.now (fun c _ => c == 0x40) fun _ => true))) ∧
  -- snapAt
  (∀ (s u : State), u = (s.setCap fun c => { c with snapArmed := false }) →
     ((s.capture.snapArmed = false ∨ s.flag P.snap F.SNAP_CFG_AT_EN = false ∨ s.now < s.rd64 P.snap R.SNAP_AT_LO) → exec .snapAt s = .next s) ∧
     (s.capture.snapArmed = true → s.flag P.snap F.SNAP_CFG_AT_EN = true → s.rd64 P.snap R.SNAP_AT_LO ≤ s.now →
       (u.inhibited F.TIME_INH_CFG_TTRIG = true → exec .snapAt s = .next (u.err P.snap E.snap_INHIB)) ∧
       (u.inhibited F.TIME_INH_CFG_TTRIG = false → exec .snapAt s = .next (u.snapshot 2)))) ∧
  -- slateSnapshotAnswer
  (∀ (i : Fin 8) (s u : State), u = ((s.setSlate i fun x => { x with snapAns := none }).setCap fun c => { c with snapWait := c.snapWait.erase i.val }) →
     ((s.slate i).snapAns = none → exec (.slateSnapshotAnswer i) s = .next s) ∧
     ((s.slate i).snapAns = some false → exec (.slateSnapshotAnswer i) s = .next u) ∧
     ((s.slate i).snapAns = some true → exec (.slateSnapshotAnswer i) s = .next ((u.setbit P.snap R.SNAP_SLATE (8 + i) true).err P.snap E.snap_LATE))) ∧
  -- snapBusyEnd
  (∀ (s : State), ((s.flag P.snap F.SNAP_STATUS_BUSY = false ∨ (s.capture.snapWait ≠ [] ∧ s.now < s.rd64 P.snap R.SNAP_TICK_LO + 6250)) → exec .snapBusyEnd s = .next s) ∧
     (s.flag P.snap F.SNAP_STATUS_BUSY = true → (s.capture.snapWait = [] ∨ s.rd64 P.snap R.SNAP_TICK_LO + 6250 ≤ s.now) →
       exec .snapBusyEnd s = .next ((s.setb P.snap F.SNAP_STATUS_BUSY false).setCap fun c => { c with snapWait := [] }))) ∧
  -- trigInEdge
  (∀ (n : Fin 4) (level : Bool) (tap : Fin 64) (s : State),
     ((s.flag P.trig (F.TRIG_IN_CFG_EN n) = false ∨ bits (s.fld P.trig (F.TRIG_IN_CFG_EDGE n)) (if level then 0 else 1) 1 = 0) → exec (.trigInEdge n level tap) s = .next s) ∧
     (∀ l, s.flag P.trig (F.TRIG_IN_CFG_EN n) = true → bits (s.fld P.trig (F.TRIG_IN_CFG_EDGE n)) (if level then 0 else 1) 1 = 1 → s.capture.ins[n].last = some l → 64 * s.now + tap < l.tap + 128 →
       exec (.trigInEdge n level tap) s = .next (s.inc P.trig ⟨R.TRIG_IN_OVF, 6 * n, 6⟩)) ∧
     (∀ u, s.flag P.trig (F.TRIG_IN_CFG_EN n) = true → bits (s.fld P.trig (F.TRIG_IN_CFG_EDGE n)) (if level then 0 else 1) 1 = 1 → s.capture.ins[n].last = none → s.capture.ins[n].q.length < 16 →
       u = (s.setCap fun c => { c with ins := c.ins.set n { q := s.capture.ins[n].q ++ [⟨64 * s.now + tap, level, false⟩], last := some ⟨64 * s.now + tap, level, false⟩ } }) →
       exec (.trigInEdge n level tap) s = .next (((u.offerAll u.now (fun c _ => c == 0x10 + n.val) fun d => u.inGrant n d).busAll (0x10 + n.val) u.now) |> fun t =>
         if bits (t.fld P.snap F.SNAP_CFG_TRIG_IN) n 1 == 1 then t.snapshot 3 else t))) ∧
  -- trigInPop
  (∀ (mask : BitVec 4) (n : Fin 4) (s : State), Completes (.trigInPop mask) s fun t =>
     t.capture.ins[n].q = (if mask.getLsbD n then s.capture.ins[n].q.drop 1 else s.capture.ins[n].q) ∧ t.capture.ins[n].last = s.capture.ins[n].last ∧ t.regs = s.regs ∧ t.mem = s.mem) ∧
  -- tbusPulse
  (∀ (mask : BitVec 4) (s : State), exec (.tbusPulse mask) s = .next (forEach ((List.finRange 4).filter fun (n : Fin 4) => bits mask.toNat n 1 == 1) s fun n t =>
     if !t.flag P.trig (F.TBUS_CFG_DRV_EN n) ∨ t.fld P.trig (F.TBUS_CFG_DRV_SRC n) ≠ 1 ∨ (t.bus n).cal.isSome then t
     else t.setBus n fun b => { b with pulse := some (64 * (t.now : Int) - ((t.rd (P.trig + R.TBUS_LDLY n) : Int) + toSigned 16 (t.rd (P.trig + R.TBUS_OFS n))), max 2 (t.fld P.trig (F.TBUS_CFG_WIDTH n))) })) ∧
  -- tbusAt
  (∀ (n : Fin 4) (s u : State), u = (s.setBus n fun b => { b with armed := false }) →
     (((s.bus n).armed = false ∨ s.now < s.rd64 P.trig (R.TBUS_AT_LO n)) → exec (.tbusAt n) s = .next s) ∧
     ((s.bus n).armed = true → s.rd64 P.trig (R.TBUS_AT_LO n) ≤ s.now →
       (u.inhibited F.TIME_INH_CFG_TTRIG = true → exec (.tbusAt n) s = .next (u.err P.trig E.trig_INHIB)) ∧
       (u.inhibited F.TIME_INH_CFG_TTRIG = false → exec (.tbusAt n) s = .next (u.busPulse n 2 s.now)))) ∧
  -- tbusEdge
  (∀ (n : Fin 4) (own : Bool) (tap : Fin 64) (st : Stamp) (s : State), (s.bus n).cal = none → st = ⟨(((64 * s.now + tap : Nat) : Int) - s.busComp n).toNat, true, own⟩ →
     (s.flag P.trig (F.TBUS_CFG_RX_EN n) = false → exec (.tbusEdge n own tap) s = .next s) ∧
     (∀ u, s.flag P.trig (F.TBUS_CFG_RX_EN n) = true → (s.bus n).q.length < 16 → u = (s.setBus n fun b => { b with q := b.q ++ [st] }) →
       exec (.tbusEdge n own tap) s = .next ((u.offerAll (st.tap / 64) (fun c _ => c == 0x18 + n.val) fun d => u.busGrant n d) |> fun t =>
         if bits (t.fld P.snap F.SNAP_CFG_TBUS) n 1 == 1 then t.snapshot 4 else t)) ∧
     (∀ u, s.flag P.trig (F.TBUS_CFG_RX_EN n) = true → 16 ≤ (s.bus n).q.length → u = (s.inc P.trig ⟨R.TBUS_OVF, 6 * n, 6⟩).err P.trig E.trig_BUS_OVF →
       exec (.tbusEdge n own tap) s = .next ((u.offerAll (st.tap / 64) (fun c _ => c == 0x18 + n.val) fun d => u.busGrant n d) |> fun t =>
         if bits (t.fld P.snap F.SNAP_CFG_TBUS) n 1 == 1 then t.snapshot 4 else t))) ∧
  -- tbusPop
  (∀ (mask : BitVec 4) (n : Fin 4) (s : State), Completes (.tbusPop mask) s fun t =>
     (t.bus n).q = (if mask.getLsbD n then (s.bus n).q.drop 1 else (s.bus n).q) ∧ (t.bus n).pulse = (s.bus n).pulse ∧ t.regs = s.regs ∧ t.mem = s.mem) ∧
  -- tbusCal
  (∀ (mask : BitVec 4) (s : State), exec (.tbusCal mask) s = .next (forEach ((List.finRange 4).filter fun (n : Fin 4) => bits mask.toNat n 1 == 1 && (s.bus n).cal.isNone) s fun n t =>
     (t.setBus n fun b => { b with cal := some { start := t.now } }).setbit P.trig R.TBUS_CAL (8 + n) false)) ∧
  -- tbusCalDone
  (∀ (n : Fin 4) (s u : State), u = (s.setBus n fun b => { b with cal := none }) →
     ((s.bus n).cal = none → exec (.tbusCalDone n) s = .next s) ∧
     (∀ c, (s.bus n).cal = some c → s.now < c.start + 16384 → exec (.tbusCalDone n) s = .next s) ∧
     (∀ c, (s.bus n).cal = some c → c.start + 16384 ≤ s.now → (c.bad = true ∨ c.n ≠ 64) → exec (.tbusCalDone n) s = .next ((u.setbit P.trig R.TBUS_CAL (8 + n) true).err P.trig E.trig_CAL_FAIL)) ∧
     (∀ c, (s.bus n).cal = some c → c.start + 16384 ≤ s.now → c.bad = false → c.n = 64 → exec (.tbusCalDone n) s = .next (u.wr (P.trig + R.TBUS_LDLY n) (c.sum / 128 % 2 ^ 16))))

/-- A trigger on an ARMED recorder: TPTR, TTICK, the state and what the recorder keeps (R370). -/
def Obligations.TriggersTaken : Prop :=
  (∀ (r : Fin 8) (tick : Nat) (s t : State), t = s.takeTrigger r tick →
     (s.trcSt r ≠ 1 → t = s) ∧
     (s.trcSt r = 1 → t.rd (P.trc r + R.TRC_TPTR) = s.wptr r ∧ t.rd (P.trc r + R.TRC_WPTR) = s.wptr r ∧
       t.rd64 (P.trc r) R.TRC_TTICK_LO = tick % 2 ^ 64 ∧ t.trcSt r = (if (s.recorder r).set.post = 0 then 3 else 2) ∧ t.mem = s.mem ∧
       (∀ p : Fin 8, p ≠ r → t.trcSt p = s.trcSt p ∧ t.wptr p = s.wptr p)))

/-- Amber commands: what is refused at the write, what starts, what an accepted command does (R32, R388, R390, R397, R399, R400, R401, R402). Rests on log 7, 8, 44. -/
def Obligations.AmberCommands : Prop :=
  -- copyIn
  (∀ (v : Nat) (s u : State), v = amberWord 1 false false 0 → u = s.wr (P.amber + R.AMBER_CMD) (v &&& 0x8F000330) →
     (s.boot.job ≠ none → exec .copyIn s = .next s) ∧
     (s.boot.job = none → ∀ c, u.amberRefusal v = c → c ≠ 0 → (c = 7 → u.flag P.amber F.AMBER_SRC_HI_HOST = false) → exec .copyIn s = .next (u.amberResult c)) ∧
     (s.boot.job = none → u.amberRefusal v = 0 → exec .copyIn s = .next (forEach [false, true] (u.setBoot fun x => { x with job := some v }) fun slot y =>
         if touches ((u.setBoot fun x => { x with job := some v }).rd (P.amber + R.AMBER_DST)) y.copyLen slot then y.unverify slot false else y)) ∧
     (s.boot.job = none → u.amberRefusal v = 7 → u.flag P.amber F.AMBER_SRC_HI_HOST = true → exec .copyIn s = .next ((u.dmaErr E.host_DMA_WIN 0 u.copySrc Req.boot false).amberResult 7))) ∧
  -- copyOut
  (∀ (v : Nat) (s u : State), v = amberWord 2 false false 0 → u = s.wr (P.amber + R.AMBER_CMD) (v &&& 0x8F000330) →
     (s.boot.job ≠ none → exec .copyOut s = .next s) ∧
     (s.boot.job = none → ∀ c, u.amberRefusal v = c → c ≠ 0 → (c = 7 → u.flag P.amber F.AMBER_SRC_HI_HOST = false) → exec .copyOut s = .next (u.amberResult c)) ∧
     (s.boot.job = none → u.amberRefusal v = 0 → exec .copyOut s = .next (u.setBoot fun x => { x with job := some v })) ∧
     (s.boot.job = none → u.amberRefusal v = 7 → u.flag P.amber F.AMBER_SRC_HI_HOST = true → exec .copyOut s = .next ((u.dmaErr E.host_DMA_WIN 0 u.copySrc Req.boot true).amberResult 7))) ∧
  -- verify
  (∀ (slot : Bool) (v : Nat) (s u : State), v = amberWord 3 slot false 0 → u = s.wr (P.amber + R.AMBER_CMD) (v &&& 0x8F000330) →
     (s.boot.job ≠ none → exec (.verify slot) s = .next s) ∧
     (s.boot.job = none → exec (.verify slot) s = .next (u.setBoot fun x => { x with job := some v }))) ∧
  -- switch
  (∀ (slot trial : Bool) (v : Nat) (s u : State), v = amberWord 4 slot trial 0 → u = s.wr (P.amber + R.AMBER_CMD) (v &&& 0x8F000330) →
     (s.boot.job ≠ none → exec (.switch slot trial) s = .next s) ∧
     (s.boot.job = none → ∀ c, u.amberRefusal v = c → c ≠ 0 → exec (.switch slot trial) s = .next (u.amberResult c)) ∧
     (s.boot.job = none → u.amberRefusal v = 0 → exec (.switch slot trial) s = .next (u.setBoot fun x => { x with job := some v }))) ∧
  -- confirm
  (∀ (v : Nat) (s u : State), v = amberWord 5 false false 0 → u = s.wr (P.amber + R.AMBER_CMD) (v &&& 0x8F000330) →
     (s.boot.job ≠ none → exec .confirm s = .next s) ∧
     (s.boot.job = none → ∀ c, u.amberRefusal v = c → c ≠ 0 → exec .confirm s = .next (u.amberResult c)) ∧
     (s.boot.job = none → u.amberRefusal v = 0 → exec .confirm s = .next (u.setBoot fun x => { x with job := some v }))) ∧
  -- raiseFloor
  (∀ (v : Nat) (s u : State), v = amberWord 6 false false 0 → u = s.wr (P.amber + R.AMBER_CMD) (v &&& 0x8F000330) →
     (s.boot.job ≠ none → exec .raiseFloor s = .next s) ∧
     (s.boot.job = none → ∀ c, u.amberRefusal v = c → c ≠ 0 → exec .raiseFloor s = .next (u.amberResult c)) ∧
     (s.boot.job = none → u.amberRefusal v = 0 → exec .raiseFloor s = .next (u.setBoot fun x => { x with job := some v }))) ∧
  -- fuseKey
  (∀ (key : Fin 4) (v : Nat) (s u : State), v = amberWord 7 false false key.val → u = s.wr (P.amber + R.AMBER_CMD) (v &&& 0x8F000330) →
     (s.boot.job ≠ none → exec (.fuseKey key) s = .next s) ∧
     (s.boot.job = none → ∀ c, u.amberRefusal v = c → c ≠ 0 → exec (.fuseKey key) s = .next (u.amberResult c)) ∧
     (s.boot.job = none → u.amberRefusal v = 0 → exec (.fuseKey key) s = .next (u.setBoot fun x => { x with job := some v }))) ∧
  -- revoke
  (∀ (key : Fin 4) (v : Nat) (s u : State), v = amberWord 8 false false key.val → u = s.wr (P.amber + R.AMBER_CMD) (v &&& 0x8F000330) →
     (s.boot.job ≠ none → exec (.revoke key) s = .next s) ∧
     (s.boot.job = none → ∀ c, u.amberRefusal v = c → c ≠ 0 → exec (.revoke key) s = .next (u.amberResult c)) ∧
     (s.boot.job = none → u.amberRefusal v = 0 → exec (.revoke key) s = .next (u.setBoot fun x => { x with job := some v }))) ∧
  -- boot
  (∀ (slot : Bool) (v : Nat) (s u : State), v = amberWord 9 slot false 0 → u = s.wr (P.amber + R.AMBER_CMD) (v &&& 0x8F000330) →
     (s.boot.job ≠ none → exec (.boot slot) s = .next s) ∧
     (s.boot.job = none → ∀ c, u.amberRefusal v = c → c ≠ 0 → exec (.boot slot) s = .next (u.amberResult c)) ∧
     (s.boot.job = none → u.amberRefusal v = 0 → exec (.boot slot) s = .next (u.setBoot fun x => { x with job := some v }))) ∧
  -- amberCmdComplete
  (∀ (x : ImageCheck) (src : HostData) (s : State), (s.boot.job = none → exec (.amberCmdComplete x src) s = .next s) ∧
     (∀ v, s.boot.job = some v →
       (bits v 24 4 = 1 → s.flag P.amber F.AMBER_SRC_HI_HOST = false → s.softIn s.copySrc s.copyLen = [] → exec (.amberCmdComplete x src) s = .next
         ((s.astoreBytes (s.rd (P.amber + R.AMBER_DST)) (bytesOf s.copyLen (s.load s.copySrc s.copyLen))).amberResult 0)) ∧
       (bits v 24 4 = 2 → exec (.amberCmdComplete x src) s = .next s.copyOut) ∧
       (∀ code, bits v 24 4 = 3 → s.verifyCode (bits v 8 1 == 1) x = code → code ≠ 0 → exec (.amberCmdComplete x src) s = .next ((s.unverify (bits v 8 1 == 1) false).amberResult code)) ∧
       (bits v 24 4 = 3 → s.verifyCode (bits v 8 1 == 1) x = 0 → exec (.amberCmdComplete x src) s = .next
         (((s.unverify (bits v 8 1 == 1) true).wr (P.amber + R.AMBER_SVN_A + 4 * (bits v 8 1 == 1).toNat) (s.hdr (bits v 8 1 == 1) 8 4)).amberResult 0)) ∧
       (bits v 24 4 = 4 → exec (.amberCmdComplete x src) s = .next ((s.doSwitch (bits v 8 1 == 1) (bits v 9 1 == 1)).amberResult 0)) ∧
       (bits v 24 4 = 5 → exec (.amberCmdComplete x src) s = .next
         (((s.setBoot fun b => { (b.writeRecord { b.record with trial := false }) with trialEnd := none }).setb P.amber F.AMBER_STATUS_TRIAL false).amberResult 0)) ∧
       (bits v 24 4 = 6 → exec (.amberCmdComplete x src) s = .next ((s.setBoot fun b => { b with floor := max b.floor (min 63 (s.hdr b.active 8 4)) }).amberResult 0)) ∧
       (bits v 24 4 = 7 → exec (.amberCmdComplete x src) s = .next ((s.fuseKey (bits v 4 2)).amberResult 0)) ∧
       (bits v 24 4 = 8 → exec (.amberCmdComplete x src) s = .next ((s.setBoot fun b => { b with revoked := b.revoked ||| 2 ^ bits v 4 2 }).amberResult 0)) ∧
       (bits v 24 4 = 9 → exec (.amberCmdComplete x src) s = .next ((s.setBoot fun b => { b with want := some (bits v 8 1 == 1) }).amberResult 0)))) ∧
  -- amberScrub
  (∀ (addr : BitVec 25) (s : State), exec (.amberScrub addr none) s = .next s ∧
     exec (.amberScrub addr (some false)) s = .next ((s.inc P.amber F.AMBER_CE_COUNT).err P.amber E.amber_CE) ∧
     exec (.amberScrub addr (some true)) s = .next ((s.wr (P.amber + R.AMBER_UE_ADDR) (2 ^ 31 + addr.toNat / 8 * 8)).err P.amber E.amber_UE))

/-- Assignments, cleaning and the lock; register access by any requester, soft reset, clears, engine fabric accesses (R12, R182, R186, R352, R386, R387, R388, R390, R430). -/
def Obligations.AssignmentsAndAccess : Prop :=
  -- cleaningDone
  (∀ (s : State), exec .cleaningDone s = .next (s.setCleaning (s.cleaning.drop 1))) ∧
  -- assignmentWrite
  (∀ (addr : BitVec 26) (v : Word) (k : PageKind) (n : Nat) (s : State), pageAt addr.toNat = some (k, n) →
     (s.assign k n (addr.toNat % 0x1000) v.toNat = none → exec (.assignmentWrite addr v) s = .next s) ∧
     (∀ t, s.assign k n (addr.toNat % 0x1000) v.toNat = some t → s.locked = true → exec (.assignmentWrite addr v) s = .next s.lockedWr) ∧
     (∀ t, s.assign k n (addr.toNat % 0x1000) v.toNat = some t → s.locked = false → exec (.assignmentWrite addr v) s = .next t)) ∧
  -- assignmentWrite
  (∀ (addr : BitVec 26) (v : Word) (s : State), pageAt addr.toNat = none → exec (.assignmentWrite addr v) s = .next s) ∧
  -- domLock
  (∀ (s : State), Completes .domLock s fun t => t.locked = true ∧ t.mem = s.mem ∧ t.amber = s.amber ∧ t.slates = s.slates ∧ t.axes = s.axes) ∧
  -- registerWrite
  (∀ (q : Fin 514) (addr : BitVec 26) (v : Word) (s : State),
     (pageAt addr.toNat = none → exec (.registerWrite q addr v) s = .next s) ∧
     (∀ k n, pageAt addr.toNat = some (k, n) → s.absent addr.toNat = false → addr.toNat % 4 = 0 →
       (s.mayAccess q addr.toNat true = false → exec (.registerWrite q addr v) s = .next (s.refuse q addr.toNat true)) ∧
       (s.mayAccess q addr.toNat true = true → lockable k (addr.toNat % 0x1000) = true → (s.reqDom q).getD 0 ≠ 0 → exec (.registerWrite q addr v) s = .next (s.refuse q addr.toNat true)) ∧
       (s.mayAccess q addr.toNat true = true → lockable k (addr.toNat % 0x1000) = true → (s.reqDom q).getD 0 = 0 → s.locked = true → exec (.registerWrite q addr v) s = .next s.lockedWr) ∧
       (s.mayAccess q addr.toNat true = true → (lockable k (addr.toNat % 0x1000) = false ∨ ((s.reqDom q).getD 0 = 0 ∧ s.locked = false)) → (k = .engine → s.engSafety n = false) →
         (slateOfPage k n = none → exec (.registerWrite q addr v) s = .next (s.writeGranite q k n (addr.toNat % 0x1000) v.toNat)) ∧
         (slateOfPage k n ≠ none → addr.toNat % 0x1000 < 0x800 → exec (.registerWrite q addr v) s = .next (s.writeSlate ((s.reqDom q).getD 0) k n addr.toNat v.toNat)) ∧
         (slateOfPage k n ≠ none → 0x800 ≤ addr.toNat % 0x1000 → exec (.registerWrite q addr v) s = .next s)))) ∧
  -- slateRegWrite
  (∀ (q : Fin 514) (addr : BitVec 26) (v : Word) (s : State), (slateResident addr.toNat = true → exec (.slateRegWrite q addr v) s = exec (.registerWrite q addr v) s) ∧
     (slateResident addr.toNat = true → exec (.slateRegWrite q addr v) s = .next (s.writeReg q addr.toNat v.toNat)) ∧ (slateResident addr.toNat = false → exec (.slateRegWrite q addr v) s = .next s)) ∧
  -- slateRegRead
  (∀ (q : Fin 514) (addr : BitVec 26) (k : PageKind) (n : Nat) (s : State),
     ((slateResident addr.toNat = false ∨ addr.toNat % 4 ≠ 0) → exec (.slateRegRead q addr) s = .next s) ∧
     (slateResident addr.toNat = true → addr.toNat % 4 = 0 → s.absent addr.toNat = true → exec (.slateRegRead q addr) s = .next (s.answer q addr.toNat 0)) ∧
     (slateResident addr.toNat = true → addr.toNat % 4 = 0 → s.absent addr.toNat = false → regionAt addr.toNat = .page k n → (slateOfPage k n).isSome = true →
       (s.mayAccess q addr.toNat false = false → exec (.slateRegRead q addr) s = .next ((s.refuse q addr.toNat false).deny q addr.toNat)) ∧
       (s.mayAccess q addr.toNat false = true → exec (.slateRegRead q addr) s = .next (s.slateRegRead q k n addr.toNat)))) ∧
  -- softReset
  (∀ (q : Fin 514) (addr : BitVec 26) (snap : Bool) (s : State), exec (.softReset q addr snap) s = .next
     (s.writeReg q (addr.toNat - addr.toNat % 0x1000 + R.PAGE_CTRL) (2 + 256 * snap.toNat))) ∧
  -- pageErrClear
  (∀ (q : Fin 514) (addr : BitVec 26) (v : Word) (s : State), exec (.pageErrClear q addr v) s = .next (s.writeReg q (addr.toNat - addr.toNat % 0x1000 + R.PAGE_ERR) v.toNat)) ∧
  -- counterClear
  (∀ (q : Fin 514) (addr : BitVec 26) (s : State), (pageAt addr.toNat = none → exec (.counterClear q addr) s = .next s) ∧
     (∀ k n d, pageAt addr.toNat = some (k, n) → regAt k (addr.toNat % 0x1000) = some d →
       (hasClr k (addr.toNat % 0x1000) d = true → exec (.counterClear q addr) s = .next (s.writeReg q addr.toNat (2 ^ 31))) ∧
       (hasClr k (addr.toNat % 0x1000) d = false → exec (.counterClear q addr) s = .next s))) ∧
  -- fabricReadComplete
  (∀ (e : Fin 512) (s : State), ((s.eng e).stall = none → exec (.fabricReadComplete e) s = .next s) ∧
     (∀ r, (s.eng e).stall = some r →
       ((r.fabric = false ∨ (s.eng e).fbw ≠ []) → exec (.fabricReadComplete e) s = .next s) ∧
       (r.fabric = true → (s.eng e).fbw = [] → slateResident r.addr = true → s.readOut e = true → exec (.fabricReadComplete e) s = .next s) ∧
       (r.fabric = true → (s.eng e).fbw = [] → slateResident r.addr = true → s.readOut e = false → exec (.fabricReadComplete e) s = .next (s.resumeOp e (s.answerOf e r.addr))) ∧
       (r.fabric = true → (s.eng e).fbw = [] → slateResident r.addr = false → exec (.fabricReadComplete e) s = .next
         ((s.busRead e r.addr r.bytes).st.resumeOp e ((s.busRead e r.addr r.bytes).val.getD 0))))) ∧
  -- postedWriteComplete
  (∀ (e : Fin 512) (s : State),
     ((s.eng e).rstPend = false → (s.eng e).shw = [] → exec (.postedWriteComplete e false) s = .next s) ∧
     ((s.eng e).rstPend = false → (s.eng e).fbw = [] → exec (.postedWriteComplete e true) s = .next s) ∧
     (∀ w l u, (s.eng e).shw = w :: l → u = ((s.setEng e fun x => { x with shw := l }).store w.addr w.bytes w.val) →
       ((u.eng e).rstPend = false → exec (.postedWriteComplete e false) s = .next u) ∧
       ((u.eng e).rstPend = true → l = [] → (u.eng e).fbw = [] → exec (.postedWriteComplete e false) s = .next (u.engReset e))) ∧
     (∀ w l u, (s.eng e).fbw = w :: l → u = ((s.setEng e fun x => { x with fbw := l }).busWrite e w.addr w.bytes w.val).st →
       ((u.eng e).rstPend = false → exec (.postedWriteComplete e true) s = .next u) ∧
       ((u.eng e).rstPend = true → (u.eng e).shw = [] → (u.eng e).fbw = [] → exec (.postedWriteComplete e true) s = .next (u.engReset e))))

/-- Reset sources, PLL locks, watchdog, trial timer; sag, hold-up, save and resume (R36, R52, R399, R405, R409, R410, R411, R415, R416, R417, R418, R419, R423). Rests on log 17. -/
def Obligations.ResetsAndSave : Prop :=
  -- powerOnReset
  (∀ (s : State), Completes .powerOnReset s fun t => t.power.held = true ∧ t.stage = 0 ∧ t.amber = s.amber ∧ t.boot.floor = s.boot.floor ∧ t.boot.keys = s.boot.keys ∧
     t.boot.revoked = s.boot.revoked ∧ t.boot.recs = s.boot.recs ∧ t.mem = [] ∧ t.now = 0 ∧ t.time.cur = State.reset.time.cur ∧ t.engines = State.reset.engines ∧ t.safety = {}) ∧
  -- externalReset
  (∀ (s : State), (s.power.save = none → exec .externalReset s = .next (s.graniteReset Cause.ext true)) ∧
     (s.power.save ≠ none → exec .externalReset s = .next (s.setPower fun p => { p with defer := p.defer ||| Cause.ext }))) ∧
  -- resetRelease
  (∀ (s : State), (s.power.held = false → exec .resetRelease s = .next s) ∧
     (s.power.held = true → exec .resetRelease s = .next ((s.setPower fun p => { p with held := false, rel := s.now }).setf P.pwr F.PWR_STATUS_RAIL_OK 0x1F))) ∧
  -- pllLock
  (∀ (p : Fin 3) (s : State), (s.power.held = true → exec (.pllLock p) s = .next s) ∧
     (s.power.held = false → p ≠ 2 → exec (.pllLock p) s = .next ((s.setb P.clk F.CLK_STATUS_SYS_LOCK true).setb P.clk F.CLK_STATUS_LINK_LOCK true)) ∧
     (s.power.held = false → p = 2 → s.flag P.clk F.CLK_STATUS_SYS_LOCK = true → s.flag P.clk F.CLK_STATUS_LINK_LOCK = true → exec (.pllLock p) s = .next (s.setb P.clk F.CLK_STATUS_SERDES_LOCK true)) ∧
     (s.power.held = false → p = 2 → (s.flag P.clk F.CLK_STATUS_SYS_LOCK = false ∨ s.flag P.clk F.CLK_STATUS_LINK_LOCK = false) → exec (.pllLock p) s = .next s)) ∧
  -- pllUnlock
  (∀ (s : State), exec (.pllUnlock 1) s = .next ((s.setb P.clk F.CLK_STATUS_LINK_LOCK false).err P.clk E.clk_LINK_UNLOCK) ∧
     exec (.pllUnlock 2) s = .next ((s.setb P.clk F.CLK_STATUS_SERDES_LOCK false).err P.clk E.clk_SERDES_UNLOCK) ∧
     (∀ u, u = (s.setb P.clk F.CLK_STATUS_SYS_LOCK false).err P.clk E.clk_SYS_UNLOCK →
       (u.power.save = none → exec (.pllUnlock 0) s = .next (u.graniteReset Cause.clock false)) ∧
       (u.power.save ≠ none → exec (.pllUnlock 0) s = .next (u.abortSave.graniteReset Cause.clock false)))) ∧
  -- holdoverExpiry
  (∀ (s : State), (s.time.holdStart = none → exec .holdoverExpiry s = .next s) ∧
     (∀ t, s.time.holdStart = some t → (s.flag P.clk F.CLK_STATUS_HOLDOVER = false ∨ s.now < t + 31250) → exec .holdoverExpiry s = .next s) ∧
     (∀ t, s.time.holdStart = some t → s.flag P.clk F.CLK_STATUS_HOLDOVER = true → t + 31250 ≤ s.now → exec .holdoverExpiry s = .next s.sysUnlock)) ∧
  -- flintSelfTestPass
  (∀ (s : State), (s.power.held = true → exec .flintSelfTestPass s = .next s) ∧
     (s.power.held = false → exec .flintSelfTestPass s = .next (s.setSafety fun f => { f with flintOk := !f.faultB }))) ∧
  -- sysWdogKick
  (∀ (s : State), ((2 ≤ s.stage ∧ s.fld P.sys F.SYS_WDOG_PERIOD ≠ 0) → exec .sysWdogKick s = .next (s.setPower fun p => { p with wdFrom := some s.now })) ∧
     ((s.stage < 2 ∨ s.fld P.sys F.SYS_WDOG_PERIOD = 0) → exec .sysWdogKick s = .next (s.setPower fun p => { p with wdFrom := none }))) ∧
  -- sysWdogExpiry
  (∀ (s : State), (s.power.wdFrom = none → exec .sysWdogExpiry s = .next s) ∧
     (∀ t, s.power.wdFrom = some t → s.now < t + 312500 * s.fld P.sys F.SYS_WDOG_PERIOD → exec .sysWdogExpiry s = .next s) ∧
     (∀ t, s.power.wdFrom = some t → t + 312500 * s.fld P.sys F.SYS_WDOG_PERIOD ≤ s.now → s.power.save = none → exec .sysWdogExpiry s = .next (s.graniteReset Cause.wdog false)) ∧
     (∀ t, s.power.wdFrom = some t → t + 312500 * s.fld P.sys F.SYS_WDOG_PERIOD ≤ s.now → s.power.save ≠ none →
       exec .sysWdogExpiry s = .next (s.setPower fun p => { p with defer := p.defer ||| Cause.wdog }))) ∧
  -- trialExpiry
  (∀ (s : State), (s.boot.trialEnd = none → exec .trialExpiry s = .next s) ∧
     (∀ t, s.boot.trialEnd = some t → s.now < t → exec .trialExpiry s = .next s) ∧
     (∀ t, s.boot.trialEnd = some t → t ≤ s.now → s.power.save = none → exec .trialExpiry s = .next (s.graniteReset Cause.trial false)) ∧
     (∀ t, s.boot.trialEnd = some t → t ≤ s.now → s.power.save ≠ none → exec .trialExpiry s = .next (s.setPower fun p => { p with defer := p.defer ||| Cause.trial }))) ∧
  -- sysReset
  (∀ (key : BitVec 16) (s : State), (key.toNat ≠ 0xA5A5 → exec (.sysReset key) s = .next s) ∧
     (key.toNat = 0xA5A5 → s.power.save = none → exec (.sysReset key) s = .next (s.graniteReset Cause.soft false)) ∧
     (key.toNat = 0xA5A5 → s.power.save ≠ none → exec (.sysReset key) s = .next (s.setPower fun p => { p with defer := p.defer ||| Cause.soft }))) ∧
  -- sysResetSave
  (∀ (key : BitVec 16) (s : State), ((key.toNat ≠ 0xA5A5 ∨ s.power.save ≠ none) → exec (.sysResetSave key) s = .next s) ∧
     (key.toNat = 0xA5A5 → s.power.save = none → exec (.sysResetSave key) s = .next (s.startSave false))) ∧
  -- holdCapMeasure
  (∀ (uF : BitVec 16) (s : State), (780 ≤ uF.toNat → exec (.holdCapMeasure uF) s = .next (s.wr (P.pwr + R.PWR_HOLD_CAP) uF.toNat)) ∧
     (uF.toNat < 780 → exec (.holdCapMeasure uF) s = .next ((s.wr (P.pwr + R.PWR_HOLD_CAP) uF.toNat).err P.pwr E.pwr_HOLD_LOW))) ∧
  -- holdOkChange
  (∀ (ok : Bool) (s : State), exec (.holdOkChange ok) s = .next (s.setb P.pwr F.PWR_STATUS_HOLD_OK ok)) ∧
  -- sagDetect
  (∀ (pfail : Bool) (s u : State), u = (if pfail then s.setb P.pwr F.PWR_STATUS_PFAIL true else s) →
     (s.flag P.pwr (if pfail then F.PWR_CFG_PFAIL_EN else F.PWR_CFG_SENSE_EN) = false → exec (.sagDetect pfail) s = .next s) ∧
     (s.flag P.pwr (if pfail then F.PWR_CFG_PFAIL_EN else F.PWR_CFG_SENSE_EN) = true →
       (u.power.wait = true → exec (.sagDetect pfail) s = .next (u.inc P.pwr F.PWR_SAG_CNT_COUNT)) ∧
       (u.power.wait = false → u.flag P.pwr F.PWR_STATUS_SAG = true → exec (.sagDetect pfail) s = .next u) ∧
       (∀ x, u.power.wait = false → u.flag P.pwr F.PWR_STATUS_SAG = false → x = ((u.inc P.pwr F.PWR_SAG_CNT_COUNT).err P.pwr E.pwr_SAG).setb P.pwr F.PWR_STATUS_SAG true →
         ((x.stage < 2 ∨ x.power.save ≠ none) → exec (.sagDetect pfail) s = .next x) ∧
         (2 ≤ x.stage → x.power.save = none → x.restoring = true → exec (.sagDetect pfail) s = .next
           (((x.setPower fun p => { p with restored := true }).wr (P.pwr + R.PWR_REST_STAT) (7 * 2 ^ 28)).err P.pwr E.pwr_REST_SKIP)) ∧
         (2 ≤ x.stage → x.power.save = none → x.restoring = false → x.flag P.pwr F.PWR_CFG_SAVE_EN = false → exec (.sagDetect pfail) s = .next
           ((x.wr64 P.pwr R.PWR_SAVE_TICK_LO x.now).safeCmdAll.wr (P.pwr + R.PWR_SAVE_STAT) (4 * 2 ^ 28))) ∧
         (2 ≤ x.stage → x.power.save = none → x.restoring = false → x.flag P.pwr F.PWR_CFG_SAVE_EN = true → x.flag P.pwr F.PWR_STATUS_HOLD_OK = false → exec (.sagDetect pfail) s = .next
           (((x.wr64 P.pwr R.PWR_SAVE_TICK_LO x.now).safeCmdAll.wr (P.pwr + R.PWR_SAVE_STAT) (2 * 2 ^ 28)).err P.pwr E.pwr_SAVE_FAIL)) ∧
         (2 ≤ x.stage → x.power.save = none → x.restoring = false → x.flag P.pwr F.PWR_CFG_SAVE_EN = true → x.flag P.pwr F.PWR_STATUS_HOLD_OK = true →
           exec (.sagDetect pfail) s = .next (x.startSave true))))) ∧
  -- holdCollapse
  (∀ (s : State), ((s.power.save = none ∨ ∃ v, s.power.save = some v ∧ v.sag = false) → exec .holdCollapse s = .next s) ∧
     (∀ v, s.power.save = some v → v.sag = true → exec .holdCollapse s = .next (s.abortSave.setPower fun p => { p with wait := true }))) ∧
  -- sagEnd
  (∀ (s t : State), t = (s.setb P.pwr F.PWR_STATUS_SAG false).setb P.pwr F.PWR_STATUS_PFAIL false →
     (s.power.wait = false → exec .sagEnd s = .next t) ∧ (s.power.wait = true → exec .sagEnd s = .next (t.graniteReset Cause.resume false))) ∧
  -- saveComplete
  (∀ (s : State), (s.power.save = none → exec .saveComplete s = .next s) ∧
     (∀ (v : Save) (u t : State), s.power.save = some v →
       u = ((s.astore Save.commit 4 0x544D4F43).astore (Save.commit + 4) 4 (s.power.seq + 1)).astore (Save.commit + 8) 4 (s.amberCrc Save.base 0x10000) →
       t = ((((u.astore (Save.commit + 12) 4 (u.amberCrc Save.table 0x800000)).wr (P.pwr + R.PWR_SAVE_STAT) (2 ^ 28 + min 65535 ((u.now - v.at_) * 2 / 625))).setb P.pwr F.PWR_STATUS_SAVING false).setPower fun p => { p with
         save := none, seq := (s.power.seq + 1) % 2 ^ 32, defer := 0, wait := v.sag }) →
       (v.sag = false → exec .saveComplete s = .next (t.graniteReset (Cause.softSave ||| s.power.defer) (bits s.power.defer 1 1 == 1))) ∧
       (v.sag = true → s.power.defer ≠ 0 → exec .saveComplete s = .next (t.graniteReset s.power.defer (bits s.power.defer 1 1 == 1))) ∧
       (v.sag = true → s.power.defer = 0 → t.flag P.pwr F.PWR_STATUS_SAG = true → exec .saveComplete s = .next t) ∧
       (v.sag = true → s.power.defer = 0 → t.flag P.pwr F.PWR_STATUS_SAG = false → exec .saveComplete s = .next (t.graniteReset Cause.resume false))))

/-- Host packets, configuration writes, host-port resets, MSI-X, failed device reads; management frames are taken (R428, R433, R435, R436, R438, R439, R441). -/
def Obligations.HostPort : Prop :=
  -- hostWrite
  (∀ (addr : BitVec 26) (data : List Byte) (s : State), (s.hostUp = false → exec (.hostWrite addr data) s = .next s) ∧
     (s.hostUp = true → s.tlpKind addr.toNat data.length = .absent → exec (.hostWrite addr data) s = .next s) ∧
     (∀ b, s.hostUp = true → s.tlpKind addr.toNat data.length = .bad b → exec (.hostWrite addr data) s = .next (s.hostErr b addr.toNat true)) ∧
     (s.hostUp = true → s.tlpKind addr.toNat data.length = .reg → exec (.hostWrite addr data) s = .next (s.writeReg Req.host addr.toNat (ofBytes data))) ∧
     (s.hostUp = true → s.tlpKind addr.toNat data.length = .mem → exec (.hostWrite addr data) s = .next
       (forEach (splitTlp addr.toNat data.length 0 data.length) s fun x u => if regionAt x.1 = .unmapped then u.hostErr E.host_UNMAPPED x.1 true else (u.busWrite Req.host x.1 x.2.1 (field data x.2.2 x.2.1)).st))) ∧
  -- hostRead
  (∀ (addr : BitVec 26) (n : Fin 513) (s : State), (s.hostUp = false → exec (.hostRead addr n) s = .next s) ∧
     (s.hostUp = true → s.tlpKind addr.toNat n = .absent → exec (.hostRead addr n) s = .next (s.answer Req.host addr.toNat 0)) ∧
     (∀ b, s.hostUp = true → s.tlpKind addr.toNat n = .bad b → exec (.hostRead addr n) s = .next ((s.hostErr b addr.toNat false).answer Req.host addr.toNat 0)) ∧
     (s.hostUp = true → s.tlpKind addr.toNat n = .reg → exec (.hostRead addr n) s = .next ((s.busRead Req.host addr.toNat 4).answer Req.host addr.toNat)) ∧
     (∀ r, s.hostUp = true → s.tlpKind addr.toNat n = .mem → r = s.hostPieces (splitTlp addr.toNat n 0 n) → exec (.hostRead addr n) s = .next (r.2.answer Req.host addr.toNat r.1))) ∧
  -- hostUnsupported
  (∀ (s : State), (s.hostUp = true → exec .hostUnsupported s = .next (s.deny Req.host 0)) ∧ (s.hostUp = false → exec .hostUnsupported s = .next s)) ∧
  -- flr
  (∀ (s : State), (s.hostUp = true → exec .flr s = .next s.hostReset) ∧ (s.hostUp = false → exec .flr s = .next s)) ∧
  -- perst
  (∀ (s : State), exec .perst s = .next (((s.hostReset.setb P.host F.HOST_STATUS_LINK_UP false).setf P.host F.HOST_STATUS_WIDTH 0).setf P.host F.HOST_STATUS_SPEED 0)) ∧
  -- pcieLinkDown
  (∀ (s : State), (s.hostUp = true → exec .pcieLinkDown s = .next (((s.hostReset.setb P.host F.HOST_STATUS_LINK_UP false).setf P.host F.HOST_STATUS_WIDTH 0).setf P.host F.HOST_STATUS_SPEED 0)) ∧
     (s.hostUp = false → exec .pcieLinkDown s = .next s)) ∧
  -- pcieLinkUp
  (∀ (gen : Fin 3) (x2 : Bool) (s : State), (s.stage = 0 → exec (.pcieLinkUp gen x2) s = .next s) ∧
     (s.stage ≠ 0 → exec (.pcieLinkUp gen x2) s = .next (((s.setb P.host F.HOST_STATUS_LINK_UP true).setf P.host F.HOST_STATUS_WIDTH (1 + x2.toNat)).setf P.host F.HOST_STATUS_SPEED (gen + 1)))) ∧
  -- pcieConfigWrite
  (∀ (bme msix fmask : Bool) (s : State), (s.hostUp = false → exec (.pcieConfigWrite bme msix fmask) s = .next s) ∧
     (s.hostUp = true → exec (.pcieConfigWrite bme msix fmask) s = .next
       (((s.setb P.host F.HOST_STATUS_BME bme).setb P.host F.HOST_STATUS_MSIX_EN msix).setb P.host F.HOST_STATUS_FMASK fmask).sendPending)) ∧
  -- msixUnmask
  (∀ (v : Fin 64) (s : State), exec (.msixUnmask v) s = .next (s.writeReg Req.host (P.host + R.HOST_MSIX_CTRL v) 0)) ∧
  -- dmaTmo
  (∀ (s : State), (∀ (d : Fin 8) (desc : Option (BitVec 256)), s.nqHost d = false → exec (.dmaTmo (.tx d desc)) s = .next s) ∧
     (∀ (d : Fin 8) (desc : Option (BitVec 256)), s.nqHost d = true → exec (.dmaTmo (.tx d desc)) s = .next (s.txFetch d ⟨desc, none⟩)) ∧
     (∀ (d : Fin 8), (s.nqHost d = false ∨ s.flag (P.netq d) F.NQ_CTRL_RX_EN = false ∨ bits s.net.stopR d 1 ≠ 0) → exec (.dmaTmo (.rx d)) s = .next s) ∧
     (∀ (d : Fin 8), s.nqHost d = true → s.flag (P.netq d) F.NQ_CTRL_RX_EN = true → s.rd (P.netq d + R.NQ_RX_HEAD) ≠ s.rd (P.netq d + R.NQ_RX_TAIL) % 2 ^ 10 → bits s.net.stopR d 1 = 0 →
       exec (.dmaTmo (.rx d)) s = .next ((s.dmaErr E.host_DMA_TMO d (s.rd64 (P.netq d) R.NQ_RX_BASE_LO / 32 * 32 + 32 * s.rd (P.netq d + R.NQ_RX_HEAD)) (Req.queue d) false).setNet fun n =>
         { n with stopR := n.stopR ||| 2 ^ d.val })) ∧
     (s.boot.job = none → exec (.dmaTmo .amber) s = .next s) ∧
     (∀ v, s.boot.job = some v → bits v 24 4 = 1 → s.flag P.amber F.AMBER_SRC_HI_HOST = true →
       exec (.dmaTmo .amber) s = .next ((s.dmaErr E.host_DMA_TMO 0 s.copySrc Req.boot false).amberResult 7))) ∧
  -- mgmtRead
  (∀ (p : Fin 4) (src : BitVec 48) (body : List Byte) (ok : Bool) (tag : BitVec 128) (s : State),
     (field body 0 1 % 16 ≠ 1 → exec (.mgmtRead p src body ok tag) s = .next s) ∧
     ((s.flag P.host F.HOST_MGMT_CTRL_EN = false ∨ s.stage < 2) → exec (.mgmtRead p src body ok tag) s = .next s) ∧
     (field body 0 1 % 16 = 1 → s.flag P.host F.HOST_MGMT_CTRL_EN = true → 2 ≤ s.stage →
       exec (.mgmtRead p src body ok tag) s = .next ((s.setMgmt fun m => { m with todo := m.todo ++ [⟨p, src.toNat, body, ok, tag.toNat⟩] }).mgmtRun 68))) ∧
  -- mgmtWrite
  (∀ (p : Fin 4) (src : BitVec 48) (body : List Byte) (ok : Bool) (tag : BitVec 128) (s : State),
     (field body 0 1 % 16 ≠ 2 → exec (.mgmtWrite p src body ok tag) s = .next s) ∧
     ((s.flag P.host F.HOST_MGMT_CTRL_EN = false ∨ s.stage < 2) → exec (.mgmtWrite p src body ok tag) s = .next s) ∧
     (field body 0 1 % 16 = 2 → s.flag P.host F.HOST_MGMT_CTRL_EN = true → 2 ≤ s.stage →
       exec (.mgmtWrite p src body ok tag) s = .next ((s.setMgmt fun m => { m with todo := m.todo ++ [⟨p, src.toNat, body, ok, tag.toNat⟩] }).mgmtRun 68))) ∧
  -- mgmtStatus
  (∀ (p : Fin 4) (src : BitVec 48) (body : List Byte) (ok : Bool) (tag : BitVec 128) (s : State),
     ((field body 0 1 % 16 = 1 ∨ field body 0 1 % 16 = 2) → exec (.mgmtStatus p src body ok tag) s = .next s) ∧
     ((s.flag P.host F.HOST_MGMT_CTRL_EN = false ∨ s.stage < 2) → exec (.mgmtStatus p src body ok tag) s = .next s) ∧
     (field body 0 1 % 16 ≠ 1 → field body 0 1 % 16 ≠ 2 → s.flag P.host F.HOST_MGMT_CTRL_EN = true → 2 ≤ s.stage →
       exec (.mgmtStatus p src body ok tag) s = .next ((s.setMgmt fun m => { m with todo := m.todo ++ [⟨p, src.toNat, body, ok, tag.toNat⟩] }).mgmtRun 68)))

/-- The management agent's checks, one payload at a time: shape and peer and tag, epoch, sequence, duplicates (R441). -/
def Obligations.ManagementChecks : Prop :=
  (∀ (f : MgmtFrame) (s : State) (n : Nat), s.power.save = none → s.power.wait = false → s.mgmt.job = none → s.mgmt.todo = [f] →
     (f.formed = false ∨ f.tagOk = false ∨ ((s.rd (P.host + R.HOST_MGMT_PEER_LO) + s.rd (P.host + R.HOST_MGMT_PEER_HI) % 2 ^ 16 * 2 ^ 32) ≠ 0 ∧
         (s.rd (P.host + R.HOST_MGMT_PEER_LO) + s.rd (P.host + R.HOST_MGMT_PEER_HI) % 2 ^ 16 * 2 ^ 32) ≠ f.src) ∨
       (f.type ≠ 3 ∧ (field f.body 12 4 ≠ s.mgmtEpoch ∨ f.seq < s.rd (P.host + R.HOST_MGMT_SEQ) ∨
         (f.seq = s.rd (P.host + R.HOST_MGMT_SEQ) ∧ f.body.take f.size ≠ s.mgmt.last)))) →
     (s.mgmtRun (n + 2)).mgmt.job = none ∧ (s.mgmtRun (n + 2)).mgmt.todo = [] ∧ (s.mgmtRun (n + 2)).mgmt.reply = s.mgmt.reply ∧ (s.mgmtRun (n + 2)).mgmt.last = s.mgmt.last ∧
       (s.mgmtRun (n + 2)).pageErr P.host E.host_MGMT_REJ = true ∧
       (s.mgmtRun (n + 2)).rd (P.host + R.HOST_MGMT_SEQ) = s.rd (P.host + R.HOST_MGMT_SEQ) ∧ (s.mgmtRun (n + 2)).mem = s.mem)

/-- The service stages, boot, the image loader and the restore (R29, R174, R398, R412, R413, R421). Rests on log 7, 8, 43. -/
def Obligations.BootAndStages : Prop :=
  -- enterSafeHold
  (∀ (s : State), ((s.stage ≠ 0 ∨ s.power.held = true ∨ s.flag P.clk F.CLK_STATUS_SYS_LOCK = false ∨ s.safety.flintOk = false) → exec .enterSafeHold s = .next s) ∧
     (s.stage = 0 → s.power.held = false → s.flag P.clk F.CLK_STATUS_SYS_LOCK = true → s.safety.flintOk = true →
       exec .enterSafeHold s = .next ((s.setf P.sys F.SYS_STATE_STATE 1).wr (P.sys + R.SYS_T_SAFE) (min ((s.now - s.power.rel) * 2 / 625) (2 ^ 32 - 1))))) ∧
  -- enterBasic
  (∀ (a b : ImageCheck) (s u : State), u = (if s.readBoot.boot.booted.isNone then s.readBoot.selectSlot a b else s.readBoot) →
     (s.stage ≠ 1 → exec (.enterBasic a b) s = .next s) ∧
     (s.stage = 1 → u.boot.booted = none → exec (.enterBasic a b) s = .next u) ∧
     (∀ x, s.stage = 1 → u.boot.booted = some x → u.basicReady = false → exec (.enterBasic a b) s = .next u) ∧
     (∀ x, s.stage = 1 → u.boot.booted = some x → u.basicReady = true → exec (.enterBasic a b) s = .next
       ((((u.setf P.sys F.SYS_STATE_STATE 2).wr (P.sys + R.SYS_T_BASIC) (min ((u.now - u.power.rel) * 2 / 625) (2 ^ 32 - 1))).wdogKick.safeAct).applyBasic (u.typeBytes x 1)))) ∧
  -- imageLoad
  (∀ (x other : ImageCheck) (s : State), ((s.boot.booted = none ∨ s.stage ≠ 2 ∨ s.power.applied = true ∨ s.power.failed = true) → exec (.imageLoad x other) s = .next s) ∧
     (∀ slot l, s.boot.booted = some slot → s.stage = 2 → s.power.applied = false → s.power.failed = false → l = s.blocks slot →
       exec (.imageLoad x other) s = .next (s.applyBlocks slot x (s.headerCode (!slot) other == 0)
         (l.filter (fun e => e.2.type == 2) ++ l.filter (fun e => e.2.type == 5) ++ l.filter fun e => e.2.type == 3 || e.2.type == 4 || e.2.type == 6)))) ∧
  -- restore
  (∀ (us : BitVec 16) (s : State), ((s.stage ≠ 2 ∨ s.power.applied = false ∨ s.power.restored = true) → exec (.restore us) s = .next s) ∧
     (s.stage = 2 → s.power.applied = true → s.power.restored = false → s.restoreCode = 1 →
       exec (.restore us) s = .next ((s.restore us.toNat).setPower fun p => { p with restored := true })) ∧
     (s.stage = 2 → s.power.applied = true → s.power.restored = false → s.restoreCode ≠ 1 →
       exec (.restore us) s = .next (((s.wr (P.pwr + R.PWR_REST_STAT) (s.restoreCode * 2 ^ 28)).err P.pwr E.pwr_REST_SKIP).setPower fun p => { p with restored := true }))) ∧
  -- enterFull
  (∀ (s : State), (s.stage = 2 → s.power.applied = true → s.power.restored = true → s.allCal = true → s.timeLocked = true → s.allAligned = true →
       exec .enterFull s = .next ((s.setf P.sys F.SYS_STATE_STATE 3).wr (P.sys + R.SYS_T_FULL) (min ((s.now - s.power.rel) * 2 / 625) (2 ^ 32 - 1)))) ∧
     ((s.stage ≠ 2 ∨ s.power.applied = false ∨ s.power.restored = false ∨ s.allCal = false ∨ s.timeLocked = false ∨ s.allAligned = false) → exec .enterFull s = .next s))
end

