-- ==== Sys2Proof/Laws/Assoc.lean ====
section
/-! SUPPORT. Sparse lists: what a read gives after a write, and that every operation keeps the canonical form. -/
namespace Sys2Proof.Machine
open Sys2Proof

variable {α : Type}

/-- A key that no entry has reads as the default. -/
theorem Assoc.get_absent (d : Nat → α) (m : List (Nat × α)) (k : Nat) (h : ∀ e ∈ m, e.1 ≠ k) : Assoc.get d m k = d k := by
  induction m with
  | nil => rfl
  | cons e m ih =>
    have he : k ≠ e.1 := fun x => h e (List.mem_cons_self ..) x.symm
    simp only [Assoc.get, he, if_false]
    exact ih fun x hx => h x (List.mem_cons_of_mem _ hx)

/-- Dropping entries by key leaves the others. -/
theorem Assoc.get_filter (d : Nat → α) (m : List (Nat × α)) (p : Nat → Bool) (k : Nat) :
    Assoc.get d (m.filter fun e => p e.1) k = if p k then Assoc.get d m k else d k := by
  induction m with
  | nil => simp [Assoc.get]
  | cons e m ih =>
    obtain ⟨j, v⟩ := e
    by_cases hj : p j = true
    · simp only [List.filter_cons, hj, if_true, Assoc.get, ih]
      by_cases hk : k = j
      · subst hk; simp [hj]
      · simp [hk]
    · have hf : ((j, v) :: m).filter (fun e => p e.1) = m.filter fun e => p e.1 := List.filter_cons_of_neg (by simpa using hj)
      rw [hf, ih]
      by_cases hk : k = j
      · subst hk; simp [hj]
      · simp [Assoc.get, hk]

/-- An inserted entry is read; the others stay, where the key was not listed. -/
theorem Assoc.get_insert (d : Nat → α) (m : List (Nat × α)) (k j : Nat) (v : α) (h : ∀ e ∈ m, e.1 ≠ k) :
    Assoc.get d (Assoc.insert k v m) j = if j = k then v else Assoc.get d m j := by
  induction m with
  | nil => simp [Assoc.insert, Assoc.get]
  | cons e m ih =>
    obtain ⟨i, u⟩ := e
    have hi : i ≠ k := h (i, u) (List.mem_cons_self ..)
    unfold Assoc.insert
    split
    · simp [Assoc.get]
    · simp only [Assoc.get, ih fun x hx => h x (List.mem_cons_of_mem _ hx)]
      by_cases hj : j = i
      · subst hj; simp [hi]
      · simp [hj]

/-- Read after write. -/
theorem Assoc.get_put [DecidableEq α] (d : Nat → α) (m : List (Nat × α)) (k j : Nat) (v : α) :
    Assoc.get d (Assoc.put d m k v) j = if j = k then v else Assoc.get d m j := by
  have hf : Assoc.get d (m.filter fun e => decide (e.1 ≠ k)) j = if (decide (j ≠ k)) = true then Assoc.get d m j else d j :=
    Assoc.get_filter d m (fun x => decide (x ≠ k)) j
  unfold Assoc.put
  dsimp only
  split
  · rename_i hv
    rw [hf]
    by_cases hj : j = k
    · subst hj; simp [hv]
    · simp [hj]
  · rw [Assoc.get_insert]
    · rw [hf]
      by_cases hj : j = k <;> simp [hj]
    · intro e he
      simpa using (List.mem_filter.mp he).2

/-- The canonical form, entry by entry. -/
theorem Assoc.wf_cons [DecidableEq α] (d : Nat → α) (k : Nat) (v : α) (m : List (Nat × α)) :
    Assoc.wf d ((k, v) :: m) = true ↔ v ≠ d k ∧ (∀ e ∈ m, k < e.1) ∧ Assoc.wf d m = true := by
  simp [Assoc.wf, and_assoc]

theorem Assoc.wf_filter [DecidableEq α] (d : Nat → α) (p : Nat × α → Bool) (m : List (Nat × α)) (h : Assoc.wf d m = true) :
    Assoc.wf d (m.filter p) = true := by
  induction m with
  | nil => rfl
  | cons e m ih =>
    obtain ⟨k, v⟩ := e
    obtain ⟨hv, hk, hm⟩ := (Assoc.wf_cons ..).mp h
    rw [List.filter_cons]
    split
    · exact (Assoc.wf_cons ..).mpr ⟨hv, fun x hx => hk x (List.mem_filter.mp hx).1, ih hm⟩
    · exact ih hm

theorem Assoc.mem_insert (k : Nat) (v : α) (m : List (Nat × α)) (e : Nat × α) (h : e ∈ Assoc.insert k v m) : e = (k, v) ∨ e ∈ m := by
  induction m with
  | nil => simpa [Assoc.insert] using h
  | cons x m ih =>
    unfold Assoc.insert at h
    split at h
    · simpa using h
    · rcases List.mem_cons.mp h with h | h
      · exact .inr (h ▸ List.mem_cons_self ..)
      · rcases ih h with h | h
        · exact .inl h
        · exact .inr (List.mem_cons_of_mem _ h)

theorem Assoc.wf_insert [DecidableEq α] (d : Nat → α) (k : Nat) (v : α) (m : List (Nat × α)) (h : Assoc.wf d m = true)
    (hv : v ≠ d k) (hk : ∀ e ∈ m, e.1 ≠ k) : Assoc.wf d (Assoc.insert k v m) = true := by
  induction m with
  | nil => simp [Assoc.insert, Assoc.wf, hv]
  | cons e m ih =>
    obtain ⟨j, u⟩ := e
    obtain ⟨hu, hj, hm⟩ := (Assoc.wf_cons ..).mp h
    have hne : j ≠ k := hk (j, u) (List.mem_cons_self ..)
    unfold Assoc.insert
    split
    · rename_i hlt
      refine (Assoc.wf_cons ..).mpr ⟨hv, fun x hx => ?_, h⟩
      rcases List.mem_cons.mp hx with rfl | hx
      · exact hlt
      · exact Nat.lt_trans hlt (hj x hx)
    · rename_i hlt
      refine (Assoc.wf_cons ..).mpr ⟨hu, fun x hx => ?_, ih hm fun x hx => hk x (List.mem_cons_of_mem _ hx)⟩
      rcases Assoc.mem_insert _ _ _ _ hx with rfl | hx
      · show j < k; omega
      · exact hj x hx

/-- A write keeps the canonical form. -/
theorem Assoc.wf_put [DecidableEq α] (d : Nat → α) (m : List (Nat × α)) (k : Nat) (v : α) (h : Assoc.wf d m = true) :
    Assoc.wf d (Assoc.put d m k v) = true := by
  unfold Assoc.put
  dsimp only
  split
  · exact Assoc.wf_filter _ _ _ h
  · rename_i hv
    exact Assoc.wf_insert _ _ _ _ (Assoc.wf_filter _ _ _ h) hv fun e he => by simpa using (List.mem_filter.mp he).2

/-- Two canonical lists, the keys of the first below those of the second. -/
theorem Assoc.wf_append [DecidableEq α] (d : Nat → α) (m n : List (Nat × α)) (hm : Assoc.wf d m = true) (hn : Assoc.wf d n = true)
    (h : ∀ x ∈ m, ∀ y ∈ n, x.1 < y.1) : Assoc.wf d (m ++ n) = true := by
  induction m with
  | nil => exact hn
  | cons e m ih =>
    obtain ⟨k, v⟩ := e
    obtain ⟨hv, hk, hm⟩ := (Assoc.wf_cons ..).mp hm
    refine (Assoc.wf_cons ..).mpr ⟨hv, fun x hx => ?_, ih hm fun x hx => h x (List.mem_cons_of_mem _ hx)⟩
    rcases List.mem_append.mp hx with hx | hx
    · exact hk x hx
    · exact h (k, v) (List.mem_cons_self ..) x hx

/-- A canonical byte list moved by a distance that keeps the order. -/
theorem Assoc.wf_shift (f : Nat → Nat) (m : Mem) (h : Memory.wf m = true) (hf : ∀ x ∈ m, ∀ y ∈ m, x.1 < y.1 → f x.1 < f y.1) :
    Memory.wf (m.map fun e => (f e.1, e.2)) = true := by
  unfold Memory.wf at *
  induction m with
  | nil => rfl
  | cons e m ih =>
    obtain ⟨k, v⟩ := e
    obtain ⟨hv, hk, hm⟩ := (Assoc.wf_cons ..).mp h
    rw [List.map_cons]
    refine (Assoc.wf_cons ..).mpr ⟨hv, fun x hx => ?_, ih hm fun x hx y hy => hf x (List.mem_cons_of_mem _ hx) y (List.mem_cons_of_mem _ hy)⟩
    obtain ⟨y, hy, rfl⟩ := List.mem_map.mp hx
    exact hf (k, v) (List.mem_cons_self ..) y (List.mem_cons_of_mem _ hy) (hk y hy)

end Sys2Proof.Machine
end

