-- ==== Sys2Proof/Laws/State.lean ====
section
/-! SUPPORT. What each update of State leaves: one lemma per field and update, each true by evaluation. They are stated with `id rfl`
so that a rewriting by them is a step of its own, and the kernel never evaluates the addresses in the states it compares. -/
namespace Sys2Proof.Machine
open Sys2Proof

@[simp] theorem State.wr_pending (s : State) (a v : Nat) : (s.wr a v).pending = s.pending := id rfl
@[simp] theorem State.wr_free (s : State) (a v : Nat) : (s.wr a v).free = s.free := id rfl
@[simp] theorem State.wr_resp (s : State) (a v : Nat) : (s.wr a v).resp = s.resp := id rfl
@[simp] theorem State.wr_dev (s : State) (a v : Nat) : (s.wr a v).dev = s.dev := id rfl
@[simp] theorem State.wr_shadow (s : State) (a v : Nat) : (s.wr a v).shadow = s.shadow := id rfl
@[simp] theorem State.wr_mem (s : State) (a v : Nat) : (s.wr a v).mem = s.mem := id rfl
@[simp] theorem State.wr_amber (s : State) (a v : Nat) : (s.wr a v).amber = s.amber := id rfl
@[simp] theorem State.wr_time (s : State) (a v : Nat) : (s.wr a v).time = s.time := id rfl
@[simp] theorem State.wr_slates (s : State) (a v : Nat) : (s.wr a v).slates = s.slates := id rfl
@[simp] theorem State.wr_axes (s : State) (a v : Nat) : (s.wr a v).axes = s.axes := id rfl
@[simp] theorem State.wr_evlog (s : State) (a v : Nat) : (s.wr a v).evlog = s.evlog := id rfl
@[simp] theorem State.wr_fsch (s : State) (a v : Nat) : (s.wr a v).fsch = s.fsch := id rfl
@[simp] theorem State.wr_engines (s : State) (a v : Nat) : (s.wr a v).engines = s.engines := id rfl
@[simp] theorem State.wr_replies (s : State) (a v : Nat) : (s.wr a v).replies = s.replies := id rfl
@[simp] theorem State.wr_cleaning (s : State) (a v : Nat) : (s.wr a v).cleaning = s.cleaning := id rfl
@[simp] theorem State.wr_msi (s : State) (a v : Nat) : (s.wr a v).msi = s.msi := id rfl
@[simp] theorem State.wr_teeth (s : State) (a v : Nat) : (s.wr a v).teeth = s.teeth := id rfl
@[simp] theorem State.wr_corrections (s : State) (a v : Nat) : (s.wr a v).corrections = s.corrections := id rfl
@[simp] theorem State.wr_ecc (s : State) (a v : Nat) : (s.wr a v).ecc = s.ecc := id rfl
@[simp] theorem State.wr_trunks (s : State) (a v : Nat) : (s.wr a v).trunks = s.trunks := id rfl
@[simp] theorem State.wr_latches (s : State) (a v : Nat) : (s.wr a v).latches = s.latches := id rfl
@[simp] theorem State.wr_net (s : State) (a v : Nat) : (s.wr a v).net = s.net := id rfl
@[simp] theorem State.wr_track (s : State) (a v : Nat) : (s.wr a v).track = s.track := id rfl
@[simp] theorem State.wr_safety (s : State) (a v : Nat) : (s.wr a v).safety = s.safety := id rfl
@[simp] theorem State.wr_capture (s : State) (a v : Nat) : (s.wr a v).capture = s.capture := id rfl
@[simp] theorem State.wr_fault (s : State) (a v : Nat) : (s.wr a v).fault = s.fault := id rfl
@[simp] theorem State.wr_boot (s : State) (a v : Nat) : (s.wr a v).boot = s.boot := id rfl
@[simp] theorem State.wr_power (s : State) (a v : Nat) : (s.wr a v).power = s.power := id rfl
@[simp] theorem State.wr_mgmt (s : State) (a v : Nat) : (s.wr a v).mgmt = s.mgmt := id rfl
@[simp] theorem State.wr_sh (s : State) (a v : Nat) (x : Nat) : (s.wr a v).sh x = s.sh x := id rfl
@[simp] theorem State.wr_abyte (s : State) (a v : Nat) (x : Nat) : (s.wr a v).abyte x = s.abyte x := id rfl
@[simp] theorem State.wr_byte (s : State) (a v : Nat) (x : Nat) : (s.wr a v).byte x = s.byte x := id rfl
@[simp] theorem State.wr_now (s : State) (a v : Nat) : (s.wr a v).now = s.now := id rfl
@[simp] theorem State.keepRegs_pending (s : State) (p : Nat → Bool) : (s.keepRegs p).pending = s.pending := id rfl
@[simp] theorem State.keepRegs_free (s : State) (p : Nat → Bool) : (s.keepRegs p).free = s.free := id rfl
@[simp] theorem State.keepRegs_resp (s : State) (p : Nat → Bool) : (s.keepRegs p).resp = s.resp := id rfl
@[simp] theorem State.keepRegs_dev (s : State) (p : Nat → Bool) : (s.keepRegs p).dev = s.dev := id rfl
@[simp] theorem State.keepRegs_shadow (s : State) (p : Nat → Bool) : (s.keepRegs p).shadow = s.shadow := id rfl
@[simp] theorem State.keepRegs_mem (s : State) (p : Nat → Bool) : (s.keepRegs p).mem = s.mem := id rfl
@[simp] theorem State.keepRegs_amber (s : State) (p : Nat → Bool) : (s.keepRegs p).amber = s.amber := id rfl
@[simp] theorem State.keepRegs_time (s : State) (p : Nat → Bool) : (s.keepRegs p).time = s.time := id rfl
@[simp] theorem State.keepRegs_slates (s : State) (p : Nat → Bool) : (s.keepRegs p).slates = s.slates := id rfl
@[simp] theorem State.keepRegs_axes (s : State) (p : Nat → Bool) : (s.keepRegs p).axes = s.axes := id rfl
@[simp] theorem State.keepRegs_evlog (s : State) (p : Nat → Bool) : (s.keepRegs p).evlog = s.evlog := id rfl
@[simp] theorem State.keepRegs_fsch (s : State) (p : Nat → Bool) : (s.keepRegs p).fsch = s.fsch := id rfl
@[simp] theorem State.keepRegs_engines (s : State) (p : Nat → Bool) : (s.keepRegs p).engines = s.engines := id rfl
@[simp] theorem State.keepRegs_replies (s : State) (p : Nat → Bool) : (s.keepRegs p).replies = s.replies := id rfl
@[simp] theorem State.keepRegs_cleaning (s : State) (p : Nat → Bool) : (s.keepRegs p).cleaning = s.cleaning := id rfl
@[simp] theorem State.keepRegs_msi (s : State) (p : Nat → Bool) : (s.keepRegs p).msi = s.msi := id rfl
@[simp] theorem State.keepRegs_teeth (s : State) (p : Nat → Bool) : (s.keepRegs p).teeth = s.teeth := id rfl
@[simp] theorem State.keepRegs_corrections (s : State) (p : Nat → Bool) : (s.keepRegs p).corrections = s.corrections := id rfl
@[simp] theorem State.keepRegs_ecc (s : State) (p : Nat → Bool) : (s.keepRegs p).ecc = s.ecc := id rfl
@[simp] theorem State.keepRegs_trunks (s : State) (p : Nat → Bool) : (s.keepRegs p).trunks = s.trunks := id rfl
@[simp] theorem State.keepRegs_latches (s : State) (p : Nat → Bool) : (s.keepRegs p).latches = s.latches := id rfl
@[simp] theorem State.keepRegs_net (s : State) (p : Nat → Bool) : (s.keepRegs p).net = s.net := id rfl
@[simp] theorem State.keepRegs_track (s : State) (p : Nat → Bool) : (s.keepRegs p).track = s.track := id rfl
@[simp] theorem State.keepRegs_safety (s : State) (p : Nat → Bool) : (s.keepRegs p).safety = s.safety := id rfl
@[simp] theorem State.keepRegs_capture (s : State) (p : Nat → Bool) : (s.keepRegs p).capture = s.capture := id rfl
@[simp] theorem State.keepRegs_fault (s : State) (p : Nat → Bool) : (s.keepRegs p).fault = s.fault := id rfl
@[simp] theorem State.keepRegs_boot (s : State) (p : Nat → Bool) : (s.keepRegs p).boot = s.boot := id rfl
@[simp] theorem State.keepRegs_power (s : State) (p : Nat → Bool) : (s.keepRegs p).power = s.power := id rfl
@[simp] theorem State.keepRegs_mgmt (s : State) (p : Nat → Bool) : (s.keepRegs p).mgmt = s.mgmt := id rfl
@[simp] theorem State.keepRegs_sh (s : State) (p : Nat → Bool) (x : Nat) : (s.keepRegs p).sh x = s.sh x := id rfl
@[simp] theorem State.keepRegs_abyte (s : State) (p : Nat → Bool) (x : Nat) : (s.keepRegs p).abyte x = s.abyte x := id rfl
@[simp] theorem State.keepRegs_byte (s : State) (p : Nat → Bool) (x : Nat) : (s.keepRegs p).byte x = s.byte x := id rfl
@[simp] theorem State.keepRegs_now (s : State) (p : Nat → Bool) : (s.keepRegs p).now = s.now := id rfl
@[simp] theorem State.setsh_pending (s : State) (a v : Nat) : (s.setsh a v).pending = s.pending := id rfl
@[simp] theorem State.setsh_free (s : State) (a v : Nat) : (s.setsh a v).free = s.free := id rfl
@[simp] theorem State.setsh_resp (s : State) (a v : Nat) : (s.setsh a v).resp = s.resp := id rfl
@[simp] theorem State.setsh_dev (s : State) (a v : Nat) : (s.setsh a v).dev = s.dev := id rfl
@[simp] theorem State.setsh_regs (s : State) (a v : Nat) : (s.setsh a v).regs = s.regs := id rfl
@[simp] theorem State.setsh_mem (s : State) (a v : Nat) : (s.setsh a v).mem = s.mem := id rfl
@[simp] theorem State.setsh_amber (s : State) (a v : Nat) : (s.setsh a v).amber = s.amber := id rfl
@[simp] theorem State.setsh_time (s : State) (a v : Nat) : (s.setsh a v).time = s.time := id rfl
@[simp] theorem State.setsh_slates (s : State) (a v : Nat) : (s.setsh a v).slates = s.slates := id rfl
@[simp] theorem State.setsh_axes (s : State) (a v : Nat) : (s.setsh a v).axes = s.axes := id rfl
@[simp] theorem State.setsh_evlog (s : State) (a v : Nat) : (s.setsh a v).evlog = s.evlog := id rfl
@[simp] theorem State.setsh_fsch (s : State) (a v : Nat) : (s.setsh a v).fsch = s.fsch := id rfl
@[simp] theorem State.setsh_engines (s : State) (a v : Nat) : (s.setsh a v).engines = s.engines := id rfl
@[simp] theorem State.setsh_replies (s : State) (a v : Nat) : (s.setsh a v).replies = s.replies := id rfl
@[simp] theorem State.setsh_cleaning (s : State) (a v : Nat) : (s.setsh a v).cleaning = s.cleaning := id rfl
@[simp] theorem State.setsh_msi (s : State) (a v : Nat) : (s.setsh a v).msi = s.msi := id rfl
@[simp] theorem State.setsh_teeth (s : State) (a v : Nat) : (s.setsh a v).teeth = s.teeth := id rfl
@[simp] theorem State.setsh_corrections (s : State) (a v : Nat) : (s.setsh a v).corrections = s.corrections := id rfl
@[simp] theorem State.setsh_ecc (s : State) (a v : Nat) : (s.setsh a v).ecc = s.ecc := id rfl
@[simp] theorem State.setsh_trunks (s : State) (a v : Nat) : (s.setsh a v).trunks = s.trunks := id rfl
@[simp] theorem State.setsh_latches (s : State) (a v : Nat) : (s.setsh a v).latches = s.latches := id rfl
@[simp] theorem State.setsh_net (s : State) (a v : Nat) : (s.setsh a v).net = s.net := id rfl
@[simp] theorem State.setsh_track (s : State) (a v : Nat) : (s.setsh a v).track = s.track := id rfl
@[simp] theorem State.setsh_safety (s : State) (a v : Nat) : (s.setsh a v).safety = s.safety := id rfl
@[simp] theorem State.setsh_capture (s : State) (a v : Nat) : (s.setsh a v).capture = s.capture := id rfl
@[simp] theorem State.setsh_fault (s : State) (a v : Nat) : (s.setsh a v).fault = s.fault := id rfl
@[simp] theorem State.setsh_boot (s : State) (a v : Nat) : (s.setsh a v).boot = s.boot := id rfl
@[simp] theorem State.setsh_power (s : State) (a v : Nat) : (s.setsh a v).power = s.power := id rfl
@[simp] theorem State.setsh_mgmt (s : State) (a v : Nat) : (s.setsh a v).mgmt = s.mgmt := id rfl
@[simp] theorem State.setsh_rd (s : State) (a v : Nat) (x : Nat) : (s.setsh a v).rd x = s.rd x := id rfl
@[simp] theorem State.setsh_fld (s : State) (a v : Nat) (x : Nat) (g : Fld) : (s.setsh a v).fld x g = s.fld x g := id rfl
@[simp] theorem State.setsh_flag (s : State) (a v : Nat) (x : Nat) (g : Fld) : (s.setsh a v).flag x g = s.flag x g := id rfl
@[simp] theorem State.setsh_rbit (s : State) (a v : Nat) (x y z : Nat) : (s.setsh a v).rbit x y z = s.rbit x y z := id rfl
@[simp] theorem State.setsh_abyte (s : State) (a v : Nat) (x : Nat) : (s.setsh a v).abyte x = s.abyte x := id rfl
@[simp] theorem State.setsh_byte (s : State) (a v : Nat) (x : Nat) : (s.setsh a v).byte x = s.byte x := id rfl
@[simp] theorem State.setsh_now (s : State) (a v : Nat) : (s.setsh a v).now = s.now := id rfl
@[simp] theorem State.setByte_pending (s : State) (a : Nat) (v : Byte) : (s.setByte a v).pending = s.pending := id rfl
@[simp] theorem State.setByte_free (s : State) (a : Nat) (v : Byte) : (s.setByte a v).free = s.free := id rfl
@[simp] theorem State.setByte_resp (s : State) (a : Nat) (v : Byte) : (s.setByte a v).resp = s.resp := id rfl
@[simp] theorem State.setByte_dev (s : State) (a : Nat) (v : Byte) : (s.setByte a v).dev = s.dev := id rfl
@[simp] theorem State.setByte_regs (s : State) (a : Nat) (v : Byte) : (s.setByte a v).regs = s.regs := id rfl
@[simp] theorem State.setByte_shadow (s : State) (a : Nat) (v : Byte) : (s.setByte a v).shadow = s.shadow := id rfl
@[simp] theorem State.setByte_amber (s : State) (a : Nat) (v : Byte) : (s.setByte a v).amber = s.amber := id rfl
@[simp] theorem State.setByte_time (s : State) (a : Nat) (v : Byte) : (s.setByte a v).time = s.time := id rfl
@[simp] theorem State.setByte_slates (s : State) (a : Nat) (v : Byte) : (s.setByte a v).slates = s.slates := id rfl
@[simp] theorem State.setByte_axes (s : State) (a : Nat) (v : Byte) : (s.setByte a v).axes = s.axes := id rfl
@[simp] theorem State.setByte_evlog (s : State) (a : Nat) (v : Byte) : (s.setByte a v).evlog = s.evlog := id rfl
@[simp] theorem State.setByte_fsch (s : State) (a : Nat) (v : Byte) : (s.setByte a v).fsch = s.fsch := id rfl
@[simp] theorem State.setByte_engines (s : State) (a : Nat) (v : Byte) : (s.setByte a v).engines = s.engines := id rfl
@[simp] theorem State.setByte_replies (s : State) (a : Nat) (v : Byte) : (s.setByte a v).replies = s.replies := id rfl
@[simp] theorem State.setByte_cleaning (s : State) (a : Nat) (v : Byte) : (s.setByte a v).cleaning = s.cleaning := id rfl
@[simp] theorem State.setByte_msi (s : State) (a : Nat) (v : Byte) : (s.setByte a v).msi = s.msi := id rfl
@[simp] theorem State.setByte_teeth (s : State) (a : Nat) (v : Byte) : (s.setByte a v).teeth = s.teeth := id rfl
@[simp] theorem State.setByte_corrections (s : State) (a : Nat) (v : Byte) : (s.setByte a v).corrections = s.corrections := id rfl
@[simp] theorem State.setByte_trunks (s : State) (a : Nat) (v : Byte) : (s.setByte a v).trunks = s.trunks := id rfl
@[simp] theorem State.setByte_latches (s : State) (a : Nat) (v : Byte) : (s.setByte a v).latches = s.latches := id rfl
@[simp] theorem State.setByte_net (s : State) (a : Nat) (v : Byte) : (s.setByte a v).net = s.net := id rfl
@[simp] theorem State.setByte_track (s : State) (a : Nat) (v : Byte) : (s.setByte a v).track = s.track := id rfl
@[simp] theorem State.setByte_safety (s : State) (a : Nat) (v : Byte) : (s.setByte a v).safety = s.safety := id rfl
@[simp] theorem State.setByte_capture (s : State) (a : Nat) (v : Byte) : (s.setByte a v).capture = s.capture := id rfl
@[simp] theorem State.setByte_fault (s : State) (a : Nat) (v : Byte) : (s.setByte a v).fault = s.fault := id rfl
@[simp] theorem State.setByte_boot (s : State) (a : Nat) (v : Byte) : (s.setByte a v).boot = s.boot := id rfl
@[simp] theorem State.setByte_power (s : State) (a : Nat) (v : Byte) : (s.setByte a v).power = s.power := id rfl
@[simp] theorem State.setByte_mgmt (s : State) (a : Nat) (v : Byte) : (s.setByte a v).mgmt = s.mgmt := id rfl
@[simp] theorem State.setByte_rd (s : State) (a : Nat) (v : Byte) (x : Nat) : (s.setByte a v).rd x = s.rd x := id rfl
@[simp] theorem State.setByte_fld (s : State) (a : Nat) (v : Byte) (x : Nat) (g : Fld) : (s.setByte a v).fld x g = s.fld x g := id rfl
@[simp] theorem State.setByte_flag (s : State) (a : Nat) (v : Byte) (x : Nat) (g : Fld) : (s.setByte a v).flag x g = s.flag x g := id rfl
@[simp] theorem State.setByte_rbit (s : State) (a : Nat) (v : Byte) (x y z : Nat) : (s.setByte a v).rbit x y z = s.rbit x y z := id rfl
@[simp] theorem State.setByte_sh (s : State) (a : Nat) (v : Byte) (x : Nat) : (s.setByte a v).sh x = s.sh x := id rfl
@[simp] theorem State.setByte_abyte (s : State) (a : Nat) (v : Byte) (x : Nat) : (s.setByte a v).abyte x = s.abyte x := id rfl
@[simp] theorem State.setByte_now (s : State) (a : Nat) (v : Byte) : (s.setByte a v).now = s.now := id rfl
@[simp] theorem State.clearMem_pending (s : State) (a n : Nat) : (s.clearMem a n).pending = s.pending := id rfl
@[simp] theorem State.clearMem_free (s : State) (a n : Nat) : (s.clearMem a n).free = s.free := id rfl
@[simp] theorem State.clearMem_resp (s : State) (a n : Nat) : (s.clearMem a n).resp = s.resp := id rfl
@[simp] theorem State.clearMem_dev (s : State) (a n : Nat) : (s.clearMem a n).dev = s.dev := id rfl
@[simp] theorem State.clearMem_regs (s : State) (a n : Nat) : (s.clearMem a n).regs = s.regs := id rfl
@[simp] theorem State.clearMem_shadow (s : State) (a n : Nat) : (s.clearMem a n).shadow = s.shadow := id rfl
@[simp] theorem State.clearMem_amber (s : State) (a n : Nat) : (s.clearMem a n).amber = s.amber := id rfl
@[simp] theorem State.clearMem_time (s : State) (a n : Nat) : (s.clearMem a n).time = s.time := id rfl
@[simp] theorem State.clearMem_slates (s : State) (a n : Nat) : (s.clearMem a n).slates = s.slates := id rfl
@[simp] theorem State.clearMem_axes (s : State) (a n : Nat) : (s.clearMem a n).axes = s.axes := id rfl
@[simp] theorem State.clearMem_evlog (s : State) (a n : Nat) : (s.clearMem a n).evlog = s.evlog := id rfl
@[simp] theorem State.clearMem_fsch (s : State) (a n : Nat) : (s.clearMem a n).fsch = s.fsch := id rfl
@[simp] theorem State.clearMem_engines (s : State) (a n : Nat) : (s.clearMem a n).engines = s.engines := id rfl
@[simp] theorem State.clearMem_replies (s : State) (a n : Nat) : (s.clearMem a n).replies = s.replies := id rfl
@[simp] theorem State.clearMem_cleaning (s : State) (a n : Nat) : (s.clearMem a n).cleaning = s.cleaning := id rfl
@[simp] theorem State.clearMem_msi (s : State) (a n : Nat) : (s.clearMem a n).msi = s.msi := id rfl
@[simp] theorem State.clearMem_teeth (s : State) (a n : Nat) : (s.clearMem a n).teeth = s.teeth := id rfl
@[simp] theorem State.clearMem_corrections (s : State) (a n : Nat) : (s.clearMem a n).corrections = s.corrections := id rfl
@[simp] theorem State.clearMem_trunks (s : State) (a n : Nat) : (s.clearMem a n).trunks = s.trunks := id rfl
@[simp] theorem State.clearMem_latches (s : State) (a n : Nat) : (s.clearMem a n).latches = s.latches := id rfl
@[simp] theorem State.clearMem_net (s : State) (a n : Nat) : (s.clearMem a n).net = s.net := id rfl
@[simp] theorem State.clearMem_track (s : State) (a n : Nat) : (s.clearMem a n).track = s.track := id rfl
@[simp] theorem State.clearMem_safety (s : State) (a n : Nat) : (s.clearMem a n).safety = s.safety := id rfl
@[simp] theorem State.clearMem_capture (s : State) (a n : Nat) : (s.clearMem a n).capture = s.capture := id rfl
@[simp] theorem State.clearMem_fault (s : State) (a n : Nat) : (s.clearMem a n).fault = s.fault := id rfl
@[simp] theorem State.clearMem_boot (s : State) (a n : Nat) : (s.clearMem a n).boot = s.boot := id rfl
@[simp] theorem State.clearMem_power (s : State) (a n : Nat) : (s.clearMem a n).power = s.power := id rfl
@[simp] theorem State.clearMem_mgmt (s : State) (a n : Nat) : (s.clearMem a n).mgmt = s.mgmt := id rfl
@[simp] theorem State.clearMem_rd (s : State) (a n : Nat) (x : Nat) : (s.clearMem a n).rd x = s.rd x := id rfl
@[simp] theorem State.clearMem_fld (s : State) (a n : Nat) (x : Nat) (g : Fld) : (s.clearMem a n).fld x g = s.fld x g := id rfl
@[simp] theorem State.clearMem_flag (s : State) (a n : Nat) (x : Nat) (g : Fld) : (s.clearMem a n).flag x g = s.flag x g := id rfl
@[simp] theorem State.clearMem_rbit (s : State) (a n : Nat) (x y z : Nat) : (s.clearMem a n).rbit x y z = s.rbit x y z := id rfl
@[simp] theorem State.clearMem_sh (s : State) (a n : Nat) (x : Nat) : (s.clearMem a n).sh x = s.sh x := id rfl
@[simp] theorem State.clearMem_abyte (s : State) (a n : Nat) (x : Nat) : (s.clearMem a n).abyte x = s.abyte x := id rfl
@[simp] theorem State.clearMem_now (s : State) (a n : Nat) : (s.clearMem a n).now = s.now := id rfl
@[simp] theorem State.setAbyte_pending (s : State) (a : Nat) (v : Byte) : (s.setAbyte a v).pending = s.pending := id rfl
@[simp] theorem State.setAbyte_free (s : State) (a : Nat) (v : Byte) : (s.setAbyte a v).free = s.free := id rfl
@[simp] theorem State.setAbyte_resp (s : State) (a : Nat) (v : Byte) : (s.setAbyte a v).resp = s.resp := id rfl
@[simp] theorem State.setAbyte_dev (s : State) (a : Nat) (v : Byte) : (s.setAbyte a v).dev = s.dev := id rfl
@[simp] theorem State.setAbyte_regs (s : State) (a : Nat) (v : Byte) : (s.setAbyte a v).regs = s.regs := id rfl
@[simp] theorem State.setAbyte_shadow (s : State) (a : Nat) (v : Byte) : (s.setAbyte a v).shadow = s.shadow := id rfl
@[simp] theorem State.setAbyte_mem (s : State) (a : Nat) (v : Byte) : (s.setAbyte a v).mem = s.mem := id rfl
@[simp] theorem State.setAbyte_time (s : State) (a : Nat) (v : Byte) : (s.setAbyte a v).time = s.time := id rfl
@[simp] theorem State.setAbyte_slates (s : State) (a : Nat) (v : Byte) : (s.setAbyte a v).slates = s.slates := id rfl
@[simp] theorem State.setAbyte_axes (s : State) (a : Nat) (v : Byte) : (s.setAbyte a v).axes = s.axes := id rfl
@[simp] theorem State.setAbyte_evlog (s : State) (a : Nat) (v : Byte) : (s.setAbyte a v).evlog = s.evlog := id rfl
@[simp] theorem State.setAbyte_fsch (s : State) (a : Nat) (v : Byte) : (s.setAbyte a v).fsch = s.fsch := id rfl
@[simp] theorem State.setAbyte_engines (s : State) (a : Nat) (v : Byte) : (s.setAbyte a v).engines = s.engines := id rfl
@[simp] theorem State.setAbyte_replies (s : State) (a : Nat) (v : Byte) : (s.setAbyte a v).replies = s.replies := id rfl
@[simp] theorem State.setAbyte_cleaning (s : State) (a : Nat) (v : Byte) : (s.setAbyte a v).cleaning = s.cleaning := id rfl
@[simp] theorem State.setAbyte_msi (s : State) (a : Nat) (v : Byte) : (s.setAbyte a v).msi = s.msi := id rfl
@[simp] theorem State.setAbyte_teeth (s : State) (a : Nat) (v : Byte) : (s.setAbyte a v).teeth = s.teeth := id rfl
@[simp] theorem State.setAbyte_corrections (s : State) (a : Nat) (v : Byte) : (s.setAbyte a v).corrections = s.corrections := id rfl
@[simp] theorem State.setAbyte_ecc (s : State) (a : Nat) (v : Byte) : (s.setAbyte a v).ecc = s.ecc := id rfl
@[simp] theorem State.setAbyte_trunks (s : State) (a : Nat) (v : Byte) : (s.setAbyte a v).trunks = s.trunks := id rfl
@[simp] theorem State.setAbyte_latches (s : State) (a : Nat) (v : Byte) : (s.setAbyte a v).latches = s.latches := id rfl
@[simp] theorem State.setAbyte_net (s : State) (a : Nat) (v : Byte) : (s.setAbyte a v).net = s.net := id rfl
@[simp] theorem State.setAbyte_track (s : State) (a : Nat) (v : Byte) : (s.setAbyte a v).track = s.track := id rfl
@[simp] theorem State.setAbyte_safety (s : State) (a : Nat) (v : Byte) : (s.setAbyte a v).safety = s.safety := id rfl
@[simp] theorem State.setAbyte_capture (s : State) (a : Nat) (v : Byte) : (s.setAbyte a v).capture = s.capture := id rfl
@[simp] theorem State.setAbyte_fault (s : State) (a : Nat) (v : Byte) : (s.setAbyte a v).fault = s.fault := id rfl
@[simp] theorem State.setAbyte_boot (s : State) (a : Nat) (v : Byte) : (s.setAbyte a v).boot = s.boot := id rfl
@[simp] theorem State.setAbyte_power (s : State) (a : Nat) (v : Byte) : (s.setAbyte a v).power = s.power := id rfl
@[simp] theorem State.setAbyte_mgmt (s : State) (a : Nat) (v : Byte) : (s.setAbyte a v).mgmt = s.mgmt := id rfl
@[simp] theorem State.setAbyte_rd (s : State) (a : Nat) (v : Byte) (x : Nat) : (s.setAbyte a v).rd x = s.rd x := id rfl
@[simp] theorem State.setAbyte_fld (s : State) (a : Nat) (v : Byte) (x : Nat) (g : Fld) : (s.setAbyte a v).fld x g = s.fld x g := id rfl
@[simp] theorem State.setAbyte_flag (s : State) (a : Nat) (v : Byte) (x : Nat) (g : Fld) : (s.setAbyte a v).flag x g = s.flag x g := id rfl
@[simp] theorem State.setAbyte_rbit (s : State) (a : Nat) (v : Byte) (x y z : Nat) : (s.setAbyte a v).rbit x y z = s.rbit x y z := id rfl
@[simp] theorem State.setAbyte_sh (s : State) (a : Nat) (v : Byte) (x : Nat) : (s.setAbyte a v).sh x = s.sh x := id rfl
@[simp] theorem State.setAbyte_byte (s : State) (a : Nat) (v : Byte) (x : Nat) : (s.setAbyte a v).byte x = s.byte x := id rfl
@[simp] theorem State.setAbyte_now (s : State) (a : Nat) (v : Byte) : (s.setAbyte a v).now = s.now := id rfl
@[simp] theorem State.azero_pending (s : State) (a n : Nat) : (s.azero a n).pending = s.pending := id rfl
@[simp] theorem State.azero_free (s : State) (a n : Nat) : (s.azero a n).free = s.free := id rfl
@[simp] theorem State.azero_resp (s : State) (a n : Nat) : (s.azero a n).resp = s.resp := id rfl
@[simp] theorem State.azero_dev (s : State) (a n : Nat) : (s.azero a n).dev = s.dev := id rfl
@[simp] theorem State.azero_regs (s : State) (a n : Nat) : (s.azero a n).regs = s.regs := id rfl
@[simp] theorem State.azero_shadow (s : State) (a n : Nat) : (s.azero a n).shadow = s.shadow := id rfl
@[simp] theorem State.azero_mem (s : State) (a n : Nat) : (s.azero a n).mem = s.mem := id rfl
@[simp] theorem State.azero_time (s : State) (a n : Nat) : (s.azero a n).time = s.time := id rfl
@[simp] theorem State.azero_slates (s : State) (a n : Nat) : (s.azero a n).slates = s.slates := id rfl
@[simp] theorem State.azero_axes (s : State) (a n : Nat) : (s.azero a n).axes = s.axes := id rfl
@[simp] theorem State.azero_evlog (s : State) (a n : Nat) : (s.azero a n).evlog = s.evlog := id rfl
@[simp] theorem State.azero_fsch (s : State) (a n : Nat) : (s.azero a n).fsch = s.fsch := id rfl
@[simp] theorem State.azero_engines (s : State) (a n : Nat) : (s.azero a n).engines = s.engines := id rfl
@[simp] theorem State.azero_replies (s : State) (a n : Nat) : (s.azero a n).replies = s.replies := id rfl
@[simp] theorem State.azero_cleaning (s : State) (a n : Nat) : (s.azero a n).cleaning = s.cleaning := id rfl
@[simp] theorem State.azero_msi (s : State) (a n : Nat) : (s.azero a n).msi = s.msi := id rfl
@[simp] theorem State.azero_teeth (s : State) (a n : Nat) : (s.azero a n).teeth = s.teeth := id rfl
@[simp] theorem State.azero_corrections (s : State) (a n : Nat) : (s.azero a n).corrections = s.corrections := id rfl
@[simp] theorem State.azero_ecc (s : State) (a n : Nat) : (s.azero a n).ecc = s.ecc := id rfl
@[simp] theorem State.azero_trunks (s : State) (a n : Nat) : (s.azero a n).trunks = s.trunks := id rfl
@[simp] theorem State.azero_latches (s : State) (a n : Nat) : (s.azero a n).latches = s.latches := id rfl
@[simp] theorem State.azero_net (s : State) (a n : Nat) : (s.azero a n).net = s.net := id rfl
@[simp] theorem State.azero_track (s : State) (a n : Nat) : (s.azero a n).track = s.track := id rfl
@[simp] theorem State.azero_safety (s : State) (a n : Nat) : (s.azero a n).safety = s.safety := id rfl
@[simp] theorem State.azero_capture (s : State) (a n : Nat) : (s.azero a n).capture = s.capture := id rfl
@[simp] theorem State.azero_fault (s : State) (a n : Nat) : (s.azero a n).fault = s.fault := id rfl
@[simp] theorem State.azero_boot (s : State) (a n : Nat) : (s.azero a n).boot = s.boot := id rfl
@[simp] theorem State.azero_power (s : State) (a n : Nat) : (s.azero a n).power = s.power := id rfl
@[simp] theorem State.azero_mgmt (s : State) (a n : Nat) : (s.azero a n).mgmt = s.mgmt := id rfl
@[simp] theorem State.azero_rd (s : State) (a n : Nat) (x : Nat) : (s.azero a n).rd x = s.rd x := id rfl
@[simp] theorem State.azero_fld (s : State) (a n : Nat) (x : Nat) (g : Fld) : (s.azero a n).fld x g = s.fld x g := id rfl
@[simp] theorem State.azero_flag (s : State) (a n : Nat) (x : Nat) (g : Fld) : (s.azero a n).flag x g = s.flag x g := id rfl
@[simp] theorem State.azero_rbit (s : State) (a n : Nat) (x y z : Nat) : (s.azero a n).rbit x y z = s.rbit x y z := id rfl
@[simp] theorem State.azero_sh (s : State) (a n : Nat) (x : Nat) : (s.azero a n).sh x = s.sh x := id rfl
@[simp] theorem State.azero_byte (s : State) (a n : Nat) (x : Nat) : (s.azero a n).byte x = s.byte x := id rfl
@[simp] theorem State.azero_now (s : State) (a n : Nat) : (s.azero a n).now = s.now := id rfl
@[simp] theorem State.setSlate_pending (s : State) (i : Fin 8) (f : SlateState → SlateState) : (s.setSlate i f).pending = s.pending := id rfl
@[simp] theorem State.setSlate_free (s : State) (i : Fin 8) (f : SlateState → SlateState) : (s.setSlate i f).free = s.free := id rfl
@[simp] theorem State.setSlate_resp (s : State) (i : Fin 8) (f : SlateState → SlateState) : (s.setSlate i f).resp = s.resp := id rfl
@[simp] theorem State.setSlate_dev (s : State) (i : Fin 8) (f : SlateState → SlateState) : (s.setSlate i f).dev = s.dev := id rfl
@[simp] theorem State.setSlate_regs (s : State) (i : Fin 8) (f : SlateState → SlateState) : (s.setSlate i f).regs = s.regs := id rfl
@[simp] theorem State.setSlate_shadow (s : State) (i : Fin 8) (f : SlateState → SlateState) : (s.setSlate i f).shadow = s.shadow := id rfl
@[simp] theorem State.setSlate_mem (s : State) (i : Fin 8) (f : SlateState → SlateState) : (s.setSlate i f).mem = s.mem := id rfl
@[simp] theorem State.setSlate_amber (s : State) (i : Fin 8) (f : SlateState → SlateState) : (s.setSlate i f).amber = s.amber := id rfl
@[simp] theorem State.setSlate_time (s : State) (i : Fin 8) (f : SlateState → SlateState) : (s.setSlate i f).time = s.time := id rfl
@[simp] theorem State.setSlate_axes (s : State) (i : Fin 8) (f : SlateState → SlateState) : (s.setSlate i f).axes = s.axes := id rfl
@[simp] theorem State.setSlate_evlog (s : State) (i : Fin 8) (f : SlateState → SlateState) : (s.setSlate i f).evlog = s.evlog := id rfl
@[simp] theorem State.setSlate_fsch (s : State) (i : Fin 8) (f : SlateState → SlateState) : (s.setSlate i f).fsch = s.fsch := id rfl
@[simp] theorem State.setSlate_engines (s : State) (i : Fin 8) (f : SlateState → SlateState) : (s.setSlate i f).engines = s.engines := id rfl
@[simp] theorem State.setSlate_replies (s : State) (i : Fin 8) (f : SlateState → SlateState) : (s.setSlate i f).replies = s.replies := id rfl
@[simp] theorem State.setSlate_cleaning (s : State) (i : Fin 8) (f : SlateState → SlateState) : (s.setSlate i f).cleaning = s.cleaning := id rfl
@[simp] theorem State.setSlate_msi (s : State) (i : Fin 8) (f : SlateState → SlateState) : (s.setSlate i f).msi = s.msi := id rfl
@[simp] theorem State.setSlate_teeth (s : State) (i : Fin 8) (f : SlateState → SlateState) : (s.setSlate i f).teeth = s.teeth := id rfl
@[simp] theorem State.setSlate_corrections (s : State) (i : Fin 8) (f : SlateState → SlateState) : (s.setSlate i f).corrections = s.corrections := id rfl
@[simp] theorem State.setSlate_ecc (s : State) (i : Fin 8) (f : SlateState → SlateState) : (s.setSlate i f).ecc = s.ecc := id rfl
@[simp] theorem State.setSlate_trunks (s : State) (i : Fin 8) (f : SlateState → SlateState) : (s.setSlate i f).trunks = s.trunks := id rfl
@[simp] theorem State.setSlate_latches (s : State) (i : Fin 8) (f : SlateState → SlateState) : (s.setSlate i f).latches = s.latches := id rfl
@[simp] theorem State.setSlate_net (s : State) (i : Fin 8) (f : SlateState → SlateState) : (s.setSlate i f).net = s.net := id rfl
@[simp] theorem State.setSlate_track (s : State) (i : Fin 8) (f : SlateState → SlateState) : (s.setSlate i f).track = s.track := id rfl
@[simp] theorem State.setSlate_safety (s : State) (i : Fin 8) (f : SlateState → SlateState) : (s.setSlate i f).safety = s.safety := id rfl
@[simp] theorem State.setSlate_capture (s : State) (i : Fin 8) (f : SlateState → SlateState) : (s.setSlate i f).capture = s.capture := id rfl
@[simp] theorem State.setSlate_fault (s : State) (i : Fin 8) (f : SlateState → SlateState) : (s.setSlate i f).fault = s.fault := id rfl
@[simp] theorem State.setSlate_boot (s : State) (i : Fin 8) (f : SlateState → SlateState) : (s.setSlate i f).boot = s.boot := id rfl
@[simp] theorem State.setSlate_power (s : State) (i : Fin 8) (f : SlateState → SlateState) : (s.setSlate i f).power = s.power := id rfl
@[simp] theorem State.setSlate_mgmt (s : State) (i : Fin 8) (f : SlateState → SlateState) : (s.setSlate i f).mgmt = s.mgmt := id rfl
@[simp] theorem State.setSlate_rd (s : State) (i : Fin 8) (f : SlateState → SlateState) (x : Nat) : (s.setSlate i f).rd x = s.rd x := id rfl
@[simp] theorem State.setSlate_fld (s : State) (i : Fin 8) (f : SlateState → SlateState) (x : Nat) (g : Fld) : (s.setSlate i f).fld x g = s.fld x g := id rfl
@[simp] theorem State.setSlate_flag (s : State) (i : Fin 8) (f : SlateState → SlateState) (x : Nat) (g : Fld) : (s.setSlate i f).flag x g = s.flag x g := id rfl
@[simp] theorem State.setSlate_rbit (s : State) (i : Fin 8) (f : SlateState → SlateState) (x y z : Nat) : (s.setSlate i f).rbit x y z = s.rbit x y z := id rfl
@[simp] theorem State.setSlate_sh (s : State) (i : Fin 8) (f : SlateState → SlateState) (x : Nat) : (s.setSlate i f).sh x = s.sh x := id rfl
@[simp] theorem State.setSlate_abyte (s : State) (i : Fin 8) (f : SlateState → SlateState) (x : Nat) : (s.setSlate i f).abyte x = s.abyte x := id rfl
@[simp] theorem State.setSlate_byte (s : State) (i : Fin 8) (f : SlateState → SlateState) (x : Nat) : (s.setSlate i f).byte x = s.byte x := id rfl
@[simp] theorem State.setSlate_now (s : State) (i : Fin 8) (f : SlateState → SlateState) : (s.setSlate i f).now = s.now := id rfl
@[simp] theorem State.setSlates_pending (s : State) (f : SlateState → SlateState) : (s.setSlates f).pending = s.pending := id rfl
@[simp] theorem State.setSlates_free (s : State) (f : SlateState → SlateState) : (s.setSlates f).free = s.free := id rfl
@[simp] theorem State.setSlates_resp (s : State) (f : SlateState → SlateState) : (s.setSlates f).resp = s.resp := id rfl
@[simp] theorem State.setSlates_dev (s : State) (f : SlateState → SlateState) : (s.setSlates f).dev = s.dev := id rfl
@[simp] theorem State.setSlates_regs (s : State) (f : SlateState → SlateState) : (s.setSlates f).regs = s.regs := id rfl
@[simp] theorem State.setSlates_shadow (s : State) (f : SlateState → SlateState) : (s.setSlates f).shadow = s.shadow := id rfl
@[simp] theorem State.setSlates_mem (s : State) (f : SlateState → SlateState) : (s.setSlates f).mem = s.mem := id rfl
@[simp] theorem State.setSlates_amber (s : State) (f : SlateState → SlateState) : (s.setSlates f).amber = s.amber := id rfl
@[simp] theorem State.setSlates_time (s : State) (f : SlateState → SlateState) : (s.setSlates f).time = s.time := id rfl
@[simp] theorem State.setSlates_axes (s : State) (f : SlateState → SlateState) : (s.setSlates f).axes = s.axes := id rfl
@[simp] theorem State.setSlates_evlog (s : State) (f : SlateState → SlateState) : (s.setSlates f).evlog = s.evlog := id rfl
@[simp] theorem State.setSlates_fsch (s : State) (f : SlateState → SlateState) : (s.setSlates f).fsch = s.fsch := id rfl
@[simp] theorem State.setSlates_engines (s : State) (f : SlateState → SlateState) : (s.setSlates f).engines = s.engines := id rfl
@[simp] theorem State.setSlates_replies (s : State) (f : SlateState → SlateState) : (s.setSlates f).replies = s.replies := id rfl
@[simp] theorem State.setSlates_cleaning (s : State) (f : SlateState → SlateState) : (s.setSlates f).cleaning = s.cleaning := id rfl
@[simp] theorem State.setSlates_msi (s : State) (f : SlateState → SlateState) : (s.setSlates f).msi = s.msi := id rfl
@[simp] theorem State.setSlates_teeth (s : State) (f : SlateState → SlateState) : (s.setSlates f).teeth = s.teeth := id rfl
@[simp] theorem State.setSlates_corrections (s : State) (f : SlateState → SlateState) : (s.setSlates f).corrections = s.corrections := id rfl
@[simp] theorem State.setSlates_ecc (s : State) (f : SlateState → SlateState) : (s.setSlates f).ecc = s.ecc := id rfl
@[simp] theorem State.setSlates_trunks (s : State) (f : SlateState → SlateState) : (s.setSlates f).trunks = s.trunks := id rfl
@[simp] theorem State.setSlates_latches (s : State) (f : SlateState → SlateState) : (s.setSlates f).latches = s.latches := id rfl
@[simp] theorem State.setSlates_net (s : State) (f : SlateState → SlateState) : (s.setSlates f).net = s.net := id rfl
@[simp] theorem State.setSlates_track (s : State) (f : SlateState → SlateState) : (s.setSlates f).track = s.track := id rfl
@[simp] theorem State.setSlates_safety (s : State) (f : SlateState → SlateState) : (s.setSlates f).safety = s.safety := id rfl
@[simp] theorem State.setSlates_capture (s : State) (f : SlateState → SlateState) : (s.setSlates f).capture = s.capture := id rfl
@[simp] theorem State.setSlates_fault (s : State) (f : SlateState → SlateState) : (s.setSlates f).fault = s.fault := id rfl
@[simp] theorem State.setSlates_boot (s : State) (f : SlateState → SlateState) : (s.setSlates f).boot = s.boot := id rfl
@[simp] theorem State.setSlates_power (s : State) (f : SlateState → SlateState) : (s.setSlates f).power = s.power := id rfl
@[simp] theorem State.setSlates_mgmt (s : State) (f : SlateState → SlateState) : (s.setSlates f).mgmt = s.mgmt := id rfl
@[simp] theorem State.setSlates_rd (s : State) (f : SlateState → SlateState) (x : Nat) : (s.setSlates f).rd x = s.rd x := id rfl
@[simp] theorem State.setSlates_fld (s : State) (f : SlateState → SlateState) (x : Nat) (g : Fld) : (s.setSlates f).fld x g = s.fld x g := id rfl
@[simp] theorem State.setSlates_flag (s : State) (f : SlateState → SlateState) (x : Nat) (g : Fld) : (s.setSlates f).flag x g = s.flag x g := id rfl
@[simp] theorem State.setSlates_rbit (s : State) (f : SlateState → SlateState) (x y z : Nat) : (s.setSlates f).rbit x y z = s.rbit x y z := id rfl
@[simp] theorem State.setSlates_sh (s : State) (f : SlateState → SlateState) (x : Nat) : (s.setSlates f).sh x = s.sh x := id rfl
@[simp] theorem State.setSlates_abyte (s : State) (f : SlateState → SlateState) (x : Nat) : (s.setSlates f).abyte x = s.abyte x := id rfl
@[simp] theorem State.setSlates_byte (s : State) (f : SlateState → SlateState) (x : Nat) : (s.setSlates f).byte x = s.byte x := id rfl
@[simp] theorem State.setSlates_now (s : State) (f : SlateState → SlateState) : (s.setSlates f).now = s.now := id rfl
@[simp] theorem State.setAxis_pending (s : State) (i : Fin 64) (f : AxisState → AxisState) : (s.setAxis i f).pending = s.pending := id rfl
@[simp] theorem State.setAxis_free (s : State) (i : Fin 64) (f : AxisState → AxisState) : (s.setAxis i f).free = s.free := id rfl
@[simp] theorem State.setAxis_resp (s : State) (i : Fin 64) (f : AxisState → AxisState) : (s.setAxis i f).resp = s.resp := id rfl
@[simp] theorem State.setAxis_dev (s : State) (i : Fin 64) (f : AxisState → AxisState) : (s.setAxis i f).dev = s.dev := id rfl
@[simp] theorem State.setAxis_regs (s : State) (i : Fin 64) (f : AxisState → AxisState) : (s.setAxis i f).regs = s.regs := id rfl
@[simp] theorem State.setAxis_shadow (s : State) (i : Fin 64) (f : AxisState → AxisState) : (s.setAxis i f).shadow = s.shadow := id rfl
@[simp] theorem State.setAxis_mem (s : State) (i : Fin 64) (f : AxisState → AxisState) : (s.setAxis i f).mem = s.mem := id rfl
@[simp] theorem State.setAxis_amber (s : State) (i : Fin 64) (f : AxisState → AxisState) : (s.setAxis i f).amber = s.amber := id rfl
@[simp] theorem State.setAxis_time (s : State) (i : Fin 64) (f : AxisState → AxisState) : (s.setAxis i f).time = s.time := id rfl
@[simp] theorem State.setAxis_slates (s : State) (i : Fin 64) (f : AxisState → AxisState) : (s.setAxis i f).slates = s.slates := id rfl
@[simp] theorem State.setAxis_evlog (s : State) (i : Fin 64) (f : AxisState → AxisState) : (s.setAxis i f).evlog = s.evlog := id rfl
@[simp] theorem State.setAxis_fsch (s : State) (i : Fin 64) (f : AxisState → AxisState) : (s.setAxis i f).fsch = s.fsch := id rfl
@[simp] theorem State.setAxis_engines (s : State) (i : Fin 64) (f : AxisState → AxisState) : (s.setAxis i f).engines = s.engines := id rfl
@[simp] theorem State.setAxis_replies (s : State) (i : Fin 64) (f : AxisState → AxisState) : (s.setAxis i f).replies = s.replies := id rfl
@[simp] theorem State.setAxis_cleaning (s : State) (i : Fin 64) (f : AxisState → AxisState) : (s.setAxis i f).cleaning = s.cleaning := id rfl
@[simp] theorem State.setAxis_msi (s : State) (i : Fin 64) (f : AxisState → AxisState) : (s.setAxis i f).msi = s.msi := id rfl
@[simp] theorem State.setAxis_teeth (s : State) (i : Fin 64) (f : AxisState → AxisState) : (s.setAxis i f).teeth = s.teeth := id rfl
@[simp] theorem State.setAxis_corrections (s : State) (i : Fin 64) (f : AxisState → AxisState) : (s.setAxis i f).corrections = s.corrections := id rfl
@[simp] theorem State.setAxis_ecc (s : State) (i : Fin 64) (f : AxisState → AxisState) : (s.setAxis i f).ecc = s.ecc := id rfl
@[simp] theorem State.setAxis_trunks (s : State) (i : Fin 64) (f : AxisState → AxisState) : (s.setAxis i f).trunks = s.trunks := id rfl
@[simp] theorem State.setAxis_latches (s : State) (i : Fin 64) (f : AxisState → AxisState) : (s.setAxis i f).latches = s.latches := id rfl
@[simp] theorem State.setAxis_net (s : State) (i : Fin 64) (f : AxisState → AxisState) : (s.setAxis i f).net = s.net := id rfl
@[simp] theorem State.setAxis_track (s : State) (i : Fin 64) (f : AxisState → AxisState) : (s.setAxis i f).track = s.track := id rfl
@[simp] theorem State.setAxis_safety (s : State) (i : Fin 64) (f : AxisState → AxisState) : (s.setAxis i f).safety = s.safety := id rfl
@[simp] theorem State.setAxis_capture (s : State) (i : Fin 64) (f : AxisState → AxisState) : (s.setAxis i f).capture = s.capture := id rfl
@[simp] theorem State.setAxis_fault (s : State) (i : Fin 64) (f : AxisState → AxisState) : (s.setAxis i f).fault = s.fault := id rfl
@[simp] theorem State.setAxis_boot (s : State) (i : Fin 64) (f : AxisState → AxisState) : (s.setAxis i f).boot = s.boot := id rfl
@[simp] theorem State.setAxis_power (s : State) (i : Fin 64) (f : AxisState → AxisState) : (s.setAxis i f).power = s.power := id rfl
@[simp] theorem State.setAxis_mgmt (s : State) (i : Fin 64) (f : AxisState → AxisState) : (s.setAxis i f).mgmt = s.mgmt := id rfl
@[simp] theorem State.setAxis_rd (s : State) (i : Fin 64) (f : AxisState → AxisState) (x : Nat) : (s.setAxis i f).rd x = s.rd x := id rfl
@[simp] theorem State.setAxis_fld (s : State) (i : Fin 64) (f : AxisState → AxisState) (x : Nat) (g : Fld) : (s.setAxis i f).fld x g = s.fld x g := id rfl
@[simp] theorem State.setAxis_flag (s : State) (i : Fin 64) (f : AxisState → AxisState) (x : Nat) (g : Fld) : (s.setAxis i f).flag x g = s.flag x g := id rfl
@[simp] theorem State.setAxis_rbit (s : State) (i : Fin 64) (f : AxisState → AxisState) (x y z : Nat) : (s.setAxis i f).rbit x y z = s.rbit x y z := id rfl
@[simp] theorem State.setAxis_sh (s : State) (i : Fin 64) (f : AxisState → AxisState) (x : Nat) : (s.setAxis i f).sh x = s.sh x := id rfl
@[simp] theorem State.setAxis_abyte (s : State) (i : Fin 64) (f : AxisState → AxisState) (x : Nat) : (s.setAxis i f).abyte x = s.abyte x := id rfl
@[simp] theorem State.setAxis_byte (s : State) (i : Fin 64) (f : AxisState → AxisState) (x : Nat) : (s.setAxis i f).byte x = s.byte x := id rfl
@[simp] theorem State.setAxis_now (s : State) (i : Fin 64) (f : AxisState → AxisState) : (s.setAxis i f).now = s.now := id rfl
@[simp] theorem State.setTime_pending (s : State) (f : TimeState → TimeState) : (s.setTime f).pending = s.pending := id rfl
@[simp] theorem State.setTime_free (s : State) (f : TimeState → TimeState) : (s.setTime f).free = s.free := id rfl
@[simp] theorem State.setTime_resp (s : State) (f : TimeState → TimeState) : (s.setTime f).resp = s.resp := id rfl
@[simp] theorem State.setTime_dev (s : State) (f : TimeState → TimeState) : (s.setTime f).dev = s.dev := id rfl
@[simp] theorem State.setTime_regs (s : State) (f : TimeState → TimeState) : (s.setTime f).regs = s.regs := id rfl
@[simp] theorem State.setTime_shadow (s : State) (f : TimeState → TimeState) : (s.setTime f).shadow = s.shadow := id rfl
@[simp] theorem State.setTime_mem (s : State) (f : TimeState → TimeState) : (s.setTime f).mem = s.mem := id rfl
@[simp] theorem State.setTime_amber (s : State) (f : TimeState → TimeState) : (s.setTime f).amber = s.amber := id rfl
@[simp] theorem State.setTime_slates (s : State) (f : TimeState → TimeState) : (s.setTime f).slates = s.slates := id rfl
@[simp] theorem State.setTime_axes (s : State) (f : TimeState → TimeState) : (s.setTime f).axes = s.axes := id rfl
@[simp] theorem State.setTime_evlog (s : State) (f : TimeState → TimeState) : (s.setTime f).evlog = s.evlog := id rfl
@[simp] theorem State.setTime_fsch (s : State) (f : TimeState → TimeState) : (s.setTime f).fsch = s.fsch := id rfl
@[simp] theorem State.setTime_engines (s : State) (f : TimeState → TimeState) : (s.setTime f).engines = s.engines := id rfl
@[simp] theorem State.setTime_replies (s : State) (f : TimeState → TimeState) : (s.setTime f).replies = s.replies := id rfl
@[simp] theorem State.setTime_cleaning (s : State) (f : TimeState → TimeState) : (s.setTime f).cleaning = s.cleaning := id rfl
@[simp] theorem State.setTime_msi (s : State) (f : TimeState → TimeState) : (s.setTime f).msi = s.msi := id rfl
@[simp] theorem State.setTime_teeth (s : State) (f : TimeState → TimeState) : (s.setTime f).teeth = s.teeth := id rfl
@[simp] theorem State.setTime_corrections (s : State) (f : TimeState → TimeState) : (s.setTime f).corrections = s.corrections := id rfl
@[simp] theorem State.setTime_ecc (s : State) (f : TimeState → TimeState) : (s.setTime f).ecc = s.ecc := id rfl
@[simp] theorem State.setTime_trunks (s : State) (f : TimeState → TimeState) : (s.setTime f).trunks = s.trunks := id rfl
@[simp] theorem State.setTime_latches (s : State) (f : TimeState → TimeState) : (s.setTime f).latches = s.latches := id rfl
@[simp] theorem State.setTime_net (s : State) (f : TimeState → TimeState) : (s.setTime f).net = s.net := id rfl
@[simp] theorem State.setTime_track (s : State) (f : TimeState → TimeState) : (s.setTime f).track = s.track := id rfl
@[simp] theorem State.setTime_safety (s : State) (f : TimeState → TimeState) : (s.setTime f).safety = s.safety := id rfl
@[simp] theorem State.setTime_capture (s : State) (f : TimeState → TimeState) : (s.setTime f).capture = s.capture := id rfl
@[simp] theorem State.setTime_fault (s : State) (f : TimeState → TimeState) : (s.setTime f).fault = s.fault := id rfl
@[simp] theorem State.setTime_boot (s : State) (f : TimeState → TimeState) : (s.setTime f).boot = s.boot := id rfl
@[simp] theorem State.setTime_power (s : State) (f : TimeState → TimeState) : (s.setTime f).power = s.power := id rfl
@[simp] theorem State.setTime_mgmt (s : State) (f : TimeState → TimeState) : (s.setTime f).mgmt = s.mgmt := id rfl
@[simp] theorem State.setTime_rd (s : State) (f : TimeState → TimeState) (x : Nat) : (s.setTime f).rd x = s.rd x := id rfl
@[simp] theorem State.setTime_fld (s : State) (f : TimeState → TimeState) (x : Nat) (g : Fld) : (s.setTime f).fld x g = s.fld x g := id rfl
@[simp] theorem State.setTime_flag (s : State) (f : TimeState → TimeState) (x : Nat) (g : Fld) : (s.setTime f).flag x g = s.flag x g := id rfl
@[simp] theorem State.setTime_rbit (s : State) (f : TimeState → TimeState) (x y z : Nat) : (s.setTime f).rbit x y z = s.rbit x y z := id rfl
@[simp] theorem State.setTime_sh (s : State) (f : TimeState → TimeState) (x : Nat) : (s.setTime f).sh x = s.sh x := id rfl
@[simp] theorem State.setTime_abyte (s : State) (f : TimeState → TimeState) (x : Nat) : (s.setTime f).abyte x = s.abyte x := id rfl
@[simp] theorem State.setTime_byte (s : State) (f : TimeState → TimeState) (x : Nat) : (s.setTime f).byte x = s.byte x := id rfl
@[simp] theorem State.setEvlog_pending (s : State) (f : EventLog → EventLog) : (s.setEvlog f).pending = s.pending := id rfl
@[simp] theorem State.setEvlog_free (s : State) (f : EventLog → EventLog) : (s.setEvlog f).free = s.free := id rfl
@[simp] theorem State.setEvlog_resp (s : State) (f : EventLog → EventLog) : (s.setEvlog f).resp = s.resp := id rfl
@[simp] theorem State.setEvlog_dev (s : State) (f : EventLog → EventLog) : (s.setEvlog f).dev = s.dev := id rfl
@[simp] theorem State.setEvlog_regs (s : State) (f : EventLog → EventLog) : (s.setEvlog f).regs = s.regs := id rfl
@[simp] theorem State.setEvlog_shadow (s : State) (f : EventLog → EventLog) : (s.setEvlog f).shadow = s.shadow := id rfl
@[simp] theorem State.setEvlog_mem (s : State) (f : EventLog → EventLog) : (s.setEvlog f).mem = s.mem := id rfl
@[simp] theorem State.setEvlog_amber (s : State) (f : EventLog → EventLog) : (s.setEvlog f).amber = s.amber := id rfl
@[simp] theorem State.setEvlog_time (s : State) (f : EventLog → EventLog) : (s.setEvlog f).time = s.time := id rfl
@[simp] theorem State.setEvlog_slates (s : State) (f : EventLog → EventLog) : (s.setEvlog f).slates = s.slates := id rfl
@[simp] theorem State.setEvlog_axes (s : State) (f : EventLog → EventLog) : (s.setEvlog f).axes = s.axes := id rfl
@[simp] theorem State.setEvlog_fsch (s : State) (f : EventLog → EventLog) : (s.setEvlog f).fsch = s.fsch := id rfl
@[simp] theorem State.setEvlog_engines (s : State) (f : EventLog → EventLog) : (s.setEvlog f).engines = s.engines := id rfl
@[simp] theorem State.setEvlog_replies (s : State) (f : EventLog → EventLog) : (s.setEvlog f).replies = s.replies := id rfl
@[simp] theorem State.setEvlog_cleaning (s : State) (f : EventLog → EventLog) : (s.setEvlog f).cleaning = s.cleaning := id rfl
@[simp] theorem State.setEvlog_msi (s : State) (f : EventLog → EventLog) : (s.setEvlog f).msi = s.msi := id rfl
@[simp] theorem State.setEvlog_teeth (s : State) (f : EventLog → EventLog) : (s.setEvlog f).teeth = s.teeth := id rfl
@[simp] theorem State.setEvlog_corrections (s : State) (f : EventLog → EventLog) : (s.setEvlog f).corrections = s.corrections := id rfl
@[simp] theorem State.setEvlog_ecc (s : State) (f : EventLog → EventLog) : (s.setEvlog f).ecc = s.ecc := id rfl
@[simp] theorem State.setEvlog_trunks (s : State) (f : EventLog → EventLog) : (s.setEvlog f).trunks = s.trunks := id rfl
@[simp] theorem State.setEvlog_latches (s : State) (f : EventLog → EventLog) : (s.setEvlog f).latches = s.latches := id rfl
@[simp] theorem State.setEvlog_net (s : State) (f : EventLog → EventLog) : (s.setEvlog f).net = s.net := id rfl
@[simp] theorem State.setEvlog_track (s : State) (f : EventLog → EventLog) : (s.setEvlog f).track = s.track := id rfl
@[simp] theorem State.setEvlog_safety (s : State) (f : EventLog → EventLog) : (s.setEvlog f).safety = s.safety := id rfl
@[simp] theorem State.setEvlog_capture (s : State) (f : EventLog → EventLog) : (s.setEvlog f).capture = s.capture := id rfl
@[simp] theorem State.setEvlog_fault (s : State) (f : EventLog → EventLog) : (s.setEvlog f).fault = s.fault := id rfl
@[simp] theorem State.setEvlog_boot (s : State) (f : EventLog → EventLog) : (s.setEvlog f).boot = s.boot := id rfl
@[simp] theorem State.setEvlog_power (s : State) (f : EventLog → EventLog) : (s.setEvlog f).power = s.power := id rfl
@[simp] theorem State.setEvlog_mgmt (s : State) (f : EventLog → EventLog) : (s.setEvlog f).mgmt = s.mgmt := id rfl
@[simp] theorem State.setEvlog_rd (s : State) (f : EventLog → EventLog) (x : Nat) : (s.setEvlog f).rd x = s.rd x := id rfl
@[simp] theorem State.setEvlog_fld (s : State) (f : EventLog → EventLog) (x : Nat) (g : Fld) : (s.setEvlog f).fld x g = s.fld x g := id rfl
@[simp] theorem State.setEvlog_flag (s : State) (f : EventLog → EventLog) (x : Nat) (g : Fld) : (s.setEvlog f).flag x g = s.flag x g := id rfl
@[simp] theorem State.setEvlog_rbit (s : State) (f : EventLog → EventLog) (x y z : Nat) : (s.setEvlog f).rbit x y z = s.rbit x y z := id rfl
@[simp] theorem State.setEvlog_sh (s : State) (f : EventLog → EventLog) (x : Nat) : (s.setEvlog f).sh x = s.sh x := id rfl
@[simp] theorem State.setEvlog_abyte (s : State) (f : EventLog → EventLog) (x : Nat) : (s.setEvlog f).abyte x = s.abyte x := id rfl
@[simp] theorem State.setEvlog_byte (s : State) (f : EventLog → EventLog) (x : Nat) : (s.setEvlog f).byte x = s.byte x := id rfl
@[simp] theorem State.setEvlog_now (s : State) (f : EventLog → EventLog) : (s.setEvlog f).now = s.now := id rfl
@[simp] theorem State.setCorrections_pending (s : State) (l : List Correction) : (s.setCorrections l).pending = s.pending := id rfl
@[simp] theorem State.setCorrections_free (s : State) (l : List Correction) : (s.setCorrections l).free = s.free := id rfl
@[simp] theorem State.setCorrections_resp (s : State) (l : List Correction) : (s.setCorrections l).resp = s.resp := id rfl
@[simp] theorem State.setCorrections_dev (s : State) (l : List Correction) : (s.setCorrections l).dev = s.dev := id rfl
@[simp] theorem State.setCorrections_regs (s : State) (l : List Correction) : (s.setCorrections l).regs = s.regs := id rfl
@[simp] theorem State.setCorrections_shadow (s : State) (l : List Correction) : (s.setCorrections l).shadow = s.shadow := id rfl
@[simp] theorem State.setCorrections_mem (s : State) (l : List Correction) : (s.setCorrections l).mem = s.mem := id rfl
@[simp] theorem State.setCorrections_amber (s : State) (l : List Correction) : (s.setCorrections l).amber = s.amber := id rfl
@[simp] theorem State.setCorrections_time (s : State) (l : List Correction) : (s.setCorrections l).time = s.time := id rfl
@[simp] theorem State.setCorrections_slates (s : State) (l : List Correction) : (s.setCorrections l).slates = s.slates := id rfl
@[simp] theorem State.setCorrections_axes (s : State) (l : List Correction) : (s.setCorrections l).axes = s.axes := id rfl
@[simp] theorem State.setCorrections_evlog (s : State) (l : List Correction) : (s.setCorrections l).evlog = s.evlog := id rfl
@[simp] theorem State.setCorrections_fsch (s : State) (l : List Correction) : (s.setCorrections l).fsch = s.fsch := id rfl
@[simp] theorem State.setCorrections_engines (s : State) (l : List Correction) : (s.setCorrections l).engines = s.engines := id rfl
@[simp] theorem State.setCorrections_replies (s : State) (l : List Correction) : (s.setCorrections l).replies = s.replies := id rfl
@[simp] theorem State.setCorrections_cleaning (s : State) (l : List Correction) : (s.setCorrections l).cleaning = s.cleaning := id rfl
@[simp] theorem State.setCorrections_msi (s : State) (l : List Correction) : (s.setCorrections l).msi = s.msi := id rfl
@[simp] theorem State.setCorrections_teeth (s : State) (l : List Correction) : (s.setCorrections l).teeth = s.teeth := id rfl
@[simp] theorem State.setCorrections_ecc (s : State) (l : List Correction) : (s.setCorrections l).ecc = s.ecc := id rfl
@[simp] theorem State.setCorrections_trunks (s : State) (l : List Correction) : (s.setCorrections l).trunks = s.trunks := id rfl
@[simp] theorem State.setCorrections_latches (s : State) (l : List Correction) : (s.setCorrections l).latches = s.latches := id rfl
@[simp] theorem State.setCorrections_net (s : State) (l : List Correction) : (s.setCorrections l).net = s.net := id rfl
@[simp] theorem State.setCorrections_track (s : State) (l : List Correction) : (s.setCorrections l).track = s.track := id rfl
@[simp] theorem State.setCorrections_safety (s : State) (l : List Correction) : (s.setCorrections l).safety = s.safety := id rfl
@[simp] theorem State.setCorrections_capture (s : State) (l : List Correction) : (s.setCorrections l).capture = s.capture := id rfl
@[simp] theorem State.setCorrections_fault (s : State) (l : List Correction) : (s.setCorrections l).fault = s.fault := id rfl
@[simp] theorem State.setCorrections_boot (s : State) (l : List Correction) : (s.setCorrections l).boot = s.boot := id rfl
@[simp] theorem State.setCorrections_power (s : State) (l : List Correction) : (s.setCorrections l).power = s.power := id rfl
@[simp] theorem State.setCorrections_mgmt (s : State) (l : List Correction) : (s.setCorrections l).mgmt = s.mgmt := id rfl
@[simp] theorem State.setCorrections_rd (s : State) (l : List Correction) (x : Nat) : (s.setCorrections l).rd x = s.rd x := id rfl
@[simp] theorem State.setCorrections_fld (s : State) (l : List Correction) (x : Nat) (g : Fld) : (s.setCorrections l).fld x g = s.fld x g := id rfl
@[simp] theorem State.setCorrections_flag (s : State) (l : List Correction) (x : Nat) (g : Fld) : (s.setCorrections l).flag x g = s.flag x g := id rfl
@[simp] theorem State.setCorrections_rbit (s : State) (l : List Correction) (x y z : Nat) : (s.setCorrections l).rbit x y z = s.rbit x y z := id rfl
@[simp] theorem State.setCorrections_sh (s : State) (l : List Correction) (x : Nat) : (s.setCorrections l).sh x = s.sh x := id rfl
@[simp] theorem State.setCorrections_abyte (s : State) (l : List Correction) (x : Nat) : (s.setCorrections l).abyte x = s.abyte x := id rfl
@[simp] theorem State.setCorrections_byte (s : State) (l : List Correction) (x : Nat) : (s.setCorrections l).byte x = s.byte x := id rfl
@[simp] theorem State.setCorrections_now (s : State) (l : List Correction) : (s.setCorrections l).now = s.now := id rfl
@[simp] theorem State.setEcc_pending (s : State) (l : List (Nat × Bool)) : (s.setEcc l).pending = s.pending := id rfl
@[simp] theorem State.setEcc_free (s : State) (l : List (Nat × Bool)) : (s.setEcc l).free = s.free := id rfl
@[simp] theorem State.setEcc_resp (s : State) (l : List (Nat × Bool)) : (s.setEcc l).resp = s.resp := id rfl
@[simp] theorem State.setEcc_dev (s : State) (l : List (Nat × Bool)) : (s.setEcc l).dev = s.dev := id rfl
@[simp] theorem State.setEcc_regs (s : State) (l : List (Nat × Bool)) : (s.setEcc l).regs = s.regs := id rfl
@[simp] theorem State.setEcc_shadow (s : State) (l : List (Nat × Bool)) : (s.setEcc l).shadow = s.shadow := id rfl
@[simp] theorem State.setEcc_mem (s : State) (l : List (Nat × Bool)) : (s.setEcc l).mem = s.mem := id rfl
@[simp] theorem State.setEcc_amber (s : State) (l : List (Nat × Bool)) : (s.setEcc l).amber = s.amber := id rfl
@[simp] theorem State.setEcc_time (s : State) (l : List (Nat × Bool)) : (s.setEcc l).time = s.time := id rfl
@[simp] theorem State.setEcc_slates (s : State) (l : List (Nat × Bool)) : (s.setEcc l).slates = s.slates := id rfl
@[simp] theorem State.setEcc_axes (s : State) (l : List (Nat × Bool)) : (s.setEcc l).axes = s.axes := id rfl
@[simp] theorem State.setEcc_evlog (s : State) (l : List (Nat × Bool)) : (s.setEcc l).evlog = s.evlog := id rfl
@[simp] theorem State.setEcc_fsch (s : State) (l : List (Nat × Bool)) : (s.setEcc l).fsch = s.fsch := id rfl
@[simp] theorem State.setEcc_engines (s : State) (l : List (Nat × Bool)) : (s.setEcc l).engines = s.engines := id rfl
@[simp] theorem State.setEcc_replies (s : State) (l : List (Nat × Bool)) : (s.setEcc l).replies = s.replies := id rfl
@[simp] theorem State.setEcc_cleaning (s : State) (l : List (Nat × Bool)) : (s.setEcc l).cleaning = s.cleaning := id rfl
@[simp] theorem State.setEcc_msi (s : State) (l : List (Nat × Bool)) : (s.setEcc l).msi = s.msi := id rfl
@[simp] theorem State.setEcc_teeth (s : State) (l : List (Nat × Bool)) : (s.setEcc l).teeth = s.teeth := id rfl
@[simp] theorem State.setEcc_corrections (s : State) (l : List (Nat × Bool)) : (s.setEcc l).corrections = s.corrections := id rfl
@[simp] theorem State.setEcc_trunks (s : State) (l : List (Nat × Bool)) : (s.setEcc l).trunks = s.trunks := id rfl
@[simp] theorem State.setEcc_latches (s : State) (l : List (Nat × Bool)) : (s.setEcc l).latches = s.latches := id rfl
@[simp] theorem State.setEcc_net (s : State) (l : List (Nat × Bool)) : (s.setEcc l).net = s.net := id rfl
@[simp] theorem State.setEcc_track (s : State) (l : List (Nat × Bool)) : (s.setEcc l).track = s.track := id rfl
@[simp] theorem State.setEcc_safety (s : State) (l : List (Nat × Bool)) : (s.setEcc l).safety = s.safety := id rfl
@[simp] theorem State.setEcc_capture (s : State) (l : List (Nat × Bool)) : (s.setEcc l).capture = s.capture := id rfl
@[simp] theorem State.setEcc_fault (s : State) (l : List (Nat × Bool)) : (s.setEcc l).fault = s.fault := id rfl
@[simp] theorem State.setEcc_boot (s : State) (l : List (Nat × Bool)) : (s.setEcc l).boot = s.boot := id rfl
@[simp] theorem State.setEcc_power (s : State) (l : List (Nat × Bool)) : (s.setEcc l).power = s.power := id rfl
@[simp] theorem State.setEcc_mgmt (s : State) (l : List (Nat × Bool)) : (s.setEcc l).mgmt = s.mgmt := id rfl
@[simp] theorem State.setEcc_rd (s : State) (l : List (Nat × Bool)) (x : Nat) : (s.setEcc l).rd x = s.rd x := id rfl
@[simp] theorem State.setEcc_fld (s : State) (l : List (Nat × Bool)) (x : Nat) (g : Fld) : (s.setEcc l).fld x g = s.fld x g := id rfl
@[simp] theorem State.setEcc_flag (s : State) (l : List (Nat × Bool)) (x : Nat) (g : Fld) : (s.setEcc l).flag x g = s.flag x g := id rfl
@[simp] theorem State.setEcc_rbit (s : State) (l : List (Nat × Bool)) (x y z : Nat) : (s.setEcc l).rbit x y z = s.rbit x y z := id rfl
@[simp] theorem State.setEcc_sh (s : State) (l : List (Nat × Bool)) (x : Nat) : (s.setEcc l).sh x = s.sh x := id rfl
@[simp] theorem State.setEcc_abyte (s : State) (l : List (Nat × Bool)) (x : Nat) : (s.setEcc l).abyte x = s.abyte x := id rfl
@[simp] theorem State.setEcc_byte (s : State) (l : List (Nat × Bool)) (x : Nat) : (s.setEcc l).byte x = s.byte x := id rfl
@[simp] theorem State.setEcc_now (s : State) (l : List (Nat × Bool)) : (s.setEcc l).now = s.now := id rfl
@[simp] theorem State.setReplies_pending (s : State) (l : List (Nat × List Word)) : (s.setReplies l).pending = s.pending := id rfl
@[simp] theorem State.setReplies_free (s : State) (l : List (Nat × List Word)) : (s.setReplies l).free = s.free := id rfl
@[simp] theorem State.setReplies_resp (s : State) (l : List (Nat × List Word)) : (s.setReplies l).resp = s.resp := id rfl
@[simp] theorem State.setReplies_dev (s : State) (l : List (Nat × List Word)) : (s.setReplies l).dev = s.dev := id rfl
@[simp] theorem State.setReplies_regs (s : State) (l : List (Nat × List Word)) : (s.setReplies l).regs = s.regs := id rfl
@[simp] theorem State.setReplies_shadow (s : State) (l : List (Nat × List Word)) : (s.setReplies l).shadow = s.shadow := id rfl
@[simp] theorem State.setReplies_mem (s : State) (l : List (Nat × List Word)) : (s.setReplies l).mem = s.mem := id rfl
@[simp] theorem State.setReplies_amber (s : State) (l : List (Nat × List Word)) : (s.setReplies l).amber = s.amber := id rfl
@[simp] theorem State.setReplies_time (s : State) (l : List (Nat × List Word)) : (s.setReplies l).time = s.time := id rfl
@[simp] theorem State.setReplies_slates (s : State) (l : List (Nat × List Word)) : (s.setReplies l).slates = s.slates := id rfl
@[simp] theorem State.setReplies_axes (s : State) (l : List (Nat × List Word)) : (s.setReplies l).axes = s.axes := id rfl
@[simp] theorem State.setReplies_evlog (s : State) (l : List (Nat × List Word)) : (s.setReplies l).evlog = s.evlog := id rfl
@[simp] theorem State.setReplies_fsch (s : State) (l : List (Nat × List Word)) : (s.setReplies l).fsch = s.fsch := id rfl
@[simp] theorem State.setReplies_engines (s : State) (l : List (Nat × List Word)) : (s.setReplies l).engines = s.engines := id rfl
@[simp] theorem State.setReplies_cleaning (s : State) (l : List (Nat × List Word)) : (s.setReplies l).cleaning = s.cleaning := id rfl
@[simp] theorem State.setReplies_msi (s : State) (l : List (Nat × List Word)) : (s.setReplies l).msi = s.msi := id rfl
@[simp] theorem State.setReplies_teeth (s : State) (l : List (Nat × List Word)) : (s.setReplies l).teeth = s.teeth := id rfl
@[simp] theorem State.setReplies_corrections (s : State) (l : List (Nat × List Word)) : (s.setReplies l).corrections = s.corrections := id rfl
@[simp] theorem State.setReplies_ecc (s : State) (l : List (Nat × List Word)) : (s.setReplies l).ecc = s.ecc := id rfl
@[simp] theorem State.setReplies_trunks (s : State) (l : List (Nat × List Word)) : (s.setReplies l).trunks = s.trunks := id rfl
@[simp] theorem State.setReplies_latches (s : State) (l : List (Nat × List Word)) : (s.setReplies l).latches = s.latches := id rfl
@[simp] theorem State.setReplies_net (s : State) (l : List (Nat × List Word)) : (s.setReplies l).net = s.net := id rfl
@[simp] theorem State.setReplies_track (s : State) (l : List (Nat × List Word)) : (s.setReplies l).track = s.track := id rfl
@[simp] theorem State.setReplies_safety (s : State) (l : List (Nat × List Word)) : (s.setReplies l).safety = s.safety := id rfl
@[simp] theorem State.setReplies_capture (s : State) (l : List (Nat × List Word)) : (s.setReplies l).capture = s.capture := id rfl
@[simp] theorem State.setReplies_fault (s : State) (l : List (Nat × List Word)) : (s.setReplies l).fault = s.fault := id rfl
@[simp] theorem State.setReplies_boot (s : State) (l : List (Nat × List Word)) : (s.setReplies l).boot = s.boot := id rfl
@[simp] theorem State.setReplies_power (s : State) (l : List (Nat × List Word)) : (s.setReplies l).power = s.power := id rfl
@[simp] theorem State.setReplies_mgmt (s : State) (l : List (Nat × List Word)) : (s.setReplies l).mgmt = s.mgmt := id rfl
@[simp] theorem State.setReplies_rd (s : State) (l : List (Nat × List Word)) (x : Nat) : (s.setReplies l).rd x = s.rd x := id rfl
@[simp] theorem State.setReplies_fld (s : State) (l : List (Nat × List Word)) (x : Nat) (g : Fld) : (s.setReplies l).fld x g = s.fld x g := id rfl
@[simp] theorem State.setReplies_flag (s : State) (l : List (Nat × List Word)) (x : Nat) (g : Fld) : (s.setReplies l).flag x g = s.flag x g := id rfl
@[simp] theorem State.setReplies_rbit (s : State) (l : List (Nat × List Word)) (x y z : Nat) : (s.setReplies l).rbit x y z = s.rbit x y z := id rfl
@[simp] theorem State.setReplies_sh (s : State) (l : List (Nat × List Word)) (x : Nat) : (s.setReplies l).sh x = s.sh x := id rfl
@[simp] theorem State.setReplies_abyte (s : State) (l : List (Nat × List Word)) (x : Nat) : (s.setReplies l).abyte x = s.abyte x := id rfl
@[simp] theorem State.setReplies_byte (s : State) (l : List (Nat × List Word)) (x : Nat) : (s.setReplies l).byte x = s.byte x := id rfl
@[simp] theorem State.setReplies_now (s : State) (l : List (Nat × List Word)) : (s.setReplies l).now = s.now := id rfl
@[simp] theorem State.setCleaning_pending (s : State) (l : List Res) : (s.setCleaning l).pending = s.pending := id rfl
@[simp] theorem State.setCleaning_free (s : State) (l : List Res) : (s.setCleaning l).free = s.free := id rfl
@[simp] theorem State.setCleaning_resp (s : State) (l : List Res) : (s.setCleaning l).resp = s.resp := id rfl
@[simp] theorem State.setCleaning_dev (s : State) (l : List Res) : (s.setCleaning l).dev = s.dev := id rfl
@[simp] theorem State.setCleaning_regs (s : State) (l : List Res) : (s.setCleaning l).regs = s.regs := id rfl
@[simp] theorem State.setCleaning_shadow (s : State) (l : List Res) : (s.setCleaning l).shadow = s.shadow := id rfl
@[simp] theorem State.setCleaning_mem (s : State) (l : List Res) : (s.setCleaning l).mem = s.mem := id rfl
@[simp] theorem State.setCleaning_amber (s : State) (l : List Res) : (s.setCleaning l).amber = s.amber := id rfl
@[simp] theorem State.setCleaning_time (s : State) (l : List Res) : (s.setCleaning l).time = s.time := id rfl
@[simp] theorem State.setCleaning_slates (s : State) (l : List Res) : (s.setCleaning l).slates = s.slates := id rfl
@[simp] theorem State.setCleaning_axes (s : State) (l : List Res) : (s.setCleaning l).axes = s.axes := id rfl
@[simp] theorem State.setCleaning_evlog (s : State) (l : List Res) : (s.setCleaning l).evlog = s.evlog := id rfl
@[simp] theorem State.setCleaning_fsch (s : State) (l : List Res) : (s.setCleaning l).fsch = s.fsch := id rfl
@[simp] theorem State.setCleaning_engines (s : State) (l : List Res) : (s.setCleaning l).engines = s.engines := id rfl
@[simp] theorem State.setCleaning_replies (s : State) (l : List Res) : (s.setCleaning l).replies = s.replies := id rfl
@[simp] theorem State.setCleaning_msi (s : State) (l : List Res) : (s.setCleaning l).msi = s.msi := id rfl
@[simp] theorem State.setCleaning_teeth (s : State) (l : List Res) : (s.setCleaning l).teeth = s.teeth := id rfl
@[simp] theorem State.setCleaning_corrections (s : State) (l : List Res) : (s.setCleaning l).corrections = s.corrections := id rfl
@[simp] theorem State.setCleaning_ecc (s : State) (l : List Res) : (s.setCleaning l).ecc = s.ecc := id rfl
@[simp] theorem State.setCleaning_trunks (s : State) (l : List Res) : (s.setCleaning l).trunks = s.trunks := id rfl
@[simp] theorem State.setCleaning_latches (s : State) (l : List Res) : (s.setCleaning l).latches = s.latches := id rfl
@[simp] theorem State.setCleaning_net (s : State) (l : List Res) : (s.setCleaning l).net = s.net := id rfl
@[simp] theorem State.setCleaning_track (s : State) (l : List Res) : (s.setCleaning l).track = s.track := id rfl
@[simp] theorem State.setCleaning_safety (s : State) (l : List Res) : (s.setCleaning l).safety = s.safety := id rfl
@[simp] theorem State.setCleaning_capture (s : State) (l : List Res) : (s.setCleaning l).capture = s.capture := id rfl
@[simp] theorem State.setCleaning_fault (s : State) (l : List Res) : (s.setCleaning l).fault = s.fault := id rfl
@[simp] theorem State.setCleaning_boot (s : State) (l : List Res) : (s.setCleaning l).boot = s.boot := id rfl
@[simp] theorem State.setCleaning_power (s : State) (l : List Res) : (s.setCleaning l).power = s.power := id rfl
@[simp] theorem State.setCleaning_mgmt (s : State) (l : List Res) : (s.setCleaning l).mgmt = s.mgmt := id rfl
@[simp] theorem State.setCleaning_rd (s : State) (l : List Res) (x : Nat) : (s.setCleaning l).rd x = s.rd x := id rfl
@[simp] theorem State.setCleaning_fld (s : State) (l : List Res) (x : Nat) (g : Fld) : (s.setCleaning l).fld x g = s.fld x g := id rfl
@[simp] theorem State.setCleaning_flag (s : State) (l : List Res) (x : Nat) (g : Fld) : (s.setCleaning l).flag x g = s.flag x g := id rfl
@[simp] theorem State.setCleaning_rbit (s : State) (l : List Res) (x y z : Nat) : (s.setCleaning l).rbit x y z = s.rbit x y z := id rfl
@[simp] theorem State.setCleaning_sh (s : State) (l : List Res) (x : Nat) : (s.setCleaning l).sh x = s.sh x := id rfl
@[simp] theorem State.setCleaning_abyte (s : State) (l : List Res) (x : Nat) : (s.setCleaning l).abyte x = s.abyte x := id rfl
@[simp] theorem State.setCleaning_byte (s : State) (l : List Res) (x : Nat) : (s.setCleaning l).byte x = s.byte x := id rfl
@[simp] theorem State.setCleaning_now (s : State) (l : List Res) : (s.setCleaning l).now = s.now := id rfl
@[simp] theorem State.setMsi_pending (s : State) (m : Nat × Nat) : (s.setMsi m).pending = s.pending := id rfl
@[simp] theorem State.setMsi_free (s : State) (m : Nat × Nat) : (s.setMsi m).free = s.free := id rfl
@[simp] theorem State.setMsi_resp (s : State) (m : Nat × Nat) : (s.setMsi m).resp = s.resp := id rfl
@[simp] theorem State.setMsi_dev (s : State) (m : Nat × Nat) : (s.setMsi m).dev = s.dev := id rfl
@[simp] theorem State.setMsi_regs (s : State) (m : Nat × Nat) : (s.setMsi m).regs = s.regs := id rfl
@[simp] theorem State.setMsi_shadow (s : State) (m : Nat × Nat) : (s.setMsi m).shadow = s.shadow := id rfl
@[simp] theorem State.setMsi_mem (s : State) (m : Nat × Nat) : (s.setMsi m).mem = s.mem := id rfl
@[simp] theorem State.setMsi_amber (s : State) (m : Nat × Nat) : (s.setMsi m).amber = s.amber := id rfl
@[simp] theorem State.setMsi_time (s : State) (m : Nat × Nat) : (s.setMsi m).time = s.time := id rfl
@[simp] theorem State.setMsi_slates (s : State) (m : Nat × Nat) : (s.setMsi m).slates = s.slates := id rfl
@[simp] theorem State.setMsi_axes (s : State) (m : Nat × Nat) : (s.setMsi m).axes = s.axes := id rfl
@[simp] theorem State.setMsi_evlog (s : State) (m : Nat × Nat) : (s.setMsi m).evlog = s.evlog := id rfl
@[simp] theorem State.setMsi_fsch (s : State) (m : Nat × Nat) : (s.setMsi m).fsch = s.fsch := id rfl
@[simp] theorem State.setMsi_engines (s : State) (m : Nat × Nat) : (s.setMsi m).engines = s.engines := id rfl
@[simp] theorem State.setMsi_replies (s : State) (m : Nat × Nat) : (s.setMsi m).replies = s.replies := id rfl
@[simp] theorem State.setMsi_cleaning (s : State) (m : Nat × Nat) : (s.setMsi m).cleaning = s.cleaning := id rfl
@[simp] theorem State.setMsi_teeth (s : State) (m : Nat × Nat) : (s.setMsi m).teeth = s.teeth := id rfl
@[simp] theorem State.setMsi_corrections (s : State) (m : Nat × Nat) : (s.setMsi m).corrections = s.corrections := id rfl
@[simp] theorem State.setMsi_ecc (s : State) (m : Nat × Nat) : (s.setMsi m).ecc = s.ecc := id rfl
@[simp] theorem State.setMsi_trunks (s : State) (m : Nat × Nat) : (s.setMsi m).trunks = s.trunks := id rfl
@[simp] theorem State.setMsi_latches (s : State) (m : Nat × Nat) : (s.setMsi m).latches = s.latches := id rfl
@[simp] theorem State.setMsi_net (s : State) (m : Nat × Nat) : (s.setMsi m).net = s.net := id rfl
@[simp] theorem State.setMsi_track (s : State) (m : Nat × Nat) : (s.setMsi m).track = s.track := id rfl
@[simp] theorem State.setMsi_safety (s : State) (m : Nat × Nat) : (s.setMsi m).safety = s.safety := id rfl
@[simp] theorem State.setMsi_capture (s : State) (m : Nat × Nat) : (s.setMsi m).capture = s.capture := id rfl
@[simp] theorem State.setMsi_fault (s : State) (m : Nat × Nat) : (s.setMsi m).fault = s.fault := id rfl
@[simp] theorem State.setMsi_boot (s : State) (m : Nat × Nat) : (s.setMsi m).boot = s.boot := id rfl
@[simp] theorem State.setMsi_power (s : State) (m : Nat × Nat) : (s.setMsi m).power = s.power := id rfl
@[simp] theorem State.setMsi_mgmt (s : State) (m : Nat × Nat) : (s.setMsi m).mgmt = s.mgmt := id rfl
@[simp] theorem State.setMsi_rd (s : State) (m : Nat × Nat) (x : Nat) : (s.setMsi m).rd x = s.rd x := id rfl
@[simp] theorem State.setMsi_fld (s : State) (m : Nat × Nat) (x : Nat) (g : Fld) : (s.setMsi m).fld x g = s.fld x g := id rfl
@[simp] theorem State.setMsi_flag (s : State) (m : Nat × Nat) (x : Nat) (g : Fld) : (s.setMsi m).flag x g = s.flag x g := id rfl
@[simp] theorem State.setMsi_rbit (s : State) (m : Nat × Nat) (x y z : Nat) : (s.setMsi m).rbit x y z = s.rbit x y z := id rfl
@[simp] theorem State.setMsi_sh (s : State) (m : Nat × Nat) (x : Nat) : (s.setMsi m).sh x = s.sh x := id rfl
@[simp] theorem State.setMsi_abyte (s : State) (m : Nat × Nat) (x : Nat) : (s.setMsi m).abyte x = s.abyte x := id rfl
@[simp] theorem State.setMsi_byte (s : State) (m : Nat × Nat) (x : Nat) : (s.setMsi m).byte x = s.byte x := id rfl
@[simp] theorem State.setMsi_now (s : State) (m : Nat × Nat) : (s.setMsi m).now = s.now := id rfl
@[simp] theorem State.setFault_pending (s : State) (f : FaultState → FaultState) : (s.setFault f).pending = s.pending := id rfl
@[simp] theorem State.setFault_free (s : State) (f : FaultState → FaultState) : (s.setFault f).free = s.free := id rfl
@[simp] theorem State.setFault_resp (s : State) (f : FaultState → FaultState) : (s.setFault f).resp = s.resp := id rfl
@[simp] theorem State.setFault_dev (s : State) (f : FaultState → FaultState) : (s.setFault f).dev = s.dev := id rfl
@[simp] theorem State.setFault_regs (s : State) (f : FaultState → FaultState) : (s.setFault f).regs = s.regs := id rfl
@[simp] theorem State.setFault_shadow (s : State) (f : FaultState → FaultState) : (s.setFault f).shadow = s.shadow := id rfl
@[simp] theorem State.setFault_mem (s : State) (f : FaultState → FaultState) : (s.setFault f).mem = s.mem := id rfl
@[simp] theorem State.setFault_amber (s : State) (f : FaultState → FaultState) : (s.setFault f).amber = s.amber := id rfl
@[simp] theorem State.setFault_time (s : State) (f : FaultState → FaultState) : (s.setFault f).time = s.time := id rfl
@[simp] theorem State.setFault_slates (s : State) (f : FaultState → FaultState) : (s.setFault f).slates = s.slates := id rfl
@[simp] theorem State.setFault_axes (s : State) (f : FaultState → FaultState) : (s.setFault f).axes = s.axes := id rfl
@[simp] theorem State.setFault_evlog (s : State) (f : FaultState → FaultState) : (s.setFault f).evlog = s.evlog := id rfl
@[simp] theorem State.setFault_fsch (s : State) (f : FaultState → FaultState) : (s.setFault f).fsch = s.fsch := id rfl
@[simp] theorem State.setFault_engines (s : State) (f : FaultState → FaultState) : (s.setFault f).engines = s.engines := id rfl
@[simp] theorem State.setFault_replies (s : State) (f : FaultState → FaultState) : (s.setFault f).replies = s.replies := id rfl
@[simp] theorem State.setFault_cleaning (s : State) (f : FaultState → FaultState) : (s.setFault f).cleaning = s.cleaning := id rfl
@[simp] theorem State.setFault_msi (s : State) (f : FaultState → FaultState) : (s.setFault f).msi = s.msi := id rfl
@[simp] theorem State.setFault_teeth (s : State) (f : FaultState → FaultState) : (s.setFault f).teeth = s.teeth := id rfl
@[simp] theorem State.setFault_corrections (s : State) (f : FaultState → FaultState) : (s.setFault f).corrections = s.corrections := id rfl
@[simp] theorem State.setFault_ecc (s : State) (f : FaultState → FaultState) : (s.setFault f).ecc = s.ecc := id rfl
@[simp] theorem State.setFault_trunks (s : State) (f : FaultState → FaultState) : (s.setFault f).trunks = s.trunks := id rfl
@[simp] theorem State.setFault_latches (s : State) (f : FaultState → FaultState) : (s.setFault f).latches = s.latches := id rfl
@[simp] theorem State.setFault_net (s : State) (f : FaultState → FaultState) : (s.setFault f).net = s.net := id rfl
@[simp] theorem State.setFault_track (s : State) (f : FaultState → FaultState) : (s.setFault f).track = s.track := id rfl
@[simp] theorem State.setFault_safety (s : State) (f : FaultState → FaultState) : (s.setFault f).safety = s.safety := id rfl
@[simp] theorem State.setFault_capture (s : State) (f : FaultState → FaultState) : (s.setFault f).capture = s.capture := id rfl
@[simp] theorem State.setFault_boot (s : State) (f : FaultState → FaultState) : (s.setFault f).boot = s.boot := id rfl
@[simp] theorem State.setFault_power (s : State) (f : FaultState → FaultState) : (s.setFault f).power = s.power := id rfl
@[simp] theorem State.setFault_mgmt (s : State) (f : FaultState → FaultState) : (s.setFault f).mgmt = s.mgmt := id rfl
@[simp] theorem State.setFault_rd (s : State) (f : FaultState → FaultState) (x : Nat) : (s.setFault f).rd x = s.rd x := id rfl
@[simp] theorem State.setFault_fld (s : State) (f : FaultState → FaultState) (x : Nat) (g : Fld) : (s.setFault f).fld x g = s.fld x g := id rfl
@[simp] theorem State.setFault_flag (s : State) (f : FaultState → FaultState) (x : Nat) (g : Fld) : (s.setFault f).flag x g = s.flag x g := id rfl
@[simp] theorem State.setFault_rbit (s : State) (f : FaultState → FaultState) (x y z : Nat) : (s.setFault f).rbit x y z = s.rbit x y z := id rfl
@[simp] theorem State.setFault_sh (s : State) (f : FaultState → FaultState) (x : Nat) : (s.setFault f).sh x = s.sh x := id rfl
@[simp] theorem State.setFault_abyte (s : State) (f : FaultState → FaultState) (x : Nat) : (s.setFault f).abyte x = s.abyte x := id rfl
@[simp] theorem State.setFault_byte (s : State) (f : FaultState → FaultState) (x : Nat) : (s.setFault f).byte x = s.byte x := id rfl
@[simp] theorem State.setFault_now (s : State) (f : FaultState → FaultState) : (s.setFault f).now = s.now := id rfl
@[simp] theorem State.latch_pending (s : State) (q a v : Nat) : (s.latch q a v).pending = s.pending := id rfl
@[simp] theorem State.latch_free (s : State) (q a v : Nat) : (s.latch q a v).free = s.free := id rfl
@[simp] theorem State.latch_resp (s : State) (q a v : Nat) : (s.latch q a v).resp = s.resp := id rfl
@[simp] theorem State.latch_dev (s : State) (q a v : Nat) : (s.latch q a v).dev = s.dev := id rfl
@[simp] theorem State.latch_regs (s : State) (q a v : Nat) : (s.latch q a v).regs = s.regs := id rfl
@[simp] theorem State.latch_shadow (s : State) (q a v : Nat) : (s.latch q a v).shadow = s.shadow := id rfl
@[simp] theorem State.latch_mem (s : State) (q a v : Nat) : (s.latch q a v).mem = s.mem := id rfl
@[simp] theorem State.latch_amber (s : State) (q a v : Nat) : (s.latch q a v).amber = s.amber := id rfl
@[simp] theorem State.latch_time (s : State) (q a v : Nat) : (s.latch q a v).time = s.time := id rfl
@[simp] theorem State.latch_slates (s : State) (q a v : Nat) : (s.latch q a v).slates = s.slates := id rfl
@[simp] theorem State.latch_axes (s : State) (q a v : Nat) : (s.latch q a v).axes = s.axes := id rfl
@[simp] theorem State.latch_evlog (s : State) (q a v : Nat) : (s.latch q a v).evlog = s.evlog := id rfl
@[simp] theorem State.latch_fsch (s : State) (q a v : Nat) : (s.latch q a v).fsch = s.fsch := id rfl
@[simp] theorem State.latch_engines (s : State) (q a v : Nat) : (s.latch q a v).engines = s.engines := id rfl
@[simp] theorem State.latch_replies (s : State) (q a v : Nat) : (s.latch q a v).replies = s.replies := id rfl
@[simp] theorem State.latch_cleaning (s : State) (q a v : Nat) : (s.latch q a v).cleaning = s.cleaning := id rfl
@[simp] theorem State.latch_msi (s : State) (q a v : Nat) : (s.latch q a v).msi = s.msi := id rfl
@[simp] theorem State.latch_teeth (s : State) (q a v : Nat) : (s.latch q a v).teeth = s.teeth := id rfl
@[simp] theorem State.latch_corrections (s : State) (q a v : Nat) : (s.latch q a v).corrections = s.corrections := id rfl
@[simp] theorem State.latch_ecc (s : State) (q a v : Nat) : (s.latch q a v).ecc = s.ecc := id rfl
@[simp] theorem State.latch_trunks (s : State) (q a v : Nat) : (s.latch q a v).trunks = s.trunks := id rfl
@[simp] theorem State.latch_net (s : State) (q a v : Nat) : (s.latch q a v).net = s.net := id rfl
@[simp] theorem State.latch_track (s : State) (q a v : Nat) : (s.latch q a v).track = s.track := id rfl
@[simp] theorem State.latch_safety (s : State) (q a v : Nat) : (s.latch q a v).safety = s.safety := id rfl
@[simp] theorem State.latch_capture (s : State) (q a v : Nat) : (s.latch q a v).capture = s.capture := id rfl
@[simp] theorem State.latch_fault (s : State) (q a v : Nat) : (s.latch q a v).fault = s.fault := id rfl
@[simp] theorem State.latch_boot (s : State) (q a v : Nat) : (s.latch q a v).boot = s.boot := id rfl
@[simp] theorem State.latch_power (s : State) (q a v : Nat) : (s.latch q a v).power = s.power := id rfl
@[simp] theorem State.latch_mgmt (s : State) (q a v : Nat) : (s.latch q a v).mgmt = s.mgmt := id rfl
@[simp] theorem State.latch_rd (s : State) (q a v : Nat) (x : Nat) : (s.latch q a v).rd x = s.rd x := id rfl
@[simp] theorem State.latch_fld (s : State) (q a v : Nat) (x : Nat) (g : Fld) : (s.latch q a v).fld x g = s.fld x g := id rfl
@[simp] theorem State.latch_flag (s : State) (q a v : Nat) (x : Nat) (g : Fld) : (s.latch q a v).flag x g = s.flag x g := id rfl
@[simp] theorem State.latch_rbit (s : State) (q a v : Nat) (x y z : Nat) : (s.latch q a v).rbit x y z = s.rbit x y z := id rfl
@[simp] theorem State.latch_sh (s : State) (q a v : Nat) (x : Nat) : (s.latch q a v).sh x = s.sh x := id rfl
@[simp] theorem State.latch_abyte (s : State) (q a v : Nat) (x : Nat) : (s.latch q a v).abyte x = s.abyte x := id rfl
@[simp] theorem State.latch_byte (s : State) (q a v : Nat) (x : Nat) : (s.latch q a v).byte x = s.byte x := id rfl
@[simp] theorem State.latch_now (s : State) (q a v : Nat) : (s.latch q a v).now = s.now := id rfl
@[simp] theorem State.setEng_pending (s : State) (i : Fin 512) (f : EngineState → EngineState) : (s.setEng i f).pending = s.pending := id rfl
@[simp] theorem State.setEng_free (s : State) (i : Fin 512) (f : EngineState → EngineState) : (s.setEng i f).free = s.free := id rfl
@[simp] theorem State.setEng_resp (s : State) (i : Fin 512) (f : EngineState → EngineState) : (s.setEng i f).resp = s.resp := id rfl
@[simp] theorem State.setEng_dev (s : State) (i : Fin 512) (f : EngineState → EngineState) : (s.setEng i f).dev = s.dev := id rfl
@[simp] theorem State.setEng_regs (s : State) (i : Fin 512) (f : EngineState → EngineState) : (s.setEng i f).regs = s.regs := id rfl
@[simp] theorem State.setEng_shadow (s : State) (i : Fin 512) (f : EngineState → EngineState) : (s.setEng i f).shadow = s.shadow := id rfl
@[simp] theorem State.setEng_mem (s : State) (i : Fin 512) (f : EngineState → EngineState) : (s.setEng i f).mem = s.mem := id rfl
@[simp] theorem State.setEng_amber (s : State) (i : Fin 512) (f : EngineState → EngineState) : (s.setEng i f).amber = s.amber := id rfl
@[simp] theorem State.setEng_time (s : State) (i : Fin 512) (f : EngineState → EngineState) : (s.setEng i f).time = s.time := id rfl
@[simp] theorem State.setEng_slates (s : State) (i : Fin 512) (f : EngineState → EngineState) : (s.setEng i f).slates = s.slates := id rfl
@[simp] theorem State.setEng_axes (s : State) (i : Fin 512) (f : EngineState → EngineState) : (s.setEng i f).axes = s.axes := id rfl
@[simp] theorem State.setEng_evlog (s : State) (i : Fin 512) (f : EngineState → EngineState) : (s.setEng i f).evlog = s.evlog := id rfl
@[simp] theorem State.setEng_fsch (s : State) (i : Fin 512) (f : EngineState → EngineState) : (s.setEng i f).fsch = s.fsch := id rfl
@[simp] theorem State.setEng_replies (s : State) (i : Fin 512) (f : EngineState → EngineState) : (s.setEng i f).replies = s.replies := id rfl
@[simp] theorem State.setEng_cleaning (s : State) (i : Fin 512) (f : EngineState → EngineState) : (s.setEng i f).cleaning = s.cleaning := id rfl
@[simp] theorem State.setEng_msi (s : State) (i : Fin 512) (f : EngineState → EngineState) : (s.setEng i f).msi = s.msi := id rfl
@[simp] theorem State.setEng_teeth (s : State) (i : Fin 512) (f : EngineState → EngineState) : (s.setEng i f).teeth = s.teeth := id rfl
@[simp] theorem State.setEng_corrections (s : State) (i : Fin 512) (f : EngineState → EngineState) : (s.setEng i f).corrections = s.corrections := id rfl
@[simp] theorem State.setEng_ecc (s : State) (i : Fin 512) (f : EngineState → EngineState) : (s.setEng i f).ecc = s.ecc := id rfl
@[simp] theorem State.setEng_trunks (s : State) (i : Fin 512) (f : EngineState → EngineState) : (s.setEng i f).trunks = s.trunks := id rfl
@[simp] theorem State.setEng_latches (s : State) (i : Fin 512) (f : EngineState → EngineState) : (s.setEng i f).latches = s.latches := id rfl
@[simp] theorem State.setEng_net (s : State) (i : Fin 512) (f : EngineState → EngineState) : (s.setEng i f).net = s.net := id rfl
@[simp] theorem State.setEng_track (s : State) (i : Fin 512) (f : EngineState → EngineState) : (s.setEng i f).track = s.track := id rfl
@[simp] theorem State.setEng_safety (s : State) (i : Fin 512) (f : EngineState → EngineState) : (s.setEng i f).safety = s.safety := id rfl
@[simp] theorem State.setEng_capture (s : State) (i : Fin 512) (f : EngineState → EngineState) : (s.setEng i f).capture = s.capture := id rfl
@[simp] theorem State.setEng_fault (s : State) (i : Fin 512) (f : EngineState → EngineState) : (s.setEng i f).fault = s.fault := id rfl
@[simp] theorem State.setEng_boot (s : State) (i : Fin 512) (f : EngineState → EngineState) : (s.setEng i f).boot = s.boot := id rfl
@[simp] theorem State.setEng_power (s : State) (i : Fin 512) (f : EngineState → EngineState) : (s.setEng i f).power = s.power := id rfl
@[simp] theorem State.setEng_mgmt (s : State) (i : Fin 512) (f : EngineState → EngineState) : (s.setEng i f).mgmt = s.mgmt := id rfl
@[simp] theorem State.setEng_rd (s : State) (i : Fin 512) (f : EngineState → EngineState) (x : Nat) : (s.setEng i f).rd x = s.rd x := id rfl
@[simp] theorem State.setEng_fld (s : State) (i : Fin 512) (f : EngineState → EngineState) (x : Nat) (g : Fld) : (s.setEng i f).fld x g = s.fld x g := id rfl
@[simp] theorem State.setEng_flag (s : State) (i : Fin 512) (f : EngineState → EngineState) (x : Nat) (g : Fld) : (s.setEng i f).flag x g = s.flag x g := id rfl
@[simp] theorem State.setEng_rbit (s : State) (i : Fin 512) (f : EngineState → EngineState) (x y z : Nat) : (s.setEng i f).rbit x y z = s.rbit x y z := id rfl
@[simp] theorem State.setEng_sh (s : State) (i : Fin 512) (f : EngineState → EngineState) (x : Nat) : (s.setEng i f).sh x = s.sh x := id rfl
@[simp] theorem State.setEng_abyte (s : State) (i : Fin 512) (f : EngineState → EngineState) (x : Nat) : (s.setEng i f).abyte x = s.abyte x := id rfl
@[simp] theorem State.setEng_byte (s : State) (i : Fin 512) (f : EngineState → EngineState) (x : Nat) : (s.setEng i f).byte x = s.byte x := id rfl
@[simp] theorem State.setEng_now (s : State) (i : Fin 512) (f : EngineState → EngineState) : (s.setEng i f).now = s.now := id rfl
@[simp] theorem State.setTooth_pending (s : State) (i : Fin 16) (f : ToothUnit → ToothUnit) : (s.setTooth i f).pending = s.pending := id rfl
@[simp] theorem State.setTooth_free (s : State) (i : Fin 16) (f : ToothUnit → ToothUnit) : (s.setTooth i f).free = s.free := id rfl
@[simp] theorem State.setTooth_resp (s : State) (i : Fin 16) (f : ToothUnit → ToothUnit) : (s.setTooth i f).resp = s.resp := id rfl
@[simp] theorem State.setTooth_dev (s : State) (i : Fin 16) (f : ToothUnit → ToothUnit) : (s.setTooth i f).dev = s.dev := id rfl
@[simp] theorem State.setTooth_regs (s : State) (i : Fin 16) (f : ToothUnit → ToothUnit) : (s.setTooth i f).regs = s.regs := id rfl
@[simp] theorem State.setTooth_shadow (s : State) (i : Fin 16) (f : ToothUnit → ToothUnit) : (s.setTooth i f).shadow = s.shadow := id rfl
@[simp] theorem State.setTooth_mem (s : State) (i : Fin 16) (f : ToothUnit → ToothUnit) : (s.setTooth i f).mem = s.mem := id rfl
@[simp] theorem State.setTooth_amber (s : State) (i : Fin 16) (f : ToothUnit → ToothUnit) : (s.setTooth i f).amber = s.amber := id rfl
@[simp] theorem State.setTooth_time (s : State) (i : Fin 16) (f : ToothUnit → ToothUnit) : (s.setTooth i f).time = s.time := id rfl
@[simp] theorem State.setTooth_slates (s : State) (i : Fin 16) (f : ToothUnit → ToothUnit) : (s.setTooth i f).slates = s.slates := id rfl
@[simp] theorem State.setTooth_axes (s : State) (i : Fin 16) (f : ToothUnit → ToothUnit) : (s.setTooth i f).axes = s.axes := id rfl
@[simp] theorem State.setTooth_evlog (s : State) (i : Fin 16) (f : ToothUnit → ToothUnit) : (s.setTooth i f).evlog = s.evlog := id rfl
@[simp] theorem State.setTooth_fsch (s : State) (i : Fin 16) (f : ToothUnit → ToothUnit) : (s.setTooth i f).fsch = s.fsch := id rfl
@[simp] theorem State.setTooth_engines (s : State) (i : Fin 16) (f : ToothUnit → ToothUnit) : (s.setTooth i f).engines = s.engines := id rfl
@[simp] theorem State.setTooth_replies (s : State) (i : Fin 16) (f : ToothUnit → ToothUnit) : (s.setTooth i f).replies = s.replies := id rfl
@[simp] theorem State.setTooth_cleaning (s : State) (i : Fin 16) (f : ToothUnit → ToothUnit) : (s.setTooth i f).cleaning = s.cleaning := id rfl
@[simp] theorem State.setTooth_msi (s : State) (i : Fin 16) (f : ToothUnit → ToothUnit) : (s.setTooth i f).msi = s.msi := id rfl
@[simp] theorem State.setTooth_corrections (s : State) (i : Fin 16) (f : ToothUnit → ToothUnit) : (s.setTooth i f).corrections = s.corrections := id rfl
@[simp] theorem State.setTooth_ecc (s : State) (i : Fin 16) (f : ToothUnit → ToothUnit) : (s.setTooth i f).ecc = s.ecc := id rfl
@[simp] theorem State.setTooth_trunks (s : State) (i : Fin 16) (f : ToothUnit → ToothUnit) : (s.setTooth i f).trunks = s.trunks := id rfl
@[simp] theorem State.setTooth_latches (s : State) (i : Fin 16) (f : ToothUnit → ToothUnit) : (s.setTooth i f).latches = s.latches := id rfl
@[simp] theorem State.setTooth_net (s : State) (i : Fin 16) (f : ToothUnit → ToothUnit) : (s.setTooth i f).net = s.net := id rfl
@[simp] theorem State.setTooth_track (s : State) (i : Fin 16) (f : ToothUnit → ToothUnit) : (s.setTooth i f).track = s.track := id rfl
@[simp] theorem State.setTooth_safety (s : State) (i : Fin 16) (f : ToothUnit → ToothUnit) : (s.setTooth i f).safety = s.safety := id rfl
@[simp] theorem State.setTooth_capture (s : State) (i : Fin 16) (f : ToothUnit → ToothUnit) : (s.setTooth i f).capture = s.capture := id rfl
@[simp] theorem State.setTooth_fault (s : State) (i : Fin 16) (f : ToothUnit → ToothUnit) : (s.setTooth i f).fault = s.fault := id rfl
@[simp] theorem State.setTooth_boot (s : State) (i : Fin 16) (f : ToothUnit → ToothUnit) : (s.setTooth i f).boot = s.boot := id rfl
@[simp] theorem State.setTooth_power (s : State) (i : Fin 16) (f : ToothUnit → ToothUnit) : (s.setTooth i f).power = s.power := id rfl
@[simp] theorem State.setTooth_mgmt (s : State) (i : Fin 16) (f : ToothUnit → ToothUnit) : (s.setTooth i f).mgmt = s.mgmt := id rfl
@[simp] theorem State.setTooth_rd (s : State) (i : Fin 16) (f : ToothUnit → ToothUnit) (x : Nat) : (s.setTooth i f).rd x = s.rd x := id rfl
@[simp] theorem State.setTooth_fld (s : State) (i : Fin 16) (f : ToothUnit → ToothUnit) (x : Nat) (g : Fld) : (s.setTooth i f).fld x g = s.fld x g := id rfl
@[simp] theorem State.setTooth_flag (s : State) (i : Fin 16) (f : ToothUnit → ToothUnit) (x : Nat) (g : Fld) : (s.setTooth i f).flag x g = s.flag x g := id rfl
@[simp] theorem State.setTooth_rbit (s : State) (i : Fin 16) (f : ToothUnit → ToothUnit) (x y z : Nat) : (s.setTooth i f).rbit x y z = s.rbit x y z := id rfl
@[simp] theorem State.setTooth_sh (s : State) (i : Fin 16) (f : ToothUnit → ToothUnit) (x : Nat) : (s.setTooth i f).sh x = s.sh x := id rfl
@[simp] theorem State.setTooth_abyte (s : State) (i : Fin 16) (f : ToothUnit → ToothUnit) (x : Nat) : (s.setTooth i f).abyte x = s.abyte x := id rfl
@[simp] theorem State.setTooth_byte (s : State) (i : Fin 16) (f : ToothUnit → ToothUnit) (x : Nat) : (s.setTooth i f).byte x = s.byte x := id rfl
@[simp] theorem State.setTooth_now (s : State) (i : Fin 16) (f : ToothUnit → ToothUnit) : (s.setTooth i f).now = s.now := id rfl
@[simp] theorem State.setTrunk_pending (s : State) (i : Fin 8) (f : Trunk → Trunk) : (s.setTrunk i f).pending = s.pending := id rfl
@[simp] theorem State.setTrunk_free (s : State) (i : Fin 8) (f : Trunk → Trunk) : (s.setTrunk i f).free = s.free := id rfl
@[simp] theorem State.setTrunk_resp (s : State) (i : Fin 8) (f : Trunk → Trunk) : (s.setTrunk i f).resp = s.resp := id rfl
@[simp] theorem State.setTrunk_dev (s : State) (i : Fin 8) (f : Trunk → Trunk) : (s.setTrunk i f).dev = s.dev := id rfl
@[simp] theorem State.setTrunk_regs (s : State) (i : Fin 8) (f : Trunk → Trunk) : (s.setTrunk i f).regs = s.regs := id rfl
@[simp] theorem State.setTrunk_shadow (s : State) (i : Fin 8) (f : Trunk → Trunk) : (s.setTrunk i f).shadow = s.shadow := id rfl
@[simp] theorem State.setTrunk_mem (s : State) (i : Fin 8) (f : Trunk → Trunk) : (s.setTrunk i f).mem = s.mem := id rfl
@[simp] theorem State.setTrunk_amber (s : State) (i : Fin 8) (f : Trunk → Trunk) : (s.setTrunk i f).amber = s.amber := id rfl
@[simp] theorem State.setTrunk_time (s : State) (i : Fin 8) (f : Trunk → Trunk) : (s.setTrunk i f).time = s.time := id rfl
@[simp] theorem State.setTrunk_slates (s : State) (i : Fin 8) (f : Trunk → Trunk) : (s.setTrunk i f).slates = s.slates := id rfl
@[simp] theorem State.setTrunk_axes (s : State) (i : Fin 8) (f : Trunk → Trunk) : (s.setTrunk i f).axes = s.axes := id rfl
@[simp] theorem State.setTrunk_evlog (s : State) (i : Fin 8) (f : Trunk → Trunk) : (s.setTrunk i f).evlog = s.evlog := id rfl
@[simp] theorem State.setTrunk_fsch (s : State) (i : Fin 8) (f : Trunk → Trunk) : (s.setTrunk i f).fsch = s.fsch := id rfl
@[simp] theorem State.setTrunk_engines (s : State) (i : Fin 8) (f : Trunk → Trunk) : (s.setTrunk i f).engines = s.engines := id rfl
@[simp] theorem State.setTrunk_replies (s : State) (i : Fin 8) (f : Trunk → Trunk) : (s.setTrunk i f).replies = s.replies := id rfl
@[simp] theorem State.setTrunk_cleaning (s : State) (i : Fin 8) (f : Trunk → Trunk) : (s.setTrunk i f).cleaning = s.cleaning := id rfl
@[simp] theorem State.setTrunk_msi (s : State) (i : Fin 8) (f : Trunk → Trunk) : (s.setTrunk i f).msi = s.msi := id rfl
@[simp] theorem State.setTrunk_teeth (s : State) (i : Fin 8) (f : Trunk → Trunk) : (s.setTrunk i f).teeth = s.teeth := id rfl
@[simp] theorem State.setTrunk_corrections (s : State) (i : Fin 8) (f : Trunk → Trunk) : (s.setTrunk i f).corrections = s.corrections := id rfl
@[simp] theorem State.setTrunk_ecc (s : State) (i : Fin 8) (f : Trunk → Trunk) : (s.setTrunk i f).ecc = s.ecc := id rfl
@[simp] theorem State.setTrunk_latches (s : State) (i : Fin 8) (f : Trunk → Trunk) : (s.setTrunk i f).latches = s.latches := id rfl
@[simp] theorem State.setTrunk_net (s : State) (i : Fin 8) (f : Trunk → Trunk) : (s.setTrunk i f).net = s.net := id rfl
@[simp] theorem State.setTrunk_track (s : State) (i : Fin 8) (f : Trunk → Trunk) : (s.setTrunk i f).track = s.track := id rfl
@[simp] theorem State.setTrunk_safety (s : State) (i : Fin 8) (f : Trunk → Trunk) : (s.setTrunk i f).safety = s.safety := id rfl
@[simp] theorem State.setTrunk_capture (s : State) (i : Fin 8) (f : Trunk → Trunk) : (s.setTrunk i f).capture = s.capture := id rfl
@[simp] theorem State.setTrunk_fault (s : State) (i : Fin 8) (f : Trunk → Trunk) : (s.setTrunk i f).fault = s.fault := id rfl
@[simp] theorem State.setTrunk_boot (s : State) (i : Fin 8) (f : Trunk → Trunk) : (s.setTrunk i f).boot = s.boot := id rfl
@[simp] theorem State.setTrunk_power (s : State) (i : Fin 8) (f : Trunk → Trunk) : (s.setTrunk i f).power = s.power := id rfl
@[simp] theorem State.setTrunk_mgmt (s : State) (i : Fin 8) (f : Trunk → Trunk) : (s.setTrunk i f).mgmt = s.mgmt := id rfl
@[simp] theorem State.setTrunk_rd (s : State) (i : Fin 8) (f : Trunk → Trunk) (x : Nat) : (s.setTrunk i f).rd x = s.rd x := id rfl
@[simp] theorem State.setTrunk_fld (s : State) (i : Fin 8) (f : Trunk → Trunk) (x : Nat) (g : Fld) : (s.setTrunk i f).fld x g = s.fld x g := id rfl
@[simp] theorem State.setTrunk_flag (s : State) (i : Fin 8) (f : Trunk → Trunk) (x : Nat) (g : Fld) : (s.setTrunk i f).flag x g = s.flag x g := id rfl
@[simp] theorem State.setTrunk_rbit (s : State) (i : Fin 8) (f : Trunk → Trunk) (x y z : Nat) : (s.setTrunk i f).rbit x y z = s.rbit x y z := id rfl
@[simp] theorem State.setTrunk_sh (s : State) (i : Fin 8) (f : Trunk → Trunk) (x : Nat) : (s.setTrunk i f).sh x = s.sh x := id rfl
@[simp] theorem State.setTrunk_abyte (s : State) (i : Fin 8) (f : Trunk → Trunk) (x : Nat) : (s.setTrunk i f).abyte x = s.abyte x := id rfl
@[simp] theorem State.setTrunk_byte (s : State) (i : Fin 8) (f : Trunk → Trunk) (x : Nat) : (s.setTrunk i f).byte x = s.byte x := id rfl
@[simp] theorem State.setTrunk_now (s : State) (i : Fin 8) (f : Trunk → Trunk) : (s.setTrunk i f).now = s.now := id rfl
@[simp] theorem State.setFsch_pending (s : State) (i : Fin 8) (c : Fin 16) (f : FschReq → FschReq) : (s.setFsch i c f).pending = s.pending := id rfl
@[simp] theorem State.setFsch_free (s : State) (i : Fin 8) (c : Fin 16) (f : FschReq → FschReq) : (s.setFsch i c f).free = s.free := id rfl
@[simp] theorem State.setFsch_resp (s : State) (i : Fin 8) (c : Fin 16) (f : FschReq → FschReq) : (s.setFsch i c f).resp = s.resp := id rfl
@[simp] theorem State.setFsch_dev (s : State) (i : Fin 8) (c : Fin 16) (f : FschReq → FschReq) : (s.setFsch i c f).dev = s.dev := id rfl
@[simp] theorem State.setFsch_regs (s : State) (i : Fin 8) (c : Fin 16) (f : FschReq → FschReq) : (s.setFsch i c f).regs = s.regs := id rfl
@[simp] theorem State.setFsch_shadow (s : State) (i : Fin 8) (c : Fin 16) (f : FschReq → FschReq) : (s.setFsch i c f).shadow = s.shadow := id rfl
@[simp] theorem State.setFsch_mem (s : State) (i : Fin 8) (c : Fin 16) (f : FschReq → FschReq) : (s.setFsch i c f).mem = s.mem := id rfl
@[simp] theorem State.setFsch_amber (s : State) (i : Fin 8) (c : Fin 16) (f : FschReq → FschReq) : (s.setFsch i c f).amber = s.amber := id rfl
@[simp] theorem State.setFsch_time (s : State) (i : Fin 8) (c : Fin 16) (f : FschReq → FschReq) : (s.setFsch i c f).time = s.time := id rfl
@[simp] theorem State.setFsch_slates (s : State) (i : Fin 8) (c : Fin 16) (f : FschReq → FschReq) : (s.setFsch i c f).slates = s.slates := id rfl
@[simp] theorem State.setFsch_axes (s : State) (i : Fin 8) (c : Fin 16) (f : FschReq → FschReq) : (s.setFsch i c f).axes = s.axes := id rfl
@[simp] theorem State.setFsch_evlog (s : State) (i : Fin 8) (c : Fin 16) (f : FschReq → FschReq) : (s.setFsch i c f).evlog = s.evlog := id rfl
@[simp] theorem State.setFsch_engines (s : State) (i : Fin 8) (c : Fin 16) (f : FschReq → FschReq) : (s.setFsch i c f).engines = s.engines := id rfl
@[simp] theorem State.setFsch_replies (s : State) (i : Fin 8) (c : Fin 16) (f : FschReq → FschReq) : (s.setFsch i c f).replies = s.replies := id rfl
@[simp] theorem State.setFsch_cleaning (s : State) (i : Fin 8) (c : Fin 16) (f : FschReq → FschReq) : (s.setFsch i c f).cleaning = s.cleaning := id rfl
@[simp] theorem State.setFsch_msi (s : State) (i : Fin 8) (c : Fin 16) (f : FschReq → FschReq) : (s.setFsch i c f).msi = s.msi := id rfl
@[simp] theorem State.setFsch_teeth (s : State) (i : Fin 8) (c : Fin 16) (f : FschReq → FschReq) : (s.setFsch i c f).teeth = s.teeth := id rfl
@[simp] theorem State.setFsch_corrections (s : State) (i : Fin 8) (c : Fin 16) (f : FschReq → FschReq) : (s.setFsch i c f).corrections = s.corrections := id rfl
@[simp] theorem State.setFsch_ecc (s : State) (i : Fin 8) (c : Fin 16) (f : FschReq → FschReq) : (s.setFsch i c f).ecc = s.ecc := id rfl
@[simp] theorem State.setFsch_trunks (s : State) (i : Fin 8) (c : Fin 16) (f : FschReq → FschReq) : (s.setFsch i c f).trunks = s.trunks := id rfl
@[simp] theorem State.setFsch_latches (s : State) (i : Fin 8) (c : Fin 16) (f : FschReq → FschReq) : (s.setFsch i c f).latches = s.latches := id rfl
@[simp] theorem State.setFsch_net (s : State) (i : Fin 8) (c : Fin 16) (f : FschReq → FschReq) : (s.setFsch i c f).net = s.net := id rfl
@[simp] theorem State.setFsch_track (s : State) (i : Fin 8) (c : Fin 16) (f : FschReq → FschReq) : (s.setFsch i c f).track = s.track := id rfl
@[simp] theorem State.setFsch_safety (s : State) (i : Fin 8) (c : Fin 16) (f : FschReq → FschReq) : (s.setFsch i c f).safety = s.safety := id rfl
@[simp] theorem State.setFsch_capture (s : State) (i : Fin 8) (c : Fin 16) (f : FschReq → FschReq) : (s.setFsch i c f).capture = s.capture := id rfl
@[simp] theorem State.setFsch_fault (s : State) (i : Fin 8) (c : Fin 16) (f : FschReq → FschReq) : (s.setFsch i c f).fault = s.fault := id rfl
@[simp] theorem State.setFsch_boot (s : State) (i : Fin 8) (c : Fin 16) (f : FschReq → FschReq) : (s.setFsch i c f).boot = s.boot := id rfl
@[simp] theorem State.setFsch_power (s : State) (i : Fin 8) (c : Fin 16) (f : FschReq → FschReq) : (s.setFsch i c f).power = s.power := id rfl
@[simp] theorem State.setFsch_mgmt (s : State) (i : Fin 8) (c : Fin 16) (f : FschReq → FschReq) : (s.setFsch i c f).mgmt = s.mgmt := id rfl
@[simp] theorem State.setFsch_rd (s : State) (i : Fin 8) (c : Fin 16) (f : FschReq → FschReq) (x : Nat) : (s.setFsch i c f).rd x = s.rd x := id rfl
@[simp] theorem State.setFsch_fld (s : State) (i : Fin 8) (c : Fin 16) (f : FschReq → FschReq) (x : Nat) (g : Fld) : (s.setFsch i c f).fld x g = s.fld x g := id rfl
@[simp] theorem State.setFsch_flag (s : State) (i : Fin 8) (c : Fin 16) (f : FschReq → FschReq) (x : Nat) (g : Fld) : (s.setFsch i c f).flag x g = s.flag x g := id rfl
@[simp] theorem State.setFsch_rbit (s : State) (i : Fin 8) (c : Fin 16) (f : FschReq → FschReq) (x y z : Nat) : (s.setFsch i c f).rbit x y z = s.rbit x y z := id rfl
@[simp] theorem State.setFsch_sh (s : State) (i : Fin 8) (c : Fin 16) (f : FschReq → FschReq) (x : Nat) : (s.setFsch i c f).sh x = s.sh x := id rfl
@[simp] theorem State.setFsch_abyte (s : State) (i : Fin 8) (c : Fin 16) (f : FschReq → FschReq) (x : Nat) : (s.setFsch i c f).abyte x = s.abyte x := id rfl
@[simp] theorem State.setFsch_byte (s : State) (i : Fin 8) (c : Fin 16) (f : FschReq → FschReq) (x : Nat) : (s.setFsch i c f).byte x = s.byte x := id rfl
@[simp] theorem State.setFsch_now (s : State) (i : Fin 8) (c : Fin 16) (f : FschReq → FschReq) : (s.setFsch i c f).now = s.now := id rfl
@[simp] theorem State.setNet_pending (s : State) (f : NetState → NetState) : (s.setNet f).pending = s.pending := id rfl
@[simp] theorem State.setNet_free (s : State) (f : NetState → NetState) : (s.setNet f).free = s.free := id rfl
@[simp] theorem State.setNet_resp (s : State) (f : NetState → NetState) : (s.setNet f).resp = s.resp := id rfl
@[simp] theorem State.setNet_dev (s : State) (f : NetState → NetState) : (s.setNet f).dev = s.dev := id rfl
@[simp] theorem State.setNet_regs (s : State) (f : NetState → NetState) : (s.setNet f).regs = s.regs := id rfl
@[simp] theorem State.setNet_shadow (s : State) (f : NetState → NetState) : (s.setNet f).shadow = s.shadow := id rfl
@[simp] theorem State.setNet_mem (s : State) (f : NetState → NetState) : (s.setNet f).mem = s.mem := id rfl
@[simp] theorem State.setNet_amber (s : State) (f : NetState → NetState) : (s.setNet f).amber = s.amber := id rfl
@[simp] theorem State.setNet_time (s : State) (f : NetState → NetState) : (s.setNet f).time = s.time := id rfl
@[simp] theorem State.setNet_slates (s : State) (f : NetState → NetState) : (s.setNet f).slates = s.slates := id rfl
@[simp] theorem State.setNet_axes (s : State) (f : NetState → NetState) : (s.setNet f).axes = s.axes := id rfl
@[simp] theorem State.setNet_evlog (s : State) (f : NetState → NetState) : (s.setNet f).evlog = s.evlog := id rfl
@[simp] theorem State.setNet_fsch (s : State) (f : NetState → NetState) : (s.setNet f).fsch = s.fsch := id rfl
@[simp] theorem State.setNet_engines (s : State) (f : NetState → NetState) : (s.setNet f).engines = s.engines := id rfl
@[simp] theorem State.setNet_replies (s : State) (f : NetState → NetState) : (s.setNet f).replies = s.replies := id rfl
@[simp] theorem State.setNet_cleaning (s : State) (f : NetState → NetState) : (s.setNet f).cleaning = s.cleaning := id rfl
@[simp] theorem State.setNet_msi (s : State) (f : NetState → NetState) : (s.setNet f).msi = s.msi := id rfl
@[simp] theorem State.setNet_teeth (s : State) (f : NetState → NetState) : (s.setNet f).teeth = s.teeth := id rfl
@[simp] theorem State.setNet_corrections (s : State) (f : NetState → NetState) : (s.setNet f).corrections = s.corrections := id rfl
@[simp] theorem State.setNet_ecc (s : State) (f : NetState → NetState) : (s.setNet f).ecc = s.ecc := id rfl
@[simp] theorem State.setNet_trunks (s : State) (f : NetState → NetState) : (s.setNet f).trunks = s.trunks := id rfl
@[simp] theorem State.setNet_latches (s : State) (f : NetState → NetState) : (s.setNet f).latches = s.latches := id rfl
@[simp] theorem State.setNet_track (s : State) (f : NetState → NetState) : (s.setNet f).track = s.track := id rfl
@[simp] theorem State.setNet_safety (s : State) (f : NetState → NetState) : (s.setNet f).safety = s.safety := id rfl
@[simp] theorem State.setNet_capture (s : State) (f : NetState → NetState) : (s.setNet f).capture = s.capture := id rfl
@[simp] theorem State.setNet_fault (s : State) (f : NetState → NetState) : (s.setNet f).fault = s.fault := id rfl
@[simp] theorem State.setNet_boot (s : State) (f : NetState → NetState) : (s.setNet f).boot = s.boot := id rfl
@[simp] theorem State.setNet_power (s : State) (f : NetState → NetState) : (s.setNet f).power = s.power := id rfl
@[simp] theorem State.setNet_mgmt (s : State) (f : NetState → NetState) : (s.setNet f).mgmt = s.mgmt := id rfl
@[simp] theorem State.setNet_rd (s : State) (f : NetState → NetState) (x : Nat) : (s.setNet f).rd x = s.rd x := id rfl
@[simp] theorem State.setNet_fld (s : State) (f : NetState → NetState) (x : Nat) (g : Fld) : (s.setNet f).fld x g = s.fld x g := id rfl
@[simp] theorem State.setNet_flag (s : State) (f : NetState → NetState) (x : Nat) (g : Fld) : (s.setNet f).flag x g = s.flag x g := id rfl
@[simp] theorem State.setNet_rbit (s : State) (f : NetState → NetState) (x y z : Nat) : (s.setNet f).rbit x y z = s.rbit x y z := id rfl
@[simp] theorem State.setNet_sh (s : State) (f : NetState → NetState) (x : Nat) : (s.setNet f).sh x = s.sh x := id rfl
@[simp] theorem State.setNet_abyte (s : State) (f : NetState → NetState) (x : Nat) : (s.setNet f).abyte x = s.abyte x := id rfl
@[simp] theorem State.setNet_byte (s : State) (f : NetState → NetState) (x : Nat) : (s.setNet f).byte x = s.byte x := id rfl
@[simp] theorem State.setNet_now (s : State) (f : NetState → NetState) : (s.setNet f).now = s.now := id rfl
@[simp] theorem State.setTrack_pending (s : State) (f : TrackState → TrackState) : (s.setTrack f).pending = s.pending := id rfl
@[simp] theorem State.setTrack_free (s : State) (f : TrackState → TrackState) : (s.setTrack f).free = s.free := id rfl
@[simp] theorem State.setTrack_resp (s : State) (f : TrackState → TrackState) : (s.setTrack f).resp = s.resp := id rfl
@[simp] theorem State.setTrack_dev (s : State) (f : TrackState → TrackState) : (s.setTrack f).dev = s.dev := id rfl
@[simp] theorem State.setTrack_regs (s : State) (f : TrackState → TrackState) : (s.setTrack f).regs = s.regs := id rfl
@[simp] theorem State.setTrack_shadow (s : State) (f : TrackState → TrackState) : (s.setTrack f).shadow = s.shadow := id rfl
@[simp] theorem State.setTrack_mem (s : State) (f : TrackState → TrackState) : (s.setTrack f).mem = s.mem := id rfl
@[simp] theorem State.setTrack_amber (s : State) (f : TrackState → TrackState) : (s.setTrack f).amber = s.amber := id rfl
@[simp] theorem State.setTrack_time (s : State) (f : TrackState → TrackState) : (s.setTrack f).time = s.time := id rfl
@[simp] theorem State.setTrack_slates (s : State) (f : TrackState → TrackState) : (s.setTrack f).slates = s.slates := id rfl
@[simp] theorem State.setTrack_axes (s : State) (f : TrackState → TrackState) : (s.setTrack f).axes = s.axes := id rfl
@[simp] theorem State.setTrack_evlog (s : State) (f : TrackState → TrackState) : (s.setTrack f).evlog = s.evlog := id rfl
@[simp] theorem State.setTrack_fsch (s : State) (f : TrackState → TrackState) : (s.setTrack f).fsch = s.fsch := id rfl
@[simp] theorem State.setTrack_engines (s : State) (f : TrackState → TrackState) : (s.setTrack f).engines = s.engines := id rfl
@[simp] theorem State.setTrack_replies (s : State) (f : TrackState → TrackState) : (s.setTrack f).replies = s.replies := id rfl
@[simp] theorem State.setTrack_cleaning (s : State) (f : TrackState → TrackState) : (s.setTrack f).cleaning = s.cleaning := id rfl
@[simp] theorem State.setTrack_msi (s : State) (f : TrackState → TrackState) : (s.setTrack f).msi = s.msi := id rfl
@[simp] theorem State.setTrack_teeth (s : State) (f : TrackState → TrackState) : (s.setTrack f).teeth = s.teeth := id rfl
@[simp] theorem State.setTrack_corrections (s : State) (f : TrackState → TrackState) : (s.setTrack f).corrections = s.corrections := id rfl
@[simp] theorem State.setTrack_ecc (s : State) (f : TrackState → TrackState) : (s.setTrack f).ecc = s.ecc := id rfl
@[simp] theorem State.setTrack_trunks (s : State) (f : TrackState → TrackState) : (s.setTrack f).trunks = s.trunks := id rfl
@[simp] theorem State.setTrack_latches (s : State) (f : TrackState → TrackState) : (s.setTrack f).latches = s.latches := id rfl
@[simp] theorem State.setTrack_net (s : State) (f : TrackState → TrackState) : (s.setTrack f).net = s.net := id rfl
@[simp] theorem State.setTrack_safety (s : State) (f : TrackState → TrackState) : (s.setTrack f).safety = s.safety := id rfl
@[simp] theorem State.setTrack_capture (s : State) (f : TrackState → TrackState) : (s.setTrack f).capture = s.capture := id rfl
@[simp] theorem State.setTrack_fault (s : State) (f : TrackState → TrackState) : (s.setTrack f).fault = s.fault := id rfl
@[simp] theorem State.setTrack_boot (s : State) (f : TrackState → TrackState) : (s.setTrack f).boot = s.boot := id rfl
@[simp] theorem State.setTrack_power (s : State) (f : TrackState → TrackState) : (s.setTrack f).power = s.power := id rfl
@[simp] theorem State.setTrack_mgmt (s : State) (f : TrackState → TrackState) : (s.setTrack f).mgmt = s.mgmt := id rfl
@[simp] theorem State.setTrack_rd (s : State) (f : TrackState → TrackState) (x : Nat) : (s.setTrack f).rd x = s.rd x := id rfl
@[simp] theorem State.setTrack_fld (s : State) (f : TrackState → TrackState) (x : Nat) (g : Fld) : (s.setTrack f).fld x g = s.fld x g := id rfl
@[simp] theorem State.setTrack_flag (s : State) (f : TrackState → TrackState) (x : Nat) (g : Fld) : (s.setTrack f).flag x g = s.flag x g := id rfl
@[simp] theorem State.setTrack_rbit (s : State) (f : TrackState → TrackState) (x y z : Nat) : (s.setTrack f).rbit x y z = s.rbit x y z := id rfl
@[simp] theorem State.setTrack_sh (s : State) (f : TrackState → TrackState) (x : Nat) : (s.setTrack f).sh x = s.sh x := id rfl
@[simp] theorem State.setTrack_abyte (s : State) (f : TrackState → TrackState) (x : Nat) : (s.setTrack f).abyte x = s.abyte x := id rfl
@[simp] theorem State.setTrack_byte (s : State) (f : TrackState → TrackState) (x : Nat) : (s.setTrack f).byte x = s.byte x := id rfl
@[simp] theorem State.setTrack_now (s : State) (f : TrackState → TrackState) : (s.setTrack f).now = s.now := id rfl
@[simp] theorem State.setSafety_pending (s : State) (f : SafetyState → SafetyState) : (s.setSafety f).pending = s.pending := id rfl
@[simp] theorem State.setSafety_free (s : State) (f : SafetyState → SafetyState) : (s.setSafety f).free = s.free := id rfl
@[simp] theorem State.setSafety_resp (s : State) (f : SafetyState → SafetyState) : (s.setSafety f).resp = s.resp := id rfl
@[simp] theorem State.setSafety_dev (s : State) (f : SafetyState → SafetyState) : (s.setSafety f).dev = s.dev := id rfl
@[simp] theorem State.setSafety_regs (s : State) (f : SafetyState → SafetyState) : (s.setSafety f).regs = s.regs := id rfl
@[simp] theorem State.setSafety_shadow (s : State) (f : SafetyState → SafetyState) : (s.setSafety f).shadow = s.shadow := id rfl
@[simp] theorem State.setSafety_mem (s : State) (f : SafetyState → SafetyState) : (s.setSafety f).mem = s.mem := id rfl
@[simp] theorem State.setSafety_amber (s : State) (f : SafetyState → SafetyState) : (s.setSafety f).amber = s.amber := id rfl
@[simp] theorem State.setSafety_time (s : State) (f : SafetyState → SafetyState) : (s.setSafety f).time = s.time := id rfl
@[simp] theorem State.setSafety_slates (s : State) (f : SafetyState → SafetyState) : (s.setSafety f).slates = s.slates := id rfl
@[simp] theorem State.setSafety_axes (s : State) (f : SafetyState → SafetyState) : (s.setSafety f).axes = s.axes := id rfl
@[simp] theorem State.setSafety_evlog (s : State) (f : SafetyState → SafetyState) : (s.setSafety f).evlog = s.evlog := id rfl
@[simp] theorem State.setSafety_fsch (s : State) (f : SafetyState → SafetyState) : (s.setSafety f).fsch = s.fsch := id rfl
@[simp] theorem State.setSafety_engines (s : State) (f : SafetyState → SafetyState) : (s.setSafety f).engines = s.engines := id rfl
@[simp] theorem State.setSafety_replies (s : State) (f : SafetyState → SafetyState) : (s.setSafety f).replies = s.replies := id rfl
@[simp] theorem State.setSafety_cleaning (s : State) (f : SafetyState → SafetyState) : (s.setSafety f).cleaning = s.cleaning := id rfl
@[simp] theorem State.setSafety_msi (s : State) (f : SafetyState → SafetyState) : (s.setSafety f).msi = s.msi := id rfl
@[simp] theorem State.setSafety_teeth (s : State) (f : SafetyState → SafetyState) : (s.setSafety f).teeth = s.teeth := id rfl
@[simp] theorem State.setSafety_corrections (s : State) (f : SafetyState → SafetyState) : (s.setSafety f).corrections = s.corrections := id rfl
@[simp] theorem State.setSafety_ecc (s : State) (f : SafetyState → SafetyState) : (s.setSafety f).ecc = s.ecc := id rfl
@[simp] theorem State.setSafety_trunks (s : State) (f : SafetyState → SafetyState) : (s.setSafety f).trunks = s.trunks := id rfl
@[simp] theorem State.setSafety_latches (s : State) (f : SafetyState → SafetyState) : (s.setSafety f).latches = s.latches := id rfl
@[simp] theorem State.setSafety_net (s : State) (f : SafetyState → SafetyState) : (s.setSafety f).net = s.net := id rfl
@[simp] theorem State.setSafety_track (s : State) (f : SafetyState → SafetyState) : (s.setSafety f).track = s.track := id rfl
@[simp] theorem State.setSafety_capture (s : State) (f : SafetyState → SafetyState) : (s.setSafety f).capture = s.capture := id rfl
@[simp] theorem State.setSafety_fault (s : State) (f : SafetyState → SafetyState) : (s.setSafety f).fault = s.fault := id rfl
@[simp] theorem State.setSafety_boot (s : State) (f : SafetyState → SafetyState) : (s.setSafety f).boot = s.boot := id rfl
@[simp] theorem State.setSafety_power (s : State) (f : SafetyState → SafetyState) : (s.setSafety f).power = s.power := id rfl
@[simp] theorem State.setSafety_mgmt (s : State) (f : SafetyState → SafetyState) : (s.setSafety f).mgmt = s.mgmt := id rfl
@[simp] theorem State.setSafety_rd (s : State) (f : SafetyState → SafetyState) (x : Nat) : (s.setSafety f).rd x = s.rd x := id rfl
@[simp] theorem State.setSafety_fld (s : State) (f : SafetyState → SafetyState) (x : Nat) (g : Fld) : (s.setSafety f).fld x g = s.fld x g := id rfl
@[simp] theorem State.setSafety_flag (s : State) (f : SafetyState → SafetyState) (x : Nat) (g : Fld) : (s.setSafety f).flag x g = s.flag x g := id rfl
@[simp] theorem State.setSafety_rbit (s : State) (f : SafetyState → SafetyState) (x y z : Nat) : (s.setSafety f).rbit x y z = s.rbit x y z := id rfl
@[simp] theorem State.setSafety_sh (s : State) (f : SafetyState → SafetyState) (x : Nat) : (s.setSafety f).sh x = s.sh x := id rfl
@[simp] theorem State.setSafety_abyte (s : State) (f : SafetyState → SafetyState) (x : Nat) : (s.setSafety f).abyte x = s.abyte x := id rfl
@[simp] theorem State.setSafety_byte (s : State) (f : SafetyState → SafetyState) (x : Nat) : (s.setSafety f).byte x = s.byte x := id rfl
@[simp] theorem State.setSafety_now (s : State) (f : SafetyState → SafetyState) : (s.setSafety f).now = s.now := id rfl
@[simp] theorem State.setCap_pending (s : State) (f : CaptureState → CaptureState) : (s.setCap f).pending = s.pending := id rfl
@[simp] theorem State.setCap_free (s : State) (f : CaptureState → CaptureState) : (s.setCap f).free = s.free := id rfl
@[simp] theorem State.setCap_resp (s : State) (f : CaptureState → CaptureState) : (s.setCap f).resp = s.resp := id rfl
@[simp] theorem State.setCap_dev (s : State) (f : CaptureState → CaptureState) : (s.setCap f).dev = s.dev := id rfl
@[simp] theorem State.setCap_regs (s : State) (f : CaptureState → CaptureState) : (s.setCap f).regs = s.regs := id rfl
@[simp] theorem State.setCap_shadow (s : State) (f : CaptureState → CaptureState) : (s.setCap f).shadow = s.shadow := id rfl
@[simp] theorem State.setCap_mem (s : State) (f : CaptureState → CaptureState) : (s.setCap f).mem = s.mem := id rfl
@[simp] theorem State.setCap_amber (s : State) (f : CaptureState → CaptureState) : (s.setCap f).amber = s.amber := id rfl
@[simp] theorem State.setCap_time (s : State) (f : CaptureState → CaptureState) : (s.setCap f).time = s.time := id rfl
@[simp] theorem State.setCap_slates (s : State) (f : CaptureState → CaptureState) : (s.setCap f).slates = s.slates := id rfl
@[simp] theorem State.setCap_axes (s : State) (f : CaptureState → CaptureState) : (s.setCap f).axes = s.axes := id rfl
@[simp] theorem State.setCap_evlog (s : State) (f : CaptureState → CaptureState) : (s.setCap f).evlog = s.evlog := id rfl
@[simp] theorem State.setCap_fsch (s : State) (f : CaptureState → CaptureState) : (s.setCap f).fsch = s.fsch := id rfl
@[simp] theorem State.setCap_engines (s : State) (f : CaptureState → CaptureState) : (s.setCap f).engines = s.engines := id rfl
@[simp] theorem State.setCap_replies (s : State) (f : CaptureState → CaptureState) : (s.setCap f).replies = s.replies := id rfl
@[simp] theorem State.setCap_cleaning (s : State) (f : CaptureState → CaptureState) : (s.setCap f).cleaning = s.cleaning := id rfl
@[simp] theorem State.setCap_msi (s : State) (f : CaptureState → CaptureState) : (s.setCap f).msi = s.msi := id rfl
@[simp] theorem State.setCap_teeth (s : State) (f : CaptureState → CaptureState) : (s.setCap f).teeth = s.teeth := id rfl
@[simp] theorem State.setCap_corrections (s : State) (f : CaptureState → CaptureState) : (s.setCap f).corrections = s.corrections := id rfl
@[simp] theorem State.setCap_ecc (s : State) (f : CaptureState → CaptureState) : (s.setCap f).ecc = s.ecc := id rfl
@[simp] theorem State.setCap_trunks (s : State) (f : CaptureState → CaptureState) : (s.setCap f).trunks = s.trunks := id rfl
@[simp] theorem State.setCap_latches (s : State) (f : CaptureState → CaptureState) : (s.setCap f).latches = s.latches := id rfl
@[simp] theorem State.setCap_net (s : State) (f : CaptureState → CaptureState) : (s.setCap f).net = s.net := id rfl
@[simp] theorem State.setCap_track (s : State) (f : CaptureState → CaptureState) : (s.setCap f).track = s.track := id rfl
@[simp] theorem State.setCap_safety (s : State) (f : CaptureState → CaptureState) : (s.setCap f).safety = s.safety := id rfl
@[simp] theorem State.setCap_fault (s : State) (f : CaptureState → CaptureState) : (s.setCap f).fault = s.fault := id rfl
@[simp] theorem State.setCap_boot (s : State) (f : CaptureState → CaptureState) : (s.setCap f).boot = s.boot := id rfl
@[simp] theorem State.setCap_power (s : State) (f : CaptureState → CaptureState) : (s.setCap f).power = s.power := id rfl
@[simp] theorem State.setCap_mgmt (s : State) (f : CaptureState → CaptureState) : (s.setCap f).mgmt = s.mgmt := id rfl
@[simp] theorem State.setCap_rd (s : State) (f : CaptureState → CaptureState) (x : Nat) : (s.setCap f).rd x = s.rd x := id rfl
@[simp] theorem State.setCap_fld (s : State) (f : CaptureState → CaptureState) (x : Nat) (g : Fld) : (s.setCap f).fld x g = s.fld x g := id rfl
@[simp] theorem State.setCap_flag (s : State) (f : CaptureState → CaptureState) (x : Nat) (g : Fld) : (s.setCap f).flag x g = s.flag x g := id rfl
@[simp] theorem State.setCap_rbit (s : State) (f : CaptureState → CaptureState) (x y z : Nat) : (s.setCap f).rbit x y z = s.rbit x y z := id rfl
@[simp] theorem State.setCap_sh (s : State) (f : CaptureState → CaptureState) (x : Nat) : (s.setCap f).sh x = s.sh x := id rfl
@[simp] theorem State.setCap_abyte (s : State) (f : CaptureState → CaptureState) (x : Nat) : (s.setCap f).abyte x = s.abyte x := id rfl
@[simp] theorem State.setCap_byte (s : State) (f : CaptureState → CaptureState) (x : Nat) : (s.setCap f).byte x = s.byte x := id rfl
@[simp] theorem State.setCap_now (s : State) (f : CaptureState → CaptureState) : (s.setCap f).now = s.now := id rfl
@[simp] theorem State.setBoot_pending (s : State) (f : AmberState → AmberState) : (s.setBoot f).pending = s.pending := id rfl
@[simp] theorem State.setBoot_free (s : State) (f : AmberState → AmberState) : (s.setBoot f).free = s.free := id rfl
@[simp] theorem State.setBoot_resp (s : State) (f : AmberState → AmberState) : (s.setBoot f).resp = s.resp := id rfl
@[simp] theorem State.setBoot_dev (s : State) (f : AmberState → AmberState) : (s.setBoot f).dev = s.dev := id rfl
@[simp] theorem State.setBoot_regs (s : State) (f : AmberState → AmberState) : (s.setBoot f).regs = s.regs := id rfl
@[simp] theorem State.setBoot_shadow (s : State) (f : AmberState → AmberState) : (s.setBoot f).shadow = s.shadow := id rfl
@[simp] theorem State.setBoot_mem (s : State) (f : AmberState → AmberState) : (s.setBoot f).mem = s.mem := id rfl
@[simp] theorem State.setBoot_amber (s : State) (f : AmberState → AmberState) : (s.setBoot f).amber = s.amber := id rfl
@[simp] theorem State.setBoot_time (s : State) (f : AmberState → AmberState) : (s.setBoot f).time = s.time := id rfl
@[simp] theorem State.setBoot_slates (s : State) (f : AmberState → AmberState) : (s.setBoot f).slates = s.slates := id rfl
@[simp] theorem State.setBoot_axes (s : State) (f : AmberState → AmberState) : (s.setBoot f).axes = s.axes := id rfl
@[simp] theorem State.setBoot_evlog (s : State) (f : AmberState → AmberState) : (s.setBoot f).evlog = s.evlog := id rfl
@[simp] theorem State.setBoot_fsch (s : State) (f : AmberState → AmberState) : (s.setBoot f).fsch = s.fsch := id rfl
@[simp] theorem State.setBoot_engines (s : State) (f : AmberState → AmberState) : (s.setBoot f).engines = s.engines := id rfl
@[simp] theorem State.setBoot_replies (s : State) (f : AmberState → AmberState) : (s.setBoot f).replies = s.replies := id rfl
@[simp] theorem State.setBoot_cleaning (s : State) (f : AmberState → AmberState) : (s.setBoot f).cleaning = s.cleaning := id rfl
@[simp] theorem State.setBoot_msi (s : State) (f : AmberState → AmberState) : (s.setBoot f).msi = s.msi := id rfl
@[simp] theorem State.setBoot_teeth (s : State) (f : AmberState → AmberState) : (s.setBoot f).teeth = s.teeth := id rfl
@[simp] theorem State.setBoot_corrections (s : State) (f : AmberState → AmberState) : (s.setBoot f).corrections = s.corrections := id rfl
@[simp] theorem State.setBoot_ecc (s : State) (f : AmberState → AmberState) : (s.setBoot f).ecc = s.ecc := id rfl
@[simp] theorem State.setBoot_trunks (s : State) (f : AmberState → AmberState) : (s.setBoot f).trunks = s.trunks := id rfl
@[simp] theorem State.setBoot_latches (s : State) (f : AmberState → AmberState) : (s.setBoot f).latches = s.latches := id rfl
@[simp] theorem State.setBoot_net (s : State) (f : AmberState → AmberState) : (s.setBoot f).net = s.net := id rfl
@[simp] theorem State.setBoot_track (s : State) (f : AmberState → AmberState) : (s.setBoot f).track = s.track := id rfl
@[simp] theorem State.setBoot_safety (s : State) (f : AmberState → AmberState) : (s.setBoot f).safety = s.safety := id rfl
@[simp] theorem State.setBoot_capture (s : State) (f : AmberState → AmberState) : (s.setBoot f).capture = s.capture := id rfl
@[simp] theorem State.setBoot_fault (s : State) (f : AmberState → AmberState) : (s.setBoot f).fault = s.fault := id rfl
@[simp] theorem State.setBoot_power (s : State) (f : AmberState → AmberState) : (s.setBoot f).power = s.power := id rfl
@[simp] theorem State.setBoot_mgmt (s : State) (f : AmberState → AmberState) : (s.setBoot f).mgmt = s.mgmt := id rfl
@[simp] theorem State.setBoot_rd (s : State) (f : AmberState → AmberState) (x : Nat) : (s.setBoot f).rd x = s.rd x := id rfl
@[simp] theorem State.setBoot_fld (s : State) (f : AmberState → AmberState) (x : Nat) (g : Fld) : (s.setBoot f).fld x g = s.fld x g := id rfl
@[simp] theorem State.setBoot_flag (s : State) (f : AmberState → AmberState) (x : Nat) (g : Fld) : (s.setBoot f).flag x g = s.flag x g := id rfl
@[simp] theorem State.setBoot_rbit (s : State) (f : AmberState → AmberState) (x y z : Nat) : (s.setBoot f).rbit x y z = s.rbit x y z := id rfl
@[simp] theorem State.setBoot_sh (s : State) (f : AmberState → AmberState) (x : Nat) : (s.setBoot f).sh x = s.sh x := id rfl
@[simp] theorem State.setBoot_abyte (s : State) (f : AmberState → AmberState) (x : Nat) : (s.setBoot f).abyte x = s.abyte x := id rfl
@[simp] theorem State.setBoot_byte (s : State) (f : AmberState → AmberState) (x : Nat) : (s.setBoot f).byte x = s.byte x := id rfl
@[simp] theorem State.setBoot_now (s : State) (f : AmberState → AmberState) : (s.setBoot f).now = s.now := id rfl
@[simp] theorem State.setPower_pending (s : State) (f : PowerState → PowerState) : (s.setPower f).pending = s.pending := id rfl
@[simp] theorem State.setPower_free (s : State) (f : PowerState → PowerState) : (s.setPower f).free = s.free := id rfl
@[simp] theorem State.setPower_resp (s : State) (f : PowerState → PowerState) : (s.setPower f).resp = s.resp := id rfl
@[simp] theorem State.setPower_dev (s : State) (f : PowerState → PowerState) : (s.setPower f).dev = s.dev := id rfl
@[simp] theorem State.setPower_regs (s : State) (f : PowerState → PowerState) : (s.setPower f).regs = s.regs := id rfl
@[simp] theorem State.setPower_shadow (s : State) (f : PowerState → PowerState) : (s.setPower f).shadow = s.shadow := id rfl
@[simp] theorem State.setPower_mem (s : State) (f : PowerState → PowerState) : (s.setPower f).mem = s.mem := id rfl
@[simp] theorem State.setPower_amber (s : State) (f : PowerState → PowerState) : (s.setPower f).amber = s.amber := id rfl
@[simp] theorem State.setPower_time (s : State) (f : PowerState → PowerState) : (s.setPower f).time = s.time := id rfl
@[simp] theorem State.setPower_slates (s : State) (f : PowerState → PowerState) : (s.setPower f).slates = s.slates := id rfl
@[simp] theorem State.setPower_axes (s : State) (f : PowerState → PowerState) : (s.setPower f).axes = s.axes := id rfl
@[simp] theorem State.setPower_evlog (s : State) (f : PowerState → PowerState) : (s.setPower f).evlog = s.evlog := id rfl
@[simp] theorem State.setPower_fsch (s : State) (f : PowerState → PowerState) : (s.setPower f).fsch = s.fsch := id rfl
@[simp] theorem State.setPower_engines (s : State) (f : PowerState → PowerState) : (s.setPower f).engines = s.engines := id rfl
@[simp] theorem State.setPower_replies (s : State) (f : PowerState → PowerState) : (s.setPower f).replies = s.replies := id rfl
@[simp] theorem State.setPower_cleaning (s : State) (f : PowerState → PowerState) : (s.setPower f).cleaning = s.cleaning := id rfl
@[simp] theorem State.setPower_msi (s : State) (f : PowerState → PowerState) : (s.setPower f).msi = s.msi := id rfl
@[simp] theorem State.setPower_teeth (s : State) (f : PowerState → PowerState) : (s.setPower f).teeth = s.teeth := id rfl
@[simp] theorem State.setPower_corrections (s : State) (f : PowerState → PowerState) : (s.setPower f).corrections = s.corrections := id rfl
@[simp] theorem State.setPower_ecc (s : State) (f : PowerState → PowerState) : (s.setPower f).ecc = s.ecc := id rfl
@[simp] theorem State.setPower_trunks (s : State) (f : PowerState → PowerState) : (s.setPower f).trunks = s.trunks := id rfl
@[simp] theorem State.setPower_latches (s : State) (f : PowerState → PowerState) : (s.setPower f).latches = s.latches := id rfl
@[simp] theorem State.setPower_net (s : State) (f : PowerState → PowerState) : (s.setPower f).net = s.net := id rfl
@[simp] theorem State.setPower_track (s : State) (f : PowerState → PowerState) : (s.setPower f).track = s.track := id rfl
@[simp] theorem State.setPower_safety (s : State) (f : PowerState → PowerState) : (s.setPower f).safety = s.safety := id rfl
@[simp] theorem State.setPower_capture (s : State) (f : PowerState → PowerState) : (s.setPower f).capture = s.capture := id rfl
@[simp] theorem State.setPower_fault (s : State) (f : PowerState → PowerState) : (s.setPower f).fault = s.fault := id rfl
@[simp] theorem State.setPower_boot (s : State) (f : PowerState → PowerState) : (s.setPower f).boot = s.boot := id rfl
@[simp] theorem State.setPower_mgmt (s : State) (f : PowerState → PowerState) : (s.setPower f).mgmt = s.mgmt := id rfl
@[simp] theorem State.setPower_rd (s : State) (f : PowerState → PowerState) (x : Nat) : (s.setPower f).rd x = s.rd x := id rfl
@[simp] theorem State.setPower_fld (s : State) (f : PowerState → PowerState) (x : Nat) (g : Fld) : (s.setPower f).fld x g = s.fld x g := id rfl
@[simp] theorem State.setPower_flag (s : State) (f : PowerState → PowerState) (x : Nat) (g : Fld) : (s.setPower f).flag x g = s.flag x g := id rfl
@[simp] theorem State.setPower_rbit (s : State) (f : PowerState → PowerState) (x y z : Nat) : (s.setPower f).rbit x y z = s.rbit x y z := id rfl
@[simp] theorem State.setPower_sh (s : State) (f : PowerState → PowerState) (x : Nat) : (s.setPower f).sh x = s.sh x := id rfl
@[simp] theorem State.setPower_abyte (s : State) (f : PowerState → PowerState) (x : Nat) : (s.setPower f).abyte x = s.abyte x := id rfl
@[simp] theorem State.setPower_byte (s : State) (f : PowerState → PowerState) (x : Nat) : (s.setPower f).byte x = s.byte x := id rfl
@[simp] theorem State.setPower_now (s : State) (f : PowerState → PowerState) : (s.setPower f).now = s.now := id rfl
@[simp] theorem State.setMgmt_pending (s : State) (f : MgmtState → MgmtState) : (s.setMgmt f).pending = s.pending := id rfl
@[simp] theorem State.setMgmt_free (s : State) (f : MgmtState → MgmtState) : (s.setMgmt f).free = s.free := id rfl
@[simp] theorem State.setMgmt_resp (s : State) (f : MgmtState → MgmtState) : (s.setMgmt f).resp = s.resp := id rfl
@[simp] theorem State.setMgmt_dev (s : State) (f : MgmtState → MgmtState) : (s.setMgmt f).dev = s.dev := id rfl
@[simp] theorem State.setMgmt_regs (s : State) (f : MgmtState → MgmtState) : (s.setMgmt f).regs = s.regs := id rfl
@[simp] theorem State.setMgmt_shadow (s : State) (f : MgmtState → MgmtState) : (s.setMgmt f).shadow = s.shadow := id rfl
@[simp] theorem State.setMgmt_mem (s : State) (f : MgmtState → MgmtState) : (s.setMgmt f).mem = s.mem := id rfl
@[simp] theorem State.setMgmt_amber (s : State) (f : MgmtState → MgmtState) : (s.setMgmt f).amber = s.amber := id rfl
@[simp] theorem State.setMgmt_time (s : State) (f : MgmtState → MgmtState) : (s.setMgmt f).time = s.time := id rfl
@[simp] theorem State.setMgmt_slates (s : State) (f : MgmtState → MgmtState) : (s.setMgmt f).slates = s.slates := id rfl
@[simp] theorem State.setMgmt_axes (s : State) (f : MgmtState → MgmtState) : (s.setMgmt f).axes = s.axes := id rfl
@[simp] theorem State.setMgmt_evlog (s : State) (f : MgmtState → MgmtState) : (s.setMgmt f).evlog = s.evlog := id rfl
@[simp] theorem State.setMgmt_fsch (s : State) (f : MgmtState → MgmtState) : (s.setMgmt f).fsch = s.fsch := id rfl
@[simp] theorem State.setMgmt_engines (s : State) (f : MgmtState → MgmtState) : (s.setMgmt f).engines = s.engines := id rfl
@[simp] theorem State.setMgmt_replies (s : State) (f : MgmtState → MgmtState) : (s.setMgmt f).replies = s.replies := id rfl
@[simp] theorem State.setMgmt_cleaning (s : State) (f : MgmtState → MgmtState) : (s.setMgmt f).cleaning = s.cleaning := id rfl
@[simp] theorem State.setMgmt_msi (s : State) (f : MgmtState → MgmtState) : (s.setMgmt f).msi = s.msi := id rfl
@[simp] theorem State.setMgmt_teeth (s : State) (f : MgmtState → MgmtState) : (s.setMgmt f).teeth = s.teeth := id rfl
@[simp] theorem State.setMgmt_corrections (s : State) (f : MgmtState → MgmtState) : (s.setMgmt f).corrections = s.corrections := id rfl
@[simp] theorem State.setMgmt_ecc (s : State) (f : MgmtState → MgmtState) : (s.setMgmt f).ecc = s.ecc := id rfl
@[simp] theorem State.setMgmt_trunks (s : State) (f : MgmtState → MgmtState) : (s.setMgmt f).trunks = s.trunks := id rfl
@[simp] theorem State.setMgmt_latches (s : State) (f : MgmtState → MgmtState) : (s.setMgmt f).latches = s.latches := id rfl
@[simp] theorem State.setMgmt_net (s : State) (f : MgmtState → MgmtState) : (s.setMgmt f).net = s.net := id rfl
@[simp] theorem State.setMgmt_track (s : State) (f : MgmtState → MgmtState) : (s.setMgmt f).track = s.track := id rfl
@[simp] theorem State.setMgmt_safety (s : State) (f : MgmtState → MgmtState) : (s.setMgmt f).safety = s.safety := id rfl
@[simp] theorem State.setMgmt_capture (s : State) (f : MgmtState → MgmtState) : (s.setMgmt f).capture = s.capture := id rfl
@[simp] theorem State.setMgmt_fault (s : State) (f : MgmtState → MgmtState) : (s.setMgmt f).fault = s.fault := id rfl
@[simp] theorem State.setMgmt_boot (s : State) (f : MgmtState → MgmtState) : (s.setMgmt f).boot = s.boot := id rfl
@[simp] theorem State.setMgmt_power (s : State) (f : MgmtState → MgmtState) : (s.setMgmt f).power = s.power := id rfl
@[simp] theorem State.setMgmt_rd (s : State) (f : MgmtState → MgmtState) (x : Nat) : (s.setMgmt f).rd x = s.rd x := id rfl
@[simp] theorem State.setMgmt_fld (s : State) (f : MgmtState → MgmtState) (x : Nat) (g : Fld) : (s.setMgmt f).fld x g = s.fld x g := id rfl
@[simp] theorem State.setMgmt_flag (s : State) (f : MgmtState → MgmtState) (x : Nat) (g : Fld) : (s.setMgmt f).flag x g = s.flag x g := id rfl
@[simp] theorem State.setMgmt_rbit (s : State) (f : MgmtState → MgmtState) (x y z : Nat) : (s.setMgmt f).rbit x y z = s.rbit x y z := id rfl
@[simp] theorem State.setMgmt_sh (s : State) (f : MgmtState → MgmtState) (x : Nat) : (s.setMgmt f).sh x = s.sh x := id rfl
@[simp] theorem State.setMgmt_abyte (s : State) (f : MgmtState → MgmtState) (x : Nat) : (s.setMgmt f).abyte x = s.abyte x := id rfl
@[simp] theorem State.setMgmt_byte (s : State) (f : MgmtState → MgmtState) (x : Nat) : (s.setMgmt f).byte x = s.byte x := id rfl
@[simp] theorem State.setMgmt_now (s : State) (f : MgmtState → MgmtState) : (s.setMgmt f).now = s.now := id rfl

@[simp] theorem State.setSlate_slate_same (s : State) (i : Fin 8) (f : SlateState → SlateState) : (s.setSlate i f).slate i = f (s.slate i) := by
  simp [State.setSlate, State.slate]
theorem State.setSlate_slate_other (s : State) (i j : Fin 8) (f : SlateState → SlateState) (h : i ≠ j) : (s.setSlate i f).slate j = s.slate j := by
  have : i.val ≠ j.val := fun e => h (Fin.ext e)
  simp [State.setSlate, State.slate, this]

@[simp] theorem State.setAxis_axis_same (s : State) (i : Fin 64) (f : AxisState → AxisState) : (s.setAxis i f).axis i = f (s.axis i) := by
  simp [State.setAxis, State.axis]
theorem State.setAxis_axis_other (s : State) (i j : Fin 64) (f : AxisState → AxisState) (h : i ≠ j) : (s.setAxis i f).axis j = s.axis j := by
  have : i.val ≠ j.val := fun e => h (Fin.ext e)
  simp [State.setAxis, State.axis, this]

@[simp] theorem State.setEng_eng_same (s : State) (i : Fin 512) (f : EngineState → EngineState) : (s.setEng i f).eng i = f (s.eng i) := by
  simp [State.setEng, State.eng]
theorem State.setEng_eng_other (s : State) (i j : Fin 512) (f : EngineState → EngineState) (h : i ≠ j) : (s.setEng i f).eng j = s.eng j := by
  have : i.val ≠ j.val := fun e => h (Fin.ext e)
  simp [State.setEng, State.eng, this]

@[simp] theorem State.setTooth_tooth_same (s : State) (i : Fin 16) (f : ToothUnit → ToothUnit) : (s.setTooth i f).tooth i = f (s.tooth i) := by
  simp [State.setTooth, State.tooth]
theorem State.setTooth_tooth_other (s : State) (i j : Fin 16) (f : ToothUnit → ToothUnit) (h : i ≠ j) : (s.setTooth i f).tooth j = s.tooth j := by
  have : i.val ≠ j.val := fun e => h (Fin.ext e)
  simp [State.setTooth, State.tooth, this]

@[simp] theorem State.setTrunk_trunk_same (s : State) (i : Fin 8) (f : Trunk → Trunk) : (s.setTrunk i f).trunk i = f (s.trunk i) := by
  simp [State.setTrunk, State.trunk]
theorem State.setTrunk_trunk_other (s : State) (i j : Fin 8) (f : Trunk → Trunk) (h : i ≠ j) : (s.setTrunk i f).trunk j = s.trunk j := by
  have : i.val ≠ j.val := fun e => h (Fin.ext e)
  simp [State.setTrunk, State.trunk, this]
@[simp] theorem State.wr_slate (s : State) (a v : Nat) (z : Fin 8) : (s.wr a v).slate z = s.slate z := id rfl
@[simp] theorem State.keepRegs_slate (s : State) (p : Nat → Bool) (z : Fin 8) : (s.keepRegs p).slate z = s.slate z := id rfl
@[simp] theorem State.setsh_slate (s : State) (a v : Nat) (z : Fin 8) : (s.setsh a v).slate z = s.slate z := id rfl
@[simp] theorem State.setByte_slate (s : State) (a : Nat) (v : Byte) (z : Fin 8) : (s.setByte a v).slate z = s.slate z := id rfl
@[simp] theorem State.clearMem_slate (s : State) (a n : Nat) (z : Fin 8) : (s.clearMem a n).slate z = s.slate z := id rfl
@[simp] theorem State.setAbyte_slate (s : State) (a : Nat) (v : Byte) (z : Fin 8) : (s.setAbyte a v).slate z = s.slate z := id rfl
@[simp] theorem State.azero_slate (s : State) (a n : Nat) (z : Fin 8) : (s.azero a n).slate z = s.slate z := id rfl
@[simp] theorem State.setAxis_slate (s : State) (i : Fin 64) (f : AxisState → AxisState) (z : Fin 8) : (s.setAxis i f).slate z = s.slate z := id rfl
@[simp] theorem State.setTime_slate (s : State) (f : TimeState → TimeState) (z : Fin 8) : (s.setTime f).slate z = s.slate z := id rfl
@[simp] theorem State.setEvlog_slate (s : State) (f : EventLog → EventLog) (z : Fin 8) : (s.setEvlog f).slate z = s.slate z := id rfl
@[simp] theorem State.setCorrections_slate (s : State) (l : List Correction) (z : Fin 8) : (s.setCorrections l).slate z = s.slate z := id rfl
@[simp] theorem State.setEcc_slate (s : State) (l : List (Nat × Bool)) (z : Fin 8) : (s.setEcc l).slate z = s.slate z := id rfl
@[simp] theorem State.setReplies_slate (s : State) (l : List (Nat × List Word)) (z : Fin 8) : (s.setReplies l).slate z = s.slate z := id rfl
@[simp] theorem State.setCleaning_slate (s : State) (l : List Res) (z : Fin 8) : (s.setCleaning l).slate z = s.slate z := id rfl
@[simp] theorem State.setMsi_slate (s : State) (m : Nat × Nat) (z : Fin 8) : (s.setMsi m).slate z = s.slate z := id rfl
@[simp] theorem State.setFault_slate (s : State) (f : FaultState → FaultState) (z : Fin 8) : (s.setFault f).slate z = s.slate z := id rfl
@[simp] theorem State.latch_slate (s : State) (q a v : Nat) (z : Fin 8) : (s.latch q a v).slate z = s.slate z := id rfl
@[simp] theorem State.setEng_slate (s : State) (i : Fin 512) (f : EngineState → EngineState) (z : Fin 8) : (s.setEng i f).slate z = s.slate z := id rfl
@[simp] theorem State.setTooth_slate (s : State) (i : Fin 16) (f : ToothUnit → ToothUnit) (z : Fin 8) : (s.setTooth i f).slate z = s.slate z := id rfl
@[simp] theorem State.setTrunk_slate (s : State) (i : Fin 8) (f : Trunk → Trunk) (z : Fin 8) : (s.setTrunk i f).slate z = s.slate z := id rfl
@[simp] theorem State.setFsch_slate (s : State) (i : Fin 8) (c : Fin 16) (f : FschReq → FschReq) (z : Fin 8) : (s.setFsch i c f).slate z = s.slate z := id rfl
@[simp] theorem State.setNet_slate (s : State) (f : NetState → NetState) (z : Fin 8) : (s.setNet f).slate z = s.slate z := id rfl
@[simp] theorem State.setTrack_slate (s : State) (f : TrackState → TrackState) (z : Fin 8) : (s.setTrack f).slate z = s.slate z := id rfl
@[simp] theorem State.setSafety_slate (s : State) (f : SafetyState → SafetyState) (z : Fin 8) : (s.setSafety f).slate z = s.slate z := id rfl
@[simp] theorem State.setCap_slate (s : State) (f : CaptureState → CaptureState) (z : Fin 8) : (s.setCap f).slate z = s.slate z := id rfl
@[simp] theorem State.setBoot_slate (s : State) (f : AmberState → AmberState) (z : Fin 8) : (s.setBoot f).slate z = s.slate z := id rfl
@[simp] theorem State.setPower_slate (s : State) (f : PowerState → PowerState) (z : Fin 8) : (s.setPower f).slate z = s.slate z := id rfl
@[simp] theorem State.setMgmt_slate (s : State) (f : MgmtState → MgmtState) (z : Fin 8) : (s.setMgmt f).slate z = s.slate z := id rfl
@[simp] theorem State.wr_axis (s : State) (a v : Nat) (z : Fin 64) : (s.wr a v).axis z = s.axis z := id rfl
@[simp] theorem State.keepRegs_axis (s : State) (p : Nat → Bool) (z : Fin 64) : (s.keepRegs p).axis z = s.axis z := id rfl
@[simp] theorem State.setsh_axis (s : State) (a v : Nat) (z : Fin 64) : (s.setsh a v).axis z = s.axis z := id rfl
@[simp] theorem State.setByte_axis (s : State) (a : Nat) (v : Byte) (z : Fin 64) : (s.setByte a v).axis z = s.axis z := id rfl
@[simp] theorem State.clearMem_axis (s : State) (a n : Nat) (z : Fin 64) : (s.clearMem a n).axis z = s.axis z := id rfl
@[simp] theorem State.setAbyte_axis (s : State) (a : Nat) (v : Byte) (z : Fin 64) : (s.setAbyte a v).axis z = s.axis z := id rfl
@[simp] theorem State.azero_axis (s : State) (a n : Nat) (z : Fin 64) : (s.azero a n).axis z = s.axis z := id rfl
@[simp] theorem State.setSlate_axis (s : State) (i : Fin 8) (f : SlateState → SlateState) (z : Fin 64) : (s.setSlate i f).axis z = s.axis z := id rfl
@[simp] theorem State.setSlates_axis (s : State) (f : SlateState → SlateState) (z : Fin 64) : (s.setSlates f).axis z = s.axis z := id rfl
@[simp] theorem State.setTime_axis (s : State) (f : TimeState → TimeState) (z : Fin 64) : (s.setTime f).axis z = s.axis z := id rfl
@[simp] theorem State.setEvlog_axis (s : State) (f : EventLog → EventLog) (z : Fin 64) : (s.setEvlog f).axis z = s.axis z := id rfl
@[simp] theorem State.setCorrections_axis (s : State) (l : List Correction) (z : Fin 64) : (s.setCorrections l).axis z = s.axis z := id rfl
@[simp] theorem State.setEcc_axis (s : State) (l : List (Nat × Bool)) (z : Fin 64) : (s.setEcc l).axis z = s.axis z := id rfl
@[simp] theorem State.setReplies_axis (s : State) (l : List (Nat × List Word)) (z : Fin 64) : (s.setReplies l).axis z = s.axis z := id rfl
@[simp] theorem State.setCleaning_axis (s : State) (l : List Res) (z : Fin 64) : (s.setCleaning l).axis z = s.axis z := id rfl
@[simp] theorem State.setMsi_axis (s : State) (m : Nat × Nat) (z : Fin 64) : (s.setMsi m).axis z = s.axis z := id rfl
@[simp] theorem State.setFault_axis (s : State) (f : FaultState → FaultState) (z : Fin 64) : (s.setFault f).axis z = s.axis z := id rfl
@[simp] theorem State.latch_axis (s : State) (q a v : Nat) (z : Fin 64) : (s.latch q a v).axis z = s.axis z := id rfl
@[simp] theorem State.setEng_axis (s : State) (i : Fin 512) (f : EngineState → EngineState) (z : Fin 64) : (s.setEng i f).axis z = s.axis z := id rfl
@[simp] theorem State.setTooth_axis (s : State) (i : Fin 16) (f : ToothUnit → ToothUnit) (z : Fin 64) : (s.setTooth i f).axis z = s.axis z := id rfl
@[simp] theorem State.setTrunk_axis (s : State) (i : Fin 8) (f : Trunk → Trunk) (z : Fin 64) : (s.setTrunk i f).axis z = s.axis z := id rfl
@[simp] theorem State.setFsch_axis (s : State) (i : Fin 8) (c : Fin 16) (f : FschReq → FschReq) (z : Fin 64) : (s.setFsch i c f).axis z = s.axis z := id rfl
@[simp] theorem State.setNet_axis (s : State) (f : NetState → NetState) (z : Fin 64) : (s.setNet f).axis z = s.axis z := id rfl
@[simp] theorem State.setTrack_axis (s : State) (f : TrackState → TrackState) (z : Fin 64) : (s.setTrack f).axis z = s.axis z := id rfl
@[simp] theorem State.setSafety_axis (s : State) (f : SafetyState → SafetyState) (z : Fin 64) : (s.setSafety f).axis z = s.axis z := id rfl
@[simp] theorem State.setCap_axis (s : State) (f : CaptureState → CaptureState) (z : Fin 64) : (s.setCap f).axis z = s.axis z := id rfl
@[simp] theorem State.setBoot_axis (s : State) (f : AmberState → AmberState) (z : Fin 64) : (s.setBoot f).axis z = s.axis z := id rfl
@[simp] theorem State.setPower_axis (s : State) (f : PowerState → PowerState) (z : Fin 64) : (s.setPower f).axis z = s.axis z := id rfl
@[simp] theorem State.setMgmt_axis (s : State) (f : MgmtState → MgmtState) (z : Fin 64) : (s.setMgmt f).axis z = s.axis z := id rfl
@[simp] theorem State.wr_eng (s : State) (a v : Nat) (z : Fin 512) : (s.wr a v).eng z = s.eng z := id rfl
@[simp] theorem State.keepRegs_eng (s : State) (p : Nat → Bool) (z : Fin 512) : (s.keepRegs p).eng z = s.eng z := id rfl
@[simp] theorem State.setsh_eng (s : State) (a v : Nat) (z : Fin 512) : (s.setsh a v).eng z = s.eng z := id rfl
@[simp] theorem State.setByte_eng (s : State) (a : Nat) (v : Byte) (z : Fin 512) : (s.setByte a v).eng z = s.eng z := id rfl
@[simp] theorem State.clearMem_eng (s : State) (a n : Nat) (z : Fin 512) : (s.clearMem a n).eng z = s.eng z := id rfl
@[simp] theorem State.setAbyte_eng (s : State) (a : Nat) (v : Byte) (z : Fin 512) : (s.setAbyte a v).eng z = s.eng z := id rfl
@[simp] theorem State.azero_eng (s : State) (a n : Nat) (z : Fin 512) : (s.azero a n).eng z = s.eng z := id rfl
@[simp] theorem State.setSlate_eng (s : State) (i : Fin 8) (f : SlateState → SlateState) (z : Fin 512) : (s.setSlate i f).eng z = s.eng z := id rfl
@[simp] theorem State.setSlates_eng (s : State) (f : SlateState → SlateState) (z : Fin 512) : (s.setSlates f).eng z = s.eng z := id rfl
@[simp] theorem State.setAxis_eng (s : State) (i : Fin 64) (f : AxisState → AxisState) (z : Fin 512) : (s.setAxis i f).eng z = s.eng z := id rfl
@[simp] theorem State.setTime_eng (s : State) (f : TimeState → TimeState) (z : Fin 512) : (s.setTime f).eng z = s.eng z := id rfl
@[simp] theorem State.setEvlog_eng (s : State) (f : EventLog → EventLog) (z : Fin 512) : (s.setEvlog f).eng z = s.eng z := id rfl
@[simp] theorem State.setCorrections_eng (s : State) (l : List Correction) (z : Fin 512) : (s.setCorrections l).eng z = s.eng z := id rfl
@[simp] theorem State.setEcc_eng (s : State) (l : List (Nat × Bool)) (z : Fin 512) : (s.setEcc l).eng z = s.eng z := id rfl
@[simp] theorem State.setReplies_eng (s : State) (l : List (Nat × List Word)) (z : Fin 512) : (s.setReplies l).eng z = s.eng z := id rfl
@[simp] theorem State.setCleaning_eng (s : State) (l : List Res) (z : Fin 512) : (s.setCleaning l).eng z = s.eng z := id rfl
@[simp] theorem State.setMsi_eng (s : State) (m : Nat × Nat) (z : Fin 512) : (s.setMsi m).eng z = s.eng z := id rfl
@[simp] theorem State.setFault_eng (s : State) (f : FaultState → FaultState) (z : Fin 512) : (s.setFault f).eng z = s.eng z := id rfl
@[simp] theorem State.latch_eng (s : State) (q a v : Nat) (z : Fin 512) : (s.latch q a v).eng z = s.eng z := id rfl
@[simp] theorem State.setTooth_eng (s : State) (i : Fin 16) (f : ToothUnit → ToothUnit) (z : Fin 512) : (s.setTooth i f).eng z = s.eng z := id rfl
@[simp] theorem State.setTrunk_eng (s : State) (i : Fin 8) (f : Trunk → Trunk) (z : Fin 512) : (s.setTrunk i f).eng z = s.eng z := id rfl
@[simp] theorem State.setFsch_eng (s : State) (i : Fin 8) (c : Fin 16) (f : FschReq → FschReq) (z : Fin 512) : (s.setFsch i c f).eng z = s.eng z := id rfl
@[simp] theorem State.setNet_eng (s : State) (f : NetState → NetState) (z : Fin 512) : (s.setNet f).eng z = s.eng z := id rfl
@[simp] theorem State.setTrack_eng (s : State) (f : TrackState → TrackState) (z : Fin 512) : (s.setTrack f).eng z = s.eng z := id rfl
@[simp] theorem State.setSafety_eng (s : State) (f : SafetyState → SafetyState) (z : Fin 512) : (s.setSafety f).eng z = s.eng z := id rfl
@[simp] theorem State.setCap_eng (s : State) (f : CaptureState → CaptureState) (z : Fin 512) : (s.setCap f).eng z = s.eng z := id rfl
@[simp] theorem State.setBoot_eng (s : State) (f : AmberState → AmberState) (z : Fin 512) : (s.setBoot f).eng z = s.eng z := id rfl
@[simp] theorem State.setPower_eng (s : State) (f : PowerState → PowerState) (z : Fin 512) : (s.setPower f).eng z = s.eng z := id rfl
@[simp] theorem State.setMgmt_eng (s : State) (f : MgmtState → MgmtState) (z : Fin 512) : (s.setMgmt f).eng z = s.eng z := id rfl
@[simp] theorem State.wr_tooth (s : State) (a v : Nat) (z : Fin 16) : (s.wr a v).tooth z = s.tooth z := id rfl
@[simp] theorem State.keepRegs_tooth (s : State) (p : Nat → Bool) (z : Fin 16) : (s.keepRegs p).tooth z = s.tooth z := id rfl
@[simp] theorem State.setsh_tooth (s : State) (a v : Nat) (z : Fin 16) : (s.setsh a v).tooth z = s.tooth z := id rfl
@[simp] theorem State.setByte_tooth (s : State) (a : Nat) (v : Byte) (z : Fin 16) : (s.setByte a v).tooth z = s.tooth z := id rfl
@[simp] theorem State.clearMem_tooth (s : State) (a n : Nat) (z : Fin 16) : (s.clearMem a n).tooth z = s.tooth z := id rfl
@[simp] theorem State.setAbyte_tooth (s : State) (a : Nat) (v : Byte) (z : Fin 16) : (s.setAbyte a v).tooth z = s.tooth z := id rfl
@[simp] theorem State.azero_tooth (s : State) (a n : Nat) (z : Fin 16) : (s.azero a n).tooth z = s.tooth z := id rfl
@[simp] theorem State.setSlate_tooth (s : State) (i : Fin 8) (f : SlateState → SlateState) (z : Fin 16) : (s.setSlate i f).tooth z = s.tooth z := id rfl
@[simp] theorem State.setSlates_tooth (s : State) (f : SlateState → SlateState) (z : Fin 16) : (s.setSlates f).tooth z = s.tooth z := id rfl
@[simp] theorem State.setAxis_tooth (s : State) (i : Fin 64) (f : AxisState → AxisState) (z : Fin 16) : (s.setAxis i f).tooth z = s.tooth z := id rfl
@[simp] theorem State.setTime_tooth (s : State) (f : TimeState → TimeState) (z : Fin 16) : (s.setTime f).tooth z = s.tooth z := id rfl
@[simp] theorem State.setEvlog_tooth (s : State) (f : EventLog → EventLog) (z : Fin 16) : (s.setEvlog f).tooth z = s.tooth z := id rfl
@[simp] theorem State.setCorrections_tooth (s : State) (l : List Correction) (z : Fin 16) : (s.setCorrections l).tooth z = s.tooth z := id rfl
@[simp] theorem State.setEcc_tooth (s : State) (l : List (Nat × Bool)) (z : Fin 16) : (s.setEcc l).tooth z = s.tooth z := id rfl
@[simp] theorem State.setReplies_tooth (s : State) (l : List (Nat × List Word)) (z : Fin 16) : (s.setReplies l).tooth z = s.tooth z := id rfl
@[simp] theorem State.setCleaning_tooth (s : State) (l : List Res) (z : Fin 16) : (s.setCleaning l).tooth z = s.tooth z := id rfl
@[simp] theorem State.setMsi_tooth (s : State) (m : Nat × Nat) (z : Fin 16) : (s.setMsi m).tooth z = s.tooth z := id rfl
@[simp] theorem State.setFault_tooth (s : State) (f : FaultState → FaultState) (z : Fin 16) : (s.setFault f).tooth z = s.tooth z := id rfl
@[simp] theorem State.latch_tooth (s : State) (q a v : Nat) (z : Fin 16) : (s.latch q a v).tooth z = s.tooth z := id rfl
@[simp] theorem State.setEng_tooth (s : State) (i : Fin 512) (f : EngineState → EngineState) (z : Fin 16) : (s.setEng i f).tooth z = s.tooth z := id rfl
@[simp] theorem State.setTrunk_tooth (s : State) (i : Fin 8) (f : Trunk → Trunk) (z : Fin 16) : (s.setTrunk i f).tooth z = s.tooth z := id rfl
@[simp] theorem State.setFsch_tooth (s : State) (i : Fin 8) (c : Fin 16) (f : FschReq → FschReq) (z : Fin 16) : (s.setFsch i c f).tooth z = s.tooth z := id rfl
@[simp] theorem State.setNet_tooth (s : State) (f : NetState → NetState) (z : Fin 16) : (s.setNet f).tooth z = s.tooth z := id rfl
@[simp] theorem State.setTrack_tooth (s : State) (f : TrackState → TrackState) (z : Fin 16) : (s.setTrack f).tooth z = s.tooth z := id rfl
@[simp] theorem State.setSafety_tooth (s : State) (f : SafetyState → SafetyState) (z : Fin 16) : (s.setSafety f).tooth z = s.tooth z := id rfl
@[simp] theorem State.setCap_tooth (s : State) (f : CaptureState → CaptureState) (z : Fin 16) : (s.setCap f).tooth z = s.tooth z := id rfl
@[simp] theorem State.setBoot_tooth (s : State) (f : AmberState → AmberState) (z : Fin 16) : (s.setBoot f).tooth z = s.tooth z := id rfl
@[simp] theorem State.setPower_tooth (s : State) (f : PowerState → PowerState) (z : Fin 16) : (s.setPower f).tooth z = s.tooth z := id rfl
@[simp] theorem State.setMgmt_tooth (s : State) (f : MgmtState → MgmtState) (z : Fin 16) : (s.setMgmt f).tooth z = s.tooth z := id rfl
@[simp] theorem State.wr_trunk (s : State) (a v : Nat) (z : Fin 8) : (s.wr a v).trunk z = s.trunk z := id rfl
@[simp] theorem State.keepRegs_trunk (s : State) (p : Nat → Bool) (z : Fin 8) : (s.keepRegs p).trunk z = s.trunk z := id rfl
@[simp] theorem State.setsh_trunk (s : State) (a v : Nat) (z : Fin 8) : (s.setsh a v).trunk z = s.trunk z := id rfl
@[simp] theorem State.setByte_trunk (s : State) (a : Nat) (v : Byte) (z : Fin 8) : (s.setByte a v).trunk z = s.trunk z := id rfl
@[simp] theorem State.clearMem_trunk (s : State) (a n : Nat) (z : Fin 8) : (s.clearMem a n).trunk z = s.trunk z := id rfl
@[simp] theorem State.setAbyte_trunk (s : State) (a : Nat) (v : Byte) (z : Fin 8) : (s.setAbyte a v).trunk z = s.trunk z := id rfl
@[simp] theorem State.azero_trunk (s : State) (a n : Nat) (z : Fin 8) : (s.azero a n).trunk z = s.trunk z := id rfl
@[simp] theorem State.setSlate_trunk (s : State) (i : Fin 8) (f : SlateState → SlateState) (z : Fin 8) : (s.setSlate i f).trunk z = s.trunk z := id rfl
@[simp] theorem State.setSlates_trunk (s : State) (f : SlateState → SlateState) (z : Fin 8) : (s.setSlates f).trunk z = s.trunk z := id rfl
@[simp] theorem State.setAxis_trunk (s : State) (i : Fin 64) (f : AxisState → AxisState) (z : Fin 8) : (s.setAxis i f).trunk z = s.trunk z := id rfl
@[simp] theorem State.setTime_trunk (s : State) (f : TimeState → TimeState) (z : Fin 8) : (s.setTime f).trunk z = s.trunk z := id rfl
@[simp] theorem State.setEvlog_trunk (s : State) (f : EventLog → EventLog) (z : Fin 8) : (s.setEvlog f).trunk z = s.trunk z := id rfl
@[simp] theorem State.setCorrections_trunk (s : State) (l : List Correction) (z : Fin 8) : (s.setCorrections l).trunk z = s.trunk z := id rfl
@[simp] theorem State.setEcc_trunk (s : State) (l : List (Nat × Bool)) (z : Fin 8) : (s.setEcc l).trunk z = s.trunk z := id rfl
@[simp] theorem State.setReplies_trunk (s : State) (l : List (Nat × List Word)) (z : Fin 8) : (s.setReplies l).trunk z = s.trunk z := id rfl
@[simp] theorem State.setCleaning_trunk (s : State) (l : List Res) (z : Fin 8) : (s.setCleaning l).trunk z = s.trunk z := id rfl
@[simp] theorem State.setMsi_trunk (s : State) (m : Nat × Nat) (z : Fin 8) : (s.setMsi m).trunk z = s.trunk z := id rfl
@[simp] theorem State.setFault_trunk (s : State) (f : FaultState → FaultState) (z : Fin 8) : (s.setFault f).trunk z = s.trunk z := id rfl
@[simp] theorem State.latch_trunk (s : State) (q a v : Nat) (z : Fin 8) : (s.latch q a v).trunk z = s.trunk z := id rfl
@[simp] theorem State.setEng_trunk (s : State) (i : Fin 512) (f : EngineState → EngineState) (z : Fin 8) : (s.setEng i f).trunk z = s.trunk z := id rfl
@[simp] theorem State.setTooth_trunk (s : State) (i : Fin 16) (f : ToothUnit → ToothUnit) (z : Fin 8) : (s.setTooth i f).trunk z = s.trunk z := id rfl
@[simp] theorem State.setFsch_trunk (s : State) (i : Fin 8) (c : Fin 16) (f : FschReq → FschReq) (z : Fin 8) : (s.setFsch i c f).trunk z = s.trunk z := id rfl
@[simp] theorem State.setNet_trunk (s : State) (f : NetState → NetState) (z : Fin 8) : (s.setNet f).trunk z = s.trunk z := id rfl
@[simp] theorem State.setTrack_trunk (s : State) (f : TrackState → TrackState) (z : Fin 8) : (s.setTrack f).trunk z = s.trunk z := id rfl
@[simp] theorem State.setSafety_trunk (s : State) (f : SafetyState → SafetyState) (z : Fin 8) : (s.setSafety f).trunk z = s.trunk z := id rfl
@[simp] theorem State.setCap_trunk (s : State) (f : CaptureState → CaptureState) (z : Fin 8) : (s.setCap f).trunk z = s.trunk z := id rfl
@[simp] theorem State.setBoot_trunk (s : State) (f : AmberState → AmberState) (z : Fin 8) : (s.setBoot f).trunk z = s.trunk z := id rfl
@[simp] theorem State.setPower_trunk (s : State) (f : PowerState → PowerState) (z : Fin 8) : (s.setPower f).trunk z = s.trunk z := id rfl
@[simp] theorem State.setMgmt_trunk (s : State) (f : MgmtState → MgmtState) (z : Fin 8) : (s.setMgmt f).trunk z = s.trunk z := id rfl
@[simp] theorem State.setf_pending (s : State) (p : Nat) (f : Fld) (v : Nat) : (s.setf p f v).pending = s.pending := id rfl
@[simp] theorem State.setf_free (s : State) (p : Nat) (f : Fld) (v : Nat) : (s.setf p f v).free = s.free := id rfl
@[simp] theorem State.setf_resp (s : State) (p : Nat) (f : Fld) (v : Nat) : (s.setf p f v).resp = s.resp := id rfl
@[simp] theorem State.setf_dev (s : State) (p : Nat) (f : Fld) (v : Nat) : (s.setf p f v).dev = s.dev := id rfl
@[simp] theorem State.setf_shadow (s : State) (p : Nat) (f : Fld) (v : Nat) : (s.setf p f v).shadow = s.shadow := id rfl
@[simp] theorem State.setf_mem (s : State) (p : Nat) (f : Fld) (v : Nat) : (s.setf p f v).mem = s.mem := id rfl
@[simp] theorem State.setf_amber (s : State) (p : Nat) (f : Fld) (v : Nat) : (s.setf p f v).amber = s.amber := id rfl
@[simp] theorem State.setf_time (s : State) (p : Nat) (f : Fld) (v : Nat) : (s.setf p f v).time = s.time := id rfl
@[simp] theorem State.setf_slates (s : State) (p : Nat) (f : Fld) (v : Nat) : (s.setf p f v).slates = s.slates := id rfl
@[simp] theorem State.setf_axes (s : State) (p : Nat) (f : Fld) (v : Nat) : (s.setf p f v).axes = s.axes := id rfl
@[simp] theorem State.setf_evlog (s : State) (p : Nat) (f : Fld) (v : Nat) : (s.setf p f v).evlog = s.evlog := id rfl
@[simp] theorem State.setf_fsch (s : State) (p : Nat) (f : Fld) (v : Nat) : (s.setf p f v).fsch = s.fsch := id rfl
@[simp] theorem State.setf_engines (s : State) (p : Nat) (f : Fld) (v : Nat) : (s.setf p f v).engines = s.engines := id rfl
@[simp] theorem State.setf_replies (s : State) (p : Nat) (f : Fld) (v : Nat) : (s.setf p f v).replies = s.replies := id rfl
@[simp] theorem State.setf_cleaning (s : State) (p : Nat) (f : Fld) (v : Nat) : (s.setf p f v).cleaning = s.cleaning := id rfl
@[simp] theorem State.setf_msi (s : State) (p : Nat) (f : Fld) (v : Nat) : (s.setf p f v).msi = s.msi := id rfl
@[simp] theorem State.setf_teeth (s : State) (p : Nat) (f : Fld) (v : Nat) : (s.setf p f v).teeth = s.teeth := id rfl
@[simp] theorem State.setf_corrections (s : State) (p : Nat) (f : Fld) (v : Nat) : (s.setf p f v).corrections = s.corrections := id rfl
@[simp] theorem State.setf_ecc (s : State) (p : Nat) (f : Fld) (v : Nat) : (s.setf p f v).ecc = s.ecc := id rfl
@[simp] theorem State.setf_trunks (s : State) (p : Nat) (f : Fld) (v : Nat) : (s.setf p f v).trunks = s.trunks := id rfl
@[simp] theorem State.setf_latches (s : State) (p : Nat) (f : Fld) (v : Nat) : (s.setf p f v).latches = s.latches := id rfl
@[simp] theorem State.setf_net (s : State) (p : Nat) (f : Fld) (v : Nat) : (s.setf p f v).net = s.net := id rfl
@[simp] theorem State.setf_track (s : State) (p : Nat) (f : Fld) (v : Nat) : (s.setf p f v).track = s.track := id rfl
@[simp] theorem State.setf_safety (s : State) (p : Nat) (f : Fld) (v : Nat) : (s.setf p f v).safety = s.safety := id rfl
@[simp] theorem State.setf_capture (s : State) (p : Nat) (f : Fld) (v : Nat) : (s.setf p f v).capture = s.capture := id rfl
@[simp] theorem State.setf_fault (s : State) (p : Nat) (f : Fld) (v : Nat) : (s.setf p f v).fault = s.fault := id rfl
@[simp] theorem State.setf_boot (s : State) (p : Nat) (f : Fld) (v : Nat) : (s.setf p f v).boot = s.boot := id rfl
@[simp] theorem State.setf_power (s : State) (p : Nat) (f : Fld) (v : Nat) : (s.setf p f v).power = s.power := id rfl
@[simp] theorem State.setf_mgmt (s : State) (p : Nat) (f : Fld) (v : Nat) : (s.setf p f v).mgmt = s.mgmt := id rfl
@[simp] theorem State.setf_sh (s : State) (p : Nat) (f : Fld) (v : Nat) (x : Nat) : (s.setf p f v).sh x = s.sh x := id rfl
@[simp] theorem State.setf_byte (s : State) (p : Nat) (f : Fld) (v : Nat) (x : Nat) : (s.setf p f v).byte x = s.byte x := id rfl
@[simp] theorem State.setf_abyte (s : State) (p : Nat) (f : Fld) (v : Nat) (x : Nat) : (s.setf p f v).abyte x = s.abyte x := id rfl
@[simp] theorem State.setf_now (s : State) (p : Nat) (f : Fld) (v : Nat) : (s.setf p f v).now = s.now := id rfl
@[simp] theorem State.setf_slate (s : State) (p : Nat) (f : Fld) (v : Nat) (z : Fin 8) : (s.setf p f v).slate z = s.slate z := id rfl
@[simp] theorem State.setf_axis (s : State) (p : Nat) (f : Fld) (v : Nat) (z : Fin 64) : (s.setf p f v).axis z = s.axis z := id rfl
@[simp] theorem State.setf_eng (s : State) (p : Nat) (f : Fld) (v : Nat) (z : Fin 512) : (s.setf p f v).eng z = s.eng z := id rfl
@[simp] theorem State.setf_tooth (s : State) (p : Nat) (f : Fld) (v : Nat) (z : Fin 16) : (s.setf p f v).tooth z = s.tooth z := id rfl
@[simp] theorem State.setf_trunk (s : State) (p : Nat) (f : Fld) (v : Nat) (z : Fin 8) : (s.setf p f v).trunk z = s.trunk z := id rfl
@[simp] theorem State.setb_pending (s : State) (p : Nat) (f : Fld) (b : Bool) : (s.setb p f b).pending = s.pending := id rfl
@[simp] theorem State.setb_free (s : State) (p : Nat) (f : Fld) (b : Bool) : (s.setb p f b).free = s.free := id rfl
@[simp] theorem State.setb_resp (s : State) (p : Nat) (f : Fld) (b : Bool) : (s.setb p f b).resp = s.resp := id rfl
@[simp] theorem State.setb_dev (s : State) (p : Nat) (f : Fld) (b : Bool) : (s.setb p f b).dev = s.dev := id rfl
@[simp] theorem State.setb_shadow (s : State) (p : Nat) (f : Fld) (b : Bool) : (s.setb p f b).shadow = s.shadow := id rfl
@[simp] theorem State.setb_mem (s : State) (p : Nat) (f : Fld) (b : Bool) : (s.setb p f b).mem = s.mem := id rfl
@[simp] theorem State.setb_amber (s : State) (p : Nat) (f : Fld) (b : Bool) : (s.setb p f b).amber = s.amber := id rfl
@[simp] theorem State.setb_time (s : State) (p : Nat) (f : Fld) (b : Bool) : (s.setb p f b).time = s.time := id rfl
@[simp] theorem State.setb_slates (s : State) (p : Nat) (f : Fld) (b : Bool) : (s.setb p f b).slates = s.slates := id rfl
@[simp] theorem State.setb_axes (s : State) (p : Nat) (f : Fld) (b : Bool) : (s.setb p f b).axes = s.axes := id rfl
@[simp] theorem State.setb_evlog (s : State) (p : Nat) (f : Fld) (b : Bool) : (s.setb p f b).evlog = s.evlog := id rfl
@[simp] theorem State.setb_fsch (s : State) (p : Nat) (f : Fld) (b : Bool) : (s.setb p f b).fsch = s.fsch := id rfl
@[simp] theorem State.setb_engines (s : State) (p : Nat) (f : Fld) (b : Bool) : (s.setb p f b).engines = s.engines := id rfl
@[simp] theorem State.setb_replies (s : State) (p : Nat) (f : Fld) (b : Bool) : (s.setb p f b).replies = s.replies := id rfl
@[simp] theorem State.setb_cleaning (s : State) (p : Nat) (f : Fld) (b : Bool) : (s.setb p f b).cleaning = s.cleaning := id rfl
@[simp] theorem State.setb_msi (s : State) (p : Nat) (f : Fld) (b : Bool) : (s.setb p f b).msi = s.msi := id rfl
@[simp] theorem State.setb_teeth (s : State) (p : Nat) (f : Fld) (b : Bool) : (s.setb p f b).teeth = s.teeth := id rfl
@[simp] theorem State.setb_corrections (s : State) (p : Nat) (f : Fld) (b : Bool) : (s.setb p f b).corrections = s.corrections := id rfl
@[simp] theorem State.setb_ecc (s : State) (p : Nat) (f : Fld) (b : Bool) : (s.setb p f b).ecc = s.ecc := id rfl
@[simp] theorem State.setb_trunks (s : State) (p : Nat) (f : Fld) (b : Bool) : (s.setb p f b).trunks = s.trunks := id rfl
@[simp] theorem State.setb_latches (s : State) (p : Nat) (f : Fld) (b : Bool) : (s.setb p f b).latches = s.latches := id rfl
@[simp] theorem State.setb_net (s : State) (p : Nat) (f : Fld) (b : Bool) : (s.setb p f b).net = s.net := id rfl
@[simp] theorem State.setb_track (s : State) (p : Nat) (f : Fld) (b : Bool) : (s.setb p f b).track = s.track := id rfl
@[simp] theorem State.setb_safety (s : State) (p : Nat) (f : Fld) (b : Bool) : (s.setb p f b).safety = s.safety := id rfl
@[simp] theorem State.setb_capture (s : State) (p : Nat) (f : Fld) (b : Bool) : (s.setb p f b).capture = s.capture := id rfl
@[simp] theorem State.setb_fault (s : State) (p : Nat) (f : Fld) (b : Bool) : (s.setb p f b).fault = s.fault := id rfl
@[simp] theorem State.setb_boot (s : State) (p : Nat) (f : Fld) (b : Bool) : (s.setb p f b).boot = s.boot := id rfl
@[simp] theorem State.setb_power (s : State) (p : Nat) (f : Fld) (b : Bool) : (s.setb p f b).power = s.power := id rfl
@[simp] theorem State.setb_mgmt (s : State) (p : Nat) (f : Fld) (b : Bool) : (s.setb p f b).mgmt = s.mgmt := id rfl
@[simp] theorem State.setb_sh (s : State) (p : Nat) (f : Fld) (b : Bool) (x : Nat) : (s.setb p f b).sh x = s.sh x := id rfl
@[simp] theorem State.setb_byte (s : State) (p : Nat) (f : Fld) (b : Bool) (x : Nat) : (s.setb p f b).byte x = s.byte x := id rfl
@[simp] theorem State.setb_abyte (s : State) (p : Nat) (f : Fld) (b : Bool) (x : Nat) : (s.setb p f b).abyte x = s.abyte x := id rfl
@[simp] theorem State.setb_now (s : State) (p : Nat) (f : Fld) (b : Bool) : (s.setb p f b).now = s.now := id rfl
@[simp] theorem State.setb_slate (s : State) (p : Nat) (f : Fld) (b : Bool) (z : Fin 8) : (s.setb p f b).slate z = s.slate z := id rfl
@[simp] theorem State.setb_axis (s : State) (p : Nat) (f : Fld) (b : Bool) (z : Fin 64) : (s.setb p f b).axis z = s.axis z := id rfl
@[simp] theorem State.setb_eng (s : State) (p : Nat) (f : Fld) (b : Bool) (z : Fin 512) : (s.setb p f b).eng z = s.eng z := id rfl
@[simp] theorem State.setb_tooth (s : State) (p : Nat) (f : Fld) (b : Bool) (z : Fin 16) : (s.setb p f b).tooth z = s.tooth z := id rfl
@[simp] theorem State.setb_trunk (s : State) (p : Nat) (f : Fld) (b : Bool) (z : Fin 8) : (s.setb p f b).trunk z = s.trunk z := id rfl
@[simp] theorem State.setbit_pending (s : State) (p o b : Nat) (v : Bool) : (s.setbit p o b v).pending = s.pending := id rfl
@[simp] theorem State.setbit_free (s : State) (p o b : Nat) (v : Bool) : (s.setbit p o b v).free = s.free := id rfl
@[simp] theorem State.setbit_resp (s : State) (p o b : Nat) (v : Bool) : (s.setbit p o b v).resp = s.resp := id rfl
@[simp] theorem State.setbit_dev (s : State) (p o b : Nat) (v : Bool) : (s.setbit p o b v).dev = s.dev := id rfl
@[simp] theorem State.setbit_shadow (s : State) (p o b : Nat) (v : Bool) : (s.setbit p o b v).shadow = s.shadow := id rfl
@[simp] theorem State.setbit_mem (s : State) (p o b : Nat) (v : Bool) : (s.setbit p o b v).mem = s.mem := id rfl
@[simp] theorem State.setbit_amber (s : State) (p o b : Nat) (v : Bool) : (s.setbit p o b v).amber = s.amber := id rfl
@[simp] theorem State.setbit_time (s : State) (p o b : Nat) (v : Bool) : (s.setbit p o b v).time = s.time := id rfl
@[simp] theorem State.setbit_slates (s : State) (p o b : Nat) (v : Bool) : (s.setbit p o b v).slates = s.slates := id rfl
@[simp] theorem State.setbit_axes (s : State) (p o b : Nat) (v : Bool) : (s.setbit p o b v).axes = s.axes := id rfl
@[simp] theorem State.setbit_evlog (s : State) (p o b : Nat) (v : Bool) : (s.setbit p o b v).evlog = s.evlog := id rfl
@[simp] theorem State.setbit_fsch (s : State) (p o b : Nat) (v : Bool) : (s.setbit p o b v).fsch = s.fsch := id rfl
@[simp] theorem State.setbit_engines (s : State) (p o b : Nat) (v : Bool) : (s.setbit p o b v).engines = s.engines := id rfl
@[simp] theorem State.setbit_replies (s : State) (p o b : Nat) (v : Bool) : (s.setbit p o b v).replies = s.replies := id rfl
@[simp] theorem State.setbit_cleaning (s : State) (p o b : Nat) (v : Bool) : (s.setbit p o b v).cleaning = s.cleaning := id rfl
@[simp] theorem State.setbit_msi (s : State) (p o b : Nat) (v : Bool) : (s.setbit p o b v).msi = s.msi := id rfl
@[simp] theorem State.setbit_teeth (s : State) (p o b : Nat) (v : Bool) : (s.setbit p o b v).teeth = s.teeth := id rfl
@[simp] theorem State.setbit_corrections (s : State) (p o b : Nat) (v : Bool) : (s.setbit p o b v).corrections = s.corrections := id rfl
@[simp] theorem State.setbit_ecc (s : State) (p o b : Nat) (v : Bool) : (s.setbit p o b v).ecc = s.ecc := id rfl
@[simp] theorem State.setbit_trunks (s : State) (p o b : Nat) (v : Bool) : (s.setbit p o b v).trunks = s.trunks := id rfl
@[simp] theorem State.setbit_latches (s : State) (p o b : Nat) (v : Bool) : (s.setbit p o b v).latches = s.latches := id rfl
@[simp] theorem State.setbit_net (s : State) (p o b : Nat) (v : Bool) : (s.setbit p o b v).net = s.net := id rfl
@[simp] theorem State.setbit_track (s : State) (p o b : Nat) (v : Bool) : (s.setbit p o b v).track = s.track := id rfl
@[simp] theorem State.setbit_safety (s : State) (p o b : Nat) (v : Bool) : (s.setbit p o b v).safety = s.safety := id rfl
@[simp] theorem State.setbit_capture (s : State) (p o b : Nat) (v : Bool) : (s.setbit p o b v).capture = s.capture := id rfl
@[simp] theorem State.setbit_fault (s : State) (p o b : Nat) (v : Bool) : (s.setbit p o b v).fault = s.fault := id rfl
@[simp] theorem State.setbit_boot (s : State) (p o b : Nat) (v : Bool) : (s.setbit p o b v).boot = s.boot := id rfl
@[simp] theorem State.setbit_power (s : State) (p o b : Nat) (v : Bool) : (s.setbit p o b v).power = s.power := id rfl
@[simp] theorem State.setbit_mgmt (s : State) (p o b : Nat) (v : Bool) : (s.setbit p o b v).mgmt = s.mgmt := id rfl
@[simp] theorem State.setbit_sh (s : State) (p o b : Nat) (v : Bool) (x : Nat) : (s.setbit p o b v).sh x = s.sh x := id rfl
@[simp] theorem State.setbit_byte (s : State) (p o b : Nat) (v : Bool) (x : Nat) : (s.setbit p o b v).byte x = s.byte x := id rfl
@[simp] theorem State.setbit_abyte (s : State) (p o b : Nat) (v : Bool) (x : Nat) : (s.setbit p o b v).abyte x = s.abyte x := id rfl
@[simp] theorem State.setbit_now (s : State) (p o b : Nat) (v : Bool) : (s.setbit p o b v).now = s.now := id rfl
@[simp] theorem State.setbit_slate (s : State) (p o b : Nat) (v : Bool) (z : Fin 8) : (s.setbit p o b v).slate z = s.slate z := id rfl
@[simp] theorem State.setbit_axis (s : State) (p o b : Nat) (v : Bool) (z : Fin 64) : (s.setbit p o b v).axis z = s.axis z := id rfl
@[simp] theorem State.setbit_eng (s : State) (p o b : Nat) (v : Bool) (z : Fin 512) : (s.setbit p o b v).eng z = s.eng z := id rfl
@[simp] theorem State.setbit_tooth (s : State) (p o b : Nat) (v : Bool) (z : Fin 16) : (s.setbit p o b v).tooth z = s.tooth z := id rfl
@[simp] theorem State.setbit_trunk (s : State) (p o b : Nat) (v : Bool) (z : Fin 8) : (s.setbit p o b v).trunk z = s.trunk z := id rfl
@[simp] theorem State.err_pending (s : State) (p b : Nat) : (s.err p b).pending = s.pending := id rfl
@[simp] theorem State.err_free (s : State) (p b : Nat) : (s.err p b).free = s.free := id rfl
@[simp] theorem State.err_resp (s : State) (p b : Nat) : (s.err p b).resp = s.resp := id rfl
@[simp] theorem State.err_dev (s : State) (p b : Nat) : (s.err p b).dev = s.dev := id rfl
@[simp] theorem State.err_shadow (s : State) (p b : Nat) : (s.err p b).shadow = s.shadow := id rfl
@[simp] theorem State.err_mem (s : State) (p b : Nat) : (s.err p b).mem = s.mem := id rfl
@[simp] theorem State.err_amber (s : State) (p b : Nat) : (s.err p b).amber = s.amber := id rfl
@[simp] theorem State.err_time (s : State) (p b : Nat) : (s.err p b).time = s.time := id rfl
@[simp] theorem State.err_slates (s : State) (p b : Nat) : (s.err p b).slates = s.slates := id rfl
@[simp] theorem State.err_axes (s : State) (p b : Nat) : (s.err p b).axes = s.axes := id rfl
@[simp] theorem State.err_evlog (s : State) (p b : Nat) : (s.err p b).evlog = s.evlog := id rfl
@[simp] theorem State.err_fsch (s : State) (p b : Nat) : (s.err p b).fsch = s.fsch := id rfl
@[simp] theorem State.err_engines (s : State) (p b : Nat) : (s.err p b).engines = s.engines := id rfl
@[simp] theorem State.err_replies (s : State) (p b : Nat) : (s.err p b).replies = s.replies := id rfl
@[simp] theorem State.err_cleaning (s : State) (p b : Nat) : (s.err p b).cleaning = s.cleaning := id rfl
@[simp] theorem State.err_msi (s : State) (p b : Nat) : (s.err p b).msi = s.msi := id rfl
@[simp] theorem State.err_teeth (s : State) (p b : Nat) : (s.err p b).teeth = s.teeth := id rfl
@[simp] theorem State.err_corrections (s : State) (p b : Nat) : (s.err p b).corrections = s.corrections := id rfl
@[simp] theorem State.err_ecc (s : State) (p b : Nat) : (s.err p b).ecc = s.ecc := id rfl
@[simp] theorem State.err_trunks (s : State) (p b : Nat) : (s.err p b).trunks = s.trunks := id rfl
@[simp] theorem State.err_latches (s : State) (p b : Nat) : (s.err p b).latches = s.latches := id rfl
@[simp] theorem State.err_net (s : State) (p b : Nat) : (s.err p b).net = s.net := id rfl
@[simp] theorem State.err_track (s : State) (p b : Nat) : (s.err p b).track = s.track := id rfl
@[simp] theorem State.err_safety (s : State) (p b : Nat) : (s.err p b).safety = s.safety := id rfl
@[simp] theorem State.err_capture (s : State) (p b : Nat) : (s.err p b).capture = s.capture := id rfl
@[simp] theorem State.err_fault (s : State) (p b : Nat) : (s.err p b).fault = s.fault := id rfl
@[simp] theorem State.err_boot (s : State) (p b : Nat) : (s.err p b).boot = s.boot := id rfl
@[simp] theorem State.err_power (s : State) (p b : Nat) : (s.err p b).power = s.power := id rfl
@[simp] theorem State.err_mgmt (s : State) (p b : Nat) : (s.err p b).mgmt = s.mgmt := id rfl
@[simp] theorem State.err_sh (s : State) (p b : Nat) (x : Nat) : (s.err p b).sh x = s.sh x := id rfl
@[simp] theorem State.err_byte (s : State) (p b : Nat) (x : Nat) : (s.err p b).byte x = s.byte x := id rfl
@[simp] theorem State.err_abyte (s : State) (p b : Nat) (x : Nat) : (s.err p b).abyte x = s.abyte x := id rfl
@[simp] theorem State.err_now (s : State) (p b : Nat) : (s.err p b).now = s.now := id rfl
@[simp] theorem State.err_slate (s : State) (p b : Nat) (z : Fin 8) : (s.err p b).slate z = s.slate z := id rfl
@[simp] theorem State.err_axis (s : State) (p b : Nat) (z : Fin 64) : (s.err p b).axis z = s.axis z := id rfl
@[simp] theorem State.err_eng (s : State) (p b : Nat) (z : Fin 512) : (s.err p b).eng z = s.eng z := id rfl
@[simp] theorem State.err_tooth (s : State) (p b : Nat) (z : Fin 16) : (s.err p b).tooth z = s.tooth z := id rfl
@[simp] theorem State.err_trunk (s : State) (p b : Nat) (z : Fin 8) : (s.err p b).trunk z = s.trunk z := id rfl
@[simp] theorem State.inc_pending (s : State) (p : Nat) (f : Fld) : (s.inc p f).pending = s.pending := id rfl
@[simp] theorem State.inc_free (s : State) (p : Nat) (f : Fld) : (s.inc p f).free = s.free := id rfl
@[simp] theorem State.inc_resp (s : State) (p : Nat) (f : Fld) : (s.inc p f).resp = s.resp := id rfl
@[simp] theorem State.inc_dev (s : State) (p : Nat) (f : Fld) : (s.inc p f).dev = s.dev := id rfl
@[simp] theorem State.inc_shadow (s : State) (p : Nat) (f : Fld) : (s.inc p f).shadow = s.shadow := id rfl
@[simp] theorem State.inc_mem (s : State) (p : Nat) (f : Fld) : (s.inc p f).mem = s.mem := id rfl
@[simp] theorem State.inc_amber (s : State) (p : Nat) (f : Fld) : (s.inc p f).amber = s.amber := id rfl
@[simp] theorem State.inc_time (s : State) (p : Nat) (f : Fld) : (s.inc p f).time = s.time := id rfl
@[simp] theorem State.inc_slates (s : State) (p : Nat) (f : Fld) : (s.inc p f).slates = s.slates := id rfl
@[simp] theorem State.inc_axes (s : State) (p : Nat) (f : Fld) : (s.inc p f).axes = s.axes := id rfl
@[simp] theorem State.inc_evlog (s : State) (p : Nat) (f : Fld) : (s.inc p f).evlog = s.evlog := id rfl
@[simp] theorem State.inc_fsch (s : State) (p : Nat) (f : Fld) : (s.inc p f).fsch = s.fsch := id rfl
@[simp] theorem State.inc_engines (s : State) (p : Nat) (f : Fld) : (s.inc p f).engines = s.engines := id rfl
@[simp] theorem State.inc_replies (s : State) (p : Nat) (f : Fld) : (s.inc p f).replies = s.replies := id rfl
@[simp] theorem State.inc_cleaning (s : State) (p : Nat) (f : Fld) : (s.inc p f).cleaning = s.cleaning := id rfl
@[simp] theorem State.inc_msi (s : State) (p : Nat) (f : Fld) : (s.inc p f).msi = s.msi := id rfl
@[simp] theorem State.inc_teeth (s : State) (p : Nat) (f : Fld) : (s.inc p f).teeth = s.teeth := id rfl
@[simp] theorem State.inc_corrections (s : State) (p : Nat) (f : Fld) : (s.inc p f).corrections = s.corrections := id rfl
@[simp] theorem State.inc_ecc (s : State) (p : Nat) (f : Fld) : (s.inc p f).ecc = s.ecc := id rfl
@[simp] theorem State.inc_trunks (s : State) (p : Nat) (f : Fld) : (s.inc p f).trunks = s.trunks := id rfl
@[simp] theorem State.inc_latches (s : State) (p : Nat) (f : Fld) : (s.inc p f).latches = s.latches := id rfl
@[simp] theorem State.inc_net (s : State) (p : Nat) (f : Fld) : (s.inc p f).net = s.net := id rfl
@[simp] theorem State.inc_track (s : State) (p : Nat) (f : Fld) : (s.inc p f).track = s.track := id rfl
@[simp] theorem State.inc_safety (s : State) (p : Nat) (f : Fld) : (s.inc p f).safety = s.safety := id rfl
@[simp] theorem State.inc_capture (s : State) (p : Nat) (f : Fld) : (s.inc p f).capture = s.capture := id rfl
@[simp] theorem State.inc_fault (s : State) (p : Nat) (f : Fld) : (s.inc p f).fault = s.fault := id rfl
@[simp] theorem State.inc_boot (s : State) (p : Nat) (f : Fld) : (s.inc p f).boot = s.boot := id rfl
@[simp] theorem State.inc_power (s : State) (p : Nat) (f : Fld) : (s.inc p f).power = s.power := id rfl
@[simp] theorem State.inc_mgmt (s : State) (p : Nat) (f : Fld) : (s.inc p f).mgmt = s.mgmt := id rfl
@[simp] theorem State.inc_sh (s : State) (p : Nat) (f : Fld) (x : Nat) : (s.inc p f).sh x = s.sh x := id rfl
@[simp] theorem State.inc_byte (s : State) (p : Nat) (f : Fld) (x : Nat) : (s.inc p f).byte x = s.byte x := id rfl
@[simp] theorem State.inc_abyte (s : State) (p : Nat) (f : Fld) (x : Nat) : (s.inc p f).abyte x = s.abyte x := id rfl
@[simp] theorem State.inc_now (s : State) (p : Nat) (f : Fld) : (s.inc p f).now = s.now := id rfl
@[simp] theorem State.inc_slate (s : State) (p : Nat) (f : Fld) (z : Fin 8) : (s.inc p f).slate z = s.slate z := id rfl
@[simp] theorem State.inc_axis (s : State) (p : Nat) (f : Fld) (z : Fin 64) : (s.inc p f).axis z = s.axis z := id rfl
@[simp] theorem State.inc_eng (s : State) (p : Nat) (f : Fld) (z : Fin 512) : (s.inc p f).eng z = s.eng z := id rfl
@[simp] theorem State.inc_tooth (s : State) (p : Nat) (f : Fld) (z : Fin 16) : (s.inc p f).tooth z = s.tooth z := id rfl
@[simp] theorem State.inc_trunk (s : State) (p : Nat) (f : Fld) (z : Fin 8) : (s.inc p f).trunk z = s.trunk z := id rfl
@[simp] theorem State.incw_pending (s : State) (p o : Nat) : (s.incw p o).pending = s.pending := id rfl
@[simp] theorem State.incw_free (s : State) (p o : Nat) : (s.incw p o).free = s.free := id rfl
@[simp] theorem State.incw_resp (s : State) (p o : Nat) : (s.incw p o).resp = s.resp := id rfl
@[simp] theorem State.incw_dev (s : State) (p o : Nat) : (s.incw p o).dev = s.dev := id rfl
@[simp] theorem State.incw_shadow (s : State) (p o : Nat) : (s.incw p o).shadow = s.shadow := id rfl
@[simp] theorem State.incw_mem (s : State) (p o : Nat) : (s.incw p o).mem = s.mem := id rfl
@[simp] theorem State.incw_amber (s : State) (p o : Nat) : (s.incw p o).amber = s.amber := id rfl
@[simp] theorem State.incw_time (s : State) (p o : Nat) : (s.incw p o).time = s.time := id rfl
@[simp] theorem State.incw_slates (s : State) (p o : Nat) : (s.incw p o).slates = s.slates := id rfl
@[simp] theorem State.incw_axes (s : State) (p o : Nat) : (s.incw p o).axes = s.axes := id rfl
@[simp] theorem State.incw_evlog (s : State) (p o : Nat) : (s.incw p o).evlog = s.evlog := id rfl
@[simp] theorem State.incw_fsch (s : State) (p o : Nat) : (s.incw p o).fsch = s.fsch := id rfl
@[simp] theorem State.incw_engines (s : State) (p o : Nat) : (s.incw p o).engines = s.engines := id rfl
@[simp] theorem State.incw_replies (s : State) (p o : Nat) : (s.incw p o).replies = s.replies := id rfl
@[simp] theorem State.incw_cleaning (s : State) (p o : Nat) : (s.incw p o).cleaning = s.cleaning := id rfl
@[simp] theorem State.incw_msi (s : State) (p o : Nat) : (s.incw p o).msi = s.msi := id rfl
@[simp] theorem State.incw_teeth (s : State) (p o : Nat) : (s.incw p o).teeth = s.teeth := id rfl
@[simp] theorem State.incw_corrections (s : State) (p o : Nat) : (s.incw p o).corrections = s.corrections := id rfl
@[simp] theorem State.incw_ecc (s : State) (p o : Nat) : (s.incw p o).ecc = s.ecc := id rfl
@[simp] theorem State.incw_trunks (s : State) (p o : Nat) : (s.incw p o).trunks = s.trunks := id rfl
@[simp] theorem State.incw_latches (s : State) (p o : Nat) : (s.incw p o).latches = s.latches := id rfl
@[simp] theorem State.incw_net (s : State) (p o : Nat) : (s.incw p o).net = s.net := id rfl
@[simp] theorem State.incw_track (s : State) (p o : Nat) : (s.incw p o).track = s.track := id rfl
@[simp] theorem State.incw_safety (s : State) (p o : Nat) : (s.incw p o).safety = s.safety := id rfl
@[simp] theorem State.incw_capture (s : State) (p o : Nat) : (s.incw p o).capture = s.capture := id rfl
@[simp] theorem State.incw_fault (s : State) (p o : Nat) : (s.incw p o).fault = s.fault := id rfl
@[simp] theorem State.incw_boot (s : State) (p o : Nat) : (s.incw p o).boot = s.boot := id rfl
@[simp] theorem State.incw_power (s : State) (p o : Nat) : (s.incw p o).power = s.power := id rfl
@[simp] theorem State.incw_mgmt (s : State) (p o : Nat) : (s.incw p o).mgmt = s.mgmt := id rfl
@[simp] theorem State.incw_sh (s : State) (p o : Nat) (x : Nat) : (s.incw p o).sh x = s.sh x := id rfl
@[simp] theorem State.incw_byte (s : State) (p o : Nat) (x : Nat) : (s.incw p o).byte x = s.byte x := id rfl
@[simp] theorem State.incw_abyte (s : State) (p o : Nat) (x : Nat) : (s.incw p o).abyte x = s.abyte x := id rfl
@[simp] theorem State.incw_now (s : State) (p o : Nat) : (s.incw p o).now = s.now := id rfl
@[simp] theorem State.incw_slate (s : State) (p o : Nat) (z : Fin 8) : (s.incw p o).slate z = s.slate z := id rfl
@[simp] theorem State.incw_axis (s : State) (p o : Nat) (z : Fin 64) : (s.incw p o).axis z = s.axis z := id rfl
@[simp] theorem State.incw_eng (s : State) (p o : Nat) (z : Fin 512) : (s.incw p o).eng z = s.eng z := id rfl
@[simp] theorem State.incw_tooth (s : State) (p o : Nat) (z : Fin 16) : (s.incw p o).tooth z = s.tooth z := id rfl
@[simp] theorem State.incw_trunk (s : State) (p o : Nat) (z : Fin 8) : (s.incw p o).trunk z = s.trunk z := id rfl
@[simp] theorem State.incs_pending (s : State) (p o : Nat) : (s.incs p o).pending = s.pending := id rfl
@[simp] theorem State.incs_free (s : State) (p o : Nat) : (s.incs p o).free = s.free := id rfl
@[simp] theorem State.incs_resp (s : State) (p o : Nat) : (s.incs p o).resp = s.resp := id rfl
@[simp] theorem State.incs_dev (s : State) (p o : Nat) : (s.incs p o).dev = s.dev := id rfl
@[simp] theorem State.incs_shadow (s : State) (p o : Nat) : (s.incs p o).shadow = s.shadow := id rfl
@[simp] theorem State.incs_mem (s : State) (p o : Nat) : (s.incs p o).mem = s.mem := id rfl
@[simp] theorem State.incs_amber (s : State) (p o : Nat) : (s.incs p o).amber = s.amber := id rfl
@[simp] theorem State.incs_time (s : State) (p o : Nat) : (s.incs p o).time = s.time := id rfl
@[simp] theorem State.incs_slates (s : State) (p o : Nat) : (s.incs p o).slates = s.slates := id rfl
@[simp] theorem State.incs_axes (s : State) (p o : Nat) : (s.incs p o).axes = s.axes := id rfl
@[simp] theorem State.incs_evlog (s : State) (p o : Nat) : (s.incs p o).evlog = s.evlog := id rfl
@[simp] theorem State.incs_fsch (s : State) (p o : Nat) : (s.incs p o).fsch = s.fsch := id rfl
@[simp] theorem State.incs_engines (s : State) (p o : Nat) : (s.incs p o).engines = s.engines := id rfl
@[simp] theorem State.incs_replies (s : State) (p o : Nat) : (s.incs p o).replies = s.replies := id rfl
@[simp] theorem State.incs_cleaning (s : State) (p o : Nat) : (s.incs p o).cleaning = s.cleaning := id rfl
@[simp] theorem State.incs_msi (s : State) (p o : Nat) : (s.incs p o).msi = s.msi := id rfl
@[simp] theorem State.incs_teeth (s : State) (p o : Nat) : (s.incs p o).teeth = s.teeth := id rfl
@[simp] theorem State.incs_corrections (s : State) (p o : Nat) : (s.incs p o).corrections = s.corrections := id rfl
@[simp] theorem State.incs_ecc (s : State) (p o : Nat) : (s.incs p o).ecc = s.ecc := id rfl
@[simp] theorem State.incs_trunks (s : State) (p o : Nat) : (s.incs p o).trunks = s.trunks := id rfl
@[simp] theorem State.incs_latches (s : State) (p o : Nat) : (s.incs p o).latches = s.latches := id rfl
@[simp] theorem State.incs_net (s : State) (p o : Nat) : (s.incs p o).net = s.net := id rfl
@[simp] theorem State.incs_track (s : State) (p o : Nat) : (s.incs p o).track = s.track := id rfl
@[simp] theorem State.incs_safety (s : State) (p o : Nat) : (s.incs p o).safety = s.safety := id rfl
@[simp] theorem State.incs_capture (s : State) (p o : Nat) : (s.incs p o).capture = s.capture := id rfl
@[simp] theorem State.incs_fault (s : State) (p o : Nat) : (s.incs p o).fault = s.fault := id rfl
@[simp] theorem State.incs_boot (s : State) (p o : Nat) : (s.incs p o).boot = s.boot := id rfl
@[simp] theorem State.incs_power (s : State) (p o : Nat) : (s.incs p o).power = s.power := id rfl
@[simp] theorem State.incs_mgmt (s : State) (p o : Nat) : (s.incs p o).mgmt = s.mgmt := id rfl
@[simp] theorem State.incs_sh (s : State) (p o : Nat) (x : Nat) : (s.incs p o).sh x = s.sh x := id rfl
@[simp] theorem State.incs_byte (s : State) (p o : Nat) (x : Nat) : (s.incs p o).byte x = s.byte x := id rfl
@[simp] theorem State.incs_abyte (s : State) (p o : Nat) (x : Nat) : (s.incs p o).abyte x = s.abyte x := id rfl
@[simp] theorem State.incs_now (s : State) (p o : Nat) : (s.incs p o).now = s.now := id rfl
@[simp] theorem State.incs_slate (s : State) (p o : Nat) (z : Fin 8) : (s.incs p o).slate z = s.slate z := id rfl
@[simp] theorem State.incs_axis (s : State) (p o : Nat) (z : Fin 64) : (s.incs p o).axis z = s.axis z := id rfl
@[simp] theorem State.incs_eng (s : State) (p o : Nat) (z : Fin 512) : (s.incs p o).eng z = s.eng z := id rfl
@[simp] theorem State.incs_tooth (s : State) (p o : Nat) (z : Fin 16) : (s.incs p o).tooth z = s.tooth z := id rfl
@[simp] theorem State.incs_trunk (s : State) (p o : Nat) (z : Fin 8) : (s.incs p o).trunk z = s.trunk z := id rfl
@[simp] theorem State.wr64_pending (s : State) (p o v : Nat) : (s.wr64 p o v).pending = s.pending := id rfl
@[simp] theorem State.wr64_free (s : State) (p o v : Nat) : (s.wr64 p o v).free = s.free := id rfl
@[simp] theorem State.wr64_resp (s : State) (p o v : Nat) : (s.wr64 p o v).resp = s.resp := id rfl
@[simp] theorem State.wr64_dev (s : State) (p o v : Nat) : (s.wr64 p o v).dev = s.dev := id rfl
@[simp] theorem State.wr64_shadow (s : State) (p o v : Nat) : (s.wr64 p o v).shadow = s.shadow := id rfl
@[simp] theorem State.wr64_mem (s : State) (p o v : Nat) : (s.wr64 p o v).mem = s.mem := id rfl
@[simp] theorem State.wr64_amber (s : State) (p o v : Nat) : (s.wr64 p o v).amber = s.amber := id rfl
@[simp] theorem State.wr64_time (s : State) (p o v : Nat) : (s.wr64 p o v).time = s.time := id rfl
@[simp] theorem State.wr64_slates (s : State) (p o v : Nat) : (s.wr64 p o v).slates = s.slates := id rfl
@[simp] theorem State.wr64_axes (s : State) (p o v : Nat) : (s.wr64 p o v).axes = s.axes := id rfl
@[simp] theorem State.wr64_evlog (s : State) (p o v : Nat) : (s.wr64 p o v).evlog = s.evlog := id rfl
@[simp] theorem State.wr64_fsch (s : State) (p o v : Nat) : (s.wr64 p o v).fsch = s.fsch := id rfl
@[simp] theorem State.wr64_engines (s : State) (p o v : Nat) : (s.wr64 p o v).engines = s.engines := id rfl
@[simp] theorem State.wr64_replies (s : State) (p o v : Nat) : (s.wr64 p o v).replies = s.replies := id rfl
@[simp] theorem State.wr64_cleaning (s : State) (p o v : Nat) : (s.wr64 p o v).cleaning = s.cleaning := id rfl
@[simp] theorem State.wr64_msi (s : State) (p o v : Nat) : (s.wr64 p o v).msi = s.msi := id rfl
@[simp] theorem State.wr64_teeth (s : State) (p o v : Nat) : (s.wr64 p o v).teeth = s.teeth := id rfl
@[simp] theorem State.wr64_corrections (s : State) (p o v : Nat) : (s.wr64 p o v).corrections = s.corrections := id rfl
@[simp] theorem State.wr64_ecc (s : State) (p o v : Nat) : (s.wr64 p o v).ecc = s.ecc := id rfl
@[simp] theorem State.wr64_trunks (s : State) (p o v : Nat) : (s.wr64 p o v).trunks = s.trunks := id rfl
@[simp] theorem State.wr64_latches (s : State) (p o v : Nat) : (s.wr64 p o v).latches = s.latches := id rfl
@[simp] theorem State.wr64_net (s : State) (p o v : Nat) : (s.wr64 p o v).net = s.net := id rfl
@[simp] theorem State.wr64_track (s : State) (p o v : Nat) : (s.wr64 p o v).track = s.track := id rfl
@[simp] theorem State.wr64_safety (s : State) (p o v : Nat) : (s.wr64 p o v).safety = s.safety := id rfl
@[simp] theorem State.wr64_capture (s : State) (p o v : Nat) : (s.wr64 p o v).capture = s.capture := id rfl
@[simp] theorem State.wr64_fault (s : State) (p o v : Nat) : (s.wr64 p o v).fault = s.fault := id rfl
@[simp] theorem State.wr64_boot (s : State) (p o v : Nat) : (s.wr64 p o v).boot = s.boot := id rfl
@[simp] theorem State.wr64_power (s : State) (p o v : Nat) : (s.wr64 p o v).power = s.power := id rfl
@[simp] theorem State.wr64_mgmt (s : State) (p o v : Nat) : (s.wr64 p o v).mgmt = s.mgmt := id rfl
@[simp] theorem State.wr64_sh (s : State) (p o v : Nat) (x : Nat) : (s.wr64 p o v).sh x = s.sh x := id rfl
@[simp] theorem State.wr64_byte (s : State) (p o v : Nat) (x : Nat) : (s.wr64 p o v).byte x = s.byte x := id rfl
@[simp] theorem State.wr64_abyte (s : State) (p o v : Nat) (x : Nat) : (s.wr64 p o v).abyte x = s.abyte x := id rfl
@[simp] theorem State.wr64_now (s : State) (p o v : Nat) : (s.wr64 p o v).now = s.now := id rfl
@[simp] theorem State.wr64_slate (s : State) (p o v : Nat) (z : Fin 8) : (s.wr64 p o v).slate z = s.slate z := id rfl
@[simp] theorem State.wr64_axis (s : State) (p o v : Nat) (z : Fin 64) : (s.wr64 p o v).axis z = s.axis z := id rfl
@[simp] theorem State.wr64_eng (s : State) (p o v : Nat) (z : Fin 512) : (s.wr64 p o v).eng z = s.eng z := id rfl
@[simp] theorem State.wr64_tooth (s : State) (p o v : Nat) (z : Fin 16) : (s.wr64 p o v).tooth z = s.tooth z := id rfl
@[simp] theorem State.wr64_trunk (s : State) (p o v : Nat) (z : Fin 8) : (s.wr64 p o v).trunk z = s.trunk z := id rfl
@[simp] theorem State.respond_pending (s : State) (r : Resp) : (s.respond r).pending = s.pending := by unfold State.respond; split <;> rfl
@[simp] theorem State.respond_free (s : State) (r : Resp) : (s.respond r).free = s.free := by unfold State.respond; split <;> rfl
@[simp] theorem State.respond_dev (s : State) (r : Resp) : (s.respond r).dev = s.dev := by unfold State.respond; split <;> rfl
@[simp] theorem State.respond_regs (s : State) (r : Resp) : (s.respond r).regs = s.regs := by unfold State.respond; split <;> rfl
@[simp] theorem State.respond_shadow (s : State) (r : Resp) : (s.respond r).shadow = s.shadow := by unfold State.respond; split <;> rfl
@[simp] theorem State.respond_mem (s : State) (r : Resp) : (s.respond r).mem = s.mem := by unfold State.respond; split <;> rfl
@[simp] theorem State.respond_amber (s : State) (r : Resp) : (s.respond r).amber = s.amber := by unfold State.respond; split <;> rfl
@[simp] theorem State.respond_time (s : State) (r : Resp) : (s.respond r).time = s.time := by unfold State.respond; split <;> rfl
@[simp] theorem State.respond_slates (s : State) (r : Resp) : (s.respond r).slates = s.slates := by unfold State.respond; split <;> rfl
@[simp] theorem State.respond_axes (s : State) (r : Resp) : (s.respond r).axes = s.axes := by unfold State.respond; split <;> rfl
@[simp] theorem State.respond_evlog (s : State) (r : Resp) : (s.respond r).evlog = s.evlog := by unfold State.respond; split <;> rfl
@[simp] theorem State.respond_fsch (s : State) (r : Resp) : (s.respond r).fsch = s.fsch := by unfold State.respond; split <;> rfl
@[simp] theorem State.respond_engines (s : State) (r : Resp) : (s.respond r).engines = s.engines := by unfold State.respond; split <;> rfl
@[simp] theorem State.respond_replies (s : State) (r : Resp) : (s.respond r).replies = s.replies := by unfold State.respond; split <;> rfl
@[simp] theorem State.respond_cleaning (s : State) (r : Resp) : (s.respond r).cleaning = s.cleaning := by unfold State.respond; split <;> rfl
@[simp] theorem State.respond_msi (s : State) (r : Resp) : (s.respond r).msi = s.msi := by unfold State.respond; split <;> rfl
@[simp] theorem State.respond_teeth (s : State) (r : Resp) : (s.respond r).teeth = s.teeth := by unfold State.respond; split <;> rfl
@[simp] theorem State.respond_corrections (s : State) (r : Resp) : (s.respond r).corrections = s.corrections := by unfold State.respond; split <;> rfl
@[simp] theorem State.respond_ecc (s : State) (r : Resp) : (s.respond r).ecc = s.ecc := by unfold State.respond; split <;> rfl
@[simp] theorem State.respond_trunks (s : State) (r : Resp) : (s.respond r).trunks = s.trunks := by unfold State.respond; split <;> rfl
@[simp] theorem State.respond_latches (s : State) (r : Resp) : (s.respond r).latches = s.latches := by unfold State.respond; split <;> rfl
@[simp] theorem State.respond_net (s : State) (r : Resp) : (s.respond r).net = s.net := by unfold State.respond; split <;> rfl
@[simp] theorem State.respond_track (s : State) (r : Resp) : (s.respond r).track = s.track := by unfold State.respond; split <;> rfl
@[simp] theorem State.respond_safety (s : State) (r : Resp) : (s.respond r).safety = s.safety := by unfold State.respond; split <;> rfl
@[simp] theorem State.respond_capture (s : State) (r : Resp) : (s.respond r).capture = s.capture := by unfold State.respond; split <;> rfl
@[simp] theorem State.respond_fault (s : State) (r : Resp) : (s.respond r).fault = s.fault := by unfold State.respond; split <;> rfl
@[simp] theorem State.respond_boot (s : State) (r : Resp) : (s.respond r).boot = s.boot := by unfold State.respond; split <;> rfl
@[simp] theorem State.respond_power (s : State) (r : Resp) : (s.respond r).power = s.power := by unfold State.respond; split <;> rfl
@[simp] theorem State.respond_mgmt (s : State) (r : Resp) : (s.respond r).mgmt = s.mgmt := by unfold State.respond; split <;> rfl
@[simp] theorem State.respond_rd (s : State) (r : Resp) (x : Nat) : (s.respond r).rd x = s.rd x := by unfold State.respond; split <;> rfl
@[simp] theorem State.respond_sh (s : State) (r : Resp) (x : Nat) : (s.respond r).sh x = s.sh x := by unfold State.respond; split <;> rfl
@[simp] theorem State.respond_byte (s : State) (r : Resp) (x : Nat) : (s.respond r).byte x = s.byte x := by unfold State.respond; split <;> rfl
@[simp] theorem State.respond_abyte (s : State) (r : Resp) (x : Nat) : (s.respond r).abyte x = s.abyte x := by unfold State.respond; split <;> rfl
@[simp] theorem State.respond_fld (s : State) (r : Resp) (x : Nat) (g : Fld) : (s.respond r).fld x g = s.fld x g := by unfold State.respond; split <;> rfl
@[simp] theorem State.respond_flag (s : State) (r : Resp) (x : Nat) (g : Fld) : (s.respond r).flag x g = s.flag x g := by unfold State.respond; split <;> rfl
@[simp] theorem State.respond_rbit (s : State) (r : Resp) (x y z : Nat) : (s.respond r).rbit x y z = s.rbit x y z := by unfold State.respond; split <;> rfl
@[simp] theorem State.respond_now (s : State) (r : Resp)  : (s.respond r).now  = s.now  := by unfold State.respond; split <;> rfl
@[simp] theorem State.respond_slate (s : State) (r : Resp) (z : Fin 8) : (s.respond r).slate z = s.slate z := by unfold State.respond; split <;> rfl
@[simp] theorem State.respond_axis (s : State) (r : Resp) (z : Fin 64) : (s.respond r).axis z = s.axis z := by unfold State.respond; split <;> rfl
@[simp] theorem State.respond_eng (s : State) (r : Resp) (z : Fin 512) : (s.respond r).eng z = s.eng z := by unfold State.respond; split <;> rfl
@[simp] theorem State.respond_tooth (s : State) (r : Resp) (z : Fin 16) : (s.respond r).tooth z = s.tooth z := by unfold State.respond; split <;> rfl
@[simp] theorem State.respond_trunk (s : State) (r : Resp) (z : Fin 8) : (s.respond r).trunk z = s.trunk z := by unfold State.respond; split <;> rfl
@[simp] theorem State.errIf_pending (s : State) (c : Bool) (p b : Nat) : (s.errIf c p b).pending = s.pending := by unfold State.errIf; split <;> rfl
@[simp] theorem State.errIf_free (s : State) (c : Bool) (p b : Nat) : (s.errIf c p b).free = s.free := by unfold State.errIf; split <;> rfl
@[simp] theorem State.errIf_resp (s : State) (c : Bool) (p b : Nat) : (s.errIf c p b).resp = s.resp := by unfold State.errIf; split <;> rfl
@[simp] theorem State.errIf_dev (s : State) (c : Bool) (p b : Nat) : (s.errIf c p b).dev = s.dev := by unfold State.errIf; split <;> rfl
@[simp] theorem State.errIf_shadow (s : State) (c : Bool) (p b : Nat) : (s.errIf c p b).shadow = s.shadow := by unfold State.errIf; split <;> rfl
@[simp] theorem State.errIf_mem (s : State) (c : Bool) (p b : Nat) : (s.errIf c p b).mem = s.mem := by unfold State.errIf; split <;> rfl
@[simp] theorem State.errIf_amber (s : State) (c : Bool) (p b : Nat) : (s.errIf c p b).amber = s.amber := by unfold State.errIf; split <;> rfl
@[simp] theorem State.errIf_time (s : State) (c : Bool) (p b : Nat) : (s.errIf c p b).time = s.time := by unfold State.errIf; split <;> rfl
@[simp] theorem State.errIf_slates (s : State) (c : Bool) (p b : Nat) : (s.errIf c p b).slates = s.slates := by unfold State.errIf; split <;> rfl
@[simp] theorem State.errIf_axes (s : State) (c : Bool) (p b : Nat) : (s.errIf c p b).axes = s.axes := by unfold State.errIf; split <;> rfl
@[simp] theorem State.errIf_evlog (s : State) (c : Bool) (p b : Nat) : (s.errIf c p b).evlog = s.evlog := by unfold State.errIf; split <;> rfl
@[simp] theorem State.errIf_fsch (s : State) (c : Bool) (p b : Nat) : (s.errIf c p b).fsch = s.fsch := by unfold State.errIf; split <;> rfl
@[simp] theorem State.errIf_engines (s : State) (c : Bool) (p b : Nat) : (s.errIf c p b).engines = s.engines := by unfold State.errIf; split <;> rfl
@[simp] theorem State.errIf_replies (s : State) (c : Bool) (p b : Nat) : (s.errIf c p b).replies = s.replies := by unfold State.errIf; split <;> rfl
@[simp] theorem State.errIf_cleaning (s : State) (c : Bool) (p b : Nat) : (s.errIf c p b).cleaning = s.cleaning := by unfold State.errIf; split <;> rfl
@[simp] theorem State.errIf_msi (s : State) (c : Bool) (p b : Nat) : (s.errIf c p b).msi = s.msi := by unfold State.errIf; split <;> rfl
@[simp] theorem State.errIf_teeth (s : State) (c : Bool) (p b : Nat) : (s.errIf c p b).teeth = s.teeth := by unfold State.errIf; split <;> rfl
@[simp] theorem State.errIf_corrections (s : State) (c : Bool) (p b : Nat) : (s.errIf c p b).corrections = s.corrections := by unfold State.errIf; split <;> rfl
@[simp] theorem State.errIf_ecc (s : State) (c : Bool) (p b : Nat) : (s.errIf c p b).ecc = s.ecc := by unfold State.errIf; split <;> rfl
@[simp] theorem State.errIf_trunks (s : State) (c : Bool) (p b : Nat) : (s.errIf c p b).trunks = s.trunks := by unfold State.errIf; split <;> rfl
@[simp] theorem State.errIf_latches (s : State) (c : Bool) (p b : Nat) : (s.errIf c p b).latches = s.latches := by unfold State.errIf; split <;> rfl
@[simp] theorem State.errIf_net (s : State) (c : Bool) (p b : Nat) : (s.errIf c p b).net = s.net := by unfold State.errIf; split <;> rfl
@[simp] theorem State.errIf_track (s : State) (c : Bool) (p b : Nat) : (s.errIf c p b).track = s.track := by unfold State.errIf; split <;> rfl
@[simp] theorem State.errIf_safety (s : State) (c : Bool) (p b : Nat) : (s.errIf c p b).safety = s.safety := by unfold State.errIf; split <;> rfl
@[simp] theorem State.errIf_capture (s : State) (c : Bool) (p b : Nat) : (s.errIf c p b).capture = s.capture := by unfold State.errIf; split <;> rfl
@[simp] theorem State.errIf_fault (s : State) (c : Bool) (p b : Nat) : (s.errIf c p b).fault = s.fault := by unfold State.errIf; split <;> rfl
@[simp] theorem State.errIf_boot (s : State) (c : Bool) (p b : Nat) : (s.errIf c p b).boot = s.boot := by unfold State.errIf; split <;> rfl
@[simp] theorem State.errIf_power (s : State) (c : Bool) (p b : Nat) : (s.errIf c p b).power = s.power := by unfold State.errIf; split <;> rfl
@[simp] theorem State.errIf_mgmt (s : State) (c : Bool) (p b : Nat) : (s.errIf c p b).mgmt = s.mgmt := by unfold State.errIf; split <;> rfl
@[simp] theorem State.errIf_sh (s : State) (c : Bool) (p b : Nat) (x : Nat) : (s.errIf c p b).sh x = s.sh x := by unfold State.errIf; split <;> rfl
@[simp] theorem State.errIf_byte (s : State) (c : Bool) (p b : Nat) (x : Nat) : (s.errIf c p b).byte x = s.byte x := by unfold State.errIf; split <;> rfl
@[simp] theorem State.errIf_abyte (s : State) (c : Bool) (p b : Nat) (x : Nat) : (s.errIf c p b).abyte x = s.abyte x := by unfold State.errIf; split <;> rfl
@[simp] theorem State.errIf_now (s : State) (c : Bool) (p b : Nat)  : (s.errIf c p b).now  = s.now  := by unfold State.errIf; split <;> rfl
@[simp] theorem State.errIf_slate (s : State) (c : Bool) (p b : Nat) (z : Fin 8) : (s.errIf c p b).slate z = s.slate z := by unfold State.errIf; split <;> rfl
@[simp] theorem State.errIf_axis (s : State) (c : Bool) (p b : Nat) (z : Fin 64) : (s.errIf c p b).axis z = s.axis z := by unfold State.errIf; split <;> rfl
@[simp] theorem State.errIf_eng (s : State) (c : Bool) (p b : Nat) (z : Fin 512) : (s.errIf c p b).eng z = s.eng z := by unfold State.errIf; split <;> rfl
@[simp] theorem State.errIf_tooth (s : State) (c : Bool) (p b : Nat) (z : Fin 16) : (s.errIf c p b).tooth z = s.tooth z := by unfold State.errIf; split <;> rfl
@[simp] theorem State.errIf_trunk (s : State) (c : Bool) (p b : Nat) (z : Fin 8) : (s.errIf c p b).trunk z = s.trunk z := by unfold State.errIf; split <;> rfl

@[simp] theorem State.setTime_time (s : State) (f : TimeState → TimeState) : (s.setTime f).time = f s.time := id rfl
@[simp] theorem State.setNet_net (s : State) (f : NetState → NetState) : (s.setNet f).net = f s.net := id rfl
@[simp] theorem State.setTrack_track (s : State) (f : TrackState → TrackState) : (s.setTrack f).track = f s.track := id rfl
@[simp] theorem State.setSafety_safety (s : State) (f : SafetyState → SafetyState) : (s.setSafety f).safety = f s.safety := id rfl
@[simp] theorem State.setCap_capture (s : State) (f : CaptureState → CaptureState) : (s.setCap f).capture = f s.capture := id rfl
@[simp] theorem State.setBoot_boot (s : State) (f : AmberState → AmberState) : (s.setBoot f).boot = f s.boot := id rfl
@[simp] theorem State.setPower_power (s : State) (f : PowerState → PowerState) : (s.setPower f).power = f s.power := id rfl
@[simp] theorem State.setMgmt_mgmt (s : State) (f : MgmtState → MgmtState) : (s.setMgmt f).mgmt = f s.mgmt := id rfl
@[simp] theorem State.setFault_fault (s : State) (f : FaultState → FaultState) : (s.setFault f).fault = f s.fault := id rfl
@[simp] theorem State.setEvlog_evlog (s : State) (f : EventLog → EventLog) : (s.setEvlog f).evlog = f s.evlog := id rfl
@[simp] theorem State.setCleaning_cleaning (s : State) (l : List Res) : (s.setCleaning l).cleaning = l := id rfl
@[simp] theorem State.setReplies_replies (s : State) (l : List (Nat × List Word)) : (s.setReplies l).replies = l := id rfl
@[simp] theorem State.setCorrections_corrections (s : State) (l : List Correction) : (s.setCorrections l).corrections = l := id rfl
@[simp] theorem State.setEcc_ecc (s : State) (l : List (Nat × Bool)) : (s.setEcc l).ecc = l := id rfl
@[simp] theorem State.setMsi_msi (s : State) (m : Nat × Nat) : (s.setMsi m).msi = some m := id rfl

end Sys2Proof.Machine
end

