-- ==== Sys2Proof/Laws/Keeps.lean ====
section
/-! SUPPORT. What every command keeps: a property of the state that each of the machine's named setters keeps is kept by every
shared operation and by every command. `Closed` lists the setters; the other four structures list those of memory, of the
Amber array, of the boot record and fuses, and of Granite reset, asked only of the operations that use them. -/
namespace Sys2Proof.Machine
open Sys2Proof
set_option linter.all false

/-- `P s`, as a term that rewriting finds. -/
def Holds (P : State → Prop) (s : State) : Prop := P s

/-- The fuses of `b'` are those of `b`, or more are blown. -/
def FuseLe (b b' : AmberState) : Prop :=
  b.floor ≤ b'.floor ∧ b'.floor ≤ max b.floor 63 ∧ (∀ i, b.keys.testBit i → b'.keys.testBit i) ∧ (∀ i, b.revoked.testBit i → b'.revoked.testBit i)

structure Closed (P : State → Prop) : Prop where
  wr : ∀ s a v, P s → P (s.wr a v)
  setsh : ∀ s a v, P s → P (s.setsh a v)
  keepRegs : ∀ s p, P s → P (s.keepRegs p)
  draw : ∀ s, P s → P s.draw.2
  setSlate : ∀ s i f, P s → P (s.setSlate i f)
  setSlates : ∀ s f, P s → P (s.setSlates f)
  setAxis : ∀ s i f, P s → P (s.setAxis i f)
  setTime : ∀ s f, P s → P (s.setTime f)
  setEvlog : ∀ s f, P s → P (s.setEvlog f)
  setCorrections : ∀ s f, P s → P (s.setCorrections f)
  setEcc : ∀ s l, P s → P (s.setEcc l)
  setReplies : ∀ s f, P s → P (s.setReplies f)
  setCleaning : ∀ s f, P s → P (s.setCleaning f)
  setMsi : ∀ s f, P s → P (s.setMsi f)
  setFault : ∀ s f, P s → P (s.setFault f)
  respond : ∀ s r, P s → P (s.respond r)
  latch : ∀ s q a v, P s → P (s.latch q a v)
  setEng : ∀ s i f, P s → P (s.setEng i f)
  setTooth : ∀ s i f, P s → P (s.setTooth i f)
  setTrunk : ∀ s i f, P s → P (s.setTrunk i f)
  setFsch : ∀ s i c f, P s → P (s.setFsch i c f)
  setNet : ∀ s f, P s → P (s.setNet f)
  setTrack : ∀ s f, P s → P (s.setTrack f)
  setSafety : ∀ s f, P s → P (s.setSafety f)
  setCap : ∀ s f, P s → P (s.setCap f)
  setPower : ∀ s f, P s → P (s.setPower f)
  setMgmt : ∀ s f, P s → P (s.setMgmt f)

structure ClosedMem (P : State → Prop) : Prop where
  setByte : ∀ s a v, P s → P (s.setByte a v)
  clearMem : ∀ s a n, P s → P (s.clearMem a n)
  restoreTable : ∀ s, P s → P s.restoreTable

structure ClosedAmber (P : State → Prop) : Prop where
  setAbyte : ∀ s a v, P s → P (s.setAbyte a v)
  azero : ∀ s a n, P s → P (s.azero a n)
  saveTable : ∀ s, P s → P s.saveTable

structure ClosedBoot (P : State → Prop) : Prop where
  setBoot : ∀ s f, FuseLe s.boot (f s.boot) → P s → P (s.setBoot f)

structure ClosedReset (P : State → Prop) : Prop where
  afterReset : ∀ s held, P s → P (s.afterReset held)

variable {P : State → Prop}

@[simp] theorem forEach_keeps {α : Type} (l : List α) (s : State) (f : α → State → State) (h : Holds P s)
    (hf : ∀ x t, Holds P t → Holds P (f x t)) : Holds P (forEach l s f) := by
  unfold forEach
  induction l generalizing s with
  | nil => exact h
  | cons x l ih => exact ih (f x s) (hf x s h)
@[simp] theorem elim_keeps {α : Type} (o : Option α) (s : State) (f : α → State) (h : Holds P s) (hf : ∀ x, Holds P (f x)) :
    Holds P (o.elim s f) := by cases o <;> simp [h, hf]
@[simp] theorem State.when_keeps (s : State) (c : Bool) (f : State → State) (h : Holds P s) (hf : ∀ t, Holds P t → Holds P (f t)) :
    Holds P (s.when c f) := by unfold State.when; split <;> simp [h, hf]
@[simp] theorem ite_keeps (c : Prop) [Decidable c] (s t : State) : Holds P (if c then s else t) ↔ if c then Holds P s else Holds P t := by
  split <;> rfl
def Eff.Sat (P : State → Prop) : Eff → Prop
  | .done u => Holds P u
  | .stall _ u => Holds P u
  | _ => True
theorem foldl_keeps {α β : Type} (l : List β) (f : α → β → α) (g : α → State) (r : α) (h : Holds P (g r)) (hf : ∀ r x, Holds P (g r) → Holds P (g (f r x))) :
    Holds P (g (l.foldl f r)) := by
  induction l generalizing r with
  | nil => exact h
  | cons x l ih => exact ih _ (hf _ _ h)
@[simp] theorem State.setBoot_keeps (s : State) (f : AmberState → AmberState) (HB : ClosedBoot P) (h : Holds P s) (hf : FuseLe s.boot (f s.boot)) : Holds P (s.setBoot f) := HB.setBoot s f hf h
@[simp] theorem FuseLe.refl (b : AmberState) : FuseLe b b := ⟨Nat.le_refl _, Nat.le_max_left _ _, fun _ h => h, fun _ h => h⟩
theorem AmberState.writeRecord_keeps (b : AmberState) (r : BootRec) : (b.writeRecord r).floor = b.floor ∧ (b.writeRecord r).keys = b.keys ∧ (b.writeRecord r).revoked = b.revoked := by
  unfold AmberState.writeRecord; dsimp only; split <;> simp
theorem fuseSame_keeps (b b' : AmberState) (h : b'.floor = b.floor ∧ b'.keys = b.keys ∧ b'.revoked = b.revoked) : FuseLe b b' := by
  obtain ⟨h1, h2, h3⟩ := h
  exact ⟨h1 ▸ Nat.le_refl _, h1 ▸ Nat.le_max_left _ _, fun _ h => h2 ▸ h, fun _ h => h3 ▸ h⟩
theorem State.bootSame_keeps (s : State) (f : AmberState → AmberState) (HB : ClosedBoot P) (h : Holds P s)
    (hf : (f s.boot).floor = s.boot.floor ∧ (f s.boot).keys = s.boot.keys ∧ (f s.boot).revoked = s.boot.revoked) : Holds P (s.setBoot f) :=
  State.setBoot_keeps _ _ HB h (fuseSame_keeps _ _ hf)
theorem ite_holds {c : Prop} [Decidable c] {a b : State} (ha : Holds P a) (hb : Holds P b) : Holds P (if c then a else b) := by split <;> assumption
@[simp] theorem State.wr_keeps (s : State) (a v : Nat) (H : Closed P) (h : Holds P s) : Holds P (s.wr a v) := H.wr s a v h
@[simp] theorem State.keepRegs_keeps (s : State) (p : Nat → Bool) (H : Closed P) (h : Holds P s) : Holds P (s.keepRegs p) := H.keepRegs s p h
@[simp] theorem State.setf_keeps (s : State) (p : Nat) (f : Fld) (v : Nat) (H : Closed P) (h_ : Holds P s) : Holds P (State.setf s p f v) := by
  unfold State.setf; repeat' (first | (simp +contextual (maxDischargeDepth := 60) [*]; done) | split | (dsimp only; split) | (simp +contextual (maxDischargeDepth := 60) [*]; split))
@[simp] theorem State.setb_keeps (s : State) (p : Nat) (f : Fld) (b : Bool) (H : Closed P) (h_ : Holds P s) : Holds P (State.setb s p f b) := by
  unfold State.setb; repeat' (first | (simp +contextual (maxDischargeDepth := 60) [*]; done) | split | (dsimp only; split) | (simp +contextual (maxDischargeDepth := 60) [*]; split))
@[simp] theorem State.setbit_keeps (s : State) (p o b : Nat) (v : Bool) (H : Closed P) (h_ : Holds P s) : Holds P (State.setbit s p o b v) := by
  unfold State.setbit; repeat' (first | (simp +contextual (maxDischargeDepth := 60) [*]; done) | split | (dsimp only; split) | (simp +contextual (maxDischargeDepth := 60) [*]; split))
@[simp] theorem State.wr64_keeps (s : State) (p o v : Nat) (H : Closed P) (h_ : Holds P s) : Holds P (State.wr64 s p o v) := by
  unfold State.wr64; repeat' (first | (simp +contextual (maxDischargeDepth := 60) [*]; done) | split | (dsimp only; split) | (simp +contextual (maxDischargeDepth := 60) [*]; split))
@[simp] theorem State.inc_keeps (s : State) (p : Nat) (f : Fld) (H : Closed P) (h_ : Holds P s) : Holds P (State.inc s p f) := by
  unfold State.inc; repeat' (first | (simp +contextual (maxDischargeDepth := 60) [*]; done) | split | (dsimp only; split) | (simp +contextual (maxDischargeDepth := 60) [*]; split))
@[simp] theorem State.incw_keeps (s : State) (p o : Nat) (H : Closed P) (h_ : Holds P s) : Holds P (State.incw s p o) := by
  unfold State.incw; repeat' (first | (simp +contextual (maxDischargeDepth := 60) [*]; done) | split | (dsimp only; split) | (simp +contextual (maxDischargeDepth := 60) [*]; split))
@[simp] theorem State.incs_keeps (s : State) (p o : Nat) (H : Closed P) (h_ : Holds P s) : Holds P (State.incs s p o) := by
  unfold State.incs; repeat' (first | (simp +contextual (maxDischargeDepth := 60) [*]; done) | split | (dsimp only; split) | (simp +contextual (maxDischargeDepth := 60) [*]; split))
@[simp] theorem State.err_keeps (s : State) (p b : Nat) (H : Closed P) (h_ : Holds P s) : Holds P (State.err s p b) := by
  unfold State.err; repeat' (first | (simp +contextual (maxDischargeDepth := 60) [*]; done) | split | (dsimp only; split) | (simp +contextual (maxDischargeDepth := 60) [*]; split))
@[simp] theorem State.errIf_keeps (s : State) (c : Bool) (p b : Nat) (H : Closed P) (h_ : Holds P s) : Holds P (State.errIf s c p b) := by
  unfold State.errIf; repeat' (first | (simp +contextual (maxDischargeDepth := 60) [*]; done) | split | (dsimp only; split) | (simp +contextual (maxDischargeDepth := 60) [*]; split))
@[simp] theorem State.lockedWr_keeps (s : State) (H : Closed P) (h_ : Holds P s) : Holds P (State.lockedWr s) := by
  unfold State.lockedWr; repeat' (first | (simp +contextual (maxDischargeDepth := 60) [*]; done) | split | (dsimp only; split) | (simp +contextual (maxDischargeDepth := 60) [*]; split))
@[simp] theorem State.unlessLocked_keeps (s : State) (f : State → State) (H : Closed P) (h : Holds P s) (hf : ∀ t, Holds P t → Holds P (f t)) :
    Holds P (s.unlessLocked f) := by unfold State.unlessLocked; split <;> simp [*]
@[simp] theorem State.setsh_keeps (s : State) (a v : Nat) (H : Closed P) (h : Holds P s) : Holds P (s.setsh a v) := H.setsh s a v h
@[simp] theorem State.setByte_keeps (s : State) (a : Nat) (v : Byte) (HM : ClosedMem P) (h : Holds P s) : Holds P (s.setByte a v) := HM.setByte s a v h
@[simp] theorem State.clearMem_keeps (s : State) (a n : Nat) (HM : ClosedMem P) (h : Holds P s) : Holds P (s.clearMem a n) := HM.clearMem s a n h
@[simp] theorem State.setEcc_keeps (s : State) (l : List (Nat × Bool)) (H : Closed P) (h : Holds P s) : Holds P (s.setEcc l) := H.setEcc s l h
@[simp] theorem State.store_keeps (s : State) (a : Nat) (y0 : Nat) (y1 : Nat) (H : Closed P) (HM : ClosedMem P) (h_ : Holds P s) : Holds P (State.store s a y0 y1) := by
  fun_induction State.store s a y0 y1 <;> (first | (simp_all; done) | (repeat' (first | (simp_all; done) | split)))
@[simp] theorem State.setAbyte_keeps (s : State) (a : Nat) (v : Byte) (HA : ClosedAmber P) (h : Holds P s) : Holds P (s.setAbyte a v) := HA.setAbyte s a v h
@[simp] theorem State.azero_keeps (s : State) (a n : Nat) (HA : ClosedAmber P) (h : Holds P s) : Holds P (s.azero a n) := HA.azero s a n h
@[simp] theorem State.astore_keeps (s : State) (a : Nat) (y0 : Nat) (y1 : Nat) (H : Closed P) (HA : ClosedAmber P) (h_ : Holds P s) : Holds P (State.astore s a y0 y1) := by
  fun_induction State.astore s a y0 y1 <;> (first | (simp_all; done) | (repeat' (first | (simp_all; done) | split)))
@[simp] theorem State.draw_keeps (s : State) (H : Closed P) (h : Holds P s) : Holds P s.draw.2 := H.draw s h
@[simp] theorem State.setSlate_keeps (s : State) (i : Fin 8) (f : SlateState → SlateState) (H : Closed P) (h : Holds P s) : Holds P (s.setSlate i f) := H.setSlate s i f h
@[simp] theorem State.setAxis_keeps (s : State) (i : Fin 64) (f : AxisState → AxisState) (H : Closed P) (h : Holds P s) : Holds P (s.setAxis i f) := H.setAxis s i f h
@[simp] theorem State.setPwm_keeps (s : State) (a : Fin 64) (f : PwmAxis → PwmAxis) (H : Closed P) (h_ : Holds P s) : Holds P (State.setPwm s a f) := by
  unfold State.setPwm; repeat' (first | (simp +contextual (maxDischargeDepth := 60) [*]; done) | split | (dsimp only; split) | (simp +contextual (maxDischargeDepth := 60) [*]; split))
@[simp] theorem State.setFb_keeps (s : State) (a : Fin 64) (f : FbPort → FbPort) (H : Closed P) (h_ : Holds P s) : Holds P (State.setFb s a f) := by
  unfold State.setFb; repeat' (first | (simp +contextual (maxDischargeDepth := 60) [*]; done) | split | (dsimp only; split) | (simp +contextual (maxDischargeDepth := 60) [*]; split))
@[simp] theorem State.setLink_keeps (s : State) (i : Fin 8) (f : LinkState → LinkState) (H : Closed P) (h_ : Holds P s) : Holds P (State.setLink s i f) := by
  unfold State.setLink; repeat' (first | (simp +contextual (maxDischargeDepth := 60) [*]; done) | split | (dsimp only; split) | (simp +contextual (maxDischargeDepth := 60) [*]; split))
@[simp] theorem State.setSlates_keeps (s : State) (f : SlateState → SlateState) (H : Closed P) (h : Holds P s) : Holds P (s.setSlates f) := H.setSlates s f h
@[simp] theorem State.setEvlog_keeps (s : State) (f : EventLog → EventLog) (H : Closed P) (h : Holds P s) : Holds P (s.setEvlog f) := H.setEvlog s f h
@[simp] theorem State.setCorrections_keeps (s : State) (f : List Correction) (H : Closed P) (h : Holds P s) : Holds P (s.setCorrections f) := H.setCorrections s f h
@[simp] theorem State.setReplies_keeps (s : State) (f : List (Nat × List Word)) (H : Closed P) (h : Holds P s) : Holds P (s.setReplies f) := H.setReplies s f h
@[simp] theorem State.setCleaning_keeps (s : State) (f : List Res) (H : Closed P) (h : Holds P s) : Holds P (s.setCleaning f) := H.setCleaning s f h
@[simp] theorem State.setMsi_keeps (s : State) (f : Nat × Nat) (H : Closed P) (h : Holds P s) : Holds P (s.setMsi f) := H.setMsi s f h
@[simp] theorem State.setTrack_keeps (s : State) (f : TrackState → TrackState) (H : Closed P) (h : Holds P s) : Holds P (s.setTrack f) := H.setTrack s f h
@[simp] theorem State.setFault_keeps (s : State) (f : FaultState → FaultState) (H : Closed P) (h : Holds P s) : Holds P (s.setFault f) := H.setFault s f h
@[simp] theorem State.setTime_keeps (s : State) (f : TimeState → TimeState) (H : Closed P) (h : Holds P s) : Holds P (s.setTime f) := H.setTime s f h
@[simp] theorem State.tickOn_keeps (s : State) (H : Closed P) (h_ : Holds P s) : Holds P (State.tickOn s) := by
  unfold State.tickOn; repeat' (first | (simp +contextual (maxDischargeDepth := 60) [*]; done) | split | (dsimp only; split) | (simp +contextual (maxDischargeDepth := 60) [*]; split))
@[simp] theorem State.respond_keeps (s : State) (r : Resp) (H : Closed P) (h : Holds P s) : Holds P (s.respond r) := H.respond s r h
@[simp] theorem State.answer_keeps (s : State) (q a v : Nat) (H : Closed P) (h_ : Holds P s) : Holds P (State.answer s q a v) := by
  unfold State.answer; repeat' (first | (simp +contextual (maxDischargeDepth := 60) [*]; done) | split | (dsimp only; split) | (simp +contextual (maxDischargeDepth := 60) [*]; split))
@[simp] theorem State.deny_keeps (s : State) (q a : Nat) (H : Closed P) (h_ : Holds P s) : Holds P (State.deny s q a) := by
  unfold State.deny; repeat' (first | (simp +contextual (maxDischargeDepth := 60) [*]; done) | split | (dsimp only; split) | (simp +contextual (maxDischargeDepth := 60) [*]; split))
@[simp] theorem State.latch_keeps (s : State) (q a v : Nat) (H : Closed P) (h : Holds P s) : Holds P (s.latch q a v) := H.latch s q a v h
@[simp] theorem State.cutCommits_keeps (s : State) (i : Fin 8) (H : Closed P) (h_ : Holds P s) : Holds P (State.cutCommits s i) := by
  unfold State.cutCommits; repeat' (first | (simp +contextual (maxDischargeDepth := 60) [*]; done) | split | (dsimp only; split) | (simp +contextual (maxDischargeDepth := 60) [*]; split))
@[simp] theorem State.netUnlock_keeps (s : State) (why : Nat) (H : Closed P) (h_ : Holds P s) : Holds P (State.netUnlock s why) := by
  unfold State.netUnlock; repeat' (first | (simp +contextual (maxDischargeDepth := 60) [*]; done) | split | (dsimp only; split) | (simp +contextual (maxDischargeDepth := 60) [*]; split))
@[simp] theorem State.r49_keeps (s : State) (why : Nat) (H : Closed P) (h_ : Holds P s) : Holds P (State.r49 s why) := by
  unfold State.r49; repeat' (first | (simp +contextual (maxDischargeDepth := 60) [*]; done) | split | (dsimp only; split) | (simp +contextual (maxDischargeDepth := 60) [*]; split))
@[simp] theorem State.startHold_keeps (s : State) (ofs : Nat) (H : Closed P) (h_ : Holds P s) : Holds P (State.startHold s ofs) := by
  unfold State.startHold; repeat' (first | (simp +contextual (maxDischargeDepth := 60) [*]; done) | split | (dsimp only; split) | (simp +contextual (maxDischargeDepth := 60) [*]; split))
@[simp] theorem State.measOfs_keeps (s : State) (v : Word) (H : Closed P) (h_ : Holds P s) : Holds P (State.measOfs s v) := by
  unfold State.measOfs; repeat' (first | (simp +contextual (maxDischargeDepth := 60) [*]; done) | split | (dsimp only; split) | (simp +contextual (maxDischargeDepth := 60) [*]; split))
theorem execTimeMeasOfs_keeps (v : Word) (s : State) (t_ : State) (H : Closed P) (h_ : Holds P s) (e_ : execTimeMeasOfs v s = .next t_) : Holds P t_ := by
  simp only [execTimeMeasOfs, Host.Outcome.next.injEq] at e_; subst e_; repeat' (first | (simp +contextual (maxDischargeDepth := 60) [*]; done) | split | (dsimp only; split) | (simp +contextual (maxDischargeDepth := 60) [*]; split))
theorem execNetHoldoverExpiry_keeps (s : State) (t_ : State) (H : Closed P) (h_ : Holds P s) (e_ : execNetHoldoverExpiry s = .next t_) : Holds P t_ := by
  simp only [execNetHoldoverExpiry, Host.Outcome.next.injEq] at e_; subst e_; repeat' (first | (simp +contextual (maxDischargeDepth := 60) [*]; done) | split | (dsimp only; split) | (simp +contextual (maxDischargeDepth := 60) [*]; split))
@[simp] theorem State.setMaster_keeps (s : State) (on : Bool) (H : Closed P) (h_ : Holds P s) : Holds P (State.setMaster s on) := by
  unfold State.setMaster; repeat' (first | (simp +contextual (maxDischargeDepth := 60) [*]; done) | split | (dsimp only; split) | (simp +contextual (maxDischargeDepth := 60) [*]; split))
theorem execNetMaster_keeps (on : Bool) (s : State) (t_ : State) (H : Closed P) (h_ : Holds P s) (e_ : execNetMaster on s = .next t_) : Holds P t_ := by
  simp only [execNetMaster, Host.Outcome.next.injEq] at e_; subst e_; repeat' (first | (simp +contextual (maxDischargeDepth := 60) [*]; done) | split | (dsimp only; split) | (simp +contextual (maxDischargeDepth := 60) [*]; split))
@[simp] theorem State.setRefOk_keeps (s : State) (cab ok : Bool) (H : Closed P) (h_ : Holds P s) : Holds P (State.setRefOk s cab ok) := by
  unfold State.setRefOk; repeat' (first | (simp +contextual (maxDischargeDepth := 60) [*]; done) | split | (dsimp only; split) | (simp +contextual (maxDischargeDepth := 60) [*]; split))
@[simp] theorem State.refChange_keeps (s : State) (cab : Bool) (H : Closed P) (h_ : Holds P s) : Holds P (State.refChange s cab) := by
  unfold State.refChange; repeat' (first | (simp +contextual (maxDischargeDepth := 60) [*]; done) | split | (dsimp only; split) | (simp +contextual (maxDischargeDepth := 60) [*]; split))
@[simp] theorem State.selectRef_keeps (s : State) (v : BitVec 2) (H : Closed P) (h_ : Holds P s) : Holds P (State.selectRef s v) := by
  unfold State.selectRef; repeat' (first | (simp +contextual (maxDischargeDepth := 60) [*]; done) | split | (dsimp only; split) | (simp +contextual (maxDischargeDepth := 60) [*]; split))
theorem execRefSel_keeps (v : BitVec 2) (s : State) (t_ : State) (H : Closed P) (h_ : Holds P s) (e_ : execRefSel v s = .next t_) : Holds P t_ := by
  simp only [execRefSel, Host.Outcome.next.injEq] at e_; subst e_; repeat' (first | (simp +contextual (maxDischargeDepth := 60) [*]; done) | split | (dsimp only; split) | (simp +contextual (maxDischargeDepth := 60) [*]; split))
theorem execRefclkLoss_keeps (cab : Bool) (s : State) (t_ : State) (H : Closed P) (h_ : Holds P s) (e_ : execRefclkLoss cab s = .next t_) : Holds P t_ := by
  simp only [execRefclkLoss, Host.Outcome.next.injEq] at e_; subst e_; repeat' (first | (simp +contextual (maxDischargeDepth := 60) [*]; done) | split | (dsimp only; split) | (simp +contextual (maxDischargeDepth := 60) [*]; split))
@[simp] theorem State.inactiveLoss_keeps (s : State) (cab absent : Bool) (H : Closed P) (h_ : Holds P s) : Holds P (State.inactiveLoss s cab absent) := by
  unfold State.inactiveLoss; repeat' (first | (simp +contextual (maxDischargeDepth := 60) [*]; done) | split | (dsimp only; split) | (simp +contextual (maxDischargeDepth := 60) [*]; split))
theorem execInactiveRefLoss_keeps (cab absent : Bool) (s : State) (t_ : State) (H : Closed P) (h_ : Holds P s) (e_ : execInactiveRefLoss cab absent s = .next t_) : Holds P t_ := by
  simp only [execInactiveRefLoss, Host.Outcome.next.injEq] at e_; subst e_; repeat' (first | (simp +contextual (maxDischargeDepth := 60) [*]; done) | split | (dsimp only; split) | (simp +contextual (maxDischargeDepth := 60) [*]; split))
theorem execRefclkRecovery_keeps (cab : Bool) (s : State) (t_ : State) (H : Closed P) (h_ : Holds P s) (e_ : execRefclkRecovery cab s = .next t_) : Holds P t_ := by
  simp only [execRefclkRecovery, Host.Outcome.next.injEq] at e_; subst e_; repeat' (first | (simp +contextual (maxDischargeDepth := 60) [*]; done) | split | (dsimp only; split) | (simp +contextual (maxDischargeDepth := 60) [*]; split))
theorem execAltDevMeasure_keeps (ppm : Int) (s : State) (t_ : State) (H : Closed P) (h_ : Holds P s) (e_ : execAltDevMeasure ppm s = .next t_) : Holds P t_ := by
  simp only [execAltDevMeasure, Host.Outcome.next.injEq] at e_; subst e_; repeat' (first | (simp +contextual (maxDischargeDepth := 60) [*]; done) | split | (dsimp only; split) | (simp +contextual (maxDischargeDepth := 60) [*]; split))
@[simp] theorem State.setLatch_keeps (s : State) (q : Fin 514) (f : TimeLatch → TimeLatch) (H : Closed P) (h_ : Holds P s) : Holds P (State.setLatch s q f) := by
  unfold State.setLatch; repeat' (first | (simp +contextual (maxDischargeDepth := 60) [*]; done) | split | (dsimp only; split) | (simp +contextual (maxDischargeDepth := 60) [*]; split))
@[simp] theorem State.readTickLo_keeps (s : State) (q : Fin 514) (H : Closed P) (h_ : Holds P s) : Holds P (State.readTickLo s q) := by
  unfold State.readTickLo; repeat' (first | (simp +contextual (maxDischargeDepth := 60) [*]; done) | split | (dsimp only; split) | (simp +contextual (maxDischargeDepth := 60) [*]; split))
theorem execTimeTickLo_keeps (q : Fin 514) (s : State) (t_ : State) (H : Closed P) (h_ : Holds P s) (e_ : execTimeTickLo q s = .next t_) : Holds P t_ := by
  simp only [execTimeTickLo, Host.Outcome.next.injEq] at e_; subst e_; repeat' (first | (simp +contextual (maxDischargeDepth := 60) [*]; done) | split | (dsimp only; split) | (simp +contextual (maxDischargeDepth := 60) [*]; split))
@[simp] theorem State.readSubns_keeps (s : State) (q : Fin 514) (H : Closed P) (h_ : Holds P s) : Holds P (State.readSubns s q) := by
  unfold State.readSubns; repeat' (first | (simp +contextual (maxDischargeDepth := 60) [*]; done) | split | (dsimp only; split) | (simp +contextual (maxDischargeDepth := 60) [*]; split))
theorem execTimeSubns_keeps (q : Fin 514) (s : State) (t_ : State) (H : Closed P) (h_ : Holds P s) (e_ : execTimeSubns q s = .next t_) : Holds P t_ := by
  simp only [execTimeSubns, Host.Outcome.next.injEq] at e_; subst e_; repeat' (first | (simp +contextual (maxDischargeDepth := 60) [*]; done) | split | (dsimp only; split) | (simp +contextual (maxDischargeDepth := 60) [*]; split))
@[simp] theorem State.writeCmtCtrl_keeps (s : State) (v : Nat) (H : Closed P) (h_ : Holds P s) : Holds P (State.writeCmtCtrl s v) := by
  unfold State.writeCmtCtrl; repeat' (first | (simp +contextual (maxDischargeDepth := 60) [*]; done) | split | (dsimp only; split) | (simp +contextual (maxDischargeDepth := 60) [*]; split))
theorem execTimeCmtGo_keeps (v : Word) (s : State) (t_ : State) (H : Closed P) (h_ : Holds P s) (e_ : execTimeCmtGo v s = .next t_) : Holds P t_ := by
  simp only [execTimeCmtGo, Host.Outcome.next.injEq] at e_; subst e_; repeat' (first | (simp +contextual (maxDischargeDepth := 60) [*]; done) | split | (dsimp only; split) | (simp +contextual (maxDischargeDepth := 60) [*]; split))
@[simp] theorem State.writeStage_keeps (s : State) (r v : Nat) (H : Closed P) (h_ : Holds P s) : Holds P (State.writeStage s r v) := by
  unfold State.writeStage; repeat' (first | (simp +contextual (maxDischargeDepth := 60) [*]; done) | split | (dsimp only; split) | (simp +contextual (maxDischargeDepth := 60) [*]; split))
theorem execTimeStageWrite_keeps (r : Fin 10) (v : Word) (s : State) (t_ : State) (H : Closed P) (h_ : Holds P s) (e_ : execTimeStageWrite r v s = .next t_) : Holds P t_ := by
  simp only [execTimeStageWrite, Host.Outcome.next.injEq] at e_; subst e_; repeat' (first | (simp +contextual (maxDischargeDepth := 60) [*]; done) | split | (dsimp only; split) | (simp +contextual (maxDischargeDepth := 60) [*]; split))
@[simp] theorem State.endCommit_keeps (s : State) (H : Closed P) (h_ : Holds P s) : Holds P (State.endCommit s) := by
  unfold State.endCommit; repeat' (first | (simp +contextual (maxDischargeDepth := 60) [*]; done) | split | (dsimp only; split) | (simp +contextual (maxDischargeDepth := 60) [*]; split))
@[simp] theorem State.takeCommit_keeps (s : State) (tn : Nat) (H : Closed P) (h_ : Holds P s) : Holds P (State.takeCommit s tn) := by
  unfold State.takeCommit; repeat' (first | (simp +contextual (maxDischargeDepth := 60) [*]; done) | split | (dsimp only; split) | (simp +contextual (maxDischargeDepth := 60) [*]; split))
theorem execCommitTakeEffect_keeps (s : State) (t_ : State) (H : Closed P) (h_ : Holds P s) (e_ : execCommitTakeEffect s = .next t_) : Holds P t_ := by
  simp only [execCommitTakeEffect, Host.Outcome.next.injEq] at e_; subst e_; repeat' (first | (simp +contextual (maxDischargeDepth := 60) [*]; done) | split | (dsimp only; split) | (simp +contextual (maxDischargeDepth := 60) [*]; split))
@[simp] theorem State.pushEvent_keeps (s : State) (i : Fin 8) (ch : Nat) (level : Bool) (stamp : Nat) (H : Closed P) (h_ : Holds P s) : Holds P (State.pushEvent s i ch level stamp) := by
  unfold State.pushEvent; repeat' (first | (simp +contextual (maxDischargeDepth := 60) [*]; done) | split | (dsimp only; split) | (simp +contextual (maxDischargeDepth := 60) [*]; split))
@[simp] theorem State.timerTrig_keeps (s : State) (i : Fin 8) (code : Nat) (H : Closed P) (h_ : Holds P s) : Holds P (State.timerTrig s i code) := by
  unfold State.timerTrig; repeat' (first | (simp +contextual (maxDischargeDepth := 60) [*]; done) | split | (dsimp only; split) | (simp +contextual (maxDischargeDepth := 60) [*]; split))
theorem execTimerTrigger_keeps (s : Fin 8) (code : BitVec 8) (st : State) (t_ : State) (H : Closed P) (h_ : Holds P st) (e_ : execTimerTrigger s code st = .next t_) : Holds P t_ := by
  simp only [execTimerTrigger, Host.Outcome.next.injEq] at e_; subst e_; repeat' (first | (simp +contextual (maxDischargeDepth := 60) [*]; done) | split | (dsimp only; split) | (simp +contextual (maxDischargeDepth := 60) [*]; split))
theorem execTimerWindowOpen_keeps (s : Fin 8) (n : Fin 16) (st : State) (t_ : State) (H : Closed P) (h_ : Holds P st) (e_ : execTimerWindowOpen s n st = .next t_) : Holds P t_ := by
  simp only [execTimerWindowOpen, Host.Outcome.next.injEq] at e_; subst e_; repeat' (first | (simp +contextual (maxDischargeDepth := 60) [*]; done) | split | (dsimp only; split) | (simp +contextual (maxDischargeDepth := 60) [*]; split))
theorem execTimerWindowClose_keeps (s : Fin 8) (n : Fin 16) (st : State) (t_ : State) (H : Closed P) (h_ : Holds P st) (e_ : execTimerWindowClose s n st = .next t_) : Holds P t_ := by
  simp only [execTimerWindowClose, Host.Outcome.next.injEq] at e_; subst e_; repeat' (first | (simp +contextual (maxDischargeDepth := 60) [*]; done) | split | (dsimp only; split) | (simp +contextual (maxDischargeDepth := 60) [*]; split))
@[simp] theorem State.setOut_keeps (s : State) (i : Fin 8) (k : Fin 49) (f : GateOut → GateOut) (H : Closed P) (h_ : Holds P s) : Holds P (State.setOut s i k f) := by
  unfold State.setOut; repeat' (first | (simp +contextual (maxDischargeDepth := 60) [*]; done) | split | (dsimp only; split) | (simp +contextual (maxDischargeDepth := 60) [*]; split))
@[simp] theorem State.refreshDesat_keeps (s : State) (a : Fin 64) (H : Closed P) (h_ : Holds P s) : Holds P (State.refreshDesat s a) := by
  unfold State.refreshDesat; repeat' (first | (simp +contextual (maxDischargeDepth := 60) [*]; done) | split | (dsimp only; split) | (simp +contextual (maxDischargeDepth := 60) [*]; split))
@[simp] theorem State.gateOn_keeps (s : State) (i : Fin 8) (k : Fin 49) (tap : Nat) (low : Bool) (H : Closed P) (h_ : Holds P s) : Holds P (State.gateOn s i k tap low) := by
  unfold State.gateOn; repeat' (first | (simp +contextual (maxDischargeDepth := 60) [*]; done) | split | (dsimp only; split) | (simp +contextual (maxDischargeDepth := 60) [*]; split))
@[simp] theorem State.gateOff_keeps (s : State) (i : Fin 8) (k : Fin 49) (tap : Nat) (H : Closed P) (h_ : Holds P s) : Holds P (State.gateOff s i k tap) := by
  unfold State.gateOff; repeat' (first | (simp +contextual (maxDischargeDepth := 60) [*]; done) | split | (dsimp only; split) | (simp +contextual (maxDischargeDepth := 60) [*]; split))
@[simp] theorem State.gateHold_keeps (s : State) (i : Fin 8) (k : Fin 49) (H : Closed P) (h_ : Holds P s) : Holds P (State.gateHold s i k) := by
  unfold State.gateHold; repeat' (first | (simp +contextual (maxDischargeDepth := 60) [*]; done) | split | (dsimp only; split) | (simp +contextual (maxDischargeDepth := 60) [*]; split))
theorem execGatePhaseAdvance_keeps (s : Fin 8) (i : Fin 49) (st : State) (t_ : State) (H : Closed P) (h_ : Holds P st) (e_ : execGatePhaseAdvance s i st = .next t_) : Holds P t_ := by
  simp only [execGatePhaseAdvance, Host.Outcome.next.injEq] at e_; subst e_; repeat' (first | (simp +contextual (maxDischargeDepth := 60) [*]; done) | split | (dsimp only; split) | (simp +contextual (maxDischargeDepth := 60) [*]; split))
theorem execTonTmo_keeps (s : Fin 8) (i : Fin 49) (st : State) (t_ : State) (H : Closed P) (h_ : Holds P st) (e_ : execTonTmo s i st = .next t_) : Holds P t_ := by
  simp only [execTonTmo, Host.Outcome.next.injEq] at e_; subst e_; repeat' (first | (simp +contextual (maxDischargeDepth := 60) [*]; done) | split | (dsimp only; split) | (simp +contextual (maxDischargeDepth := 60) [*]; split))
theorem execTurnOnRelease_keeps (s : Fin 8) (i : Fin 48) (st : State) (t_ : State) (H : Closed P) (h_ : Holds P st) (e_ : execTurnOnRelease s i st = .next t_) : Holds P t_ := by
  simp only [execTurnOnRelease, Host.Outcome.next.injEq] at e_; subst e_; repeat' (first | (simp +contextual (maxDischargeDepth := 60) [*]; done) | split | (dsimp only; split) | (simp +contextual (maxDischargeDepth := 60) [*]; split))
theorem execGlock_keeps (s : Fin 8) (i : Fin 48) (st : State) (t_ : State) (H : Closed P) (h_ : Holds P st) (e_ : execGlock s i st = .next t_) : Holds P t_ := by
  simp only [execGlock, Host.Outcome.next.injEq] at e_; subst e_; repeat' (first | (simp +contextual (maxDischargeDepth := 60) [*]; done) | split | (dsimp only; split) | (simp +contextual (maxDischargeDepth := 60) [*]; split))
theorem execVgdLockout_keeps (s : Fin 8) (enter : Bool) (st : State) (t_ : State) (H : Closed P) (h_ : Holds P st) (e_ : execVgdLockout s enter st = .next t_) : Holds P t_ := by
  simp only [execVgdLockout, Host.Outcome.next.injEq] at e_; subst e_; repeat' (first | (simp +contextual (maxDischargeDepth := 60) [*]; done) | split | (dsimp only; split) | (simp +contextual (maxDischargeDepth := 60) [*]; split))
theorem execVgdUvReport_keeps (s : Fin 8) (st : State) (t_ : State) (H : Closed P) (h_ : Holds P st) (e_ : execVgdUvReport s st = .next t_) : Holds P t_ := by
  simp only [execVgdUvReport, Host.Outcome.next.injEq] at e_; subst e_; repeat' (first | (simp +contextual (maxDischargeDepth := 60) [*]; done) | split | (dsimp only; split) | (simp +contextual (maxDischargeDepth := 60) [*]; split))
theorem execBstLockout_keeps (s : Fin 8) (k : Fin 24) (enter : Bool) (st : State) (t_ : State) (H : Closed P) (h_ : Holds P st) (e_ : execBstLockout s k enter st = .next t_) : Holds P t_ := by
  simp only [execBstLockout, Host.Outcome.next.injEq] at e_; subst e_; repeat' (first | (simp +contextual (maxDischargeDepth := 60) [*]; done) | split | (dsimp only; split) | (simp +contextual (maxDischargeDepth := 60) [*]; split))
theorem execOtShut_keeps (s : Fin 8) (enter : Bool) (st : State) (t_ : State) (H : Closed P) (h_ : Holds P st) (e_ : execOtShut s enter st = .next t_) : Holds P t_ := by
  simp only [execOtShut, Host.Outcome.next.injEq] at e_; subst e_; repeat' (first | (simp +contextual (maxDischargeDepth := 60) [*]; done) | split | (dsimp only; split) | (simp +contextual (maxDischargeDepth := 60) [*]; split))
theorem execDesatReport_keeps (s : Fin 8) (i : Fin 49) (on : Bool) (st : State) (t_ : State) (H : Closed P) (h_ : Holds P st) (e_ : execDesatReport s i on st = .next t_) : Holds P t_ := by
  simp only [execDesatReport, Host.Outcome.next.injEq] at e_; subst e_; repeat' (first | (simp +contextual (maxDischargeDepth := 60) [*]; done) | split | (dsimp only; split) | (simp +contextual (maxDischargeDepth := 60) [*]; split))
theorem execOcpAssert_keeps (s : Fin 8) (ph : Fin 25) (on : Bool) (st : State) (t_ : State) (H : Closed P) (h_ : Holds P st) (e_ : execOcpAssert s ph on st = .next t_) : Holds P t_ := by
  simp only [execOcpAssert, Host.Outcome.next.injEq] at e_; subst e_; repeat' (first | (simp +contextual (maxDischargeDepth := 60) [*]; done) | split | (dsimp only; split) | (simp +contextual (maxDischargeDepth := 60) [*]; split))
@[simp] theorem State.allOff_keeps (s : State) (a : Fin 64) (H : Closed P) (h_ : Holds P s) : Holds P (State.allOff s a) := by
  unfold State.allOff; repeat' (first | (simp +contextual (maxDischargeDepth := 60) [*]; done) | split | (dsimp only; split) | (simp +contextual (maxDischargeDepth := 60) [*]; split))
@[simp] theorem State.showCmp_keeps (s : State) (a : Fin 64) (k v : Nat) (tag : Option Nat) (H : Closed P) (h_ : Holds P s) : Holds P (State.showCmp s a k v tag) := by
  unfold State.showCmp; repeat' (first | (simp +contextual (maxDischargeDepth := 60) [*]; done) | split | (dsimp only; split) | (simp +contextual (maxDischargeDepth := 60) [*]; split))
@[simp] theorem State.loadInit_keeps (s : State) (a : Fin 64) (H : Closed P) (h_ : Holds P s) : Holds P (State.loadInit s a) := by
  unfold State.loadInit; repeat' (first | (simp +contextual (maxDischargeDepth := 60) [*]; done) | split | (dsimp only; split) | (simp +contextual (maxDischargeDepth := 60) [*]; split))
@[simp] theorem State.checkPermit_keeps (s : State) (a : Fin 64) (H : Closed P) (h_ : Holds P s) : Holds P (State.checkPermit s a) := by
  unfold State.checkPermit; repeat' (first | (simp +contextual (maxDischargeDepth := 60) [*]; done) | split | (dsimp only; split) | (simp +contextual (maxDischargeDepth := 60) [*]; split))
@[simp] theorem State.checkSlate_keeps (s : State) (i : Fin 8) (H : Closed P) (h_ : Holds P s) : Holds P (State.checkSlate s i) := by
  unfold State.checkSlate; repeat' (first | (simp +contextual (maxDischargeDepth := 60) [*]; done) | split | (dsimp only; split) | (simp +contextual (maxDischargeDepth := 60) [*]; split))
@[simp] theorem State.applyStaged_keeps (s : State) (i : Fin 8) (H : Closed P) (h_ : Holds P s) : Holds P (State.applyStaged s i) := by
  unfold State.applyStaged; repeat' (first | (simp +contextual (maxDischargeDepth := 60) [*]; done) | split | (dsimp only; split) | (simp +contextual (maxDischargeDepth := 60) [*]; split))
@[simp] theorem State.writeCarrierCtrl_keeps (s : State) (i : Fin 8) (v : Nat) (H : Closed P) (h_ : Holds P s) : Holds P (State.writeCarrierCtrl s i v) := by
  unfold State.writeCarrierCtrl; repeat' (first | (simp +contextual (maxDischargeDepth := 60) [*]; done) | split | (dsimp only; split) | (simp +contextual (maxDischargeDepth := 60) [*]; split))
theorem execCarrierRun_keeps (s : Fin 8) (v : BitVec 2) (st : State) (t_ : State) (H : Closed P) (h_ : Holds P st) (e_ : execCarrierRun s v st = .next t_) : Holds P t_ := by
  simp only [execCarrierRun, Host.Outcome.next.injEq] at e_; subst e_; repeat' (first | (simp +contextual (maxDischargeDepth := 60) [*]; done) | split | (dsimp only; split) | (simp +contextual (maxDischargeDepth := 60) [*]; split))
@[simp] theorem State.writeCarrierApply_keeps (s : State) (i : Fin 8) (v : Nat) (H : Closed P) (h_ : Holds P s) : Holds P (State.writeCarrierApply s i v) := by
  unfold State.writeCarrierApply; repeat' (first | (simp +contextual (maxDischargeDepth := 60) [*]; done) | split | (dsimp only; split) | (simp +contextual (maxDischargeDepth := 60) [*]; split))
theorem execCarrierApplyGo_keeps (s : Fin 8) (v : BitVec 2) (st : State) (t_ : State) (H : Closed P) (h_ : Holds P st) (e_ : execCarrierApplyGo s v st = .next t_) : Holds P t_ := by
  simp only [execCarrierApplyGo, Host.Outcome.next.injEq] at e_; subst e_; repeat' (first | (simp +contextual (maxDischargeDepth := 60) [*]; done) | split | (dsimp only; split) | (simp +contextual (maxDischargeDepth := 60) [*]; split))
@[simp] theorem State.carrierEdge_keeps (s : State) (i : Fin 8) (H : Closed P) (h_ : Holds P s) : Holds P (State.carrierEdge s i) := by
  unfold State.carrierEdge; repeat' (first | (simp +contextual (maxDischargeDepth := 60) [*]; done) | split | (dsimp only; split) | (simp +contextual (maxDischargeDepth := 60) [*]; split))
theorem execCarrierEdge_keeps (s : Fin 8) (st : State) (t_ : State) (H : Closed P) (h_ : Holds P st) (e_ : execCarrierEdge s st = .next t_) : Holds P t_ := by
  simp only [execCarrierEdge, Host.Outcome.next.injEq] at e_; subst e_; repeat' (first | (simp +contextual (maxDischargeDepth := 60) [*]; done) | split | (dsimp only; split) | (simp +contextual (maxDischargeDepth := 60) [*]; split))
@[simp] theorem State.trip_keeps (s : State) (a : Fin 64) (H : Closed P) (h_ : Holds P s) : Holds P (State.trip s a) := by
  unfold State.trip; repeat' (first | (simp +contextual (maxDischargeDepth := 60) [*]; done) | split | (dsimp only; split) | (simp +contextual (maxDischargeDepth := 60) [*]; split))
@[simp] theorem State.bootLows_keeps (s : State) (a : Fin 64) (on : Bool) (tap : Nat) (H : Closed P) (h_ : Holds P s) : Holds P (State.bootLows s a on tap) := by
  unfold State.bootLows; repeat' (first | (simp +contextual (maxDischargeDepth := 60) [*]; done) | split | (dsimp only; split) | (simp +contextual (maxDischargeDepth := 60) [*]; split))
@[simp] theorem State.startStep_keeps (s : State) (a : Fin 64) (tap : Nat) (H : Closed P) (h_ : Holds P s) : Holds P (State.startStep s a tap) := by
  unfold State.startStep; repeat' (first | (simp +contextual (maxDischargeDepth := 60) [*]; done) | split | (dsimp only; split) | (simp +contextual (maxDischargeDepth := 60) [*]; split))
@[simp] theorem State.endPeriod_keeps (s : State) (a : Fin 64) (H : Closed P) (h_ : Holds P s) : Holds P (State.endPeriod s a) := by
  unfold State.endPeriod; repeat' (first | (simp +contextual (maxDischargeDepth := 60) [*]; done) | split | (dsimp only; split) | (simp +contextual (maxDischargeDepth := 60) [*]; split))
@[simp] theorem State.axisEdge_keeps (s : State) (a : Fin 64) (H : Closed P) (h_ : Holds P s) : Holds P (State.axisEdge s a) := by
  unfold State.axisEdge; repeat' (first | split | (dsimp only; split))
  all_goals simp (maxDischargeDepth := 60) [*]
theorem execAxisEdge_keeps (a : Fin 64) (s : State) (t_ : State) (H : Closed P) (h_ : Holds P s) (e_ : execAxisEdge a s = .next t_) : Holds P t_ := by
  simp only [execAxisEdge, Host.Outcome.next.injEq] at e_; subst e_; repeat' (first | (simp +contextual (maxDischargeDepth := 60) [*]; done) | split | (dsimp only; split) | (simp +contextual (maxDischargeDepth := 60) [*]; split))
@[simp] theorem State.desatLatch_keeps (s : State) (a : Fin 64) (k : Fin 49) (H : Closed P) (h_ : Holds P s) : Holds P (State.desatLatch s a k) := by
  unfold State.desatLatch; repeat' (first | (simp +contextual (maxDischargeDepth := 60) [*]; done) | split | (dsimp only; split) | (simp +contextual (maxDischargeDepth := 60) [*]; split))
@[simp] theorem State.tripQualify_keeps (s : State) (a : Fin 64) (src : Fin 3) (H : Closed P) (h_ : Holds P s) : Holds P (State.tripQualify s a src) := by
  unfold State.tripQualify; repeat' (first | (simp +contextual (maxDischargeDepth := 60) [*]; done) | split | (dsimp only; split) | (simp +contextual (maxDischargeDepth := 60) [*]; split))
theorem execTripQualify_keeps (a : Fin 64) (src : Fin 3) (s : State) (t_ : State) (H : Closed P) (h_ : Holds P s) (e_ : execTripQualify a src s = .next t_) : Holds P t_ := by
  simp only [execTripQualify, Host.Outcome.next.injEq] at e_; subst e_; repeat' (first | (simp +contextual (maxDischargeDepth := 60) [*]; done) | split | (dsimp only; split) | (simp +contextual (maxDischargeDepth := 60) [*]; split))
@[simp] theorem State.dropLatch_keeps (s : State) (a : Fin 64) (H : Closed P) (h_ : Holds P s) : Holds P (State.dropLatch s a) := by
  unfold State.dropLatch; repeat' (first | (simp +contextual (maxDischargeDepth := 60) [*]; done) | split | (dsimp only; split) | (simp +contextual (maxDischargeDepth := 60) [*]; split))
@[simp] theorem State.clearLatch_keeps (s : State) (a : Fin 64) (H : Closed P) (h_ : Holds P s) : Holds P (State.clearLatch s a) := by
  unfold State.clearLatch; repeat' (first | (simp +contextual (maxDischargeDepth := 60) [*]; done) | split | (dsimp only; split) | (simp +contextual (maxDischargeDepth := 60) [*]; split))
theorem execTripLatchClear_keeps (a : Fin 64) (s : State) (t_ : State) (H : Closed P) (h_ : Holds P s) (e_ : execTripLatchClear a s = .next t_) : Holds P t_ := by
  simp only [execTripLatchClear, Host.Outcome.next.injEq] at e_; subst e_; repeat' (first | (simp +contextual (maxDischargeDepth := 60) [*]; done) | split | (dsimp only; split) | (simp +contextual (maxDischargeDepth := 60) [*]; split))
theorem execPrechargeEnd_keeps (a : Fin 64) (s : State) (t_ : State) (H : Closed P) (h_ : Holds P s) (e_ : execPrechargeEnd a s = .next t_) : Holds P t_ := by
  simp only [execPrechargeEnd, Host.Outcome.next.injEq] at e_; subst e_; repeat' (first | (simp +contextual (maxDischargeDepth := 60) [*]; done) | split | (dsimp only; split) | (simp +contextual (maxDischargeDepth := 60) [*]; split))
@[simp] theorem State.armStart_keeps (s : State) (a : Fin 64) (was en : Bool) (H : Closed P) (h_ : Holds P s) : Holds P (State.armStart s a was en) := by
  unfold State.armStart; repeat' (first | (simp +contextual (maxDischargeDepth := 60) [*]; done) | split | (dsimp only; split) | (simp +contextual (maxDischargeDepth := 60) [*]; split))
@[simp] theorem State.offHeld_keeps (s : State) (a : Fin 64) (H : Closed P) (h_ : Holds P s) : Holds P (State.offHeld s a) := by
  unfold State.offHeld; repeat' (first | (simp +contextual (maxDischargeDepth := 60) [*]; done) | split | (dsimp only; split) | (simp +contextual (maxDischargeDepth := 60) [*]; split))
@[simp] theorem State.writePwmCtrl_keeps (s : State) (a : Fin 64) (v : Nat) (H : Closed P) (h_ : Holds P s) : Holds P (State.writePwmCtrl s a v) := by
  unfold State.writePwmCtrl; repeat' (first | (simp +contextual (maxDischargeDepth := 60) [*]; done) | split | (dsimp only; split) | (simp +contextual (maxDischargeDepth := 60) [*]; split))
theorem execPwmEn_keeps (a : Fin 64) (v : BitVec 7) (s : State) (t_ : State) (H : Closed P) (h_ : Holds P s) (e_ : execPwmEn a v s = .next t_) : Holds P t_ := by
  simp only [execPwmEn, Host.Outcome.next.injEq] at e_; subst e_; repeat' (first | (simp +contextual (maxDischargeDepth := 60) [*]; done) | split | (dsimp only; split) | (simp +contextual (maxDischargeDepth := 60) [*]; split))
@[simp] theorem State.writePhase_keeps (s : State) (a : Fin 64) (v : Nat) (H : Closed P) (h_ : Holds P s) : Holds P (State.writePhase s a v) := by
  unfold State.writePhase; repeat' (first | (simp +contextual (maxDischargeDepth := 60) [*]; done) | split | (dsimp only; split) | (simp +contextual (maxDischargeDepth := 60) [*]; split))
theorem execPwmPhaseWrite_keeps (a : Fin 64) (v : BitVec 24) (s : State) (t_ : State) (H : Closed P) (h_ : Holds P s) (e_ : execPwmPhaseWrite a v s = .next t_) : Holds P t_ := by
  simp only [execPwmPhaseWrite, Host.Outcome.next.injEq] at e_; subst e_; repeat' (first | (simp +contextual (maxDischargeDepth := 60) [*]; done) | split | (dsimp only; split) | (simp +contextual (maxDischargeDepth := 60) [*]; split))
@[simp] theorem State.writeDt_keeps (s : State) (a : Fin 64) (v : Nat) (H : Closed P) (h_ : Holds P s) : Holds P (State.writeDt s a v) := by
  unfold State.writeDt; repeat' (first | (simp +contextual (maxDischargeDepth := 60) [*]; done) | split | (dsimp only; split) | (simp +contextual (maxDischargeDepth := 60) [*]; split))
@[simp] theorem State.writeMinon_keeps (s : State) (a : Fin 64) (v : Nat) (H : Closed P) (h_ : Holds P s) : Holds P (State.writeMinon s a v) := by
  unfold State.writeMinon; repeat' (first | (simp +contextual (maxDischargeDepth := 60) [*]; done) | split | (dsimp only; split) | (simp +contextual (maxDischargeDepth := 60) [*]; split))
@[simp] theorem State.loadSet_keeps (s : State) (a : Fin 64) (edge : Bool) (c : CmpSet) (H : Closed P) (h_ : Holds P s) : Holds P (State.loadSet s a edge c) := by
  unfold State.loadSet; repeat' (first | (simp +contextual (maxDischargeDepth := 60) [*]; done) | split | (dsimp only; split) | (simp +contextual (maxDischargeDepth := 60) [*]; split))
@[simp] theorem State.repeatSet_keeps (s : State) (a : Fin 64) (edge : Bool) (H : Closed P) (h_ : Holds P s) : Holds P (State.repeatSet s a edge) := by
  unfold State.repeatSet; repeat' (first | (simp +contextual (maxDischargeDepth := 60) [*]; done) | split | (dsimp only; split) | (simp +contextual (maxDischargeDepth := 60) [*]; split))
@[simp] theorem State.countLate_keeps (s : State) (a : Fin 64) (tag : Nat) (H : Closed P) (h_ : Holds P s) : Holds P (State.countLate s a tag) := by
  unfold State.countLate; repeat' (first | (simp +contextual (maxDischargeDepth := 60) [*]; done) | split | (dsimp only; split) | (simp +contextual (maxDischargeDepth := 60) [*]; split))
@[simp] theorem State.update_keeps (s : State) (a : Fin 64) (edge : Bool) (tap : Nat) (H : Closed P) (h_ : Holds P s) : Holds P (State.update s a edge tap) := by
  unfold State.update; repeat' (first | (simp +contextual (maxDischargeDepth := 60) [*]; done) | split | (dsimp only; split) | (simp +contextual (maxDischargeDepth := 60) [*]; split))
theorem execUpdateInstant_keeps (a : Fin 64) (s : State) (t_ : State) (H : Closed P) (h_ : Holds P s) (e_ : execUpdateInstant a s = .next t_) : Holds P t_ := by
  simp only [execUpdateInstant, Host.Outcome.next.injEq] at e_; subst e_; repeat' (first | (simp +contextual (maxDischargeDepth := 60) [*]; done) | split | (dsimp only; split) | (simp +contextual (maxDischargeDepth := 60) [*]; split))
@[simp] theorem State.hbEdge_keeps (s : State) (a : Fin 64) (k : Fin 3) (e : EdgeKind) (low : Bool) (H : Closed P) (h_ : Holds P s) : Holds P (State.hbEdge s a k e low) := by
  unfold State.hbEdge; repeat' (first | (simp +contextual (maxDischargeDepth := 60) [*]; done) | split | (dsimp only; split) | (simp +contextual (maxDischargeDepth := 60) [*]; split))
@[simp] theorem State.chopEdge_keeps (s : State) (i : Fin 8) (H : Closed P) (h_ : Holds P s) : Holds P (State.chopEdge s i) := by
  unfold State.chopEdge; repeat' (first | (simp +contextual (maxDischargeDepth := 60) [*]; done) | split | (dsimp only; split) | (simp +contextual (maxDischargeDepth := 60) [*]; split))
theorem execPwmEdge_keeps (t : PwmTarget) (e : EdgeKind) (otherLow : Bool) (s : State) (t_ : State) (H : Closed P) (h_ : Holds P s) (e_ : execPwmEdge t e otherLow s = .next t_) : Holds P t_ := by
  simp only [execPwmEdge, Host.Outcome.next.injEq] at e_; subst e_; repeat' (first | (simp +contextual (maxDischargeDepth := 60) [*]; done) | split | (dsimp only; split) | (simp +contextual (maxDischargeDepth := 60) [*]; split))
@[simp] theorem State.markPair_keeps (s : State) (i : Fin 8) (k : Nat) (H : Closed P) (h_ : Holds P s) : Holds P (State.markPair s i k) := by
  unfold State.markPair; repeat' (first | (simp +contextual (maxDischargeDepth := 60) [*]; done) | split | (dsimp only; split) | (simp +contextual (maxDischargeDepth := 60) [*]; split))
theorem execDelayLineSwap_keeps (s : Fin 8) (i : Fin 49) (delta : Int) (bad : Bool) (st : State) (t_ : State) (H : Closed P) (h_ : Holds P st) (e_ : execDelayLineSwap s i delta bad st = .next t_) : Holds P t_ := by
  simp only [execDelayLineSwap, Host.Outcome.next.injEq] at e_; subst e_; repeat' (first | (simp +contextual (maxDischargeDepth := 60) [*]; done) | split | (dsimp only; split) | (simp +contextual (maxDischargeDepth := 60) [*]; split))
theorem execCalDone_keeps (s : Fin 8) (bad : BitVec 49) (st : State) (t_ : State) (H : Closed P) (h_ : Holds P st) (e_ : execCalDone s bad st = .next t_) : Holds P t_ := by
  simp only [execCalDone, Host.Outcome.next.injEq] at e_; subst e_; repeat' (first | (simp +contextual (maxDischargeDepth := 60) [*]; done) | split | (dsimp only; split) | (simp +contextual (maxDischargeDepth := 60) [*]; split))
theorem execChopPeriodStart_keeps (s : Fin 8) (st : State) (t_ : State) (H : Closed P) (h_ : Holds P st) (e_ : execChopPeriodStart s st = .next t_) : Holds P t_ := by
  simp only [execChopPeriodStart, Host.Outcome.next.injEq] at e_; subst e_; repeat' (first | (simp +contextual (maxDischargeDepth := 60) [*]; done) | split | (dsimp only; split) | (simp +contextual (maxDischargeDepth := 60) [*]; split))
@[simp] theorem State.checkChop_keeps (s : State) (i : Fin 8) (H : Closed P) (h_ : Holds P s) : Holds P (State.checkChop s i) := by
  unfold State.checkChop; repeat' (first | (simp +contextual (maxDischargeDepth := 60) [*]; done) | split | (dsimp only; split) | (simp +contextual (maxDischargeDepth := 60) [*]; split))
theorem execChopTrip_keeps (s : Fin 8) (ocp : Bool) (st : State) (t_ : State) (H : Closed P) (h_ : Holds P st) (e_ : execChopTrip s ocp st = .next t_) : Holds P t_ := by
  simp only [execChopTrip, Host.Outcome.next.injEq] at e_; subst e_; repeat' (first | (simp +contextual (maxDischargeDepth := 60) [*]; done) | split | (dsimp only; split) | (simp +contextual (maxDischargeDepth := 60) [*]; split))
@[simp] theorem State.fbChanged_keeps (s : State) (a : Fin 64) (tick : Nat) (down : Bool) (H : Closed P) (h_ : Holds P s) : Holds P (State.fbChanged s a tick down) := by
  unfold State.fbChanged; repeat' (first | (simp +contextual (maxDischargeDepth := 60) [*]; done) | split | (dsimp only; split) | (simp +contextual (maxDischargeDepth := 60) [*]; split))
@[simp] theorem State.fbCount_keeps (s : State) (a : Fin 64) (n : Nat) (down : Bool) (t0 : Nat) (H : Closed P) (h_ : Holds P s) : Holds P (State.fbCount s a n down t0) := by
  unfold State.fbCount; repeat' (first | (simp +contextual (maxDischargeDepth := 60) [*]; done) | split | (dsimp only; split) | (simp +contextual (maxDischargeDepth := 60) [*]; split))
@[simp] theorem State.hallStart_keeps (s : State) (a : Fin 64) (lands : Nat) (H : Closed P) (h_ : Holds P s) : Holds P (State.hallStart s a lands) := by
  unfold State.hallStart; repeat' (first | (simp +contextual (maxDischargeDepth := 60) [*]; done) | split | (dsimp only; split) | (simp +contextual (maxDischargeDepth := 60) [*]; split))
@[simp] theorem State.hallStep_keeps (s : State) (a : Fin 64) (st i t0 : Nat) (H : Closed P) (h_ : Holds P s) : Holds P (State.hallStep s a st i t0) := by
  unfold State.hallStep; repeat' (first | (simp +contextual (maxDischargeDepth := 60) [*]; done) | split | (dsimp only; split) | (simp +contextual (maxDischargeDepth := 60) [*]; split))
@[simp] theorem State.hallChange_keeps (s : State) (a : Fin 64) (lands t0 : Nat) (H : Closed P) (h_ : Holds P s) : Holds P (State.hallChange s a lands t0) := by
  unfold State.hallChange; repeat' (first | (simp +contextual (maxDischargeDepth := 60) [*]; done) | split | (dsimp only; split) | (simp +contextual (maxDischargeDepth := 60) [*]; split))
theorem execHallChange_keeps (a : Fin 64) (lands : BitVec 3) (t0 : Nat) (s : State) (t_ : State) (H : Closed P) (h_ : Holds P s) (e_ : execHallChange a lands t0 s = .next t_) : Holds P t_ := by
  simp only [execHallChange, Host.Outcome.next.injEq] at e_; subst e_; repeat' (first | (simp +contextual (maxDischargeDepth := 60) [*]; done) | split | (dsimp only; split) | (simp +contextual (maxDischargeDepth := 60) [*]; split))
@[simp] theorem State.abzEdge_keeps (s : State) (a : Fin 64) (la lb : Bool) (t0 : Nat) (H : Closed P) (h_ : Holds P s) : Holds P (State.abzEdge s a la lb t0) := by
  unfold State.abzEdge; repeat' (first | (simp +contextual (maxDischargeDepth := 60) [*]; done) | split | (dsimp only; split) | (simp +contextual (maxDischargeDepth := 60) [*]; split))
theorem execAbzEdge_keeps (a : Fin 64) (la lb : Bool) (t0 : Nat) (s : State) (t_ : State) (H : Closed P) (h_ : Holds P s) (e_ : execAbzEdge a la lb t0 s = .next t_) : Holds P t_ := by
  simp only [execAbzEdge, Host.Outcome.next.injEq] at e_; subst e_; repeat' (first | (simp +contextual (maxDischargeDepth := 60) [*]; done) | split | (dsimp only; split) | (simp +contextual (maxDischargeDepth := 60) [*]; split))
@[simp] theorem State.idxMismatch_keeps (s : State) (a : Fin 64) (H : Closed P) (h_ : Holds P s) : Holds P (State.idxMismatch s a) := by
  unfold State.idxMismatch; repeat' (first | (simp +contextual (maxDischargeDepth := 60) [*]; done) | split | (dsimp only; split) | (simp +contextual (maxDischargeDepth := 60) [*]; split))
@[simp] theorem State.index_keeps (s : State) (a : Fin 64) (t0 : Nat) (H : Closed P) (h_ : Holds P s) : Holds P (State.index s a t0) := by
  unfold State.index; repeat' (first | (simp +contextual (maxDischargeDepth := 60) [*]; done) | split | (dsimp only; split) | (simp +contextual (maxDischargeDepth := 60) [*]; split))
theorem execIndex_keeps (a : Fin 64) (t0 : Nat) (s : State) (t_ : State) (H : Closed P) (h_ : Holds P s) (e_ : execIndex a t0 s = .next t_) : Holds P t_ := by
  simp only [execIndex, Host.Outcome.next.injEq] at e_; subst e_; repeat' (first | (simp +contextual (maxDischargeDepth := 60) [*]; done) | split | (dsimp only; split) | (simp +contextual (maxDischargeDepth := 60) [*]; split))
@[simp] theorem State.writeFbCtrl_keeps (s : State) (a : Fin 64) (v lands : Nat) (H : Closed P) (h_ : Holds P s) : Holds P (State.writeFbCtrl s a v lands) := by
  unfold State.writeFbCtrl; repeat' (first | (simp +contextual (maxDischargeDepth := 60) [*]; done) | split | (dsimp only; split) | (simp +contextual (maxDischargeDepth := 60) [*]; split))
theorem execFbModeWrite_keeps (a : Fin 64) (v : BitVec 28) (lands : BitVec 5) (s : State) (t_ : State) (H : Closed P) (h_ : Holds P s) (e_ : execFbModeWrite a v lands s = .next t_) : Holds P t_ := by
  simp only [execFbModeWrite, Host.Outcome.next.injEq] at e_; subst e_; repeat' (first | (simp +contextual (maxDischargeDepth := 60) [*]; done) | split | (dsimp only; split) | (simp +contextual (maxDischargeDepth := 60) [*]; split))
@[simp] theorem State.writeFbWrap_keeps (s : State) (a : Fin 64) (v : Nat) (H : Closed P) (h_ : Holds P s) : Holds P (State.writeFbWrap s a v) := by
  unfold State.writeFbWrap; repeat' (first | (simp +contextual (maxDischargeDepth := 60) [*]; done) | split | (dsimp only; split) | (simp +contextual (maxDischargeDepth := 60) [*]; split))
theorem execFbWrapWrite_keeps (a : Fin 64) (v : Word) (s : State) (t_ : State) (H : Closed P) (h_ : Holds P s) (e_ : execFbWrapWrite a v s = .next t_) : Holds P t_ := by
  simp only [execFbWrapWrite, Host.Outcome.next.injEq] at e_; subst e_; repeat' (first | (simp +contextual (maxDischargeDepth := 60) [*]; done) | split | (dsimp only; split) | (simp +contextual (maxDischargeDepth := 60) [*]; split))
@[simp] theorem State.fbPreset_keeps (s : State) (a : Fin 64) (H : Closed P) (h_ : Holds P s) : Holds P (State.fbPreset s a) := by
  unfold State.fbPreset; repeat' (first | (simp +contextual (maxDischargeDepth := 60) [*]; done) | split | (dsimp only; split) | (simp +contextual (maxDischargeDepth := 60) [*]; split))
theorem execPreset_keeps (a : Fin 64) (s : State) (t_ : State) (H : Closed P) (h_ : Holds P s) (e_ : execPreset a s = .next t_) : Holds P t_ := by
  simp only [execPreset, Host.Outcome.next.injEq] at e_; subst e_; repeat' (first | (simp +contextual (maxDischargeDepth := 60) [*]; done) | split | (dsimp only; split) | (simp +contextual (maxDischargeDepth := 60) [*]; split))
@[simp] theorem State.readFbPos_keeps (s : State) (a : Fin 64) (H : Closed P) (h_ : Holds P s) : Holds P (State.readFbPos s a) := by
  unfold State.readFbPos; repeat' (first | (simp +contextual (maxDischargeDepth := 60) [*]; done) | split | (dsimp only; split) | (simp +contextual (maxDischargeDepth := 60) [*]; split))
theorem execFbPosRead_keeps (q : Fin 514) (a : Fin 64) (s : State) (t_ : State) (H : Closed P) (h_ : Holds P s) (e_ : execFbPosRead q a s = .next t_) : Holds P t_ := by
  simp only [execFbPosRead, Host.Outcome.next.injEq] at e_; subst e_; repeat' (first | (simp +contextual (maxDischargeDepth := 60) [*]; done) | split | (dsimp only; split) | (simp +contextual (maxDischargeDepth := 60) [*]; split))
theorem execFbStill_keeps (a : Fin 64) (s : State) (t_ : State) (H : Closed P) (h_ : Holds P s) (e_ : execFbStill a s = .next t_) : Holds P t_ := by
  simp only [execFbStill, Host.Outcome.next.injEq] at e_; subst e_; repeat' (first | (simp +contextual (maxDischargeDepth := 60) [*]; done) | split | (dsimp only; split) | (simp +contextual (maxDischargeDepth := 60) [*]; split))
@[simp] theorem State.serialRequest_keeps (s : State) (a : Fin 64) (H : Closed P) (h_ : Holds P s) : Holds P (State.serialRequest s a) := by
  unfold State.serialRequest; repeat' (first | (simp +contextual (maxDischargeDepth := 60) [*]; done) | split | (dsimp only; split) | (simp +contextual (maxDischargeDepth := 60) [*]; split))
theorem execSerialRequest_keeps (a : Fin 64) (s : State) (t_ : State) (H : Closed P) (h_ : Holds P s) (e_ : execSerialRequest a s = .next t_) : Holds P t_ := by
  simp only [execSerialRequest, Host.Outcome.next.injEq] at e_; subst e_; repeat' (first | (simp +contextual (maxDischargeDepth := 60) [*]; done) | split | (dsimp only; split) | (simp +contextual (maxDischargeDepth := 60) [*]; split))
@[simp] theorem State.serFail_keeps (s : State) (a : Fin 64) (ne : Bool) (H : Closed P) (h_ : Holds P s) : Holds P (State.serFail s a ne) := by
  unfold State.serFail; repeat' (first | (simp +contextual (maxDischargeDepth := 60) [*]; done) | split | (dsimp only; split) | (simp +contextual (maxDischargeDepth := 60) [*]; split))
@[simp] theorem State.serGood_keeps (s : State) (a : Fin 64) (pos : Nat) (H : Closed P) (h_ : Holds P s) : Holds P (State.serGood s a pos) := by
  unfold State.serGood; repeat' (first | (simp +contextual (maxDischargeDepth := 60) [*]; done) | split | (dsimp only; split) | (simp +contextual (maxDischargeDepth := 60) [*]; split))
theorem execSerialReading_keeps (a : Fin 64) (start : Bool) (raw raw2 : BitVec 64) (s : State) (t_ : State) (H : Closed P) (h_ : Holds P s) (e_ : execSerialReading a start raw raw2 s = .next t_) : Holds P t_ := by
  simp only [execSerialReading, Host.Outcome.next.injEq] at e_; subst e_; repeat' (first | (simp +contextual (maxDischargeDepth := 60) [*]; done) | split | (dsimp only; split) | (simp +contextual (maxDischargeDepth := 60) [*]; split))
@[simp] theorem State.queueFb_keeps (s : State) (a : Fin 64) (speed : Bool) (H : Closed P) (h_ : Holds P s) : Holds P (State.queueFb s a speed) := by
  unfold State.queueFb; repeat' (first | (simp +contextual (maxDischargeDepth := 60) [*]; done) | split | (dsimp only; split) | (simp +contextual (maxDischargeDepth := 60) [*]; split))
@[simp] theorem State.hold_keeps (s : State) (a : Fin 64) (edge : Bool) (H : Closed P) (h_ : Holds P s) : Holds P (State.hold s a edge) := by
  unfold State.hold; repeat' (first | (simp +contextual (maxDischargeDepth := 60) [*]; done) | split | (dsimp only; split) | (simp +contextual (maxDischargeDepth := 60) [*]; split))
@[simp] theorem State.speedCount_keeps (s : State) (a : Fin 64) (H : Closed P) (h_ : Holds P s) : Holds P (State.speedCount s a) := by
  unfold State.speedCount; repeat' (first | (simp +contextual (maxDischargeDepth := 60) [*]; done) | split | (dsimp only; split) | (simp +contextual (maxDischargeDepth := 60) [*]; split))
@[simp] theorem State.serialCount_keeps (s : State) (a : Fin 64) (H : Closed P) (h_ : Holds P s) : Holds P (State.serialCount s a) := by
  unfold State.serialCount; repeat' (first | (simp +contextual (maxDischargeDepth := 60) [*]; done) | split | (dsimp only; split) | (simp +contextual (maxDischargeDepth := 60) [*]; split))
theorem execSamplingInstant_keeps (a : Fin 64) (edge : Bool) (s : State) (t_ : State) (H : Closed P) (h_ : Holds P s) (e_ : execSamplingInstant a edge s = .next t_) : Holds P t_ := by
  simp only [execSamplingInstant, Host.Outcome.next.injEq] at e_; subst e_; repeat' (first | (simp +contextual (maxDischargeDepth := 60) [*]; done) | split | (dsimp only; split) | (simp +contextual (maxDischargeDepth := 60) [*]; split))
@[simp] theorem State.rangeHit_keeps (s : State) (i : Fin 8) (err : Nat) (H : Closed P) (h_ : Holds P s) : Holds P (State.rangeHit s i err) := by
  unfold State.rangeHit; repeat' (first | (simp +contextual (maxDischargeDepth := 60) [*]; done) | split | (dsimp only; split) | (simp +contextual (maxDischargeDepth := 60) [*]; split))
@[simp] theorem State.vbusCheck_keeps (s : State) (i : Fin 8) (v : Nat) (H : Closed P) (h_ : Holds P s) : Holds P (State.vbusCheck s i v).1 := by
  unfold State.vbusCheck; repeat' (first | (simp +contextual (maxDischargeDepth := 60) [*]; done) | split | (dsimp only; split) | (simp +contextual (maxDischargeDepth := 60) [*]; split))
@[simp] theorem State.currentCheck_keeps (s : State) (a : Fin 64) (c : Int) (H : Closed P) (h_ : Holds P s) : Holds P (State.currentCheck s a c).1 := by
  unfold State.currentCheck; repeat' (first | (simp +contextual (maxDischargeDepth := 60) [*]; done) | split | (dsimp only; split) | (simp +contextual (maxDischargeDepth := 60) [*]; split))
@[simp] theorem State.sumCheck_keeps (s : State) (a : Fin 64) (u v w : Int) (H : Closed P) (h_ : Holds P s) : Holds P (State.sumCheck s a u v w) := by
  unfold State.sumCheck; repeat' (first | (simp +contextual (maxDischargeDepth := 60) [*]; done) | split | (dsimp only; split) | (simp +contextual (maxDischargeDepth := 60) [*]; split))
@[simp] theorem State.convert_keeps (s : State) (a : Fin 64) (iu iv iw : Int) (vbus : Nat) (H : Closed P) (h_ : Holds P s) : Holds P (State.convert s a iu iv iw vbus) := by
  unfold State.convert; repeat' (first | (simp +contextual (maxDischargeDepth := 60) [*]; done) | split | (dsimp only; split) | (simp +contextual (maxDischargeDepth := 60) [*]; split))
theorem execConversionComplete_keeps (a : Fin 64) (iu iv iw : Int) (vbus : Nat) (s : State) (t_ : State) (H : Closed P) (h_ : Holds P s) (e_ : execConversionComplete a iu iv iw vbus s = .next t_) : Holds P t_ := by
  simp only [execConversionComplete, Host.Outcome.next.injEq] at e_; subst e_; repeat' (first | (simp +contextual (maxDischargeDepth := 60) [*]; done) | split | (dsimp only; split) | (simp +contextual (maxDischargeDepth := 60) [*]; split))
@[simp] theorem State.writeAdcCal_keeps (s : State) (i : Fin 8) (v : Nat) (H : Closed P) (h_ : Holds P s) : Holds P (State.writeAdcCal s i v) := by
  unfold State.writeAdcCal; repeat' (first | (simp +contextual (maxDischargeDepth := 60) [*]; done) | split | (dsimp only; split) | (simp +contextual (maxDischargeDepth := 60) [*]; split))
theorem execAdcCalGo_keeps (s : Fin 8) (mask : BitVec 8) (st : State) (t_ : State) (H : Closed P) (h_ : Holds P st) (e_ : execAdcCalGo s mask st = .next t_) : Holds P t_ := by
  simp only [execAdcCalGo, Host.Outcome.next.injEq] at e_; subst e_; repeat' (first | (simp +contextual (maxDischargeDepth := 60) [*]; done) | split | (dsimp only; split) | (simp +contextual (maxDischargeDepth := 60) [*]; split))
theorem execAdcCalComplete_keeps (s : Fin 8) (n : Fin 8) (u v w : BitVec 16) (st : State) (t_ : State) (H : Closed P) (h_ : Holds P st) (e_ : execAdcCalComplete s n u v w st = .next t_) : Holds P t_ := by
  simp only [execAdcCalComplete, Host.Outcome.next.injEq] at e_; subst e_; repeat' (first | (simp +contextual (maxDischargeDepth := 60) [*]; done) | split | (dsimp only; split) | (simp +contextual (maxDischargeDepth := 60) [*]; split))
theorem execBackgroundConversion_keeps (s : Fin 8) (ch : BgChannel) (k : Nat) (v : BitVec 16) (st : State) (t_ : State) (H : Closed P) (h_ : Holds P st) (e_ : execBackgroundConversion s ch k v st = .next t_) : Holds P t_ := by
  simp only [execBackgroundConversion, Host.Outcome.next.injEq] at e_; subst e_; repeat' (first | (simp +contextual (maxDischargeDepth := 60) [*]; done) | split | (dsimp only; split) | (simp +contextual (maxDischargeDepth := 60) [*]; split))
@[simp] theorem State.setPt_keeps (s : State) (i : Fin 8) (j : Fin 16) (f : FieldPoint → FieldPoint) (H : Closed P) (h_ : Holds P s) : Holds P (State.setPt s i j f) := by
  unfold State.setPt; repeat' (first | (simp +contextual (maxDischargeDepth := 60) [*]; done) | split | (dsimp only; split) | (simp +contextual (maxDischargeDepth := 60) [*]; split))
@[simp] theorem State.acceptInput_keeps (s : State) (i : Fin 8) (j : Fin 16) (lvl : Bool) (stamp : Nat) (H : Closed P) (h_ : Holds P s) : Holds P (State.acceptInput s i j lvl stamp) := by
  unfold State.acceptInput; repeat' (first | (simp +contextual (maxDischargeDepth := 60) [*]; done) | split | (dsimp only; split) | (simp +contextual (maxDischargeDepth := 60) [*]; split))
@[simp] theorem State.fieldInput_keeps (s : State) (i : Fin 8) (j : Fin 16) (lvl : Bool) (t0 : Nat) (H : Closed P) (h_ : Holds P s) : Holds P (State.fieldInput s i j lvl t0) := by
  unfold State.fieldInput; repeat' (first | (simp +contextual (maxDischargeDepth := 60) [*]; done) | split | (dsimp only; split) | (simp +contextual (maxDischargeDepth := 60) [*]; split))
theorem execFieldInputChange_keeps (s : Fin 8) (j : Fin 16) (lvl : Bool) (t0 : Nat) (st : State) (t_ : State) (H : Closed P) (h_ : Holds P st) (e_ : execFieldInputChange s j lvl t0 st = .next t_) : Holds P t_ := by
  simp only [execFieldInputChange, Host.Outcome.next.injEq] at e_; subst e_; repeat' (first | (simp +contextual (maxDischargeDepth := 60) [*]; done) | split | (dsimp only; split) | (simp +contextual (maxDischargeDepth := 60) [*]; split))
@[simp] theorem State.pulsePoint_keeps (s : State) (i : Fin 8) (j : Fin 16) (lvl : Bool) (t : Nat) (H : Closed P) (h_ : Holds P s) : Holds P (State.pulsePoint s i j lvl t) := by
  unfold State.pulsePoint; repeat' (first | (simp +contextual (maxDischargeDepth := 60) [*]; done) | split | (dsimp only; split) | (simp +contextual (maxDischargeDepth := 60) [*]; split))
theorem execPulseWindow_keeps (s : Fin 8) (levels : BitVec 16) (st : State) (t_ : State) (H : Closed P) (h_ : Holds P st) (e_ : execPulseWindow s levels st = .next t_) : Holds P t_ := by
  simp only [execPulseWindow, Host.Outcome.next.injEq] at e_; subst e_; repeat' (first | (simp +contextual (maxDischargeDepth := 60) [*]; done) | split | (dsimp only; split) | (simp +contextual (maxDischargeDepth := 60) [*]; split))
@[simp] theorem State.fieldVoltage_keeps (s : State) (i : Fin 8) (j : Fin 16) (mv : Int) (H : Closed P) (h_ : Holds P s) : Holds P (State.fieldVoltage s i j mv) := by
  unfold State.fieldVoltage; repeat' (first | (simp +contextual (maxDischargeDepth := 60) [*]; done) | split | (dsimp only; split) | (simp +contextual (maxDischargeDepth := 60) [*]; split))
theorem execFieldVoltageMeasure_keeps (s : Fin 8) (j : Fin 16) (mv : Int) (st : State) (t_ : State) (H : Closed P) (h_ : Holds P st) (e_ : execFieldVoltageMeasure s j mv st = .next t_) : Holds P t_ := by
  simp only [execFieldVoltageMeasure, Host.Outcome.next.injEq] at e_; subst e_; repeat' (first | (simp +contextual (maxDischargeDepth := 60) [*]; done) | split | (dsimp only; split) | (simp +contextual (maxDischargeDepth := 60) [*]; split))
theorem execStuck_keeps (s : Fin 8) (j : Fin 16) (st : State) (t_ : State) (H : Closed P) (h_ : Holds P st) (e_ : execStuck s j st = .next t_) : Holds P t_ := by
  simp only [execStuck, Host.Outcome.next.injEq] at e_; subst e_; repeat' (first | (simp +contextual (maxDischargeDepth := 60) [*]; done) | split | (dsimp only; split) | (simp +contextual (maxDischargeDepth := 60) [*]; split))
theorem execShort_keeps (s : Fin 8) (j : Fin 16) (st : State) (t_ : State) (H : Closed P) (h_ : Holds P st) (e_ : execShort s j st = .next t_) : Holds P t_ := by
  simp only [execShort, Host.Outcome.next.injEq] at e_; subst e_; repeat' (first | (simp +contextual (maxDischargeDepth := 60) [*]; done) | split | (dsimp only; split) | (simp +contextual (maxDischargeDepth := 60) [*]; split))
theorem execShortRetry_keeps (s : Fin 8) (j : Fin 16) (st : State) (t_ : State) (H : Closed P) (h_ : Holds P st) (e_ : execShortRetry s j st = .next t_) : Holds P t_ := by
  simp only [execShortRetry, Host.Outcome.next.injEq] at e_; subst e_; repeat' (first | (simp +contextual (maxDischargeDepth := 60) [*]; done) | split | (dsimp only; split) | (simp +contextual (maxDischargeDepth := 60) [*]; split))
@[simp] theorem State.shortClear_keeps (s : State) (i : Fin 8) (mask : Nat) (H : Closed P) (h_ : Holds P s) : Holds P (State.shortClear s i mask) := by
  unfold State.shortClear; repeat' (first | (simp +contextual (maxDischargeDepth := 60) [*]; done) | split | (dsimp only; split) | (simp +contextual (maxDischargeDepth := 60) [*]; split))
theorem execShortClear_keeps (s : Fin 8) (mask : BitVec 16) (st : State) (t_ : State) (H : Closed P) (h_ : Holds P st) (e_ : execShortClear s mask st = .next t_) : Holds P t_ := by
  simp only [execShortClear, Host.Outcome.next.injEq] at e_; subst e_; repeat' (first | (simp +contextual (maxDischargeDepth := 60) [*]; done) | split | (dsimp only; split) | (simp +contextual (maxDischargeDepth := 60) [*]; split))
theorem execOpenLoad_keeps (s : Fin 8) (j : Fin 16) (st : State) (t_ : State) (H : Closed P) (h_ : Holds P st) (e_ : execOpenLoad s j st = .next t_) : Holds P t_ := by
  simp only [execOpenLoad, Host.Outcome.next.injEq] at e_; subst e_; repeat' (first | (simp +contextual (maxDischargeDepth := 60) [*]; done) | split | (dsimp only; split) | (simp +contextual (maxDischargeDepth := 60) [*]; split))
theorem execReadbackMismatch_keeps (s : Fin 8) (j : Fin 16) (land : Bool) (st : State) (t_ : State) (H : Closed P) (h_ : Holds P st) (e_ : execReadbackMismatch s j land st = .next t_) : Holds P t_ := by
  simp only [execReadbackMismatch, Host.Outcome.next.injEq] at e_; subst e_; repeat' (first | (simp +contextual (maxDischargeDepth := 60) [*]; done) | split | (dsimp only; split) | (simp +contextual (maxDischargeDepth := 60) [*]; split))
theorem execVfieldUv_keeps (s : Fin 8) (enter : Bool) (st : State) (t_ : State) (H : Closed P) (h_ : Holds P st) (e_ : execVfieldUv s enter st = .next t_) : Holds P t_ := by
  simp only [execVfieldUv, Host.Outcome.next.injEq] at e_; subst e_; repeat' (first | (simp +contextual (maxDischargeDepth := 60) [*]; done) | split | (dsimp only; split) | (simp +contextual (maxDischargeDepth := 60) [*]; split))
@[simp] theorem State.setOutBit_keeps (s : State) (i : Fin 8) (j : Fin 16) (v : Bool) (H : Closed P) (h_ : Holds P s) : Holds P (State.setOutBit s i j v) := by
  unfold State.setOutBit; repeat' (first | (simp +contextual (maxDischargeDepth := 60) [*]; done) | split | (dsimp only; split) | (simp +contextual (maxDischargeDepth := 60) [*]; split))
@[simp] theorem State.writeFioOut_keeps (s : State) (i : Fin 8) (data mask : Nat) (H : Closed P) (h_ : Holds P s) : Holds P (State.writeFioOut s i data mask) := by
  unfold State.writeFioOut; repeat' (first | (simp +contextual (maxDischargeDepth := 60) [*]; done) | split | (dsimp only; split) | (simp +contextual (maxDischargeDepth := 60) [*]; split))
theorem execFioOutWrite_keeps (s : Fin 8) (data mask : BitVec 16) (st : State) (t_ : State) (H : Closed P) (h_ : Holds P st) (e_ : execFioOutWrite s data mask st = .next t_) : Holds P t_ := by
  simp only [execFioOutWrite, Host.Outcome.next.injEq] at e_; subst e_; repeat' (first | (simp +contextual (maxDischargeDepth := 60) [*]; done) | split | (dsimp only; split) | (simp +contextual (maxDischargeDepth := 60) [*]; split))
@[simp] theorem State.enterMode_keeps (s : State) (i : Fin 8) (j : Fin 16) (m : Nat) (known : Bool) (H : Closed P) (h_ : Holds P s) : Holds P (State.enterMode s i j m known) := by
  unfold State.enterMode; repeat' (first | (simp +contextual (maxDischargeDepth := 60) [*]; done) | split | (dsimp only; split) | (simp +contextual (maxDischargeDepth := 60) [*]; split))
@[simp] theorem State.putFioCfg_keeps (s : State) (i : Fin 8) (j : Fin 16) (v : Nat) (land : Option Bool) (H : Closed P) (h_ : Holds P s) : Holds P (State.putFioCfg s i j v land) := by
  unfold State.putFioCfg; repeat' (first | (simp +contextual (maxDischargeDepth := 60) [*]; done) | split | (dsimp only; split) | (simp +contextual (maxDischargeDepth := 60) [*]; split))
@[simp] theorem State.writeFioCfg_keeps (s : State) (i : Fin 8) (j : Fin 16) (v : Nat) (land : Option Bool) (H : Closed P) (h_ : Holds P s) : Holds P (State.writeFioCfg s i j v land) := by
  unfold State.writeFioCfg; repeat' (first | (simp +contextual (maxDischargeDepth := 60) [*]; done) | split | (dsimp only; split) | (simp +contextual (maxDischargeDepth := 60) [*]; split))
theorem execFioCfgWrite_keeps (s : Fin 8) (j : Fin 16) (v : Word) (land : Bool) (st : State) (t_ : State) (H : Closed P) (h_ : Holds P st) (e_ : execFioCfgWrite s j v land st = .next t_) : Holds P t_ := by
  simp only [execFioCfgWrite, Host.Outcome.next.injEq] at e_; subst e_; repeat' (first | (simp +contextual (maxDischargeDepth := 60) [*]; done) | split | (dsimp only; split) | (simp +contextual (maxDischargeDepth := 60) [*]; split))
theorem execOutputDischarged_keeps (s : Fin 8) (j : Fin 16) (land : Bool) (st : State) (t_ : State) (H : Closed P) (h_ : Holds P st) (e_ : execOutputDischarged s j land st = .next t_) : Holds P t_ := by
  simp only [execOutputDischarged, Host.Outcome.next.injEq] at e_; subst e_; repeat' (first | (simp +contextual (maxDischargeDepth := 60) [*]; done) | split | (dsimp only; split) | (simp +contextual (maxDischargeDepth := 60) [*]; split))
@[simp] theorem State.applyTransition_keeps (s : State) (i : Fin 8) (c : Fin 16) (level : Bool) (H : Closed P) (h_ : Holds P s) : Holds P (State.applyTransition s i c level) := by
  unfold State.applyTransition; repeat' (first | (simp +contextual (maxDischargeDepth := 60) [*]; done) | split | (dsimp only; split) | (simp +contextual (maxDischargeDepth := 60) [*]; split))
@[simp] theorem State.outSched_keeps (s : State) (i : Fin 8) (level : Bool) (target low : Nat) (H : Closed P) (h_ : Holds P s) : Holds P (State.outSched s i level target low) := by
  unfold State.outSched; repeat' (first | (simp +contextual (maxDischargeDepth := 60) [*]; done) | split | (dsimp only; split) | (simp +contextual (maxDischargeDepth := 60) [*]; split))
theorem execScheduledTransition_keeps (s : Fin 8) (c : Fin 16) (st : State) (t_ : State) (H : Closed P) (h_ : Holds P st) (e_ : execScheduledTransition s c st = .next t_) : Holds P t_ := by
  simp only [execScheduledTransition, Host.Outcome.next.injEq] at e_; subst e_; repeat' (first | (simp +contextual (maxDischargeDepth := 60) [*]; done) | split | (dsimp only; split) | (simp +contextual (maxDischargeDepth := 60) [*]; split))
@[simp] theorem State.forward_keeps (s : State) (i : Fin 8) (off data mask : Nat) (H : Closed P) (h_ : Holds P s) : Holds P (State.forward s i off data mask) := by
  unfold State.forward; repeat' (first | (simp +contextual (maxDischargeDepth := 60) [*]; done) | split | (dsimp only; split) | (simp +contextual (maxDischargeDepth := 60) [*]; split))
@[simp] theorem State.writeFschMap_keeps (s : State) (i : Fin 8) (c : Fin 16) (v : Nat) (H : Closed P) (h_ : Holds P s) : Holds P (State.writeFschMap s i c v) := by
  unfold State.writeFschMap; repeat' (first | (simp +contextual (maxDischargeDepth := 60) [*]; done) | split | (dsimp only; split) | (simp +contextual (maxDischargeDepth := 60) [*]; split))
theorem execFschMapWrite_keeps (s : Fin 8) (c : Fin 16) (v : BitVec 5) (st : State) (t_ : State) (H : Closed P) (h_ : Holds P st) (e_ : execFschMapWrite s c v st = .next t_) : Holds P t_ := by
  simp only [execFschMapWrite, Host.Outcome.next.injEq] at e_; subst e_; repeat' (first | (simp +contextual (maxDischargeDepth := 60) [*]; done) | split | (dsimp only; split) | (simp +contextual (maxDischargeDepth := 60) [*]; split))
@[simp] theorem State.setFsch_keeps (s : State) (i : Fin 8) (c : Fin 16) (f : FschReq → FschReq) (H : Closed P) (h : Holds P s) : Holds P (s.setFsch i c f) := H.setFsch s i c f h
@[simp] theorem State.fschGo_keeps (s : State) (i : Fin 8) (c : Fin 16) (level : Bool) (H : Closed P) (h_ : Holds P s) : Holds P (State.fschGo s i c level) := by
  unfold State.fschGo; repeat' (first | (simp +contextual (maxDischargeDepth := 60) [*]; done) | split | (dsimp only; split) | (simp +contextual (maxDischargeDepth := 60) [*]; split))
theorem execFschGo_keeps (s : Fin 8) (c : Fin 16) (level : Bool) (st : State) (t_ : State) (H : Closed P) (h_ : Holds P st) (e_ : execFschGo s c level st = .next t_) : Holds P t_ := by
  simp only [execFschGo, Host.Outcome.next.injEq] at e_; subst e_; repeat' (first | (simp +contextual (maxDischargeDepth := 60) [*]; done) | split | (dsimp only; split) | (simp +contextual (maxDischargeDepth := 60) [*]; split))
@[simp] theorem State.fschCancel_keeps (s : State) (i : Fin 8) (c : Fin 16) (H : Closed P) (h_ : Holds P s) : Holds P (State.fschCancel s i c) := by
  unfold State.fschCancel; repeat' (first | (simp +contextual (maxDischargeDepth := 60) [*]; done) | split | (dsimp only; split) | (simp +contextual (maxDischargeDepth := 60) [*]; split))
theorem execFschCancel_keeps (s : Fin 8) (c : Fin 16) (st : State) (t_ : State) (H : Closed P) (h_ : Holds P st) (e_ : execFschCancel s c st = .next t_) : Holds P t_ := by
  simp only [execFschCancel, Host.Outcome.next.injEq] at e_; subst e_; repeat' (first | (simp +contextual (maxDischargeDepth := 60) [*]; done) | split | (dsimp only; split) | (simp +contextual (maxDischargeDepth := 60) [*]; split))
@[simp] theorem State.queueOut_keeps (s : State) (i : Fin 8) (level : Bool) (c t : Nat) (H : Closed P) (h_ : Holds P s) : Holds P (State.queueOut s i level c t) := by
  unfold State.queueOut; repeat' (first | (simp +contextual (maxDischargeDepth := 60) [*]; done) | split | (dsimp only; split) | (simp +contextual (maxDischargeDepth := 60) [*]; split))
@[simp] theorem State.fschSend_keeps (s : State) (i : Fin 8) (c : Fin 16) (H : Closed P) (h_ : Holds P s) : Holds P (State.fschSend s i c) := by
  unfold State.fschSend; repeat' (first | (simp +contextual (maxDischargeDepth := 60) [*]; done) | split | (dsimp only; split) | (simp +contextual (maxDischargeDepth := 60) [*]; split))
theorem execFschSend_keeps (s : Fin 8) (c : Fin 16) (st : State) (t_ : State) (H : Closed P) (h_ : Holds P st) (e_ : execFschSend s c st = .next t_) : Holds P t_ := by
  simp only [execFschSend, Host.Outcome.next.injEq] at e_; subst e_; repeat' (first | (simp +contextual (maxDischargeDepth := 60) [*]; done) | split | (dsimp only; split) | (simp +contextual (maxDischargeDepth := 60) [*]; split))
theorem execFschDone_keeps (s : Fin 8) (c : Fin 16) (st : State) (t_ : State) (H : Closed P) (h_ : Holds P st) (e_ : execFschDone s c st = .next t_) : Holds P t_ := by
  simp only [execFschDone, Host.Outcome.next.injEq] at e_; subst e_; repeat' (first | (simp +contextual (maxDischargeDepth := 60) [*]; done) | split | (dsimp only; split) | (simp +contextual (maxDischargeDepth := 60) [*]; split))
@[simp] theorem State.plainWrite_keeps (s : State) (k : PageKind) (p o v : Nat) (lock : Bool) (H : Closed P) (h_ : Holds P s) : Holds P (State.plainWrite s k p o v lock) := by
  unfold State.plainWrite; repeat' (first | (simp +contextual (maxDischargeDepth := 60) [*]; done) | split | (dsimp only; split) | (simp +contextual (maxDischargeDepth := 60) [*]; split))
@[simp] theorem State.slateRead_keeps (s : State) (i : Fin 8) (a : Nat) (H : Closed P) (h_ : Holds P s) : Holds P (State.slateRead s i a).2 := by
  unfold State.slateRead; repeat' (first | (simp +contextual (maxDischargeDepth := 60) [*]; done) | split | (dsimp only; split) | (simp +contextual (maxDischargeDepth := 60) [*]; split))
@[simp] theorem State.slateWriteFio_keeps (s : State) (i : Fin 8) (o v mask : Nat) (H : Closed P) (h_ : Holds P s) : Holds P (State.slateWriteFio s i o v mask) := by
  unfold State.slateWriteFio; repeat' (first | (simp +contextual (maxDischargeDepth := 60) [*]; done) | split | (dsimp only; split) | (simp +contextual (maxDischargeDepth := 60) [*]; split))
@[simp] theorem State.slateWriteFb_keeps (s : State) (x : Fin 64) (o v : Nat) (H : Closed P) (h_ : Holds P s) : Holds P (State.slateWriteFb s x o v) := by
  unfold State.slateWriteFb; repeat' (first | (simp +contextual (maxDischargeDepth := 60) [*]; done) | split | (dsimp only; split) | (simp +contextual (maxDischargeDepth := 60) [*]; split))
@[simp] theorem State.slateWritePwm_keeps (s : State) (x : Fin 64) (o v : Nat) (H : Closed P) (h_ : Holds P s) : Holds P (State.slateWritePwm s x o v) := by
  unfold State.slateWritePwm; repeat' (first | (simp +contextual (maxDischargeDepth := 60) [*]; done) | split | (dsimp only; split) | (simp +contextual (maxDischargeDepth := 60) [*]; split))
@[simp] theorem State.slateWriteCarrier_keeps (s : State) (i : Fin 8) (o v : Nat) (H : Closed P) (h_ : Holds P s) : Holds P (State.slateWriteCarrier s i o v) := by
  unfold State.slateWriteCarrier; repeat' (first | (simp +contextual (maxDischargeDepth := 60) [*]; done) | split | (dsimp only; split) | (simp +contextual (maxDischargeDepth := 60) [*]; split))
@[simp] theorem State.softRegs_keeps (s : State) (k : PageKind) (p : Nat) (H : Closed P) (h_ : Holds P s) : Holds P (State.softRegs s k p) := by
  unfold State.softRegs; repeat' (first | (simp +contextual (maxDischargeDepth := 60) [*]; done) | split | (dsimp only; split) | (simp +contextual (maxDischargeDepth := 60) [*]; split))
@[simp] theorem State.slateSoftReset_keeps (s : State) (i : Fin 8) (k : PageKind) (n : Nat) (H : Closed P) (h_ : Holds P s) : Holds P (State.slateSoftReset s i k n) := by
  unfold State.slateSoftReset; repeat' (first | (simp +contextual (maxDischargeDepth := 60) [*]; done) | split | (dsimp only; split) | (simp +contextual (maxDischargeDepth := 60) [*]; split))
@[simp] theorem State.slateWrite_keeps (s : State) (i : Fin 8) (a v mask : Nat) (H : Closed P) (h_ : Holds P s) : Holds P (State.slateWrite s i a v mask) := by
  unfold State.slateWrite; repeat' (first | (simp +contextual (maxDischargeDepth := 60) [*]; done) | split | (dsimp only; split) | (simp +contextual (maxDischargeDepth := 60) [*]; split))
@[simp] theorem State.wrAll_keeps (s : State) (l : List (Nat × Nat)) (H : Closed P) (h_ : Holds P s) : Holds P (State.wrAll s l) := by
  unfold State.wrAll; repeat' (first | (simp +contextual (maxDischargeDepth := 60) [*]; done) | split | (dsimp only; split) | (simp +contextual (maxDischargeDepth := 60) [*]; split))
@[simp] theorem State.slateSnap_keeps (s : State) (i : Fin 8) (low : Nat) (H : Closed P) (h_ : Holds P s) : Holds P (State.slateSnap s i low) := by
  unfold State.slateSnap; repeat' (first | (simp +contextual (maxDischargeDepth := 60) [*]; done) | split | (dsimp only; split) | (simp +contextual (maxDischargeDepth := 60) [*]; split))
@[simp] theorem State.misalign_keeps (s : State) (i : Fin 8) (H : Closed P) (h_ : Holds P s) : Holds P (State.misalign s i) := by
  unfold State.misalign; repeat' (first | (simp +contextual (maxDischargeDepth := 60) [*]; done) | split | (dsimp only; split) | (simp +contextual (maxDischargeDepth := 60) [*]; split))
@[simp] theorem State.stepTick_keeps (s : State) (i : Fin 8) (d : Int) (oneGo : Bool) (H : Closed P) (h_ : Holds P s) : Holds P (State.stepTick s i d oneGo) := by
  unfold State.stepTick; repeat' (first | (simp +contextual (maxDischargeDepth := 60) [*]; done) | split | (dsimp only; split) | (simp +contextual (maxDischargeDepth := 60) [*]; split))
@[simp] theorem State.alignFrame_keeps (s : State) (i : Fin 8) (e : Int) (H : Closed P) (h_ : Holds P s) : Holds P (State.alignFrame s i e) := by
  unfold State.alignFrame; repeat' (first | (simp +contextual (maxDischargeDepth := 60) [*]; done) | split | (dsimp only; split) | (simp +contextual (maxDischargeDepth := 60) [*]; split))
@[simp] theorem State.enterSafe_keeps (s : State) (i : Fin 8) (why : Nat) (H : Closed P) (h_ : Holds P s) : Holds P (State.enterSafe s i why) := by
  unfold State.enterSafe; repeat' (first | (simp +contextual (maxDischargeDepth := 60) [*]; done) | split | (dsimp only; split) | (simp +contextual (maxDischargeDepth := 60) [*]; split))
@[simp] theorem State.leaveSafe_keeps (s : State) (i : Fin 8) (H : Closed P) (h_ : Holds P s) : Holds P (State.leaveSafe s i) := by
  unfold State.leaveSafe; repeat' (first | (simp +contextual (maxDischargeDepth := 60) [*]; done) | split | (dsimp only; split) | (simp +contextual (maxDischargeDepth := 60) [*]; split))
@[simp] theorem State.promoteReads_keeps (s : State) (i : Fin 8) (H : Closed P) (h_ : Holds P s) : Holds P (State.promoteReads s i) := by
  unfold State.promoteReads; repeat' (first | (simp +contextual (maxDischargeDepth := 60) [*]; done) | split | (dsimp only; split) | (simp +contextual (maxDischargeDepth := 60) [*]; split))
@[simp] theorem State.failRead_keeps (s : State) (i : Fin 8) (r : FwdRead) (H : Closed P) (h_ : Holds P s) : Holds P (State.failRead s i r) := by
  unfold State.failRead; repeat' (first | (simp +contextual (maxDischargeDepth := 60) [*]; done) | split | (dsimp only; split) | (simp +contextual (maxDischargeDepth := 60) [*]; split))
@[simp] theorem State.startReplay_keeps (s : State) (i : Fin 8) (H : Closed P) (h_ : Holds P s) : Holds P (State.startReplay s i) := by
  unfold State.startReplay; repeat' (first | (simp +contextual (maxDischargeDepth := 60) [*]; done) | split | (dsimp only; split) | (simp +contextual (maxDischargeDepth := 60) [*]; split))
@[simp] theorem State.startMarkers_keeps (s : State) (i : Fin 8) (H : Closed P) (h_ : Holds P s) : Holds P (State.startMarkers s i) := by
  unfold State.startMarkers; repeat' (first | (simp +contextual (maxDischargeDepth := 60) [*]; done) | split | (dsimp only; split) | (simp +contextual (maxDischargeDepth := 60) [*]; split))
@[simp] theorem State.linkDown_keeps (s : State) (i : Fin 8) (dn : Bool) (H : Closed P) (h_ : Holds P s) : Holds P (State.linkDown s i dn) := by
  unfold State.linkDown; repeat' (first | (simp +contextual (maxDischargeDepth := 60) [*]; done) | split | (dsimp only; split) | (simp +contextual (maxDischargeDepth := 60) [*]; split))
@[simp] theorem State.slateRegWrite_keeps (s : State) (k : PageKind) (n a v mask : Nat) (H : Closed P) (h_ : Holds P s) : Holds P (State.slateRegWrite s k n a v mask) := by
  unfold State.slateRegWrite; repeat' (first | (simp +contextual (maxDischargeDepth := 60) [*]; done) | split | (dsimp only; split) | (simp +contextual (maxDischargeDepth := 60) [*]; split))
@[simp] theorem State.slateRegRead_keeps (s : State) (q : Nat) (k : PageKind) (n a : Nat) (H : Closed P) (h_ : Holds P s) : Holds P (State.slateRegRead s q k n a) := by
  unfold State.slateRegRead; repeat' (first | (simp +contextual (maxDischargeDepth := 60) [*]; done) | split | (dsimp only; split) | (simp +contextual (maxDischargeDepth := 60) [*]; split))
theorem execForwardedReadTimeout_keeps (s : Fin 8) (st : State) (t_ : State) (H : Closed P) (h_ : Holds P st) (e_ : execForwardedReadTimeout s st = .next t_) : Holds P t_ := by
  simp only [execForwardedReadTimeout, Host.Outcome.next.injEq] at e_; subst e_; repeat' (first | (simp +contextual (maxDischargeDepth := 60) [*]; done) | split | (dsimp only; split) | (simp +contextual (maxDischargeDepth := 60) [*]; split))
@[simp] theorem State.sendDown_keeps (s : State) (i : Fin 8) (H : Closed P) (h_ : Holds P s) : Holds P (State.sendDown s i) := by
  unfold State.sendDown; repeat' (first | (simp +contextual (maxDischargeDepth := 60) [*]; done) | split | (dsimp only; split) | (simp +contextual (maxDischargeDepth := 60) [*]; split))
theorem execDownstreamFrameSend_keeps (s : Fin 8) (st : State) (t_ : State) (H : Closed P) (h_ : Holds P st) (e_ : execDownstreamFrameSend s st = .next t_) : Holds P t_ := by
  simp only [execDownstreamFrameSend, Host.Outcome.next.injEq] at e_; subst e_; repeat' (first | (simp +contextual (maxDischargeDepth := 60) [*]; done) | split | (dsimp only; split) | (simp +contextual (maxDischargeDepth := 60) [*]; split))
@[simp] theorem State.compareSet_keeps (s : State) (a : Fin 64) (c : CmpSet) (H : Closed P) (h_ : Holds P s) : Holds P (State.compareSet s a c) := by
  unfold State.compareSet; repeat' (first | (simp +contextual (maxDischargeDepth := 60) [*]; done) | split | (dsimp only; split) | (simp +contextual (maxDischargeDepth := 60) [*]; split))
@[simp] theorem State.applyDn_keeps (s : State) (i : Fin 8) (y0 : DnRec) (H : Closed P) (h_ : Holds P s) : Holds P (State.applyDn s i y0) := by
  cases y0 <;> simp only [State.applyDn] <;> repeat' (first | (simp +contextual (maxDischargeDepth := 60) [*]; done) | split | (dsimp only; split) | (simp +contextual (maxDischargeDepth := 60) [*]; split))
@[simp] theorem State.applyDnHeader_keeps (s : State) (i : Fin 8) (rx : FrameRx) (H : Closed P) (h_ : Holds P s) : Holds P (State.applyDnHeader s i rx) := by
  unfold State.applyDnHeader; repeat' (first | (simp +contextual (maxDischargeDepth := 60) [*]; done) | split | (dsimp only; split) | (simp +contextual (maxDischargeDepth := 60) [*]; split))
@[simp] theorem State.downUp_keeps (s : State) (i : Fin 8) (H : Closed P) (h_ : Holds P s) : Holds P (State.downUp s i) := by
  unfold State.downUp; repeat' (first | (simp +contextual (maxDischargeDepth := 60) [*]; done) | split | (dsimp only; split) | (simp +contextual (maxDischargeDepth := 60) [*]; split))
@[simp] theorem State.downFrame_keeps (s : State) (i : Fin 8) (rx : FrameRx) (H : Closed P) (h_ : Holds P s) : Holds P (State.downFrame s i rx) := by
  unfold State.downFrame; repeat' (first | (simp +contextual (maxDischargeDepth := 60) [*]; done) | split | (dsimp only; split) | (simp +contextual (maxDischargeDepth := 60) [*]; split))
theorem execDownstreamFrame_keeps (s : Fin 8) (rx : FrameRx) (st : State) (t_ : State) (H : Closed P) (h_ : Holds P st) (e_ : execDownstreamFrame s rx st = .next t_) : Holds P t_ := by
  simp only [execDownstreamFrame, Host.Outcome.next.injEq] at e_; subst e_; repeat' (first | (simp +contextual (maxDischargeDepth := 60) [*]; done) | split | (dsimp only; split) | (simp +contextual (maxDischargeDepth := 60) [*]; split))
theorem execSlateSilenceTimeout_keeps (s : Fin 8) (st : State) (t_ : State) (H : Closed P) (h_ : Holds P st) (e_ : execSlateSilenceTimeout s st = .next t_) : Holds P t_ := by
  simp only [execSlateSilenceTimeout, Host.Outcome.next.injEq] at e_; subst e_; repeat' (first | (simp +contextual (maxDischargeDepth := 60) [*]; done) | split | (dsimp only; split) | (simp +contextual (maxDischargeDepth := 60) [*]; split))
@[simp] theorem State.setSafeCmd_keeps (s : State) (i : Fin 8) (H : Closed P) (h_ : Holds P s) : Holds P (State.setSafeCmd s i) := by
  unfold State.setSafeCmd; repeat' (first | (simp +contextual (maxDischargeDepth := 60) [*]; done) | split | (dsimp only; split) | (simp +contextual (maxDischargeDepth := 60) [*]; split))
@[simp] theorem State.noteSilence_keeps (s : State) (i : Fin 8) (H : Closed P) (h_ : Holds P s) : Holds P (State.noteSilence s i) := by
  unfold State.noteSilence; repeat' (first | (simp +contextual (maxDischargeDepth := 60) [*]; done) | split | (dsimp only; split) | (simp +contextual (maxDischargeDepth := 60) [*]; split))
theorem execLinkTimeout_keeps (s : Fin 8) (st : State) (t_ : State) (H : Closed P) (h_ : Holds P st) (e_ : execLinkTimeout s st = .next t_) : Holds P t_ := by
  simp only [execLinkTimeout, Host.Outcome.next.injEq] at e_; subst e_; repeat' (first | (simp +contextual (maxDischargeDepth := 60) [*]; done) | split | (dsimp only; split) | (simp +contextual (maxDischargeDepth := 60) [*]; split))
theorem execRelease_keeps (s : Fin 8) (st : State) (t_ : State) (H : Closed P) (h_ : Holds P st) (e_ : execRelease s st = .next t_) : Holds P t_ := by
  simp only [execRelease, Host.Outcome.next.injEq] at e_; subst e_; repeat' (first | (simp +contextual (maxDischargeDepth := 60) [*]; done) | split | (dsimp only; split) | (simp +contextual (maxDischargeDepth := 60) [*]; split))
theorem execSafeCmdClear_keeps (s : Fin 8) (st : State) (t_ : State) (H : Closed P) (h_ : Holds P st) (e_ : execSafeCmdClear s st = .next t_) : Holds P t_ := by
  simp only [execSafeCmdClear, Host.Outcome.next.injEq] at e_; subst e_; repeat' (first | (simp +contextual (maxDischargeDepth := 60) [*]; done) | split | (dsimp only; split) | (simp +contextual (maxDischargeDepth := 60) [*]; split))
@[simp] theorem State.periodicFb_keeps (s : State) (i : Fin 8) (H : Closed P) (h_ : Holds P s) : Holds P (State.periodicFb s i) := by
  unfold State.periodicFb; repeat' (first | (simp +contextual (maxDischargeDepth := 60) [*]; done) | split | (dsimp only; split) | (simp +contextual (maxDischargeDepth := 60) [*]; split))
@[simp] theorem State.sendUp_keeps (s : State) (i : Fin 8) (H : Closed P) (h_ : Holds P s) : Holds P (State.sendUp s i) := by
  unfold State.sendUp; repeat' (first | (simp +contextual (maxDischargeDepth := 60) [*]; done) | split | (dsimp only; split) | (simp +contextual (maxDischargeDepth := 60) [*]; split))
theorem execUpstreamFrameSend_keeps (s : Fin 8) (st : State) (t_ : State) (H : Closed P) (h_ : Holds P st) (e_ : execUpstreamFrameSend s st = .next t_) : Holds P t_ := by
  simp only [execUpstreamFrameSend, Host.Outcome.next.injEq] at e_; subst e_; repeat' (first | (simp +contextual (maxDischargeDepth := 60) [*]; done) | split | (dsimp only; split) | (simp +contextual (maxDischargeDepth := 60) [*]; split))
@[simp] theorem State.slateFresh_keeps (s : State) (i : Fin 8) (on : Bool) (H : Closed P) (h_ : Holds P s) : Holds P (State.slateFresh s i on) := by
  unfold State.slateFresh; repeat' (first | (simp +contextual (maxDischargeDepth := 60) [*]; done) | split | (dsimp only; split) | (simp +contextual (maxDischargeDepth := 60) [*]; split))
theorem execSlatePowerUp_keeps (s : Fin 8) (st : State) (t_ : State) (H : Closed P) (h_ : Holds P st) (e_ : execSlatePowerUp s st = .next t_) : Holds P t_ := by
  simp only [execSlatePowerUp, Host.Outcome.next.injEq] at e_; subst e_; repeat' (first | (simp +contextual (maxDischargeDepth := 60) [*]; done) | split | (dsimp only; split) | (simp +contextual (maxDischargeDepth := 60) [*]; split))
theorem execSlatePowerLoss_keeps (s : Fin 8) (st : State) (t_ : State) (H : Closed P) (h_ : Holds P st) (e_ : execSlatePowerLoss s st = .next t_) : Holds P t_ := by
  simp only [execSlatePowerLoss, Host.Outcome.next.injEq] at e_; subst e_; repeat' (first | (simp +contextual (maxDischargeDepth := 60) [*]; done) | split | (dsimp only; split) | (simp +contextual (maxDischargeDepth := 60) [*]; split))
theorem execLinkDelayMeasured_keeps (s : Fin 8) (st : State) (t_ : State) (H : Closed P) (h_ : Holds P st) (e_ : execLinkDelayMeasured s st = .next t_) : Holds P t_ := by
  simp only [execLinkDelayMeasured, Host.Outcome.next.injEq] at e_; subst e_; repeat' (first | (simp +contextual (maxDischargeDepth := 60) [*]; done) | split | (dsimp only; split) | (simp +contextual (maxDischargeDepth := 60) [*]; split))
theorem execSidebandSend_keeps (s : Fin 8) (fromFlint : Bool) (halls : BitVec 64) (pts : BitVec 16) (st : State) (t_ : State) (H : Closed P) (h_ : Holds P st) (e_ : execSidebandSend s fromFlint halls pts st = .next t_) : Holds P t_ := by
  simp only [execSidebandSend, Host.Outcome.next.injEq] at e_; subst e_; repeat' (first | (simp +contextual (maxDischargeDepth := 60) [*]; done) | split | (dsimp only; split) | (simp +contextual (maxDischargeDepth := 60) [*]; split))
@[simp] theorem State.setGs_keeps (s : State) (i : Fin 8) (on : Bool) (H : Closed P) (h_ : Holds P s) : Holds P (State.setGs s i on) := by
  unfold State.setGs; repeat' (first | (simp +contextual (maxDischargeDepth := 60) [*]; done) | split | (dsimp only; split) | (simp +contextual (maxDischargeDepth := 60) [*]; split))
theorem execSidebandFrameAtSlate_keeps (s : Fin 8) (rx : SbRx) (st : State) (t_ : State) (H : Closed P) (h_ : Holds P st) (e_ : execSidebandFrameAtSlate s rx st = .next t_) : Holds P t_ := by
  simp only [execSidebandFrameAtSlate, Host.Outcome.next.injEq] at e_; subst e_; repeat' (first | (simp +contextual (maxDischargeDepth := 60) [*]; done) | split | (dsimp only; split) | (simp +contextual (maxDischargeDepth := 60) [*]; split))
theorem execSbDown_keeps (s : Fin 8) (st : State) (t_ : State) (H : Closed P) (h_ : Holds P st) (e_ : execSbDown s st = .next t_) : Holds P t_ := by
  simp only [execSbDown, Host.Outcome.next.injEq] at e_; subst e_; repeat' (first | (simp +contextual (maxDischargeDepth := 60) [*]; done) | split | (dsimp only; split) | (simp +contextual (maxDischargeDepth := 60) [*]; split))
@[simp] theorem State.setEng_keeps (s : State) (i : Fin 512) (f : EngineState → EngineState) (H : Closed P) (h : Holds P s) : Holds P (s.setEng i f) := H.setEng s i f h
@[simp] theorem State.refuse_keeps (s : State) (q a : Nat) (write : Bool) (H : Closed P) (h_ : Holds P s) : Holds P (State.refuse s q a write) := by
  unfold State.refuse; repeat' (first | (simp +contextual (maxDischargeDepth := 60) [*]; done) | split | (dsimp only; split) | (simp +contextual (maxDischargeDepth := 60) [*]; split))
@[simp] theorem State.raiseVec_keeps (s : State) (v d : Nat) (H : Closed P) (h_ : Holds P s) : Holds P (State.raiseVec s v d) := by
  unfold State.raiseVec; repeat' (first | (simp +contextual (maxDischargeDepth := 60) [*]; done) | split | (dsimp only; split) | (simp +contextual (maxDischargeDepth := 60) [*]; split))
@[simp] theorem State.eccFix_keeps (s : State) (m : Nat × Bool) (H : Closed P) (h_ : Holds P s) : Holds P (State.eccFix s m) := by
  unfold State.eccFix; repeat' (first | (simp +contextual (maxDischargeDepth := 60) [*]; done) | split | (dsimp only; split) | (simp +contextual (maxDischargeDepth := 60) [*]; split))
@[simp] theorem State.eccMeet_keeps (s : State) (m : Nat × Bool) (H : Closed P) (h_ : Holds P s) : Holds P (State.eccMeet s m) := by
  unfold State.eccMeet; repeat' (first | (simp +contextual (maxDischargeDepth := 60) [*]; done) | split | (dsimp only; split) | (simp +contextual (maxDischargeDepth := 60) [*]; split))
@[simp] theorem State.eccScan_keeps (s : State) (a n : Nat) (H : Closed P) (h_ : Holds P s) : Holds P (State.eccScan s a n) := by
  unfold State.eccScan; repeat' (first | (simp +contextual (maxDischargeDepth := 60) [*]; done) | split | (dsimp only; split) | (simp +contextual (maxDischargeDepth := 60) [*]; split))
@[simp] theorem State.wdReload_keeps (s : State) (e : Fin 512) (H : Closed P) (h_ : Holds P s) : Holds P (State.wdReload s e) := by
  unfold State.wdReload; repeat' (first | (simp +contextual (maxDischargeDepth := 60) [*]; done) | split | (dsimp only; split) | (simp +contextual (maxDischargeDepth := 60) [*]; split))
@[simp] theorem State.engReset_keeps (s : State) (e : Fin 512) (H : Closed P) (h_ : Holds P s) : Holds P (State.engReset s e) := by
  unfold State.engReset; repeat' (first | (simp +contextual (maxDischargeDepth := 60) [*]; done) | split | (dsimp only; split) | (simp +contextual (maxDischargeDepth := 60) [*]; split))
@[simp] theorem State.engRst_keeps (s : State) (e : Fin 512) (H : Closed P) (h_ : Holds P s) : Holds P (State.engRst s e) := by
  unfold State.engRst; repeat' (first | (simp +contextual (maxDischargeDepth := 60) [*]; done) | split | (dsimp only; split) | (simp +contextual (maxDischargeDepth := 60) [*]; split))
theorem execEngRst_keeps (e : Fin 512) (s : State) (t_ : State) (H : Closed P) (h_ : Holds P s) (e_ : execEngRst e s = .next t_) : Holds P t_ := by
  simp only [execEngRst, Host.Outcome.next.injEq] at e_; subst e_; repeat' (first | (simp +contextual (maxDischargeDepth := 60) [*]; done) | split | (dsimp only; split) | (simp +contextual (maxDischargeDepth := 60) [*]; split))
@[simp] theorem State.engRelease_keeps (s : State) (e : Fin 512) (H : Closed P) (h_ : Holds P s) : Holds P (State.engRelease s e) := by
  unfold State.engRelease; repeat' (first | (simp +contextual (maxDischargeDepth := 60) [*]; done) | split | (dsimp only; split) | (simp +contextual (maxDischargeDepth := 60) [*]; split))
theorem execEngRstRelease_keeps (e : Fin 512) (s : State) (t_ : State) (H : Closed P) (h_ : Holds P s) (e_ : execEngRstRelease e s = .next t_) : Holds P t_ := by
  simp only [execEngRstRelease, Host.Outcome.next.injEq] at e_; subst e_; repeat' (first | (simp +contextual (maxDischargeDepth := 60) [*]; done) | split | (dsimp only; split) | (simp +contextual (maxDischargeDepth := 60) [*]; split))
@[simp] theorem State.engRun_keeps (s : State) (e : Fin 512) (step : Bool) (H : Closed P) (h_ : Holds P s) : Holds P (State.engRun s e step) := by
  unfold State.engRun; repeat' (first | (simp +contextual (maxDischargeDepth := 60) [*]; done) | split | (dsimp only; split) | (simp +contextual (maxDischargeDepth := 60) [*]; split))
@[simp] theorem State.engGo_keeps (s : State) (e : Fin 512) (H : Closed P) (h_ : Holds P s) : Holds P (State.engGo s e) := by
  unfold State.engGo; repeat' (first | (simp +contextual (maxDischargeDepth := 60) [*]; done) | split | (dsimp only; split) | (simp +contextual (maxDischargeDepth := 60) [*]; split))
theorem execEngGo_keeps (e : Fin 512) (s : State) (t_ : State) (H : Closed P) (h_ : Holds P s) (e_ : execEngGo e s = .next t_) : Holds P t_ := by
  simp only [execEngGo, Host.Outcome.next.injEq] at e_; subst e_; repeat' (first | (simp +contextual (maxDischargeDepth := 60) [*]; done) | split | (dsimp only; split) | (simp +contextual (maxDischargeDepth := 60) [*]; split))
@[simp] theorem State.engStep_keeps (s : State) (e : Fin 512) (H : Closed P) (h_ : Holds P s) : Holds P (State.engStep s e) := by
  unfold State.engStep; repeat' (first | (simp +contextual (maxDischargeDepth := 60) [*]; done) | split | (dsimp only; split) | (simp +contextual (maxDischargeDepth := 60) [*]; split))
theorem execEngStep_keeps (e : Fin 512) (s : State) (t_ : State) (H : Closed P) (h_ : Holds P s) (e_ : execEngStep e s = .next t_) : Holds P t_ := by
  simp only [execEngStep, Host.Outcome.next.injEq] at e_; subst e_; repeat' (first | (simp +contextual (maxDischargeDepth := 60) [*]; done) | split | (dsimp only; split) | (simp +contextual (maxDischargeDepth := 60) [*]; split))
theorem execModeWriteTakeEffect_keeps (e : Fin 512) (s : State) (t_ : State) (H : Closed P) (h_ : Holds P s) (e_ : execModeWriteTakeEffect e s = .next t_) : Holds P t_ := by
  simp only [execModeWriteTakeEffect, Host.Outcome.next.injEq] at e_; subst e_; repeat' (first | (simp +contextual (maxDischargeDepth := 60) [*]; done) | split | (dsimp only; split) | (simp +contextual (maxDischargeDepth := 60) [*]; split))
@[simp] theorem State.engHalt_keeps (s : State) (e : Fin 512) (H : Closed P) (h_ : Holds P s) : Holds P (State.engHalt s e) := by
  unfold State.engHalt; repeat' (first | (simp +contextual (maxDischargeDepth := 60) [*]; done) | split | (dsimp only; split) | (simp +contextual (maxDischargeDepth := 60) [*]; split))
theorem execEngHalt_keeps (e : Fin 512) (s : State) (t_ : State) (H : Closed P) (h_ : Holds P s) (e_ : execEngHalt e s = .next t_) : Holds P t_ := by
  simp only [execEngHalt, Host.Outcome.next.injEq] at e_; subst e_; repeat' (first | (simp +contextual (maxDischargeDepth := 60) [*]; done) | split | (dsimp only; split) | (simp +contextual (maxDischargeDepth := 60) [*]; split))
@[simp] theorem State.exception_keeps (s : State) (e : Fin 512) (cause sub addr : Nat) (sync : Bool) (H : Closed P) (h_ : Holds P s) : Holds P (State.exception s e cause sub addr sync) := by
  unfold State.exception; repeat' (first | (simp +contextual (maxDischargeDepth := 60) [*]; done) | split | (dsimp only; split) | (simp +contextual (maxDischargeDepth := 60) [*]; split))
theorem execEngineWake_keeps (e : Fin 512) (s : State) (t_ : State) (H : Closed P) (h_ : Holds P s) (e_ : execEngineWake e s = .next t_) : Holds P t_ := by
  simp only [execEngineWake, Host.Outcome.next.injEq] at e_; subst e_; repeat' (first | (simp +contextual (maxDischargeDepth := 60) [*]; done) | split | (dsimp only; split) | (simp +contextual (maxDischargeDepth := 60) [*]; split))
@[simp] theorem State.memFault_keeps (s : State) (e : Fin 512) (H : Closed P) (h_ : Holds P s) : Holds P (State.memFault s e) := by
  unfold State.memFault; repeat' (first | (simp +contextual (maxDischargeDepth := 60) [*]; done) | split | (dsimp only; split) | (simp +contextual (maxDischargeDepth := 60) [*]; split))
theorem execExceptionEntry_keeps (e : Fin 512) (s : State) (t_ : State) (H : Closed P) (h_ : Holds P s) (e_ : execExceptionEntry e s = .next t_) : Holds P t_ := by
  simp only [execExceptionEntry, Host.Outcome.next.injEq] at e_; subst e_; repeat' (first | (simp +contextual (maxDischargeDepth := 60) [*]; done) | split | (dsimp only; split) | (simp +contextual (maxDischargeDepth := 60) [*]; split))
theorem execBreakpointMatch_keeps (e : Fin 512) (s : State) (t_ : State) (H : Closed P) (h_ : Holds P s) (e_ : execBreakpointMatch e s = .next t_) : Holds P t_ := by
  simp only [execBreakpointMatch, Host.Outcome.next.injEq] at e_; subst e_; repeat' (first | (simp +contextual (maxDischargeDepth := 60) [*]; done) | split | (dsimp only; split) | (simp +contextual (maxDischargeDepth := 60) [*]; split))
theorem execEngWdogExpiry_keeps (e : Fin 512) (s : State) (t_ : State) (H : Closed P) (h_ : Holds P s) (e_ : execEngWdogExpiry e s = .next t_) : Holds P t_ := by
  simp only [execEngWdogExpiry, Host.Outcome.next.injEq] at e_; subst e_; repeat' (first | (simp +contextual (maxDischargeDepth := 60) [*]; done) | split | (dsimp only; split) | (simp +contextual (maxDischargeDepth := 60) [*]; split))
@[simp] theorem State.pushCall_keeps (s : State) (e : Fin 512) (w : List Word) (H : Closed P) (h_ : Holds P s) : Holds P (State.pushCall s e w) := by
  unfold State.pushCall; repeat' (first | (simp +contextual (maxDischargeDepth := 60) [*]; done) | split | (dsimp only; split) | (simp +contextual (maxDischargeDepth := 60) [*]; split))
@[simp] theorem State.pushMail_keeps (s : State) (e : Fin 512) (m : Msg) (H : Closed P) (h_ : Holds P s) : Holds P (State.pushMail s e m).2 := by
  unfold State.pushMail; repeat' (first | (simp +contextual (maxDischargeDepth := 60) [*]; done) | split | (dsimp only; split) | (simp +contextual (maxDischargeDepth := 60) [*]; split))
@[simp] theorem State.hmailVec_keeps (s : State) (e : Fin 512) (H : Closed P) (h_ : Holds P s) : Holds P (State.hmailVec s e) := by
  unfold State.hmailVec; repeat' (first | (simp +contextual (maxDischargeDepth := 60) [*]; done) | split | (dsimp only; split) | (simp +contextual (maxDischargeDepth := 60) [*]; split))
@[simp] theorem State.setRefused_keeps (s : State) (e : Fin 512) (b : Bool) (H : Closed P) (h_ : Holds P s) : Holds P (State.setRefused s e b) := by
  unfold State.setRefused; repeat' (first | (simp +contextual (maxDischargeDepth := 60) [*]; done) | split | (dsimp only; split) | (simp +contextual (maxDischargeDepth := 60) [*]; split))
@[simp] theorem State.sendReply_keeps (s : State) (e : Fin 512) (len : Nat) (H : Closed P) (h_ : Holds P s) : Holds P (State.sendReply s e len) := by
  unfold State.sendReply; repeat' (first | (simp +contextual (maxDischargeDepth := 60) [*]; done) | split | (dsimp only; split) | (simp +contextual (maxDischargeDepth := 60) [*]; split))
@[simp] theorem State.sendMail_keeps (s : State) (e : Fin 512) (t : Fin 32) (len : Nat) (H : Closed P) (h_ : Holds P s) : Holds P (State.sendMail s e t len) := by
  unfold State.sendMail; repeat' (first | (simp +contextual (maxDischargeDepth := 60) [*]; done) | split | (dsimp only; split) | (simp +contextual (maxDischargeDepth := 60) [*]; split))
@[simp] theorem State.sendHostMail_keeps (s : State) (e : Fin 512) (len : Nat) (H : Closed P) (h_ : Holds P s) : Holds P (State.sendHostMail s e len) := by
  unfold State.sendHostMail; repeat' (first | (simp +contextual (maxDischargeDepth := 60) [*]; done) | split | (dsimp only; split) | (simp +contextual (maxDischargeDepth := 60) [*]; split))
@[simp] theorem State.ioSend_keeps (s : State) (e : Fin 512) (v : Nat) (H : Closed P) (h_ : Holds P s) : Holds P (State.ioSend s e v) := by
  unfold State.ioSend; repeat' (first | (simp +contextual (maxDischargeDepth := 60) [*]; done) | split | (dsimp only; split) | (simp +contextual (maxDischargeDepth := 60) [*]; split))
theorem execSendReply_keeps (e : Fin 512) (len : Fin 16) (s : State) (t_ : State) (H : Closed P) (h_ : Holds P s) (e_ : execSendReply e len s = .next t_) : Holds P t_ := by
  simp only [execSendReply, Host.Outcome.next.injEq] at e_; subst e_; repeat' (first | (simp +contextual (maxDischargeDepth := 60) [*]; done) | split | (dsimp only; split) | (simp +contextual (maxDischargeDepth := 60) [*]; split))
theorem execSendMail_keeps (e : Fin 512) (t : Fin 32) (len : Fin 16) (s : State) (t_ : State) (H : Closed P) (h_ : Holds P s) (e_ : execSendMail e t len s = .next t_) : Holds P t_ := by
  simp only [execSendMail, Host.Outcome.next.injEq] at e_; subst e_; repeat' (first | (simp +contextual (maxDischargeDepth := 60) [*]; done) | split | (dsimp only; split) | (simp +contextual (maxDischargeDepth := 60) [*]; split))
theorem execSendHostMail_keeps (e : Fin 512) (len : Fin 16) (s : State) (t_ : State) (H : Closed P) (h_ : Holds P s) (e_ : execSendHostMail e len s = .next t_) : Holds P t_ := by
  simp only [execSendHostMail, Host.Outcome.next.injEq] at e_; subst e_; repeat' (first | (simp +contextual (maxDischargeDepth := 60) [*]; done) | split | (dsimp only; split) | (simp +contextual (maxDischargeDepth := 60) [*]; split))
@[simp] theorem State.callPop_keeps (s : State) (e : Fin 512) (H : Closed P) (h_ : Holds P s) : Holds P (State.callPop s e) := by
  unfold State.callPop; repeat' (first | (simp +contextual (maxDischargeDepth := 60) [*]; done) | split | (dsimp only; split) | (simp +contextual (maxDischargeDepth := 60) [*]; split))
@[simp] theorem State.mailPop_keeps (s : State) (e : Fin 512) (H : Closed P) (h_ : Holds P s) : Holds P (State.mailPop s e) := by
  unfold State.mailPop; repeat' (first | (simp +contextual (maxDischargeDepth := 60) [*]; done) | split | (dsimp only; split) | (simp +contextual (maxDischargeDepth := 60) [*]; split))
theorem execIoCallPop_keeps (e : Fin 512) (s : State) (t_ : State) (H : Closed P) (h_ : Holds P s) (e_ : execIoCallPop e s = .next t_) : Holds P t_ := by
  simp only [execIoCallPop, Host.Outcome.next.injEq] at e_; subst e_; repeat' (first | (simp +contextual (maxDischargeDepth := 60) [*]; done) | split | (dsimp only; split) | (simp +contextual (maxDischargeDepth := 60) [*]; split))
theorem execIoMailPop_keeps (e : Fin 512) (s : State) (t_ : State) (H : Closed P) (h_ : Holds P s) (e_ : execIoMailPop e s = .next t_) : Holds P t_ := by
  simp only [execIoMailPop, Host.Outcome.next.injEq] at e_; subst e_; repeat' (first | (simp +contextual (maxDischargeDepth := 60) [*]; done) | split | (dsimp only; split) | (simp +contextual (maxDischargeDepth := 60) [*]; split))
theorem execIoWdogKick_keeps (e : Fin 512) (s : State) (t_ : State) (H : Closed P) (h_ : Holds P s) (e_ : execIoWdogKick e s = .next t_) : Holds P t_ := by
  simp only [execIoWdogKick, Host.Outcome.next.injEq] at e_; subst e_; repeat' (first | (simp +contextual (maxDischargeDepth := 60) [*]; done) | split | (dsimp only; split) | (simp +contextual (maxDischargeDepth := 60) [*]; split))
@[simp] theorem State.mailIn_keeps (s : State) (e : Fin 512) (len : Nat) (H : Closed P) (h_ : Holds P s) : Holds P (State.mailIn s e len) := by
  unfold State.mailIn; repeat' (first | (simp +contextual (maxDischargeDepth := 60) [*]; done) | split | (dsimp only; split) | (simp +contextual (maxDischargeDepth := 60) [*]; split))
theorem execEngMailSend_keeps (e : Fin 512) (len : Fin 16) (s : State) (t_ : State) (H : Closed P) (h_ : Holds P s) (e_ : execEngMailSend e len s = .next t_) : Holds P t_ := by
  simp only [execEngMailSend, Host.Outcome.next.injEq] at e_; subst e_; repeat' (first | (simp +contextual (maxDischargeDepth := 60) [*]; done) | split | (dsimp only; split) | (simp +contextual (maxDischargeDepth := 60) [*]; split))
@[simp] theorem State.hmailPop_keeps (s : State) (e : Fin 512) (H : Closed P) (h_ : Holds P s) : Holds P (State.hmailPop s e) := by
  unfold State.hmailPop; repeat' (first | (simp +contextual (maxDischargeDepth := 60) [*]; done) | split | (dsimp only; split) | (simp +contextual (maxDischargeDepth := 60) [*]; split))
theorem execEngHmailPop_keeps (e : Fin 512) (s : State) (t_ : State) (H : Closed P) (h_ : Holds P s) (e_ : execEngHmailPop e s = .next t_) : Holds P t_ := by
  simp only [execEngHmailPop, Host.Outcome.next.injEq] at e_; subst e_; repeat' (first | (simp +contextual (maxDischargeDepth := 60) [*]; done) | split | (dsimp only; split) | (simp +contextual (maxDischargeDepth := 60) [*]; split))
@[simp] theorem State.engDbg_keeps (s : State) (e : Fin 512) (v : Nat) (H : Closed P) (h_ : Holds P s) : Holds P (State.engDbg s e v) := by
  unfold State.engDbg; repeat' (first | (simp +contextual (maxDischargeDepth := 60) [*]; done) | split | (dsimp only; split) | (simp +contextual (maxDischargeDepth := 60) [*]; split))
theorem execEngDbgDataWrite_keeps (e : Fin 512) (v : Word) (s : State) (t_ : State) (H : Closed P) (h_ : Holds P s) (e_ : execEngDbgDataWrite e v s = .next t_) : Holds P t_ := by
  simp only [execEngDbgDataWrite, Host.Outcome.next.injEq] at e_; subst e_; repeat' (first | (simp +contextual (maxDischargeDepth := 60) [*]; done) | split | (dsimp only; split) | (simp +contextual (maxDischargeDepth := 60) [*]; split))
@[simp] theorem State.setEngPc_keeps (s : State) (e : Fin 512) (v : Nat) (H : Closed P) (h_ : Holds P s) : Holds P (State.setEngPc s e v) := by
  unfold State.setEngPc; repeat' (first | (simp +contextual (maxDischargeDepth := 60) [*]; done) | split | (dsimp only; split) | (simp +contextual (maxDischargeDepth := 60) [*]; split))
theorem execEngPcWrite_keeps (e : Fin 512) (v : BitVec 12) (s : State) (t_ : State) (H : Closed P) (h_ : Holds P s) (e_ : execEngPcWrite e v s = .next t_) : Holds P t_ := by
  simp only [execEngPcWrite, Host.Outcome.next.injEq] at e_; subst e_; repeat' (first | (simp +contextual (maxDischargeDepth := 60) [*]; done) | split | (dsimp only; split) | (simp +contextual (maxDischargeDepth := 60) [*]; split))
@[simp] theorem State.latchCycle_keeps (s : State) (e : Fin 512) (H : Closed P) (h_ : Holds P s) : Holds P (State.latchCycle s e) := by
  unfold State.latchCycle; repeat' (first | (simp +contextual (maxDischargeDepth := 60) [*]; done) | split | (dsimp only; split) | (simp +contextual (maxDischargeDepth := 60) [*]; split))
@[simp] theorem State.ioRead_keeps (s : State) (e : Fin 512) (o : Nat) (H : Closed P) (h_ : Holds P s) : Holds P (State.ioRead s e o).2 := by
  unfold State.ioRead; repeat' (first | (simp +contextual (maxDischargeDepth := 60) [*]; done) | split | (dsimp only; split) | (simp +contextual (maxDischargeDepth := 60) [*]; split))
theorem execIoCycleLoRead_keeps (e : Fin 512) (s : State) (t_ : State) (H : Closed P) (h_ : Holds P s) (e_ : execIoCycleLoRead e s = .next t_) : Holds P t_ := by
  simp only [execIoCycleLoRead, Host.Outcome.next.injEq] at e_; subst e_; repeat' (first | (simp +contextual (maxDischargeDepth := 60) [*]; done) | split | (dsimp only; split) | (simp +contextual (maxDischargeDepth := 60) [*]; split))
theorem State.ioWrite_keeps (s : State) (e : Fin 512) (o v : Nat) (H : Closed P) (h_ : Holds P s) : Holds P (s.ioWrite e o v) := by
  unfold State.ioWrite; dsimp only
  repeat' (first | apply ite_holds | exact h_ | exact State.callPop_keeps _ _ H h_ | exact State.mailPop_keeps _ _ H h_ | exact State.ioSend_keeps _ _ _ H h_ | exact State.wdReload_keeps _ _ H h_ | exact State.wr_keeps _ _ _ H h_ | exact State.setEng_keeps _ _ _ H h_)
@[simp] theorem State.engMemWrite_keeps (s : State) (e : Fin 512) (a n v : Nat) (H : Closed P) (HM : ClosedMem P) (h_ : Holds P s) : Holds P (State.engMemWrite s e a n v) := by
  unfold State.engMemWrite; repeat' (first | (simp +contextual (maxDischargeDepth := 60) [*]; done) | split | (dsimp only; split) | (simp +contextual (maxDischargeDepth := 60) [*]; split))
theorem execExternalMemoryWrite_keeps (q : Fin 514) (addr : BitVec 26) (sz : Fin 4) (v : BitVec 64) (s : State) (t_ : State) (H : Closed P) (HM : ClosedMem P) (h_ : Holds P s) (e_ : execExternalMemoryWrite q addr sz v s = .next t_) : Holds P t_ := by
  simp only [execExternalMemoryWrite, Host.Outcome.next.injEq] at e_; subst e_; repeat' (first | (simp +contextual (maxDischargeDepth := 60) [*]; done) | split | (dsimp only; split) | (simp +contextual (maxDischargeDepth := 60) [*]; split))
theorem Eff.sat_keeps (s t : State) (e : Fin 512) (f : Eff) (H : Closed P) (hs : Holds P s) (ht : Holds P t) (hf : f.Sat P) : Holds P (f.apply s t e) := by
  cases f with
  | done u => exact hf
  | fault c sub a w =>
    refine State.exception_keeps _ _ _ _ _ _ H ?_
    split
    · exact State.refuse_keeps _ _ _ _ H ht
    · exact ht
  | stall r u =>
    show Holds P (u.setEng e fun x => { x with stall := some r })
    exact State.setEng_keeps u e _ H hf
  | retry => exact hs
  | ue => exact State.memFault_keeps _ _ H ht
theorem State.runOp_keeps (s : State) (e : Fin 512) (pick : EngOp → Option (State → Eff)) (H : Closed P) (h_ : Holds P s)
    (hp : ∀ o act t, pick o = some act → Holds P t → (act t).Sat P) : Holds P (s.runOp e pick) := by
  unfold State.runOp
  have ht : Holds P ((s.eccScan (s.fetchAddr e) 4).setEng e EngineState.settle) := State.setEng_keeps _ _ _ H (State.eccScan_keeps _ _ _ H h_)
  dsimp only
  repeat' split
  all_goals first | exact h_ | exact State.memFault_keeps _ _ H h_ | exact State.exception_keeps _ _ _ _ _ _ H ht | exact Eff.sat_keeps _ _ _ _ H h_ ht (hp _ _ _ (by assumption) ht)
@[simp] theorem complete_keeps (e : Fin 512) (f : EngineState → EngineState) (s : State) (H : Closed P) (h_ : Holds P s) : (complete e f s).Sat P :=
  State.setEng_keeps _ _ _ H h_
@[simp] theorem aluRow_keeps (e : Fin 512) (rd ra rb : Fin 16) (f : Word → Word → Flags → Word × Flags) (s : State) (H : Closed P) (h_ : Holds P s) : (aluRow e rd ra rb f s).Sat P :=
  complete_keeps _ _ _ H h_
@[simp] theorem immRow_keeps (e : Fin 512) (rd ra : Fin 16) (v : Word) (f : Word → Word → Flags → Word × Flags) (s : State) (H : Closed P) (h_ : Holds P s) : (immRow e rd ra v f s).Sat P :=
  complete_keeps _ _ _ H h_
@[simp] theorem flagRow_keeps (e : Fin 512) (f : EngineState → Flags) (s : State) (H : Closed P) (h_ : Holds P s) : (flagRow e f s).Sat P := complete_keeps _ _ _ H h_
theorem execMov_keeps (e : Fin 512) (s : State) (t_ : State) (H : Closed P) (h_ : Holds P s) (e_ : execMov e s = .next t_) : Holds P t_ := by
  cases e_
  refine State.runOp_keeps _ _ _ H h_ fun o act t ho ht => ?_
  split at ho <;> first | (cases ho; simp [*]; done) | (cases ho; exact State.setEng_keeps _ _ _ H ht) | cases ho
theorem execAdd_keeps (e : Fin 512) (s : State) (t_ : State) (H : Closed P) (h_ : Holds P s) (e_ : execAdd e s = .next t_) : Holds P t_ := by
  cases e_
  refine State.runOp_keeps _ _ _ H h_ fun o act t ho ht => ?_
  split at ho <;> first | (cases ho; simp [*]; done) | (cases ho; exact State.setEng_keeps _ _ _ H ht) | cases ho
theorem execSub_keeps (e : Fin 512) (s : State) (t_ : State) (H : Closed P) (h_ : Holds P s) (e_ : execSub e s = .next t_) : Holds P t_ := by
  cases e_
  refine State.runOp_keeps _ _ _ H h_ fun o act t ho ht => ?_
  split at ho <;> first | (cases ho; simp [*]; done) | (cases ho; exact State.setEng_keeps _ _ _ H ht) | cases ho
theorem execAdds_keeps (e : Fin 512) (s : State) (t_ : State) (H : Closed P) (h_ : Holds P s) (e_ : execAdds e s = .next t_) : Holds P t_ := by
  cases e_
  refine State.runOp_keeps _ _ _ H h_ fun o act t ho ht => ?_
  split at ho <;> first | (cases ho; simp [*]; done) | (cases ho; exact State.setEng_keeps _ _ _ H ht) | cases ho
theorem execSubs_keeps (e : Fin 512) (s : State) (t_ : State) (H : Closed P) (h_ : Holds P s) (e_ : execSubs e s = .next t_) : Holds P t_ := by
  cases e_
  refine State.runOp_keeps _ _ _ H h_ fun o act t ho ht => ?_
  split at ho <;> first | (cases ho; simp [*]; done) | (cases ho; exact State.setEng_keeps _ _ _ H ht) | cases ho
theorem execAndOp_keeps (e : Fin 512) (s : State) (t_ : State) (H : Closed P) (h_ : Holds P s) (e_ : execAndOp e s = .next t_) : Holds P t_ := by
  cases e_
  refine State.runOp_keeps _ _ _ H h_ fun o act t ho ht => ?_
  split at ho <;> first | (cases ho; simp [*]; done) | (cases ho; exact State.setEng_keeps _ _ _ H ht) | cases ho
theorem execOrOp_keeps (e : Fin 512) (s : State) (t_ : State) (H : Closed P) (h_ : Holds P s) (e_ : execOrOp e s = .next t_) : Holds P t_ := by
  cases e_
  refine State.runOp_keeps _ _ _ H h_ fun o act t ho ht => ?_
  split at ho <;> first | (cases ho; simp [*]; done) | (cases ho; exact State.setEng_keeps _ _ _ H ht) | cases ho
theorem execXor_keeps (e : Fin 512) (s : State) (t_ : State) (H : Closed P) (h_ : Holds P s) (e_ : execXor e s = .next t_) : Holds P t_ := by
  cases e_
  refine State.runOp_keeps _ _ _ H h_ fun o act t ho ht => ?_
  split at ho <;> first | (cases ho; simp [*]; done) | (cases ho; exact State.setEng_keeps _ _ _ H ht) | cases ho
theorem execAndn_keeps (e : Fin 512) (s : State) (t_ : State) (H : Closed P) (h_ : Holds P s) (e_ : execAndn e s = .next t_) : Holds P t_ := by
  cases e_
  refine State.runOp_keeps _ _ _ H h_ fun o act t ho ht => ?_
  split at ho <;> first | (cases ho; simp [*]; done) | (cases ho; exact State.setEng_keeps _ _ _ H ht) | cases ho
theorem execShl_keeps (e : Fin 512) (s : State) (t_ : State) (H : Closed P) (h_ : Holds P s) (e_ : execShl e s = .next t_) : Holds P t_ := by
  cases e_
  refine State.runOp_keeps _ _ _ H h_ fun o act t ho ht => ?_
  split at ho <;> first | (cases ho; simp [*]; done) | (cases ho; exact State.setEng_keeps _ _ _ H ht) | cases ho
theorem execShr_keeps (e : Fin 512) (s : State) (t_ : State) (H : Closed P) (h_ : Holds P s) (e_ : execShr e s = .next t_) : Holds P t_ := by
  cases e_
  refine State.runOp_keeps _ _ _ H h_ fun o act t ho ht => ?_
  split at ho <;> first | (cases ho; simp [*]; done) | (cases ho; exact State.setEng_keeps _ _ _ H ht) | cases ho
theorem execSar_keeps (e : Fin 512) (s : State) (t_ : State) (H : Closed P) (h_ : Holds P s) (e_ : execSar e s = .next t_) : Holds P t_ := by
  cases e_
  refine State.runOp_keeps _ _ _ H h_ fun o act t ho ht => ?_
  split at ho <;> first | (cases ho; simp [*]; done) | (cases ho; exact State.setEng_keeps _ _ _ H ht) | cases ho
theorem execMul_keeps (e : Fin 512) (s : State) (t_ : State) (H : Closed P) (h_ : Holds P s) (e_ : execMul e s = .next t_) : Holds P t_ := by
  cases e_
  refine State.runOp_keeps _ _ _ H h_ fun o act t ho ht => ?_
  split at ho <;> first | (cases ho; simp [*]; done) | (cases ho; exact State.setEng_keeps _ _ _ H ht) | cases ho
@[simp] theorem storeReg_keeps (e : Fin 512) (rd : Fin 16) (r : Option (Word × Bool)) (s : State) (H : Closed P) (h_ : Holds P s) : (storeReg e rd r s).Sat P := by
  unfold storeReg; split
  · trivial
  · exact complete_keeps _ _ _ H h_
theorem execMulf_keeps (e : Fin 512) (s : State) (t_ : State) (H : Closed P) (h_ : Holds P s) (e_ : execMulf e s = .next t_) : Holds P t_ := by
  cases e_
  refine State.runOp_keeps _ _ _ H h_ fun o act t ho ht => ?_
  split at ho <;> first | (cases ho; simp [*]; done) | (cases ho; exact State.setEng_keeps _ _ _ H ht) | cases ho
theorem execMinOp_keeps (e : Fin 512) (s : State) (t_ : State) (H : Closed P) (h_ : Holds P s) (e_ : execMinOp e s = .next t_) : Holds P t_ := by
  cases e_
  refine State.runOp_keeps _ _ _ H h_ fun o act t ho ht => ?_
  split at ho <;> first | (cases ho; simp [*]; done) | (cases ho; exact State.setEng_keeps _ _ _ H ht) | cases ho
theorem execMaxOp_keeps (e : Fin 512) (s : State) (t_ : State) (H : Closed P) (h_ : Holds P s) (e_ : execMaxOp e s = .next t_) : Holds P t_ := by
  cases e_
  refine State.runOp_keeps _ _ _ H h_ fun o act t ho ht => ?_
  split at ho <;> first | (cases ho; simp [*]; done) | (cases ho; exact State.setEng_keeps _ _ _ H ht) | cases ho
theorem execAbs_keeps (e : Fin 512) (s : State) (t_ : State) (H : Closed P) (h_ : Holds P s) (e_ : execAbs e s = .next t_) : Holds P t_ := by
  cases e_
  refine State.runOp_keeps _ _ _ H h_ fun o act t ho ht => ?_
  split at ho <;> first | (cases ho; simp [*]; done) | (cases ho; exact State.setEng_keeps _ _ _ H ht) | cases ho
theorem execNeg_keeps (e : Fin 512) (s : State) (t_ : State) (H : Closed P) (h_ : Holds P s) (e_ : execNeg e s = .next t_) : Holds P t_ := by
  cases e_
  refine State.runOp_keeps _ _ _ H h_ fun o act t ho ht => ?_
  split at ho <;> first | (cases ho; simp [*]; done) | (cases ho; exact State.setEng_keeps _ _ _ H ht) | cases ho
theorem execClz_keeps (e : Fin 512) (s : State) (t_ : State) (H : Closed P) (h_ : Holds P s) (e_ : execClz e s = .next t_) : Holds P t_ := by
  cases e_
  refine State.runOp_keeps _ _ _ H h_ fun o act t ho ht => ?_
  split at ho <;> first | (cases ho; simp [*]; done) | (cases ho; exact State.setEng_keeps _ _ _ H ht) | cases ho
theorem execCmp_keeps (e : Fin 512) (s : State) (t_ : State) (H : Closed P) (h_ : Holds P s) (e_ : execCmp e s = .next t_) : Holds P t_ := by
  cases e_
  refine State.runOp_keeps _ _ _ H h_ fun o act t ho ht => ?_
  split at ho <;> first | (cases ho; simp [*]; done) | (cases ho; exact State.setEng_keeps _ _ _ H ht) | cases ho
theorem execAddi_keeps (e : Fin 512) (s : State) (t_ : State) (H : Closed P) (h_ : Holds P s) (e_ : execAddi e s = .next t_) : Holds P t_ := by
  cases e_
  refine State.runOp_keeps _ _ _ H h_ fun o act t ho ht => ?_
  split at ho <;> first | (cases ho; simp [*]; done) | (cases ho; exact State.setEng_keeps _ _ _ H ht) | cases ho
theorem execAndi_keeps (e : Fin 512) (s : State) (t_ : State) (H : Closed P) (h_ : Holds P s) (e_ : execAndi e s = .next t_) : Holds P t_ := by
  cases e_
  refine State.runOp_keeps _ _ _ H h_ fun o act t ho ht => ?_
  split at ho <;> first | (cases ho; simp [*]; done) | (cases ho; exact State.setEng_keeps _ _ _ H ht) | cases ho
theorem execOri_keeps (e : Fin 512) (s : State) (t_ : State) (H : Closed P) (h_ : Holds P s) (e_ : execOri e s = .next t_) : Holds P t_ := by
  cases e_
  refine State.runOp_keeps _ _ _ H h_ fun o act t ho ht => ?_
  split at ho <;> first | (cases ho; simp [*]; done) | (cases ho; exact State.setEng_keeps _ _ _ H ht) | cases ho
theorem execXori_keeps (e : Fin 512) (s : State) (t_ : State) (H : Closed P) (h_ : Holds P s) (e_ : execXori e s = .next t_) : Holds P t_ := by
  cases e_
  refine State.runOp_keeps _ _ _ H h_ fun o act t ho ht => ?_
  split at ho <;> first | (cases ho; simp [*]; done) | (cases ho; exact State.setEng_keeps _ _ _ H ht) | cases ho
theorem execCmpi_keeps (e : Fin 512) (s : State) (t_ : State) (H : Closed P) (h_ : Holds P s) (e_ : execCmpi e s = .next t_) : Holds P t_ := by
  cases e_
  refine State.runOp_keeps _ _ _ H h_ fun o act t ho ht => ?_
  split at ho <;> first | (cases ho; simp [*]; done) | (cases ho; exact State.setEng_keeps _ _ _ H ht) | cases ho
theorem execShi_keeps (e : Fin 512) (s : State) (t_ : State) (H : Closed P) (h_ : Holds P s) (e_ : execShi e s = .next t_) : Holds P t_ := by
  cases e_
  refine State.runOp_keeps _ _ _ H h_ fun o act t ho ht => ?_
  split at ho <;> first | (cases ho; simp [*]; done) | (cases ho; exact State.setEng_keeps _ _ _ H ht) | cases ho
theorem execMovil_keeps (e : Fin 512) (s : State) (t_ : State) (H : Closed P) (h_ : Holds P s) (e_ : execMovil e s = .next t_) : Holds P t_ := by
  cases e_
  refine State.runOp_keeps _ _ _ H h_ fun o act t ho ht => ?_
  split at ho <;> first | (cases ho; simp [*]; done) | (cases ho; exact State.setEng_keeps _ _ _ H ht) | cases ho
theorem execMovih_keeps (e : Fin 512) (s : State) (t_ : State) (H : Closed P) (h_ : Holds P s) (e_ : execMovih e s = .next t_) : Holds P t_ := by
  cases e_
  refine State.runOp_keeps _ _ _ H h_ fun o act t ho ht => ?_
  split at ho <;> first | (cases ho; simp [*]; done) | (cases ho; exact State.setEng_keeps _ _ _ H ht) | cases ho
@[simp] theorem State.issueRead_keeps (s : State) (e : Fin 512) (a : Nat) (H : Closed P) (h_ : Holds P s) : Holds P (State.issueRead s e a) := by
  unfold State.issueRead; repeat' (first | (simp +contextual (maxDischargeDepth := 60) [*]; done) | split | (dsimp only; split) | (simp +contextual (maxDischargeDepth := 60) [*]; split))
theorem State.readAt_keeps (s : State) (e : Fin 512) (y : Bool) (a n : Nat) (val : Option Nat) (k : Nat → State → Eff) (H : Closed P) (h_ : Holds P s)
    (hk : ∀ v t, Holds P t → (k v t).Sat P) : (s.readAt e y a n val k).Sat P := by
  unfold State.readAt
  repeat' split
  all_goals first | exact hk _ _ h_ | trivial | exact hk _ _ (by simp [*]) | (show Holds P _; simp [*])
@[simp] theorem ldEff_keeps (e : Fin 512) (r : Fin 16) (p : Fin 8) (sz am : Nat) (off : BitVec 15) (val : Option Nat) (s : State) (H : Closed P) (h_ : Holds P s) :
    (ldEff e r p sz am off val s).Sat P := State.readAt_keeps _ _ _ _ _ _ _ H h_ fun _ _ ht => complete_keeps _ _ _ H ht
theorem State.writeAt_keeps (s : State) (e : Fin 512) (y : Bool) (a n v : Nat) (k : State → Eff) (H : Closed P) (HM : ClosedMem P) (h_ : Holds P s)
    (hk : ∀ t, Holds P t → (k t).Sat P) : (s.writeAt e y a n v k).Sat P := by
  unfold State.writeAt
  repeat' split
  all_goals first | trivial | exact hk _ (State.store_keeps _ _ _ _ H HM h_) | exact hk _ (State.ioWrite_keeps _ _ _ _ H h_) | exact hk _ (State.setEng_keeps _ _ _ H h_)
theorem execLd_keeps (e : Fin 512) (s : State) (t_ : State) (H : Closed P) (h_ : Holds P s) (e_ : execLd e s = .next t_) : Holds P t_ := by
  cases e_
  refine State.runOp_keeps _ _ _ H h_ fun o act t ho ht => ?_
  split at ho <;> first | (cases ho; simp [*]; done) | (cases ho; exact State.setEng_keeps _ _ _ H ht) | cases ho
theorem execSt_keeps (e : Fin 512) (s : State) (t_ : State) (H : Closed P) (HM : ClosedMem P) (h_ : Holds P s) (e_ : execSt e s = .next t_) : Holds P t_ := by
  cases e_
  refine State.runOp_keeps _ _ _ H h_ fun o act t ho ht => ?_
  split at ho <;> first | (cases ho; exact State.writeAt_keeps _ _ _ _ _ _ _ H HM ht fun u hu => complete_keeps _ _ _ H hu) | cases ho
theorem execSta_keeps (e : Fin 512) (s : State) (t_ : State) (H : Closed P) (HM : ClosedMem P) (h_ : Holds P s) (e_ : execSta e s = .next t_) : Holds P t_ := by
  cases e_
  refine State.runOp_keeps _ _ _ H h_ fun o act t ho ht => ?_
  split at ho
  · cases ho
    dsimp only
    repeat' split
    all_goals first | trivial | exact State.writeAt_keeps _ _ _ _ _ _ _ H HM ht fun u hu => complete_keeps _ _ _ H hu
  · cases ho
@[simp] theorem mulEff_keeps (e : Fin 512) (f : MulFn) (a : Fin 4) (ra rb : Fin 16) (lx ly : ParLoad) (val : Option Nat) (s : State) (H : Closed P) (h_ : Holds P s) :
    (mulEff e f a ra rb lx ly val s).Sat P := by
  unfold mulEff; dsimp only
  split
  · trivial
  · have hx (vy : Nat) (t : State) (ht : Holds P t) : (if lx.code = 0 then complete e (fun x => ((x.mulAcc f a ra rb).parLoad false lx ⟨lx.ptr.val, by omega⟩ 0).parLoad true ly ⟨4 + ly.ptr.val, by omega⟩ vy) t
        else t.readAt e false ((s.eng e).p[(⟨lx.ptr.val, by omega⟩ : Fin 8)]).toNat 4 val fun vx => complete e fun x => ((x.mulAcc f a ra rb).parLoad false lx ⟨lx.ptr.val, by omega⟩ vx).parLoad true ly ⟨4 + ly.ptr.val, by omega⟩ vy).Sat P := by
      split
      · exact complete_keeps _ _ _ H ht
      · exact State.readAt_keeps _ _ _ _ _ _ _ H ht fun _ _ hu => complete_keeps _ _ _ H hu
    split
    · exact hx _ _ h_
    · exact State.readAt_keeps _ _ _ _ _ _ _ H h_ hx
theorem execMac_keeps (e : Fin 512) (s : State) (t_ : State) (H : Closed P) (h_ : Holds P s) (e_ : execMac e s = .next t_) : Holds P t_ := by
  cases e_
  refine State.runOp_keeps _ _ _ H h_ fun o act t ho ht => ?_
  split at ho <;> first | (cases ho; simp [*]; done) | (cases ho; exact State.setEng_keeps _ _ _ H ht) | cases ho
theorem execMsu_keeps (e : Fin 512) (s : State) (t_ : State) (H : Closed P) (h_ : Holds P s) (e_ : execMsu e s = .next t_) : Holds P t_ := by
  cases e_
  refine State.runOp_keeps _ _ _ H h_ fun o act t ho ht => ?_
  split at ho <;> first | (cases ho; simp [*]; done) | (cases ho; exact State.setEng_keeps _ _ _ H ht) | cases ho
theorem execMpy_keeps (e : Fin 512) (s : State) (t_ : State) (H : Closed P) (h_ : Holds P s) (e_ : execMpy e s = .next t_) : Holds P t_ := by
  cases e_
  refine State.runOp_keeps _ _ _ H h_ fun o act t ho ht => ?_
  split at ho <;> first | (cases ho; simp [*]; done) | (cases ho; exact State.setEng_keeps _ _ _ H ht) | cases ho
theorem execLdp_keeps (e : Fin 512) (s : State) (t_ : State) (H : Closed P) (h_ : Holds P s) (e_ : execLdp e s = .next t_) : Holds P t_ := by
  cases e_
  refine State.runOp_keeps _ _ _ H h_ fun o act t ho ht => ?_
  split at ho <;> first | (cases ho; simp [*]; done) | (cases ho; exact State.setEng_keeps _ _ _ H ht) | cases ho
@[simp] theorem accRow_keeps (e : Fin 512) (ad : Fin 4) (f : EngineState → Int) (s : State) (H : Closed P) (h_ : Holds P s) : (accRow e ad f s).Sat P := complete_keeps _ _ _ H h_
theorem execAclr_keeps (e : Fin 512) (s : State) (t_ : State) (H : Closed P) (h_ : Holds P s) (e_ : execAclr e s = .next t_) : Holds P t_ := by
  cases e_
  refine State.runOp_keeps _ _ _ H h_ fun o act t ho ht => ?_
  split at ho <;> first | (cases ho; simp [*]; done) | (cases ho; exact State.setEng_keeps _ _ _ H ht) | cases ho
theorem execAmov_keeps (e : Fin 512) (s : State) (t_ : State) (H : Closed P) (h_ : Holds P s) (e_ : execAmov e s = .next t_) : Holds P t_ := by
  cases e_
  refine State.runOp_keeps _ _ _ H h_ fun o act t ho ht => ?_
  split at ho <;> first | (cases ho; simp [*]; done) | (cases ho; exact State.setEng_keeps _ _ _ H ht) | cases ho
theorem execAadd_keeps (e : Fin 512) (s : State) (t_ : State) (H : Closed P) (h_ : Holds P s) (e_ : execAadd e s = .next t_) : Holds P t_ := by
  cases e_
  refine State.runOp_keeps _ _ _ H h_ fun o act t ho ht => ?_
  split at ho <;> first | (cases ho; simp [*]; done) | (cases ho; exact State.setEng_keeps _ _ _ H ht) | cases ho
theorem execAsub_keeps (e : Fin 512) (s : State) (t_ : State) (H : Closed P) (h_ : Holds P s) (e_ : execAsub e s = .next t_) : Holds P t_ := by
  cases e_
  refine State.runOp_keeps _ _ _ H h_ fun o act t ho ht => ?_
  split at ho <;> first | (cases ho; simp [*]; done) | (cases ho; exact State.setEng_keeps _ _ _ H ht) | cases ho
theorem execAneg_keeps (e : Fin 512) (s : State) (t_ : State) (H : Closed P) (h_ : Holds P s) (e_ : execAneg e s = .next t_) : Holds P t_ := by
  cases e_
  refine State.runOp_keeps _ _ _ H h_ fun o act t ho ht => ?_
  split at ho <;> first | (cases ho; simp [*]; done) | (cases ho; exact State.setEng_keeps _ _ _ H ht) | cases ho
theorem execAabs_keeps (e : Fin 512) (s : State) (t_ : State) (H : Closed P) (h_ : Holds P s) (e_ : execAabs e s = .next t_) : Holds P t_ := by
  cases e_
  refine State.runOp_keeps _ _ _ H h_ fun o act t ho ht => ?_
  split at ho <;> first | (cases ho; simp [*]; done) | (cases ho; exact State.setEng_keeps _ _ _ H ht) | cases ho
theorem execAshl_keeps (e : Fin 512) (s : State) (t_ : State) (H : Closed P) (h_ : Holds P s) (e_ : execAshl e s = .next t_) : Holds P t_ := by
  cases e_
  refine State.runOp_keeps _ _ _ H h_ fun o act t ho ht => ?_
  split at ho <;> first | (cases ho; simp [*]; done) | (cases ho; exact State.setEng_keeps _ _ _ H ht) | cases ho
theorem execAsar_keeps (e : Fin 512) (s : State) (t_ : State) (H : Closed P) (h_ : Holds P s) (e_ : execAsar e s = .next t_) : Holds P t_ := by
  cases e_
  refine State.runOp_keeps _ _ _ H h_ fun o act t ho ht => ?_
  split at ho <;> first | (cases ho; simp [*]; done) | (cases ho; exact State.setEng_keeps _ _ _ H ht) | cases ho
theorem execAload_keeps (e : Fin 512) (s : State) (t_ : State) (H : Closed P) (h_ : Holds P s) (e_ : execAload e s = .next t_) : Holds P t_ := by
  cases e_
  refine State.runOp_keeps _ _ _ H h_ fun o act t ho ht => ?_
  split at ho <;> first | (cases ho; simp [*]; done) | (cases ho; exact State.setEng_keeps _ _ _ H ht) | cases ho
theorem execAloadl_keeps (e : Fin 512) (s : State) (t_ : State) (H : Closed P) (h_ : Holds P s) (e_ : execAloadl e s = .next t_) : Holds P t_ := by
  cases e_
  refine State.runOp_keeps _ _ _ H h_ fun o act t ho ht => ?_
  split at ho <;> first | (cases ho; simp [*]; done) | (cases ho; exact State.setEng_keeps _ _ _ H ht) | cases ho
theorem execAst_keeps (e : Fin 512) (s : State) (t_ : State) (H : Closed P) (h_ : Holds P s) (e_ : execAst e s = .next t_) : Holds P t_ := by
  cases e_
  refine State.runOp_keeps _ _ _ H h_ fun o act t ho ht => ?_
  split at ho <;> first | (cases ho; simp [*]; done) | (cases ho; exact State.setEng_keeps _ _ _ H ht) | cases ho
theorem execAsat_keeps (e : Fin 512) (s : State) (t_ : State) (H : Closed P) (h_ : Holds P s) (e_ : execAsat e s = .next t_) : Holds P t_ := by
  cases e_
  refine State.runOp_keeps _ _ _ H h_ fun o act t ho ht => ?_
  split at ho <;> first | (cases ho; simp [*]; done) | (cases ho; exact State.setEng_keeps _ _ _ H ht) | cases ho
theorem execArnd_keeps (e : Fin 512) (s : State) (t_ : State) (H : Closed P) (h_ : Holds P s) (e_ : execArnd e s = .next t_) : Holds P t_ := by
  cases e_
  refine State.runOp_keeps _ _ _ H h_ fun o act t ho ht => ?_
  split at ho <;> first | (cases ho; simp [*]; done) | (cases ho; exact State.setEng_keeps _ _ _ H ht) | cases ho
theorem execNop_keeps (e : Fin 512) (s : State) (t_ : State) (H : Closed P) (h_ : Holds P s) (e_ : execNop e s = .next t_) : Holds P t_ := by
  cases e_
  refine State.runOp_keeps _ _ _ H h_ fun o act t ho ht => ?_
  split at ho <;> first | (cases ho; simp [*]; done) | (cases ho; exact State.setEng_keeps _ _ _ H ht) | cases ho
theorem execWait_keeps (e : Fin 512) (s : State) (t_ : State) (H : Closed P) (h_ : Holds P s) (e_ : execWait e s = .next t_) : Holds P t_ := by
  cases e_
  refine State.runOp_keeps _ _ _ H h_ fun o act t ho ht => ?_
  split at ho <;> first | (cases ho; simp [*]; done) | (cases ho; exact State.setEng_keeps _ _ _ H ht) | cases ho
theorem execRete_keeps (e : Fin 512) (s : State) (t_ : State) (H : Closed P) (h_ : Holds P s) (e_ : execRete e s = .next t_) : Holds P t_ := by
  cases e_
  refine State.runOp_keeps _ _ _ H h_ fun o act t ho ht => ?_
  split at ho <;> first | (cases ho; simp [*]; done) | (cases ho; exact State.setEng_keeps _ _ _ H ht) | cases ho
theorem execBrk_keeps (e : Fin 512) (s : State) (t_ : State) (H : Closed P) (h_ : Holds P s) (e_ : execBrk e s = .next t_) : Holds P t_ := by
  cases e_
  refine State.runOp_keeps _ _ _ H h_ fun o act t ho ht => ?_
  split at ho <;> first | (cases ho; trivial) | cases ho
theorem execMovs_keeps (e : Fin 512) (s : State) (t_ : State) (H : Closed P) (h_ : Holds P s) (e_ : execMovs e s = .next t_) : Holds P t_ := by
  cases e_
  refine State.runOp_keeps _ _ _ H h_ fun o act t ho ht => ?_
  split at ho <;> first | (cases ho; simp [*]; done) | (cases ho; exact State.setEng_keeps _ _ _ H ht) | cases ho
theorem execPadd_keeps (e : Fin 512) (s : State) (t_ : State) (H : Closed P) (h_ : Holds P s) (e_ : execPadd e s = .next t_) : Holds P t_ := by
  cases e_
  refine State.runOp_keeps _ _ _ H h_ fun o act t ho ht => ?_
  split at ho <;> first | (cases ho; simp [*]; done) | (cases ho; exact State.setEng_keeps _ _ _ H ht) | cases ho
@[simp] theorem modeRow_keeps (e : Fin 512) (w : ModeWrite) (s : State) (H : Closed P) (h_ : Holds P s) : (modeRow e w s).Sat P := complete_keeps _ _ _ H h_
theorem execMdset_keeps (e : Fin 512) (s : State) (t_ : State) (H : Closed P) (h_ : Holds P s) (e_ : execMdset e s = .next t_) : Holds P t_ := by
  cases e_
  refine State.runOp_keeps _ _ _ H h_ fun o act t ho ht => ?_
  split at ho <;> first | (cases ho; simp [*]; done) | (cases ho; exact State.setEng_keeps _ _ _ H ht) | cases ho
theorem execMdclr_keeps (e : Fin 512) (s : State) (t_ : State) (H : Closed P) (h_ : Holds P s) (e_ : execMdclr e s = .next t_) : Holds P t_ := by
  cases e_
  refine State.runOp_keeps _ _ _ H h_ fun o act t ho ht => ?_
  split at ho <;> first | (cases ho; simp [*]; done) | (cases ho; exact State.setEng_keeps _ _ _ H ht) | cases ho
@[simp] theorem branchRow_keeps (e : Fin 512) (c : Nat) (l : Bool) (g : EngineState → Nat) (s : State) (H : Closed P) (h_ : Holds P s) : (branchRow e c l g s).Sat P :=
  State.setEng_keeps _ _ _ H h_
theorem execB_keeps (e : Fin 512) (s : State) (t_ : State) (H : Closed P) (h_ : Holds P s) (e_ : execB e s = .next t_) : Holds P t_ := by
  cases e_
  refine State.runOp_keeps _ _ _ H h_ fun o act t ho ht => ?_
  split at ho <;> first | (cases ho; simp [*]; done) | (cases ho; exact State.setEng_keeps _ _ _ H ht) | cases ho
theorem execBr_keeps (e : Fin 512) (s : State) (t_ : State) (H : Closed P) (h_ : Holds P s) (e_ : execBr e s = .next t_) : Holds P t_ := by
  cases e_
  refine State.runOp_keeps _ _ _ H h_ fun o act t ho ht => ?_
  split at ho <;> first | (cases ho; simp [*]; done) | (cases ho; exact State.setEng_keeps _ _ _ H ht) | cases ho
theorem execCall_keeps (e : Fin 512) (s : State) (t_ : State) (H : Closed P) (h_ : Holds P s) (e_ : execCall e s = .next t_) : Holds P t_ := by
  cases e_
  refine State.runOp_keeps _ _ _ H h_ fun o act t ho ht => ?_
  split at ho <;> first | (cases ho; simp [*]; done) | (cases ho; exact State.setEng_keeps _ _ _ H ht) | cases ho
theorem execCallr_keeps (e : Fin 512) (s : State) (t_ : State) (H : Closed P) (h_ : Holds P s) (e_ : execCallr e s = .next t_) : Holds P t_ := by
  cases e_
  refine State.runOp_keeps _ _ _ H h_ fun o act t ho ht => ?_
  split at ho <;> first | (cases ho; simp [*]; done) | (cases ho; exact State.setEng_keeps _ _ _ H ht) | cases ho
theorem execLoopOp_keeps (e : Fin 512) (s : State) (t_ : State) (H : Closed P) (h_ : Holds P s) (e_ : execLoopOp e s = .next t_) : Holds P t_ := by
  cases e_
  refine State.runOp_keeps _ _ _ H h_ fun o act t ho ht => ?_
  split at ho <;> first | (cases ho; simp [*]; done) | (cases ho; exact State.setEng_keeps _ _ _ H ht) | cases ho
theorem execLpop_keeps (e : Fin 512) (s : State) (t_ : State) (H : Closed P) (h_ : Holds P s) (e_ : execLpop e s = .next t_) : Holds P t_ := by
  cases e_
  refine State.runOp_keeps _ _ _ H h_ fun o act t ho ht => ?_
  split at ho <;> first | (cases ho; simp [*]; done) | (cases ho; exact State.setEng_keeps _ _ _ H ht) | cases ho
@[simp] theorem State.resumeOp_keeps (s : State) (e : Fin 512) (v : Nat) (H : Closed P) (h_ : Holds P s) : Holds P (s.resumeOp e v) := by
  have ht : Holds P (s.setEng e fun x => { x with stall := none }) := State.setEng_keeps _ _ _ H h_
  unfold State.resumeOp; dsimp only
  split
  · exact Eff.sat_keeps _ _ _ _ H h_ ht (ldEff_keeps _ _ _ _ _ _ _ _ H ht)
  · exact Eff.sat_keeps _ _ _ _ H h_ ht (mulEff_keeps _ _ _ _ _ _ _ _ _ H ht)
  · exact h_
theorem execSharedReadComplete_keeps (e : Fin 512) (s : State) (t_ : State) (H : Closed P) (h_ : Holds P s) (e_ : execSharedReadComplete e s = .next t_) : Holds P t_ := by
  simp only [execSharedReadComplete, Host.Outcome.next.injEq] at e_; subst e_; repeat' (first | (simp +contextual (maxDischargeDepth := 60) [*]; done) | split | (dsimp only; split) | (simp +contextual (maxDischargeDepth := 60) [*]; split))
@[simp] theorem State.setTrunk_keeps (s : State) (i : Fin 8) (f : Trunk → Trunk) (H : Closed P) (h : Holds P s) : Holds P (s.setTrunk i f) := H.setTrunk s i f h
@[simp] theorem State.setPrf_keeps (s : State) (a : Fin 64) (f : Profile → Profile) (H : Closed P) (h_ : Holds P s) : Holds P (State.setPrf s a f) := by
  unfold State.setPrf; repeat' (first | (simp +contextual (maxDischargeDepth := 60) [*]; done) | split | (dsimp only; split) | (simp +contextual (maxDischargeDepth := 60) [*]; split))
@[simp] theorem State.trkValid_keeps (s : State) (k : Fin 8) (on : Bool) (H : Closed P) (h_ : Holds P s) : Holds P (State.trkValid s k on) := by
  unfold State.trkValid; repeat' (first | (simp +contextual (maxDischargeDepth := 60) [*]; done) | split | (dsimp only; split) | (simp +contextual (maxDischargeDepth := 60) [*]; split))
@[simp] theorem State.trkCounts_keeps (s : State) (k : Fin 8) (H : Closed P) (h_ : Holds P s) : Holds P (State.trkCounts s k) := by
  unfold State.trkCounts; repeat' (first | (simp +contextual (maxDischargeDepth := 60) [*]; done) | split | (dsimp only; split) | (simp +contextual (maxDischargeDepth := 60) [*]; split))
@[simp] theorem State.trkActivate_keeps (s : State) (k : Fin 8) (tick : Nat) (H : Closed P) (h_ : Holds P s) : Holds P (State.trkActivate s k tick) := by
  unfold State.trkActivate; repeat' (first | (simp +contextual (maxDischargeDepth := 60) [*]; done) | split | (dsimp only; split) | (simp +contextual (maxDischargeDepth := 60) [*]; split))
@[simp] theorem State.trkAsk_keeps (s : State) (k : Fin 8) (tick : Nat) (H : Closed P) (h_ : Holds P s) : Holds P (State.trkAsk s k tick) := by
  unfold State.trkAsk; repeat' (first | (simp +contextual (maxDischargeDepth := 60) [*]; done) | split | (dsimp only; split) | (simp +contextual (maxDischargeDepth := 60) [*]; split))
@[simp] theorem State.trkAnchor_keeps (s : State) (k : Fin 8) (x : Int) (tick : Nat) (old : Option Int) (H : Closed P) (h_ : Holds P s) : Holds P (State.trkAnchor s k x tick old) := by
  unfold State.trkAnchor; repeat' (first | (simp +contextual (maxDischargeDepth := 60) [*]; done) | split | (dsimp only; split) | (simp +contextual (maxDischargeDepth := 60) [*]; split))
@[simp] theorem State.trkSnap_keeps (s : State) (k : Fin 8) (delta : Int) (H : Closed P) (h_ : Holds P s) : Holds P (State.trkSnap s k delta) := by
  unfold State.trkSnap; repeat' (first | (simp +contextual (maxDischargeDepth := 60) [*]; done) | split | (dsimp only; split) | (simp +contextual (maxDischargeDepth := 60) [*]; split))
@[simp] theorem State.trkStart_keeps (s : State) (k : Fin 8) (H : Closed P) (h_ : Holds P s) : Holds P (State.trkStart s k) := by
  have h1 : Holds P ((s.setTrunk k fun t => { t with active := none, anchor := none }).trkCounts k) := by simp [*]
  unfold State.trkStart
  dsimp only
  split
  · split
    · refine State.trkValid_keeps _ _ _ H ?_
      split
      · exact State.setTrunk_keeps _ _ _ H h1
      · exact h1
    · exact h1
  · split
    · split
      · exact State.trkValid_keeps _ _ _ H (State.setTrunk_keeps _ _ _ H h1)
      · exact h1
    · exact h1
@[simp] theorem State.writeTrkCtrl_keeps (s : State) (k : Fin 8) (v : Nat) (H : Closed P) (h_ : Holds P s) : Holds P (State.writeTrkCtrl s k v) := by
  unfold State.writeTrkCtrl; repeat' (first | (simp +contextual (maxDischargeDepth := 60) [*]; done) | split | (dsimp only; split) | (simp +contextual (maxDischargeDepth := 60) [*]; split))
@[simp] theorem State.pushSeg_keeps (s : State) (k : Fin 8) (H : Closed P) (h_ : Holds P s) : Holds P (State.pushSeg s k) := by
  unfold State.pushSeg; repeat' (first | (simp +contextual (maxDischargeDepth := 60) [*]; done) | split | (dsimp only; split) | (simp +contextual (maxDischargeDepth := 60) [*]; split))
theorem execTrkSegPush_keeps (k : Fin 8) (s : State) (t_ : State) (H : Closed P) (h_ : Holds P s) (e_ : execTrkSegPush k s = .next t_) : Holds P t_ := by
  simp only [execTrkSegPush, Host.Outcome.next.injEq] at e_; subst e_; repeat' (first | (simp +contextual (maxDischargeDepth := 60) [*]; done) | split | (dsimp only; split) | (simp +contextual (maxDischargeDepth := 60) [*]; split))
theorem execTrkEnable_keeps (k : Fin 8) (v : Word) (s : State) (t_ : State) (H : Closed P) (h_ : Holds P s) (e_ : execTrkEnable k v s = .next t_) : Holds P t_ := by
  simp only [execTrkEnable, Host.Outcome.next.injEq] at e_; subst e_; repeat' (first | (simp +contextual (maxDischargeDepth := 60) [*]; done) | split | (dsimp only; split) | (simp +contextual (maxDischargeDepth := 60) [*]; split))
theorem execFlush_keeps (k : Fin 8) (s : State) (t_ : State) (H : Closed P) (h_ : Holds P s) (e_ : execFlush k s = .next t_) : Holds P t_ := by
  simp only [execFlush, Host.Outcome.next.injEq] at e_; subst e_; repeat' (first | (simp +contextual (maxDischargeDepth := 60) [*]; done) | split | (dsimp only; split) | (simp +contextual (maxDischargeDepth := 60) [*]; split))
@[simp] theorem State.readTrkPos_keeps (s : State) (q : Nat) (k : Fin 8) (H : Closed P) (h_ : Holds P s) : Holds P (State.readTrkPos s q k) := by
  unfold State.readTrkPos; repeat' (first | (simp +contextual (maxDischargeDepth := 60) [*]; done) | split | (dsimp only; split) | (simp +contextual (maxDischargeDepth := 60) [*]; split))
theorem execTrkPosRead_keeps (q : Fin 514) (k : Fin 8) (s : State) (t_ : State) (H : Closed P) (h_ : Holds P s) (e_ : execTrkPosRead q k s = .next t_) : Holds P t_ := by
  simp only [execTrkPosRead, Host.Outcome.next.injEq] at e_; subst e_; repeat' (first | (simp +contextual (maxDischargeDepth := 60) [*]; done) | split | (dsimp only; split) | (simp +contextual (maxDischargeDepth := 60) [*]; split))
@[simp] theorem State.setTooth_keeps (s : State) (i : Fin 16) (f : ToothUnit → ToothUnit) (H : Closed P) (h : Holds P s) : Holds P (s.setTooth i f) := H.setTooth s i f h
@[simp] theorem State.toothLand_keeps (s : State) (i : Fin 8) (j : Fin 2) (lvl : Bool) (t0 : Nat) (H : Closed P) (h_ : Holds P s) : Holds P (State.toothLand s i j lvl t0) := by
  unfold State.toothLand; repeat' (first | (simp +contextual (maxDischargeDepth := 60) [*]; done) | split | (dsimp only; split) | (simp +contextual (maxDischargeDepth := 60) [*]; split))
theorem execToothInputEdge_keeps (s : Fin 8) (j : Fin 2) (lvl : Bool) (t0 : Nat) (st : State) (t_ : State) (H : Closed P) (h_ : Holds P st) (e_ : execToothInputEdge s j lvl t0 st = .next t_) : Holds P t_ := by
  simp only [execToothInputEdge, Host.Outcome.next.injEq] at e_; subst e_; repeat' (first | (simp +contextual (maxDischargeDepth := 60) [*]; done) | split | (dsimp only; split) | (simp +contextual (maxDischargeDepth := 60) [*]; split))
@[simp] theorem State.toothShow_keeps (s : State) (t : Fin 16) (H : Closed P) (h_ : Holds P s) : Holds P (State.toothShow s t) := by
  unfold State.toothShow; repeat' (first | (simp +contextual (maxDischargeDepth := 60) [*]; done) | split | (dsimp only; split) | (simp +contextual (maxDischargeDepth := 60) [*]; split))
@[simp] theorem State.toothEnter_keeps (s : State) (t : Fin 16) (st : Nat) (H : Closed P) (h_ : Holds P s) : Holds P (State.toothEnter s t st) := by
  unfold State.toothEnter; repeat' (first | (simp +contextual (maxDischargeDepth := 60) [*]; done) | split | (dsimp only; split) | (simp +contextual (maxDischargeDepth := 60) [*]; split))
@[simp] theorem State.toothSearch_keeps (s : State) (t : Fin 16) (H : Closed P) (h_ : Holds P s) : Holds P (State.toothSearch s t) := by
  unfold State.toothSearch; repeat' (first | (simp +contextual (maxDischargeDepth := 60) [*]; done) | split | (dsimp only; split) | (simp +contextual (maxDischargeDepth := 60) [*]; split))
@[simp] theorem State.toothAnchor_keeps (s s0 : State) (t : Fin 16) (H : Closed P) (h_ : Holds P s) : Holds P (State.toothAnchor s s0 t) := by
  unfold State.toothAnchor; repeat' (first | (simp +contextual (maxDischargeDepth := 60) [*]; done) | split | (dsimp only; split) | (simp +contextual (maxDischargeDepth := 60) [*]; split))
@[simp] theorem State.toothCorrect_keeps (s : State) (t : Fin 16) (snap : Bool) (delta : Int) (from_ : Nat) (H : Closed P) (h_ : Holds P s) : Holds P (State.toothCorrect s t snap delta from_) := by
  unfold State.toothCorrect; repeat' (first | (simp +contextual (maxDischargeDepth := 60) [*]; done) | split | (dsimp only; split) | (simp +contextual (maxDischargeDepth := 60) [*]; split))
@[simp] theorem State.toothAdvance_keeps (s : State) (t : Fin 16) (n : Nat) (H : Closed P) (h_ : Holds P s) : Holds P (State.toothAdvance s t n) := by
  unfold State.toothAdvance; repeat' (first | (simp +contextual (maxDischargeDepth := 60) [*]; done) | split | (dsimp only; split) | (simp +contextual (maxDischargeDepth := 60) [*]; split))
@[simp] theorem State.toothPublish_keeps (s : State) (t : Fin 16) (tick span : Nat) (virt unal : Bool) (H : Closed P) (h_ : Holds P s) : Holds P (State.toothPublish s t tick span virt unal) := by
  unfold State.toothPublish; repeat' (first | (simp +contextual (maxDischargeDepth := 60) [*]; done) | split | (dsimp only; split) | (simp +contextual (maxDischargeDepth := 60) [*]; split))
@[simp] theorem State.toothRetime_keeps (s : State) (t : Fin 16) (tf : Nat) (H : Closed P) (h_ : Holds P s) : Holds P (State.toothRetime s t tf) := by
  unfold State.toothRetime; repeat' (first | (simp +contextual (maxDischargeDepth := 60) [*]; done) | split | (dsimp only; split) | (simp +contextual (maxDischargeDepth := 60) [*]; split))
@[simp] theorem State.toothPitch_keeps (s : State) (t : Fin 16) (tf span : Nat) (H : Closed P) (h_ : Holds P s) : Holds P (State.toothPitch s t tf span) := by
  unfold State.toothPitch; repeat' (first | (simp +contextual (maxDischargeDepth := 60) [*]; done) | split | (dsimp only; split) | (simp +contextual (maxDischargeDepth := 60) [*]; split))
@[simp] theorem State.toothPlain_keeps (s : State) (t : Fin 16) (tick : Nat) (unal : Bool) (H : Closed P) (h_ : Holds P s) : Holds P (State.toothPlain s t tick unal) := by
  unfold State.toothPlain; repeat' (first | (simp +contextual (maxDischargeDepth := 60) [*]; done) | split | (dsimp only; split) | (simp +contextual (maxDischargeDepth := 60) [*]; split))
@[simp] theorem State.toothRef_keeps (s : State) (t : Fin 16) (tick span counted : Nat) (unal : Bool) (H : Closed P) (h_ : Holds P s) : Holds P (State.toothRef s t tick span counted unal) := by
  unfold State.toothRef; repeat' (first | (simp +contextual (maxDischargeDepth := 60) [*]; done) | split | (dsimp only; split) | (simp +contextual (maxDischargeDepth := 60) [*]; split))
@[simp] theorem State.toothSyncLoss_keeps (s : State) (t : Fin 16) (H : Closed P) (h_ : Holds P s) : Holds P (State.toothSyncLoss s t) := by
  unfold State.toothSyncLoss; repeat' (first | (simp +contextual (maxDischargeDepth := 60) [*]; done) | split | (dsimp only; split) | (simp +contextual (maxDischargeDepth := 60) [*]; split))
@[simp] theorem State.toothNoise_keeps (s : State) (t : Fin 16) (tick : Nat) (H : Closed P) (h_ : Holds P s) : Holds P (State.toothNoise s t tick) := by
  unfold State.toothNoise; repeat' (first | (simp +contextual (maxDischargeDepth := 60) [*]; done) | split | (dsimp only; split) | (simp +contextual (maxDischargeDepth := 60) [*]; split))
@[simp] theorem State.toothVirtual_keeps (s : State) (t : Fin 16) (H : Closed P) (h_ : Holds P s) : Holds P (State.toothVirtual s t) := by
  unfold State.toothVirtual; repeat' (first | (simp +contextual (maxDischargeDepth := 60) [*]; done) | split | (dsimp only; split) | (simp +contextual (maxDischargeDepth := 60) [*]; split))
@[simp] theorem State.toothCatchUp_keeps (s : State) (t : Fin 16) (tick : Nat) (y0 : Nat) (H : Closed P) (h_ : Holds P s) : Holds P (State.toothCatchUp s t tick y0) := by
  fun_induction State.toothCatchUp s t tick y0 <;> (first | (simp_all; done) | (repeat' (first | (simp_all; done) | split)))
theorem execVirtualTooth_keeps (t : Fin 16) (s : State) (t_ : State) (H : Closed P) (h_ : Holds P s) (e_ : execVirtualTooth t s = .next t_) : Holds P t_ := by
  simp only [execVirtualTooth, Host.Outcome.next.injEq] at e_; subst e_; repeat' (first | (simp +contextual (maxDischargeDepth := 60) [*]; done) | split | (dsimp only; split) | (simp +contextual (maxDischargeDepth := 60) [*]; split))
@[simp] theorem State.toothAccept_keeps (s : State) (t : Fin 16) (tick d e : Nat) (unal : Bool) (H : Closed P) (h_ : Holds P s) : Holds P (State.toothAccept s t tick d e unal) := by
  unfold State.toothAccept; repeat' (first | (simp +contextual (maxDischargeDepth := 60) [*]; done) | split | (dsimp only; split) | (simp +contextual (maxDischargeDepth := 60) [*]; split))
@[simp] theorem State.toothJudge_keeps (s : State) (t : Fin 16) (tick d e : Nat) (unal : Bool) (H : Closed P) (h_ : Holds P s) : Holds P (State.toothJudge s t tick d e unal) := by
  unfold State.toothJudge; repeat' (first | (simp +contextual (maxDischargeDepth := 60) [*]; done) | split | (dsimp only; split) | (simp +contextual (maxDischargeDepth := 60) [*]; split))
@[simp] theorem State.toothEdge_keeps (s : State) (t : Fin 16) (stamp : Nat) (unal : Bool) (H : Closed P) (h_ : Holds P s) : Holds P (State.toothEdge s t stamp unal) := by
  unfold State.toothEdge; repeat' (first | (simp +contextual (maxDischargeDepth := 60) [*]; done) | split | (dsimp only; split) | (simp +contextual (maxDischargeDepth := 60) [*]; split))
theorem execToothStill_keeps (t : Fin 16) (s : State) (t_ : State) (H : Closed P) (h_ : Holds P s) (e_ : execToothStill t s = .next t_) : Holds P t_ := by
  simp only [execToothStill, Host.Outcome.next.injEq] at e_; subst e_; repeat' (first | (simp +contextual (maxDischargeDepth := 60) [*]; done) | split | (dsimp only; split) | (simp +contextual (maxDischargeDepth := 60) [*]; split))
@[simp] theorem State.writeToothCtrl_keeps (s : State) (t : Fin 16) (v : Nat) (H : Closed P) (h_ : Holds P s) : Holds P (State.writeToothCtrl s t v) := by
  unfold State.writeToothCtrl; repeat' (first | (simp +contextual (maxDischargeDepth := 60) [*]; done) | split | (dsimp only; split) | (simp +contextual (maxDischargeDepth := 60) [*]; split))
theorem execToothEnable_keeps (t : Fin 16) (v : BitVec 24) (s : State) (t_ : State) (H : Closed P) (h_ : Holds P s) (e_ : execToothEnable t v s = .next t_) : Holds P t_ := by
  simp only [execToothEnable, Host.Outcome.next.injEq] at e_; subst e_; repeat' (first | (simp +contextual (maxDischargeDepth := 60) [*]; done) | split | (dsimp only; split) | (simp +contextual (maxDischargeDepth := 60) [*]; split))
theorem execResearch_keeps (t : Fin 16) (s : State) (t_ : State) (H : Closed P) (h_ : Holds P s) (e_ : execResearch t s = .next t_) : Holds P t_ := by
  simp only [execResearch, Host.Outcome.next.injEq] at e_; subst e_; repeat' (first | (simp +contextual (maxDischargeDepth := 60) [*]; done) | split | (dsimp only; split) | (simp +contextual (maxDischargeDepth := 60) [*]; split))
@[simp] theorem State.readToothPos_keeps (s : State) (q : Nat) (t : Fin 16) (H : Closed P) (h_ : Holds P s) : Holds P (State.readToothPos s q t) := by
  unfold State.readToothPos; repeat' (first | (simp +contextual (maxDischargeDepth := 60) [*]; done) | split | (dsimp only; split) | (simp +contextual (maxDischargeDepth := 60) [*]; split))
theorem execToothPosRead_keeps (q : Fin 514) (t : Fin 16) (s : State) (t_ : State) (H : Closed P) (h_ : Holds P s) (e_ : execToothPosRead q t s = .next t_) : Holds P t_ := by
  simp only [execToothPosRead, Host.Outcome.next.injEq] at e_; subst e_; repeat' (first | (simp +contextual (maxDischargeDepth := 60) [*]; done) | split | (dsimp only; split) | (simp +contextual (maxDischargeDepth := 60) [*]; split))
@[simp] theorem State.prfShow_keeps (s : State) (a : Fin 64) (H : Closed P) (h_ : Holds P s) : Holds P (State.prfShow s a) := by
  unfold State.prfShow; repeat' (first | (simp +contextual (maxDischargeDepth := 60) [*]; done) | split | (dsimp only; split) | (simp +contextual (maxDischargeDepth := 60) [*]; split))
@[simp] theorem State.prfEnter_keeps (s : State) (a : Fin 64) (st : PrfSt) (H : Closed P) (h_ : Holds P s) : Holds P (State.prfEnter s a st) := by
  unfold State.prfEnter; repeat' (first | (simp +contextual (maxDischargeDepth := 60) [*]; done) | split | (dsimp only; split) | (simp +contextual (maxDischargeDepth := 60) [*]; split))
@[simp] theorem State.engDone_keeps (s : State) (a : Fin 64) (x xt : Int) (H : Closed P) (h_ : Holds P s) : Holds P (State.engDone s a x xt) := by
  unfold State.engDone; repeat' (first | (simp +contextual (maxDischargeDepth := 60) [*]; done) | split | (dsimp only; split) | (simp +contextual (maxDischargeDepth := 60) [*]; split))
@[simp] theorem State.branchStep_keeps (s : State) (a : Fin 64) (ref : Int) (per : Nat) (H : Closed P) (h_ : Holds P s) : Holds P (State.branchStep s a ref per).1 := by
  unfold State.branchStep; repeat' (first | (simp +contextual (maxDischargeDepth := 60) [*]; done) | split | (dsimp only; split) | (simp +contextual (maxDischargeDepth := 60) [*]; split))
@[simp] theorem State.startPath_keeps (s : State) (a : Fin 64) (H : Closed P) (h_ : Holds P s) : Holds P (State.startPath s a) := by
  unfold State.startPath; repeat' (first | (simp +contextual (maxDischargeDepth := 60) [*]; done) | split | (dsimp only; split) | (simp +contextual (maxDischargeDepth := 60) [*]; split))
@[simp] theorem State.setWhy_keeps (s : State) (a : Fin 64) (why : Nat) (H : Closed P) (h_ : Holds P s) : Holds P (State.setWhy s a why) := by
  unfold State.setWhy; repeat' (first | (simp +contextual (maxDischargeDepth := 60) [*]; done) | split | (dsimp only; split) | (simp +contextual (maxDischargeDepth := 60) [*]; split))
@[simp] theorem State.stopPath_keeps (s : State) (a : Fin 64) (H : Closed P) (h_ : Holds P s) : Holds P (State.stopPath s a) := by
  unfold State.stopPath; repeat' (first | (simp +contextual (maxDischargeDepth := 60) [*]; done) | split | (dsimp only; split) | (simp +contextual (maxDischargeDepth := 60) [*]; split))
@[simp] theorem State.prfStop_keeps (s : State) (a : Fin 64) (why : Nat) (sp : SetPoint) (H : Closed P) (h_ : Holds P s) : Holds P (State.prfStop s a why sp) := by
  unfold State.prfStop; repeat' (first | (simp +contextual (maxDischargeDepth := 60) [*]; done) | split | (dsimp only; split) | (simp +contextual (maxDischargeDepth := 60) [*]; split))
@[simp] theorem State.prfGate_keeps (s : State) (a : Fin 64) (H : Closed P) (h_ : Holds P s) : Holds P (State.prfGate s a) := by
  unfold State.prfGate; repeat' (first | (simp +contextual (maxDischargeDepth := 60) [*]; done) | split | (dsimp only; split) | (simp +contextual (maxDischargeDepth := 60) [*]; split))
@[simp] theorem State.prfReject_keeps (s : State) (a : Fin 64) (why : Nat) (H : Closed P) (h_ : Holds P s) : Holds P (State.prfReject s a why) := by
  unfold State.prfReject; repeat' (first | (simp +contextual (maxDischargeDepth := 60) [*]; done) | split | (dsimp only; split) | (simp +contextual (maxDischargeDepth := 60) [*]; split))
@[simp] theorem State.startGear_keeps (s : State) (a : Fin 64) (k : Fin 8) (sp : SetPoint) (xt vt : Int) (H : Closed P) (h_ : Holds P s) : Holds P (State.startGear s a k sp xt vt) := by
  unfold State.startGear; repeat' (first | (simp +contextual (maxDischargeDepth := 60) [*]; done) | split | (dsimp only; split) | (simp +contextual (maxDischargeDepth := 60) [*]; split))
@[simp] theorem State.cmdGear_keeps (s : State) (a : Fin 64) (sp : SetPoint) (ref : Int) (H : Closed P) (h_ : Holds P s) : Holds P (State.cmdGear s a sp ref) := by
  unfold State.cmdGear; repeat' (first | (simp +contextual (maxDischargeDepth := 60) [*]; done) | split | (dsimp only; split) | (simp +contextual (maxDischargeDepth := 60) [*]; split))
@[simp] theorem State.cmdPlan_keeps (s : State) (a : Fin 64) (st : PrfSt) (plan : Plan) (H : Closed P) (h_ : Holds P s) : Holds P (State.cmdPlan s a st plan) := by
  unfold State.cmdPlan; repeat' (first | (simp +contextual (maxDischargeDepth := 60) [*]; done) | split | (dsimp only; split) | (simp +contextual (maxDischargeDepth := 60) [*]; split))
@[simp] theorem State.cmdMove_keeps (s : State) (a : Fin 64) (sp : SetPoint) (H : Closed P) (h_ : Holds P s) : Holds P (State.cmdMove s a sp) := by
  unfold State.cmdMove; repeat' (first | (simp +contextual (maxDischargeDepth := 60) [*]; done) | split | (dsimp only; split) | (simp +contextual (maxDischargeDepth := 60) [*]; split))
@[simp] theorem State.cmdVel_keeps (s : State) (a : Fin 64) (sp : SetPoint) (H : Closed P) (h_ : Holds P s) : Holds P (State.cmdVel s a sp) := by
  unfold State.cmdVel; repeat' (first | (simp +contextual (maxDischargeDepth := 60) [*]; done) | split | (dsimp only; split) | (simp +contextual (maxDischargeDepth := 60) [*]; split))
@[simp] theorem State.cmdPath_keeps (s : State) (a : Fin 64) (H : Closed P) (h_ : Holds P s) : Holds P (State.cmdPath s a) := by
  unfold State.cmdPath; repeat' (first | (simp +contextual (maxDischargeDepth := 60) [*]; done) | split | (dsimp only; split) | (simp +contextual (maxDischargeDepth := 60) [*]; split))
@[simp] theorem State.takeCmd_keeps (s : State) (a : Fin 64) (sp : SetPoint) (ref : Int) (H : Closed P) (h_ : Holds P s) : Holds P (State.takeCmd s a sp ref) := by
  unfold State.takeCmd; repeat' (first | (simp +contextual (maxDischargeDepth := 60) [*]; done) | split | (dsimp only; split) | (simp +contextual (maxDischargeDepth := 60) [*]; split))
@[simp] theorem State.prfMotion_keeps (s : State) (a : Fin 64) (ref : Int) (per : Nat) (H : Closed P) (h_ : Holds P s) : Holds P (State.prfMotion s a ref per).1 := by
  unfold State.prfMotion; repeat' (first | (simp +contextual (maxDischargeDepth := 60) [*]; done) | split | (dsimp only; split) | (simp +contextual (maxDischargeDepth := 60) [*]; split))
@[simp] theorem State.prfComputeAt_keeps (s : State) (a : Fin 64) (ref : Int) (H : Closed P) (h_ : Holds P s) : Holds P (State.prfComputeAt s a ref) := by
  unfold State.prfComputeAt; repeat' (first | (simp +contextual (maxDischargeDepth := 60) [*]; done) | split | (dsimp only; split) | (simp +contextual (maxDischargeDepth := 60) [*]; split))
theorem execSetpointCompute_keeps (a : Fin 64) (s : State) (t_ : State) (H : Closed P) (h_ : Holds P s) (e_ : execSetpointCompute a s = .next t_) : Holds P t_ := by
  simp only [execSetpointCompute, Host.Outcome.next.injEq] at e_; subst e_; repeat' (first | (simp +contextual (maxDischargeDepth := 60) [*]; done) | split | (dsimp only; split) | (simp +contextual (maxDischargeDepth := 60) [*]; split))
@[simp] theorem State.prfPromote_keeps (s : State) (a : Fin 64) (stamp : Nat) (H : Closed P) (h_ : Holds P s) : Holds P (State.prfPromote s a stamp) := by
  unfold State.prfPromote; repeat' (first | (simp +contextual (maxDischargeDepth := 60) [*]; done) | split | (dsimp only; split) | (simp +contextual (maxDischargeDepth := 60) [*]; split))
@[simp] theorem State.prfCmd_keeps (s : State) (a : Fin 64) (bit : Nat) (H : Closed P) (h_ : Holds P s) : Holds P (State.prfCmd s a bit) := by
  unfold State.prfCmd; repeat' (first | (simp +contextual (maxDischargeDepth := 60) [*]; done) | split | (dsimp only; split) | (simp +contextual (maxDischargeDepth := 60) [*]; split))
theorem execMove_keeps (a : Fin 64) (s : State) (t_ : State) (H : Closed P) (h_ : Holds P s) (e_ : execMove a s = .next t_) : Holds P t_ := by
  simp only [execMove, Host.Outcome.next.injEq] at e_; subst e_; repeat' (first | (simp +contextual (maxDischargeDepth := 60) [*]; done) | split | (dsimp only; split) | (simp +contextual (maxDischargeDepth := 60) [*]; split))
theorem execVel_keeps (a : Fin 64) (s : State) (t_ : State) (H : Closed P) (h_ : Holds P s) (e_ : execVel a s = .next t_) : Holds P t_ := by
  simp only [execVel, Host.Outcome.next.injEq] at e_; subst e_; repeat' (first | (simp +contextual (maxDischargeDepth := 60) [*]; done) | split | (dsimp only; split) | (simp +contextual (maxDischargeDepth := 60) [*]; split))
theorem execGear_keeps (a : Fin 64) (s : State) (t_ : State) (H : Closed P) (h_ : Holds P s) (e_ : execGear a s = .next t_) : Holds P t_ := by
  simp only [execGear, Host.Outcome.next.injEq] at e_; subst e_; repeat' (first | (simp +contextual (maxDischargeDepth := 60) [*]; done) | split | (dsimp only; split) | (simp +contextual (maxDischargeDepth := 60) [*]; split))
theorem execStop_keeps (a : Fin 64) (s : State) (t_ : State) (H : Closed P) (h_ : Holds P s) (e_ : execStop a s = .next t_) : Holds P t_ := by
  simp only [execStop, Host.Outcome.next.injEq] at e_; subst e_; repeat' (first | (simp +contextual (maxDischargeDepth := 60) [*]; done) | split | (dsimp only; split) | (simp +contextual (maxDischargeDepth := 60) [*]; split))
theorem execPath_keeps (a : Fin 64) (s : State) (t_ : State) (H : Closed P) (h_ : Holds P s) (e_ : execPath a s = .next t_) : Holds P t_ := by
  simp only [execPath, Host.Outcome.next.injEq] at e_; subst e_; repeat' (first | (simp +contextual (maxDischargeDepth := 60) [*]; done) | split | (dsimp only; split) | (simp +contextual (maxDischargeDepth := 60) [*]; split))
@[simp] theorem State.readPrfSp_keeps (s : State) (q : Nat) (a : Fin 64) (H : Closed P) (h_ : Holds P s) : Holds P (State.readPrfSp s q a) := by
  unfold State.readPrfSp; repeat' (first | (simp +contextual (maxDischargeDepth := 60) [*]; done) | split | (dsimp only; split) | (simp +contextual (maxDischargeDepth := 60) [*]; split))
theorem execPrfSpRead_keeps (q : Fin 514) (a : Fin 64) (s : State) (t_ : State) (H : Closed P) (h_ : Holds P s) (e_ : execPrfSpRead q a s = .next t_) : Holds P t_ := by
  simp only [execPrfSpRead, Host.Outcome.next.injEq] at e_; subst e_; repeat' (first | (simp +contextual (maxDischargeDepth := 60) [*]; done) | split | (dsimp only; split) | (simp +contextual (maxDischargeDepth := 60) [*]; split))
@[simp] theorem State.readBrOfs_keeps (s : State) (q : Nat) (a : Fin 64) (H : Closed P) (h_ : Holds P s) : Holds P (State.readBrOfs s q a) := by
  unfold State.readBrOfs; repeat' (first | (simp +contextual (maxDischargeDepth := 60) [*]; done) | split | (dsimp only; split) | (simp +contextual (maxDischargeDepth := 60) [*]; split))
theorem execBrOfsNowRead_keeps (q : Fin 514) (a : Fin 64) (s : State) (t_ : State) (H : Closed P) (h_ : Holds P s) (e_ : execBrOfsNowRead q a s = .next t_) : Holds P t_ := by
  simp only [execBrOfsNowRead, Host.Outcome.next.injEq] at e_; subst e_; repeat' (first | (simp +contextual (maxDischargeDepth := 60) [*]; done) | split | (dsimp only; split) | (simp +contextual (maxDischargeDepth := 60) [*]; split))
@[simp] theorem State.setLoop_keeps (s : State) (a : Fin 64) (f : LoopSlot → LoopSlot) (H : Closed P) (h_ : Holds P s) : Holds P (State.setLoop s a f) := by
  unfold State.setLoop; repeat' (first | (simp +contextual (maxDischargeDepth := 60) [*]; done) | split | (dsimp only; split) | (simp +contextual (maxDischargeDepth := 60) [*]; split))
@[simp] theorem State.setDescWord_keeps (s : State) (g i w : Nat) (v : Int) (H : Closed P) (HM : ClosedMem P) (h_ : Holds P s) : Holds P (State.setDescWord s g i w v) := by
  unfold State.setDescWord; repeat' (first | (simp +contextual (maxDischargeDepth := 60) [*]; done) | split | (dsimp only; split) | (simp +contextual (maxDischargeDepth := 60) [*]; split))
@[simp] theorem State.trackPos_keeps (s : State) (a : Fin 64) (r : SampleRec) (H : Closed P) (h_ : Holds P s) : Holds P (State.trackPos s a r) := by
  unfold State.trackPos; repeat' (first | (simp +contextual (maxDischargeDepth := 60) [*]; done) | split | (dsimp only; split) | (simp +contextual (maxDischargeDepth := 60) [*]; split))
@[simp] theorem State.arriveSample_keeps (s : State) (a : Fin 64) (r : SampleRec) (H : Closed P) (h_ : Holds P s) : Holds P (State.arriveSample s a r) := by
  unfold State.arriveSample; repeat' (first | (simp +contextual (maxDischargeDepth := 60) [*]; done) | split | (dsimp only; split) | (simp +contextual (maxDischargeDepth := 60) [*]; split))
@[simp] theorem State.postSample_keeps (s : State) (a : Fin 64) (r : SampleRec) (H : Closed P) (h_ : Holds P s) : Holds P (State.postSample s a r) := by
  unfold State.postSample; repeat' (first | (simp +contextual (maxDischargeDepth := 60) [*]; done) | split | (dsimp only; split) | (simp +contextual (maxDischargeDepth := 60) [*]; split))
@[simp] theorem State.inputStage_keeps (s : State) (a : Fin 64) (set : SampleSet) (g : Graph) (H : Closed P) (h_ : Holds P s) : Holds P (State.inputStage s a set g) := by
  unfold State.inputStage; repeat' (first | (simp +contextual (maxDischargeDepth := 60) [*]; done) | split | (dsimp only; split) | (simp +contextual (maxDischargeDepth := 60) [*]; split))
@[simp] theorem State.nodeWrite_keeps (s : State) (a : Fin 64) (i : Nat) (x : NodeIn) (o : NodeOut) (outs : Nat) (H : Closed P) (HM : ClosedMem P) (h_ : Holds P s) : Holds P (State.nodeWrite s a i x o outs) := by
  unfold State.nodeWrite; repeat' (first | (simp +contextual (maxDischargeDepth := 60) [*]; done) | split | (dsimp only; split) | (simp +contextual (maxDischargeDepth := 60) [*]; split))
@[simp] theorem State.emit_keeps (s : State) (a : Fin 64) (set : SampleSet) (o : NodeOut) (t : Nat) (H : Closed P) (h_ : Holds P s) : Holds P (State.emit s a set o t) := by
  unfold State.emit; repeat' (first | (simp +contextual (maxDischargeDepth := 60) [*]; done) | split | (dsimp only; split) | (simp +contextual (maxDischargeDepth := 60) [*]; split))
@[simp] theorem State.nodeStep_keeps (s : State) (a : Fin 64) (i w0 : Nat) (e : EvalWait) (H : Closed P) (HM : ClosedMem P) (h_ : Holds P s) : Holds P (State.nodeStep s a i w0 e).1 := by
  unfold State.nodeStep; repeat' (first | (simp +contextual (maxDischargeDepth := 60) [*]; done) | split | (dsimp only; split) | (simp +contextual (maxDischargeDepth := 60) [*]; split))
@[simp] theorem State.evalEnd_keeps (s : State) (a : Fin 64) (e : EvalWait) (H : Closed P) (h_ : Holds P s) : Holds P (State.evalEnd s a e) := by
  unfold State.evalEnd; repeat' (first | (simp +contextual (maxDischargeDepth := 60) [*]; done) | split | (dsimp only; split) | (simp +contextual (maxDischargeDepth := 60) [*]; split))
@[simp] theorem State.evalNodes_keeps (s : State) (a : Fin 64) (g : Graph) (e : EvalWait) (i n : Nat) (H : Closed P) (HM : ClosedMem P) (h_ : Holds P s) : Holds P (s.evalNodes a g e i n) := by
  induction n generalizing s e i with
  | zero => unfold State.evalNodes; simp [*]
  | succ n ih =>
    unfold State.evalNodes; dsimp only
    repeat' split
    all_goals first | exact ih _ _ _ h_ | exact ih _ _ _ (State.nodeStep_keeps _ _ _ _ _ H HM h_) | exact State.nodeStep_keeps _ _ _ _ _ H HM h_
@[simp] theorem State.applyDesc_keeps (s : State) (a : Fin 64) (w : DescWrite) (H : Closed P) (HM : ClosedMem P) (h_ : Holds P s) : Holds P (State.applyDesc s a w) := by
  unfold State.applyDesc; repeat' (first | (simp +contextual (maxDischargeDepth := 60) [*]; done) | split | (dsimp only; split) | (simp +contextual (maxDischargeDepth := 60) [*]; split))
@[simp] theorem State.wbufShow_keeps (s : State) (a : Fin 64) (H : Closed P) (h_ : Holds P s) : Holds P (State.wbufShow s a) := by
  unfold State.wbufShow; repeat' (first | (simp +contextual (maxDischargeDepth := 60) [*]; done) | split | (dsimp only; split) | (simp +contextual (maxDischargeDepth := 60) [*]; split))
@[simp] theorem State.flushDesc_keeps (s : State) (a : Fin 64) (H : Closed P) (HM : ClosedMem P) (h_ : Holds P s) : Holds P (State.flushDesc s a) := by
  unfold State.flushDesc; repeat' (first | (simp +contextual (maxDischargeDepth := 60) [*]; done) | split | (dsimp only; split) | (simp +contextual (maxDischargeDepth := 60) [*]; split))
@[simp] theorem State.descWrite_keeps (s : State) (addr n v : Nat) (H : Closed P) (HM : ClosedMem P) (h_ : Holds P s) : Holds P (State.descWrite s addr n v) := by
  unfold State.descWrite; repeat' (first | (simp +contextual (maxDischargeDepth := 60) [*]; done) | split | (dsimp only; split) | (simp +contextual (maxDischargeDepth := 60) [*]; split))
theorem execDescriptorWrite_keeps (q : Fin 514) (g : Fin 16) (off : Fin 8192) (sz : Fin 4) (v : BitVec 64) (s : State) (t_ : State) (H : Closed P) (HM : ClosedMem P) (h_ : Holds P s) (e_ : execDescriptorWrite q g off sz v s = .next t_) : Holds P t_ := by
  simp only [execDescriptorWrite, Host.Outcome.next.injEq] at e_; subst e_; repeat' (first | (simp +contextual (maxDischargeDepth := 60) [*]; done) | split | (dsimp only; split) | (simp +contextual (maxDischargeDepth := 60) [*]; split))
@[simp] theorem State.holdRelease_keeps (s : State) (a : Fin 64) (H : Closed P) (HM : ClosedMem P) (h_ : Holds P s) : Holds P (State.holdRelease s a) := by
  unfold State.holdRelease; repeat' (first | (simp +contextual (maxDischargeDepth := 60) [*]; done) | split | (dsimp only; split) | (simp +contextual (maxDischargeDepth := 60) [*]; split))
theorem execHoldRelease_keeps (a : Fin 64) (s : State) (t_ : State) (H : Closed P) (HM : ClosedMem P) (h_ : Holds P s) (e_ : execHoldRelease a s = .next t_) : Holds P t_ := by
  simp only [execHoldRelease, Host.Outcome.next.injEq] at e_; subst e_; repeat' (first | (simp +contextual (maxDischargeDepth := 60) [*]; done) | split | (dsimp only; split) | (simp +contextual (maxDischargeDepth := 60) [*]; split))
theorem execDescriptorWritesApply_keeps (a : Fin 64) (s : State) (t_ : State) (H : Closed P) (HM : ClosedMem P) (h_ : Holds P s) (e_ : execDescriptorWritesApply a s = .next t_) : Holds P t_ := by
  simp only [execDescriptorWritesApply, Host.Outcome.next.injEq] at e_; subst e_; repeat' (first | (simp +contextual (maxDischargeDepth := 60) [*]; done) | split | (dsimp only; split) | (simp +contextual (maxDischargeDepth := 60) [*]; split))
@[simp] theorem State.applyGraph_keeps (s : State) (a : Fin 64) (H : Closed P) (h_ : Holds P s) : Holds P (State.applyGraph s a) := by
  unfold State.applyGraph; repeat' (first | (simp +contextual (maxDischargeDepth := 60) [*]; done) | split | (dsimp only; split) | (simp +contextual (maxDischargeDepth := 60) [*]; split))
@[simp] theorem State.askApply_keeps (s : State) (a : Fin 64) (H : Closed P) (h_ : Holds P s) : Holds P (State.askApply s a) := by
  unfold State.askApply; repeat' (first | (simp +contextual (maxDischargeDepth := 60) [*]; done) | split | (dsimp only; split) | (simp +contextual (maxDischargeDepth := 60) [*]; split))
theorem execApply_keeps (a : Fin 64) (s : State) (t_ : State) (H : Closed P) (h_ : Holds P s) (e_ : execApply a s = .next t_) : Holds P t_ := by
  simp only [execApply, Host.Outcome.next.injEq] at e_; subst e_; repeat' (first | (simp +contextual (maxDischargeDepth := 60) [*]; done) | split | (dsimp only; split) | (simp +contextual (maxDischargeDepth := 60) [*]; split))
theorem execGraphValidate_keeps (a : Fin 64) (s : State) (t_ : State) (H : Closed P) (h_ : Holds P s) (e_ : execGraphValidate a s = .next t_) : Holds P t_ := by
  simp only [execGraphValidate, Host.Outcome.next.injEq] at e_; subst e_; repeat' (first | (simp +contextual (maxDischargeDepth := 60) [*]; done) | split | (dsimp only; split) | (simp +contextual (maxDischargeDepth := 60) [*]; split))
@[simp] theorem State.noteLag_keeps (s : State) (a : Fin 64) (lag : Nat) (H : Closed P) (h_ : Holds P s) : Holds P (State.noteLag s a lag) := by
  unfold State.noteLag; repeat' (first | (simp +contextual (maxDischargeDepth := 60) [*]; done) | split | (dsimp only; split) | (simp +contextual (maxDischargeDepth := 60) [*]; split))
@[simp] theorem State.evaluate_keeps (s : State) (a : Fin 64) (H : Closed P) (HM : ClosedMem P) (h_ : Holds P s) : Holds P (State.evaluate s a) := by
  unfold State.evaluate; repeat' (first | (simp +contextual (maxDischargeDepth := 60) [*]; done) | split | (dsimp only; split) | (simp +contextual (maxDischargeDepth := 60) [*]; split))
theorem execEvaluationStart_keeps (a : Fin 64) (s : State) (t_ : State) (H : Closed P) (HM : ClosedMem P) (h_ : Holds P s) (e_ : execEvaluationStart a s = .next t_) : Holds P t_ := by
  simp only [execEvaluationStart, Host.Outcome.next.injEq] at e_; subst e_; repeat' (first | (simp +contextual (maxDischargeDepth := 60) [*]; done) | split | (dsimp only; split) | (simp +contextual (maxDischargeDepth := 60) [*]; split))
@[simp] theorem State.callDone_keeps (s : State) (a : Fin 64) (e : EvalWait) (wait : Nat) (outs : Option (List Word)) (H : Closed P) (HM : ClosedMem P) (h_ : Holds P s) : Holds P (State.callDone s a e wait outs) := by
  unfold State.callDone; repeat' (first | (simp +contextual (maxDischargeDepth := 60) [*]; done) | split | (dsimp only; split) | (simp +contextual (maxDischargeDepth := 60) [*]; split))
@[simp] theorem State.callTmo_keeps (s : State) (a : Fin 64) (e : EvalWait) (H : Closed P) (HM : ClosedMem P) (h_ : Holds P s) : Holds P (State.callTmo s a e) := by
  unfold State.callTmo; repeat' (first | (simp +contextual (maxDischargeDepth := 60) [*]; done) | split | (dsimp only; split) | (simp +contextual (maxDischargeDepth := 60) [*]; split))
theorem execEcallTmo_keeps (a : Fin 64) (s : State) (t_ : State) (H : Closed P) (HM : ClosedMem P) (h_ : Holds P s) (e_ : execEcallTmo a s = .next t_) : Holds P t_ := by
  simp only [execEcallTmo, Host.Outcome.next.injEq] at e_; subst e_; repeat' (first | (simp +contextual (maxDischargeDepth := 60) [*]; done) | split | (dsimp only; split) | (simp +contextual (maxDischargeDepth := 60) [*]; split))
@[simp] theorem State.callReply_keeps (s : State) (g : Nat) (words : List Word) (H : Closed P) (HM : ClosedMem P) (h_ : Holds P s) : Holds P (State.callReply s g words) := by
  unfold State.callReply; repeat' (first | (simp +contextual (maxDischargeDepth := 60) [*]; done) | split | (dsimp only; split) | (simp +contextual (maxDischargeDepth := 60) [*]; split))
theorem execEcallReply_keeps (g : Fin 16) (s : State) (t_ : State) (H : Closed P) (HM : ClosedMem P) (h_ : Holds P s) (e_ : execEcallReply g s = .next t_) : Holds P t_ := by
  simp only [execEcallReply, Host.Outcome.next.injEq] at e_; subst e_; repeat' (first | (simp +contextual (maxDischargeDepth := 60) [*]; done) | split | (dsimp only; split) | (simp +contextual (maxDischargeDepth := 60) [*]; split))
@[simp] theorem State.setRun_keeps (s : State) (a : Fin 64) (on : Bool) (H : Closed P) (h_ : Holds P s) : Holds P (State.setRun s a on) := by
  unfold State.setRun; repeat' (first | (simp +contextual (maxDischargeDepth := 60) [*]; done) | split | (dsimp only; split) | (simp +contextual (maxDischargeDepth := 60) [*]; split))
theorem execLoopRun_keeps (a : Fin 64) (on : Bool) (s : State) (t_ : State) (H : Closed P) (h_ : Holds P s) (e_ : execLoopRun a on s = .next t_) : Holds P t_ := by
  simp only [execLoopRun, Host.Outcome.next.injEq] at e_; subst e_; repeat' (first | (simp +contextual (maxDischargeDepth := 60) [*]; done) | split | (dsimp only; split) | (simp +contextual (maxDischargeDepth := 60) [*]; split))
@[simp] theorem State.writeLoopCtrl_keeps (s : State) (a : Fin 64) (v : Nat) (H : Closed P) (HM : ClosedMem P) (h_ : Holds P s) : Holds P (State.writeLoopCtrl s a v) := by
  unfold State.writeLoopCtrl; repeat' (first | (simp +contextual (maxDischargeDepth := 60) [*]; done) | split | (dsimp only; split) | (simp +contextual (maxDischargeDepth := 60) [*]; split))
@[simp] theorem State.readLoopPos_keeps (s : State) (q : Nat) (a : Fin 64) (H : Closed P) (h_ : Holds P s) : Holds P (State.readLoopPos s q a) := by
  unfold State.readLoopPos; repeat' (first | (simp +contextual (maxDischargeDepth := 60) [*]; done) | split | (dsimp only; split) | (simp +contextual (maxDischargeDepth := 60) [*]; split))
theorem execLoopPosLoRead_keeps (q : Fin 514) (a : Fin 64) (s : State) (t_ : State) (H : Closed P) (h_ : Holds P s) (e_ : execLoopPosLoRead q a s = .next t_) : Holds P t_ := by
  simp only [execLoopPosLoRead, Host.Outcome.next.injEq] at e_; subst e_; repeat' (first | (simp +contextual (maxDischargeDepth := 60) [*]; done) | split | (dsimp only; split) | (simp +contextual (maxDischargeDepth := 60) [*]; split))
@[simp] theorem State.writeDescRange_keeps (s : State) (g : Nat) (j v : Nat) (H : Closed P) (h_ : Holds P s) : Holds P (State.writeDescRange s g j v) := by
  unfold State.writeDescRange; repeat' (first | (simp +contextual (maxDischargeDepth := 60) [*]; done) | split | (dsimp only; split) | (simp +contextual (maxDischargeDepth := 60) [*]; split))
theorem execLuDescRangeWrite_keeps (g : Fin 16) (j : Fin 4) (v : Word) (s : State) (t_ : State) (H : Closed P) (h_ : Holds P s) (e_ : execLuDescRangeWrite g j v s = .next t_) : Holds P t_ := by
  simp only [execLuDescRangeWrite, Host.Outcome.next.injEq] at e_; subst e_; repeat' (first | (simp +contextual (maxDischargeDepth := 60) [*]; done) | split | (dsimp only; split) | (simp +contextual (maxDischargeDepth := 60) [*]; split))
@[simp] theorem State.loadBasic_keeps (s : State) (a : Fin 64) (first kv : Nat) (par : List (List Nat)) (H : Closed P) (HM : ClosedMem P) (h_ : Holds P s) : Holds P (State.loadBasic s a first kv par) := by
  unfold State.loadBasic; repeat' (first | (simp +contextual (maxDischargeDepth := 60) [*]; done) | split | (dsimp only; split) | (simp +contextual (maxDischargeDepth := 60) [*]; split))
@[simp] theorem State.takeFeedback_keeps (s : State) (a : Fin 64) (r : FbRec) (start : Nat) (H : Closed P) (h_ : Holds P s) : Holds P (State.takeFeedback s a r start) := by
  unfold State.takeFeedback; repeat' (first | (simp +contextual (maxDischargeDepth := 60) [*]; done) | split | (dsimp only; split) | (simp +contextual (maxDischargeDepth := 60) [*]; split))
@[simp] theorem State.takeData_keeps (s : State) (i : Fin 8) (tag off data : Nat) (H : Closed P) (h_ : Holds P s) : Holds P (State.takeData s i tag off data) := by
  unfold State.takeData; repeat' (first | (simp +contextual (maxDischargeDepth := 60) [*]; done) | split | (dsimp only; split) | (simp +contextual (maxDischargeDepth := 60) [*]; split))
@[simp] theorem State.applyUp_keeps (s : State) (i : Fin 8) (start : Nat) (y0 : UpRec) (H : Closed P) (h_ : Holds P s) : Holds P (State.applyUp s i start y0) := by
  cases y0 <;> simp only [State.applyUp] <;> repeat' (first | (simp +contextual (maxDischargeDepth := 60) [*]; done) | split | (dsimp only; split) | (simp +contextual (maxDischargeDepth := 60) [*]; split))
@[simp] theorem State.takeEcho_keeps (s : State) (i : Fin 8) (arrival : Int) (turn : Nat) (H : Closed P) (h_ : Holds P s) : Holds P (State.takeEcho s i arrival turn) := by
  unfold State.takeEcho; repeat' (first | (simp +contextual (maxDischargeDepth := 60) [*]; done) | split | (dsimp only; split) | (simp +contextual (maxDischargeDepth := 60) [*]; split))
@[simp] theorem State.clearEnShadow_keeps (s : State) (i : Fin 8) (H : Closed P) (h_ : Holds P s) : Holds P (State.clearEnShadow s i) := by
  unfold State.clearEnShadow; repeat' (first | (simp +contextual (maxDischargeDepth := 60) [*]; done) | split | (dsimp only; split) | (simp +contextual (maxDischargeDepth := 60) [*]; split))
@[simp] theorem State.readErrors_keeps (s : State) (i : Fin 8) (H : Closed P) (h_ : Holds P s) : Holds P (State.readErrors s i) := by
  unfold State.readErrors; repeat' (first | (simp +contextual (maxDischargeDepth := 60) [*]; done) | split | (dsimp only; split) | (simp +contextual (maxDischargeDepth := 60) [*]; split))
@[simp] theorem State.applyUpHeader_keeps (s : State) (i : Fin 8) (rx : FrameRx) (H : Closed P) (h_ : Holds P s) : Holds P (State.applyUpHeader s i rx) := by
  unfold State.applyUpHeader; repeat' (first | (simp +contextual (maxDischargeDepth := 60) [*]; done) | split | (dsimp only; split) | (simp +contextual (maxDischargeDepth := 60) [*]; split))
@[simp] theorem State.upDown_keeps (s : State) (i : Fin 8) (H : Closed P) (h_ : Holds P s) : Holds P (State.upDown s i) := by
  unfold State.upDown; repeat' (first | (simp +contextual (maxDischargeDepth := 60) [*]; done) | split | (dsimp only; split) | (simp +contextual (maxDischargeDepth := 60) [*]; split))
@[simp] theorem State.upFrame_keeps (s : State) (i : Fin 8) (rx : FrameRx) (H : Closed P) (h_ : Holds P s) : Holds P (State.upFrame s i rx) := by
  unfold State.upFrame; repeat' (first | (simp +contextual (maxDischargeDepth := 60) [*]; done) | split | (dsimp only; split) | (simp +contextual (maxDischargeDepth := 60) [*]; split))
theorem execUpstreamFrame_keeps (s : Fin 8) (rx : FrameRx) (st : State) (t_ : State) (H : Closed P) (h_ : Holds P st) (e_ : execUpstreamFrame s rx st = .next t_) : Holds P t_ := by
  simp only [execUpstreamFrame, Host.Outcome.next.injEq] at e_; subst e_; repeat' (first | (simp +contextual (maxDischargeDepth := 60) [*]; done) | split | (dsimp only; split) | (simp +contextual (maxDischargeDepth := 60) [*]; split))
@[simp] theorem State.setNet_keeps (s : State) (f : NetState → NetState) (H : Closed P) (h : Holds P s) : Holds P (s.setNet f) := H.setNet s f h
@[simp] theorem State.setPort_keeps (s : State) (p : Fin 4) (f : NetPort → NetPort) (H : Closed P) (h_ : Holds P s) : Holds P (State.setPort s p f) := by
  unfold State.setPort; repeat' (first | (simp +contextual (maxDischargeDepth := 60) [*]; done) | split | (dsimp only; split) | (simp +contextual (maxDischargeDepth := 60) [*]; split))
@[simp] theorem State.bump_keeps (s : State) (p o w : Nat) (H : Closed P) (h_ : Holds P s) : Holds P (State.bump s p o w) := by
  unfold State.bump; repeat' (first | (simp +contextual (maxDischargeDepth := 60) [*]; done) | split | (dsimp only; split) | (simp +contextual (maxDischargeDepth := 60) [*]; split))
@[simp] theorem State.enqueue_keeps (s : State) (p : Fin 4) (q : Fin 9) (f : TxFrame) (H : Closed P) (h_ : Holds P s) : Holds P (State.enqueue s p q f).2 := by
  unfold State.enqueue; repeat' (first | (simp +contextual (maxDischargeDepth := 60) [*]; done) | split | (dsimp only; split) | (simp +contextual (maxDischargeDepth := 60) [*]; split))
@[simp] theorem State.credits_keeps (s : State) (p : Fin 4) (H : Closed P) (h_ : Holds P s) : Holds P (State.credits s p) := by
  unfold State.credits; repeat' (first | (simp +contextual (maxDischargeDepth := 60) [*]; done) | split | (dsimp only; split) | (simp +contextual (maxDischargeDepth := 60) [*]; split))
@[simp] theorem State.dmaErr_keeps (s : State) (bit d a q : Nat) (write : Bool) (H : Closed P) (h_ : Holds P s) : Holds P (State.dmaErr s bit d a q write) := by
  unfold State.dmaErr; repeat' (first | (simp +contextual (maxDischargeDepth := 60) [*]; done) | split | (dsimp only; split) | (simp +contextual (maxDischargeDepth := 60) [*]; split))
@[simp] theorem State.hostWrite_keeps (s : State) (a : Nat) (b : List Byte) (H : Closed P) (h_ : Holds P s) : Holds P (State.hostWrite s a b) := by
  unfold State.hostWrite; repeat' (first | (simp +contextual (maxDischargeDepth := 60) [*]; done) | split | (dsimp only; split) | (simp +contextual (maxDischargeDepth := 60) [*]; split))
@[simp] theorem State.ringOk_keeps (s : State) (d a n : Nat) (write : Bool) (H : Closed P) (h_ : Holds P s) : Holds P (State.ringOk s d a n write).2 := by
  unfold State.ringOk; repeat' (first | (simp +contextual (maxDischargeDepth := 60) [*]; done) | split | (dsimp only; split) | (simp +contextual (maxDischargeDepth := 60) [*]; split))
@[simp] theorem State.ringWrite_keeps (s : State) (d a : Nat) (b : List Byte) (H : Closed P) (HM : ClosedMem P) (h_ : Holds P s) : Holds P (State.ringWrite s d a b) := by
  unfold State.ringWrite; repeat' (first | (simp +contextual (maxDischargeDepth := 60) [*]; done) | split | (dsimp only; split) | (simp +contextual (maxDischargeDepth := 60) [*]; split))
@[simp] theorem State.ringVec_keeps (s : State) (d : Fin 8) (H : Closed P) (h_ : Holds P s) : Holds P (State.ringVec s d) := by
  unfold State.ringVec; repeat' (first | (simp +contextual (maxDischargeDepth := 60) [*]; done) | split | (dsimp only; split) | (simp +contextual (maxDischargeDepth := 60) [*]; split))
@[simp] theorem State.txBack_keeps (s : State) (d : Fin 8) (addr code : Nat) (H : Closed P) (HM : ClosedMem P) (h_ : Holds P s) : Holds P (State.txBack s d addr code) := by
  unfold State.txBack; repeat' (first | (simp +contextual (maxDischargeDepth := 60) [*]; done) | split | (dsimp only; split) | (simp +contextual (maxDischargeDepth := 60) [*]; split))
@[simp] theorem State.txCopy_keeps (s : State) (job : Option (Nat × Nat)) (code : Nat) (H : Closed P) (HM : ClosedMem P) (h_ : Holds P s) : Holds P (State.txCopy s job code) := by
  unfold State.txCopy; repeat' (first | (simp +contextual (maxDischargeDepth := 60) [*]; done) | split | (dsimp only; split) | (simp +contextual (maxDischargeDepth := 60) [*]; split))
@[simp] theorem State.launchErr_keeps (s : State) (p : Fin 4) (code : Nat) (H : Closed P) (h_ : Holds P s) : Holds P (State.launchErr s p code) := by
  unfold State.launchErr; repeat' (first | (simp +contextual (maxDischargeDepth := 60) [*]; done) | split | (dsimp only; split) | (simp +contextual (maxDischargeDepth := 60) [*]; split))
@[simp] theorem State.launchEnd_keeps (s : State) (p : Fin 4) (f : TxFrame) (code : Nat) (H : Closed P) (HM : ClosedMem P) (h_ : Holds P s) : Holds P (State.launchEnd s p f code) := by
  unfold State.launchEnd; repeat' (first | (simp +contextual (maxDischargeDepth := 60) [*]; done) | split | (dsimp only; split) | (simp +contextual (maxDischargeDepth := 60) [*]; split))
@[simp] theorem State.txPort_keeps (s : State) (d : Fin 8) (p : Fin 4) (f : TxFrame) (launch drop : Bool) (tick : Nat) (H : Closed P) (HM : ClosedMem P) (h_ : Holds P s) : Holds P (State.txPort s d p f launch drop tick) := by
  unfold State.txPort; repeat' (first | (simp +contextual (maxDischargeDepth := 60) [*]; done) | split | (dsimp only; split) | (simp +contextual (maxDischargeDepth := 60) [*]; split))
@[simp] theorem State.txAdvance_keeps (s : State) (d : Fin 8) (H : Closed P) (h_ : Holds P s) : Holds P (State.txAdvance s d) := by
  unfold State.txAdvance; repeat' (first | (simp +contextual (maxDischargeDepth := 60) [*]; done) | split | (dsimp only; split) | (simp +contextual (maxDischargeDepth := 60) [*]; split))
@[simp] theorem State.txStop_keeps (s : State) (d : Fin 8) (a : Nat) (H : Closed P) (h_ : Holds P s) : Holds P (State.txStop s d a) := by
  unfold State.txStop; repeat' (first | (simp +contextual (maxDischargeDepth := 60) [*]; done) | split | (dsimp only; split) | (simp +contextual (maxDischargeDepth := 60) [*]; split))
@[simp] theorem State.txGo_keeps (s : State) (d : Fin 8) (a : Nat) (t : TxDesc) (data : List Byte) (H : Closed P) (HM : ClosedMem P) (h_ : Holds P s) : Holds P (State.txGo s d a t data) := by
  unfold State.txGo; repeat' (first | (simp +contextual (maxDischargeDepth := 60) [*]; done) | split | (dsimp only; split) | (simp +contextual (maxDischargeDepth := 60) [*]; split))
@[simp] theorem State.txFetch_keeps (s : State) (d : Fin 8) (h : HostTx) (H : Closed P) (HM : ClosedMem P) (h_ : Holds P s) : Holds P (State.txFetch s d h) := by
  unfold State.txFetch; repeat' (first | split | (dsimp only; split))
  all_goals simp (maxDischargeDepth := 60) [*]
theorem execTxDescriptorFetch_keeps (d : Fin 8) (h : HostTx) (s : State) (t_ : State) (H : Closed P) (HM : ClosedMem P) (h_ : Holds P s) (e_ : execTxDescriptorFetch d h s = .next t_) : Holds P t_ := by
  simp only [execTxDescriptorFetch, Host.Outcome.next.injEq] at e_; subst e_; repeat' (first | (simp +contextual (maxDischargeDepth := 60) [*]; done) | split | (dsimp only; split) | (simp +contextual (maxDischargeDepth := 60) [*]; split))
@[simp] theorem State.writeTxTail_keeps (s : State) (d : Fin 8) (v : Nat) (H : Closed P) (h_ : Holds P s) : Holds P (State.writeTxTail s d v) := by
  unfold State.writeTxTail; repeat' (first | (simp +contextual (maxDischargeDepth := 60) [*]; done) | split | (dsimp only; split) | (simp +contextual (maxDischargeDepth := 60) [*]; split))
theorem execTxTailWrite_keeps (d : Fin 8) (v : Word) (s : State) (t_ : State) (H : Closed P) (h_ : Holds P s) (e_ : execTxTailWrite d v s = .next t_) : Holds P t_ := by
  simp only [execTxTailWrite, Host.Outcome.next.injEq] at e_; subst e_; repeat' (first | (simp +contextual (maxDischargeDepth := 60) [*]; done) | split | (dsimp only; split) | (simp +contextual (maxDischargeDepth := 60) [*]; split))
@[simp] theorem State.writeRxTail_keeps (s : State) (d : Fin 8) (v : Nat) (H : Closed P) (h_ : Holds P s) : Holds P (State.writeRxTail s d v) := by
  unfold State.writeRxTail; repeat' (first | (simp +contextual (maxDischargeDepth := 60) [*]; done) | split | (dsimp only; split) | (simp +contextual (maxDischargeDepth := 60) [*]; split))
theorem execRxTailWrite_keeps (d : Fin 8) (v : Word) (s : State) (t_ : State) (H : Closed P) (h_ : Holds P s) (e_ : execRxTailWrite d v s = .next t_) : Holds P t_ := by
  simp only [execRxTailWrite, Host.Outcome.next.injEq] at e_; subst e_; repeat' (first | (simp +contextual (maxDischargeDepth := 60) [*]; done) | split | (dsimp only; split) | (simp +contextual (maxDischargeDepth := 60) [*]; split))
@[simp] theorem State.startTx_keeps (s : State) (p : Fin 4) (f : TxFrame) (q : Nat) (H : Closed P) (h_ : Holds P s) : Holds P (State.startTx s p f q) := by
  unfold State.startTx; repeat' (first | (simp +contextual (maxDischargeDepth := 60) [*]; done) | split | (dsimp only; split) | (simp +contextual (maxDischargeDepth := 60) [*]; split))
@[simp] theorem State.launchGo_keeps (s : State) (p : Fin 4) (l : Launch) (H : Closed P) (HM : ClosedMem P) (h_ : Holds P s) : Holds P (State.launchGo s p l) := by
  unfold State.launchGo; repeat' (first | (simp +contextual (maxDischargeDepth := 60) [*]; done) | split | (dsimp only; split) | (simp +contextual (maxDischargeDepth := 60) [*]; split))
theorem execLaunch_keeps (p : Fin 4) (s : State) (t_ : State) (H : Closed P) (HM : ClosedMem P) (h_ : Holds P s) (e_ : execLaunch p s = .next t_) : Holds P t_ := by
  simp only [execLaunch, Host.Outcome.next.injEq] at e_; subst e_; repeat' (first | (simp +contextual (maxDischargeDepth := 60) [*]; done) | split | (dsimp only; split) | (simp +contextual (maxDischargeDepth := 60) [*]; split))
@[simp] theorem State.startFrame_keeps (s : State) (p : Fin 4) (H : Closed P) (HM : ClosedMem P) (h_ : Holds P s) : Holds P (State.startFrame s p) := by
  unfold State.startFrame; repeat' (first | (simp +contextual (maxDischargeDepth := 60) [*]; done) | split | (dsimp only; split) | (simp +contextual (maxDischargeDepth := 60) [*]; split))
theorem execFrameStart_keeps (p : Fin 4) (s : State) (t_ : State) (H : Closed P) (HM : ClosedMem P) (h_ : Holds P s) (e_ : execFrameStart p s = .next t_) : Holds P t_ := by
  simp only [execFrameStart, Host.Outcome.next.injEq] at e_; subst e_; repeat' (first | (simp +contextual (maxDischargeDepth := 60) [*]; done) | split | (dsimp only; split) | (simp +contextual (maxDischargeDepth := 60) [*]; split))
@[simp] theorem State.showTsq_keeps (s : State) (p : Fin 4) (H : Closed P) (h_ : Holds P s) : Holds P (State.showTsq s p) := by
  unfold State.showTsq; repeat' (first | (simp +contextual (maxDischargeDepth := 60) [*]; done) | split | (dsimp only; split) | (simp +contextual (maxDischargeDepth := 60) [*]; split))
@[simp] theorem State.bufEcc_keeps (s : State) (p : Fin 4) (y0 : Option Bool) (H : Closed P) (h_ : Holds P s) : Holds P (State.bufEcc s p y0) := by
  cases y0 <;> simp only [State.bufEcc] <;> repeat' (first | (simp +contextual (maxDischargeDepth := 60) [*]; done) | split | (dsimp only; split) | (simp +contextual (maxDischargeDepth := 60) [*]; split))
@[simp] theorem State.endFrame_keeps (s : State) (p : Fin 4) (sfd : Int) (H : Closed P) (HM : ClosedMem P) (h_ : Holds P s) : Holds P (State.endFrame s p sfd) := by
  unfold State.endFrame; repeat' (first | (simp +contextual (maxDischargeDepth := 60) [*]; done) | split | (dsimp only; split) | (simp +contextual (maxDischargeDepth := 60) [*]; split))
theorem execFrameSent_keeps (p : Fin 4) (sfd : Int) (s : State) (t_ : State) (H : Closed P) (HM : ClosedMem P) (h_ : Holds P s) (e_ : execFrameSent p sfd s = .next t_) : Holds P t_ := by
  simp only [execFrameSent, Host.Outcome.next.injEq] at e_; subst e_; repeat' (first | (simp +contextual (maxDischargeDepth := 60) [*]; done) | split | (dsimp only; split) | (simp +contextual (maxDischargeDepth := 60) [*]; split))
@[simp] theorem State.tsqPop_keeps (s : State) (p : Fin 4) (H : Closed P) (h_ : Holds P s) : Holds P (State.tsqPop s p) := by
  unfold State.tsqPop; repeat' (first | (simp +contextual (maxDischargeDepth := 60) [*]; done) | split | (dsimp only; split) | (simp +contextual (maxDischargeDepth := 60) [*]; split))
theorem execNetTsqPop_keeps (p : Fin 4) (s : State) (t_ : State) (H : Closed P) (h_ : Holds P s) (e_ : execNetTsqPop p s = .next t_) : Holds P t_ := by
  simp only [execNetTsqPop, Host.Outcome.next.injEq] at e_; subst e_; repeat' (first | (simp +contextual (maxDischargeDepth := 60) [*]; done) | split | (dsimp only; split) | (simp +contextual (maxDischargeDepth := 60) [*]; split))
@[simp] theorem State.agentSend_keeps (s : State) (d : Fin 8) (ports : List (Fin 4)) (dst type : Nat) (body : List Byte) (H : Closed P) (h_ : Holds P s) : Holds P (State.agentSend s d ports dst type body) := by
  unfold State.agentSend; repeat' (first | (simp +contextual (maxDischargeDepth := 60) [*]; done) | split | (dsimp only; split) | (simp +contextual (maxDischargeDepth := 60) [*]; split))
@[simp] theorem State.setRing_keeps (s : State) (r : Fin 2) (f : RingState → RingState) (H : Closed P) (h_ : Holds P s) : Holds P (State.setRing s r f) := by
  unfold State.setRing; repeat' (first | (simp +contextual (maxDischargeDepth := 60) [*]; done) | split | (dsimp only; split) | (simp +contextual (maxDischargeDepth := 60) [*]; split))
@[simp] theorem State.openRing_keeps (s : State) (r : Fin 2) (H : Closed P) (h_ : Holds P s) : Holds P (State.openRing s r) := by
  unfold State.openRing; repeat' (first | (simp +contextual (maxDischargeDepth := 60) [*]; done) | split | (dsimp only; split) | (simp +contextual (maxDischargeDepth := 60) [*]; split))
@[simp] theorem State.ringTestSend_keeps (s : State) (r : Fin 2) (H : Closed P) (h_ : Holds P s) : Holds P (State.ringTestSend s r) := by
  unfold State.ringTestSend; repeat' (first | (simp +contextual (maxDischargeDepth := 60) [*]; done) | split | (dsimp only; split) | (simp +contextual (maxDischargeDepth := 60) [*]; split))
theorem execRingTestSend_keeps (r : Fin 2) (s : State) (t_ : State) (H : Closed P) (h_ : Holds P s) (e_ : execRingTestSend r s = .next t_) : Holds P t_ := by
  simp only [execRingTestSend, Host.Outcome.next.injEq] at e_; subst e_; repeat' (first | (simp +contextual (maxDischargeDepth := 60) [*]; done) | split | (dsimp only; split) | (simp +contextual (maxDischargeDepth := 60) [*]; split))
theorem execRingOpen_keeps (r : Fin 2) (s : State) (t_ : State) (H : Closed P) (h_ : Holds P s) (e_ : execRingOpen r s = .next t_) : Holds P t_ := by
  simp only [execRingOpen, Host.Outcome.next.injEq] at e_; subst e_; repeat' (first | (simp +contextual (maxDischargeDepth := 60) [*]; done) | split | (dsimp only; split) | (simp +contextual (maxDischargeDepth := 60) [*]; split))
@[simp] theorem State.portDown_keeps (s : State) (p : Fin 4) (H : Closed P) (HM : ClosedMem P) (h_ : Holds P s) : Holds P (State.portDown s p) := by
  unfold State.portDown; repeat' (first | (simp +contextual (maxDischargeDepth := 60) [*]; done) | split | (dsimp only; split) | (simp +contextual (maxDischargeDepth := 60) [*]; split))
theorem execPortLinkDown_keeps (p : Fin 4) (hiBer : Bool) (s : State) (t_ : State) (H : Closed P) (HM : ClosedMem P) (h_ : Holds P s) (e_ : execPortLinkDown p hiBer s = .next t_) : Holds P t_ := by
  simp only [execPortLinkDown, Host.Outcome.next.injEq] at e_; subst e_; repeat' (first | (simp +contextual (maxDischargeDepth := 60) [*]; done) | split | (dsimp only; split) | (simp +contextual (maxDischargeDepth := 60) [*]; split))
theorem execPortLinkUp_keeps (p : Fin 4) (s : State) (t_ : State) (H : Closed P) (h_ : Holds P s) (e_ : execPortLinkUp p s = .next t_) : Holds P t_ := by
  simp only [execPortLinkUp, Host.Outcome.next.injEq] at e_; subst e_; repeat' (first | (simp +contextual (maxDischargeDepth := 60) [*]; done) | split | (dsimp only; split) | (simp +contextual (maxDischargeDepth := 60) [*]; split))
theorem execAutoModeSwitch_keeps (p : Fin 4) (s : State) (t_ : State) (H : Closed P) (h_ : Holds P s) (e_ : execAutoModeSwitch p s = .next t_) : Holds P t_ := by
  simp only [execAutoModeSwitch, Host.Outcome.next.injEq] at e_; subst e_; repeat' (first | (simp +contextual (maxDischargeDepth := 60) [*]; done) | split | (dsimp only; split) | (simp +contextual (maxDischargeDepth := 60) [*]; split))
@[simp] theorem State.writeNetCfg_keeps (s : State) (p : Fin 4) (v : Nat) (H : Closed P) (HM : ClosedMem P) (h_ : Holds P s) : Holds P (State.writeNetCfg s p v) := by
  unfold State.writeNetCfg; repeat' (first | (simp +contextual (maxDischargeDepth := 60) [*]; done) | split | (dsimp only; split) | (simp +contextual (maxDischargeDepth := 60) [*]; split))
theorem execNetCfgWrite_keeps (p : Fin 4) (v : Word) (s : State) (t_ : State) (H : Closed P) (HM : ClosedMem P) (h_ : Holds P s) (e_ : execNetCfgWrite p v s = .next t_) : Holds P t_ := by
  simp only [execNetCfgWrite, Host.Outcome.next.injEq] at e_; subst e_; repeat' (first | (simp +contextual (maxDischargeDepth := 60) [*]; done) | split | (dsimp only; split) | (simp +contextual (maxDischargeDepth := 60) [*]; split))
@[simp] theorem State.writeCbs_keeps (s : State) (p : Fin 4) (q : Fin 9) (v : Nat) (H : Closed P) (h_ : Holds P s) : Holds P (State.writeCbs s p q v) := by
  unfold State.writeCbs; repeat' (first | (simp +contextual (maxDischargeDepth := 60) [*]; done) | split | (dsimp only; split) | (simp +contextual (maxDischargeDepth := 60) [*]; split))
theorem execNetCbsWrite_keeps (p : Fin 4) (q : Fin 9) (v : Word) (s : State) (t_ : State) (H : Closed P) (h_ : Holds P s) (e_ : execNetCbsWrite p q v s = .next t_) : Holds P t_ := by
  simp only [execNetCbsWrite, Host.Outcome.next.injEq] at e_; subst e_; repeat' (first | (simp +contextual (maxDischargeDepth := 60) [*]; done) | split | (dsimp only; split) | (simp +contextual (maxDischargeDepth := 60) [*]; split))
@[simp] theorem State.writeRsv_keeps (s : State) (q : Fin 9) (v : Nat) (H : Closed P) (h_ : Holds P s) : Holds P (State.writeRsv s q v) := by
  unfold State.writeRsv; repeat' (first | (simp +contextual (maxDischargeDepth := 60) [*]; done) | split | (dsimp only; split) | (simp +contextual (maxDischargeDepth := 60) [*]; split))
theorem execSwBufRsvWrite_keeps (q : Fin 9) (v : Word) (s : State) (t_ : State) (H : Closed P) (h_ : Holds P s) (e_ : execSwBufRsvWrite q v s = .next t_) : Holds P t_ := by
  simp only [execSwBufRsvWrite, Host.Outcome.next.injEq] at e_; subst e_; repeat' (first | (simp +contextual (maxDischargeDepth := 60) [*]; done) | split | (dsimp only; split) | (simp +contextual (maxDischargeDepth := 60) [*]; split))
@[simp] theorem State.forwardFrame_keeps (s : State) (p : Fin 4) (rx : NetRx) (H : Closed P) (h_ : Holds P s) : Holds P (State.forwardFrame s p rx) := by
  unfold State.forwardFrame; repeat' (first | (simp +contextual (maxDischargeDepth := 60) [*]; done) | split | (dsimp only; split) | (simp +contextual (maxDischargeDepth := 60) [*]; split))
@[simp] theorem State.rxDrop_keeps (s : State) (d : Fin 8) (H : Closed P) (h_ : Holds P s) : Holds P (State.rxDrop s d) := by
  unfold State.rxDrop; repeat' (first | (simp +contextual (maxDischargeDepth := 60) [*]; done) | split | (dsimp only; split) | (simp +contextual (maxDischargeDepth := 60) [*]; split))
@[simp] theorem State.rxRing_keeps (s : State) (d : Fin 8) (p : Fin 4) (rx : NetRx) (H : Closed P) (HM : ClosedMem P) (h_ : Holds P s) : Holds P (State.rxRing s d p rx) := by
  unfold State.rxRing; repeat' (first | split | (dsimp only; split))
  all_goals simp (maxDischargeDepth := 60) [*]
@[simp] theorem State.deliverTo_keeps (s : State) (d : Fin 8) (p : Fin 4) (rx : NetRx) (H : Closed P) (HM : ClosedMem P) (h_ : Holds P s) : Holds P (State.deliverTo s d p rx) := by
  unfold State.deliverTo; repeat' (first | (simp +contextual (maxDischargeDepth := 60) [*]; done) | split | (dsimp only; split) | (simp +contextual (maxDischargeDepth := 60) [*]; split))
@[simp] theorem State.deliver_keeps (s : State) (p : Fin 4) (rx : NetRx) (group : Bool) (H : Closed P) (HM : ClosedMem P) (h_ : Holds P s) : Holds P (State.deliver s p rx group) := by
  unfold State.deliver; repeat' (first | (simp +contextual (maxDischargeDepth := 60) [*]; done) | split | (dsimp only; split) | (simp +contextual (maxDischargeDepth := 60) [*]; split))
@[simp] theorem State.ringTestGot_keeps (s : State) (p : Fin 4) (H : Closed P) (h_ : Holds P s) : Holds P (State.ringTestGot s p) := by
  unfold State.ringTestGot; repeat' (first | (simp +contextual (maxDischargeDepth := 60) [*]; done) | split | (dsimp only; split) | (simp +contextual (maxDischargeDepth := 60) [*]; split))
@[simp] theorem State.classify_keeps (s : State) (p : Fin 4) (rx : NetRx) (H : Closed P) (HM : ClosedMem P) (h_ : Holds P s) : Holds P (State.classify s p rx) := by
  unfold State.classify; repeat' (first | (simp +contextual (maxDischargeDepth := 60) [*]; done) | split | (dsimp only; split) | (simp +contextual (maxDischargeDepth := 60) [*]; split))
@[simp] theorem State.receive_keeps (s : State) (p : Fin 4) (rx : NetRx) (H : Closed P) (HM : ClosedMem P) (h_ : Holds P s) : Holds P (State.receive s p rx) := by
  unfold State.receive; repeat' (first | (simp +contextual (maxDischargeDepth := 60) [*]; done) | split | (dsimp only; split) | (simp +contextual (maxDischargeDepth := 60) [*]; split))
theorem execFrameReceive_keeps (p : Fin 4) (rx : NetRx) (s : State) (t_ : State) (H : Closed P) (HM : ClosedMem P) (h_ : Holds P s) (e_ : execFrameReceive p rx s = .next t_) : Holds P t_ := by
  simp only [execFrameReceive, Host.Outcome.next.injEq] at e_; subst e_; repeat' (first | (simp +contextual (maxDischargeDepth := 60) [*]; done) | split | (dsimp only; split) | (simp +contextual (maxDischargeDepth := 60) [*]; split))
@[simp] theorem State.setLane_keeps (s : State) (a : Fin 64) (f : Lane → Lane) (H : Closed P) (h_ : Holds P s) : Holds P (State.setLane s a f) := by
  unfold State.setLane; repeat' (first | (simp +contextual (maxDischargeDepth := 60) [*]; done) | split | (dsimp only; split) | (simp +contextual (maxDischargeDepth := 60) [*]; split))
@[simp] theorem State.putRec_keeps (s : State) (i w : Nat) (H : Closed P) (HM : ClosedMem P) (h_ : Holds P s) : Holds P (State.putRec s i w) := by
  unfold State.putRec; repeat' (first | (simp +contextual (maxDischargeDepth := 60) [*]; done) | split | (dsimp only; split) | (simp +contextual (maxDischargeDepth := 60) [*]; split))
@[simp] theorem State.rset_keeps (s : State) (i : Nat) (f : Rf) (v : Nat) (H : Closed P) (HM : ClosedMem P) (h_ : Holds P s) : Holds P (State.rset s i f v) := by
  unfold State.rset; repeat' (first | (simp +contextual (maxDischargeDepth := 60) [*]; done) | split | (dsimp only; split) | (simp +contextual (maxDischargeDepth := 60) [*]; split))
@[simp] theorem State.allocate_keeps (s : State) (d : Nat) (H : Closed P) (h_ : Holds P s) : Holds P (State.allocate s d).2 := by
  unfold State.allocate; repeat' (first | (simp +contextual (maxDischargeDepth := 60) [*]; done) | split | (dsimp only; split) | (simp +contextual (maxDischargeDepth := 60) [*]; split))
@[simp] theorem State.appendEvent_keeps (s : State) (i e : Nat) (H : Closed P) (HM : ClosedMem P) (h_ : Holds P s) : Holds P (State.appendEvent s i e) := by
  unfold State.appendEvent; repeat' (first | (simp +contextual (maxDischargeDepth := 60) [*]; done) | split | (dsimp only; split) | (simp +contextual (maxDischargeDepth := 60) [*]; split))
@[simp] theorem State.unlink_keeps (s : State) (e : Nat) (H : Closed P) (HM : ClosedMem P) (h_ : Holds P s) : Holds P (State.unlink s e) := by
  unfold State.unlink; repeat' (first | (simp +contextual (maxDischargeDepth := 60) [*]; done) | split | (dsimp only; split) | (simp +contextual (maxDischargeDepth := 60) [*]; split))
@[simp] theorem State.freeRec_keeps (s : State) (i : Nat) (H : Closed P) (HM : ClosedMem P) (h_ : Holds P s) : Holds P (State.freeRec s i) := by
  unfold State.freeRec; repeat' (first | (simp +contextual (maxDischargeDepth := 60) [*]; done) | split | (dsimp only; split) | (simp +contextual (maxDischargeDepth := 60) [*]; split))
@[simp] theorem State.freeItem_keeps (s : State) (i : Nat) (H : Closed P) (HM : ClosedMem P) (h_ : Holds P s) : Holds P (State.freeItem s i) := by
  unfold State.freeItem; repeat' (first | (simp +contextual (maxDischargeDepth := 60) [*]; done) | split | (dsimp only; split) | (simp +contextual (maxDischargeDepth := 60) [*]; split))
@[simp] theorem State.showRpt_keeps (s : State) (d : Fin 8) (H : Closed P) (h_ : Holds P s) : Holds P (State.showRpt s d) := by
  unfold State.showRpt; repeat' (first | (simp +contextual (maxDischargeDepth := 60) [*]; done) | split | (dsimp only; split) | (simp +contextual (maxDischargeDepth := 60) [*]; split))
@[simp] theorem State.rptVec_keeps (s : State) (d : Fin 8) (H : Closed P) (h_ : Holds P s) : Holds P (State.rptVec s d) := by
  unfold State.rptVec; repeat' (first | (simp +contextual (maxDischargeDepth := 60) [*]; done) | split | (dsimp only; split) | (simp +contextual (maxDischargeDepth := 60) [*]; split))
@[simp] theorem State.reportAt_keeps (s : State) (t : Nat) (d : Fin 8) (code lane idx id detail : Nat) (H : Closed P) (h_ : Holds P s) : Holds P (State.reportAt s t d code lane idx id detail) := by
  unfold State.reportAt; repeat' (first | (simp +contextual (maxDischargeDepth := 60) [*]; done) | split | (dsimp only; split) | (simp +contextual (maxDischargeDepth := 60) [*]; split))
@[simp] theorem State.reportRecAt_keeps (s : State) (t i code detail : Nat) (H : Closed P) (h_ : Holds P s) : Holds P (State.reportRecAt s t i code detail) := by
  unfold State.reportRecAt; repeat' (first | (simp +contextual (maxDischargeDepth := 60) [*]; done) | split | (dsimp only; split) | (simp +contextual (maxDischargeDepth := 60) [*]; split))
@[simp] theorem State.reportRec_keeps (s : State) (i code detail : Nat) (H : Closed P) (h_ : Holds P s) : Holds P (State.reportRec s i code detail) := by
  unfold State.reportRec; repeat' (first | (simp +contextual (maxDischargeDepth := 60) [*]; done) | split | (dsimp only; split) | (simp +contextual (maxDischargeDepth := 60) [*]; split))
@[simp] theorem State.popReport_keeps (s : State) (d : Fin 8) (H : Closed P) (h_ : Holds P s) : Holds P (State.popReport s d) := by
  unfold State.popReport; repeat' (first | (simp +contextual (maxDischargeDepth := 60) [*]; done) | split | (dsimp only; split) | (simp +contextual (maxDischargeDepth := 60) [*]; split))
theorem execRgnRptPop_keeps (d : Fin 8) (s : State) (t_ : State) (H : Closed P) (h_ : Holds P s) (e_ : execRgnRptPop d s = .next t_) : Holds P t_ := by
  simp only [execRgnRptPop, Host.Outcome.next.injEq] at e_; subst e_; repeat' (first | (simp +contextual (maxDischargeDepth := 60) [*]; done) | split | (dsimp only; split) | (simp +contextual (maxDischargeDepth := 60) [*]; split))
@[simp] theorem State.showLane_keeps (s : State) (a : Fin 64) (H : Closed P) (h_ : Holds P s) : Holds P (State.showLane s a) := by
  unfold State.showLane; repeat' (first | (simp +contextual (maxDischargeDepth := 60) [*]; done) | split | (dsimp only; split) | (simp +contextual (maxDischargeDepth := 60) [*]; split))
@[simp] theorem State.buffer_keeps (s : State) (i : Nat) (H : Closed P) (h_ : Holds P s) : Holds P (State.buffer s i) := by
  unfold State.buffer; repeat' (first | (simp +contextual (maxDischargeDepth := 60) [*]; done) | split | (dsimp only; split) | (simp +contextual (maxDischargeDepth := 60) [*]; split))
@[simp] theorem State.startRebuild_keeps (s : State) (H : Closed P) (h_ : Holds P s) : Holds P (State.startRebuild s) := by
  unfold State.startRebuild; repeat' (first | (simp +contextual (maxDischargeDepth := 60) [*]; done) | split | (dsimp only; split) | (simp +contextual (maxDischargeDepth := 60) [*]; split))
@[simp] theorem State.deadRebuild_keeps (s : State) (H : Closed P) (h_ : Holds P s) : Holds P (State.deadRebuild s) := by
  unfold State.deadRebuild; repeat' (first | (simp +contextual (maxDischargeDepth := 60) [*]; done) | split | (dsimp only; split) | (simp +contextual (maxDischargeDepth := 60) [*]; split))
@[simp] theorem State.endRebuild_keeps (s : State) (H : Closed P) (h_ : Holds P s) : Holds P (State.endRebuild s) := by
  unfold State.endRebuild; repeat' (first | (simp +contextual (maxDischargeDepth := 60) [*]; done) | split | (dsimp only; split) | (simp +contextual (maxDischargeDepth := 60) [*]; split))
@[simp] theorem State.completeRebuild_keeps (s : State) (H : Closed P) (h_ : Holds P s) : Holds P (State.completeRebuild s) := by
  unfold State.completeRebuild; repeat' (first | (simp +contextual (maxDischargeDepth := 60) [*]; done) | split | (dsimp only; split) | (simp +contextual (maxDischargeDepth := 60) [*]; split))
theorem execRebuildComplete_keeps (s : State) (t_ : State) (H : Closed P) (h_ : Holds P s) (e_ : execRebuildComplete s = .next t_) : Holds P t_ := by
  simp only [execRebuildComplete, Host.Outcome.next.injEq] at e_; subst e_; repeat' (first | (simp +contextual (maxDischargeDepth := 60) [*]; done) | split | (dsimp only; split) | (simp +contextual (maxDischargeDepth := 60) [*]; split))
theorem execRebuild_keeps (s : State) (t_ : State) (H : Closed P) (h_ : Holds P s) (e_ : execRebuild s = .next t_) : Holds P t_ := by
  simp only [execRebuild, Host.Outcome.next.injEq] at e_; subst e_; repeat' (first | (simp +contextual (maxDischargeDepth := 60) [*]; done) | split | (dsimp only; split) | (simp +contextual (maxDischargeDepth := 60) [*]; split))
@[simp] theorem State.swapLane_keeps (s : State) (a : Fin 64) (H : Closed P) (h_ : Holds P s) : Holds P (State.swapLane s a) := by
  unfold State.swapLane; repeat' (first | (simp +contextual (maxDischargeDepth := 60) [*]; done) | split | (dsimp only; split) | (simp +contextual (maxDischargeDepth := 60) [*]; split))
@[simp] theorem State.writeLaneCtrl_keeps (s : State) (a : Fin 64) (v : Nat) (H : Closed P) (h_ : Holds P s) : Holds P (State.writeLaneCtrl s a v) := by
  unfold State.writeLaneCtrl; repeat' (first | (simp +contextual (maxDischargeDepth := 60) [*]; done) | split | (dsimp only; split) | (simp +contextual (maxDischargeDepth := 60) [*]; split))
theorem execMerge_keeps (a : Fin 64) (s : State) (t_ : State) (H : Closed P) (h_ : Holds P s) (e_ : execMerge a s = .next t_) : Holds P t_ := by
  simp only [execMerge, Host.Outcome.next.injEq] at e_; subst e_; repeat' (first | (simp +contextual (maxDischargeDepth := 60) [*]; done) | split | (dsimp only; split) | (simp +contextual (maxDischargeDepth := 60) [*]; split))
@[simp] theorem State.trackInit_keeps (s : State) (H : Closed P) (HM : ClosedMem P) (h_ : Holds P s) : Holds P (State.trackInit s) := by
  unfold State.trackInit; repeat' (first | (simp +contextual (maxDischargeDepth := 60) [*]; done) | split | (dsimp only; split) | (simp +contextual (maxDischargeDepth := 60) [*]; split))
theorem execInit_keeps (s : State) (t_ : State) (H : Closed P) (HM : ClosedMem P) (h_ : Holds P s) (e_ : execInit s = .next t_) : Holds P t_ := by
  simp only [execInit, Host.Outcome.next.injEq] at e_; subst e_; repeat' (first | (simp +contextual (maxDischargeDepth := 60) [*]; done) | split | (dsimp only; split) | (simp +contextual (maxDischargeDepth := 60) [*]; split))
@[simp] theorem State.writeTrackRgn_keeps (s : State) (d : Fin 8) (v : Nat) (H : Closed P) (HM : ClosedMem P) (h_ : Holds P s) : Holds P (State.writeTrackRgn s d v) := by
  unfold State.writeTrackRgn; repeat' (first | (simp +contextual (maxDischargeDepth := 60) [*]; done) | split | (dsimp only; split) | (simp +contextual (maxDischargeDepth := 60) [*]; split))
theorem execTrackRgnWrite_keeps (d : Fin 8) (v : Word) (s : State) (t_ : State) (H : Closed P) (HM : ClosedMem P) (h_ : Holds P s) (e_ : execTrackRgnWrite d v s = .next t_) : Holds P t_ := by
  simp only [execTrackRgnWrite, Host.Outcome.next.injEq] at e_; subst e_; repeat' (first | (simp +contextual (maxDischargeDepth := 60) [*]; done) | split | (dsimp only; split) | (simp +contextual (maxDischargeDepth := 60) [*]; split))
@[simp] theorem State.hoPut_keeps (s : State) (h : HoItem) (H : Closed P) (h_ : Holds P s) : Holds P (State.hoPut s h) := by
  unfold State.hoPut; repeat' (first | (simp +contextual (maxDischargeDepth := 60) [*]; done) | split | (dsimp only; split) | (simp +contextual (maxDischargeDepth := 60) [*]; split))
@[simp] theorem State.hoMod_keeps (s : State) (i : Nat) (f : HoItem → HoItem) (H : Closed P) (h_ : Holds P s) : Holds P (State.hoMod s i f) := by
  unfold State.hoMod; repeat' (first | (simp +contextual (maxDischargeDepth := 60) [*]; done) | split | (dsimp only; split) | (simp +contextual (maxDischargeDepth := 60) [*]; split))
@[simp] theorem State.showDoubt_keeps (s : State) (k : Nat) (H : Closed P) (h_ : Holds P s) : Holds P (State.showDoubt s k) := by
  unfold State.showDoubt; repeat' (first | (simp +contextual (maxDischargeDepth := 60) [*]; done) | split | (dsimp only; split) | (simp +contextual (maxDischargeDepth := 60) [*]; split))
@[simp] theorem State.enterDoubt_keeps (s : State) (i : Nat) (H : Closed P) (HM : ClosedMem P) (h_ : Holds P s) : Holds P (State.enterDoubt s i) := by
  unfold State.enterDoubt; repeat' (first | (simp +contextual (maxDischargeDepth := 60) [*]; done) | split | (dsimp only; split) | (simp +contextual (maxDischargeDepth := 60) [*]; split))
@[simp] theorem State.endItem_keeps (s : State) (i code detail : Nat) (fail : Bool) (H : Closed P) (HM : ClosedMem P) (h_ : Holds P s) : Holds P (State.endItem s i code detail fail) := by
  unfold State.endItem; repeat' (first | (simp +contextual (maxDischargeDepth := 60) [*]; done) | split | (dsimp only; split) | (simp +contextual (maxDischargeDepth := 60) [*]; split))
@[simp] theorem State.hoSend_keeps (s : State) (k : Fin 8) (dn : Bool) (type ver xfer id count arg : Nat) (body : List Byte) (H : Closed P) (h_ : Holds P s) : Holds P (State.hoSend s k dn type ver xfer id count arg body) := by
  unfold State.hoSend; repeat' (first | (simp +contextual (maxDischargeDepth := 60) [*]; done) | split | (dsimp only; split) | (simp +contextual (maxDischargeDepth := 60) [*]; split))
@[simp] theorem State.hoAbout_keeps (s : State) (k : Fin 8) (dn : Bool) (type xfer id arg : Nat) (body : List Byte) (H : Closed P) (h_ : Holds P s) : Holds P (State.hoAbout s k dn type xfer id arg body) := by
  unfold State.hoAbout; repeat' (first | (simp +contextual (maxDischargeDepth := 60) [*]; done) | split | (dsimp only; split) | (simp +contextual (maxDischargeDepth := 60) [*]; split))
@[simp] theorem State.sendOffer_keeps (s : State) (i : Nat) (H : Closed P) (h_ : Holds P s) : Holds P (State.sendOffer s i) := by
  unfold State.sendOffer; repeat' (first | (simp +contextual (maxDischargeDepth := 60) [*]; done) | split | (dsimp only; split) | (simp +contextual (maxDischargeDepth := 60) [*]; split))
@[simp] theorem State.offerItem_keeps (s : State) (i : Nat) (H : Closed P) (HM : ClosedMem P) (h_ : Holds P s) : Holds P (State.offerItem s i) := by
  unfold State.offerItem; repeat' (first | (simp +contextual (maxDischargeDepth := 60) [*]; done) | split | (dsimp only; split) | (simp +contextual (maxDischargeDepth := 60) [*]; split))
@[simp] theorem State.sendCommit_keeps (s : State) (i : Nat) (H : Closed P) (h_ : Holds P s) : Holds P (State.sendCommit s i) := by
  unfold State.sendCommit; repeat' (first | (simp +contextual (maxDischargeDepth := 60) [*]; done) | split | (dsimp only; split) | (simp +contextual (maxDischargeDepth := 60) [*]; split))
@[simp] theorem State.sendWithdraw_keeps (s : State) (i : Nat) (H : Closed P) (h_ : Holds P s) : Holds P (State.sendWithdraw s i) := by
  unfold State.sendWithdraw; repeat' (first | (simp +contextual (maxDischargeDepth := 60) [*]; done) | split | (dsimp only; split) | (simp +contextual (maxDischargeDepth := 60) [*]; split))
@[simp] theorem State.crossItem_keeps (s : State) (i tB : Nat) (H : Closed P) (HM : ClosedMem P) (h_ : Holds P s) : Holds P (State.crossItem s i tB) := by
  unfold State.crossItem; repeat' (first | (simp +contextual (maxDischargeDepth := 60) [*]; done) | split | (dsimp only; split) | (simp +contextual (maxDischargeDepth := 60) [*]; split))
@[simp] theorem State.hoDrop_keeps (s : State) (k : Nat) (H : Closed P) (h_ : Holds P s) : Holds P (State.hoDrop s k) := by
  unfold State.hoDrop; repeat' (first | (simp +contextual (maxDischargeDepth := 60) [*]; done) | split | (dsimp only; split) | (simp +contextual (maxDischargeDepth := 60) [*]; split))
@[simp] theorem State.hoHeard_keeps (s : State) (k : Fin 8) (dn : Bool) (H : Closed P) (h_ : Holds P s) : Holds P (State.hoHeard s k dn) := by
  unfold State.hoHeard; repeat' (first | (simp +contextual (maxDischargeDepth := 60) [*]; done) | split | (dsimp only; split) | (simp +contextual (maxDischargeDepth := 60) [*]; split))
@[simp] theorem State.hoFirst_keeps (s : State) (k : Fin 8) (type : Nat) (m : HoMsg) (H : Closed P) (h_ : Holds P s) : Holds P (State.hoFirst s k type m).2 := by
  unfold State.hoFirst; repeat' (first | (simp +contextual (maxDischargeDepth := 60) [*]; done) | split | (dsimp only; split) | (simp +contextual (maxDischargeDepth := 60) [*]; split))
@[simp] theorem State.hoRecv_keeps (s : State) (k : Fin 8) (dn : Bool) (type : Nat) (m : HoMsg) (f : State → State) (H : Closed P) (h_ : Holds P s) (h_f : ∀  t_, Holds P t_ → Holds P (f  t_)) : Holds P (State.hoRecv s k dn type m f) := by
  unfold State.hoRecv; repeat' (first | (simp +contextual (maxDischargeDepth := 60) [*]; done) | split | (dsimp only; split) | (simp +contextual (maxDischargeDepth := 60) [*]; split))
@[simp] theorem State.hello_keeps (s : State) (k : Fin 8) (dn : Bool) (m : HoMsg) (H : Closed P) (h_ : Holds P s) : Holds P (State.hello s k dn m) := by
  unfold State.hello; repeat' (first | (simp +contextual (maxDischargeDepth := 60) [*]; done) | split | (dsimp only; split) | (simp +contextual (maxDischargeDepth := 60) [*]; split))
theorem execHello_keeps (k : Fin 8) (dn : Bool) (m : HoMsg) (s : State) (t_ : State) (H : Closed P) (h_ : Holds P s) (e_ : execHello k dn m s = .next t_) : Holds P t_ := by
  simp only [execHello, Host.Outcome.next.injEq] at e_; subst e_; repeat' (first | (simp +contextual (maxDischargeDepth := 60) [*]; done) | split | (dsimp only; split) | (simp +contextual (maxDischargeDepth := 60) [*]; split))
theorem execHelloSend_keeps (k : Fin 8) (s : State) (t_ : State) (H : Closed P) (h_ : Holds P s) (e_ : execHelloSend k s = .next t_) : Holds P t_ := by
  simp only [execHelloSend, Host.Outcome.next.injEq] at e_; subst e_; repeat' (first | (simp +contextual (maxDischargeDepth := 60) [*]; done) | split | (dsimp only; split) | (simp +contextual (maxDischargeDepth := 60) [*]; split))
theorem execSessionDown_keeps (k : Fin 8) (dn : Bool) (s : State) (t_ : State) (H : Closed P) (h_ : Holds P s) (e_ : execSessionDown k dn s = .next t_) : Holds P t_ := by
  simp only [execSessionDown, Host.Outcome.next.injEq] at e_; subst e_; repeat' (first | (simp +contextual (maxDischargeDepth := 60) [*]; done) | split | (dsimp only; split) | (simp +contextual (maxDischargeDepth := 60) [*]; split))
@[simp] theorem State.countInserts_keeps (s : State) (d : Fin 8) (n : Nat) (H : Closed P) (h_ : Holds P s) : Holds P (State.countInserts s d n) := by
  unfold State.countInserts; repeat' (first | (simp +contextual (maxDischargeDepth := 60) [*]; done) | split | (dsimp only; split) | (simp +contextual (maxDischargeDepth := 60) [*]; split))
@[simp] theorem State.addRecord_keeps (s : State) (d : Fin 8) (w : Nat) (H : Closed P) (HM : ClosedMem P) (h_ : Holds P s) : Holds P (s.addRecord d w).2 := by
  have ha := State.allocate_keeps s d H h_
  unfold State.addRecord
  rcases hq : s.allocate d with ⟨_ | i, u⟩ <;> rw [hq] at ha <;> dsimp only at ha ⊢
  · exact ha
  · refine State.buffer_keeps _ _ H ?_
    repeat' (first | (simp (maxDischargeDepth := 60) [*]; done) | split)
@[simp] theorem State.holdItem_keeps (s : State) (k : Fin 8) (m : HoMsg) (H : Closed P) (HM : ClosedMem P) (h_ : Holds P s) : Holds P (s.holdItem k m) := by
  have ha := State.addRecord_keeps s (s.hoOwner k) (arrivalItem k m) H HM h_
  unfold State.holdItem; dsimp only
  rcases hq : s.addRecord (s.hoOwner k) (arrivalItem k m) with ⟨_ | i, u⟩ <;> rw [hq] at ha <;> dsimp only at ha ⊢
  · exact ha
  · refine State.countInserts_keeps _ _ _ H (State.hoPut_keeps _ _ H ?_)
    exact foldl_keeps _ _ (fun r : Option Nat × State => r.2) _ ha fun r x hr => State.addRecord_keeps _ _ _ H HM hr
@[simp] theorem State.takeOffer_keeps (s : State) (k : Fin 8) (m : HoMsg) (H : Closed P) (HM : ClosedMem P) (h_ : Holds P s) : Holds P (State.takeOffer s k m) := by
  unfold State.takeOffer; repeat' (first | (simp +contextual (maxDischargeDepth := 60) [*]; done) | split | (dsimp only; split) | (simp +contextual (maxDischargeDepth := 60) [*]; split))
theorem execOffer_keeps (k : Fin 8) (m : HoMsg) (s : State) (t_ : State) (H : Closed P) (HM : ClosedMem P) (h_ : Holds P s) (e_ : execOffer k m s = .next t_) : Holds P t_ := by
  simp only [execOffer, Host.Outcome.next.injEq] at e_; subst e_; repeat' (first | (simp +contextual (maxDischargeDepth := 60) [*]; done) | split | (dsimp only; split) | (simp +contextual (maxDischargeDepth := 60) [*]; split))
@[simp] theorem State.takeCommitMsg_keeps (s : State) (k : Fin 8) (m : HoMsg) (H : Closed P) (HM : ClosedMem P) (h_ : Holds P s) : Holds P (State.takeCommitMsg s k m) := by
  unfold State.takeCommitMsg; repeat' (first | (simp +contextual (maxDischargeDepth := 60) [*]; done) | split | (dsimp only; split) | (simp +contextual (maxDischargeDepth := 60) [*]; split))
theorem execCommit_keeps (k : Fin 8) (m : HoMsg) (s : State) (t_ : State) (H : Closed P) (HM : ClosedMem P) (h_ : Holds P s) (e_ : execCommit k m s = .next t_) : Holds P t_ := by
  simp only [execCommit, Host.Outcome.next.injEq] at e_; subst e_; repeat' (first | (simp +contextual (maxDischargeDepth := 60) [*]; done) | split | (dsimp only; split) | (simp +contextual (maxDischargeDepth := 60) [*]; split))
@[simp] theorem State.takeWithdraw_keeps (s : State) (k : Fin 8) (m : HoMsg) (H : Closed P) (HM : ClosedMem P) (h_ : Holds P s) : Holds P (State.takeWithdraw s k m) := by
  unfold State.takeWithdraw; repeat' (first | (simp +contextual (maxDischargeDepth := 60) [*]; done) | split | (dsimp only; split) | (simp +contextual (maxDischargeDepth := 60) [*]; split))
theorem execWithdraw_keeps (k : Fin 8) (m : HoMsg) (s : State) (t_ : State) (H : Closed P) (HM : ClosedMem P) (h_ : Holds P s) (e_ : execWithdraw k m s = .next t_) : Holds P t_ := by
  simp only [execWithdraw, Host.Outcome.next.injEq] at e_; subst e_; repeat' (first | (simp +contextual (maxDischargeDepth := 60) [*]; done) | split | (dsimp only; split) | (simp +contextual (maxDischargeDepth := 60) [*]; split))
@[simp] theorem State.absentItem_keeps (s : State) (i : Nat) (H : Closed P) (HM : ClosedMem P) (h_ : Holds P s) : Holds P (State.absentItem s i) := by
  unfold State.absentItem; repeat' (first | (simp +contextual (maxDischargeDepth := 60) [*]; done) | split | (dsimp only; split) | (simp +contextual (maxDischargeDepth := 60) [*]; split))
@[simp] theorem State.foundItem_keeps (s : State) (i : Nat) (H : Closed P) (HM : ClosedMem P) (h_ : Holds P s) : Holds P (State.foundItem s i) := by
  unfold State.foundItem; repeat' (first | (simp +contextual (maxDischargeDepth := 60) [*]; done) | split | (dsimp only; split) | (simp +contextual (maxDischargeDepth := 60) [*]; split))
theorem execHeldCommitTimeout_keeps (i : Fin 262144) (s : State) (t_ : State) (H : Closed P) (HM : ClosedMem P) (h_ : Holds P s) (e_ : execHeldCommitTimeout i s = .next t_) : Holds P t_ := by
  simp only [execHeldCommitTimeout, Host.Outcome.next.injEq] at e_; subst e_; repeat' (first | (simp +contextual (maxDischargeDepth := 60) [*]; done) | split | (dsimp only; split) | (simp +contextual (maxDischargeDepth := 60) [*]; split))
theorem execDoubtTmo_keeps (i : Fin 262144) (s : State) (t_ : State) (H : Closed P) (HM : ClosedMem P) (h_ : Holds P s) (e_ : execDoubtTmo i s = .next t_) : Holds P t_ := by
  simp only [execDoubtTmo, Host.Outcome.next.injEq] at e_; subst e_; repeat' (first | (simp +contextual (maxDischargeDepth := 60) [*]; done) | split | (dsimp only; split) | (simp +contextual (maxDischargeDepth := 60) [*]; split))
@[simp] theorem State.takeAccept_keeps (s : State) (k : Fin 8) (m : HoMsg) (H : Closed P) (HM : ClosedMem P) (h_ : Holds P s) : Holds P (State.takeAccept s k m) := by
  unfold State.takeAccept; repeat' (first | (simp +contextual (maxDischargeDepth := 60) [*]; done) | split | (dsimp only; split) | (simp +contextual (maxDischargeDepth := 60) [*]; split))
theorem execAccept_keeps (k : Fin 8) (m : HoMsg) (s : State) (t_ : State) (H : Closed P) (HM : ClosedMem P) (h_ : Holds P s) (e_ : execAccept k m s = .next t_) : Holds P t_ := by
  simp only [execAccept, Host.Outcome.next.injEq] at e_; subst e_; repeat' (first | (simp +contextual (maxDischargeDepth := 60) [*]; done) | split | (dsimp only; split) | (simp +contextual (maxDischargeDepth := 60) [*]; split))
@[simp] theorem State.takeRefuse_keeps (s : State) (k : Fin 8) (m : HoMsg) (H : Closed P) (HM : ClosedMem P) (h_ : Holds P s) : Holds P (State.takeRefuse s k m) := by
  unfold State.takeRefuse; repeat' (first | (simp +contextual (maxDischargeDepth := 60) [*]; done) | split | (dsimp only; split) | (simp +contextual (maxDischargeDepth := 60) [*]; split))
theorem execRefuse_keeps (k : Fin 8) (m : HoMsg) (s : State) (t_ : State) (H : Closed P) (HM : ClosedMem P) (h_ : Holds P s) (e_ : execRefuse k m s = .next t_) : Holds P t_ := by
  simp only [execRefuse, Host.Outcome.next.injEq] at e_; subst e_; repeat' (first | (simp +contextual (maxDischargeDepth := 60) [*]; done) | split | (dsimp only; split) | (simp +contextual (maxDischargeDepth := 60) [*]; split))
@[simp] theorem State.takeDone_keeps (s : State) (k : Fin 8) (m : HoMsg) (H : Closed P) (HM : ClosedMem P) (h_ : Holds P s) : Holds P (State.takeDone s k m) := by
  unfold State.takeDone; repeat' (first | (simp +contextual (maxDischargeDepth := 60) [*]; done) | split | (dsimp only; split) | (simp +contextual (maxDischargeDepth := 60) [*]; split))
theorem execDoneMsg_keeps (k : Fin 8) (m : HoMsg) (s : State) (t_ : State) (H : Closed P) (HM : ClosedMem P) (h_ : Holds P s) (e_ : execDoneMsg k m s = .next t_) : Holds P t_ := by
  simp only [execDoneMsg, Host.Outcome.next.injEq] at e_; subst e_; repeat' (first | (simp +contextual (maxDischargeDepth := 60) [*]; done) | split | (dsimp only; split) | (simp +contextual (maxDischargeDepth := 60) [*]; split))
@[simp] theorem State.takeResolve_keeps (s : State) (k : Fin 8) (m : HoMsg) (H : Closed P) (HM : ClosedMem P) (h_ : Holds P s) : Holds P (State.takeResolve s k m) := by
  unfold State.takeResolve; repeat' (first | (simp +contextual (maxDischargeDepth := 60) [*]; done) | split | (dsimp only; split) | (simp +contextual (maxDischargeDepth := 60) [*]; split))
theorem execResolve_keeps (k : Fin 8) (m : HoMsg) (s : State) (t_ : State) (H : Closed P) (HM : ClosedMem P) (h_ : Holds P s) (e_ : execResolve k m s = .next t_) : Holds P t_ := by
  simp only [execResolve, Host.Outcome.next.injEq] at e_; subst e_; repeat' (first | (simp +contextual (maxDischargeDepth := 60) [*]; done) | split | (dsimp only; split) | (simp +contextual (maxDischargeDepth := 60) [*]; split))
theorem execHoRetry_keeps (i : Fin 262144) (s : State) (t_ : State) (H : Closed P) (h_ : Holds P s) (e_ : execHoRetry i s = .next t_) : Holds P t_ := by
  simp only [execHoRetry, Host.Outcome.next.injEq] at e_; subst e_; repeat' (first | (simp +contextual (maxDischargeDepth := 60) [*]; done) | split | (dsimp only; split) | (simp +contextual (maxDischargeDepth := 60) [*]; split))
theorem execCommitTmo_keeps (i : Fin 262144) (s : State) (t_ : State) (H : Closed P) (HM : ClosedMem P) (h_ : Holds P s) (e_ : execCommitTmo i s = .next t_) : Holds P t_ := by
  simp only [execCommitTmo, Host.Outcome.next.injEq] at e_; subst e_; repeat' (first | (simp +contextual (maxDischargeDepth := 60) [*]; done) | split | (dsimp only; split) | (simp +contextual (maxDischargeDepth := 60) [*]; split))
@[simp] theorem State.setCap_keeps (s : State) (f : CaptureState → CaptureState) (H : Closed P) (h : Holds P s) : Holds P (s.setCap f) := H.setCap s f h
@[simp] theorem State.setRec_keeps (s : State) (r : Fin 8) (f : Recorder → Recorder) (H : Closed P) (h_ : Holds P s) : Holds P (State.setRec s r f) := by
  unfold State.setRec; repeat' (first | (simp +contextual (maxDischargeDepth := 60) [*]; done) | split | (dsimp only; split) | (simp +contextual (maxDischargeDepth := 60) [*]; split))
@[simp] theorem State.setTrcSt_keeps (s : State) (r v : Nat) (H : Closed P) (h_ : Holds P s) : Holds P (State.setTrcSt s r v) := by
  unfold State.setTrcSt; repeat' (first | (simp +contextual (maxDischargeDepth := 60) [*]; done) | split | (dsimp only; split) | (simp +contextual (maxDischargeDepth := 60) [*]; split))
@[simp] theorem State.putEntry_keeps (s : State) (r : Fin 8) (tick src tag value : Nat) (H : Closed P) (HM : ClosedMem P) (h_ : Holds P s) : Holds P (State.putEntry s r tick src tag value) := by
  unfold State.putEntry; repeat' (first | (simp +contextual (maxDischargeDepth := 60) [*]; done) | split | (dsimp only; split) | (simp +contextual (maxDischargeDepth := 60) [*]; split))
@[simp] theorem State.putMarker_keeps (s : State) (r : Fin 8) (tick : Nat) (H : Closed P) (HM : ClosedMem P) (h_ : Holds P s) : Holds P (State.putMarker s r tick) := by
  unfold State.putMarker; repeat' (first | (simp +contextual (maxDischargeDepth := 60) [*]; done) | split | (dsimp only; split) | (simp +contextual (maxDischargeDepth := 60) [*]; split))
@[simp] theorem State.offer_keeps (s : State) (r : Fin 8) (tick : Nat) (H : Closed P) (h_ : Holds P s) : Holds P (State.offer s r tick) := by
  unfold State.offer; repeat' (first | (simp +contextual (maxDischargeDepth := 60) [*]; done) | split | (dsimp only; split) | (simp +contextual (maxDischargeDepth := 60) [*]; split))
@[simp] theorem State.offerAll_keeps (s : State) (tick : Nat) (hit : Nat → Nat → Bool) (ok : Nat → Bool) (H : Closed P) (h_ : Holds P s) : Holds P (State.offerAll s tick hit ok) := by
  unfold State.offerAll; repeat' (first | (simp +contextual (maxDischargeDepth := 60) [*]; done) | split | (dsimp only; split) | (simp +contextual (maxDischargeDepth := 60) [*]; split))
@[simp] theorem State.takeTrigger_keeps (s : State) (r : Fin 8) (tick : Nat) (H : Closed P) (h_ : Holds P s) : Holds P (State.takeTrigger s r tick) := by
  unfold State.takeTrigger; repeat' (first | (simp +contextual (maxDischargeDepth := 60) [*]; done) | split | (dsimp only; split) | (simp +contextual (maxDischargeDepth := 60) [*]; split))
@[simp] theorem State.offerEvent_keeps (s : State) (i : Fin 8) (ch : Nat) (level : Bool) (tick : Nat) (H : Closed P) (h_ : Holds P s) : Holds P (State.offerEvent s i ch level tick) := by
  unfold State.offerEvent; repeat' (first | (simp +contextual (maxDischargeDepth := 60) [*]; done) | split | (dsimp only; split) | (simp +contextual (maxDischargeDepth := 60) [*]; split))
@[simp] theorem State.place_keeps (s : State) (i st : Nat) (tau : Int) (H : Closed P) (HM : ClosedMem P) (h_ : Holds P s) : Holds P (State.place s i st tau) := by
  unfold State.place; repeat' (first | (simp +contextual (maxDischargeDepth := 60) [*]; done) | split | (dsimp only; split) | (simp +contextual (maxDischargeDepth := 60) [*]; split))
@[simp] theorem State.setWin_keeps (s : State) (i : Nat) (t : Int) (H : Closed P) (h_ : Holds P s) : Holds P (State.setWin s i t) := by
  unfold State.setWin; repeat' (first | (simp +contextual (maxDischargeDepth := 60) [*]; done) | split | (dsimp only; split) | (simp +contextual (maxDischargeDepth := 60) [*]; split))
@[simp] theorem State.compareWindow_keeps (s : State) (p : Pass) (i : Nat) (H : Closed P) (HM : ClosedMem P) (h_ : Holds P s) : Holds P (State.compareWindow s p i).1 := by
  unfold State.compareWindow; repeat' (first | (simp +contextual (maxDischargeDepth := 60) [*]; done) | split | (dsimp only; split) | (simp +contextual (maxDischargeDepth := 60) [*]; split))
@[simp] theorem State.compareEvent_keeps (s : State) (p : Pass) (i : Nat) (H : Closed P) (HM : ClosedMem P) (h_ : Holds P s) : Holds P (State.compareEvent s p i).1 := by
  unfold State.compareEvent; repeat' (first | (simp +contextual (maxDischargeDepth := 60) [*]; done) | split | (dsimp only; split) | (simp +contextual (maxDischargeDepth := 60) [*]; split))
@[simp] theorem State.makeInhibited_keeps (s : State) (i t : Nat) (H : Closed P) (HM : ClosedMem P) (h_ : Holds P s) : Holds P (State.makeInhibited s i t) := by
  unfold State.makeInhibited; repeat' (first | (simp +contextual (maxDischargeDepth := 60) [*]; done) | split | (dsimp only; split) | (simp +contextual (maxDischargeDepth := 60) [*]; split))
@[simp] theorem State.makeMissed_keeps (s : State) (i late t : Nat) (H : Closed P) (HM : ClosedMem P) (h_ : Holds P s) : Holds P (State.makeMissed s i late t) := by
  unfold State.makeMissed; repeat' (first | (simp +contextual (maxDischargeDepth := 60) [*]; done) | split | (dsimp only; split) | (simp +contextual (maxDischargeDepth := 60) [*]; split))
@[simp] theorem State.commitAt_keeps (s : State) (i : Nat) (t : Nat) (H : Closed P) (HM : ClosedMem P) (h_ : Holds P s) : Holds P (State.commitAt s i t) := by
  unfold State.commitAt; repeat' (first | (simp +contextual (maxDischargeDepth := 60) [*]; done) | split | (dsimp only; split) | (simp +contextual (maxDischargeDepth := 60) [*]; split))
@[simp] theorem State.commitEvent_keeps (s : State) (p : Pass) (i : Nat) (t : Int) (H : Closed P) (HM : ClosedMem P) (h_ : Holds P s) : Holds P (State.commitEvent s p i t) := by
  unfold State.commitEvent; repeat' (first | (simp +contextual (maxDischargeDepth := 60) [*]; done) | split | (dsimp only; split) | (simp +contextual (maxDischargeDepth := 60) [*]; split))
@[simp] theorem State.act_keeps (s : State) (p : Pass) (x : Action) (H : Closed P) (HM : ClosedMem P) (h_ : Holds P s) : Holds P (State.act s p x) := by
  unfold State.act; repeat' (first | (simp +contextual (maxDischargeDepth := 60) [*]; done) | split | (dsimp only; split) | (simp +contextual (maxDischargeDepth := 60) [*]; split))
@[simp] theorem State.compareOne_keeps (s : State) (p : Pass) (l : List Action) (i : Nat) (H : Closed P) (HM : ClosedMem P) (h_ : Holds P s) : Holds P (State.compareOne s p l i).1 := by
  unfold State.compareOne; repeat' (first | (simp +contextual (maxDischargeDepth := 60) [*]; done) | split | (dsimp only; split) | (simp +contextual (maxDischargeDepth := 60) [*]; split))
@[simp] theorem State.compareAll_keeps (s : State) (p : Pass) (l : List Action) (r : List Nat) (H : Closed P) (HM : ClosedMem P) (h_ : Holds P s) : Holds P (s.compareAll p l r).1 := by
  induction r generalizing s l with
  | nil => exact h_
  | cons i r ih => exact ih _ _ (State.compareOne_keeps _ _ _ _ H HM h_)
@[simp] theorem State.deferAction_keeps (s : State) (p : Pass) (x : Action) (H : Closed P) (h_ : Holds P s) : Holds P (State.deferAction s p x) := by
  unfold State.deferAction; repeat' (first | (simp +contextual (maxDischargeDepth := 60) [*]; done) | split | (dsimp only; split) | (simp +contextual (maxDischargeDepth := 60) [*]; split))
@[simp] theorem State.comparePass_keeps (s : State) (p : Pass) (H : Closed P) (HM : ClosedMem P) (h_ : Holds P s) : Holds P (State.comparePass s p) := by
  unfold State.comparePass; repeat' (first | (simp +contextual (maxDischargeDepth := 60) [*]; done) | split | (dsimp only; split) | (simp +contextual (maxDischargeDepth := 60) [*]; split))
@[simp] theorem State.recordUe_keeps (s : State) (H : Closed P) (HM : ClosedMem P) (h_ : Holds P s) : Holds P (State.recordUe s) := by
  unfold State.recordUe; repeat' (first | (simp +contextual (maxDischargeDepth := 60) [*]; done) | split | (dsimp only; split) | (simp +contextual (maxDischargeDepth := 60) [*]; split))
theorem execCompareInstant_keeps (a : Fin 64) (s : State) (t_ : State) (H : Closed P) (HM : ClosedMem P) (h_ : Holds P s) (e_ : execCompareInstant a s = .next t_) : Holds P t_ := by
  simp only [execCompareInstant, Host.Outcome.next.injEq] at e_; subst e_; repeat' (first | (simp +contextual (maxDischargeDepth := 60) [*]; done) | split | (dsimp only; split) | (simp +contextual (maxDischargeDepth := 60) [*]; split))
@[simp] theorem State.setFin_keeps (s : State) (i t : Nat) (H : Closed P) (h_ : Holds P s) : Holds P (State.setFin s i t) := by
  unfold State.setFin; repeat' (first | (simp +contextual (maxDischargeDepth := 60) [*]; done) | split | (dsimp only; split) | (simp +contextual (maxDischargeDepth := 60) [*]; split))
@[simp] theorem State.bumpCorr_keeps (s : State) (i : Nat) (H : Closed P) (HM : ClosedMem P) (h_ : Holds P s) : Holds P (State.bumpCorr s i) := by
  unfold State.bumpCorr; repeat' (first | (simp +contextual (maxDischargeDepth := 60) [*]; done) | split | (dsimp only; split) | (simp +contextual (maxDischargeDepth := 60) [*]; split))
@[simp] theorem State.makeSuspect_keeps (s : State) (i : Nat) (delta : Int) (t : Nat) (H : Closed P) (HM : ClosedMem P) (h_ : Holds P s) : Holds P (State.makeSuspect s i delta t) := by
  unfold State.makeSuspect; repeat' (first | (simp +contextual (maxDischargeDepth := 60) [*]; done) | split | (dsimp only; split) | (simp +contextual (maxDischargeDepth := 60) [*]; split))
@[simp] theorem State.fireEvent_keeps (s : State) (i : Nat) (t : Nat) (H : Closed P) (HM : ClosedMem P) (h_ : Holds P s) : Holds P (State.fireEvent s i t) := by
  unfold State.fireEvent; repeat' (first | (simp +contextual (maxDischargeDepth := 60) [*]; done) | split | (dsimp only; split) | (simp +contextual (maxDischargeDepth := 60) [*]; split))
theorem execEventFire_keeps (i : Fin 262144) (s : State) (t_ : State) (H : Closed P) (HM : ClosedMem P) (h_ : Holds P s) (e_ : execEventFire i s = .next t_) : Holds P t_ := by
  simp only [execEventFire, Host.Outcome.next.injEq] at e_; subst e_; repeat' (first | (simp +contextual (maxDischargeDepth := 60) [*]; done) | split | (dsimp only; split) | (simp +contextual (maxDischargeDepth := 60) [*]; split))
theorem execWindowOpen_keeps (i : Fin 262144) (s : State) (t_ : State) (H : Closed P) (HM : ClosedMem P) (h_ : Holds P s) (e_ : execWindowOpen i s = .next t_) : Holds P t_ := by
  simp only [execWindowOpen, Host.Outcome.next.injEq] at e_; subst e_; repeat' (first | (simp +contextual (maxDischargeDepth := 60) [*]; done) | split | (dsimp only; split) | (simp +contextual (maxDischargeDepth := 60) [*]; split))
theorem execNotSeen_keeps (i : Fin 262144) (s : State) (t_ : State) (H : Closed P) (HM : ClosedMem P) (h_ : Holds P s) (e_ : execNotSeen i s = .next t_) : Holds P t_ := by
  simp only [execNotSeen, Host.Outcome.next.injEq] at e_; subst e_; repeat' (first | (simp +contextual (maxDischargeDepth := 60) [*]; done) | split | (dsimp only; split) | (simp +contextual (maxDischargeDepth := 60) [*]; split))
@[simp] theorem State.shiftItem_keeps (s : State) (i : Nat) (d : Int) (but : Option Nat) (H : Closed P) (HM : ClosedMem P) (h_ : Holds P s) : Holds P (State.shiftItem s i d but) := by
  unfold State.shiftItem; repeat' (first | (simp +contextual (maxDischargeDepth := 60) [*]; done) | split | (dsimp only; split) | (simp +contextual (maxDischargeDepth := 60) [*]; split))
@[simp] theorem State.seeWindow_keeps (s : State) (i t : Nat) (p : Int) (unal : Bool) (H : Closed P) (HM : ClosedMem P) (h_ : Holds P s) : Holds P (State.seeWindow s i t p unal) := by
  unfold State.seeWindow; repeat' (first | (simp +contextual (maxDischargeDepth := 60) [*]; done) | split | (dsimp only; split) | (simp +contextual (maxDischargeDepth := 60) [*]; split))
@[simp] theorem State.unexpected_keeps (s : State) (i : Fin 8) (ch : Nat) (level : Bool) (t : Nat) (H : Closed P) (h_ : Holds P s) : Holds P (State.unexpected s i ch level t) := by
  unfold State.unexpected; repeat' (first | (simp +contextual (maxDischargeDepth := 60) [*]; done) | split | (dsimp only; split) | (simp +contextual (maxDischargeDepth := 60) [*]; split))
@[simp] theorem State.trackEdge_keeps (s : State) (i : Fin 8) (ch : Nat) (level unal : Bool) (t : Nat) (H : Closed P) (HM : ClosedMem P) (h_ : Holds P s) : Holds P (State.trackEdge s i ch level unal t) := by
  unfold State.trackEdge; repeat' (first | (simp +contextual (maxDischargeDepth := 60) [*]; done) | split | (dsimp only; split) | (simp +contextual (maxDischargeDepth := 60) [*]; split))
@[simp] theorem State.correctRec_keeps (s : State) (c : Correction) (i : Nat) (H : Closed P) (HM : ClosedMem P) (h_ : Holds P s) : Holds P (State.correctRec s c i) := by
  unfold State.correctRec; repeat' (first | (simp +contextual (maxDischargeDepth := 60) [*]; done) | split | (dsimp only; split) | (simp +contextual (maxDischargeDepth := 60) [*]; split))
theorem execCorrectionApply_keeps (s : State) (t_ : State) (H : Closed P) (HM : ClosedMem P) (h_ : Holds P s) (e_ : execCorrectionApply s = .next t_) : Holds P t_ := by
  simp only [execCorrectionApply, Host.Outcome.next.injEq] at e_; subst e_; repeat' (first | (simp +contextual (maxDischargeDepth := 60) [*]; done) | split | (dsimp only; split) | (simp +contextual (maxDischargeDepth := 60) [*]; split))
@[simp] theorem State.releaseEvent_keeps (s : State) (e : EvHeld) (H : Closed P) (HM : ClosedMem P) (h_ : Holds P s) : Holds P (State.releaseEvent s e) := by
  unfold State.releaseEvent; repeat' (first | (simp +contextual (maxDischargeDepth := 60) [*]; done) | split | (dsimp only; split) | (simp +contextual (maxDischargeDepth := 60) [*]; split))
theorem execEventLogRelease_keeps (s : State) (t_ : State) (H : Closed P) (HM : ClosedMem P) (h_ : Holds P s) (e_ : execEventLogRelease s = .next t_) : Holds P t_ := by
  simp only [execEventLogRelease, Host.Outcome.next.injEq] at e_; subst e_; repeat' (first | (simp +contextual (maxDischargeDepth := 60) [*]; done) | split | (dsimp only; split) | (simp +contextual (maxDischargeDepth := 60) [*]; split))
@[simp] theorem State.rgnDone_keeps (s : State) (d : Fin 8) (status idx : Nat) (H : Closed P) (h_ : Holds P s) : Holds P (State.rgnDone s d status idx) := by
  unfold State.rgnDone; repeat' (first | (simp +contextual (maxDischargeDepth := 60) [*]; done) | split | (dsimp only; split) | (simp +contextual (maxDischargeDepth := 60) [*]; split))
@[simp] theorem State.insertRec_keeps (s : State) (d : Fin 8) (w : Nat) (item : Bool) (H : Closed P) (HM : ClosedMem P) (h_ : Holds P s) : Holds P (State.insertRec s d w item) := by
  unfold State.insertRec; repeat' (first | (simp +contextual (maxDischargeDepth := 60) [*]; done) | split | (dsimp only; split) | (simp +contextual (maxDischargeDepth := 60) [*]; split))
@[simp] theorem State.rgnGo_keeps (s : State) (d : Fin 8) (op idx : Nat) (f : State → State) (H : Closed P) (h_ : Holds P s) (h_f : ∀  t_, Holds P t_ → Holds P (f  t_)) : Holds P (State.rgnGo s d op idx f) := by
  unfold State.rgnGo; repeat' (first | (simp +contextual (maxDischargeDepth := 60) [*]; done) | split | (dsimp only; split) | (simp +contextual (maxDischargeDepth := 60) [*]; split))
@[simp] theorem State.insertCmd_keeps (s : State) (d : Fin 8) (idx : Nat) (item : Bool) (H : Closed P) (HM : ClosedMem P) (h_ : Holds P s) : Holds P (State.insertCmd s d idx item) := by
  unfold State.insertCmd; repeat' (first | (simp +contextual (maxDischargeDepth := 60) [*]; done) | split | (dsimp only; split) | (simp +contextual (maxDischargeDepth := 60) [*]; split))
theorem execInsertItem_keeps (d : Fin 8) (s : State) (t_ : State) (H : Closed P) (HM : ClosedMem P) (h_ : Holds P s) (e_ : execInsertItem d s = .next t_) : Holds P t_ := by
  simp only [execInsertItem, Host.Outcome.next.injEq] at e_; subst e_; repeat' (first | (simp +contextual (maxDischargeDepth := 60) [*]; done) | split | (dsimp only; split) | (simp +contextual (maxDischargeDepth := 60) [*]; split))
theorem execInsertEvent_keeps (d : Fin 8) (s : State) (t_ : State) (H : Closed P) (HM : ClosedMem P) (h_ : Holds P s) (e_ : execInsertEvent d s = .next t_) : Holds P t_ := by
  simp only [execInsertEvent, Host.Outcome.next.injEq] at e_; subst e_; repeat' (first | (simp +contextual (maxDischargeDepth := 60) [*]; done) | split | (dsimp only; split) | (simp +contextual (maxDischargeDepth := 60) [*]; split))
theorem execHeldInsertRelease_keeps (d : Fin 8) (s : State) (t_ : State) (H : Closed P) (HM : ClosedMem P) (h_ : Holds P s) (e_ : execHeldInsertRelease d s = .next t_) : Holds P t_ := by
  simp only [execHeldInsertRelease, Host.Outcome.next.injEq] at e_; subst e_; repeat' (first | (simp +contextual (maxDischargeDepth := 60) [*]; done) | split | (dsimp only; split) | (simp +contextual (maxDischargeDepth := 60) [*]; split))
@[simp] theorem State.cancelCmd_keeps (s : State) (d : Fin 8) (i : Nat) (H : Closed P) (HM : ClosedMem P) (h_ : Holds P s) : Holds P (State.cancelCmd s d i) := by
  unfold State.cancelCmd; repeat' (first | (simp +contextual (maxDischargeDepth := 60) [*]; done) | split | (dsimp only; split) | (simp +contextual (maxDischargeDepth := 60) [*]; split))
theorem execCancel_keeps (d : Fin 8) (i : Fin 262144) (s : State) (t_ : State) (H : Closed P) (HM : ClosedMem P) (h_ : Holds P s) (e_ : execCancel d i s = .next t_) : Holds P t_ := by
  simp only [execCancel, Host.Outcome.next.injEq] at e_; subst e_; repeat' (first | (simp +contextual (maxDischargeDepth := 60) [*]; done) | split | (dsimp only; split) | (simp +contextual (maxDischargeDepth := 60) [*]; split))
@[simp] theorem State.deleteCmd_keeps (s : State) (d : Fin 8) (i : Nat) (H : Closed P) (HM : ClosedMem P) (h_ : Holds P s) : Holds P (s.deleteCmd d i) := by
  unfold State.deleteCmd
  refine State.rgnGo_keeps _ _ _ _ _ H h_ fun t ht => ?_
  repeat' (first | (simp (maxDischargeDepth := 60) [*]; done) | split)
theorem execDelete_keeps (d : Fin 8) (i : Fin 262144) (s : State) (t_ : State) (H : Closed P) (HM : ClosedMem P) (h_ : Holds P s) (e_ : execDelete d i s = .next t_) : Holds P t_ := by
  simp only [execDelete, Host.Outcome.next.injEq] at e_; subst e_; repeat' (first | (simp +contextual (maxDischargeDepth := 60) [*]; done) | split | (dsimp only; split) | (simp +contextual (maxDischargeDepth := 60) [*]; split))
@[simp] theorem State.shiftCmd_keeps (s : State) (d : Fin 8) (i : Nat) (H : Closed P) (HM : ClosedMem P) (h_ : Holds P s) : Holds P (State.shiftCmd s d i) := by
  unfold State.shiftCmd; repeat' (first | (simp +contextual (maxDischargeDepth := 60) [*]; done) | split | (dsimp only; split) | (simp +contextual (maxDischargeDepth := 60) [*]; split))
theorem execShift_keeps (d : Fin 8) (i : Fin 262144) (s : State) (t_ : State) (H : Closed P) (HM : ClosedMem P) (h_ : Holds P s) (e_ : execShift d i s = .next t_) : Holds P t_ := by
  simp only [execShift, Host.Outcome.next.injEq] at e_; subst e_; repeat' (first | (simp +contextual (maxDischargeDepth := 60) [*]; done) | split | (dsimp only; split) | (simp +contextual (maxDischargeDepth := 60) [*]; split))
@[simp] theorem State.readCmd_keeps (s : State) (d : Fin 8) (i : Nat) (H : Closed P) (h_ : Holds P s) : Holds P (State.readCmd s d i) := by
  unfold State.readCmd; repeat' (first | (simp +contextual (maxDischargeDepth := 60) [*]; done) | split | (dsimp only; split) | (simp +contextual (maxDischargeDepth := 60) [*]; split))
theorem execRead_keeps (d : Fin 8) (i : Fin 262144) (s : State) (t_ : State) (H : Closed P) (h_ : Holds P s) (e_ : execRead d i s = .next t_) : Holds P t_ := by
  simp only [execRead, Host.Outcome.next.injEq] at e_; subst e_; repeat' (first | (simp +contextual (maxDischargeDepth := 60) [*]; done) | split | (dsimp only; split) | (simp +contextual (maxDischargeDepth := 60) [*]; split))
@[simp] theorem State.writeRgnCmd_keeps (s : State) (d : Fin 8) (v : Nat) (H : Closed P) (HM : ClosedMem P) (h_ : Holds P s) : Holds P (State.writeRgnCmd s d v) := by
  unfold State.writeRgnCmd; repeat' (first | (simp +contextual (maxDischargeDepth := 60) [*]; done) | split | (dsimp only; split) | (simp +contextual (maxDischargeDepth := 60) [*]; split))
@[simp] theorem State.trackRestore_keeps (s : State) (H : Closed P) (HM : ClosedMem P) (h_ : Holds P s) : Holds P s.trackRestore := by
  unfold State.trackRestore; dsimp only
  refine State.startRebuild_keeps _ H (forEach_keeps _ _ _ (forEach_keeps _ _ _ (State.recordUe_keeps _ H HM h_) fun i t ht => ?_) fun k t ht => State.showDoubt_keeps _ _ H ht)
  repeat' (first | assumption | (simp (maxDischargeDepth := 60) [*]; done) | split)
@[simp] theorem State.claimSlate_keeps (s : State) (i : Fin 8) (H : Closed P) (h_ : Holds P s) : Holds P (State.claimSlate s i) := by
  unfold State.claimSlate; repeat' (first | (simp +contextual (maxDischargeDepth := 60) [*]; done) | split | (dsimp only; split) | (simp +contextual (maxDischargeDepth := 60) [*]; split))
@[simp] theorem State.setSafety_keeps (s : State) (f : SafetyState → SafetyState) (H : Closed P) (h : Holds P s) : Holds P (s.setSafety f) := H.setSafety s f h
@[simp] theorem State.safeEngs_keeps (s : State) (was en : Bool) (H : Closed P) (HM : ClosedMem P) (h_ : Holds P s) : Holds P (State.safeEngs s was en) := by
  unfold State.safeEngs; repeat' (first | (simp +contextual (maxDischargeDepth := 60) [*]; done) | split | (dsimp only; split) | (simp +contextual (maxDischargeDepth := 60) [*]; split))
@[simp] theorem State.safetyLoad_keeps (s : State) (l : List Byte) (H : Closed P) (HM : ClosedMem P) (h_ : Holds P s) : Holds P (State.safetyLoad s l) := by
  unfold State.safetyLoad; repeat' (first | (simp +contextual (maxDischargeDepth := 60) [*]; done) | split | (dsimp only; split) | (simp +contextual (maxDischargeDepth := 60) [*]; split))
@[simp] theorem State.setChan_keeps (s : State) (f : Bool) (g : Channel → Channel) (H : Closed P) (h_ : Holds P s) : Holds P (State.setChan s f g) := by
  unfold State.setChan; repeat' (first | (simp +contextual (maxDischargeDepth := 60) [*]; done) | split | (dsimp only; split) | (simp +contextual (maxDischargeDepth := 60) [*]; split))
@[simp] theorem State.both_keeps (s : State) (g : Bool → State → State) (H : Closed P) (h_ : Holds P s) (h_g : ∀ x0 t_, Holds P t_ → Holds P (g x0 t_)) : Holds P (State.both s g) := by
  unfold State.both; repeat' (first | (simp +contextual (maxDischargeDepth := 60) [*]; done) | split | (dsimp only; split) | (simp +contextual (maxDischargeDepth := 60) [*]; split))
@[simp] theorem State.setZone_keeps (s : State) (f : Bool) (z : Fin 8) (g : ZoneCopy → ZoneCopy) (H : Closed P) (h_ : Holds P s) : Holds P (State.setZone s f z g) := by
  unfold State.setZone; repeat' (first | (simp +contextual (maxDischargeDepth := 60) [*]; done) | split | (dsimp only; split) | (simp +contextual (maxDischargeDepth := 60) [*]; split))
@[simp] theorem State.latchZone_keeps (s : State) (f : Bool) (z : Fin 8) (cause : Nat) (H : Closed P) (h_ : Holds P s) : Holds P (State.latchZone s f z cause) := by
  unfold State.latchZone; repeat' (first | (simp +contextual (maxDischargeDepth := 60) [*]; done) | split | (dsimp only; split) | (simp +contextual (maxDischargeDepth := 60) [*]; split))
@[simp] theorem State.enterSs1_keeps (s : State) (f : Bool) (z : Fin 8) (t cause : Nat) (latch : Bool) (H : Closed P) (h_ : Holds P s) : Holds P (State.enterSs1 s f z t cause latch) := by
  unfold State.enterSs1; repeat' (first | (simp +contextual (maxDischargeDepth := 60) [*]; done) | split | (dsimp only; split) | (simp +contextual (maxDischargeDepth := 60) [*]; split))
@[simp] theorem State.enterSto_keeps (s : State) (f : Bool) (z : Fin 8) (cause : Nat) (H : Closed P) (h_ : Holds P s) : Holds P (State.enterSto s f z cause) := by
  unfold State.enterSto; repeat' (first | (simp +contextual (maxDischargeDepth := 60) [*]; done) | split | (dsimp only; split) | (simp +contextual (maxDischargeDepth := 60) [*]; split))
@[simp] theorem State.setPair_keeps (s : State) (f : Bool) (n : Nat) (g : PairCopy → PairCopy) (H : Closed P) (h_ : Holds P s) : Holds P (State.setPair s f n g) := by
  unfold State.setPair; repeat' (first | (simp +contextual (maxDischargeDepth := 60) [*]; done) | split | (dsimp only; split) | (simp +contextual (maxDischargeDepth := 60) [*]; split))
@[simp] theorem State.latchPairs_keeps (s : State) (f : Bool) (H : Closed P) (h_ : Holds P s) : Holds P (State.latchPairs s f) := by
  unfold State.latchPairs; repeat' (first | (simp +contextual (maxDischargeDepth := 60) [*]; done) | split | (dsimp only; split) | (simp +contextual (maxDischargeDepth := 60) [*]; split))
@[simp] theorem State.pairFault_keeps (s : State) (f : Bool) (n : Nat) (H : Closed P) (h_ : Holds P s) : Holds P (State.pairFault s f n) := by
  unfold State.pairFault; repeat' (first | (simp +contextual (maxDischargeDepth := 60) [*]; done) | split | (dsimp only; split) | (simp +contextual (maxDischargeDepth := 60) [*]; split))
@[simp] theorem State.latchAxes_keeps (s : State) (f : Bool) (H : Closed P) (h_ : Holds P s) : Holds P (State.latchAxes s f) := by
  unfold State.latchAxes; repeat' (first | (simp +contextual (maxDischargeDepth := 60) [*]; done) | split | (dsimp only; split) | (simp +contextual (maxDischargeDepth := 60) [*]; split))
@[simp] theorem State.setFunc_keeps (s : State) (f : Bool) (k : Nat) (g : FuncCopy → FuncCopy) (H : Closed P) (h_ : Holds P s) : Holds P (State.setFunc s f k g) := by
  unfold State.setFunc; repeat' (first | (simp +contextual (maxDischargeDepth := 60) [*]; done) | split | (dsimp only; split) | (simp +contextual (maxDischargeDepth := 60) [*]; split))
@[simp] theorem State.violate_keeps (s : State) (f : Bool) (z : Fin 8) (viaSs1 : Bool) (H : Closed P) (h_ : Holds P s) : Holds P (State.violate s f z viaSs1) := by
  unfold State.violate; repeat' (first | (simp +contextual (maxDischargeDepth := 60) [*]; done) | split | (dsimp only; split) | (simp +contextual (maxDischargeDepth := 60) [*]; split))
@[simp] theorem State.monitor_keeps (s : State) (f : Bool) (r : FuncCfg) (k : Nat) (H : Closed P) (HM : ClosedMem P) (h_ : Holds P s) : Holds P (State.monitor s f r k) := by
  unfold State.monitor; repeat' (first | (simp +contextual (maxDischargeDepth := 60) [*]; done) | split | (dsimp only; split) | (simp +contextual (maxDischargeDepth := 60) [*]; split))
@[simp] theorem State.ss1Ramp_keeps (s : State) (f : Bool) (r : FuncCfg) (k : Nat) (H : Closed P) (h_ : Holds P s) : Holds P (State.ss1Ramp s f r k) := by
  unfold State.ss1Ramp; repeat' (first | (simp +contextual (maxDischargeDepth := 60) [*]; done) | split | (dsimp only; split) | (simp +contextual (maxDischargeDepth := 60) [*]; split))
@[simp] theorem State.runFuncs_keeps (s : State) (f : Bool) (ramp : Bool) (H : Closed P) (HM : ClosedMem P) (h_ : Holds P s) : Holds P (State.runFuncs s f ramp) := by
  unfold State.runFuncs; repeat' (first | (simp +contextual (maxDischargeDepth := 60) [*]; done) | split | (dsimp only; split) | (simp +contextual (maxDischargeDepth := 60) [*]; split))
@[simp] theorem State.noteReset_keeps (s : State) (f : Bool) (z : Fin 8) (H : Closed P) (h_ : Holds P s) : Holds P (State.noteReset s f z) := by
  unfold State.noteReset; repeat' (first | (simp +contextual (maxDischargeDepth := 60) [*]; done) | split | (dsimp only; split) | (simp +contextual (maxDischargeDepth := 60) [*]; split))
@[simp] theorem State.stepZone_keeps (s : State) (f : Bool) (z : Fin 8) (was : Nat) (H : Closed P) (h_ : Holds P s) : Holds P (State.stepZone s f z was) := by
  unfold State.stepZone; repeat' (first | (simp +contextual (maxDischargeDepth := 60) [*]; done) | split | (dsimp only; split) | (simp +contextual (maxDischargeDepth := 60) [*]; split))
@[simp] theorem State.noteRestarts_keeps (s : State) (f : Bool) (H : Closed P) (h_ : Holds P s) : Holds P (State.noteRestarts s f) := by
  unfold State.noteRestarts; repeat' (first | (simp +contextual (maxDischargeDepth := 60) [*]; done) | split | (dsimp only; split) | (simp +contextual (maxDischargeDepth := 60) [*]; split))
@[simp] theorem State.brakeFail_keeps (s : State) (f : Bool) (n : Nat) (H : Closed P) (h_ : Holds P s) : Holds P (State.brakeFail s f n) := by
  unfold State.brakeFail; repeat' (first | (simp +contextual (maxDischargeDepth := 60) [*]; done) | split | (dsimp only; split) | (simp +contextual (maxDischargeDepth := 60) [*]; split))
@[simp] theorem State.checkBrakes_keeps (s : State) (f : Bool) (H : Closed P) (h_ : Holds P s) : Holds P (State.checkBrakes s f) := by
  unfold State.checkBrakes; repeat' (first | (simp +contextual (maxDischargeDepth := 60) [*]; done) | split | (dsimp only; split) | (simp +contextual (maxDischargeDepth := 60) [*]; split))
@[simp] theorem State.decideBrakes_keeps (s : State) (f : Bool) (H : Closed P) (h_ : Holds P s) : Holds P (State.decideBrakes s f) := by
  unfold State.decideBrakes; repeat' (first | (simp +contextual (maxDischargeDepth := 60) [*]; done) | split | (dsimp only; split) | (simp +contextual (maxDischargeDepth := 60) [*]; split))
@[simp] theorem State.clearEn_keeps (s : State) (a : Fin 64) (H : Closed P) (h_ : Holds P s) : Holds P (State.clearEn s a) := by
  unfold State.clearEn; repeat' (first | (simp +contextual (maxDischargeDepth := 60) [*]; done) | split | (dsimp only; split) | (simp +contextual (maxDischargeDepth := 60) [*]; split))
@[simp] theorem State.driveA_keeps (s : State) (i : Fin 8) (H : Closed P) (h_ : Holds P s) : Holds P (State.driveA s i) := by
  unfold State.driveA; repeat' (first | (simp +contextual (maxDischargeDepth := 60) [*]; done) | split | (dsimp only; split) | (simp +contextual (maxDischargeDepth := 60) [*]; split))
@[simp] theorem State.commandOut_keeps (s : State) (o : OutCfg) (H : Closed P) (h_ : Holds P s) : Holds P (State.commandOut s o) := by
  unfold State.commandOut; repeat' (first | (simp +contextual (maxDischargeDepth := 60) [*]; done) | split | (dsimp only; split) | (simp +contextual (maxDischargeDepth := 60) [*]; split))
@[simp] theorem State.commandOuts_keeps (s : State) (H : Closed P) (h_ : Holds P s) : Holds P (State.commandOuts s) := by
  unfold State.commandOuts; repeat' (first | (simp +contextual (maxDischargeDepth := 60) [*]; done) | split | (dsimp only; split) | (simp +contextual (maxDischargeDepth := 60) [*]; split))
@[simp] theorem State.driveB_keeps (s : State) (i : Fin 8) (H : Closed P) (h_ : Holds P s) : Holds P (State.driveB s i) := by
  unfold State.driveB; repeat' (first | (simp +contextual (maxDischargeDepth := 60) [*]; done) | split | (dsimp only; split) | (simp +contextual (maxDischargeDepth := 60) [*]; split))
@[simp] theorem State.showSafe_keeps (s : State) (H : Closed P) (h_ : Holds P s) : Holds P (State.showSafe s) := by
  unfold State.showSafe; repeat' (first | (simp +contextual (maxDischargeDepth := 60) [*]; done) | split | (dsimp only; split) | (simp +contextual (maxDischargeDepth := 60) [*]; split))
@[simp] theorem State.driveFree_keeps (s : State) (H : Closed P) (h_ : Holds P s) : Holds P (State.driveFree s) := by
  unfold State.driveFree; repeat' (first | (simp +contextual (maxDischargeDepth := 60) [*]; done) | split | (dsimp only; split) | (simp +contextual (maxDischargeDepth := 60) [*]; split))
@[simp] theorem State.safeAct_keeps (s : State) (H : Closed P) (h_ : Holds P s) : Holds P (State.safeAct s) := by
  unfold State.safeAct; repeat' (first | (simp +contextual (maxDischargeDepth := 60) [*]; done) | split | (dsimp only; split) | (simp +contextual (maxDischargeDepth := 60) [*]; split))
@[simp] theorem State.faultChanA_keeps (s : State) (H : Closed P) (h_ : Holds P s) : Holds P (State.faultChanA s) := by
  unfold State.faultChanA; repeat' (first | (simp +contextual (maxDischargeDepth := 60) [*]; done) | split | (dsimp only; split) | (simp +contextual (maxDischargeDepth := 60) [*]; split))
@[simp] theorem State.faultFlint_keeps (s : State) (H : Closed P) (h_ : Holds P s) : Holds P (State.faultFlint s) := by
  unfold State.faultFlint; repeat' (first | (simp +contextual (maxDischargeDepth := 60) [*]; done) | split | (dsimp only; split) | (simp +contextual (maxDischargeDepth := 60) [*]; split))
@[simp] theorem State.faultClock_keeps (s : State) (H : Closed P) (h_ : Holds P s) : Holds P (State.faultClock s) := by
  unfold State.faultClock; repeat' (first | (simp +contextual (maxDischargeDepth := 60) [*]; done) | split | (dsimp only; split) | (simp +contextual (maxDischargeDepth := 60) [*]; split))
theorem execLockstepMismatch_keeps (s : State) (t_ : State) (H : Closed P) (h_ : Holds P s) (e_ : execLockstepMismatch s = .next t_) : Holds P t_ := by
  simp only [execLockstepMismatch, Host.Outcome.next.injEq] at e_; subst e_; repeat' (first | (simp +contextual (maxDischargeDepth := 60) [*]; done) | split | (dsimp only; split) | (simp +contextual (maxDischargeDepth := 60) [*]; split))
theorem execFlintSelfTestFail_keeps (s : State) (t_ : State) (H : Closed P) (h_ : Holds P s) (e_ : execFlintSelfTestFail s = .next t_) : Holds P t_ := by
  simp only [execFlintSelfTestFail, Host.Outcome.next.injEq] at e_; subst e_; repeat' (first | (simp +contextual (maxDischargeDepth := 60) [*]; done) | split | (dsimp only; split) | (simp +contextual (maxDischargeDepth := 60) [*]; split))
theorem execMarkMissing_keeps (s : State) (t_ : State) (H : Closed P) (h_ : Holds P s) (e_ : execMarkMissing s = .next t_) : Holds P t_ := by
  simp only [execMarkMissing, Host.Outcome.next.injEq] at e_; subst e_; repeat' (first | (simp +contextual (maxDischargeDepth := 60) [*]; done) | split | (dsimp only; split) | (simp +contextual (maxDischargeDepth := 60) [*]; split))
@[simp] theorem State.openTest_keeps (s : State) (p : PairCfg) (second : Bool) (H : Closed P) (h_ : Holds P s) : Holds P (State.openTest s p second) := by
  unfold State.openTest; repeat' (first | (simp +contextual (maxDischargeDepth := 60) [*]; done) | split | (dsimp only; split) | (simp +contextual (maxDischargeDepth := 60) [*]; split))
@[simp] theorem State.openTests_keeps (s : State) (H : Closed P) (h_ : Holds P s) : Holds P (State.openTests s) := by
  unfold State.openTests; repeat' (first | (simp +contextual (maxDischargeDepth := 60) [*]; done) | split | (dsimp only; split) | (simp +contextual (maxDischargeDepth := 60) [*]; split))
@[simp] theorem State.seeTests_keeps (s : State) (i : Fin 8) (H : Closed P) (h_ : Holds P s) : Holds P (State.seeTests s i) := by
  unfold State.seeTests; repeat' (first | (simp +contextual (maxDischargeDepth := 60) [*]; done) | split | (dsimp only; split) | (simp +contextual (maxDischargeDepth := 60) [*]; split))
@[simp] theorem State.flintFilter_keeps (s : State) (i : Fin 8) (H : Closed P) (h_ : Holds P s) : Holds P (State.flintFilter s i) := by
  unfold State.flintFilter; repeat' (first | (simp +contextual (maxDischargeDepth := 60) [*]; done) | split | (dsimp only; split) | (simp +contextual (maxDischargeDepth := 60) [*]; split))
theorem execSidebandFrameAtFlint_keeps (s : Fin 8) (rx : SbRx) (st : State) (t_ : State) (H : Closed P) (h_ : Holds P st) (e_ : execSidebandFrameAtFlint s rx st = .next t_) : Holds P t_ := by
  simp only [execSidebandFrameAtFlint, Host.Outcome.next.injEq] at e_; subst e_; repeat' (first | (simp +contextual (maxDischargeDepth := 60) [*]; done) | split | (dsimp only; split) | (simp +contextual (maxDischargeDepth := 60) [*]; split))
@[simp] theorem State.reactDsc_keeps (s : State) (c : ConnCfg) (H : Closed P) (h_ : Holds P s) : Holds P (State.reactDsc s c) := by
  unfold State.reactDsc; repeat' (first | (simp +contextual (maxDischargeDepth := 60) [*]; done) | split | (dsimp only; split) | (simp +contextual (maxDischargeDepth := 60) [*]; split))
@[simp] theorem State.setDsc_keeps (s : State) (c : Fin 32) (g : DscConn → DscConn) (H : Closed P) (h_ : Holds P s) : Holds P (State.setDsc s c g) := by
  unfold State.setDsc; repeat' (first | (simp +contextual (maxDischargeDepth := 60) [*]; done) | split | (dsimp only; split) | (simp +contextual (maxDischargeDepth := 60) [*]; split))
@[simp] theorem State.showDsc_keeps (s : State) (c : Fin 32) (H : Closed P) (h_ : Holds P s) : Holds P (State.showDsc s c) := by
  unfold State.showDsc; repeat' (first | (simp +contextual (maxDischargeDepth := 60) [*]; done) | split | (dsimp only; split) | (simp +contextual (maxDischargeDepth := 60) [*]; split))
@[simp] theorem State.latchDsc_keeps (s : State) (H : Closed P) (h_ : Holds P s) : Holds P (State.latchDsc s) := by
  unfold State.latchDsc; repeat' (first | (simp +contextual (maxDischargeDepth := 60) [*]; done) | split | (dsimp only; split) | (simp +contextual (maxDischargeDepth := 60) [*]; split))
@[simp] theorem State.channelCycle_keeps (s : State) (f : Bool) (H : Closed P) (HM : ClosedMem P) (h_ : Holds P s) : Holds P (State.channelCycle s f) := by
  unfold State.channelCycle; repeat' (first | (simp +contextual (maxDischargeDepth := 60) [*]; done) | split | (dsimp only; split) | (simp +contextual (maxDischargeDepth := 60) [*]; split))
theorem execCycleMark_keeps (count : BitVec 16) (s : State) (t_ : State) (H : Closed P) (HM : ClosedMem P) (h_ : Holds P s) (e_ : execCycleMark count s = .next t_) : Holds P t_ := by
  simp only [execCycleMark, Host.Outcome.next.injEq] at e_; subst e_; repeat' (first | (simp +contextual (maxDischargeDepth := 60) [*]; done) | split | (dsimp only; split) | (simp +contextual (maxDischargeDepth := 60) [*]; split))
@[simp] theorem State.disagree_keeps (s : State) (kind : Nat) (zones : Option (List (Fin 8))) (H : Closed P) (h_ : Holds P s) : Holds P (State.disagree s kind zones) := by
  unfold State.disagree; repeat' (first | (simp +contextual (maxDischargeDepth := 60) [*]; done) | split | (dsimp only; split) | (simp +contextual (maxDischargeDepth := 60) [*]; split))
@[simp] theorem State.compareBy_keeps (s : State) (f : Bool) (H : Closed P) (h_ : Holds P s) : Holds P (State.compareBy s f) := by
  unfold State.compareBy; repeat' (first | (simp +contextual (maxDischargeDepth := 60) [*]; done) | split | (dsimp only; split) | (simp +contextual (maxDischargeDepth := 60) [*]; split))
theorem execRecordA_keeps (s : State) (t_ : State) (H : Closed P) (h_ : Holds P s) (e_ : execRecordA s = .next t_) : Holds P t_ := by
  simp only [execRecordA, Host.Outcome.next.injEq] at e_; subst e_; repeat' (first | (simp +contextual (maxDischargeDepth := 60) [*]; done) | split | (dsimp only; split) | (simp +contextual (maxDischargeDepth := 60) [*]; split))
theorem execRecordB_keeps (s : State) (t_ : State) (H : Closed P) (h_ : Holds P s) (e_ : execRecordB s = .next t_) : Holds P t_ := by
  simp only [execRecordB, Host.Outcome.next.injEq] at e_; subst e_; repeat' (first | (simp +contextual (maxDischargeDepth := 60) [*]; done) | split | (dsimp only; split) | (simp +contextual (maxDischargeDepth := 60) [*]; split))
theorem execRecordDeadline_keeps (atFlint : Bool) (s : State) (t_ : State) (H : Closed P) (h_ : Holds P s) (e_ : execRecordDeadline atFlint s = .next t_) : Holds P t_ := by
  simp only [execRecordDeadline, Host.Outcome.next.injEq] at e_; subst e_; repeat' (first | (simp +contextual (maxDischargeDepth := 60) [*]; done) | split | (dsimp only; split) | (simp +contextual (maxDischargeDepth := 60) [*]; split))
theorem execPairDiscrepancy_keeps (flint : Bool) (pair : Fin 64) (s : State) (t_ : State) (H : Closed P) (h_ : Holds P s) (e_ : execPairDiscrepancy flint pair s = .next t_) : Holds P t_ := by
  simp only [execPairDiscrepancy, Host.Outcome.next.injEq] at e_; subst e_; repeat' (first | (simp +contextual (maxDischargeDepth := 60) [*]; done) | split | (dsimp only; split) | (simp +contextual (maxDischargeDepth := 60) [*]; split))
theorem execSs1TExpiry_keeps (z : Fin 8) (s : State) (t_ : State) (H : Closed P) (h_ : Holds P s) (e_ : execSs1TExpiry z s = .next t_) : Holds P t_ := by
  simp only [execSs1TExpiry, Host.Outcome.next.injEq] at e_; subst e_; repeat' (first | (simp +contextual (maxDischargeDepth := 60) [*]; done) | split | (dsimp only; split) | (simp +contextual (maxDischargeDepth := 60) [*]; split))
theorem execSbcDlyExpiry_keeps (f : Fin 128) (s : State) (t_ : State) (H : Closed P) (h_ : Holds P s) (e_ : execSbcDlyExpiry f s = .next t_) : Holds P t_ := by
  simp only [execSbcDlyExpiry, Host.Outcome.next.injEq] at e_; subst e_; repeat' (first | (simp +contextual (maxDischargeDepth := 60) [*]; done) | split | (dsimp only; split) | (simp +contextual (maxDischargeDepth := 60) [*]; split))
theorem execSafeReqWrite_keeps (v : BitVec 16) (s : State) (t_ : State) (H : Closed P) (h_ : Holds P s) (e_ : execSafeReqWrite v s = .next t_) : Holds P t_ := by
  simp only [execSafeReqWrite, Host.Outcome.next.injEq] at e_; subst e_; repeat' (first | (simp +contextual (maxDischargeDepth := 60) [*]; done) | split | (dsimp only; split) | (simp +contextual (maxDischargeDepth := 60) [*]; split))
@[simp] theorem State.writeBrkReq_keeps (s : State) (q hi v : Nat) (H : Closed P) (h_ : Holds P s) : Holds P (State.writeBrkReq s q hi v) := by
  unfold State.writeBrkReq; repeat' (first | (simp +contextual (maxDischargeDepth := 60) [*]; done) | split | (dsimp only; split) | (simp +contextual (maxDischargeDepth := 60) [*]; split))
theorem execSafeBrkReqWrite_keeps (q : Fin 514) (hi : Bool) (v : Word) (s : State) (t_ : State) (H : Closed P) (h_ : Holds P s) (e_ : execSafeBrkReqWrite q hi v s = .next t_) : Holds P t_ := by
  simp only [execSafeBrkReqWrite, Host.Outcome.next.injEq] at e_; subst e_; repeat' (first | (simp +contextual (maxDischargeDepth := 60) [*]; done) | split | (dsimp only; split) | (simp +contextual (maxDischargeDepth := 60) [*]; split))
@[simp] theorem State.dscSend_keeps (s : State) (c : Fin 32) (k : ConnCfg) (type : Nat) (data : List Byte) (H : Closed P) (h_ : Holds P s) : Holds P (State.dscSend s c k type data) := by
  unfold State.dscSend; repeat' (first | (simp +contextual (maxDischargeDepth := 60) [*]; done) | split | (dsimp only; split) | (simp +contextual (maxDischargeDepth := 60) [*]; split))
theorem execDscDataSend_keeps (c : Fin 32) (s : State) (t_ : State) (H : Closed P) (h_ : Holds P s) (e_ : execDscDataSend c s = .next t_) : Holds P t_ := by
  simp only [execDscDataSend, Host.Outcome.next.injEq] at e_; subst e_; repeat' (first | (simp +contextual (maxDischargeDepth := 60) [*]; done) | split | (dsimp only; split) | (simp +contextual (maxDischargeDepth := 60) [*]; split))
theorem execDscConnectSend_keeps (c : Fin 32) (s : State) (t_ : State) (H : Closed P) (h_ : Holds P s) (e_ : execDscConnectSend c s = .next t_) : Holds P t_ := by
  simp only [execDscConnectSend, Host.Outcome.next.injEq] at e_; subst e_; repeat' (first | (simp +contextual (maxDischargeDepth := 60) [*]; done) | split | (dsimp only; split) | (simp +contextual (maxDischargeDepth := 60) [*]; split))
@[simp] theorem State.dscReject_keeps (s : State) (c : Option (Fin 32)) (f : Nat → Fld) (H : Closed P) (h_ : Holds P s) : Holds P (State.dscReject s c f) := by
  unfold State.dscReject; repeat' (first | (simp +contextual (maxDischargeDepth := 60) [*]; done) | split | (dsimp only; split) | (simp +contextual (maxDischargeDepth := 60) [*]; split))
@[simp] theorem State.dscAccept_keeps (s : State) (c : Fin 32) (k : ConnCfg) (l : List Byte) (H : Closed P) (h_ : Holds P s) : Holds P (State.dscAccept s c k l) := by
  unfold State.dscAccept; repeat' (first | (simp +contextual (maxDischargeDepth := 60) [*]; done) | split | (dsimp only; split) | (simp +contextual (maxDischargeDepth := 60) [*]; split))
@[simp] theorem State.dscSeq_keeps (s : State) (c : Fin 32) (k : ConnCfg) (l : List Byte) (H : Closed P) (h_ : Holds P s) : Holds P (State.dscSeq s c k l) := by
  unfold State.dscSeq; repeat' (first | (simp +contextual (maxDischargeDepth := 60) [*]; done) | split | (dsimp only; split) | (simp +contextual (maxDischargeDepth := 60) [*]; split))
@[simp] theorem State.dscTpc_keeps (s : State) (c : Fin 32) (k : ConnCfg) (ring : Nat) (l : List Byte) (H : Closed P) (h_ : Holds P s) : Holds P (State.dscTpc s c k ring l) := by
  unfold State.dscTpc; repeat' (first | (simp +contextual (maxDischargeDepth := 60) [*]; done) | split | (dsimp only; split) | (simp +contextual (maxDischargeDepth := 60) [*]; split))
@[simp] theorem State.dscReceive_keeps (s : State) (p : Fin 4) (body : List Byte) (H : Closed P) (h_ : Holds P s) : Holds P (State.dscReceive s p body) := by
  unfold State.dscReceive; repeat' (first | (simp +contextual (maxDischargeDepth := 60) [*]; done) | split | (dsimp only; split) | (simp +contextual (maxDischargeDepth := 60) [*]; split))
theorem execDscReceive_keeps (p : Fin 4) (body : List Byte) (s : State) (t_ : State) (H : Closed P) (h_ : Holds P s) (e_ : execDscReceive p body s = .next t_) : Holds P t_ := by
  simp only [execDscReceive, Host.Outcome.next.injEq] at e_; subst e_; repeat' (first | (simp +contextual (maxDischargeDepth := 60) [*]; done) | split | (dsimp only; split) | (simp +contextual (maxDischargeDepth := 60) [*]; split))
theorem execDscExpiry_keeps (c : Fin 32) (s : State) (t_ : State) (H : Closed P) (h_ : Holds P s) (e_ : execDscExpiry c s = .next t_) : Holds P t_ := by
  simp only [execDscExpiry, Host.Outcome.next.injEq] at e_; subst e_; repeat' (first | (simp +contextual (maxDischargeDepth := 60) [*]; done) | split | (dsimp only; split) | (simp +contextual (maxDischargeDepth := 60) [*]; split))
theorem execTpcWindowExpiry_keeps (c : Fin 32) (s : State) (t_ : State) (H : Closed P) (h_ : Holds P s) (e_ : execTpcWindowExpiry c s = .next t_) : Holds P t_ := by
  simp only [execTpcWindowExpiry, Host.Outcome.next.injEq] at e_; subst e_; repeat' (first | (simp +contextual (maxDischargeDepth := 60) [*]; done) | split | (dsimp only; split) | (simp +contextual (maxDischargeDepth := 60) [*]; split))
@[simp] theorem State.srcValue_keeps (s : State) (d w n : Nat) (H : Closed P) (h_ : Holds P s) : Holds P (s.srcValue d w n).2 := by
  unfold State.srcValue; dsimp only
  repeat' split
  all_goals first | exact h_ | (simp [*]; done) | (rename_i k; cases hk : axis? (srcIdx w) <;> exact h_) | (cases hk : axis? (srcIdx w) <;> exact h_) | (cases hk : slate? (srcIdx w) <;> exact h_) | (cases hk : fin? 8 (srcIdx w) <;> exact h_)
@[simp] theorem State.dataEntry_keeps (s : State) (r : Fin 8) (tick src tag value : Nat) (H : Closed P) (HM : ClosedMem P) (h_ : Holds P s) : Holds P (State.dataEntry s r tick src tag value) := by
  unfold State.dataEntry; repeat' (first | (simp +contextual (maxDischargeDepth := 60) [*]; done) | split | (dsimp only; split) | (simp +contextual (maxDischargeDepth := 60) [*]; split))
@[simp] theorem State.traceEntry_keeps (s : State) (r : Fin 8) (j : Fin 16) (n : Nat) (H : Closed P) (HM : ClosedMem P) (h_ : Holds P s) : Holds P (State.traceEntry s r j n) := by
  unfold State.traceEntry; repeat' (first | (simp +contextual (maxDischargeDepth := 60) [*]; done) | split | (dsimp only; split) | (simp +contextual (maxDischargeDepth := 60) [*]; split))
theorem execTraceEntry_keeps (r : Fin 8) (j : Fin 16) (n : Fin 64) (s : State) (t_ : State) (H : Closed P) (HM : ClosedMem P) (h_ : Holds P s) (e_ : execTraceEntry r j n s = .next t_) : Holds P t_ := by
  simp only [execTraceEntry, Host.Outcome.next.injEq] at e_; subst e_; repeat' (first | (simp +contextual (maxDischargeDepth := 60) [*]; done) | split | (dsimp only; split) | (simp +contextual (maxDischargeDepth := 60) [*]; split))
@[simp] theorem State.trcArm_keeps (s : State) (r : Fin 8) (H : Closed P) (HM : ClosedMem P) (h_ : Holds P s) : Holds P (State.trcArm s r) := by
  unfold State.trcArm; repeat' (first | (simp +contextual (maxDischargeDepth := 60) [*]; done) | split | (dsimp only; split) | (simp +contextual (maxDischargeDepth := 60) [*]; split))
theorem execTrcArm_keeps (r : Fin 8) (s : State) (t_ : State) (H : Closed P) (HM : ClosedMem P) (h_ : Holds P s) (e_ : execTrcArm r s = .next t_) : Holds P t_ := by
  simp only [execTrcArm, Host.Outcome.next.injEq] at e_; subst e_; repeat' (first | (simp +contextual (maxDischargeDepth := 60) [*]; done) | split | (dsimp only; split) | (simp +contextual (maxDischargeDepth := 60) [*]; split))
@[simp] theorem State.trcStop_keeps (s : State) (r : Fin 8) (H : Closed P) (h_ : Holds P s) : Holds P (State.trcStop s r) := by
  unfold State.trcStop; repeat' (first | (simp +contextual (maxDischargeDepth := 60) [*]; done) | split | (dsimp only; split) | (simp +contextual (maxDischargeDepth := 60) [*]; split))
theorem execTrcStop_keeps (r : Fin 8) (s : State) (t_ : State) (H : Closed P) (h_ : Holds P s) (e_ : execTrcStop r s = .next t_) : Holds P t_ := by
  simp only [execTrcStop, Host.Outcome.next.injEq] at e_; subst e_; repeat' (first | (simp +contextual (maxDischargeDepth := 60) [*]; done) | split | (dsimp only; split) | (simp +contextual (maxDischargeDepth := 60) [*]; split))
theorem execTrcForce_keeps (r : Fin 8) (s : State) (t_ : State) (H : Closed P) (h_ : Holds P s) (e_ : execTrcForce r s = .next t_) : Holds P t_ := by
  simp only [execTrcForce, Host.Outcome.next.injEq] at e_; subst e_; repeat' (first | (simp +contextual (maxDischargeDepth := 60) [*]; done) | split | (dsimp only; split) | (simp +contextual (maxDischargeDepth := 60) [*]; split))
theorem execTraceTrigger_keeps (r : Fin 8) (s : State) (t_ : State) (H : Closed P) (h_ : Holds P s) (e_ : execTraceTrigger r s = .next t_) : Holds P t_ := by
  simp only [execTraceTrigger, Host.Outcome.next.injEq] at e_; subst e_; repeat' (first | (simp +contextual (maxDischargeDepth := 60) [*]; done) | split | (dsimp only; split) | (simp +contextual (maxDischargeDepth := 60) [*]; split))
@[simp] theorem State.timeTrigger_keeps (s : State) (r : Fin 8) (H : Closed P) (h_ : Holds P s) : Holds P (State.timeTrigger s r) := by
  unfold State.timeTrigger; repeat' (first | (simp +contextual (maxDischargeDepth := 60) [*]; done) | split | (dsimp only; split) | (simp +contextual (maxDischargeDepth := 60) [*]; split))
theorem execTraceTimeTrigger_keeps (r : Fin 8) (s : State) (t_ : State) (H : Closed P) (h_ : Holds P s) (e_ : execTraceTimeTrigger r s = .next t_) : Holds P t_ := by
  simp only [execTraceTimeTrigger, Host.Outcome.next.injEq] at e_; subst e_; repeat' (first | (simp +contextual (maxDischargeDepth := 60) [*]; done) | split | (dsimp only; split) | (simp +contextual (maxDischargeDepth := 60) [*]; split))
@[simp] theorem State.writeTat_keeps (s : State) (r : Fin 8) (v : Nat) (H : Closed P) (h_ : Holds P s) : Holds P (State.writeTat s r v) := by
  unfold State.writeTat; repeat' (first | (simp +contextual (maxDischargeDepth := 60) [*]; done) | split | (dsimp only; split) | (simp +contextual (maxDischargeDepth := 60) [*]; split))
@[simp] theorem State.stopRecorders_keeps (s : State) (d : Nat) (H : Closed P) (h_ : Holds P s) : Holds P (State.stopRecorders s d) := by
  unfold State.stopRecorders; repeat' (first | (simp +contextual (maxDischargeDepth := 60) [*]; done) | split | (dsimp only; split) | (simp +contextual (maxDischargeDepth := 60) [*]; split))
@[simp] theorem State.clean_keeps (s : State) (r : Res) (H : Closed P) (h_ : Holds P s) : Holds P (State.clean s r) := by
  unfold State.clean; repeat' (first | (simp +contextual (maxDischargeDepth := 60) [*]; done) | split | (dsimp only; split) | (simp +contextual (maxDischargeDepth := 60) [*]; split))
@[simp] theorem State.writeTrcRgn_keeps (s : State) (d : Fin 8) (v : Nat) (H : Closed P) (HM : ClosedMem P) (h_ : Holds P s) : Holds P (State.writeTrcRgn s d v) := by
  unfold State.writeTrcRgn; repeat' (first | (simp +contextual (maxDischargeDepth := 60) [*]; done) | split | (dsimp only; split) | (simp +contextual (maxDischargeDepth := 60) [*]; split))
theorem execTrcRgnWrite_keeps (d : Fin 8) (v : Word) (s : State) (t_ : State) (H : Closed P) (HM : ClosedMem P) (h_ : Holds P s) (e_ : execTrcRgnWrite d v s = .next t_) : Holds P t_ := by
  simp only [execTrcRgnWrite, Host.Outcome.next.injEq] at e_; subst e_; repeat' (first | (simp +contextual (maxDischargeDepth := 60) [*]; done) | split | (dsimp only; split) | (simp +contextual (maxDischargeDepth := 60) [*]; split))
@[simp] theorem State.setBus_keeps (s : State) (n : Fin 4) (f : BusLine → BusLine) (H : Closed P) (h_ : Holds P s) : Holds P (State.setBus s n f) := by
  unfold State.setBus; repeat' (first | (simp +contextual (maxDischargeDepth := 60) [*]; done) | split | (dsimp only; split) | (simp +contextual (maxDischargeDepth := 60) [*]; split))
@[simp] theorem State.busPulse_keeps (s : State) (n : Fin 4) (src t : Nat) (H : Closed P) (h_ : Holds P s) : Holds P (State.busPulse s n src t) := by
  unfold State.busPulse; repeat' (first | (simp +contextual (maxDischargeDepth := 60) [*]; done) | split | (dsimp only; split) | (simp +contextual (maxDischargeDepth := 60) [*]; split))
@[simp] theorem State.busAll_keeps (s : State) (src t : Nat) (H : Closed P) (h_ : Holds P s) : Holds P (State.busAll s src t) := by
  unfold State.busAll; repeat' (first | (simp +contextual (maxDischargeDepth := 60) [*]; done) | split | (dsimp only; split) | (simp +contextual (maxDischargeDepth := 60) [*]; split))
@[simp] theorem State.snapSlate_keeps (s : State) (i : Fin 8) (H : Closed P) (h_ : Holds P s) : Holds P (State.snapSlate s i) := by
  unfold State.snapSlate; repeat' (first | (simp +contextual (maxDischargeDepth := 60) [*]; done) | split | (dsimp only; split) | (simp +contextual (maxDischargeDepth := 60) [*]; split))
@[simp] theorem State.snapshot_keeps (s : State) (cause : Nat) (H : Closed P) (h_ : Holds P s) : Holds P (State.snapshot s cause) := by
  unfold State.snapshot; repeat' (first | (simp +contextual (maxDischargeDepth := 60) [*]; done) | split | (dsimp only; split) | (simp +contextual (maxDischargeDepth := 60) [*]; split))
theorem execSnapGo_keeps (s : State) (t_ : State) (H : Closed P) (h_ : Holds P s) (e_ : execSnapGo s = .next t_) : Holds P t_ := by
  simp only [execSnapGo, Host.Outcome.next.injEq] at e_; subst e_; repeat' (first | (simp +contextual (maxDischargeDepth := 60) [*]; done) | split | (dsimp only; split) | (simp +contextual (maxDischargeDepth := 60) [*]; split))
@[simp] theorem State.snapAt_keeps (s : State) (H : Closed P) (h_ : Holds P s) : Holds P (State.snapAt s) := by
  unfold State.snapAt; repeat' (first | (simp +contextual (maxDischargeDepth := 60) [*]; done) | split | (dsimp only; split) | (simp +contextual (maxDischargeDepth := 60) [*]; split))
theorem execSnapAt_keeps (s : State) (t_ : State) (H : Closed P) (h_ : Holds P s) (e_ : execSnapAt s = .next t_) : Holds P t_ := by
  simp only [execSnapAt, Host.Outcome.next.injEq] at e_; subst e_; repeat' (first | (simp +contextual (maxDischargeDepth := 60) [*]; done) | split | (dsimp only; split) | (simp +contextual (maxDischargeDepth := 60) [*]; split))
@[simp] theorem State.snapAnswer_keeps (s : State) (i : Fin 8) (H : Closed P) (h_ : Holds P s) : Holds P (State.snapAnswer s i) := by
  unfold State.snapAnswer; repeat' (first | (simp +contextual (maxDischargeDepth := 60) [*]; done) | split | (dsimp only; split) | (simp +contextual (maxDischargeDepth := 60) [*]; split))
theorem execSlateSnapshotAnswer_keeps (s : Fin 8) (st : State) (t_ : State) (H : Closed P) (h_ : Holds P st) (e_ : execSlateSnapshotAnswer s st = .next t_) : Holds P t_ := by
  simp only [execSlateSnapshotAnswer, Host.Outcome.next.injEq] at e_; subst e_; repeat' (first | (simp +contextual (maxDischargeDepth := 60) [*]; done) | split | (dsimp only; split) | (simp +contextual (maxDischargeDepth := 60) [*]; split))
@[simp] theorem State.snapEnd_keeps (s : State) (H : Closed P) (h_ : Holds P s) : Holds P (State.snapEnd s) := by
  unfold State.snapEnd; repeat' (first | (simp +contextual (maxDischargeDepth := 60) [*]; done) | split | (dsimp only; split) | (simp +contextual (maxDischargeDepth := 60) [*]; split))
theorem execSnapBusyEnd_keeps (s : State) (t_ : State) (H : Closed P) (h_ : Holds P s) (e_ : execSnapBusyEnd s = .next t_) : Holds P t_ := by
  simp only [execSnapBusyEnd, Host.Outcome.next.injEq] at e_; subst e_; repeat' (first | (simp +contextual (maxDischargeDepth := 60) [*]; done) | split | (dsimp only; split) | (simp +contextual (maxDischargeDepth := 60) [*]; split))
@[simp] theorem State.trigEdge_keeps (s : State) (n : Fin 4) (level : Bool) (tap : Nat) (H : Closed P) (h_ : Holds P s) : Holds P (State.trigEdge s n level tap) := by
  unfold State.trigEdge; repeat' (first | (simp +contextual (maxDischargeDepth := 60) [*]; done) | split | (dsimp only; split) | (simp +contextual (maxDischargeDepth := 60) [*]; split))
theorem execTrigInEdge_keeps (n : Fin 4) (level : Bool) (tap : Fin 64) (s : State) (t_ : State) (H : Closed P) (h_ : Holds P s) (e_ : execTrigInEdge n level tap s = .next t_) : Holds P t_ := by
  simp only [execTrigInEdge, Host.Outcome.next.injEq] at e_; subst e_; repeat' (first | (simp +contextual (maxDischargeDepth := 60) [*]; done) | split | (dsimp only; split) | (simp +contextual (maxDischargeDepth := 60) [*]; split))
@[simp] theorem State.trigPop_keeps (s : State) (mask : Nat) (H : Closed P) (h_ : Holds P s) : Holds P (State.trigPop s mask) := by
  unfold State.trigPop; repeat' (first | (simp +contextual (maxDischargeDepth := 60) [*]; done) | split | (dsimp only; split) | (simp +contextual (maxDischargeDepth := 60) [*]; split))
theorem execTrigInPop_keeps (mask : BitVec 4) (s : State) (t_ : State) (H : Closed P) (h_ : Holds P s) (e_ : execTrigInPop mask s = .next t_) : Holds P t_ := by
  simp only [execTrigInPop, Host.Outcome.next.injEq] at e_; subst e_; repeat' (first | (simp +contextual (maxDischargeDepth := 60) [*]; done) | split | (dsimp only; split) | (simp +contextual (maxDischargeDepth := 60) [*]; split))
@[simp] theorem State.tbusPulse_keeps (s : State) (mask : Nat) (H : Closed P) (h_ : Holds P s) : Holds P (State.tbusPulse s mask) := by
  unfold State.tbusPulse; repeat' (first | (simp +contextual (maxDischargeDepth := 60) [*]; done) | split | (dsimp only; split) | (simp +contextual (maxDischargeDepth := 60) [*]; split))
theorem execTbusPulse_keeps (mask : BitVec 4) (s : State) (t_ : State) (H : Closed P) (h_ : Holds P s) (e_ : execTbusPulse mask s = .next t_) : Holds P t_ := by
  simp only [execTbusPulse, Host.Outcome.next.injEq] at e_; subst e_; repeat' (first | (simp +contextual (maxDischargeDepth := 60) [*]; done) | split | (dsimp only; split) | (simp +contextual (maxDischargeDepth := 60) [*]; split))
@[simp] theorem State.tbusAt_keeps (s : State) (n : Fin 4) (H : Closed P) (h_ : Holds P s) : Holds P (State.tbusAt s n) := by
  unfold State.tbusAt; repeat' (first | (simp +contextual (maxDischargeDepth := 60) [*]; done) | split | (dsimp only; split) | (simp +contextual (maxDischargeDepth := 60) [*]; split))
theorem execTbusAt_keeps (n : Fin 4) (s : State) (t_ : State) (H : Closed P) (h_ : Holds P s) (e_ : execTbusAt n s = .next t_) : Holds P t_ := by
  simp only [execTbusAt, Host.Outcome.next.injEq] at e_; subst e_; repeat' (first | (simp +contextual (maxDischargeDepth := 60) [*]; done) | split | (dsimp only; split) | (simp +contextual (maxDischargeDepth := 60) [*]; split))
@[simp] theorem State.tbusEdge_keeps (s : State) (n : Fin 4) (own : Bool) (tap : Nat) (H : Closed P) (h_ : Holds P s) : Holds P (State.tbusEdge s n own tap) := by
  unfold State.tbusEdge; repeat' (first | (simp +contextual (maxDischargeDepth := 60) [*]; done) | split | (dsimp only; split) | (simp +contextual (maxDischargeDepth := 60) [*]; split))
theorem execTbusEdge_keeps (n : Fin 4) (own : Bool) (tap : Fin 64) (s : State) (t_ : State) (H : Closed P) (h_ : Holds P s) (e_ : execTbusEdge n own tap s = .next t_) : Holds P t_ := by
  simp only [execTbusEdge, Host.Outcome.next.injEq] at e_; subst e_; repeat' (first | (simp +contextual (maxDischargeDepth := 60) [*]; done) | split | (dsimp only; split) | (simp +contextual (maxDischargeDepth := 60) [*]; split))
@[simp] theorem State.tbusPop_keeps (s : State) (mask : Nat) (H : Closed P) (h_ : Holds P s) : Holds P (State.tbusPop s mask) := by
  unfold State.tbusPop; repeat' (first | (simp +contextual (maxDischargeDepth := 60) [*]; done) | split | (dsimp only; split) | (simp +contextual (maxDischargeDepth := 60) [*]; split))
theorem execTbusPop_keeps (mask : BitVec 4) (s : State) (t_ : State) (H : Closed P) (h_ : Holds P s) (e_ : execTbusPop mask s = .next t_) : Holds P t_ := by
  simp only [execTbusPop, Host.Outcome.next.injEq] at e_; subst e_; repeat' (first | (simp +contextual (maxDischargeDepth := 60) [*]; done) | split | (dsimp only; split) | (simp +contextual (maxDischargeDepth := 60) [*]; split))
@[simp] theorem State.tbusCal_keeps (s : State) (mask : Nat) (H : Closed P) (h_ : Holds P s) : Holds P (State.tbusCal s mask) := by
  unfold State.tbusCal; repeat' (first | (simp +contextual (maxDischargeDepth := 60) [*]; done) | split | (dsimp only; split) | (simp +contextual (maxDischargeDepth := 60) [*]; split))
theorem execTbusCal_keeps (mask : BitVec 4) (s : State) (t_ : State) (H : Closed P) (h_ : Holds P s) (e_ : execTbusCal mask s = .next t_) : Holds P t_ := by
  simp only [execTbusCal, Host.Outcome.next.injEq] at e_; subst e_; repeat' (first | (simp +contextual (maxDischargeDepth := 60) [*]; done) | split | (dsimp only; split) | (simp +contextual (maxDischargeDepth := 60) [*]; split))
@[simp] theorem State.tbusCalDone_keeps (s : State) (n : Fin 4) (H : Closed P) (h_ : Holds P s) : Holds P (State.tbusCalDone s n) := by
  unfold State.tbusCalDone; repeat' (first | (simp +contextual (maxDischargeDepth := 60) [*]; done) | split | (dsimp only; split) | (simp +contextual (maxDischargeDepth := 60) [*]; split))
theorem execTbusCalDone_keeps (n : Fin 4) (s : State) (t_ : State) (H : Closed P) (h_ : Holds P s) (e_ : execTbusCalDone n s = .next t_) : Holds P t_ := by
  simp only [execTbusCalDone, Host.Outcome.next.injEq] at e_; subst e_; repeat' (first | (simp +contextual (maxDischargeDepth := 60) [*]; done) | split | (dsimp only; split) | (simp +contextual (maxDischargeDepth := 60) [*]; split))
@[simp] theorem State.faultStop_keeps (s : State) (a : Fin 64) (H : Closed P) (h_ : Holds P s) : Holds P (State.faultStop s a) := by
  unfold State.faultStop; repeat' (first | (simp +contextual (maxDischargeDepth := 60) [*]; done) | split | (dsimp only; split) | (simp +contextual (maxDischargeDepth := 60) [*]; split))
@[simp] theorem State.stopGroup_keeps (s : State) (g : Nat) (H : Closed P) (h_ : Holds P s) : Holds P (State.stopGroup s g) := by
  unfold State.stopGroup; repeat' (first | (simp +contextual (maxDischargeDepth := 60) [*]; done) | split | (dsimp only; split) | (simp +contextual (maxDischargeDepth := 60) [*]; split))
@[simp] theorem State.haltDomain_keeps (s : State) (d : Nat) (H : Closed P) (h_ : Holds P s) : Holds P (State.haltDomain s d) := by
  unfold State.haltDomain; repeat' (first | (simp +contextual (maxDischargeDepth := 60) [*]; done) | split | (dsimp only; split) | (simp +contextual (maxDischargeDepth := 60) [*]; split))
@[simp] theorem State.safeStop_keeps (s : State) (H : Closed P) (h_ : Holds P s) : Holds P (State.safeStop s) := by
  unfold State.safeStop; repeat' (first | (simp +contextual (maxDischargeDepth := 60) [*]; done) | split | (dsimp only; split) | (simp +contextual (maxDischargeDepth := 60) [*]; split))
@[simp] theorem State.react_keeps (s : State) (i act d : Nat) (H : Closed P) (HM : ClosedMem P) (h_ : Holds P s) : Holds P (State.react s i act d) := by
  unfold State.react; repeat' (first | (simp +contextual (maxDischargeDepth := 60) [*]; done) | split | (dsimp only; split) | (simp +contextual (maxDischargeDepth := 60) [*]; split))
@[simp] theorem State.faultVec_keeps (s : State) (H : Closed P) (h_ : Holds P s) : Holds P (State.faultVec s) := by
  unfold State.faultVec; repeat' (first | (simp +contextual (maxDischargeDepth := 60) [*]; done) | split | (dsimp only; split) | (simp +contextual (maxDischargeDepth := 60) [*]; split))
@[simp] theorem State.putLog_keeps (s : State) (w : Vector Word 4) (H : Closed P) (h_ : Holds P s) : Holds P (State.putLog s w) := by
  unfold State.putLog; repeat' (first | (simp +contextual (maxDischargeDepth := 60) [*]; done) | split | (dsimp only; split) | (simp +contextual (maxDischargeDepth := 60) [*]; split))
@[simp] theorem State.faultRise_keeps (s : State) (i : Nat) (H : Closed P) (HM : ClosedMem P) (h_ : Holds P s) : Holds P (State.faultRise s i) := by
  unfold State.faultRise; repeat' (first | (simp +contextual (maxDischargeDepth := 60) [*]; done) | split | (dsimp only; split) | (simp +contextual (maxDischargeDepth := 60) [*]; split))
theorem execFaultRise_keeps (i : Fin 40) (s : State) (t_ : State) (H : Closed P) (HM : ClosedMem P) (h_ : Holds P s) (e_ : execFaultRise i s = .next t_) : Holds P t_ := by
  simp only [execFaultRise, Host.Outcome.next.injEq] at e_; subst e_; repeat' (first | (simp +contextual (maxDischargeDepth := 60) [*]; done) | split | (dsimp only; split) | (simp +contextual (maxDischargeDepth := 60) [*]; split))
@[simp] theorem State.clearSources_keeps (s : State) (hi : Bool) (v : Nat) (H : Closed P) (h_ : Holds P s) : Holds P (State.clearSources s hi v) := by
  unfold State.clearSources; repeat' (first | (simp +contextual (maxDischargeDepth := 60) [*]; done) | split | (dsimp only; split) | (simp +contextual (maxDischargeDepth := 60) [*]; split))
theorem execFaultSourceClear_keeps (hi : Bool) (v : Word) (s : State) (t_ : State) (H : Closed P) (h_ : Holds P s) (e_ : execFaultSourceClear hi v s = .next t_) : Holds P t_ := by
  simp only [execFaultSourceClear, Host.Outcome.next.injEq] at e_; subst e_; repeat' (first | (simp +contextual (maxDischargeDepth := 60) [*]; done) | split | (dsimp only; split) | (simp +contextual (maxDischargeDepth := 60) [*]; split))
theorem execDssClr_keeps (s : State) (t_ : State) (H : Closed P) (h_ : Holds P s) (e_ : execDssClr s = .next t_) : Holds P t_ := by
  simp only [execDssClr, Host.Outcome.next.injEq] at e_; subst e_; repeat' (first | (simp +contextual (maxDischargeDepth := 60) [*]; done) | split | (dsimp only; split) | (simp +contextual (maxDischargeDepth := 60) [*]; split))
@[simp] theorem State.releaseDomains_keeps (s : State) (v : Nat) (H : Closed P) (h_ : Holds P s) : Holds P (State.releaseDomains s v) := by
  unfold State.releaseDomains; repeat' (first | (simp +contextual (maxDischargeDepth := 60) [*]; done) | split | (dsimp only; split) | (simp +contextual (maxDischargeDepth := 60) [*]; split))
theorem execDomHaltRelease_keeps (mask : BitVec 8) (s : State) (t_ : State) (H : Closed P) (h_ : Holds P s) (e_ : execDomHaltRelease mask s = .next t_) : Holds P t_ := by
  simp only [execDomHaltRelease, Host.Outcome.next.injEq] at e_; subst e_; repeat' (first | (simp +contextual (maxDischargeDepth := 60) [*]; done) | split | (dsimp only; split) | (simp +contextual (maxDischargeDepth := 60) [*]; split))
@[simp] theorem State.popLog_keeps (s : State) (H : Closed P) (h_ : Holds P s) : Holds P (State.popLog s) := by
  unfold State.popLog; repeat' (first | (simp +contextual (maxDischargeDepth := 60) [*]; done) | split | (dsimp only; split) | (simp +contextual (maxDischargeDepth := 60) [*]; split))
theorem execFaultLogPop_keeps (s : State) (t_ : State) (H : Closed P) (h_ : Holds P s) (e_ : execFaultLogPop s = .next t_) : Holds P t_ := by
  simp only [execFaultLogPop, Host.Outcome.next.injEq] at e_; subst e_; repeat' (first | (simp +contextual (maxDischargeDepth := 60) [*]; done) | split | (dsimp only; split) | (simp +contextual (maxDischargeDepth := 60) [*]; split))
@[simp] theorem State.dropPartner_keeps (s : State) (f : Fld) (H : Closed P) (h_ : Holds P s) : Holds P (State.dropPartner s f) := by
  unfold State.dropPartner; repeat' (first | (simp +contextual (maxDischargeDepth := 60) [*]; done) | split | (dsimp only; split) | (simp +contextual (maxDischargeDepth := 60) [*]; split))
@[simp] theorem State.queuePartner_keeps (s : State) (r : Partner) (H : Closed P) (h_ : Holds P s) : Holds P (State.queuePartner s r) := by
  unfold State.queuePartner; repeat' (first | (simp +contextual (maxDischargeDepth := 60) [*]; done) | split | (dsimp only; split) | (simp +contextual (maxDischargeDepth := 60) [*]; split))
@[simp] theorem State.closePartners_keeps (s : State) (H : Closed P) (h_ : Holds P s) : Holds P (State.closePartners s) := by
  unfold State.closePartners; repeat' (first | (simp +contextual (maxDischargeDepth := 60) [*]; done) | split | (dsimp only; split) | (simp +contextual (maxDischargeDepth := 60) [*]; split))
theorem execPartnerRecordClose_keeps (s : State) (t_ : State) (H : Closed P) (h_ : Holds P s) (e_ : execPartnerRecordClose s = .next t_) : Holds P t_ := by
  simp only [execPartnerRecordClose, Host.Outcome.next.injEq] at e_; subst e_; repeat' (first | (simp +contextual (maxDischargeDepth := 60) [*]; done) | split | (dsimp only; split) | (simp +contextual (maxDischargeDepth := 60) [*]; split))
@[simp] theorem State.partnerReport_keeps (s : State) (v : Nat) (H : Closed P) (h_ : Holds P s) : Holds P (State.partnerReport s v) := by
  unfold State.partnerReport; repeat' (first | (simp +contextual (maxDischargeDepth := 60) [*]; done) | split | (dsimp only; split) | (simp +contextual (maxDischargeDepth := 60) [*]; split))
theorem execPartnerReport_keeps (v : Word) (s : State) (t_ : State) (H : Closed P) (h_ : Holds P s) (e_ : execPartnerReport v s = .next t_) : Holds P t_ := by
  simp only [execPartnerReport, Host.Outcome.next.injEq] at e_; subst e_; repeat' (first | (simp +contextual (maxDischargeDepth := 60) [*]; done) | split | (dsimp only; split) | (simp +contextual (maxDischargeDepth := 60) [*]; split))
theorem execFaultPrPop_keeps (s : State) (t_ : State) (H : Closed P) (h_ : Holds P s) (e_ : execFaultPrPop s = .next t_) : Holds P t_ := by
  simp only [execFaultPrPop, Host.Outcome.next.injEq] at e_; subst e_; repeat' (first | (simp +contextual (maxDischargeDepth := 60) [*]; done) | split | (dsimp only; split) | (simp +contextual (maxDischargeDepth := 60) [*]; split))
@[simp] theorem State.forceSlate_keeps (s : State) (k : PageKind) (n a v : Nat) (H : Closed P) (h_ : Holds P s) : Holds P (State.forceSlate s k n a v) := by
  unfold State.forceSlate; repeat' (first | (simp +contextual (maxDischargeDepth := 60) [*]; done) | split | (dsimp only; split) | (simp +contextual (maxDischargeDepth := 60) [*]; split))
@[simp] theorem State.cleanAxis_keeps (s : State) (a : Fin 64) (H : Closed P) (h_ : Holds P s) : Holds P (State.cleanAxis s a) := by
  unfold State.cleanAxis; repeat' (first | (simp +contextual (maxDischargeDepth := 60) [*]; done) | split | (dsimp only; split) | (simp +contextual (maxDischargeDepth := 60) [*]; split))
@[simp] theorem State.cleanPoint_keeps (s : State) (i : Fin 8) (j : Fin 16) (H : Closed P) (h_ : Holds P s) : Holds P (State.cleanPoint s i j) := by
  unfold State.cleanPoint; repeat' (first | (simp +contextual (maxDischargeDepth := 60) [*]; done) | split | (dsimp only; split) | (simp +contextual (maxDischargeDepth := 60) [*]; split))
@[simp] theorem State.cleanEngine_keeps (s : State) (e : Fin 512) (H : Closed P) (HM : ClosedMem P) (h_ : Holds P s) : Holds P (State.cleanEngine s e) := by
  unfold State.cleanEngine; repeat' (first | (simp +contextual (maxDischargeDepth := 60) [*]; done) | split | (dsimp only; split) | (simp +contextual (maxDischargeDepth := 60) [*]; split))
@[simp] theorem State.cleanShm_keeps (s : State) (b : Nat) (H : Closed P) (HM : ClosedMem P) (h_ : Holds P s) : Holds P (State.cleanShm s b) := by
  unfold State.cleanShm; repeat' (first | (simp +contextual (maxDischargeDepth := 60) [*]; done) | split | (dsimp only; split) | (simp +contextual (maxDischargeDepth := 60) [*]; split))
@[simp] theorem State.cleanVec_keeps (s : State) (v : Nat) (H : Closed P) (h_ : Holds P s) : Holds P (State.cleanVec s v) := by
  unfold State.cleanVec; repeat' (first | (simp +contextual (maxDischargeDepth := 60) [*]; done) | split | (dsimp only; split) | (simp +contextual (maxDischargeDepth := 60) [*]; split))
theorem execCleaningDone_keeps (s : State) (t_ : State) (H : Closed P) (h_ : Holds P s) (e_ : execCleaningDone s = .next t_) : Holds P t_ := by
  simp only [execCleaningDone, Host.Outcome.next.injEq] at e_; subst e_; repeat' (first | (simp +contextual (maxDischargeDepth := 60) [*]; done) | split | (dsimp only; split) | (simp +contextual (maxDischargeDepth := 60) [*]; split))
@[simp] theorem State.writeDom_keeps (s : State) (o v : Nat) (H : Closed P) (h_ : Holds P s) : Holds P (State.writeDom s o v) := by
  unfold State.writeDom; repeat' (first | (simp +contextual (maxDischargeDepth := 60) [*]; done) | split | (dsimp only; split) | (simp +contextual (maxDischargeDepth := 60) [*]; split))
@[simp] theorem State.writeOwner_keeps (s : State) (k : PageKind) (n v : Nat) (H : Closed P) (HM : ClosedMem P) (h_ : Holds P s) : Holds P (State.writeOwner s k n v) := by
  unfold State.writeOwner; repeat' (first | (simp +contextual (maxDischargeDepth := 60) [*]; done) | split | (dsimp only; split) | (simp +contextual (maxDischargeDepth := 60) [*]; split))
@[simp] theorem State.writeShmOwn_keeps (s : State) (g o v : Nat) (H : Closed P) (HM : ClosedMem P) (h_ : Holds P s) : Holds P (State.writeShmOwn s g o v) := by
  unfold State.writeShmOwn; repeat' (first | (simp +contextual (maxDischargeDepth := 60) [*]; done) | split | (dsimp only; split) | (simp +contextual (maxDischargeDepth := 60) [*]; split))
theorem State.assign_keeps (s : State) (k : PageKind) (n o v : Nat) (t : State) (H : Closed P) (HM : ClosedMem P) (h_ : Holds P s) (e : s.assign k n o v = some t) : Holds P t := by
  unfold State.assign at e
  repeat' split at e
  all_goals first | (cases e; simp [*]; done) | (simp only [Option.map_eq_some_iff] at e; obtain ⟨d, -, rfl⟩ := e; simp [*]; done) | cases e
theorem execAssignmentWrite_keeps (addr : BitVec 26) (v : Word) (s : State) (t_ : State) (H : Closed P) (HM : ClosedMem P) (h_ : Holds P s) (e_ : execAssignmentWrite addr v s = .next t_) : Holds P t_ := by
  cases e_
  repeat' split
  all_goals first | exact h_ | (simp [*]; done) | exact State.assign_keeps _ _ _ _ _ _ H HM h_ (by assumption)
theorem execDomLock_keeps (s : State) (t_ : State) (H : Closed P) (h_ : Holds P s) (e_ : execDomLock s = .next t_) : Holds P t_ := by
  simp only [execDomLock, Host.Outcome.next.injEq] at e_; subst e_; repeat' (first | (simp +contextual (maxDischargeDepth := 60) [*]; done) | split | (dsimp only; split) | (simp +contextual (maxDischargeDepth := 60) [*]; split))
@[simp] theorem State.setValid_keeps (s : State) (slot ok : Bool) (H : Closed P) (h_ : Holds P s) : Holds P (State.setValid s slot ok) := by
  unfold State.setValid; repeat' (first | (simp +contextual (maxDischargeDepth := 60) [*]; done) | split | (dsimp only; split) | (simp +contextual (maxDischargeDepth := 60) [*]; split))
@[simp] theorem State.unverify_keeps (s : State) (slot ok : Bool) (H : Closed P) (HB : ClosedBoot P) (h_ : Holds P s) : Holds P (s.unverify slot ok) := by
  unfold State.unverify
  have := State.bootSame_keeps s (fun b => { b with verified := b.verified.set slot.toNat ok (by cases slot <;> decide) }) HB h_ ⟨rfl, rfl, rfl⟩
  simp (maxDischargeDepth := 60) [*]
@[simp] theorem State.amberResult_keeps (s : State) (c : Nat) (H : Closed P) (HB : ClosedBoot P) (h_ : Holds P s) : Holds P (s.amberResult c) := by
  unfold State.amberResult
  have := State.bootSame_keeps s (fun b => { b with job := none }) HB h_ ⟨rfl, rfl, rfl⟩
  simp (maxDischargeDepth := 60) [*]
@[simp] theorem State.amberCmd_keeps (s : State) (v : Nat) (H : Closed P) (HB : ClosedBoot P) (h_ : Holds P s) : Holds P (s.amberCmd v) := by
  unfold State.amberCmd; dsimp only
  have hj (t : State) (ht : Holds P t) : Holds P (t.setBoot fun b => { b with job := some v }) := State.bootSame_keeps t _ HB ht ⟨rfl, rfl, rfl⟩
  repeat' (first | exact h_ | (simp +contextual (maxDischargeDepth := 60) [*]; done) | split)
theorem execCopyIn_keeps (s : State) (t_ : State) (H : Closed P) (HB : ClosedBoot P) (h_ : Holds P s) (e_ : execCopyIn s = .next t_) : Holds P t_ := by
  simp only [execCopyIn, Host.Outcome.next.injEq] at e_; subst e_; repeat' (first | (simp +contextual (maxDischargeDepth := 60) [*]; done) | split | (dsimp only; split) | (simp +contextual (maxDischargeDepth := 60) [*]; split))
theorem execCopyOut_keeps (s : State) (t_ : State) (H : Closed P) (HB : ClosedBoot P) (h_ : Holds P s) (e_ : execCopyOut s = .next t_) : Holds P t_ := by
  simp only [execCopyOut, Host.Outcome.next.injEq] at e_; subst e_; repeat' (first | (simp +contextual (maxDischargeDepth := 60) [*]; done) | split | (dsimp only; split) | (simp +contextual (maxDischargeDepth := 60) [*]; split))
theorem execVerify_keeps (slot : Bool) (s : State) (t_ : State) (H : Closed P) (HB : ClosedBoot P) (h_ : Holds P s) (e_ : execVerify slot s = .next t_) : Holds P t_ := by
  simp only [execVerify, Host.Outcome.next.injEq] at e_; subst e_; repeat' (first | (simp +contextual (maxDischargeDepth := 60) [*]; done) | split | (dsimp only; split) | (simp +contextual (maxDischargeDepth := 60) [*]; split))
theorem execSwitch_keeps (slot trial : Bool) (s : State) (t_ : State) (H : Closed P) (HB : ClosedBoot P) (h_ : Holds P s) (e_ : execSwitch slot trial s = .next t_) : Holds P t_ := by
  simp only [execSwitch, Host.Outcome.next.injEq] at e_; subst e_; repeat' (first | (simp +contextual (maxDischargeDepth := 60) [*]; done) | split | (dsimp only; split) | (simp +contextual (maxDischargeDepth := 60) [*]; split))
theorem execConfirm_keeps (s : State) (t_ : State) (H : Closed P) (HB : ClosedBoot P) (h_ : Holds P s) (e_ : execConfirm s = .next t_) : Holds P t_ := by
  simp only [execConfirm, Host.Outcome.next.injEq] at e_; subst e_; repeat' (first | (simp +contextual (maxDischargeDepth := 60) [*]; done) | split | (dsimp only; split) | (simp +contextual (maxDischargeDepth := 60) [*]; split))
theorem execRaiseFloor_keeps (s : State) (t_ : State) (H : Closed P) (HB : ClosedBoot P) (h_ : Holds P s) (e_ : execRaiseFloor s = .next t_) : Holds P t_ := by
  simp only [execRaiseFloor, Host.Outcome.next.injEq] at e_; subst e_; repeat' (first | (simp +contextual (maxDischargeDepth := 60) [*]; done) | split | (dsimp only; split) | (simp +contextual (maxDischargeDepth := 60) [*]; split))
theorem execFuseKey_keeps (key : Fin 4) (s : State) (t_ : State) (H : Closed P) (HB : ClosedBoot P) (h_ : Holds P s) (e_ : execFuseKey key s = .next t_) : Holds P t_ := by
  simp only [execFuseKey, Host.Outcome.next.injEq] at e_; subst e_; repeat' (first | (simp +contextual (maxDischargeDepth := 60) [*]; done) | split | (dsimp only; split) | (simp +contextual (maxDischargeDepth := 60) [*]; split))
theorem execRevoke_keeps (key : Fin 4) (s : State) (t_ : State) (H : Closed P) (HB : ClosedBoot P) (h_ : Holds P s) (e_ : execRevoke key s = .next t_) : Holds P t_ := by
  simp only [execRevoke, Host.Outcome.next.injEq] at e_; subst e_; repeat' (first | (simp +contextual (maxDischargeDepth := 60) [*]; done) | split | (dsimp only; split) | (simp +contextual (maxDischargeDepth := 60) [*]; split))
theorem execBoot_keeps (slot : Bool) (s : State) (t_ : State) (H : Closed P) (HB : ClosedBoot P) (h_ : Holds P s) (e_ : execBoot slot s = .next t_) : Holds P t_ := by
  simp only [execBoot, Host.Outcome.next.injEq] at e_; subst e_; repeat' (first | (simp +contextual (maxDischargeDepth := 60) [*]; done) | split | (dsimp only; split) | (simp +contextual (maxDischargeDepth := 60) [*]; split))
@[simp] theorem State.astoreBytes_keeps (s : State) (a : Nat) (y0 : List Byte) (H : Closed P) (HA : ClosedAmber P) (h_ : Holds P s) : Holds P (State.astoreBytes s a y0) := by
  fun_induction State.astoreBytes s a y0 <;> (first | (simp_all; done) | (repeat' (first | (simp_all; done) | split)))
@[simp] theorem State.drawAmber_keeps (s : State) (a : Nat) (n : Nat) (H : Closed P) (HA : ClosedAmber P) (h_ : Holds P s) : Holds P (s.drawAmber a n) := by
  induction n generalizing s a with
  | zero => exact h_
  | succ n ih => unfold State.drawAmber; exact ih _ _ (by simp [*])
@[simp] theorem State.amberOut_keeps (s : State) (a : Nat) (n : Nat) (H : Closed P) (h_ : Holds P s) : Holds P (s.amberOut a n).2 := by
  induction n generalizing s a with
  | zero => exact h_
  | succ n ih => unfold State.amberOut; dsimp only; split <;> exact ih _ _ (by simp [*])
@[simp] theorem State.storeBytes_keeps (s : State) (a : Nat) (y0 : List Byte) (H : Closed P) (HM : ClosedMem P) (h_ : Holds P s) : Holds P (State.storeBytes s a y0) := by
  fun_induction State.storeBytes s a y0 <;> (first | (simp_all; done) | (repeat' (first | (simp_all; done) | split)))
@[simp] theorem State.doSwitch_keeps (s : State) (a b : Bool) (H : Closed P) (HB : ClosedBoot P) (h_ : Holds P s) : Holds P (s.doSwitch a b) := by
  unfold State.doSwitch; dsimp only
  refine State.when_keeps _ _ _ ?_ fun t ht => by simp [*]
  exact State.bootSame_keeps _ _ HB h_ (AmberState.writeRecord_keeps _ _)
@[simp] theorem State.doConfirm_keeps (s : State) (H : Closed P) (HB : ClosedBoot P) (h_ : Holds P s) : Holds P s.doConfirm := by
  unfold State.doConfirm
  exact State.setb_keeps _ _ _ _ H (State.bootSame_keeps _ _ HB h_ (AmberState.writeRecord_keeps _ _))
@[simp] theorem State.copyIn_keeps (s : State) (src : HostData) (H : Closed P) (HA : ClosedAmber P) (HB : ClosedBoot P) (h_ : Holds P s) : Holds P (State.copyIn s src) := by
  unfold State.copyIn; repeat' (first | (simp +contextual (maxDischargeDepth := 60) [*]; done) | split | (dsimp only; split) | (simp +contextual (maxDischargeDepth := 60) [*]; split))
@[simp] theorem State.copyOut_keeps (s : State) (H : Closed P) (HM : ClosedMem P) (HB : ClosedBoot P) (h_ : Holds P s) : Holds P (State.copyOut s) := by
  unfold State.copyOut; repeat' (first | (simp +contextual (maxDischargeDepth := 60) [*]; done) | split | (dsimp only; split) | (simp +contextual (maxDischargeDepth := 60) [*]; split))
@[simp] theorem State.doVerify_keeps (s : State) (slot : Bool) (x : ImageCheck) (H : Closed P) (HB : ClosedBoot P) (h_ : Holds P s) : Holds P (State.doVerify s slot x) := by
  unfold State.doVerify; repeat' (first | (simp +contextual (maxDischargeDepth := 60) [*]; done) | split | (dsimp only; split) | (simp +contextual (maxDischargeDepth := 60) [*]; split))
@[simp] theorem State.blowFloor_keeps (s : State) (HB : ClosedBoot P) (h_ : Holds P s) : Holds P s.blowFloor :=
  State.setBoot_keeps _ _ HB h_ ⟨Nat.le_max_left _ _, by dsimp only; omega, fun _ h => h, fun _ h => h⟩
@[simp] theorem State.fuseKey_keeps (s : State) (k : Nat) (HB : ClosedBoot P) (h_ : Holds P s) : Holds P (s.fuseKey k) :=
  State.setBoot_keeps _ _ HB h_ ⟨Nat.le_refl _, Nat.le_max_left _ _, fun _ h => by simp [h], fun _ h => h⟩
@[simp] theorem State.revokeKey_keeps (s : State) (k : Nat) (HB : ClosedBoot P) (h_ : Holds P s) : Holds P (s.revokeKey k) :=
  State.setBoot_keeps _ _ HB h_ ⟨Nat.le_refl _, Nat.le_max_left _ _, fun _ h => h, fun _ h => by simp [h]⟩
@[simp] theorem State.bootSlot_keeps (s : State) (b : Bool) (HB : ClosedBoot P) (h_ : Holds P s) : Holds P (s.bootSlot b) :=
  State.bootSame_keeps _ _ HB h_ ⟨rfl, rfl, rfl⟩
@[simp] theorem State.amberDo_keeps (s : State) (v : Nat) (x : ImageCheck) (src : HostData) (H : Closed P) (HM : ClosedMem P) (HA : ClosedAmber P) (HB : ClosedBoot P) (h_ : Holds P s) : Holds P (State.amberDo s v x src) := by
  unfold State.amberDo; repeat' (first | (simp +contextual (maxDischargeDepth := 60) [*]; done) | split | (dsimp only; split) | (simp +contextual (maxDischargeDepth := 60) [*]; split))
theorem execAmberCmdComplete_keeps (x : ImageCheck) (src : HostData) (s : State) (t_ : State) (H : Closed P) (HM : ClosedMem P) (HA : ClosedAmber P) (HB : ClosedBoot P) (h_ : Holds P s) (e_ : execAmberCmdComplete x src s = .next t_) : Holds P t_ := by
  simp only [execAmberCmdComplete, Host.Outcome.next.injEq] at e_; subst e_; repeat' (first | (simp +contextual (maxDischargeDepth := 60) [*]; done) | split | (dsimp only; split) | (simp +contextual (maxDischargeDepth := 60) [*]; split))
@[simp] theorem State.abortAmber_keeps (s : State) (H : Closed P) (HA : ClosedAmber P) (HB : ClosedBoot P) (h_ : Holds P s) : Holds P s.abortAmber := by
  unfold State.abortAmber; dsimp only
  repeat' (first | exact h_ | (simp +contextual (maxDischargeDepth := 60) [*]; done) | split)
@[simp] theorem State.amberScrub_keeps (s : State) (a : Nat) (ue : Bool) (H : Closed P) (h_ : Holds P s) : Holds P (State.amberScrub s a ue) := by
  unfold State.amberScrub; repeat' (first | (simp +contextual (maxDischargeDepth := 60) [*]; done) | split | (dsimp only; split) | (simp +contextual (maxDischargeDepth := 60) [*]; split))
theorem execAmberScrub_keeps (addr : BitVec 25) (found : Option Bool) (s : State) (t_ : State) (H : Closed P) (h_ : Holds P s) (e_ : execAmberScrub addr found s = .next t_) : Holds P t_ := by
  simp only [execAmberScrub, Host.Outcome.next.injEq] at e_; subst e_; repeat' (first | (simp +contextual (maxDischargeDepth := 60) [*]; done) | split | (dsimp only; split) | (simp +contextual (maxDischargeDepth := 60) [*]; split))
@[simp] theorem State.setPower_keeps (s : State) (f : PowerState → PowerState) (H : Closed P) (h : Holds P s) : Holds P (s.setPower f) := H.setPower s f h
@[simp] theorem State.afterReset_keeps (s : State) (held : Bool) (HR : ClosedReset P) (h : Holds P s) : Holds P (s.afterReset held) := HR.afterReset s held h
@[simp] theorem State.graniteReset_keeps (s : State) (cause : Nat) (held : Bool) (H : Closed P) (HR : ClosedReset P) (h_ : Holds P s) : Holds P (State.graniteReset s cause held) := by
  unfold State.graniteReset; repeat' (first | (simp +contextual (maxDischargeDepth := 60) [*]; done) | split | (dsimp only; split) | (simp +contextual (maxDischargeDepth := 60) [*]; split))
@[simp] theorem State.askReset_keeps (s : State) (cause : Nat) (held : Bool) (H : Closed P) (HR : ClosedReset P) (h_ : Holds P s) : Holds P (State.askReset s cause held) := by
  unfold State.askReset; repeat' (first | (simp +contextual (maxDischargeDepth := 60) [*]; done) | split | (dsimp only; split) | (simp +contextual (maxDischargeDepth := 60) [*]; split))
@[simp] theorem State.powerOnReset_keeps (s : State) (H : Closed P) (HR : ClosedReset P) (h_ : Holds P s) : Holds P (State.powerOnReset s) := by
  unfold State.powerOnReset; repeat' (first | (simp +contextual (maxDischargeDepth := 60) [*]; done) | split | (dsimp only; split) | (simp +contextual (maxDischargeDepth := 60) [*]; split))
theorem execPowerOnReset_keeps (s : State) (t_ : State) (H : Closed P) (HR : ClosedReset P) (h_ : Holds P s) (e_ : execPowerOnReset s = .next t_) : Holds P t_ := by
  simp only [execPowerOnReset, Host.Outcome.next.injEq] at e_; subst e_; repeat' (first | (simp +contextual (maxDischargeDepth := 60) [*]; done) | split | (dsimp only; split) | (simp +contextual (maxDischargeDepth := 60) [*]; split))
theorem execExternalReset_keeps (s : State) (t_ : State) (H : Closed P) (HR : ClosedReset P) (h_ : Holds P s) (e_ : execExternalReset s = .next t_) : Holds P t_ := by
  simp only [execExternalReset, Host.Outcome.next.injEq] at e_; subst e_; repeat' (first | (simp +contextual (maxDischargeDepth := 60) [*]; done) | split | (dsimp only; split) | (simp +contextual (maxDischargeDepth := 60) [*]; split))
theorem execResetRelease_keeps (s : State) (t_ : State) (H : Closed P) (h_ : Holds P s) (e_ : execResetRelease s = .next t_) : Holds P t_ := by
  simp only [execResetRelease, Host.Outcome.next.injEq] at e_; subst e_; repeat' (first | (simp +contextual (maxDischargeDepth := 60) [*]; done) | split | (dsimp only; split) | (simp +contextual (maxDischargeDepth := 60) [*]; split))
theorem execPllLock_keeps (p : Fin 3) (s : State) (t_ : State) (H : Closed P) (h_ : Holds P s) (e_ : execPllLock p s = .next t_) : Holds P t_ := by
  simp only [execPllLock, Host.Outcome.next.injEq] at e_; subst e_; repeat' (first | (simp +contextual (maxDischargeDepth := 60) [*]; done) | split | (dsimp only; split) | (simp +contextual (maxDischargeDepth := 60) [*]; split))
@[simp] theorem State.abortSave_keeps (s : State) (H : Closed P) (h_ : Holds P s) : Holds P (State.abortSave s) := by
  unfold State.abortSave; repeat' (first | (simp +contextual (maxDischargeDepth := 60) [*]; done) | split | (dsimp only; split) | (simp +contextual (maxDischargeDepth := 60) [*]; split))
@[simp] theorem State.sysUnlock_keeps (s : State) (H : Closed P) (HR : ClosedReset P) (h_ : Holds P s) : Holds P (State.sysUnlock s) := by
  unfold State.sysUnlock; repeat' (first | (simp +contextual (maxDischargeDepth := 60) [*]; done) | split | (dsimp only; split) | (simp +contextual (maxDischargeDepth := 60) [*]; split))
theorem execPllUnlock_keeps (p : Fin 3) (s : State) (t_ : State) (H : Closed P) (HR : ClosedReset P) (h_ : Holds P s) (e_ : execPllUnlock p s = .next t_) : Holds P t_ := by
  simp only [execPllUnlock, Host.Outcome.next.injEq] at e_; subst e_; repeat' (first | (simp +contextual (maxDischargeDepth := 60) [*]; done) | split | (dsimp only; split) | (simp +contextual (maxDischargeDepth := 60) [*]; split))
theorem execHoldoverExpiry_keeps (s : State) (t_ : State) (H : Closed P) (HR : ClosedReset P) (h_ : Holds P s) (e_ : execHoldoverExpiry s = .next t_) : Holds P t_ := by
  simp only [execHoldoverExpiry, Host.Outcome.next.injEq] at e_; subst e_; repeat' (first | (simp +contextual (maxDischargeDepth := 60) [*]; done) | split | (dsimp only; split) | (simp +contextual (maxDischargeDepth := 60) [*]; split))
theorem execFlintSelfTestPass_keeps (s : State) (t_ : State) (H : Closed P) (h_ : Holds P s) (e_ : execFlintSelfTestPass s = .next t_) : Holds P t_ := by
  simp only [execFlintSelfTestPass, Host.Outcome.next.injEq] at e_; subst e_; repeat' (first | (simp +contextual (maxDischargeDepth := 60) [*]; done) | split | (dsimp only; split) | (simp +contextual (maxDischargeDepth := 60) [*]; split))
@[simp] theorem State.wdogKick_keeps (s : State) (H : Closed P) (h_ : Holds P s) : Holds P (State.wdogKick s) := by
  unfold State.wdogKick; repeat' (first | (simp +contextual (maxDischargeDepth := 60) [*]; done) | split | (dsimp only; split) | (simp +contextual (maxDischargeDepth := 60) [*]; split))
theorem execSysWdogKick_keeps (s : State) (t_ : State) (H : Closed P) (h_ : Holds P s) (e_ : execSysWdogKick s = .next t_) : Holds P t_ := by
  simp only [execSysWdogKick, Host.Outcome.next.injEq] at e_; subst e_; repeat' (first | (simp +contextual (maxDischargeDepth := 60) [*]; done) | split | (dsimp only; split) | (simp +contextual (maxDischargeDepth := 60) [*]; split))
theorem execSysWdogExpiry_keeps (s : State) (t_ : State) (H : Closed P) (HR : ClosedReset P) (h_ : Holds P s) (e_ : execSysWdogExpiry s = .next t_) : Holds P t_ := by
  simp only [execSysWdogExpiry, Host.Outcome.next.injEq] at e_; subst e_; repeat' (first | (simp +contextual (maxDischargeDepth := 60) [*]; done) | split | (dsimp only; split) | (simp +contextual (maxDischargeDepth := 60) [*]; split))
theorem execTrialExpiry_keeps (s : State) (t_ : State) (H : Closed P) (HR : ClosedReset P) (h_ : Holds P s) (e_ : execTrialExpiry s = .next t_) : Holds P t_ := by
  simp only [execTrialExpiry, Host.Outcome.next.injEq] at e_; subst e_; repeat' (first | (simp +contextual (maxDischargeDepth := 60) [*]; done) | split | (dsimp only; split) | (simp +contextual (maxDischargeDepth := 60) [*]; split))
@[simp] theorem State.saveAxis_keeps (s : State) (a : Fin 64) (H : Closed P) (HA : ClosedAmber P) (h_ : Holds P s) : Holds P (State.saveAxis s a) := by
  unfold State.saveAxis; repeat' (first | (simp +contextual (maxDischargeDepth := 60) [*]; done) | split | (dsimp only; split) | (simp +contextual (maxDischargeDepth := 60) [*]; split))
@[simp] theorem State.saveSeg_keeps (s : State) (w : Nat) (g : TrunkSeg) (H : Closed P) (HA : ClosedAmber P) (h_ : Holds P s) : Holds P (State.saveSeg s w g) := by
  unfold State.saveSeg; repeat' (first | (simp +contextual (maxDischargeDepth := 60) [*]; done) | split | (dsimp only; split) | (simp +contextual (maxDischargeDepth := 60) [*]; split))
@[simp] theorem State.saveTrunk_keeps (s : State) (k : Fin 8) (H : Closed P) (HA : ClosedAmber P) (h_ : Holds P s) : Holds P (State.saveTrunk s k) := by
  unfold State.saveTrunk; repeat' (first | (simp +contextual (maxDischargeDepth := 60) [*]; done) | split | (dsimp only; split) | (simp +contextual (maxDischargeDepth := 60) [*]; split))
@[simp] theorem State.saveTooth_keeps (s : State) (t : Fin 16) (H : Closed P) (HA : ClosedAmber P) (h_ : Holds P s) : Holds P (State.saveTooth s t) := by
  unfold State.saveTooth; repeat' (first | (simp +contextual (maxDischargeDepth := 60) [*]; done) | split | (dsimp only; split) | (simp +contextual (maxDischargeDepth := 60) [*]; split))
@[simp] theorem State.saveBlock_keeps (s : State) (H : Closed P) (HA : ClosedAmber P) (h_ : Holds P s) : Holds P (State.saveBlock s) := by
  unfold State.saveBlock; repeat' (first | (simp +contextual (maxDischargeDepth := 60) [*]; done) | split | (dsimp only; split) | (simp +contextual (maxDischargeDepth := 60) [*]; split))
@[simp] theorem State.saveTable_keeps (s : State)  (HA : ClosedAmber P) (h : Holds P s) : Holds P (s.saveTable ) := HA.saveTable s  h
@[simp] theorem State.safeCmdAll_keeps (s : State) (H : Closed P) (h_ : Holds P s) : Holds P (State.safeCmdAll s) := by
  unfold State.safeCmdAll; repeat' (first | (simp +contextual (maxDischargeDepth := 60) [*]; done) | split | (dsimp only; split) | (simp +contextual (maxDischargeDepth := 60) [*]; split))
@[simp] theorem State.stopBlocks_keeps (s : State) (H : Closed P) (h_ : Holds P s) : Holds P (State.stopBlocks s) := by
  unfold State.stopBlocks; repeat' (first | (simp +contextual (maxDischargeDepth := 60) [*]; done) | split | (dsimp only; split) | (simp +contextual (maxDischargeDepth := 60) [*]; split))
@[simp] theorem State.startSave_keeps (s : State) (sag : Bool) (H : Closed P) (HA : ClosedAmber P) (HB : ClosedBoot P) (h_ : Holds P s) : Holds P (State.startSave s sag) := by
  unfold State.startSave; repeat' (first | (simp +contextual (maxDischargeDepth := 60) [*]; done) | split | (dsimp only; split) | (simp +contextual (maxDischargeDepth := 60) [*]; split))
@[simp] theorem State.saveComplete_keeps (s : State) (H : Closed P) (HA : ClosedAmber P) (HR : ClosedReset P) (h_ : Holds P s) : Holds P (State.saveComplete s) := by
  unfold State.saveComplete; repeat' (first | (simp +contextual (maxDischargeDepth := 60) [*]; done) | split | (dsimp only; split) | (simp +contextual (maxDischargeDepth := 60) [*]; split))
theorem execSaveComplete_keeps (s : State) (t_ : State) (H : Closed P) (HA : ClosedAmber P) (HR : ClosedReset P) (h_ : Holds P s) (e_ : execSaveComplete s = .next t_) : Holds P t_ := by
  simp only [execSaveComplete, Host.Outcome.next.injEq] at e_; subst e_; repeat' (first | (simp +contextual (maxDischargeDepth := 60) [*]; done) | split | (dsimp only; split) | (simp +contextual (maxDischargeDepth := 60) [*]; split))
theorem execHoldCollapse_keeps (s : State) (t_ : State) (H : Closed P) (h_ : Holds P s) (e_ : execHoldCollapse s = .next t_) : Holds P t_ := by
  simp only [execHoldCollapse, Host.Outcome.next.injEq] at e_; subst e_; repeat' (first | (simp +contextual (maxDischargeDepth := 60) [*]; done) | split | (dsimp only; split) | (simp +contextual (maxDischargeDepth := 60) [*]; split))
@[simp] theorem State.sagDetect_keeps (s : State) (pfail : Bool) (H : Closed P) (HA : ClosedAmber P) (HB : ClosedBoot P) (h_ : Holds P s) : Holds P (State.sagDetect s pfail) := by
  unfold State.sagDetect; repeat' (first | (simp +contextual (maxDischargeDepth := 60) [*]; done) | split | (dsimp only; split) | (simp +contextual (maxDischargeDepth := 60) [*]; split))
theorem execSagDetect_keeps (pfail : Bool) (s : State) (t_ : State) (H : Closed P) (HA : ClosedAmber P) (HB : ClosedBoot P) (h_ : Holds P s) (e_ : execSagDetect pfail s = .next t_) : Holds P t_ := by
  simp only [execSagDetect, Host.Outcome.next.injEq] at e_; subst e_; repeat' (first | (simp +contextual (maxDischargeDepth := 60) [*]; done) | split | (dsimp only; split) | (simp +contextual (maxDischargeDepth := 60) [*]; split))
theorem execSagEnd_keeps (s : State) (t_ : State) (H : Closed P) (HR : ClosedReset P) (h_ : Holds P s) (e_ : execSagEnd s = .next t_) : Holds P t_ := by
  simp only [execSagEnd, Host.Outcome.next.injEq] at e_; subst e_; repeat' (first | (simp +contextual (maxDischargeDepth := 60) [*]; done) | split | (dsimp only; split) | (simp +contextual (maxDischargeDepth := 60) [*]; split))
theorem execHoldCapMeasure_keeps (uF : BitVec 16) (s : State) (t_ : State) (H : Closed P) (h_ : Holds P s) (e_ : execHoldCapMeasure uF s = .next t_) : Holds P t_ := by
  simp only [execHoldCapMeasure, Host.Outcome.next.injEq] at e_; subst e_; repeat' (first | (simp +contextual (maxDischargeDepth := 60) [*]; done) | split | (dsimp only; split) | (simp +contextual (maxDischargeDepth := 60) [*]; split))
theorem execHoldOkChange_keeps (ok : Bool) (s : State) (t_ : State) (H : Closed P) (h_ : Holds P s) (e_ : execHoldOkChange ok s = .next t_) : Holds P t_ := by
  simp only [execHoldOkChange, Host.Outcome.next.injEq] at e_; subst e_; repeat' (first | (simp +contextual (maxDischargeDepth := 60) [*]; done) | split | (dsimp only; split) | (simp +contextual (maxDischargeDepth := 60) [*]; split))
@[simp] theorem State.writeSysReset_keeps (s : State) (v : Nat) (H : Closed P) (HA : ClosedAmber P) (HB : ClosedBoot P) (HR : ClosedReset P) (h_ : Holds P s) : Holds P (State.writeSysReset s v) := by
  unfold State.writeSysReset; repeat' (first | (simp +contextual (maxDischargeDepth := 60) [*]; done) | split | (dsimp only; split) | (simp +contextual (maxDischargeDepth := 60) [*]; split))
theorem execSysReset_keeps (key : BitVec 16) (s : State) (t_ : State) (H : Closed P) (HA : ClosedAmber P) (HB : ClosedBoot P) (HR : ClosedReset P) (h_ : Holds P s) (e_ : execSysReset key s = .next t_) : Holds P t_ := by
  simp only [execSysReset, Host.Outcome.next.injEq] at e_; subst e_; repeat' (first | (simp +contextual (maxDischargeDepth := 60) [*]; done) | split | (dsimp only; split) | (simp +contextual (maxDischargeDepth := 60) [*]; split))
theorem execSysResetSave_keeps (key : BitVec 16) (s : State) (t_ : State) (H : Closed P) (HA : ClosedAmber P) (HB : ClosedBoot P) (HR : ClosedReset P) (h_ : Holds P s) (e_ : execSysResetSave key s = .next t_) : Holds P t_ := by
  simp only [execSysResetSave, Host.Outcome.next.injEq] at e_; subst e_; repeat' (first | (simp +contextual (maxDischargeDepth := 60) [*]; done) | split | (dsimp only; split) | (simp +contextual (maxDischargeDepth := 60) [*]; split))
theorem State.latchRead_keeps (s : State) (q : Nat) (k : PageKind) (n o : Nat) (t : State) (H : Closed P) (h_ : Holds P s) (e : s.latchRead q k n o = some t) : Holds P t := by
  unfold State.latchRead at e
  repeat' split at e
  all_goals first | (simp only [Option.map_eq_some_iff] at e; obtain ⟨d, -, rfl⟩ := e; simp [*]; done) | cases e
@[simp] theorem State.readGranite_keeps (s : State) (q a : Nat) (H : Closed P) (h_ : Holds P s) : Holds P (s.readGranite q a).2 := by
  unfold State.readGranite; dsimp only
  repeat' split
  all_goals first | exact h_ | exact State.latchRead_keeps _ _ _ _ _ _ H h_ (by assumption)
@[simp] theorem State.refused_keeps (s : State) (q a : Nat) (write : Bool) (H : Closed P) (h_ : Holds P s) : Holds P (State.refused s q a write).st := by
  unfold State.refused; repeat' (first | (simp +contextual (maxDischargeDepth := 60) [*]; done) | split | (dsimp only; split) | (simp +contextual (maxDischargeDepth := 60) [*]; split))
@[simp] theorem State.readMem_keeps (s : State) (q a n : Nat) (H : Closed P) (h_ : Holds P s) : Holds P (State.readMem s q a n).st := by
  unfold State.readMem; repeat' (first | (simp +contextual (maxDischargeDepth := 60) [*]; done) | split | (dsimp only; split) | (simp +contextual (maxDischargeDepth := 60) [*]; split))
@[simp] theorem State.busRead_keeps (s : State) (q a n : Nat) (H : Closed P) (h_ : Holds P s) : Holds P (State.busRead s q a n).st := by
  unfold State.busRead; repeat' (first | (simp +contextual (maxDischargeDepth := 60) [*]; done) | split | (dsimp only; split) | (simp +contextual (maxDischargeDepth := 60) [*]; split))
@[simp] theorem State.softShadow_keeps (s : State) (k : PageKind) (p : Nat) (H : Closed P) (h_ : Holds P s) : Holds P (State.softShadow s k p) := by
  unfold State.softShadow; repeat' (first | (simp +contextual (maxDischargeDepth := 60) [*]; done) | split | (dsimp only; split) | (simp +contextual (maxDischargeDepth := 60) [*]; split))
@[simp] theorem State.keepWrap_keeps (s : State) (x : Fin 64) (H : Closed P) (h_ : Holds P s) : Holds P (State.keepWrap s x) := by
  unfold State.keepWrap; repeat' (first | (simp +contextual (maxDischargeDepth := 60) [*]; done) | split | (dsimp only; split) | (simp +contextual (maxDischargeDepth := 60) [*]; split))
@[simp] theorem State.writeSlate_keeps (s : State) (d : Nat) (k : PageKind) (n a v : Nat) (H : Closed P) (h_ : Holds P s) : Holds P (State.writeSlate s d k n a v) := by
  unfold State.writeSlate; repeat' (first | (simp +contextual (maxDischargeDepth := 60) [*]; done) | split | (dsimp only; split) | (simp +contextual (maxDischargeDepth := 60) [*]; split))
@[simp] theorem State.plain_keeps (s : State) (k : PageKind) (n o v : Nat) (H : Closed P) (h_ : Holds P s) : Holds P (State.plain s k n o v) := by
  unfold State.plain; repeat' (first | (simp +contextual (maxDischargeDepth := 60) [*]; done) | split | (dsimp only; split) | (simp +contextual (maxDischargeDepth := 60) [*]; split))
@[simp] theorem State.writeSys_keeps (s : State) (o v : Nat) (H : Closed P) (HA : ClosedAmber P) (HB : ClosedBoot P) (HR : ClosedReset P) (h_ : Holds P s) : Holds P (State.writeSys s o v) := by
  unfold State.writeSys; repeat' (first | (simp +contextual (maxDischargeDepth := 60) [*]; done) | split | (dsimp only; split) | (simp +contextual (maxDischargeDepth := 60) [*]; split))
@[simp] theorem State.writeClk_keeps (s : State) (o v : Nat) (H : Closed P) (h_ : Holds P s) : Holds P (State.writeClk s o v) := by
  unfold State.writeClk; repeat' (first | (simp +contextual (maxDischargeDepth := 60) [*]; done) | split | (dsimp only; split) | (simp +contextual (maxDischargeDepth := 60) [*]; split))
@[simp] theorem State.writeTime_keeps (s : State) (o v : Nat) (H : Closed P) (h_ : Holds P s) : Holds P (State.writeTime s o v) := by
  unfold State.writeTime; repeat' (first | (simp +contextual (maxDischargeDepth := 60) [*]; done) | split | (dsimp only; split) | (simp +contextual (maxDischargeDepth := 60) [*]; split))
@[simp] theorem State.writeFault_keeps (s : State) (o v : Nat) (H : Closed P) (h_ : Holds P s) : Holds P (State.writeFault s o v) := by
  unfold State.writeFault; repeat' (first | (simp +contextual (maxDischargeDepth := 60) [*]; done) | split | (dsimp only; split) | (simp +contextual (maxDischargeDepth := 60) [*]; split))
@[simp] theorem State.writeSnap_keeps (s : State) (o v : Nat) (H : Closed P) (h_ : Holds P s) : Holds P (State.writeSnap s o v) := by
  unfold State.writeSnap; repeat' (first | (simp +contextual (maxDischargeDepth := 60) [*]; done) | split | (dsimp only; split) | (simp +contextual (maxDischargeDepth := 60) [*]; split))
@[simp] theorem State.writeTrig_keeps (s : State) (o v : Nat) (H : Closed P) (h_ : Holds P s) : Holds P (State.writeTrig s o v) := by
  unfold State.writeTrig; repeat' (first | (simp +contextual (maxDischargeDepth := 60) [*]; done) | split | (dsimp only; split) | (simp +contextual (maxDischargeDepth := 60) [*]; split))
@[simp] theorem State.writeSafe_keeps (s : State) (q o v : Nat) (H : Closed P) (h_ : Holds P s) : Holds P (State.writeSafe s q o v) := by
  unfold State.writeSafe; repeat' (first | (simp +contextual (maxDischargeDepth := 60) [*]; done) | split | (dsimp only; split) | (simp +contextual (maxDischargeDepth := 60) [*]; split))
@[simp] theorem State.sendVec_keeps (s : State) (v : Nat) (H : Closed P) (h_ : Holds P s) : Holds P (State.sendVec s v) := by
  unfold State.sendVec; repeat' (first | (simp +contextual (maxDischargeDepth := 60) [*]; done) | split | (dsimp only; split) | (simp +contextual (maxDischargeDepth := 60) [*]; split))
@[simp] theorem State.sendPending_keeps (s : State) (H : Closed P) (h_ : Holds P s) : Holds P (State.sendPending s) := by
  unfold State.sendPending; repeat' (first | (simp +contextual (maxDischargeDepth := 60) [*]; done) | split | (dsimp only; split) | (simp +contextual (maxDischargeDepth := 60) [*]; split))
@[simp] theorem State.writeHost_keeps (s : State) (o v : Nat) (H : Closed P) (h_ : Holds P s) : Holds P (State.writeHost s o v) := by
  unfold State.writeHost; repeat' (first | (simp +contextual (maxDischargeDepth := 60) [*]; done) | split | (dsimp only; split) | (simp +contextual (maxDischargeDepth := 60) [*]; split))
@[simp] theorem State.writeLoop_keeps (s : State) (x : Fin 64) (o v : Nat) (H : Closed P) (HM : ClosedMem P) (h_ : Holds P s) : Holds P (State.writeLoop s x o v) := by
  unfold State.writeLoop; repeat' (first | (simp +contextual (maxDischargeDepth := 60) [*]; done) | split | (dsimp only; split) | (simp +contextual (maxDischargeDepth := 60) [*]; split))
@[simp] theorem State.writeLoopunit_keeps (s : State) (g o v : Nat) (H : Closed P) (h_ : Holds P s) : Holds P (State.writeLoopunit s g o v) := by
  unfold State.writeLoopunit; repeat' (first | (simp +contextual (maxDischargeDepth := 60) [*]; done) | split | (dsimp only; split) | (simp +contextual (maxDischargeDepth := 60) [*]; split))
@[simp] theorem State.writeProfile_keeps (s : State) (x : Fin 64) (o v : Nat) (H : Closed P) (h_ : Holds P s) : Holds P (State.writeProfile s x o v) := by
  unfold State.writeProfile; repeat' (first | (simp +contextual (maxDischargeDepth := 60) [*]; done) | split | (dsimp only; split) | (simp +contextual (maxDischargeDepth := 60) [*]; split))
@[simp] theorem State.writeLink_keeps (s : State) (i : Fin 8) (o v : Nat) (H : Closed P) (h_ : Holds P s) : Holds P (State.writeLink s i o v) := by
  unfold State.writeLink; repeat' (first | (simp +contextual (maxDischargeDepth := 60) [*]; done) | split | (dsimp only; split) | (simp +contextual (maxDischargeDepth := 60) [*]; split))
@[simp] theorem State.writeNet_keeps (s : State) (p : Fin 4) (o v : Nat) (H : Closed P) (HM : ClosedMem P) (h_ : Holds P s) : Holds P (State.writeNet s p o v) := by
  unfold State.writeNet; repeat' (first | (simp +contextual (maxDischargeDepth := 60) [*]; done) | split | (dsimp only; split) | (simp +contextual (maxDischargeDepth := 60) [*]; split))
@[simp] theorem State.writeSwitch_keeps (s : State) (o v : Nat) (H : Closed P) (h_ : Holds P s) : Holds P (State.writeSwitch s o v) := by
  unfold State.writeSwitch; repeat' (first | (simp +contextual (maxDischargeDepth := 60) [*]; done) | split | (dsimp only; split) | (simp +contextual (maxDischargeDepth := 60) [*]; split))
@[simp] theorem State.writeNetq_keeps (s : State) (d : Fin 8) (o v : Nat) (H : Closed P) (h_ : Holds P s) : Holds P (State.writeNetq s d o v) := by
  unfold State.writeNetq; repeat' (first | (simp +contextual (maxDischargeDepth := 60) [*]; done) | split | (dsimp only; split) | (simp +contextual (maxDischargeDepth := 60) [*]; split))
@[simp] theorem State.writeEngCtrl_keeps (s : State) (e : Fin 512) (v : Nat) (H : Closed P) (h_ : Holds P s) : Holds P (State.writeEngCtrl s e v) := by
  unfold State.writeEngCtrl; repeat' (first | (simp +contextual (maxDischargeDepth := 60) [*]; done) | split | (dsimp only; split) | (simp +contextual (maxDischargeDepth := 60) [*]; split))
@[simp] theorem State.writeEngine_keeps (s : State) (e : Fin 512) (o v : Nat) (H : Closed P) (h_ : Holds P s) : Holds P (State.writeEngine s e o v) := by
  unfold State.writeEngine; repeat' (first | (simp +contextual (maxDischargeDepth := 60) [*]; done) | split | (dsimp only; split) | (simp +contextual (maxDischargeDepth := 60) [*]; split))
@[simp] theorem State.writeTrackPage_keeps (s : State) (o v : Nat) (H : Closed P) (HM : ClosedMem P) (h_ : Holds P s) : Holds P (State.writeTrackPage s o v) := by
  unfold State.writeTrackPage; repeat' (first | (simp +contextual (maxDischargeDepth := 60) [*]; done) | split | (dsimp only; split) | (simp +contextual (maxDischargeDepth := 60) [*]; split))
@[simp] theorem State.writeTrc_keeps (s : State) (r : Fin 8) (o v : Nat) (H : Closed P) (HM : ClosedMem P) (h_ : Holds P s) : Holds P (State.writeTrc s r o v) := by
  unfold State.writeTrc; repeat' (first | (simp +contextual (maxDischargeDepth := 60) [*]; done) | split | (dsimp only; split) | (simp +contextual (maxDischargeDepth := 60) [*]; split))
@[simp] theorem State.writeTrunk_keeps (s : State) (k : Fin 8) (o v : Nat) (H : Closed P) (h_ : Holds P s) : Holds P (State.writeTrunk s k o v) := by
  unfold State.writeTrunk; repeat' (first | (simp +contextual (maxDischargeDepth := 60) [*]; done) | split | (dsimp only; split) | (simp +contextual (maxDischargeDepth := 60) [*]; split))
@[simp] theorem State.writeRgn_keeps (s : State) (d : Fin 8) (o v : Nat) (H : Closed P) (HM : ClosedMem P) (h_ : Holds P s) : Holds P (State.writeRgn s d o v) := by
  unfold State.writeRgn; repeat' (first | (simp +contextual (maxDischargeDepth := 60) [*]; done) | split | (dsimp only; split) | (simp +contextual (maxDischargeDepth := 60) [*]; split))
@[simp] theorem State.writeFsch_keeps (s : State) (i : Fin 8) (o v : Nat) (H : Closed P) (h_ : Holds P s) : Holds P (State.writeFsch s i o v) := by
  unfold State.writeFsch; repeat' (first | (simp +contextual (maxDischargeDepth := 60) [*]; done) | split | (dsimp only; split) | (simp +contextual (maxDischargeDepth := 60) [*]; split))
@[simp] theorem State.softReset_keeps (s : State) (k : PageKind) (n : Nat) (H : Closed P) (HM : ClosedMem P) (h_ : Holds P s) : Holds P (State.softReset s k n) := by
  unfold State.softReset; repeat' (first | (simp +contextual (maxDischargeDepth := 60) [*]; done) | split | (dsimp only; split) | (simp +contextual (maxDischargeDepth := 60) [*]; split))
@[simp] theorem State.writeBlock_keeps (s : State) (q : Nat) (k : PageKind) (n o v : Nat) (H : Closed P) (HM : ClosedMem P) (HA : ClosedAmber P) (HB : ClosedBoot P) (HR : ClosedReset P) (h_ : Holds P s) : Holds P (State.writeBlock s q k n o v) := by
  unfold State.writeBlock; repeat' (first | (simp +contextual (maxDischargeDepth := 60) [*]; done) | split | (dsimp only; split) | (simp +contextual (maxDischargeDepth := 60) [*]; split))
@[simp] theorem State.writeGranite_keeps (s : State) (q : Nat) (k : PageKind) (n o v : Nat) (H : Closed P) (HM : ClosedMem P) (HA : ClosedAmber P) (HB : ClosedBoot P) (HR : ClosedReset P) (h_ : Holds P s) :
    Holds P (s.writeGranite q k n o v) := by
  unfold State.writeGranite; dsimp only
  repeat' split
  all_goals first | exact h_ | (simp [*]; done) | exact State.assign_keeps _ _ _ _ _ _ H HM h_ (by assumption)
@[simp] theorem State.writeReg_keeps (s : State) (q a v : Nat) (H : Closed P) (HM : ClosedMem P) (HA : ClosedAmber P) (HB : ClosedBoot P) (HR : ClosedReset P) (h_ : Holds P s) : Holds P (State.writeReg s q a v) := by
  unfold State.writeReg; repeat' (first | (simp +contextual (maxDischargeDepth := 60) [*]; done) | split | (dsimp only; split) | (simp +contextual (maxDischargeDepth := 60) [*]; split))
@[simp] theorem State.busWrite_keeps (s : State) (q a n v : Nat) (H : Closed P) (HM : ClosedMem P) (HA : ClosedAmber P) (HB : ClosedBoot P) (HR : ClosedReset P) (h_ : Holds P s) : Holds P (State.busWrite s q a n v).st := by
  unfold State.busWrite; repeat' (first | (simp +contextual (maxDischargeDepth := 60) [*]; done) | split | (dsimp only; split) | (simp +contextual (maxDischargeDepth := 60) [*]; split))
theorem execRegisterWrite_keeps (q : Fin 514) (addr : BitVec 26) (v : Word) (s : State) (t_ : State) (H : Closed P) (HM : ClosedMem P) (HA : ClosedAmber P) (HB : ClosedBoot P) (HR : ClosedReset P) (h_ : Holds P s) (e_ : execRegisterWrite q addr v s = .next t_) : Holds P t_ := by
  simp only [execRegisterWrite, Host.Outcome.next.injEq] at e_; subst e_; repeat' (first | (simp +contextual (maxDischargeDepth := 60) [*]; done) | split | (dsimp only; split) | (simp +contextual (maxDischargeDepth := 60) [*]; split))
theorem execSlateRegWrite_keeps (q : Fin 514) (addr : BitVec 26) (v : Word) (s : State) (t_ : State) (H : Closed P) (HM : ClosedMem P) (HA : ClosedAmber P) (HB : ClosedBoot P) (HR : ClosedReset P) (h_ : Holds P s) (e_ : execSlateRegWrite q addr v s = .next t_) : Holds P t_ := by
  simp only [execSlateRegWrite, Host.Outcome.next.injEq] at e_; subst e_; repeat' (first | (simp +contextual (maxDischargeDepth := 60) [*]; done) | split | (dsimp only; split) | (simp +contextual (maxDischargeDepth := 60) [*]; split))
@[simp] theorem Done.answer_keeps (r : Done) (q a : Nat) (H : Closed P) (h_ : Holds P r.st) : Holds P (r.answer q a) := by
  unfold Done.answer; repeat' split
  all_goals simp [*]
theorem execSlateRegRead_keeps (q : Fin 514) (addr : BitVec 26) (s : State) (t_ : State) (H : Closed P) (h_ : Holds P s) (e_ : execSlateRegRead q addr s = .next t_) : Holds P t_ := by
  simp only [execSlateRegRead, Host.Outcome.next.injEq] at e_; subst e_; repeat' (first | (simp +contextual (maxDischargeDepth := 60) [*]; done) | split | (dsimp only; split) | (simp +contextual (maxDischargeDepth := 60) [*]; split))
theorem execSoftReset_keeps (q : Fin 514) (addr : BitVec 26) (snap : Bool) (s : State) (t_ : State) (H : Closed P) (HM : ClosedMem P) (HA : ClosedAmber P) (HB : ClosedBoot P) (HR : ClosedReset P) (h_ : Holds P s) (e_ : execSoftReset q addr snap s = .next t_) : Holds P t_ := by
  simp only [execSoftReset, Host.Outcome.next.injEq] at e_; subst e_; repeat' (first | (simp +contextual (maxDischargeDepth := 60) [*]; done) | split | (dsimp only; split) | (simp +contextual (maxDischargeDepth := 60) [*]; split))
theorem execPageErrClear_keeps (q : Fin 514) (addr : BitVec 26) (v : Word) (s : State) (t_ : State) (H : Closed P) (HM : ClosedMem P) (HA : ClosedAmber P) (HB : ClosedBoot P) (HR : ClosedReset P) (h_ : Holds P s) (e_ : execPageErrClear q addr v s = .next t_) : Holds P t_ := by
  simp only [execPageErrClear, Host.Outcome.next.injEq] at e_; subst e_; repeat' (first | (simp +contextual (maxDischargeDepth := 60) [*]; done) | split | (dsimp only; split) | (simp +contextual (maxDischargeDepth := 60) [*]; split))
theorem execCounterClear_keeps (q : Fin 514) (addr : BitVec 26) (s : State) (t_ : State) (H : Closed P) (HM : ClosedMem P) (HA : ClosedAmber P) (HB : ClosedBoot P) (HR : ClosedReset P) (h_ : Holds P s) (e_ : execCounterClear q addr s = .next t_) : Holds P t_ := by
  simp only [execCounterClear, Host.Outcome.next.injEq] at e_; subst e_; repeat' (first | (simp +contextual (maxDischargeDepth := 60) [*]; done) | split | (dsimp only; split) | (simp +contextual (maxDischargeDepth := 60) [*]; split))
theorem execFabricReadComplete_keeps (e : Fin 512) (s : State) (t_ : State) (H : Closed P) (h_ : Holds P s) (e_ : execFabricReadComplete e s = .next t_) : Holds P t_ := by
  simp only [execFabricReadComplete, Host.Outcome.next.injEq] at e_; subst e_; repeat' (first | (simp +contextual (maxDischargeDepth := 60) [*]; done) | split | (dsimp only; split) | (simp +contextual (maxDischargeDepth := 60) [*]; split))
@[simp] theorem State.postedDone_keeps (s : State) (e : Fin 512) (fabric : Bool) (H : Closed P) (HM : ClosedMem P) (HA : ClosedAmber P) (HB : ClosedBoot P) (HR : ClosedReset P) (h_ : Holds P s) : Holds P (State.postedDone s e fabric) := by
  unfold State.postedDone; repeat' (first | (simp +contextual (maxDischargeDepth := 60) [*]; done) | split | (dsimp only; split) | (simp +contextual (maxDischargeDepth := 60) [*]; split))
theorem execPostedWriteComplete_keeps (e : Fin 512) (fabric : Bool) (s : State) (t_ : State) (H : Closed P) (HM : ClosedMem P) (HA : ClosedAmber P) (HB : ClosedBoot P) (HR : ClosedReset P) (h_ : Holds P s) (e_ : execPostedWriteComplete e fabric s = .next t_) : Holds P t_ := by
  simp only [execPostedWriteComplete, Host.Outcome.next.injEq] at e_; subst e_; repeat' (first | (simp +contextual (maxDischargeDepth := 60) [*]; done) | split | (dsimp only; split) | (simp +contextual (maxDischargeDepth := 60) [*]; split))
@[simp] theorem State.hostErr_keeps (s : State) (bit a : Nat) (write : Bool) (H : Closed P) (h_ : Holds P s) : Holds P (State.hostErr s bit a write) := by
  unfold State.hostErr; repeat' (first | (simp +contextual (maxDischargeDepth := 60) [*]; done) | split | (dsimp only; split) | (simp +contextual (maxDischargeDepth := 60) [*]; split))
@[simp] theorem State.hostPiece_keeps (s : State) (a : Nat) (w : Bool) (f : State → Done) (H : Closed P) (h_ : Holds P s) (hf : ∀ t, Holds P t → Holds P (f t).st) : Holds P (s.hostPiece a w f).st := by
  unfold State.hostPiece; split <;> simp [*]
@[simp] theorem State.hostTlpWrite_keeps (s : State) (a : Nat) (data : List Byte) (H : Closed P) (HM : ClosedMem P) (HA : ClosedAmber P) (HB : ClosedBoot P) (HR : ClosedReset P) (h_ : Holds P s) : Holds P (State.hostTlpWrite s a data) := by
  unfold State.hostTlpWrite; repeat' (first | (simp +contextual (maxDischargeDepth := 60) [*]; done) | split | (dsimp only; split) | (simp +contextual (maxDischargeDepth := 60) [*]; split))
theorem execHostWrite_keeps (addr : BitVec 26) (data : List Byte) (s : State) (t_ : State) (H : Closed P) (HM : ClosedMem P) (HA : ClosedAmber P) (HB : ClosedBoot P) (HR : ClosedReset P) (h_ : Holds P s) (e_ : execHostWrite addr data s = .next t_) : Holds P t_ := by
  simp only [execHostWrite, Host.Outcome.next.injEq] at e_; subst e_; repeat' (first | (simp +contextual (maxDischargeDepth := 60) [*]; done) | split | (dsimp only; split) | (simp +contextual (maxDischargeDepth := 60) [*]; split))
@[simp] theorem State.hostPieces_keeps (s : State) (l : List (Nat × Nat × Nat)) (H : Closed P) (h_ : Holds P s) : Holds P (s.hostPieces l).2 := by
  induction l generalizing s with
  | nil => exact h_
  | cons x l ih => unfold State.hostPieces; exact ih _ (State.hostPiece_keeps _ _ _ _ H h_ fun t ht => State.busRead_keeps _ _ _ _ H ht)
@[simp] theorem State.hostTlpRead_keeps (s : State) (a n : Nat) (H : Closed P) (h_ : Holds P s) : Holds P (State.hostTlpRead s a n) := by
  unfold State.hostTlpRead; repeat' (first | (simp +contextual (maxDischargeDepth := 60) [*]; done) | split | (dsimp only; split) | (simp +contextual (maxDischargeDepth := 60) [*]; split))
theorem execHostRead_keeps (addr : BitVec 26) (n : Fin 513) (s : State) (t_ : State) (H : Closed P) (h_ : Holds P s) (e_ : execHostRead addr n s = .next t_) : Holds P t_ := by
  simp only [execHostRead, Host.Outcome.next.injEq] at e_; subst e_; repeat' (first | (simp +contextual (maxDischargeDepth := 60) [*]; done) | split | (dsimp only; split) | (simp +contextual (maxDischargeDepth := 60) [*]; split))
theorem execHostUnsupported_keeps (s : State) (t_ : State) (H : Closed P) (h_ : Holds P s) (e_ : execHostUnsupported s = .next t_) : Holds P t_ := by
  simp only [execHostUnsupported, Host.Outcome.next.injEq] at e_; subst e_; repeat' (first | (simp +contextual (maxDischargeDepth := 60) [*]; done) | split | (dsimp only; split) | (simp +contextual (maxDischargeDepth := 60) [*]; split))
@[simp] theorem State.abandonReads_keeps (s : State) (H : Closed P) (h_ : Holds P s) : Holds P (State.abandonReads s) := by
  unfold State.abandonReads; repeat' (first | (simp +contextual (maxDischargeDepth := 60) [*]; done) | split | (dsimp only; split) | (simp +contextual (maxDischargeDepth := 60) [*]; split))
@[simp] theorem State.clearMsix_keeps (s : State) (H : Closed P) (h_ : Holds P s) : Holds P (State.clearMsix s) := by
  unfold State.clearMsix; repeat' (first | (simp +contextual (maxDischargeDepth := 60) [*]; done) | split | (dsimp only; split) | (simp +contextual (maxDischargeDepth := 60) [*]; split))
@[simp] theorem State.hostReset_keeps (s : State) (H : Closed P) (HA : ClosedAmber P) (HB : ClosedBoot P) (h_ : Holds P s) : Holds P (State.hostReset s) := by
  unfold State.hostReset; repeat' (first | (simp +contextual (maxDischargeDepth := 60) [*]; done) | split | (dsimp only; split) | (simp +contextual (maxDischargeDepth := 60) [*]; split))
@[simp] theorem State.hostLinkDown_keeps (s : State) (H : Closed P) (HA : ClosedAmber P) (HB : ClosedBoot P) (h_ : Holds P s) : Holds P (State.hostLinkDown s) := by
  unfold State.hostLinkDown; repeat' (first | (simp +contextual (maxDischargeDepth := 60) [*]; done) | split | (dsimp only; split) | (simp +contextual (maxDischargeDepth := 60) [*]; split))
theorem execFlr_keeps (s : State) (t_ : State) (H : Closed P) (HA : ClosedAmber P) (HB : ClosedBoot P) (h_ : Holds P s) (e_ : execFlr s = .next t_) : Holds P t_ := by
  simp only [execFlr, Host.Outcome.next.injEq] at e_; subst e_; repeat' (first | (simp +contextual (maxDischargeDepth := 60) [*]; done) | split | (dsimp only; split) | (simp +contextual (maxDischargeDepth := 60) [*]; split))
theorem execPerst_keeps (s : State) (t_ : State) (H : Closed P) (HA : ClosedAmber P) (HB : ClosedBoot P) (h_ : Holds P s) (e_ : execPerst s = .next t_) : Holds P t_ := by
  simp only [execPerst, Host.Outcome.next.injEq] at e_; subst e_; repeat' (first | (simp +contextual (maxDischargeDepth := 60) [*]; done) | split | (dsimp only; split) | (simp +contextual (maxDischargeDepth := 60) [*]; split))
theorem execPcieLinkDown_keeps (s : State) (t_ : State) (H : Closed P) (HA : ClosedAmber P) (HB : ClosedBoot P) (h_ : Holds P s) (e_ : execPcieLinkDown s = .next t_) : Holds P t_ := by
  simp only [execPcieLinkDown, Host.Outcome.next.injEq] at e_; subst e_; repeat' (first | (simp +contextual (maxDischargeDepth := 60) [*]; done) | split | (dsimp only; split) | (simp +contextual (maxDischargeDepth := 60) [*]; split))
theorem execPcieLinkUp_keeps (gen : Fin 3) (x2 : Bool) (s : State) (t_ : State) (H : Closed P) (h_ : Holds P s) (e_ : execPcieLinkUp gen x2 s = .next t_) : Holds P t_ := by
  simp only [execPcieLinkUp, Host.Outcome.next.injEq] at e_; subst e_; repeat' (first | (simp +contextual (maxDischargeDepth := 60) [*]; done) | split | (dsimp only; split) | (simp +contextual (maxDischargeDepth := 60) [*]; split))
theorem execPcieConfigWrite_keeps (bme msix fmask : Bool) (s : State) (t_ : State) (H : Closed P) (h_ : Holds P s) (e_ : execPcieConfigWrite bme msix fmask s = .next t_) : Holds P t_ := by
  simp only [execPcieConfigWrite, Host.Outcome.next.injEq] at e_; subst e_; repeat' (first | (simp +contextual (maxDischargeDepth := 60) [*]; done) | split | (dsimp only; split) | (simp +contextual (maxDischargeDepth := 60) [*]; split))
theorem execMsixUnmask_keeps (v : Fin 64) (s : State) (t_ : State) (H : Closed P) (HM : ClosedMem P) (HA : ClosedAmber P) (HB : ClosedBoot P) (HR : ClosedReset P) (h_ : Holds P s) (e_ : execMsixUnmask v s = .next t_) : Holds P t_ := by
  simp only [execMsixUnmask, Host.Outcome.next.injEq] at e_; subst e_; repeat' (first | (simp +contextual (maxDischargeDepth := 60) [*]; done) | split | (dsimp only; split) | (simp +contextual (maxDischargeDepth := 60) [*]; split))
@[simp] theorem State.dmaFail_keeps (s : State) (y0 : DmaRead) (H : Closed P) (HM : ClosedMem P) (HA : ClosedAmber P) (HB : ClosedBoot P) (h_ : Holds P s) : Holds P (State.dmaFail s y0) := by
  cases y0 <;> simp only [State.dmaFail] <;> repeat' (first | (simp +contextual (maxDischargeDepth := 60) [*]; done) | split | (dsimp only; split) | (simp +contextual (maxDischargeDepth := 60) [*]; split))
theorem execDmaTmo_keeps (r : DmaRead) (s : State) (t_ : State) (H : Closed P) (HM : ClosedMem P) (HA : ClosedAmber P) (HB : ClosedBoot P) (h_ : Holds P s) (e_ : execDmaTmo r s = .next t_) : Holds P t_ := by
  simp only [execDmaTmo, Host.Outcome.next.injEq] at e_; subst e_; repeat' (first | (simp +contextual (maxDischargeDepth := 60) [*]; done) | split | (dsimp only; split) | (simp +contextual (maxDischargeDepth := 60) [*]; split))
@[simp] theorem State.setMgmt_keeps (s : State) (f : MgmtState → MgmtState) (H : Closed P) (h : Holds P s) : Holds P (s.setMgmt f) := H.setMgmt s f h
@[simp] theorem State.mgmtReject_keeps (s : State) (f : Fld) (H : Closed P) (h_ : Holds P s) : Holds P (State.mgmtReject s f) := by
  unfold State.mgmtReject; repeat' (first | (simp +contextual (maxDischargeDepth := 60) [*]; done) | split | (dsimp only; split) | (simp +contextual (maxDischargeDepth := 60) [*]; split))
@[simp] theorem State.mgmtSend_keeps (s : State) (f : MgmtFrame) (payload : List Byte) (H : Closed P) (h_ : Holds P s) : Holds P (State.mgmtSend s f payload) := by
  unfold State.mgmtSend; repeat' (first | (simp +contextual (maxDischargeDepth := 60) [*]; done) | split | (dsimp only; split) | (simp +contextual (maxDischargeDepth := 60) [*]; split))
@[simp] theorem State.mgmtStatus_keeps (s : State) (f : MgmtFrame) (H : Closed P) (h_ : Holds P s) : Holds P (State.mgmtStatus s f) := by
  unfold State.mgmtStatus; repeat' (first | (simp +contextual (maxDischargeDepth := 60) [*]; done) | split | (dsimp only; split) | (simp +contextual (maxDischargeDepth := 60) [*]; split))
@[simp] theorem State.mgmtEnd_keeps (s : State) (j : MgmtJob) (status : Nat) (H : Closed P) (h_ : Holds P s) : Holds P (State.mgmtEnd s j status) := by
  unfold State.mgmtEnd; repeat' (first | (simp +contextual (maxDischargeDepth := 60) [*]; done) | split | (dsimp only; split) | (simp +contextual (maxDischargeDepth := 60) [*]; split))
@[simp] theorem State.mgmtStart_keeps (s : State) (f : MgmtFrame) (H : Closed P) (h_ : Holds P s) : Holds P (State.mgmtStart s f) := by
  unfold State.mgmtStart; repeat' (first | (simp +contextual (maxDischargeDepth := 60) [*]; done) | split | (dsimp only; split) | (simp +contextual (maxDischargeDepth := 60) [*]; split))
@[simp] theorem State.mgmtWord_keeps (s : State) (j : MgmtJob) (H : Closed P) (HM : ClosedMem P) (HA : ClosedAmber P) (HB : ClosedBoot P) (HR : ClosedReset P) (h_ : Holds P s) : Holds P (State.mgmtWord s j) := by
  unfold State.mgmtWord; repeat' (first | (simp +contextual (maxDischargeDepth := 60) [*]; done) | split | (dsimp only; split) | (simp +contextual (maxDischargeDepth := 60) [*]; split))
@[simp] theorem State.mgmtRun_keeps (s : State) (y0 : Nat) (H : Closed P) (HM : ClosedMem P) (HA : ClosedAmber P) (HB : ClosedBoot P) (HR : ClosedReset P) (h_ : Holds P s) : Holds P (State.mgmtRun s y0) := by
  fun_induction State.mgmtRun s y0 <;> (first | (simp_all; done) | (repeat' (first | (simp_all; done) | split)))
@[simp] theorem State.mgmtTake_keeps (s : State) (f : MgmtFrame) (H : Closed P) (HM : ClosedMem P) (HA : ClosedAmber P) (HB : ClosedBoot P) (HR : ClosedReset P) (h_ : Holds P s) : Holds P (State.mgmtTake s f) := by
  unfold State.mgmtTake; repeat' (first | (simp +contextual (maxDischargeDepth := 60) [*]; done) | split | (dsimp only; split) | (simp +contextual (maxDischargeDepth := 60) [*]; split))
theorem execMgmtRead_keeps (p : Fin 4) (src : BitVec 48) (body : List Byte) (tagOk : Bool) (tag : BitVec 128) (s : State) (t_ : State) (H : Closed P) (HM : ClosedMem P) (HA : ClosedAmber P) (HB : ClosedBoot P) (HR : ClosedReset P) (h_ : Holds P s) (e_ : execMgmtRead p src body tagOk tag s = .next t_) : Holds P t_ := by
  simp only [execMgmtRead, Host.Outcome.next.injEq] at e_; subst e_; repeat' (first | (simp +contextual (maxDischargeDepth := 60) [*]; done) | split | (dsimp only; split) | (simp +contextual (maxDischargeDepth := 60) [*]; split))
theorem execMgmtWrite_keeps (p : Fin 4) (src : BitVec 48) (body : List Byte) (tagOk : Bool) (tag : BitVec 128) (s : State) (t_ : State) (H : Closed P) (HM : ClosedMem P) (HA : ClosedAmber P) (HB : ClosedBoot P) (HR : ClosedReset P) (h_ : Holds P s) (e_ : execMgmtWrite p src body tagOk tag s = .next t_) : Holds P t_ := by
  simp only [execMgmtWrite, Host.Outcome.next.injEq] at e_; subst e_; repeat' (first | (simp +contextual (maxDischargeDepth := 60) [*]; done) | split | (dsimp only; split) | (simp +contextual (maxDischargeDepth := 60) [*]; split))
theorem execMgmtStatus_keeps (p : Fin 4) (src : BitVec 48) (body : List Byte) (tagOk : Bool) (tag : BitVec 128) (s : State) (t_ : State) (H : Closed P) (HM : ClosedMem P) (HA : ClosedAmber P) (HB : ClosedBoot P) (HR : ClosedReset P) (h_ : Holds P s) (e_ : execMgmtStatus p src body tagOk tag s = .next t_) : Holds P t_ := by
  simp only [execMgmtStatus, Host.Outcome.next.injEq] at e_; subst e_; repeat' (first | (simp +contextual (maxDischargeDepth := 60) [*]; done) | split | (dsimp only; split) | (simp +contextual (maxDischargeDepth := 60) [*]; split))
@[simp] theorem State.idle_keeps (s : State) (H : Closed P) (HM : ClosedMem P) (HA : ClosedAmber P) (HB : ClosedBoot P) (HR : ClosedReset P) (h_ : Holds P s) : Holds P (State.idle s) := by
  unfold State.idle; repeat' (first | (simp +contextual (maxDischargeDepth := 60) [*]; done) | split | (dsimp only; split) | (simp +contextual (maxDischargeDepth := 60) [*]; split))
@[simp] theorem State.enterStage_keeps (s : State) (st timeReg : Nat) (H : Closed P) (h_ : Holds P s) : Holds P (State.enterStage s st timeReg) := by
  unfold State.enterStage; repeat' (first | (simp +contextual (maxDischargeDepth := 60) [*]; done) | split | (dsimp only; split) | (simp +contextual (maxDischargeDepth := 60) [*]; split))
theorem execEnterSafeHold_keeps (s : State) (t_ : State) (H : Closed P) (h_ : Holds P s) (e_ : execEnterSafeHold s = .next t_) : Holds P t_ := by
  simp only [execEnterSafeHold, Host.Outcome.next.injEq] at e_; subst e_; repeat' (first | (simp +contextual (maxDischargeDepth := 60) [*]; done) | split | (dsimp only; split) | (simp +contextual (maxDischargeDepth := 60) [*]; split))
@[simp] theorem State.readBoot_keeps (s : State) (H : Closed P) (HB : ClosedBoot P) (h_ : Holds P s) : Holds P s.readBoot := by
  unfold State.readBoot; dsimp only
  split
  · exact h_
  · refine State.errIf_keeps _ _ _ _ H (State.when_keeps _ _ _ (State.setb_keeps _ _ _ _ H ?_) fun t ht => by simp [*])
    exact State.bootSame_keeps _ _ HB h_ (AmberState.writeRecord_keeps _ _)
@[simp] theorem State.badBlock_keeps (s : State) (a b : Bool) (H : Closed P) (HB : ClosedBoot P) (HR : ClosedReset P) (h_ : Holds P s) : Holds P (s.badBlock a b) := by
  unfold State.badBlock; dsimp only
  have hm : Holds P (s.setBoot fun b => b.markBad a) := State.bootSame_keeps _ _ HB h_ (AmberState.writeRecord_keeps _ _)
  repeat' (first | (simp +contextual (maxDischargeDepth := 60) [*]; done) | split)
@[simp] theorem State.selectSlot_keeps (s : State) (a b : ImageCheck) (H : Closed P) (HM : ClosedMem P) (HB : ClosedBoot P) (HR : ClosedReset P) (h_ : Holds P s) : Holds P (s.selectSlot a b) := by
  unfold State.selectSlot; dsimp only
  split
  · exact State.bootSame_keeps _ _ HB h_ ⟨rfl, rfl, rfl⟩
  · rename_i x _
    have hm : Holds P (s.setBoot fun b => { b with booted := some x, wait := false, want := none }) := State.bootSame_keeps _ _ HB h_ ⟨rfl, rfl, rfl⟩
    repeat' (first | (simp +contextual (maxDischargeDepth := 60) [*]; done) | split)
@[simp] theorem State.earlyWrites_keeps (s : State) (l : List Byte) (H : Closed P) (HM : ClosedMem P) (HA : ClosedAmber P) (HB : ClosedBoot P) (HR : ClosedReset P) (h_ : Holds P s) : Holds P (State.earlyWrites s l) := by
  unfold State.earlyWrites; repeat' (first | (simp +contextual (maxDischargeDepth := 60) [*]; done) | split | (dsimp only; split) | (simp +contextual (maxDischargeDepth := 60) [*]; split))
@[simp] theorem State.axisRecord_keeps (s : State) (r : List Byte) (H : Closed P) (HM : ClosedMem P) (h_ : Holds P s) : Holds P (State.axisRecord s r) := by
  unfold State.axisRecord; repeat' (first | (simp +contextual (maxDischargeDepth := 60) [*]; done) | split | (dsimp only; split) | (simp +contextual (maxDischargeDepth := 60) [*]; split))
@[simp] theorem State.loadMem_keeps (s : State) (a : Nat) (l : List Byte) (off n : Nat) (H : Closed P) (HM : ClosedMem P) (h_ : Holds P s) : Holds P (State.loadMem s a l off n) := by
  unfold State.loadMem; repeat' (first | (simp +contextual (maxDischargeDepth := 60) [*]; done) | split | (dsimp only; split) | (simp +contextual (maxDischargeDepth := 60) [*]; split))
@[simp] theorem State.engRecord_keeps (s : State) (l r : List Byte) (H : Closed P) (HM : ClosedMem P) (h_ : Holds P s) : Holds P (State.engRecord s l r) := by
  unfold State.engRecord; repeat' (first | (simp +contextual (maxDischargeDepth := 60) [*]; done) | split | (dsimp only; split) | (simp +contextual (maxDischargeDepth := 60) [*]; split))
@[simp] theorem State.applyBasic_keeps (s : State) (l : List Byte) (H : Closed P) (HM : ClosedMem P) (HA : ClosedAmber P) (HB : ClosedBoot P) (HR : ClosedReset P) (h_ : Holds P s) : Holds P (State.applyBasic s l) := by
  unfold State.applyBasic; repeat' (first | (simp +contextual (maxDischargeDepth := 60) [*]; done) | split | (dsimp only; split) | (simp +contextual (maxDischargeDepth := 60) [*]; split))
theorem execEnterBasic_keeps (a b : ImageCheck) (s : State) (t_ : State) (H : Closed P) (HM : ClosedMem P) (HA : ClosedAmber P) (HB : ClosedBoot P) (HR : ClosedReset P) (h_ : Holds P s) (e_ : execEnterBasic a b s = .next t_) : Holds P t_ := by
  simp only [execEnterBasic, Host.Outcome.next.injEq] at e_; subst e_; repeat' (first | (simp +contextual (maxDischargeDepth := 60) [*]; done) | split | (dsimp only; split) | (simp +contextual (maxDischargeDepth := 60) [*]; split))
@[simp] theorem State.applyConfig_keeps (s : State) (l : List Byte) (H : Closed P) (HM : ClosedMem P) (HA : ClosedAmber P) (HB : ClosedBoot P) (HR : ClosedReset P) (h_ : Holds P s) : Holds P (State.applyConfig s l) := by
  unfold State.applyConfig; repeat' (first | (simp +contextual (maxDischargeDepth := 60) [*]; done) | split | (dsimp only; split) | (simp +contextual (maxDischargeDepth := 60) [*]; split))
@[simp] theorem State.loadByte_keeps (s : State) (d a : Nat) (b : Byte) (H : Closed P) (HM : ClosedMem P) (h_ : Holds P s) : Holds P (State.loadByte s d a b) := by
  unfold State.loadByte; repeat' (first | (simp +contextual (maxDischargeDepth := 60) [*]; done) | split | (dsimp only; split) | (simp +contextual (maxDischargeDepth := 60) [*]; split))
@[simp] theorem State.loadBytes_keeps (s : State) (d a : Nat) (y0 : List Byte) (H : Closed P) (HM : ClosedMem P) (h_ : Holds P s) : Holds P (State.loadBytes s d a y0) := by
  fun_induction State.loadBytes s d a y0 <;> (first | (simp_all; done) | (repeat' (first | (simp_all; done) | split)))
@[simp] theorem State.applyLoad_keeps (s : State) (d : Nat) (l : List Byte) (y0 : Nat) (H : Closed P) (HM : ClosedMem P) (h_ : Holds P s) : Holds P (State.applyLoad s d l y0) := by
  fun_induction State.applyLoad s d l y0 <;> (first | (simp_all; done) | (repeat' (first | (simp_all; done) | split)))
@[simp] theorem State.applyBlock_keeps (s : State) (slot : Bool) (b : Block) (H : Closed P) (HM : ClosedMem P) (HA : ClosedAmber P) (HB : ClosedBoot P) (HR : ClosedReset P) (h_ : Holds P s) : Holds P (State.applyBlock s slot b) := by
  unfold State.applyBlock; repeat' (first | (simp +contextual (maxDischargeDepth := 60) [*]; done) | split | (dsimp only; split) | (simp +contextual (maxDischargeDepth := 60) [*]; split))
@[simp] theorem State.applyBlocks_keeps (s : State) (slot : Bool) (x : ImageCheck) (other : Bool) (y0 : List (Nat × Block)) (H : Closed P) (HM : ClosedMem P) (HA : ClosedAmber P) (HB : ClosedBoot P) (HR : ClosedReset P) (h_ : Holds P s) : Holds P (State.applyBlocks s slot x other y0) := by
  fun_induction State.applyBlocks s slot x other y0 <;> (first | (simp_all; done) | (repeat' (first | (simp_all; done) | split)))
theorem execImageLoad_keeps (x other : ImageCheck) (s : State) (t_ : State) (H : Closed P) (HM : ClosedMem P) (HA : ClosedAmber P) (HB : ClosedBoot P) (HR : ClosedReset P) (h_ : Holds P s) (e_ : execImageLoad x other s = .next t_) : Holds P t_ := by
  simp only [execImageLoad, Host.Outcome.next.injEq] at e_; subst e_; repeat' (first | (simp +contextual (maxDischargeDepth := 60) [*]; done) | split | (dsimp only; split) | (simp +contextual (maxDischargeDepth := 60) [*]; split))
@[simp] theorem State.restoreTable_keeps (s : State)  (HM : ClosedMem P) (h : Holds P s) : Holds P (s.restoreTable ) := HM.restoreTable s  h
@[simp] theorem State.restoreTrunk_keeps (s : State) (k : Fin 8) (H : Closed P) (h_ : Holds P s) : Holds P (State.restoreTrunk s k) := by
  unfold State.restoreTrunk; repeat' (first | (simp +contextual (maxDischargeDepth := 60) [*]; done) | split | (dsimp only; split) | (simp +contextual (maxDischargeDepth := 60) [*]; split))
@[simp] theorem State.restoreTooth_keeps (s : State) (t : Fin 16) (H : Closed P) (h_ : Holds P s) : Holds P (State.restoreTooth s t) := by
  unfold State.restoreTooth; repeat' (first | (simp +contextual (maxDischargeDepth := 60) [*]; done) | split | (dsimp only; split) | (simp +contextual (maxDischargeDepth := 60) [*]; split))
@[simp] theorem State.restoreAxis_keeps (s : State) (a : Fin 64) (H : Closed P) (h_ : Holds P s) : Holds P (State.restoreAxis s a) := by
  unfold State.restoreAxis; repeat' (first | (simp +contextual (maxDischargeDepth := 60) [*]; done) | split | (dsimp only; split) | (simp +contextual (maxDischargeDepth := 60) [*]; split))
@[simp] theorem State.restore_keeps (s : State) (us : Nat) (H : Closed P) (HM : ClosedMem P) (HA : ClosedAmber P) (h_ : Holds P s) : Holds P (State.restore s us) := by
  unfold State.restore; repeat' (first | (simp +contextual (maxDischargeDepth := 60) [*]; done) | split | (dsimp only; split) | (simp +contextual (maxDischargeDepth := 60) [*]; split))
theorem execRestore_keeps (us : BitVec 16) (s : State) (t_ : State) (H : Closed P) (HM : ClosedMem P) (HA : ClosedAmber P) (h_ : Holds P s) (e_ : execRestore us s = .next t_) : Holds P t_ := by
  simp only [execRestore, Host.Outcome.next.injEq] at e_; subst e_; repeat' (first | (simp +contextual (maxDischargeDepth := 60) [*]; done) | split | (dsimp only; split) | (simp +contextual (maxDischargeDepth := 60) [*]; split))
theorem execEnterFull_keeps (s : State) (t_ : State) (H : Closed P) (h_ : Holds P s) (e_ : execEnterFull s = .next t_) : Holds P t_ := by
  simp only [execEnterFull, Host.Outcome.next.injEq] at e_; subst e_; repeat' (first | (simp +contextual (maxDischargeDepth := 60) [*]; done) | split | (dsimp only; split) | (simp +contextual (maxDischargeDepth := 60) [*]; split))

end Sys2Proof.Machine
end

