-- ==== Sys2Proof/Laws/Exec.lean ====
section
/-! SUPPORT. What a command keeps, over all commands, and what a step keeps. -/
namespace Sys2Proof.Machine
open Sys2Proof

variable {P : State → Prop}

/-- Every command keeps what the machine's named setters keep. -/
theorem exec_keeps (H : Closed P) (HM : ClosedMem P) (HA : ClosedAmber P) (HB : ClosedBoot P) (HR : ClosedReset P) (c : Instr) (s_ t_ : State)
    (h_ : Holds P s_) (e_ : exec c s_ = .next t_) : Holds P t_ := by
  cases c with
  | samplingInstant a edge => exact execSamplingInstant_keeps _ _ s_ t_ H h_ e_
  | conversionComplete a iu iv iw vbus => exact execConversionComplete_keeps _ _ _ _ _ s_ t_ H h_ e_
  | downstreamFrame sl rx => exact execDownstreamFrame_keeps _ _ s_ t_ H h_ e_
  | upstreamFrame sl rx => exact execUpstreamFrame_keeps _ _ s_ t_ H h_ e_
  | downstreamFrameSend sl => exact execDownstreamFrameSend_keeps _ s_ t_ H h_ e_
  | upstreamFrameSend sl => exact execUpstreamFrameSend_keeps _ s_ t_ H h_ e_
  | evaluationStart a => exact execEvaluationStart_keeps _ s_ t_ H HM h_ e_
  | updateInstant a => exact execUpdateInstant_keeps _ s_ t_ H h_ e_
  | enterSafeHold => exact execEnterSafeHold_keeps s_ t_ H h_ e_
  | enterBasic a b => exact execEnterBasic_keeps _ _ s_ t_ H HM HA HB HR h_ e_
  | enterFull => exact execEnterFull_keeps s_ t_ H h_ e_
  | refSel v => exact execRefSel_keeps _ s_ t_ H h_ e_
  | refclkLoss cab => exact execRefclkLoss_keeps _ s_ t_ H h_ e_
  | holdoverExpiry => exact execHoldoverExpiry_keeps s_ t_ H HR h_ e_
  | altDevMeasure ppm => exact execAltDevMeasure_keeps _ s_ t_ H h_ e_
  | timeTickLo q => exact execTimeTickLo_keeps _ s_ t_ H h_ e_
  | timeSubns q => exact execTimeSubns_keeps _ s_ t_ H h_ e_
  | timeCmtGo v => exact execTimeCmtGo_keeps _ s_ t_ H h_ e_
  | timeStageWrite r v => exact execTimeStageWrite_keeps _ _ s_ t_ H h_ e_
  | commitTakeEffect => exact execCommitTakeEffect_keeps s_ t_ H h_ e_
  | timeMeasOfs v => exact execTimeMeasOfs_keeps _ s_ t_ H h_ e_
  | netHoldoverExpiry => exact execNetHoldoverExpiry_keeps s_ t_ H h_ e_
  | netMaster on => exact execNetMaster_keeps _ s_ t_ H h_ e_
  | linkDelayMeasured sl => exact execLinkDelayMeasured_keeps _ s_ t_ H h_ e_
  | slatePowerUp sl => exact execSlatePowerUp_keeps _ s_ t_ H h_ e_
  | slatePowerLoss sl => exact execSlatePowerLoss_keeps _ s_ t_ H h_ e_
  | slateSilenceTimeout sl => exact execSlateSilenceTimeout_keeps _ s_ t_ H h_ e_
  | linkTimeout sl => exact execLinkTimeout_keeps _ s_ t_ H h_ e_
  | release sl => exact execRelease_keeps _ s_ t_ H h_ e_
  | safeCmdClear sl => exact execSafeCmdClear_keeps _ s_ t_ H h_ e_
  | slateRegWrite q addr v => exact execSlateRegWrite_keeps _ _ _ s_ t_ H HM HA HB HR h_ e_
  | slateRegRead q addr => exact execSlateRegRead_keeps _ _ s_ t_ H h_ e_
  | forwardedReadTimeout sl => exact execForwardedReadTimeout_keeps _ s_ t_ H h_ e_
  | sidebandSend sl fromFlint halls pts => exact execSidebandSend_keeps _ _ _ _ s_ t_ H h_ e_
  | sidebandFrameAtSlate sl rx => exact execSidebandFrameAtSlate_keeps _ _ s_ t_ H h_ e_
  | sidebandFrameAtFlint sl rx => exact execSidebandFrameAtFlint_keeps _ _ s_ t_ H h_ e_
  | sbDown sl => exact execSbDown_keeps _ s_ t_ H h_ e_
  | eventLogRelease => exact execEventLogRelease_keeps s_ t_ H HM h_ e_
  | carrierRun sl v => exact execCarrierRun_keeps _ _ s_ t_ H h_ e_
  | carrierEdge sl => exact execCarrierEdge_keeps _ s_ t_ H h_ e_
  | carrierApplyGo sl v => exact execCarrierApplyGo_keeps _ _ s_ t_ H h_ e_
  | axisEdge a => exact execAxisEdge_keeps _ s_ t_ H h_ e_
  | pwmEdge t e otherLow => exact execPwmEdge_keeps _ _ _ s_ t_ H h_ e_
  | pwmPhaseWrite a v => exact execPwmPhaseWrite_keeps _ _ s_ t_ H h_ e_
  | delayLineSwap sl ix delta bad => exact execDelayLineSwap_keeps _ _ _ _ s_ t_ H h_ e_
  | calDone sl bad => exact execCalDone_keeps _ _ s_ t_ H h_ e_
  | pwmEn a v => exact execPwmEn_keeps _ _ s_ t_ H h_ e_
  | prechargeEnd a => exact execPrechargeEnd_keeps _ s_ t_ H h_ e_
  | tripQualify a src => exact execTripQualify_keeps _ _ s_ t_ H h_ e_
  | tripLatchClear a => exact execTripLatchClear_keeps _ s_ t_ H h_ e_
  | chopPeriodStart sl => exact execChopPeriodStart_keeps _ s_ t_ H h_ e_
  | chopTrip sl ocp => exact execChopTrip_keeps _ _ s_ t_ H h_ e_
  | timerTrigger sl code => exact execTimerTrigger_keeps _ _ s_ t_ H h_ e_
  | timerWindowOpen sl n => exact execTimerWindowOpen_keeps _ _ s_ t_ H h_ e_
  | timerWindowClose sl n => exact execTimerWindowClose_keeps _ _ s_ t_ H h_ e_
  | gatePhaseAdvance sl ix => exact execGatePhaseAdvance_keeps _ _ s_ t_ H h_ e_
  | tonTmo sl ix => exact execTonTmo_keeps _ _ s_ t_ H h_ e_
  | turnOnRelease sl ix => exact execTurnOnRelease_keeps _ _ s_ t_ H h_ e_
  | glock sl ix => exact execGlock_keeps _ _ s_ t_ H h_ e_
  | vgdLockout sl enter => exact execVgdLockout_keeps _ _ s_ t_ H h_ e_
  | vgdUvReport sl => exact execVgdUvReport_keeps _ s_ t_ H h_ e_
  | bstLockout sl k enter => exact execBstLockout_keeps _ _ _ s_ t_ H h_ e_
  | otShut sl enter => exact execOtShut_keeps _ _ s_ t_ H h_ e_
  | desatReport sl ix on => exact execDesatReport_keeps _ _ _ s_ t_ H h_ e_
  | ocpAssert sl ph on => exact execOcpAssert_keeps _ _ _ s_ t_ H h_ e_
  | adcCalGo sl mask => exact execAdcCalGo_keeps _ _ s_ t_ H h_ e_
  | adcCalComplete sl n u v w => exact execAdcCalComplete_keeps _ _ _ _ _ s_ t_ H h_ e_
  | backgroundConversion sl ch k v => exact execBackgroundConversion_keeps _ _ _ _ s_ t_ H h_ e_
  | hallChange a lands t0 => exact execHallChange_keeps _ _ _ s_ t_ H h_ e_
  | abzEdge a la lb t0 => exact execAbzEdge_keeps _ _ _ _ s_ t_ H h_ e_
  | index a t0 => exact execIndex_keeps _ _ s_ t_ H h_ e_
  | fbModeWrite a v lands => exact execFbModeWrite_keeps _ _ _ s_ t_ H h_ e_
  | serialRequest a => exact execSerialRequest_keeps _ s_ t_ H h_ e_
  | serialReading a start raw raw2 => exact execSerialReading_keeps _ _ _ _ s_ t_ H h_ e_
  | fbPosRead q a => exact execFbPosRead_keeps _ _ s_ t_ H h_ e_
  | preset a => exact execPreset_keeps _ s_ t_ H h_ e_
  | fbWrapWrite a v => exact execFbWrapWrite_keeps _ _ s_ t_ H h_ e_
  | fbStill a => exact execFbStill_keeps _ s_ t_ H h_ e_
  | virtualTooth t => exact execVirtualTooth_keeps _ s_ t_ H h_ e_
  | toothStill t => exact execToothStill_keeps _ s_ t_ H h_ e_
  | toothEnable t v => exact execToothEnable_keeps _ _ s_ t_ H h_ e_
  | research t => exact execResearch_keeps _ s_ t_ H h_ e_
  | toothPosRead q t => exact execToothPosRead_keeps _ _ s_ t_ H h_ e_
  | ecallReply g => exact execEcallReply_keeps _ s_ t_ H HM h_ e_
  | ecallTmo a => exact execEcallTmo_keeps _ s_ t_ H HM h_ e_
  | apply a => exact execApply_keeps _ s_ t_ H h_ e_
  | graphValidate a => exact execGraphValidate_keeps _ s_ t_ H h_ e_
  | descriptorWrite q g off sz v => exact execDescriptorWrite_keeps _ _ _ _ _ s_ t_ H HM h_ e_
  | holdRelease a => exact execHoldRelease_keeps _ s_ t_ H HM h_ e_
  | descriptorWritesApply a => exact execDescriptorWritesApply_keeps _ s_ t_ H HM h_ e_
  | loopRun a on => exact execLoopRun_keeps _ _ s_ t_ H h_ e_
  | loopPosLoRead q a => exact execLoopPosLoRead_keeps _ _ s_ t_ H h_ e_
  | luDescRangeWrite g j v => exact execLuDescRangeWrite_keeps _ _ _ s_ t_ H h_ e_
  | engRst e => exact execEngRst_keeps _ s_ t_ H h_ e_
  | engRstRelease e => exact execEngRstRelease_keeps _ s_ t_ H h_ e_
  | engGo e => exact execEngGo_keeps _ s_ t_ H h_ e_
  | engStep e => exact execEngStep_keeps _ s_ t_ H h_ e_
  | engHalt e => exact execEngHalt_keeps _ s_ t_ H h_ e_
  | engineWake e => exact execEngineWake_keeps _ s_ t_ H h_ e_
  | exceptionEntry e => exact execExceptionEntry_keeps _ s_ t_ H h_ e_
  | breakpointMatch e => exact execBreakpointMatch_keeps _ s_ t_ H h_ e_
  | engWdogExpiry e => exact execEngWdogExpiry_keeps _ s_ t_ H h_ e_
  | ioWdogKick e => exact execIoWdogKick_keeps _ s_ t_ H h_ e_
  | ioCallPop e => exact execIoCallPop_keeps _ s_ t_ H h_ e_
  | ioMailPop e => exact execIoMailPop_keeps _ s_ t_ H h_ e_
  | sendReply e len => exact execSendReply_keeps _ _ s_ t_ H h_ e_
  | sendMail e t len => exact execSendMail_keeps _ _ _ s_ t_ H h_ e_
  | sendHostMail e len => exact execSendHostMail_keeps _ _ s_ t_ H h_ e_
  | engMailSend e len => exact execEngMailSend_keeps _ _ s_ t_ H h_ e_
  | engHmailPop e => exact execEngHmailPop_keeps _ s_ t_ H h_ e_
  | engDbgDataWrite e v => exact execEngDbgDataWrite_keeps _ _ s_ t_ H h_ e_
  | engPcWrite e v => exact execEngPcWrite_keeps _ _ s_ t_ H h_ e_
  | externalMemoryWrite q addr sz v => exact execExternalMemoryWrite_keeps _ _ _ _ s_ t_ H HM h_ e_
  | ioCycleLoRead e => exact execIoCycleLoRead_keeps _ s_ t_ H h_ e_
  | sharedReadComplete e => exact execSharedReadComplete_keeps _ s_ t_ H h_ e_
  | fabricReadComplete e => exact execFabricReadComplete_keeps _ s_ t_ H h_ e_
  | modeWriteTakeEffect e => exact execModeWriteTakeEffect_keeps _ s_ t_ H h_ e_
  | mov e => exact execMov_keeps _ s_ t_ H h_ e_
  | add e => exact execAdd_keeps _ s_ t_ H h_ e_
  | sub e => exact execSub_keeps _ s_ t_ H h_ e_
  | adds e => exact execAdds_keeps _ s_ t_ H h_ e_
  | subs e => exact execSubs_keeps _ s_ t_ H h_ e_
  | andOp e => exact execAndOp_keeps _ s_ t_ H h_ e_
  | orOp e => exact execOrOp_keeps _ s_ t_ H h_ e_
  | xor e => exact execXor_keeps _ s_ t_ H h_ e_
  | andn e => exact execAndn_keeps _ s_ t_ H h_ e_
  | shl e => exact execShl_keeps _ s_ t_ H h_ e_
  | shr e => exact execShr_keeps _ s_ t_ H h_ e_
  | sar e => exact execSar_keeps _ s_ t_ H h_ e_
  | mul e => exact execMul_keeps _ s_ t_ H h_ e_
  | mulf e => exact execMulf_keeps _ s_ t_ H h_ e_
  | minOp e => exact execMinOp_keeps _ s_ t_ H h_ e_
  | maxOp e => exact execMaxOp_keeps _ s_ t_ H h_ e_
  | abs e => exact execAbs_keeps _ s_ t_ H h_ e_
  | neg e => exact execNeg_keeps _ s_ t_ H h_ e_
  | clz e => exact execClz_keeps _ s_ t_ H h_ e_
  | cmp e => exact execCmp_keeps _ s_ t_ H h_ e_
  | addi e => exact execAddi_keeps _ s_ t_ H h_ e_
  | andi e => exact execAndi_keeps _ s_ t_ H h_ e_
  | ori e => exact execOri_keeps _ s_ t_ H h_ e_
  | xori e => exact execXori_keeps _ s_ t_ H h_ e_
  | cmpi e => exact execCmpi_keeps _ s_ t_ H h_ e_
  | shi e => exact execShi_keeps _ s_ t_ H h_ e_
  | movil e => exact execMovil_keeps _ s_ t_ H h_ e_
  | movih e => exact execMovih_keeps _ s_ t_ H h_ e_
  | ld e => exact execLd_keeps _ s_ t_ H h_ e_
  | st e => exact execSt_keeps _ s_ t_ H HM h_ e_
  | sta e => exact execSta_keeps _ s_ t_ H HM h_ e_
  | mac e => exact execMac_keeps _ s_ t_ H h_ e_
  | msu e => exact execMsu_keeps _ s_ t_ H h_ e_
  | mpy e => exact execMpy_keeps _ s_ t_ H h_ e_
  | ldp e => exact execLdp_keeps _ s_ t_ H h_ e_
  | aclr e => exact execAclr_keeps _ s_ t_ H h_ e_
  | amov e => exact execAmov_keeps _ s_ t_ H h_ e_
  | aadd e => exact execAadd_keeps _ s_ t_ H h_ e_
  | asub e => exact execAsub_keeps _ s_ t_ H h_ e_
  | aneg e => exact execAneg_keeps _ s_ t_ H h_ e_
  | aabs e => exact execAabs_keeps _ s_ t_ H h_ e_
  | ashl e => exact execAshl_keeps _ s_ t_ H h_ e_
  | asar e => exact execAsar_keeps _ s_ t_ H h_ e_
  | aload e => exact execAload_keeps _ s_ t_ H h_ e_
  | aloadl e => exact execAloadl_keeps _ s_ t_ H h_ e_
  | ast e => exact execAst_keeps _ s_ t_ H h_ e_
  | asat e => exact execAsat_keeps _ s_ t_ H h_ e_
  | arnd e => exact execArnd_keeps _ s_ t_ H h_ e_
  | nop e => exact execNop_keeps _ s_ t_ H h_ e_
  | wait e => exact execWait_keeps _ s_ t_ H h_ e_
  | rete e => exact execRete_keeps _ s_ t_ H h_ e_
  | brk e => exact execBrk_keeps _ s_ t_ H h_ e_
  | movs e => exact execMovs_keeps _ s_ t_ H h_ e_
  | padd e => exact execPadd_keeps _ s_ t_ H h_ e_
  | mdset e => exact execMdset_keeps _ s_ t_ H h_ e_
  | mdclr e => exact execMdclr_keeps _ s_ t_ H h_ e_
  | b e => exact execB_keeps _ s_ t_ H h_ e_
  | br e => exact execBr_keeps _ s_ t_ H h_ e_
  | call e => exact execCall_keeps _ s_ t_ H h_ e_
  | callr e => exact execCallr_keeps _ s_ t_ H h_ e_
  | loopOp e => exact execLoopOp_keeps _ s_ t_ H h_ e_
  | lpop e => exact execLpop_keeps _ s_ t_ H h_ e_
  | setpointCompute a => exact execSetpointCompute_keeps _ s_ t_ H h_ e_
  | move a => exact execMove_keeps _ s_ t_ H h_ e_
  | vel a => exact execVel_keeps _ s_ t_ H h_ e_
  | gear a => exact execGear_keeps _ s_ t_ H h_ e_
  | stop a => exact execStop_keeps _ s_ t_ H h_ e_
  | path a => exact execPath_keeps _ s_ t_ H h_ e_
  | trkEnable k v => exact execTrkEnable_keeps _ _ s_ t_ H h_ e_
  | trkSegPush k => exact execTrkSegPush_keeps _ s_ t_ H h_ e_
  | flush k => exact execFlush_keeps _ s_ t_ H h_ e_
  | trkPosRead q k => exact execTrkPosRead_keeps _ _ s_ t_ H h_ e_
  | prfSpRead q a => exact execPrfSpRead_keeps _ _ s_ t_ H h_ e_
  | brOfsNowRead q a => exact execBrOfsNowRead_keeps _ _ s_ t_ H h_ e_
  | insertItem d => exact execInsertItem_keeps _ s_ t_ H HM h_ e_
  | insertEvent d => exact execInsertEvent_keeps _ s_ t_ H HM h_ e_
  | cancel d ix => exact execCancel_keeps _ _ s_ t_ H HM h_ e_
  | delete d ix => exact execDelete_keeps _ _ s_ t_ H HM h_ e_
  | shift d ix => exact execShift_keeps _ _ s_ t_ H HM h_ e_
  | read d ix => exact execRead_keeps _ _ s_ t_ H h_ e_
  | heldInsertRelease d => exact execHeldInsertRelease_keeps _ s_ t_ H HM h_ e_
  | compareInstant a => exact execCompareInstant_keeps _ s_ t_ H HM h_ e_
  | eventFire ix => exact execEventFire_keeps _ s_ t_ H HM h_ e_
  | windowOpen ix => exact execWindowOpen_keeps _ s_ t_ H HM h_ e_
  | notSeen ix => exact execNotSeen_keeps _ s_ t_ H HM h_ e_
  | correctionApply => exact execCorrectionApply_keeps s_ t_ H HM h_ e_
  | rebuild => exact execRebuild_keeps s_ t_ H h_ e_
  | rebuildComplete => exact execRebuildComplete_keeps s_ t_ H h_ e_
  | merge a => exact execMerge_keeps _ s_ t_ H h_ e_
  | init => exact execInit_keeps s_ t_ H HM h_ e_
  | trackRgnWrite d v => exact execTrackRgnWrite_keeps _ _ s_ t_ H HM h_ e_
  | offer k m => exact execOffer_keeps _ _ s_ t_ H HM h_ e_
  | accept k m => exact execAccept_keeps _ _ s_ t_ H HM h_ e_
  | refuse k m => exact execRefuse_keeps _ _ s_ t_ H HM h_ e_
  | commit k m => exact execCommit_keeps _ _ s_ t_ H HM h_ e_
  | doneMsg k m => exact execDoneMsg_keeps _ _ s_ t_ H HM h_ e_
  | withdraw k m => exact execWithdraw_keeps _ _ s_ t_ H HM h_ e_
  | resolve k m => exact execResolve_keeps _ _ s_ t_ H HM h_ e_
  | hello k dn m => exact execHello_keeps _ _ _ s_ t_ H h_ e_
  | helloSend k => exact execHelloSend_keeps _ s_ t_ H h_ e_
  | sessionDown k dn => exact execSessionDown_keeps _ _ s_ t_ H h_ e_
  | hoRetry ix => exact execHoRetry_keeps _ s_ t_ H h_ e_
  | commitTmo ix => exact execCommitTmo_keeps _ s_ t_ H HM h_ e_
  | heldCommitTimeout ix => exact execHeldCommitTimeout_keeps _ s_ t_ H HM h_ e_
  | doubtTmo ix => exact execDoubtTmo_keeps _ s_ t_ H HM h_ e_
  | rgnRptPop d => exact execRgnRptPop_keeps _ s_ t_ H h_ e_
  | fieldInputChange sl j lvl t0 => exact execFieldInputChange_keeps _ _ _ _ s_ t_ H h_ e_
  | pulseWindow sl levels => exact execPulseWindow_keeps _ _ s_ t_ H h_ e_
  | fieldVoltageMeasure sl j mv => exact execFieldVoltageMeasure_keeps _ _ _ s_ t_ H h_ e_
  | stuck sl j => exact execStuck_keeps _ _ s_ t_ H h_ e_
  | short sl j => exact execShort_keeps _ _ s_ t_ H h_ e_
  | shortRetry sl j => exact execShortRetry_keeps _ _ s_ t_ H h_ e_
  | shortClear sl mask => exact execShortClear_keeps _ _ s_ t_ H h_ e_
  | openLoad sl j => exact execOpenLoad_keeps _ _ s_ t_ H h_ e_
  | readbackMismatch sl j land => exact execReadbackMismatch_keeps _ _ _ s_ t_ H h_ e_
  | vfieldUv sl enter => exact execVfieldUv_keeps _ _ s_ t_ H h_ e_
  | fioCfgWrite sl j v land => exact execFioCfgWrite_keeps _ _ _ _ s_ t_ H h_ e_
  | outputDischarged sl j land => exact execOutputDischarged_keeps _ _ _ s_ t_ H h_ e_
  | fioOutWrite sl data mask => exact execFioOutWrite_keeps _ _ _ s_ t_ H h_ e_
  | scheduledTransition sl c => exact execScheduledTransition_keeps _ _ s_ t_ H h_ e_
  | fschMapWrite sl c v => exact execFschMapWrite_keeps _ _ _ s_ t_ H h_ e_
  | fschGo sl c level => exact execFschGo_keeps _ _ _ s_ t_ H h_ e_
  | fschCancel sl c => exact execFschCancel_keeps _ _ s_ t_ H h_ e_
  | fschSend sl c => exact execFschSend_keeps _ _ s_ t_ H h_ e_
  | fschDone sl c => exact execFschDone_keeps _ _ s_ t_ H h_ e_
  | frameReceive p rx => exact execFrameReceive_keeps _ _ s_ t_ H HM h_ e_
  | frameStart p => exact execFrameStart_keeps _ s_ t_ H HM h_ e_
  | frameSent p sfd => exact execFrameSent_keeps _ _ s_ t_ H HM h_ e_
  | launch p => exact execLaunch_keeps _ s_ t_ H HM h_ e_
  | portLinkUp p => exact execPortLinkUp_keeps _ s_ t_ H h_ e_
  | portLinkDown p hiBer => exact execPortLinkDown_keeps _ _ s_ t_ H HM h_ e_
  | autoModeSwitch p => exact execAutoModeSwitch_keeps _ s_ t_ H h_ e_
  | netCfgWrite p v => exact execNetCfgWrite_keeps _ _ s_ t_ H HM h_ e_
  | ringTestSend r => exact execRingTestSend_keeps _ s_ t_ H h_ e_
  | ringOpen r => exact execRingOpen_keeps _ s_ t_ H h_ e_
  | txTailWrite d v => exact execTxTailWrite_keeps _ _ s_ t_ H h_ e_
  | txDescriptorFetch d h => exact execTxDescriptorFetch_keeps _ _ s_ t_ H HM h_ e_
  | rxTailWrite d v => exact execRxTailWrite_keeps _ _ s_ t_ H h_ e_
  | netTsqPop p => exact execNetTsqPop_keeps _ s_ t_ H h_ e_
  | netCbsWrite p q v => exact execNetCbsWrite_keeps _ _ _ s_ t_ H h_ e_
  | swBufRsvWrite q v => exact execSwBufRsvWrite_keeps _ _ s_ t_ H h_ e_
  | cycleMark count => exact execCycleMark_keeps _ s_ t_ H HM h_ e_
  | markMissing => exact execMarkMissing_keeps s_ t_ H h_ e_
  | recordA => exact execRecordA_keeps s_ t_ H h_ e_
  | recordB => exact execRecordB_keeps s_ t_ H h_ e_
  | recordDeadline atFlint => exact execRecordDeadline_keeps _ s_ t_ H h_ e_
  | lockstepMismatch => exact execLockstepMismatch_keeps s_ t_ H h_ e_
  | flintSelfTestFail => exact execFlintSelfTestFail_keeps s_ t_ H h_ e_
  | pairDiscrepancy flint pair => exact execPairDiscrepancy_keeps _ _ s_ t_ H h_ e_
  | ss1TExpiry z => exact execSs1TExpiry_keeps _ s_ t_ H h_ e_
  | sbcDlyExpiry f => exact execSbcDlyExpiry_keeps _ s_ t_ H h_ e_
  | safeReqWrite v => exact execSafeReqWrite_keeps _ s_ t_ H h_ e_
  | safeBrkReqWrite q hi v => exact execSafeBrkReqWrite_keeps _ _ _ s_ t_ H h_ e_
  | dscReceive p body => exact execDscReceive_keeps _ _ s_ t_ H h_ e_
  | dscDataSend c => exact execDscDataSend_keeps _ s_ t_ H h_ e_
  | dscConnectSend c => exact execDscConnectSend_keeps _ s_ t_ H h_ e_
  | dscExpiry c => exact execDscExpiry_keeps _ s_ t_ H h_ e_
  | tpcWindowExpiry c => exact execTpcWindowExpiry_keeps _ s_ t_ H h_ e_
  | faultRise ix => exact execFaultRise_keeps _ s_ t_ H HM h_ e_
  | faultSourceClear hi v => exact execFaultSourceClear_keeps _ _ s_ t_ H h_ e_
  | dssClr => exact execDssClr_keeps s_ t_ H h_ e_
  | domHaltRelease mask => exact execDomHaltRelease_keeps _ s_ t_ H h_ e_
  | faultLogPop => exact execFaultLogPop_keeps s_ t_ H h_ e_
  | partnerReport v => exact execPartnerReport_keeps _ s_ t_ H h_ e_
  | partnerRecordClose => exact execPartnerRecordClose_keeps s_ t_ H h_ e_
  | faultPrPop => exact execFaultPrPop_keeps s_ t_ H h_ e_
  | traceEntry r j n => exact execTraceEntry_keeps _ _ _ s_ t_ H HM h_ e_
  | trcArm r => exact execTrcArm_keeps _ s_ t_ H HM h_ e_
  | trcStop r => exact execTrcStop_keeps _ s_ t_ H h_ e_
  | trcForce r => exact execTrcForce_keeps _ s_ t_ H h_ e_
  | traceTrigger r => exact execTraceTrigger_keeps _ s_ t_ H h_ e_
  | traceTimeTrigger r => exact execTraceTimeTrigger_keeps _ s_ t_ H h_ e_
  | trcRgnWrite d v => exact execTrcRgnWrite_keeps _ _ s_ t_ H HM h_ e_
  | trigInEdge n level tap => exact execTrigInEdge_keeps _ _ _ s_ t_ H h_ e_
  | trigInPop mask => exact execTrigInPop_keeps _ s_ t_ H h_ e_
  | tbusPulse mask => exact execTbusPulse_keeps _ s_ t_ H h_ e_
  | tbusAt n => exact execTbusAt_keeps _ s_ t_ H h_ e_
  | tbusEdge n own tap => exact execTbusEdge_keeps _ _ _ s_ t_ H h_ e_
  | tbusPop mask => exact execTbusPop_keeps _ s_ t_ H h_ e_
  | tbusCal mask => exact execTbusCal_keeps _ s_ t_ H h_ e_
  | tbusCalDone n => exact execTbusCalDone_keeps _ s_ t_ H h_ e_
  | snapGo => exact execSnapGo_keeps s_ t_ H h_ e_
  | snapAt => exact execSnapAt_keeps s_ t_ H h_ e_
  | slateSnapshotAnswer sl => exact execSlateSnapshotAnswer_keeps _ s_ t_ H h_ e_
  | snapBusyEnd => exact execSnapBusyEnd_keeps s_ t_ H h_ e_
  | assignmentWrite addr v => exact execAssignmentWrite_keeps _ _ s_ t_ H HM h_ e_
  | cleaningDone => exact execCleaningDone_keeps s_ t_ H h_ e_
  | domLock => exact execDomLock_keeps s_ t_ H h_ e_
  | copyIn => exact execCopyIn_keeps s_ t_ H HB h_ e_
  | copyOut => exact execCopyOut_keeps s_ t_ H HB h_ e_
  | verify slot => exact execVerify_keeps _ s_ t_ H HB h_ e_
  | switch slot trial => exact execSwitch_keeps _ _ s_ t_ H HB h_ e_
  | confirm => exact execConfirm_keeps s_ t_ H HB h_ e_
  | raiseFloor => exact execRaiseFloor_keeps s_ t_ H HB h_ e_
  | fuseKey key => exact execFuseKey_keeps _ s_ t_ H HB h_ e_
  | revoke key => exact execRevoke_keeps _ s_ t_ H HB h_ e_
  | boot slot => exact execBoot_keeps _ s_ t_ H HB h_ e_
  | amberCmdComplete x src => exact execAmberCmdComplete_keeps _ _ s_ t_ H HM HA HB h_ e_
  | trialExpiry => exact execTrialExpiry_keeps s_ t_ H HR h_ e_
  | imageLoad x other => exact execImageLoad_keeps _ _ s_ t_ H HM HA HB HR h_ e_
  | restore us => exact execRestore_keeps _ s_ t_ H HM HA h_ e_
  | powerOnReset => exact execPowerOnReset_keeps s_ t_ H HR h_ e_
  | externalReset => exact execExternalReset_keeps s_ t_ H HR h_ e_
  | sysReset key => exact execSysReset_keeps _ s_ t_ H HA HB HR h_ e_
  | sysResetSave key => exact execSysResetSave_keeps _ s_ t_ H HA HB HR h_ e_
  | sysWdogExpiry => exact execSysWdogExpiry_keeps s_ t_ H HR h_ e_
  | sysWdogKick => exact execSysWdogKick_keeps s_ t_ H h_ e_
  | pllLock p => exact execPllLock_keeps _ s_ t_ H h_ e_
  | flintSelfTestPass => exact execFlintSelfTestPass_keeps s_ t_ H h_ e_
  | sagDetect pfail => exact execSagDetect_keeps _ s_ t_ H HA HB h_ e_
  | saveComplete => exact execSaveComplete_keeps s_ t_ H HA HR h_ e_
  | holdCollapse => exact execHoldCollapse_keeps s_ t_ H h_ e_
  | sagEnd => exact execSagEnd_keeps s_ t_ H HR h_ e_
  | holdCapMeasure uF => exact execHoldCapMeasure_keeps _ s_ t_ H h_ e_
  | softReset q addr snap => exact execSoftReset_keeps _ _ _ s_ t_ H HM HA HB HR h_ e_
  | hostWrite addr data => exact execHostWrite_keeps _ _ s_ t_ H HM HA HB HR h_ e_
  | hostRead addr n => exact execHostRead_keeps _ _ s_ t_ H h_ e_
  | hostUnsupported => exact execHostUnsupported_keeps s_ t_ H h_ e_
  | flr => exact execFlr_keeps s_ t_ H HA HB h_ e_
  | perst => exact execPerst_keeps s_ t_ H HA HB h_ e_
  | pcieLinkDown => exact execPcieLinkDown_keeps s_ t_ H HA HB h_ e_
  | msixUnmask v => exact execMsixUnmask_keeps _ s_ t_ H HM HA HB HR h_ e_
  | dmaTmo r => exact execDmaTmo_keeps _ s_ t_ H HM HA HB h_ e_
  | mgmtRead p src body tagOk tag => exact execMgmtRead_keeps _ _ _ _ _ s_ t_ H HM HA HB HR h_ e_
  | mgmtWrite p src body tagOk tag => exact execMgmtWrite_keeps _ _ _ _ _ s_ t_ H HM HA HB HR h_ e_
  | mgmtStatus p src body tagOk tag => exact execMgmtStatus_keeps _ _ _ _ _ s_ t_ H HM HA HB HR h_ e_
  | pageErrClear q addr v => exact execPageErrClear_keeps _ _ _ s_ t_ H HM HA HB HR h_ e_
  | counterClear q addr => exact execCounterClear_keeps _ _ s_ t_ H HM HA HB HR h_ e_
  | registerWrite q addr v => exact execRegisterWrite_keeps _ _ _ s_ t_ H HM HA HB HR h_ e_
  | toothInputEdge sl j lvl t0 => exact execToothInputEdge_keeps _ _ _ _ s_ t_ H h_ e_
  | pllUnlock p => exact execPllUnlock_keeps _ s_ t_ H HR h_ e_
  | inactiveRefLoss cab absent => exact execInactiveRefLoss_keeps _ _ s_ t_ H h_ e_
  | refclkRecovery cab => exact execRefclkRecovery_keeps _ s_ t_ H h_ e_
  | postedWriteComplete e fabric => exact execPostedWriteComplete_keeps _ _ s_ t_ H HM HA HB HR h_ e_
  | resetRelease => exact execResetRelease_keeps s_ t_ H h_ e_
  | pcieLinkUp gen x2 => exact execPcieLinkUp_keeps _ _ s_ t_ H h_ e_
  | pcieConfigWrite bme msix fmask => exact execPcieConfigWrite_keeps _ _ _ s_ t_ H h_ e_
  | amberScrub addr found => exact execAmberScrub_keeps _ _ s_ t_ H h_ e_
  | holdOkChange ok => exact execHoldOkChange_keeps _ s_ t_ H h_ e_

/-- Every step keeps what the named setters keep, where the queue does not matter. -/
theorem step_keeps (H : Closed P) (HM : ClosedMem P) (HA : ClosedAmber P) (HB : ClosedBoot P) (HR : ClosedReset P)
    (HQ : ∀ s q, P s → P { s with pending := q }) (s t : State) (h : Holds P s) (e : step s = .next t) : Holds P t := by
  unfold step at e
  split at e
  · cases e; exact State.idle_keeps s H HM HA HB HR h
  · exact exec_keeps H HM HA HB HR _ _ t (HQ s _ h) e

end Sys2Proof.Machine
end

