-- ==== Sys2Proof/Laws/Fields.lean ====
section
/-! SUPPORT. Registers, fields and bytes: a read after a write, and the canonical form of each memory operation. -/
namespace Sys2Proof.Machine
open Sys2Proof

/-! Bits of a number. -/

theorem bits_lt (x lo w : Nat) : bits x lo w < 2 ^ w := Nat.mod_lt _ (Nat.two_pow_pos w)

theorem bits_testBit (x lo w i : Nat) : (bits x lo w).testBit i = (decide (i < w) && x.testBit (lo + i)) := by
  simp [bits, Nat.testBit_mod_two_pow, Nat.testBit_shiftRight]

/-- The written field takes the value's low bits; the others stay. -/
theorem setBits_testBit (x lo w v i : Nat) :
    (setBits x lo w v).testBit i = if lo ≤ i ∧ i < lo + w then v.testBit (i - lo) else x.testBit i := by
  have hx : setBits x lo w v = x / 2 ^ (lo + w) * 2 ^ (lo + w) + (v % 2 ^ w * 2 ^ lo + x % 2 ^ lo) := by
    have h1 : bits x lo w = x / 2 ^ lo % 2 ^ w := by simp [bits, Nat.shiftRight_eq_div_pow]
    have h2 := Nat.div_add_mod x (2 ^ lo)
    have h3 := Nat.div_add_mod (x / 2 ^ lo) (2 ^ w)
    have h4 : x / 2 ^ lo / 2 ^ w = x / 2 ^ (lo + w) := by rw [Nat.div_div_eq_div_mul, Nat.pow_add]
    have h5 : 2 ^ (lo + w) = 2 ^ lo * 2 ^ w := Nat.pow_add ..
    unfold setBits
    rw [h1, Nat.shiftLeft_eq, Nat.shiftLeft_eq]
    have h6 : x = 2 ^ lo * (2 ^ w * (x / 2 ^ (lo + w)) + x / 2 ^ lo % 2 ^ w) + x % 2 ^ lo := by
      rw [← h4, h3]; exact h2.symm
    have h7 : 2 ^ lo * (2 ^ w * (x / 2 ^ (lo + w)) + x / 2 ^ lo % 2 ^ w) =
        x / 2 ^ (lo + w) * 2 ^ (lo + w) + x / 2 ^ lo % 2 ^ w * 2 ^ lo := by rw [h5]; ring
    omega
  have hb : v % 2 ^ w * 2 ^ lo + x % 2 ^ lo < 2 ^ (lo + w) := by
    have h1 := Nat.mod_lt v (Nat.two_pow_pos w)
    have h2 := Nat.mod_lt x (Nat.two_pow_pos lo)
    have h3 : (v % 2 ^ w + 1) * 2 ^ lo ≤ 2 ^ w * 2 ^ lo := Nat.mul_le_mul_right _ h1
    have h4 : 2 ^ (lo + w) = 2 ^ w * 2 ^ lo := by rw [Nat.pow_add, Nat.mul_comm]
    have h5 : (v % 2 ^ w + 1) * 2 ^ lo = v % 2 ^ w * 2 ^ lo + 2 ^ lo := by ring
    omega
  rw [hx, Nat.mul_comm, Nat.testBit_two_pow_mul_add _ hb]
  split
  · rename_i h
    rw [Nat.mul_comm, Nat.testBit_two_pow_mul_add _ (Nat.mod_lt _ (Nat.two_pow_pos lo))]
    split
    · rename_i h2
      have : ¬ (lo ≤ i ∧ i < lo + w) := by omega
      simp [this, Nat.testBit_mod_two_pow, h2]
    · rename_i h2
      have h3 : lo ≤ i ∧ i < lo + w := by omega
      have h4 : i - lo < w := by omega
      simp [h3, Nat.testBit_mod_two_pow, h4]
  · rename_i h
    have h3 : ¬ (lo ≤ i ∧ i < lo + w) := by omega
    rw [if_neg h3, Nat.testBit_div_two_pow]
    congr 1; omega

theorem bits_setBits_same (x lo w v : Nat) : bits (setBits x lo w v) lo w = v % 2 ^ w := by
  refine Nat.eq_of_testBit_eq fun i => ?_
  rw [bits_testBit, setBits_testBit, Nat.testBit_mod_two_pow]
  by_cases h : i < w
  · simp [h, show lo ≤ lo + i ∧ lo + i < lo + w by omega]
  · simp [h]

theorem bits_setBits_other (x lo w v lo' w' : Nat) (h : lo' + w' ≤ lo ∨ lo + w ≤ lo') : bits (setBits x lo w v) lo' w' = bits x lo' w' := by
  refine Nat.eq_of_testBit_eq fun i => ?_
  rw [bits_testBit, bits_testBit, setBits_testBit]
  by_cases hi : i < w'
  · simp [show ¬ (lo ≤ lo' + i ∧ lo' + i < lo + w) by omega]
  · simp [hi]

theorem bits_mod (x lo w n : Nat) (h : lo + w ≤ n) : bits (x % 2 ^ n) lo w = bits x lo w := by
  refine Nat.eq_of_testBit_eq fun i => ?_
  rw [bits_testBit, bits_testBit, Nat.testBit_mod_two_pow]
  by_cases hi : i < w
  · simp [show lo + i < n by omega]
  · simp [hi]

/-! Registers. -/

theorem State.rd_lt (s : State) (a : Nat) : s.rd a < 2 ^ 32 := (s.reg a).isLt

theorem State.rd_wr (s : State) (a v b : Nat) : (s.wr a v).rd b = if b = a then v % 2 ^ 32 else s.rd b := by
  show (Assoc.get regDefault (Assoc.put regDefault s.regs a (BitVec.ofNat 32 v)) b).toNat = _
  rw [Assoc.get_put]
  split
  · exact BitVec.toNat_ofNat ..
  · rfl

@[simp] theorem State.rd_wr_same (s : State) (a v : Nat) : (s.wr a v).rd a = v % 2 ^ 32 := by simp [State.rd_wr]
theorem State.rd_wr_other (s : State) (a v b : Nat) (h : b ≠ a) : (s.wr a v).rd b = s.rd b := by simp [State.rd_wr, h]

theorem State.rd_keepRegs (s : State) (p : Nat → Bool) (a : Nat) :
    (s.keepRegs p).rd a = if p a then s.rd a else (regDefault a).toNat := by
  show (Assoc.get regDefault (s.regs.filter fun e => p e.1) a).toNat = _
  rw [Assoc.get_filter]
  split <;> rfl

/-- A field after a write of its register. -/
theorem State.fld_wr (s : State) (a v p : Nat) (f : Fld) (hf : f.lo + f.w ≤ 32) :
    (s.wr a v).fld p f = if p + f.off = a then bits v f.lo f.w else s.fld p f := by
  unfold State.fld
  rw [State.rd_wr]
  split
  · exact bits_mod _ _ _ _ hf
  · rfl

theorem State.fld_setf_same (s : State) (p : Nat) (f : Fld) (v : Nat) (hf : f.lo + f.w ≤ 32) : (s.setf p f v).fld p f = v % 2 ^ f.w := by
  unfold State.setf
  rw [State.fld_wr _ _ _ _ _ hf, if_pos rfl, bits_setBits_same]

/-- A field of another register, or of other bits of the same. -/
theorem State.fld_setf_other (s : State) (p : Nat) (f : Fld) (v q : Nat) (g : Fld) (hg : g.lo + g.w ≤ 32)
    (h : q + g.off ≠ p + f.off ∨ g.lo + g.w ≤ f.lo ∨ f.lo + f.w ≤ g.lo) : (s.setf p f v).fld q g = s.fld q g := by
  unfold State.setf
  rw [State.fld_wr _ _ _ _ _ hg]
  split
  · rename_i e
    rw [bits_setBits_other _ _ _ _ _ _ (by omega)]
    unfold State.fld; rw [e]
  · rfl

theorem State.rd_setf_other (s : State) (p : Nat) (f : Fld) (v a : Nat) (h : a ≠ p + f.off) : (s.setf p f v).rd a = s.rd a := State.rd_wr_other _ _ _ _ h

theorem State.flag_setb_same (s : State) (p : Nat) (f : Fld) (b : Bool) (hf : f.lo + f.w ≤ 32) (hw : f.w = 1) : (s.setb p f b).flag p f = b := by
  unfold State.flag State.setb
  rw [State.fld_setf_same _ _ _ _ hf, hw]
  cases b <;> simp

theorem State.flag_setf_other (s : State) (p : Nat) (f : Fld) (v q : Nat) (g : Fld) (hg : g.lo + g.w ≤ 32)
    (h : q + g.off ≠ p + f.off ∨ g.lo + g.w ≤ f.lo ∨ f.lo + f.w ≤ g.lo) : (s.setf p f v).flag q g = s.flag q g := by
  unfold State.flag
  rw [State.fld_setf_other _ _ _ _ _ _ hg h]

/-- An error bit after it is set, and another one. -/
theorem State.rbit_err (s : State) (p b : Nat) (hb : b < 32) : (s.err p b).rbit p R.PAGE_ERR b = true := by
  unfold State.rbit State.err State.setbit
  rw [State.rd_wr_same, bits_mod _ _ _ _ (by omega), bits_setBits_same]
  simp

theorem State.rd_err_other (s : State) (p b a : Nat) (h : a ≠ p + R.PAGE_ERR) : (s.err p b).rd a = s.rd a := State.rd_wr_other _ _ _ _ h
theorem State.fld_err_other (s : State) (p b q : Nat) (g : Fld) (h : q + g.off ≠ p + R.PAGE_ERR) : (s.err p b).fld q g = s.fld q g := by
  unfold State.fld; rw [State.rd_err_other _ _ _ _ h]

theorem State.flag_err_other (s : State) (p b q : Nat) (g : Fld) (h : q + g.off ≠ p + R.PAGE_ERR) : (s.err p b).flag q g = s.flag q g := by
  unfold State.flag; rw [State.fld_err_other _ _ _ _ _ h]

theorem State.flag_setf_same (s : State) (p : Nat) (f : Fld) (v : Nat) (hf : f.lo + f.w ≤ 32) : (s.setf p f v).flag p f = decide (v % 2 ^ f.w ≠ 0) := by
  unfold State.flag; rw [State.fld_setf_same _ _ _ _ hf]

/-- The same of a one-bit field. -/
theorem State.flag_setb_other (s : State) (p : Nat) (f : Fld) (b : Bool) (q : Nat) (g : Fld) (hg : g.lo + g.w ≤ 32)
    (h : q + g.off ≠ p + f.off ∨ g.lo + g.w ≤ f.lo ∨ f.lo + f.w ≤ g.lo) : (s.setb p f b).flag q g = s.flag q g :=
  State.flag_setf_other _ _ _ _ _ _ hg h
theorem State.fld_setb_other (s : State) (p : Nat) (f : Fld) (b : Bool) (q : Nat) (g : Fld) (hg : g.lo + g.w ≤ 32)
    (h : q + g.off ≠ p + f.off ∨ g.lo + g.w ≤ f.lo ∨ f.lo + f.w ≤ g.lo) : (s.setb p f b).fld q g = s.fld q g :=
  State.fld_setf_other _ _ _ _ _ _ hg h
theorem State.rd_setb_other (s : State) (p : Nat) (f : Fld) (b : Bool) (a : Nat) (h : a ≠ p + f.off) : (s.setb p f b).rd a = s.rd a :=
  State.rd_wr_other _ _ _ _ h

/-- A register written, and a field of another. -/
theorem State.fld_wr_other (s : State) (a v p : Nat) (f : Fld) (h : p + f.off ≠ a) : (s.wr a v).fld p f = s.fld p f := by
  unfold State.fld; rw [State.rd_wr_other _ _ _ _ h]
theorem State.flag_wr_other (s : State) (a v p : Nat) (f : Fld) (h : p + f.off ≠ a) : (s.wr a v).flag p f = s.flag p f := by
  unfold State.flag; rw [State.fld_wr_other _ _ _ _ _ h]

/-- Error bits under writes of other registers and of other error bits. -/
theorem State.rbit_wr_other (s : State) (a v p o b : Nat) (h : p + o ≠ a) : (s.wr a v).rbit p o b = s.rbit p o b := by
  unfold State.rbit; rw [State.rd_wr_other _ _ _ _ h]
theorem State.rbit_setf_other (s : State) (q : Nat) (f : Fld) (v p o b : Nat) (h : p + o ≠ q + f.off) : (s.setf q f v).rbit p o b = s.rbit p o b :=
  State.rbit_wr_other _ _ _ _ _ _ h
theorem State.rbit_setb_other (s : State) (q : Nat) (f : Fld) (v : Bool) (p o b : Nat) (h : p + o ≠ q + f.off) :
    (s.setb q f v).rbit p o b = s.rbit p o b := State.rbit_wr_other _ _ _ _ _ _ h
theorem State.rbit_err_other (s : State) (q c p b : Nat) (hb : b < 32) (h : q ≠ p ∨ b ≠ c) : (s.err q c).rbit p R.PAGE_ERR b = s.rbit p R.PAGE_ERR b := by
  unfold State.rbit State.err State.setbit
  rw [State.rd_wr]
  split
  · rename_i e
    have hq : q = p := by omega
    subst hq
    rw [bits_mod _ _ _ _ (by omega), bits_setBits_other _ _ _ _ _ _ (by omega)]
  · rfl

/-! Memory. -/

theorem State.byte_setByte (s : State) (a b : Nat) (v : Byte) : (s.setByte a v).byte b = if b = a then v else s.byte b := Assoc.get_put ..

theorem State.byte_clearMem (s : State) (a n b : Nat) : (s.clearMem a n).byte b = if a ≤ b ∧ b < a + n then 0 else s.byte b := by
  refine (Assoc.get_filter memDefault s.mem (fun x => !(decide (a ≤ x) && decide (x < a + n))) b).trans ?_
  by_cases h : a ≤ b ∧ b < a + n
  · simp [h, memDefault]
  · rw [if_neg h, if_pos]
    · rfl
    · simp; omega

theorem State.byte_store_other (s : State) (a n v b : Nat) (h : b < a ∨ a + n ≤ b) : (s.store a n v).byte b = s.byte b := by
  induction n generalizing s a v with
  | zero => rfl
  | succ n ih =>
    unfold State.store
    rw [ih _ _ _ (by omega), State.byte_setByte, if_neg (by omega)]

theorem State.load_store (s : State) (a n v : Nat) : (s.store a n v).load a n = v % 256 ^ n := by
  induction n generalizing s a v with
  | zero => simp [State.load, Nat.mod_one]
  | succ n ih =>
    unfold State.store State.load
    rw [ih, State.byte_store_other _ _ _ _ _ (by omega), State.byte_setByte, if_pos rfl, BitVec.toNat_ofNat]
    have h : v % 256 ^ (n + 1) = v % 256 + 256 * (v / 256 % 256 ^ n) := by rw [Nat.pow_succ', Nat.mod_mul]
    exact h.symm

theorem State.abyte_setAbyte (s : State) (a b : Nat) (v : Byte) : (s.setAbyte a v).abyte b = if b = a then v else s.abyte b := Assoc.get_put ..

theorem State.astore_only_amber (s : State) (a n v : Nat) : s.astore a n v = { s with amber := (s.astore a n v).amber } := by
  induction n generalizing s a v with
  | zero => rfl
  | succ n ih => rw [State.astore, ih]; rfl

theorem State.abyte_astore_outside (s : State) (a n v b : Nat) (h : b < a ∨ a + n ≤ b) : (s.astore a n v).abyte b = s.abyte b := by
  induction n generalizing s a v with
  | zero => rfl
  | succ n ih => rw [State.astore, ih _ _ _ (by omega), State.abyte_setAbyte, if_neg (by omega)]
theorem State.aload_astore_outside (s : State) (a n v b m : Nat) (h : b + m ≤ a ∨ a + n ≤ b) : (s.astore a n v).aload b m = s.aload b m := by
  induction m generalizing b with
  | zero => rfl
  | succ m ih => rw [State.aload, State.aload, State.abyte_astore_outside _ _ _ _ _ (by omega), ih _ (by omega)]
theorem State.aload_astore_same (s : State) (a n v : Nat) : (s.astore a n v).aload a n = v % 256 ^ n := by
  induction n generalizing s a v with
  | zero => simp [State.aload, Nat.mod_one]
  | succ n ih =>
    rw [State.astore, State.aload, State.abyte_astore_outside _ _ _ _ _ (by omega), State.abyte_setAbyte, if_pos rfl, ih, Nat.pow_succ, Nat.mul_comm (256 ^ n), Nat.mod_mul,
      BitVec.toNat_ofNat]

/-! Every memory operation keeps the canonical form. -/

theorem State.setByte_mem_wf (s : State) (a : Nat) (v : Byte) (h : Memory.wf s.mem = true) : Memory.wf (s.setByte a v).mem = true :=
  Assoc.wf_put _ _ _ _ h
theorem State.clearMem_mem_wf (s : State) (a n : Nat) (h : Memory.wf s.mem = true) : Memory.wf (s.clearMem a n).mem = true :=
  Assoc.wf_filter _ _ _ h
theorem State.store_mem_wf (s : State) (a n v : Nat) (h : Memory.wf s.mem = true) : Memory.wf (s.store a n v).mem = true := by
  induction n generalizing s a v with
  | zero => exact h
  | succ n ih => exact ih _ _ _ (State.setByte_mem_wf _ _ _ h)
theorem State.setAbyte_amber_wf (s : State) (a : Nat) (v : Byte) (h : Memory.wf s.amber = true) : Memory.wf (s.setAbyte a v).amber = true :=
  Assoc.wf_put _ _ _ _ h
theorem State.azero_amber_wf (s : State) (a n : Nat) (h : Memory.wf s.amber = true) : Memory.wf (s.azero a n).amber = true :=
  Assoc.wf_filter _ _ _ h
theorem State.wr_regs_wf (s : State) (a v : Nat) (h : RegFile.wf s.regs = true) : RegFile.wf (s.wr a v).regs = true := Assoc.wf_put _ _ _ _ h
theorem State.keepRegs_wf (s : State) (p : Nat → Bool) (h : RegFile.wf s.regs = true) : RegFile.wf (s.keepRegs p).regs = true :=
  Assoc.wf_filter _ _ _ h
theorem State.setsh_wf (s : State) (a v : Nat) (h : RegFile.wf s.shadow = true) : RegFile.wf (s.setsh a v).shadow = true :=
  Assoc.wf_put _ _ _ _ h

/-- The tracking table as a save writes it (R417, R418). -/
theorem State.saveTable_wf (s : State) (hm : Memory.wf s.mem = true) (ha : Memory.wf s.amber = true) : Memory.wf s.saveTable.amber = true := by
  unfold State.saveTable
  refine Assoc.wf_append _ _ _ (Assoc.wf_append _ _ _ (Assoc.wf_filter _ _ _ ha) ?_ ?_) (Assoc.wf_filter _ _ _ ha) ?_
  · exact Assoc.wf_shift (· + 0x620000) _ (Assoc.wf_filter _ _ _ hm) fun x _ y _ h => by omega
  · intro x hx y hy
    obtain ⟨z, hz, rfl⟩ := List.mem_map.mp hy
    have h1 := (List.mem_filter.mp hx).2
    have h2 := (List.mem_filter.mp hz).2
    simp only [Bool.and_eq_true, decide_eq_true_eq, Save.table] at h1 h2 ⊢
    omega
  · intro x hx y hy
    have h2 := (List.mem_filter.mp hy).2
    simp only [decide_eq_true_eq, Save.commit] at h2
    rcases List.mem_append.mp hx with hx | hx
    · have h1 := (List.mem_filter.mp hx).2
      simp only [decide_eq_true_eq, Save.table] at h1
      omega
    · obtain ⟨z, hz, rfl⟩ := List.mem_map.mp hx
      have h1 := (List.mem_filter.mp hz).2
      simp only [Bool.and_eq_true, decide_eq_true_eq] at h1 ⊢
      omega

/-- The tracking table as a restore writes it back (R421). -/
theorem State.restoreTable_wf (s : State) (hm : Memory.wf s.mem = true) (ha : Memory.wf s.amber = true) : Memory.wf s.restoreTable.mem = true := by
  unfold State.restoreTable
  refine Assoc.wf_append _ _ _ (Assoc.wf_append _ _ _ (Assoc.wf_filter _ _ _ hm) ?_ ?_) (Assoc.wf_filter _ _ _ hm) ?_
  · refine Assoc.wf_shift (· - 0x620000) _ (Assoc.wf_filter _ _ _ ha) fun x hx y hy h => ?_
    have h1 := (List.mem_filter.mp hx).2
    simp only [Bool.and_eq_true, decide_eq_true_eq, Save.table] at h1
    omega
  · intro x hx y hy
    obtain ⟨z, hz, rfl⟩ := List.mem_map.mp hy
    have h1 := (List.mem_filter.mp hx).2
    have h2 := (List.mem_filter.mp hz).2
    simp only [Bool.and_eq_true, decide_eq_true_eq, Save.table, Save.commit] at h1 h2 ⊢
    omega
  · intro x hx y hy
    have h2 := (List.mem_filter.mp hy).2
    simp only [decide_eq_true_eq] at h2
    rcases List.mem_append.mp hx with hx | hx
    · have h1 := (List.mem_filter.mp hx).2
      simp only [decide_eq_true_eq] at h1
      omega
    · obtain ⟨z, hz, rfl⟩ := List.mem_map.mp hx
      have h1 := (List.mem_filter.mp hz).2
      simp only [Bool.and_eq_true, decide_eq_true_eq, Save.table, Save.commit] at h1 ⊢
      omega

end Sys2Proof.Machine
end

