-- ==== Sys2Proof/Laws/Isa.lean ====
section
/-! SUPPORT. One lemma for the way every engine instruction executes: where `State.runs` holds, `State.runOp` is the effect of
the instruction alone. -/
namespace Sys2Proof.Machine
open Sys2Proof

@[simp] theorem State.eng_setEng (s : State) (e : Fin 512) (f : EngineState → EngineState) : (s.setEng e f).eng e = f (s.eng e) := by
  simp [State.eng, State.setEng]

@[simp] theorem State.setEng_setEng (s : State) (e : Fin 512) (f g : EngineState → EngineState) :
    (s.setEng e f).setEng e g = s.setEng e fun x => g (f x) := by
  simp [State.setEng, Vector.set_set]

theorem EngineState.settle_pc (x : EngineState) : x.settle.pc = x.pc := by
  have h : ∀ (l : List ModeWrite) (y : EngineState), (l.foldl EngineState.applyMode y).pc = y.pc := by
    intro l
    induction l with
    | nil => intro y; rfl
    | cons w l ih => intro y; simp [ih, EngineState.applyMode]
  simp [EngineState.settle, h]

theorem State.settle_fetchAddr (s : State) (e : Fin 512) : (s.setEng e EngineState.settle).fetchAddr e = s.fetchAddr e := by
  simp only [State.fetchAddr, State.eng_setEng, EngineState.settle_pc]

/-- Where no word of [a, a + n) has a soft error, ECC finds nothing. -/
theorem State.uncorrectable_of_softIn {s : State} {a n : Nat} (h : s.softIn a n = []) : s.uncorrectable a n = false := by
  simp [State.uncorrectable, h]

theorem State.eccScan_of_softIn {s : State} {a n : Nat} (h : s.softIn a n = []) : s.eccScan a n = s := by
  simp [State.eccScan, h, forEach]

/-- A range within one that has no soft error has none. -/
theorem State.softIn_mono {s : State} {a n b k : Nat} (h : s.softIn a n = []) (h1 : a ≤ b) (h2 : b + k ≤ a + n) : s.softIn b k = [] := by
  simp only [State.softIn, List.filter_eq_nil_iff] at h ⊢
  intro m hm hb
  refine h m hm ?_
  simp only [eccHits, Bool.and_eq_true, decide_eq_true_eq] at hb ⊢
  omega

/-- Where no word has a soft error, a read from outside the block brings what is stored. -/
theorem State.extLoad_of_softIn {s : State} {a n : Nat} (h : s.softIn a n = []) : s.extLoad a n = s.load a n := by
  induction n generalizing a with
  | zero => rfl
  | succ n ih =>
    have h1 : s.softIn a 1 = [] := State.softIn_mono h (by omega) (by omega)
    have h2 : s.softIn (a + 1) n = [] := State.softIn_mono h (by omega) (by omega)
    simp [State.extLoad, State.load, State.uncorrectable_of_softIn h1, ih h2]

theorem State.settle_fetch (s : State) (e : Fin 512) : (s.setEng e EngineState.settle).fetch e = s.fetch e := by
  simp only [State.fetch, State.settle_fetchAddr]
  rfl

@[simp] theorem State.setEng_load (s : State) (e : Fin 512) (f : EngineState → EngineState) (a n : Nat) :
    (s.setEng e f).load a n = s.load a n := by
  induction n generalizing a with
  | zero => rfl
  | succ n ih => simp only [State.load, ih]; rfl

theorem State.setEng_store (s : State) (e : Fin 512) (f : EngineState → EngineState) (a n v : Nat) :
    (s.setEng e f).store a n v = (s.store a n v).setEng e f := by
  induction n generalizing s a v with
  | zero => rfl
  | succ n ih => rw [State.store, State.store, ← ih (s.setByte a (BitVec.ofNat 8 v))]; rfl

@[simp] theorem State.store_core (s : State) (e : Fin 512) (a n v : Nat) : (s.store a n v).core e = s.core e := by
  induction n generalizing s a v with
  | zero => rfl
  | succ n ih => rw [State.store, ih]; rfl

/-- An instruction that runs has the effect its row gives it, and nothing else. -/
theorem State.runOp_runs {s : State} {e : Fin 512} {o : EngOp} (h : s.runs e o) {pick : EngOp → Option (State → Eff)}
    {act : State → Eff} (hp : pick o = some act) :
    s.runOp e pick = (act (s.setEng e EngineState.settle)).apply s (s.setEng e EngineState.settle) e := by
  obtain ⟨h1, h2, h3, h4, h5, h6⟩ := h
  unfold State.runOp
  rw [if_neg (by simp [h1, h2, h3]), State.eccScan_of_softIn h4]
  simp only [State.badFetch, State.uncorrectable_of_softIn h4, State.settle_fetch, h5, hp, h6]
  simp

/-- An instruction that changes its engine alone ends as `State.afterOp` says. -/
theorem complete_apply (s : State) (e : Fin 512) (f : EngineState → EngineState) :
    (complete e f (s.setEng e EngineState.settle)).apply s (s.setEng e EngineState.settle) e = s.afterOp e (f (s.core e)) := by
  simp only [complete, Eff.apply, State.setEng_setEng, State.setEng_now, State.afterOp, State.core]
  simp [State.setEng, State.eng]

end Sys2Proof.Machine
end

