-- ==== Sys2Proof/Laws/Time.lean ====
section
/-! SUPPORT. Chapter 2: what clearing NET_LOCK and starting a holdover do. -/
namespace Sys2Proof.Machine
open Sys2Proof

theorem State.netUnlock_locked (s : State) (w : Nat) : (s.netUnlock w).timeLocked = false := by
  unfold State.netUnlock State.timeLocked
  dsimp only
  split <;> rename_i h
  · simp (disch := decide) [State.setb, State.incs, State.flag_wr_other, State.flag_err_other, State.flag_setf_same, State.flag_setf_other]
  · simpa using h

theorem State.netUnlock_goodCnt (s : State) (w : Nat) : (s.netUnlock w).fld P.time F.TIME_LOCK_STAT_GOOD_CNT = 0 := by
  unfold State.netUnlock
  dsimp only
  split <;>
    simp (disch := decide) [State.setb, State.incs, State.fld_wr_other, State.fld_err_other, State.fld_setf_same, State.fld_setf_other]

theorem State.netUnlock_was (s : State) (w : Nat) (h : s.timeLocked = true) :
    (s.netUnlock w).fld P.time F.TIME_LOCK_STAT_WHY = w % 8 ∧ (s.netUnlock w).rbit P.time R.PAGE_ERR E.time_UNLOCK = true ∧
    (s.netUnlock w).time = { s.time with holdEnd := none } := by
  have h' : (s.setf P.time F.TIME_LOCK_STAT_GOOD_CNT 0).flag P.time F.TIME_LOCK_STAT_NET_LOCK = true := by
    rw [State.flag_setf_other _ _ _ _ _ _ (by decide) (by decide)]; exact h
  unfold State.netUnlock
  dsimp only
  rw [if_pos h']
  simp (disch := decide) [State.setb, State.incs, State.fld_wr_other, State.fld_err_other, State.fld_setf_same, State.rbit_wr_other, State.rbit_err]

theorem State.netUnlock_rd (s : State) (w a : Nat) (h1 : a ≠ P.time + R.TIME_LOCK_STAT) (h2 : a ≠ P.time + R.PAGE_ERR)
    (h3 : a ≠ P.time + R.TIME_UNLOCK_CNT) : (s.netUnlock w).rd a = s.rd a := by
  unfold State.netUnlock
  dsimp only
  split <;>
    simp (disch := assumption) [State.setb, State.incs, State.rd_wr_other, State.rd_err_other, State.rd_setf_other]

theorem State.netUnlock_commits (s : State) (w : Nat) : (s.netUnlock w).time.commits = s.time.commits ∧ (s.netUnlock w).time.pend = s.time.pend ∧
    (s.netUnlock w).time.tick = s.time.tick := by
  unfold State.netUnlock
  dsimp only
  split <;> simp

end Sys2Proof.Machine
end

