-- ==== Sys2Proof/Tests/Slice0.lean ====
section
/-! SUPPORT. Tests: one ill-formed command for each check of WellFormed, a few values the spec states, and for each
obligation one theorem that exhibits states and operands meeting the hypotheses of its clauses. -/
namespace Sys2Proof.Tests
open Sys2Proof Sys2Proof.Machine
set_option Elab.async false
set_option linter.all false

/-- Engine 0 runs, with the word w at address 0 of its IMEM. -/
def prog (w : Nat) (f : EngineState → EngineState := id) : State :=
  (State.reset.setEng 0 fun x => f { x with st := .running }).store 0x2000000 4 w
/-- Every tick counter stands at a billion. -/
def late : State := (State.reset.setTime fun y => { y with tick := 1000000000 }).setSlates fun y => { y with tick := 1000000000 }
/-- A main-link frame of the given type whose other bytes are 0, with its CRC. -/
def mainFrame (ty : Nat) : FrameRx :=
  let l := bytesOf 1 (16 * ty) ++ List.replicate 61 0
  ⟨true, true, l ++ bytesOf 2 (crcMain l), 0⟩
/-- A sideband frame of the given type whose other bytes are 0, with its CRC. -/
def sideFrame (ty : Nat) : SbRx :=
  let l := bytesOf 1 (16 * ty) ++ List.replicate 13 0
  ⟨true, l ++ bytesOf 1 (crcSide l / 256) ++ bytesOf 1 (crcSide l % 256)⟩
/-- Slate 0 is powered and its carrier runs, with period 6400 taps. -/
def carOn : State :=
  ((late.setSlate 0 fun y => { y with powered := true, safe := false }).setb (P.carrier 0) F.CARRIER_STATUS_RUNNING true).wr
    (P.carrier 0 + R.CARRIER_PERIOD_NOW) 6400
/-- A DSC frame of type 1 of connection 0, from the other side, its CRC off by e. -/
def dscFrame (e : Nat) : List Byte :=
  let l : List Byte := [1, 1] ++ List.replicate 26 0
  l ++ bytesOf 4 (dscCrc 0 l + e) ++ List.replicate 10 0
/-- The handover sessions of page 0 are up at version 4. -/
def hoOff : State :=
  (((late.setb (P.handover 0) F.HO_STATUS_UP_UP true).setb (P.handover 0) F.HO_STATUS_DN_UP true).setf (P.handover 0) F.HO_STATUS_UP_VER 4).setf
    (P.handover 0) F.HO_STATUS_DN_VER 4
/-- Beside that, record 0 is an item of page 0 in the given state. -/
def hoOn (down : Bool) (st : Nat) : State :=
  (hoOff.putRec 0 (16 + st)).setTrack fun y => { y with ho := [{ rec_ := 0, page := 0, down := down }] }

/-! Ill-formed commands. -/

theorem test_wf_main_frame : Instr.wf (.downstreamFrame 0 ⟨true, true, [], 0⟩) = false ∧ Instr.wf (.downstreamFrame 0 (mainFrame 5)) = true := by decide
theorem test_wf_upstream_frame : Instr.wf (.upstreamFrame 0 ⟨true, true, List.replicate 65 0, 0⟩) = false := by decide
theorem test_wf_side_frame : Instr.wf (.sidebandFrameAtSlate 0 ⟨true, List.replicate 15 0⟩) = false ∧
    Instr.wf (.sidebandFrameAtFlint 0 ⟨true, List.replicate 17 0⟩) = false := by decide
theorem test_wf_net_frame : Instr.wf (.frameReceive 0 ⟨List.replicate 59 0, true, 0, none⟩) = false := by decide
theorem test_wf_handover_field : Instr.wf (.offer 0 ⟨16, false, 0, 0, 0, 0, 0, List.replicate 8 0⟩) = false := by decide
theorem test_wf_handover_body : Instr.wf (.commit 0 ⟨4, false, 0, 0, 0, 0, 0, [0]⟩) = false ∧
    Instr.wf (.commit 0 ⟨4, false, 0, 0, 0, 0, 0, List.replicate 8 0⟩) = true := by decide
theorem test_wf_host_buffer : Instr.wf (.txDescriptorFetch 0 ⟨none, some (List.replicate 2049 0)⟩) = false := by decide +kernel
theorem test_wf_host_write : Instr.wf (.hostWrite 0 []) = false ∧ Instr.wf (.hostWrite 0 (List.replicate 257 0)) = false ∧
    Instr.wf (.hostWrite 0 [0, 0, 0, 0]) = true := by decide +kernel
theorem test_wf_host_read : Instr.wf (.hostRead 0 0) = false ∧ Instr.wf (.hostRead 0 512) = true := by decide

/-! Values the spec's worked examples state. -/

/-- R39 and the worked example of chapter 2: guard 500 ns, drift 100 ppb, a measurement of 40 ns leaves 4.6 s. -/
theorem test_hold_left : (((State.reset.setf P.time F.TIME_LOCK_CFG_NET_GUARD 500).wr (P.time + R.TIME_DRIFT_BOUND) 100).holdTicks 40) = 1437500000 := by
  decide +kernel
/-- Worked example of chapter 4: H 250,000 and CMIN 5,000 taps. -/
theorem test_clamp : clampCompare 250000 5000 180000 = 180000 ∧ clampCompare 250000 5000 247000 = 250000 ∧
    clampCompare 250000 5000 3000 = 0 := by decide
/-- Worked example of chapter 6: 10 counts in 15,259 ticks. -/
theorem test_speed : (({ pair := some (0, 0), w := 8192 } : SpeedEst).step false false 10 15259 15625 8192 0).v = 3276755 := by decide +kernel
/-- Table 9-14: MDSET SAT, LOOP #4 +11, MPY A0, D0, D1 with two parallel loads. -/
theorem test_engine_words : decodeEng 0xCA000002 = some (.mdk true 2) ∧ decodeEng 0xF000400B = some (.loop false 0 4 11) ∧
    decodeEng 0x88011121 = some (.mul .mpy 0 0 1 ⟨1, 0, 1⟩ ⟨2, 0, 1⟩) := by decide +kernel
/-- Table 19-11: the READ request of COUNT 2 and SEQ 2,599 is well formed. -/
theorem test_mgmt_request :
    let f : MgmtFrame := { body := [0x11, 0, 2, 0, 0x27, 0x0A, 0, 0, 0x28, 0x30, 0, 0, 0x40, 0x9B, 0x1C, 0x5E] ++ List.replicate 24 0 }
    f.formed = true ∧ f.type = 1 ∧ f.count = 2 ∧ f.seq = 2599 := by decide +kernel
/-- A step with a command in front runs it on the rest; the bits of the table name no command. -/
theorem test_step_takes_front : (match step { State.reset with pending := [.safeReqWrite 1, .domLock] } with
    | .next t => t.pending == [.domLock]
    | _ => false) = true := by decide +kernel
theorem test_no_table_words : decodeTableWord 32 0 = none := rfl

/-! A save record whose check words hold (R421). -/

theorem State.amberCrc_astore_outside (s : State) (a n v b m : Nat) (h : b + m ≤ a ∨ a + n ≤ b) : (s.astore a n v).amberCrc b m = s.amberCrc b m := by
  unfold State.amberCrc
  congr 1
  refine List.map_congr_left fun j hj => State.abyte_astore_outside _ _ _ _ _ ?_
  have := List.mem_range.1 hj
  omega
theorem cfgCrc_lt (l : List Byte) : cfgCrc l < 2 ^ 32 := by
  have hb : ∀ c b, c < 2 ^ 32 → crcBit32 0xEDB88320 c b < 2 ^ 32 := by
    intro c b h
    unfold crcBit32; dsimp only
    split
    · exact Nat.xor_lt_two_pow (by omega) (by omega)
    · omega
  have hf : ∀ (l : List Byte) c, c < 2 ^ 32 →
      l.foldl (fun c b => [0, 1, 2, 3, 4, 5, 6, 7].foldl (fun c k => crcBit32 0xEDB88320 c (b.getLsbD k)) c) c < 2 ^ 32 := by
    intro l
    induction l with
    | nil => exact fun c h => h
    | cons b l ih =>
      intro c h
      refine ih _ ?_
      simp only [List.foldl]
      exact hb _ _ (hb _ _ (hb _ _ (hb _ _ (hb _ _ (hb _ _ (hb _ _ (hb _ _ h)))))))
  exact Nat.xor_lt_two_pow (hf l _ (by decide)) (by decide)
/-- A save record with its two check words. -/
def checked (s : State) : State :=
  let t := s.astore (Save.commit + 8) 4 (s.amberCrc Save.base 0x10000)
  t.astore (Save.commit + 12) 4 (t.amberCrc Save.table 0x800000)
theorem checked_only_amber (s : State) : checked s = { s with amber := (checked s).amber } := by
  unfold checked; dsimp only
  generalize s.amberCrc Save.base 0x10000 = v
  generalize (s.astore (Save.commit + 8) 4 v).amberCrc Save.table 0x800000 = w
  have h1 := State.astore_only_amber s (Save.commit + 8) 4 v
  have h2 := State.astore_only_amber (s.astore (Save.commit + 8) 4 v) (Save.commit + 12) 4 w
  generalize s.astore (Save.commit + 8) 4 v = t at h1 h2 ⊢
  generalize t.astore (Save.commit + 12) 4 w = u at h2 ⊢
  rw [h2, h1]
theorem checked_restoreCode (s : State) (hf : s.flag P.pwr F.PWR_CFG_RESTORE_EN = true) (hm : s.saveRecord = true)
    (hb : s.aload Save.base 4 = 0x56415348) (hv : s.aload (Save.base + 4) 2 = 1)
    (hr : ∀ d : Fin 8, s.aload (Save.base + 64 + 4 * d.val) 4 = s.rd (P.track + R.TRACK_RGN d)) : (checked s).restoreCode = 1 := by
  have e := checked_only_amber s
  have k1 : ∀ A, ({ s with amber := A } : State).flag P.pwr F.PWR_CFG_RESTORE_EN = s.flag P.pwr F.PWR_CFG_RESTORE_EN := fun _ => rfl
  have k2 : ∀ A a, ({ s with amber := A } : State).rd a = s.rd a := fun _ _ => rfl
  have e1 := (congrArg (fun t : State => t.flag P.pwr F.PWR_CFG_RESTORE_EN) e).trans (k1 _)
  have e2 : ∀ a, (checked s).rd a = s.rd a := fun a => (congrArg (fun t : State => t.rd a) e).trans (k2 _ a)
  clear e k1 k2
  have ho : ∀ b m, b + m ≤ Save.commit + 8 → (checked s).aload b m = s.aload b m := by
    intro b m h
    unfold checked; dsimp only
    rw [State.aload_astore_outside _ _ _ _ _ _ (by omega), State.aload_astore_outside _ _ _ _ _ _ (by omega)]
  have hc : ∀ b m, b + m ≤ Save.commit + 8 → (checked s).amberCrc b m = s.amberCrc b m := by
    intro b m h
    unfold checked; dsimp only
    rw [State.amberCrc_astore_outside _ _ _ _ _ _ (by omega), State.amberCrc_astore_outside _ _ _ _ _ _ (by omega)]
  have h8 : (checked s).aload (Save.commit + 8) 4 = s.amberCrc Save.base 0x10000 := by
    unfold checked; dsimp only
    rw [State.aload_astore_outside _ _ _ _ _ _ (by omega), State.aload_astore_same]
    exact Nat.mod_eq_of_lt (cfgCrc_lt _)
  have h12 : (checked s).aload (Save.commit + 12) 4 = s.amberCrc Save.table 0x800000 := by
    unfold checked; dsimp only
    rw [State.aload_astore_same, State.amberCrc_astore_outside _ _ _ _ _ _ (by decide)]
    exact Nat.mod_eq_of_lt (cfgCrc_lt _)
  have ha : ((List.finRange 8).any fun d => (checked s).aload (Save.base + 64 + 4 * d.val) 4 != (checked s).rd (P.track + R.TRACK_RGN d)) = false := by
    rw [List.any_eq_false]
    intro d _
    rw [e2, ho _ _ (by have : Save.base + 64 + 4 * 8 + 4 ≤ Save.commit + 8 := by decide
                       have := d.isLt; omega), hr]
    simp
  have hs : (checked s).saveRecord = true := by
    unfold State.saveRecord; rw [ho 0x1E20000 4 (by decide)]; exact hm
  unfold State.restoreCode; dsimp only
  rw [e1, hf, hs, hc _ _ (by decide), hc _ _ (by decide), h8, h12, ho Save.base 4 (by decide), ho (Save.base + 4) 2 (by decide), hb, hv, ha]
  simp
/-- In BASIC with the images applied and a save record whose check words are still open. -/
def saved : State :=
  (((((State.reset.setb P.pwr F.PWR_CFG_RESTORE_EN true).setf P.sys F.SYS_STATE_STATE 2).setPower fun y => { y with applied := true }).astore 0x1E20000 4 0x544D4F43).astore
    Save.base 4 0x56415348).astore (Save.base + 4) 2 1
theorem checked_stage (s : State) : (checked s).stage = s.stage := by
  have k : ∀ A, ({ s with amber := A } : State).stage = s.stage := fun _ => rfl
  exact (congrArg (fun t : State => t.stage) (checked_only_amber s)).trans (k _)
theorem checked_power (s : State) : (checked s).power = s.power := by
  have k : ∀ A, ({ s with amber := A } : State).power = s.power := fun _ => rfl
  exact (congrArg (fun t : State => t.power) (checked_only_amber s)).trans (k _)
theorem witness_restore_record : ∃ (_us : BitVec 16) (s : State), s.stage = 2 ∧ s.power.applied = true ∧ s.power.restored = false ∧ s.restoreCode = 1 :=
  ⟨0, checked saved, (checked_stage _).trans (by decide +kernel), (congrArg PowerState.applied (checked_power _)).trans (by decide +kernel),
    (congrArg PowerState.restored (checked_power _)).trans (by decide +kernel),
    checked_restoreCode _ (by decide +kernel) (by decide +kernel) (by decide +kernel) (by decide +kernel) (by decide +kernel)⟩

/-- States and operands that meet the hypotheses of `Obligations.StepRunsTheFront`, clause by clause. -/
theorem witness_StepRunsTheFront :
    (∃ (c : Instr) (l : List Instr) (s : State), (s.pending = c :: l)) ∧
    (∃ s : State, (s.pending = [])) ∧
    (∃ s : State, (s.mgmt.job = none) ∧ (s.mgmt.todo = []) ∧ (s.power.save = none) ∧ (s.power.wait = false) ∧ (s.pending = [])) :=
  ⟨⟨.domLock, [], { State.reset with pending := [.domLock] }, by decide +kernel⟩,
   ⟨State.reset, by decide⟩,
   ⟨((((State.reset.setMgmt fun y => { y with job := none }).setMgmt fun y => { y with todo := [] }).setPower fun y => { y with save := none }).setPower fun y => { y with wait := false }), by decide, by decide, by decide, by decide, by decide⟩⟩

/-- States and operands that meet the hypotheses of `Obligations.SoftErrors`, clause by clause. -/
theorem witness_SoftErrors :
    (∃ (a : Nat) (s : State), (s.softIn a 4 = [])) ∧
    (∃ (a : Nat) (s : State), (a % 4 = 0) ∧ (s.uncorrectable a 4 = true)) ∧
    (∃ (g : Nat) (m : Nat × Bool) (s t : State), (s.ecc = [m]) ∧ (regionAt m.1 = .shm g) ∧ (t = s.eccScan m.1 1) ∧ (m.2 = true)) ∧
    (∃ (g : Nat) (m : Nat × Bool) (s t : State), (s.ecc = [m]) ∧ (regionAt m.1 = .shm g) ∧ (t = s.eccScan m.1 1) ∧ (m.2 = false)) ∧
    (∃ (a g : Nat) (s : State) (w : BitVec 26), (w.toNat = a) ∧ (s.hostUp = true) ∧ (s.absent a = false) ∧ (regionAt a = .shm g) ∧ (a % 4 = 0) ∧ (s.mayAccess Req.host a false = true) ∧ (s.softIn a 4 = [])) ∧
    (∃ (a g : Nat) (s : State) (w : BitVec 26), (w.toNat = a) ∧ (s.hostUp = true) ∧ (s.absent a = false) ∧ (regionAt a = .shm g) ∧ (a % 4 = 0) ∧ (s.mayAccess Req.host a false = true) ∧ (s.uncorrectable a 4 = true)) :=
  ⟨⟨0, State.reset, by decide +kernel⟩,
   ⟨0x2004000, State.reset.setEcc [(0x2004000, true)], by decide +kernel, by decide +kernel⟩,
   ⟨0, (0xC00000, true), State.reset.setEcc [(0xC00000, true)], _, by decide +kernel, by decide +kernel, rfl, by decide +kernel⟩,
   ⟨0, (0xC00000, false), State.reset.setEcc [(0xC00000, false)], _, by decide +kernel, by decide +kernel, rfl, by decide +kernel⟩,
   ⟨0xC00000, 0, (State.reset.setb P.host F.HOST_STATUS_LINK_UP true), 0xC00000, by decide +kernel, by decide +kernel, by decide +kernel, by decide +kernel, by decide +kernel, by decide +kernel, by decide +kernel⟩,
   ⟨0xC00000, 0, (State.reset.setb P.host F.HOST_STATUS_LINK_UP true).setEcc [(0xC00000, true)], 0xC00000, by decide +kernel, by decide +kernel, by decide +kernel, by decide +kernel, by decide +kernel, by decide +kernel, by decide +kernel⟩⟩

/-- States and operands that meet the hypotheses of `Obligations.CanonicalFormKept`, clause by clause. -/
theorem witness_CanonicalFormKept :
    (∃ s t : State, (Memory.wf s.mem = true ∧ Memory.wf s.amber = true ∧ RegFile.wf s.regs = true ∧ RegFile.wf s.shadow = true) ∧ (step s = .next t)) :=
  ⟨State.reset, _, by decide +kernel, rfl⟩

/-- States and operands that meet the hypotheses of `Obligations.FusesOnlyBlow`, clause by clause. -/
theorem witness_FusesOnlyBlow :
    (∃ s t : State, (step s = .next t)) ∧
    (∃ s t : State, (step s = .next t) ∧ (s.boot.floor ≤ 63)) ∧
    (∃ s t : State, ∃ i, (step s = .next t) ∧ (s.boot.keys.testBit i = true)) ∧
    (∃ s t : State, ∃ i, (step s = .next t) ∧ (s.boot.revoked.testBit i = true)) :=
  ⟨⟨State.reset, _, rfl⟩,
   ⟨State.reset, _, rfl, by decide +kernel⟩,
   ⟨State.reset.setBoot fun y => { y with keys := 1 }, _, 0, rfl, by decide +kernel⟩,
   ⟨State.reset.setBoot fun y => { y with revoked := 1 }, _, 0, rfl, by decide +kernel⟩⟩

/-- States and operands that meet the hypotheses of `Obligations.QueueAndVariantKept`, clause by clause. -/
theorem witness_QueueAndVariantKept :
    (∃ (c : Instr) (s t : State), (exec c s = .next t)) :=
  ⟨.domLock, State.reset, _, rfl⟩

/-- States and operands that meet the hypotheses of `Obligations.MemoryFrame`, clause by clause. -/
theorem witness_MemoryFrame :
    (∃ (c : Instr) (s t : State), ∃ (a : Nat), (c.mayWriteMem = false) ∧ (exec c s = .next t)) :=
  ⟨.domLock, State.reset, _, 0xC00000, by decide +kernel, rfl⟩

/-- States and operands that meet the hypotheses of `Obligations.AmberFrame`, clause by clause. -/
theorem witness_AmberFrame :
    (∃ (c : Instr) (s t : State), ∃ (a : Nat), (c.mayWriteAmber = false) ∧ (exec c s = .next t)) :=
  ⟨.domLock, State.reset, _, 0, by decide +kernel, rfl⟩

/-- States and operands that meet the hypotheses of `Obligations.LockedWrites`, clause by clause. -/
theorem witness_LockedWrites :
    (∃ (q : Fin 514) (addr : BitVec 26) (v : Word) (k : PageKind) (n : Nat) (s : State), (s.locked = true) ∧ (pageAt addr.toNat = some (k, n)) ∧ (lockable k (addr.toNat % 0x1000) = true)) :=
  ⟨512, 0x81101C, 0, .trc, 0, State.reset.setb P.dom F.DOM_LOCK_LOCK true, by decide +kernel, by decide +kernel, by decide +kernel⟩

/-- States and operands that meet the hypotheses of `Obligations.RefusedAccess`, clause by clause. -/
theorem witness_RefusedAccess :
    (∃ (q a n v : Nat) (w : Bool) (s : State), ∃ t, (s.absent a = false) ∧ (s.mayAccess q a w = false) ∧ (∀ k i, regionAt a = .page k i → n = 4 ∧ a % 4 = 0) ∧ (regionAt a ≠ .unmapped) ∧ (w = true) ∧ (t = (s.busWrite q a n v).st)) ∧
    (∃ (q a n v : Nat) (w : Bool) (s : State), ∃ t, (s.absent a = false) ∧ (s.mayAccess q a w = false) ∧ (∀ k i, regionAt a = .page k i → n = 4 ∧ a % 4 = 0) ∧ (regionAt a ≠ .unmapped) ∧ (w = false) ∧ (t = (s.busRead q a n).st)) ∧
    (∃ (q a : Nat) (w : Bool) (s : State), (a < 2 ^ 26) ∧ (q < 514)) :=
  ⟨⟨0, 0x4000, 4, 0, true, (State.reset.setEng 0 fun y => { y with st := .running }).wr (P.engine 0 + R.PAGE_OWNER) 1, _, by decide +kernel, by decide +kernel, fun _ _ _ => ⟨rfl, rfl⟩, by decide +kernel, rfl, rfl⟩,
   ⟨0, 0x8010, 4, 0, false, (State.reset.setEng 0 fun y => { y with st := .running }).wr (P.engine 0 + R.PAGE_OWNER) 1, _, by decide +kernel, by decide +kernel, fun _ _ _ => ⟨rfl, rfl⟩, by decide +kernel, rfl, rfl⟩,
   ⟨0, 0, false, State.reset, by decide, by decide⟩⟩

/-- States and operands that meet the hypotheses of `Obligations.UnmappedAccess`, clause by clause. -/
theorem witness_UnmappedAccess :
    (∃ (q a n v : Nat) (s : State), (regionAt a = .unmapped ∨ s.absent a = true)) ∧
    (∃ (addr : BitVec 26) (data : List Byte) (s : State), (s.hostUp = true) ∧ (s.absent addr.toNat = false) ∧ (regionAt addr.toNat = .unmapped)) ∧
    (∃ (addr : BitVec 26) (n : Fin 513) (s : State), (s.hostUp = true) ∧ (s.absent addr.toNat = false) ∧ (regionAt addr.toNat = .unmapped)) ∧
    (∃ (addr : BitVec 26) (data : List Byte) (n : Fin 513) (s : State), (s.hostUp = true) ∧ (s.absent addr.toNat = true)) :=
  ⟨⟨512, 0x4001000, 4, 0, State.reset, by decide +kernel⟩,
   ⟨0xB000, [0,0,0,0], (State.reset.setf P.sys F.SYS_STATE_STATE 1).setb P.host F.HOST_STATUS_LINK_UP true, by decide +kernel, by decide +kernel, by decide +kernel⟩,
   ⟨0xB000, 1, (State.reset.setf P.sys F.SYS_STATE_STATE 1).setb P.host F.HOST_STATUS_LINK_UP true, by decide +kernel, by decide +kernel, by decide +kernel⟩,
   ⟨0x180000, [0,0,0,0], 1, { ((State.reset.setf P.sys F.SYS_STATE_STATE 1).setb P.host F.HOST_STATUS_LINK_UP true) with dev := { bv3204 := true } }, by decide +kernel, by decide +kernel⟩⟩

/-- States and operands that meet the hypotheses of `Obligations.TimeAndClocks`, clause by clause. -/
theorem witness_TimeAndClocks :
    (∃ (v : BitVec 2) (s : State), (v.toNat ≥ 2 ∨ decide (v = 1) = s.refActive ∨ s.refOk (decide (v = 1)) = false)) ∧
    (∃ (cab : Bool) (s : State), (cab = s.refActive)) ∧
    (∃ (cab absent : Bool) (s : State), (absent = true)) ∧
    (∃ (ppm : Int) (s : State), ((if s.refActive then s.time.locPresent else s.time.cabPresent) = true)) ∧
    (∃ (v : Word) (s : State), (v.toInt.natAbs ≤ s.netGuard)) ∧
    (∃ (v : Word) (s : State), (v.toInt.natAbs ≤ s.netGuard) ∧ (s.lockCnt ≤ min (s.fld P.time F.TIME_LOCK_STAT_GOOD_CNT + 1) 255)) ∧
    (∃ (v : Word) (s : State), (s.netGuard < v.toInt.natAbs) ∧ (s.masterHolds = true)) ∧
    (∃ (v : Word) (s : State), (s.netGuard < v.toInt.natAbs) ∧ (s.masterHolds = false)) ∧
    (∃ s : State, (s.time.holdEnd = none ∨ s.timeLocked = false ∨ ∃ e, s.time.holdEnd = some e ∧ s.now < e)) ∧
    (∃ (on : Bool) (s : State), (on = true) ∧ (s.flag P.time F.TIME_LOCK_CFG_NET_MASTER = false)) ∧
    (∃ (on : Bool) (s : State), (on = true) ∧ (s.flag P.time F.TIME_LOCK_CFG_NET_MASTER = false) ∧ (s.flag P.clk F.CLK_STATUS_SYS_LOCK = true)) ∧
    (∃ (on : Bool) (s : State), (on = false) ∧ (s.masterHolds = true) ∧ (s.timeLocked = true)) ∧
    (∃ (q : Fin 514) (s : State), ∃ p, (p ≠ q)) ∧
    (∃ (q : Fin 514) (s : State), ∃ p, (p ≠ q)) ∧
    (∃ (v : Word) (s : State), (s.cmtPending = true)) ∧
    (∃ (v : Word) (s : State), (s.cmtPending = false) ∧ (v.toNat % 2 = 0)) ∧
    (∃ (v : Word) (s : State), (s.cmtPending = false) ∧ (v.toNat % 2 = 1)) ∧
    (∃ (s : State) (tn : Nat), (s.time.pend = some tn) ∧ (tn ≤ s.now)) ∧
    (∃ (s : State) (why : Nat), (s.timeLocked = true)) :=
  ⟨⟨0, State.reset, by decide⟩,
   ⟨_, State.reset, rfl⟩,
   ⟨false, _, State.reset, rfl⟩,
   ⟨0, State.reset, by decide⟩,
   ⟨0#32, State.reset, by decide⟩,
   ⟨0, State.reset.setf P.time F.TIME_LOCK_STAT_GOOD_CNT 255, by decide +kernel, by decide +kernel⟩,
   ⟨0x7FFFFFFF, ((State.reset.setb P.time F.TIME_LOCK_CFG_NET_MASTER true).setTime fun y => { y with masterOk := true }).setb P.clk F.CLK_STATUS_SYS_LOCK true, by decide +kernel, by decide +kernel⟩,
   ⟨0x7FFFFFFF, State.reset, by decide +kernel, by decide +kernel⟩,
   ⟨State.reset, by decide⟩,
   ⟨_, (State.reset.setb P.time F.TIME_LOCK_CFG_NET_MASTER false), rfl, by decide⟩,
   ⟨_, ((State.reset.setb P.time F.TIME_LOCK_CFG_NET_MASTER false).setb P.clk F.CLK_STATUS_SYS_LOCK true), rfl, by decide, by decide⟩,
   ⟨false, (((State.reset.setb P.time F.TIME_LOCK_CFG_NET_MASTER true).setTime fun y => { y with masterOk := true }).setb P.clk F.CLK_STATUS_SYS_LOCK true).setb P.time F.TIME_LOCK_STAT_NET_LOCK true, by decide +kernel, by decide +kernel, by decide +kernel⟩,
   ⟨0, State.reset, 1, by decide⟩,
   ⟨0, State.reset, 1, by decide⟩,
   ⟨0, State.reset.setTime fun y => { y with pend := some 0 }, by decide +kernel⟩,
   ⟨0#32, State.reset, by decide, by decide⟩,
   ⟨1, State.reset, by decide, by decide⟩,
   ⟨((State.reset.setTime fun y => { y with tick := 1000000000 }).setTime fun y => { y with pend := some 0 }), 0, by decide, by decide⟩,
   ⟨(State.reset.setb P.time F.TIME_LOCK_STAT_NET_LOCK true), 0, by decide⟩⟩

/-- States and operands that meet the hypotheses of `Obligations.BarrierLinks`, clause by clause. -/
theorem witness_BarrierLinks :
    (∃ (i : Fin 8) (s : State), (s.now % 64 = 0) ∧ ((s.slate i).link.dnAt ≠ some s.now)) ∧
    (∃ (i : Fin 8) (s : State), ((s.slate i).powered = true) ∧ (s.stick i % 64 = 0) ∧ ((s.slate i).link.upAt ≠ some (s.stick i))) ∧
    (∃ (i : Fin 8) (rx : FrameRx) (s : State), ((s.slate i).powered = true) ∧ (frameGood rx 5 = false)) ∧
    (∃ (i : Fin 8) (rx : FrameRx) (s : State), ((s.slate i).powered = true) ∧ (frameGood rx 5 = true) ∧ ((s.slate i).link.dn.up = true)) ∧
    (∃ (i : Fin 8) (rx : FrameRx) (s : State), (frameGood rx 0xA = false)) ∧
    (∃ (i : Fin 8) (rx : FrameRx) (s : State), (frameGood rx 0xA = true) ∧ ((s.slate i).link.up.up = true)) ∧
    (∃ (i : Fin 8) (s : State) (r : FwdRead) (rest : List FwdRead), ((s.slate i).link.reads = r :: rest) ∧ (r.at_ + 1250 ≤ s.now)) ∧
    (∃ (i : Fin 8) (s : State), ((s.slate i).powered = true) ∧ ((s.slate i).link.dn.ever = true) ∧ ((s.slate i).link.dn.fired = false) ∧ ((s.slate i).link.dn.last + (s.slate i).link.dn.tmo < s.stick i)) ∧
    (∃ (i : Fin 8) (s : State), ((s.slate i).link.up.ever = true) ∧ ((s.slate i).link.up.fired = false) ∧ ((s.slate i).link.up.last + (s.slate i).link.up.tmo < s.now)) ∧
    (∃ (i : Fin 8) (s : State), (s.releaseReady i = true)) ∧
    (∃ (i : Fin 8) (s : State), ((s.slate i).link.mark.active = true) ∧ ((s.slate i).link.mark.cnt = 256)) ∧
    (∃ (i : Fin 8) (s : State), (s.fitted i = true) ∧ ((s.slate i).powered = false)) ∧
    (∃ (i : Fin 8) (s : State), ((s.slate i).powered = true)) ∧
    (∃ (i : Fin 8) (s : State), ((s.slate i).powered = true) ∧ ((s.slate i).aligned = true)) ∧
    (∃ (i : Fin 8) (halls : BitVec 64) (pts : BitVec 16) (s : State), ((s.slate i).powered = true)) ∧
    (∃ (i : Fin 8) (rx : SbRx) (s : State), ((s.slate i).powered = true) ∧ (sbChecks rx 0xC = true) ∧ (seqCont (s.slate i).sb.rxSeq (field rx.bytes 0 1 % 16) = true)) ∧
    (∃ (i : Fin 8) (rx : SbRx) (s : State), ((s.slate i).powered = true) ∧ (sbChecks rx 0xC = false)) ∧
    (∃ (i : Fin 8) (s : State), ((s.slate i).powered = true) ∧ ((s.slate i).sb.up = true) ∧ ((s.slate i).sb.lastGood + 31250 ≤ s.stick i)) :=
  ⟨⟨0, State.reset, by decide, by decide⟩,
   ⟨0, (State.reset.setSlate 0 fun y => { y with powered := true }), by decide, by decide, by decide⟩,
   ⟨0, ⟨true, true, [], 0⟩, (State.reset.setSlate 0 fun y => { y with powered := true }), by decide +kernel, by decide +kernel⟩,
   ⟨0, mainFrame 5, (State.reset.setSlate 0 fun y => { y with powered := true, link := { y.link with dn := { y.link.dn with up := true } } }), by decide +kernel, by decide +kernel, by decide +kernel⟩,
   ⟨0, ⟨true, true, [], 0⟩, (State.reset.setSlate 0 fun y => { y with powered := true }), by decide +kernel⟩,
   ⟨0, mainFrame 0xA, (State.reset.setSlate 0 fun y => { y with powered := true, link := { y.link with up := { y.link.up with up := true } } }), by decide +kernel, by decide +kernel⟩,
   ⟨0, (late.setSlate 0 fun y => { y with link := { y.link with reads := [{}] } }), {}, [], by decide +kernel, by decide +kernel⟩,
   ⟨0, (((Tests.late.setSlate (0 : Fin 8) fun y => { y with powered := true }).setSlate (0 : Fin 8) fun y => { y with link := { y.link with dn := { y.link.dn with ever := true } } }).setSlate (0 : Fin 8) fun y => { y with link := { y.link with dn := { y.link.dn with fired := false } } }), by decide +kernel, by decide +kernel, by decide +kernel, by decide +kernel⟩,
   ⟨0, (((State.reset.setTime fun y => { y with tick := 1000000000 }).setSlate 0 fun y => { y with link := { y.link with up := { y.link.up with ever := true } } }).setSlate 0 fun y => { y with link := { y.link with up := { y.link.up with fired := false } } }), by decide, by decide, by decide⟩,
   ⟨0, (((((State.reset.setb (P.link 0) F.LINK_CTRL_RELEASE true).setb (P.link 0) F.LINK_STATUS_UP_UP true).setb (P.link 0) F.LINK_STATUS_DN_UP true).setb (P.link 0) F.LINK_STATUS_REPLAY_DONE true).setb P.time (F.TIME_ALIGN_ALIGNED 0) true), by decide +kernel⟩,
   ⟨0, ((State.reset.setSlate 0 fun y => { y with link := { y.link with mark := { y.link.mark with active := true } } }).setSlate 0 fun y => { y with link := { y.link with mark := { y.link.mark with cnt := 256 } } }), by decide, by decide⟩,
   ⟨0, (State.reset.setSlate 0 fun y => { y with powered := false }), by decide, by decide⟩,
   ⟨0, (State.reset.setSlate 0 fun y => { y with powered := true }), by decide⟩,
   ⟨0, ((State.reset.setSlate 0 fun y => { y with powered := true }).setSlate 0 fun y => { y with aligned := true }), by decide, by decide⟩,
   ⟨0, 0, 0, (State.reset.setSlate 0 fun y => { y with powered := true }), by decide⟩,
   ⟨0, sideFrame 0xC, (State.reset.setSlate 0 fun y => { y with powered := true }), by decide +kernel, by decide +kernel, by decide +kernel⟩,
   ⟨0, sideFrame 0xB, (State.reset.setSlate 0 fun y => { y with powered := true }), by decide +kernel, by decide +kernel⟩,
   ⟨0, ((Tests.late.setSlate (0 : Fin 8) fun y => { y with powered := true }).setSlate (0 : Fin 8) fun y => { y with sb := { y.sb with up := true } }), by decide +kernel, by decide +kernel, by decide +kernel⟩⟩

/-- States and operands that meet the hypotheses of `Obligations.LinkDirection`, clause by clause. -/
theorem witness_LinkDirection :
    (∃ (r : RxDir) (l : List Nat), (l.length = 16)) ∧
    (∃ (r : RxDir) (l : List Nat), (l.length = 4)) ∧
    (∃ (r : RxDir) (q : Nat), (r.up = false) ∧ (r.good < 15)) :=
  ⟨⟨{}, List.replicate 16 0, by decide +kernel⟩,
   ⟨{ up := true }, List.replicate 4 0, by decide +kernel⟩,
   ⟨{}, 0, by decide +kernel, by decide +kernel⟩⟩

/-- States and operands that meet the hypotheses of `Obligations.PwmCommands`, clause by clause. -/
theorem witness_PwmCommands :
    (∃ (i : Fin 8) (v : BitVec 2) (s : State), (v = 1) ∧ (s.flag (P.carrier i) F.CARRIER_CTRL_RUN = false)) ∧
    (∃ (i : Fin 8) (v : BitVec 2) (s : State), (v = 0) ∧ (s.flag (P.carrier i) F.CARRIER_CTRL_RUN = true) ∧ ((s.slate i).car.pend = none)) ∧
    (∃ (i : Fin 8) (s : State), (s.carRun i = false)) ∧
    (∃ (i : Fin 8) (s : State), (s.carRun i = true)) ∧
    (∃ (i : Fin 8) (s : State), (s.carRun i = true) ∧ (s.reached i (s.slate i).car.next = true) ∧ ((s.slate i).car.pend = none)) ∧
    (∃ (a : Fin 64) (s : State) (tap p : Nat), (s.nextEdge a = some (tap, p)) ∧ (s.reached (slateOf a) tap = true)) ∧
    (∃ (a : Fin 64) (s : State), ((s.pwm a).updEdge = true)) ∧
    (∃ (a : Fin 64) (s : State), ((s.pwm a).updEdge = false) ∧ ((s.pwm a).updCentre = true) ∧ (s.carDouble (slateOf a) = true) ∧ (s.reached (slateOf a) ((s.pwm a).perStart + (s.pwm a).perT / 2) = true)) ∧
    (∃ (a : Fin 64) (s : State) (u : Nat), ((s.pwm a).start = .boot u) ∧ (u / 64 ≤ s.stick (slateOf a))) ∧
    (∃ (a : Fin 64) (src : Fin 3) (s : State), (src ≠ 0)) ∧
    (∃ (a : Fin 64) (s : State), (s.flag (P.pwm a) F.PWM_TRIP_STAT_LATCH = true) ∧ (s.anyQualified a = false)) ∧
    (∃ (a : Fin 64) (s : State), (s.anyQualified a = true)) ∧
    (∃ (a : Fin 64) (v : BitVec 7) (s : State), (v.toNat % 2 = 1) ∧ (s.pwmEnabled a = false)) ∧
    (∃ (a : Fin 64) (v : BitVec 7) (s : State), (v.toNat % 2 = 0)) ∧
    (∃ (a : Fin 64) (v : BitVec 24) (s : State), ((s.wr (P.pwm a + R.PWM_PHASE) v.toNat).pwmEnabled a = true)) ∧
    (∃ (a : Fin 64) (v : BitVec 24) (s : State), ((s.wr (P.pwm a + R.PWM_PHASE) v.toNat).pwmEnabled a = false)) ∧
    (∃ (a : Fin 64) (k : Fin 3) (low : Bool) (s : State), ((s.pwm a).act = true) ∧ ((s.pwm a).tripPer = false) ∧ (s.heldOff a k = false) ∧ ((s.pwm a).hb[k].ref = true) ∧ (refHigh (s.pwm a).perT (s.pwm a).hb[k].c1 (s.pwm a).hb[k].c2 (s.pwm a).hb[k].c1 = false) ∧ (s.reached (slateOf a) (s.placed (slateOf a) (hbOut a k false) ((s.pwm a).perStart + (s.pwm a).hb[k].c1)) = true)) ∧
    (∃ (a : Fin 64) (k : Fin 3) (low : Bool) (s : State), ((s.pwm a).act = true) ∧ ((s.pwm a).tripPer = false) ∧ (s.heldOff a k = false) ∧ ((s.pwm a).hb[k].ref = true) ∧ (s.reached (slateOf a) (s.placed (slateOf a) (hbOut a k false) (s.pwm a).hb[k].onAt) = true)) ∧
    (∃ (i : Fin 8) (k : Fin 49) (delta : Int) (bad : Bool) (s : State), (s.edgeNear i k = false)) ∧
    (∃ (i : Fin 8) (k : Fin 49) (delta : Int) (bad : Bool) (s : State), (s.edgeNear i k = false) ∧ (((s.slate i).dl[k]).twin = true)) ∧
    (∃ (i : Fin 8) (s : State), ((s.slate i).calRun = true)) ∧
    (∃ (i : Fin 8) (s : State), ((s.slate i).chop.next ≤ (s.slate i).tick) ∧ (s.fld (P.chop i) F.CHOP_CTRL_MODE = 0)) ∧
    (∃ (i : Fin 8) (s : State), (s.chopSeen i true = true) ∧ (s.flag (P.chop i) F.CHOP_CTRL_OCP_EN = true) ∧ ((s.slate i).chop.tripNow = true)) :=
  ⟨⟨0, _, (State.reset.setb (P.carrier 0) F.CARRIER_CTRL_RUN false), rfl, by decide⟩,
   ⟨0, _, ((State.reset.setb (P.carrier 0) F.CARRIER_CTRL_RUN true).setSlate 0 fun y => { y with car := { y.car with pend := none } }), rfl, by decide, by decide⟩,
   ⟨0, State.reset, by decide⟩,
   ⟨0, carOn, by decide +kernel⟩,
   ⟨0, carOn, by decide +kernel, by decide +kernel, by decide +kernel⟩,
   ⟨0, carOn.setPwm 0 fun y => { y with edges := [(64, 6400)] }, 64, 6400, by decide +kernel, by decide +kernel⟩,
   ⟨0, (State.reset.setPwm 0 fun y => { y with updEdge := true }), by decide⟩,
   ⟨0, (carOn.setb (P.carrier 0) F.CARRIER_STATUS_DOUBLE_NOW true).setPwm 0 fun y => { y with updCentre := true }, by decide +kernel, by decide +kernel, by decide +kernel, by decide +kernel⟩,
   ⟨0, (Tests.late.setPwm (0 : Fin 64) fun y => { y with start := .boot 0 }), 0, by decide +kernel, by decide +kernel⟩,
   ⟨0, 1, State.reset, by decide⟩,
   ⟨0, (State.reset.setb (P.pwm 0) F.PWM_TRIP_STAT_LATCH true), by decide, by decide⟩,
   ⟨0, (late.wr (P.pwm 0 + R.PWM_TRIP_CFG) 2).setPwm 0 fun y => { y with since := y.since.set 1 (some 0) }, by decide +kernel⟩,
   ⟨0, 1, State.reset, by decide, by decide⟩,
   ⟨0, 0, State.reset, by decide⟩,
   ⟨0, 0, State.reset.setb (P.pwm 0) F.PWM_CTRL_EN true, by decide +kernel⟩,
   ⟨0, 0, State.reset, by decide⟩,
   ⟨0, 0, false, carOn.setPwm 0 fun y => { y with act := true, perT := 6400, hb := y.hb.set 0 { ref := true, c1 := 6000 } }, by decide +kernel, by decide +kernel, by decide +kernel, by decide +kernel, by decide +kernel, by decide +kernel⟩,
   ⟨0, 0, false, carOn.setPwm 0 fun y => { y with act := true, perT := 6400, hb := y.hb.set 0 { ref := true, onAt := 64 } }, by decide +kernel, by decide +kernel, by decide +kernel, by decide +kernel, by decide +kernel⟩,
   ⟨0, 0, 0, false, State.reset, by decide⟩,
   ⟨0, 0, 0, false, State.reset.setSlate 0 fun y => { y with dl := y.dl.set 0 { twin := true } }, by decide +kernel, by decide +kernel⟩,
   ⟨0, (State.reset.setSlate 0 fun y => { y with calRun := true }), by decide⟩,
   ⟨0, (State.reset.setf (P.chop 0) F.CHOP_CTRL_MODE (0)), by decide, by decide⟩,
   ⟨0, (carOn.setb (P.chop 0) F.CHOP_CTRL_OCP_EN true).setSlate 0 fun y => { y with chop := { y.chop with tripNow := true, ocp := some 0 } }, by decide +kernel, by decide +kernel, by decide +kernel⟩⟩

/-- States and operands that meet the hypotheses of `Obligations.StagedPeriod`, clause by clause. -/
theorem witness_StagedPeriod :
    (∃ (i : Fin 8) (s : State), (200000 ≤ bits (s.rd (P.carrier i + R.CARRIER_PERIOD)) 1 23 * 2 ∧ bits (s.rd (P.carrier i + R.CARRIER_PERIOD)) 1 23 * 2 ≤ 2500000) ∧ (bits (s.rd (P.carrier i + R.CARRIER_MODE)) 0 1 = 1 → 250000 ≤ bits (s.rd (P.carrier i + R.CARRIER_PERIOD)) 1 23 * 2) ∧ (∀ a ∈ axesOf i, s.pwmEnabled a = true → (s.pwm a).phase < bits (s.rd (P.carrier i + R.CARRIER_PERIOD)) 1 23 * 2)) ∧
    (∃ (i : Fin 8) (s : State), (bits (s.rd (P.carrier i + R.CARRIER_PERIOD)) 1 23 * 2 < 200000 ∨ 2500000 < bits (s.rd (P.carrier i + R.CARRIER_PERIOD)) 1 23 * 2)) :=
  ⟨⟨0, State.reset, by decide, by decide, by decide⟩,
   ⟨0, State.reset.wr (P.carrier 0 + R.CARRIER_PERIOD) 0, by decide +kernel⟩⟩

/-- States and operands that meet the hypotheses of `Obligations.CompareClamp`, clause by clause. -/
theorem witness_CompareClamp :
    (∃ h cmin c : Nat, (h ≤ c)) ∧
    (∃ h cmin c : Nat, (c < h) ∧ (c < cmin)) ∧
    (∃ h cmin c : Nat, (c < h) ∧ (cmin ≤ c) ∧ ((h : Int) - cmin < c)) ∧
    (∃ h cmin c : Nat, (c < h) ∧ (cmin ≤ c) ∧ ((c : Int) ≤ (h : Int) - cmin)) ∧
    (∃ (a : Fin 64) (edge : Bool) (c : CmpSet) (k : Fin 3) (f : Nat → Nat) (s : State), (f = clampCompare ((s.pwm a).perT / 2) ((s.pwm a).dt + (s.pwm a).minon))) ∧
    (∃ (a : Fin 64) (edge : Bool) (c : CmpSet) (k : Fin 3) (f : Nat → Nat) (s : State), (f = clampCompare ((s.pwm a).perT / 2) ((s.pwm a).dt + (s.pwm a).minon)) ∧ (edge = true)) ∧
    (∃ (a : Fin 64) (edge : Bool) (c : CmpSet) (k : Fin 3) (f : Nat → Nat) (s : State), (f = clampCompare ((s.pwm a).perT / 2) ((s.pwm a).dt + (s.pwm a).minon)) ∧ (edge = false)) ∧
    (∃ (a : Fin 64) (k : Fin 3) (v : Nat) (s : State), (v = clampCompare (s.carT (slateOf a) / 2) ((s.pwm a).dt + (s.pwm a).minon) (bits (s.rd (P.pwm a + R.PWM_CMP_INIT)) 0 24))) ∧
    (∃ h cmin c d : Nat, (c ≤ d)) ∧
    (∃ t c1 c2 : Nat, (c1 + c2 ≤ t)) :=
  ⟨⟨0, 0, 0, by decide⟩,
   ⟨10, 2, 1, by decide +kernel, by decide +kernel⟩,
   ⟨10, 2, 9, by decide +kernel, by decide +kernel, by decide +kernel⟩,
   ⟨10, 2, 8, by decide +kernel, by decide +kernel, by decide +kernel⟩,
   ⟨0, true, {}, 0, _, State.reset, rfl⟩,
   ⟨0, true, {}, 0, _, State.reset, rfl, rfl⟩,
   ⟨0, false, {}, 0, _, State.reset, rfl, rfl⟩,
   ⟨0, 0, _, State.reset, rfl⟩,
   ⟨0, 0, 0, 0, by decide⟩,
   ⟨0, 0, 0, by decide⟩⟩

/-- States and operands that meet the hypotheses of `Obligations.GateAndSampling`, clause by clause. -/
theorem witness_GateAndSampling :
    (∃ (i : Fin 8) (k : Fin 49) (s : State), ((s.out i k).ph = .pre)) ∧
    (∃ (i : Fin 8) (k : Fin 49) (s : State), ((s.out i k).ph = .slope)) ∧
    (∃ (i : Fin 8) (k : Fin 49) (s : State), ((s.out i k).ph = .slope) ∧ ((s.out i k).onTick + 4 * max 2 (bits (s.out i k).prof 24 8) ≤ s.stick i)) ∧
    (∃ (i : Fin 8) (k : Fin 48) (s : State), ((s.out i k.castSucc).ph = .wait) ∧ ((s.out i (otherOut k.castSucc)).cmd = false) ∧ ((s.out i (otherOut k.castSucc)).offTap + 400 ≤ 64 * s.stick i + 63)) ∧
    (∃ (i : Fin 8) (k : Fin 48) (s : State), ((s.out i k.castSucc).ph = .wait) ∧ ((s.out i k.castSucc).glock = false) ∧ ((s.out i k.castSucc).onTick + 625 < s.stick i)) ∧
    (∃ (i : Fin 8) (s : State), (s.flag (P.gate i) F.GATE_STATUS_VGD_UV = true) ∧ (s.gsSettled i = true) ∧ ((s.slate i).vgdRep = false)) ∧
    (∃ (i : Fin 8) (k : Fin 49) (a : Fin 64) (s : State), (outAxis i k = some a) ∧ (bits (s.out i k).prot 8 1 = 1) ∧ ((s.out i k).cmd = true) ∧ ((s.out i k).ph = .hold)) ∧
    (∃ (i : Fin 8) (k : Fin 49) (a : Fin 64) (s : State), (outAxis i k = some a)) ∧
    (∃ (n : Fin 8) (i : Fin 8) (on : Bool) (s : State), (s.fld (P.adc i) (F.ADC_AXCFG_OCP_TH n.val) ≠ 0)) ∧
    (∃ (a : Fin 64) (edge : Bool) (s : State), (s.samplingDue a edge = true) ∧ (s.spdDiv a = 0) ∧ (isSerial (s.fbModeNow a) = false)) ∧
    (∃ (a : Fin 64) (iu iv iw : Int) (vbus : Nat) (s : State), ((s.pwm a).conv = true)) ∧
    (∃ (i n : Fin 8) (s : State), (s.pwmEnabled (axisOf i n) = false)) ∧
    (∃ (i n : Fin 8) (u v w : BitVec 16) (s : State), (s.rbit (P.adc i) R.ADC_CAL n.val = true)) ∧
    (∃ (i : Fin 8) (k : Nat) (v : BitVec 16) (s : State), (s.bgDue i .vgd k = true)) ∧
    (∃ (i : Fin 8) (k : Nat) (v : BitVec 16) (s : State), (s.bgDue i .temp k = true) ∧ (toSigned 16 (s.rd (P.adc i + R.ADC_TEMP_WARN)) < toSigned 16 v.toNat)) ∧
    (∃ (i : Fin 8) (k : Nat) (v : BitVec 16) (s : State), (s.bgDue i .ain0 k = true)) :=
  ⟨⟨0, 0, (State.reset.setOut 0 0 fun y => { y with ph := .pre }), by decide⟩,
   ⟨0, 0, (State.reset.setOut 0 0 fun y => { y with ph := .slope }), by decide⟩,
   ⟨0, 0, (Tests.late.setOut (0 : Fin 8) (0 : Fin 49) fun y => { y with ph := .slope }), by decide +kernel, by decide +kernel⟩,
   ⟨0, 0, ((Tests.late.setOut (0 : Fin 8) (0 : Fin 48).castSucc fun y => { y with ph := .wait }).setOut (0 : Fin 8) (otherOut (0 : Fin 48).castSucc) fun y => { y with cmd := false }), by decide +kernel, by decide +kernel, by decide +kernel⟩,
   ⟨0, 0, ((Tests.late.setOut (0 : Fin 8) (0 : Fin 48).castSucc fun y => { y with ph := .wait }).setOut (0 : Fin 8) (0 : Fin 48).castSucc fun y => { y with glock := false }), by decide +kernel, by decide +kernel, by decide +kernel⟩,
   ⟨0, (carOn.setb (P.gate 0) F.GATE_STATUS_VGD_UV true).setb (P.gate 0) F.GATE_STATUS_GS_ON true, by decide +kernel, by decide +kernel, by decide +kernel⟩,
   ⟨0, 0, 0, State.reset.setSlate 0 fun y => { y with outs := y.outs.set 0 { prot := 256, cmd := true, ph := .hold } }, by decide +kernel, by decide +kernel, by decide +kernel, by decide +kernel⟩,
   ⟨0, 0, 0, State.reset, by decide⟩,
   ⟨0, 0, false, (State.reset.setf (P.adc (0 : Fin 8)) (F.ADC_AXCFG_OCP_TH (0 : Fin 8).val) (1)), by decide⟩,
   ⟨0, false, (carOn.setf (P.fb 0) F.FB_SPD_CFG_DIV 0).setPwm 0 fun y => { y with perT := 6400 }, by decide +kernel, by decide +kernel, by decide +kernel⟩,
   ⟨0, 0, 0, 0, 0, (State.reset.setPwm 0 fun y => { y with conv := true }), by decide⟩,
   ⟨0, 0, State.reset, by decide⟩,
   ⟨0, 0, 0, 0, 0, (State.reset.setbit (P.adc (0 : Fin 8)) R.ADC_CAL (0 : Fin 8).val true), by decide⟩,
   ⟨0, 0, 0, State.reset, by decide⟩,
   ⟨0, 0, 0x7FFF, State.reset.wr (P.adc 0 + R.ADC_TEMP_WARN) 1, by decide +kernel, by decide +kernel⟩,
   ⟨0, 0, 0, State.reset, by decide⟩⟩

/-- States and operands that meet the hypotheses of `Obligations.GateInterlock`, clause by clause. -/
theorem witness_GateInterlock :
    (∃ (i : Fin 8) (k : Fin 49) (tap : Nat) (low : Bool) (s : State), (k.val < 48) ∧ ((s.out i k).cmd = false) ∧ ((s.out i (otherOut k)).cmd = true)) :=
  ⟨0, 0, 0, false, ((State.reset.setOut 0 0 fun y => { y with cmd := false }).setOut 0 (otherOut 0) fun y => { y with cmd := true }), by decide, by decide, by decide⟩

/-- States and operands that meet the hypotheses of `Obligations.FeedbackAndSensors`, clause by clause. -/
theorem witness_FeedbackAndSensors :
    (∃ (a : Fin 64) (lands : BitVec 3) (t0 : Nat) (s : State), (fbHallRead (s.fbCtrl a) = true) ∧ (t0 + max (8 * bits (s.fbCtrl a) 20 8) 1 ≤ s.stick (slateOf a) + 1) ∧ (lands.toNat ≠ (s.fb a).hall)) ∧
    (∃ (a : Fin 64) (la lb : Bool) (t0 : Nat) (s : State), (s.fbModeNow a = 2) ∧ (t0 + bits (s.fbCtrl a) 16 3 ≤ s.stick (slateOf a)) ∧ ((quadIndex la lb + 4 - quadIndex (s.fb a).a (s.fb a).b) % 4 = 1)) ∧
    (∃ (a : Fin 64) (la lb : Bool) (t0 : Nat) (s : State), (s.fbModeNow a = 2) ∧ (t0 + bits (s.fbCtrl a) 16 3 ≤ s.stick (slateOf a)) ∧ ((quadIndex la lb + 4 - quadIndex (s.fb a).a (s.fb a).b) % 4 = 3)) ∧
    (∃ (a : Fin 64) (la lb : Bool) (t0 : Nat) (s : State), (s.fbModeNow a = 2) ∧ (t0 + bits (s.fbCtrl a) 16 3 ≤ s.stick (slateOf a)) ∧ ((quadIndex la lb + 4 - quadIndex (s.fb a).a (s.fb a).b) % 4 = 2)) ∧
    (∃ (a : Fin 64) (t0 : Nat) (s : State), (s.fbModeNow a = 2) ∧ (t0 + bits (s.fbCtrl a) 16 3 ≤ s.stick (slateOf a)) ∧ (idxQual (bits (s.fbCtrl a) 11 2) (s.fb a).a (s.fb a).b = true) ∧ (bits (s.fbCtrl a) 9 2 = 2)) ∧
    (∃ (a : Fin 64) (v : BitVec 28) (lands : BitVec 5) (s : State), (isSerial (fbMode (v.toNat &&& 0xFF71FFF)) = false)) ∧
    (∃ (a : Fin 64) (v : Word) (s : State), (isSerial (s.fbModeNow a) = false)) ∧
    (∃ (a : Fin 64) (v : Word) (s : State), (isSerial (s.fbModeNow a) = false) ∧ (bits v.toNat 31 1 = 0)) ∧
    (∃ (a : Fin 64) (s : State), (isSerial (s.fbModeNow a) = false) ∧ (bits (s.rd (P.fb a + R.FB_PRESET_POS)) 0 31 < (s.fb a).w)) ∧
    (∃ (a : Fin 64) (s : State), (625 * max 1 (s.fld (P.fb a) F.FB_SPD_CFG_STILL_TMO) < 2 * (s.stick (slateOf a) - (s.fb a).lastChange))) ∧
    (∃ (a : Fin 64) (s : State), (isSerial (s.fbModeNow a) = true) ∧ ((s.fb a).reqDue = true) ∧ ((s.fb a).serBusy = false) ∧ (2 * (s.fb a).serEnd + 625 * max 1 (s.fld (P.fb a) F.FB_SER_CLK_GAP_US) ≤ 2 * s.stick (slateOf a))) ∧
    (∃ (a : Fin 64) (start : Bool) (raw raw2 : BitVec 64) (s : State), ((s.fb a).serBusy = true)) :=
  ⟨⟨0, 1, 0, (carOn.wr (P.fb 0 + R.FB_CTRL) 1), by decide +kernel, by decide +kernel, by decide +kernel⟩,
   ⟨0, true, false, 0, (carOn.wr (P.fb 0 + R.FB_CTRL) 2), by decide +kernel, by decide +kernel, by decide +kernel⟩,
   ⟨0, false, true, 0, (carOn.wr (P.fb 0 + R.FB_CTRL) 2), by decide +kernel, by decide +kernel, by decide +kernel⟩,
   ⟨0, true, true, 0, (carOn.wr (P.fb 0 + R.FB_CTRL) 2), by decide +kernel, by decide +kernel, by decide +kernel⟩,
   ⟨0, 0, (carOn.wr (P.fb 0 + R.FB_CTRL) 0x402), by decide +kernel, by decide +kernel, by decide +kernel, by decide +kernel⟩,
   ⟨0, 0, 0, State.reset, by decide⟩,
   ⟨0, 0#32, State.reset, by decide⟩,
   ⟨0, 0#32, State.reset, by decide, by decide⟩,
   ⟨0, State.reset, by decide, by decide⟩,
   ⟨0, late, by decide +kernel⟩,
   ⟨0, (carOn.wr (P.fb 0 + R.FB_CTRL) 3).setFb 0 fun y => { y with reqDue := true }, by decide +kernel, by decide +kernel, by decide +kernel, by decide +kernel⟩,
   ⟨0, false, 0, 0, (State.reset.setFb 0 fun y => { y with serBusy := true }), by decide⟩⟩

/-- States and operands that meet the hypotheses of `Obligations.CountingLaw`, clause by clause. -/
theorem witness_CountingLaw :
    (∃ f : FbPort, (f.p < f.w) ∧ (f.pendW = none) ∧ (-(2 ^ 31) ≤ f.turn) ∧ (f.turn + 1 < 2 ^ 31)) ∧
    (∃ f : FbPort, (f.p < f.w) ∧ (f.pendW = none) ∧ (-(2 ^ 31) < f.turn) ∧ (f.turn < 2 ^ 31)) :=
  ⟨⟨{}, by decide +kernel, by decide +kernel, by decide +kernel, by decide +kernel⟩,
   ⟨{}, by decide +kernel, by decide +kernel, by decide +kernel, by decide +kernel⟩⟩

/-- States and operands that meet the hypotheses of `Obligations.ControlGraphs`, clause by clause. -/
theorem witness_ControlGraphs :
    (∃ (q : Fin 514) (g : Fin 16) (off : Fin 8192) (sz : Fin 4) (v : BitVec 64) (s : State), (s.accessOk q.val (descBase g + off) true = true) ∧ (s.descAxis ((descBase g + off - 0x400000) / 0x40000) (((descBase g + off) % 0x40000 - 0x2000) / 64) = none)) ∧
    (∃ (q : Fin 514) (g : Fin 16) (off : Fin 8192) (sz : Fin 4) (v : BitVec 64) (s : State), ∃ a, (s.accessOk q.val (descBase g + off) true = true) ∧ (s.descAxis ((descBase g + off - 0x400000) / 0x40000) (((descBase g + off) % 0x40000 - 0x2000) / 64) = some a) ∧ (s.descLive a (((descBase g + off) % 0x40000 - 0x2000) / 64) = false) ∧ (s.flag (P.loop a) F.LOOP_CTRL_HOLD = false)) ∧
    (∃ (q : Fin 514) (g : Fin 16) (off : Fin 8192) (sz : Fin 4) (v : BitVec 64) (s : State), ∃ a, (s.accessOk q.val (descBase g + off) true = true) ∧ (s.descAxis ((descBase g + off - 0x400000) / 0x40000) (((descBase g + off) % 0x40000 - 0x2000) / 64) = some a) ∧ (s.descLive a (((descBase g + off) % 0x40000 - 0x2000) / 64) = true) ∧ (((descBase g + off) % 0x40000 - 0x2000) % 64 < 12)) ∧
    (∃ (a : Fin 64) (s : State), (s.flag (P.loop a) F.LOOP_CTRL_HOLD = true)) ∧
    (∃ (a : Fin 64) (s : State), (s.evaluating a = false)) ∧
    (∃ (a : Fin 64) (s u : State), ∃ i r, (s.evaluating a = false) ∧ (s.flag (P.loop a) F.LOOP_CTRL_APPLY = true) ∧ (u = (s.setb (P.loop a) F.LOOP_CTRL_APPLY false).setb (P.loop a) F.LOOP_STATUS_APPLY_PEND false) ∧ (u.validate a = some (i, r))) ∧
    (∃ (a : Fin 64) (s u : State), (s.evaluating a = false) ∧ (s.flag (P.loop a) F.LOOP_CTRL_APPLY = true) ∧ (u = (s.setb (P.loop a) F.LOOP_CTRL_APPLY false).setb (P.loop a) F.LOOP_STATUS_APPLY_PEND false) ∧ (u.validate a = none)) ∧
    (∃ (a : Fin 64) (on : Bool) (s : State), (on = s.loopRun a)) ∧
    (∃ (a : Fin 64) (on : Bool) (s : State), (on = false) ∧ (s.loopRun a = true)) ∧
    (∃ (a : Fin 64) (on : Bool) (s : State), (on = true) ∧ (s.loopRun a = false)) ∧
    (∃ (g : Fin 16) (j : Fin 4) (v : Word) (s : State), (s.locked = false) ∧ (bits v.toNat 0 7 + bits v.toNat 16 8 ≤ 128) ∧ (∀ k, k < 4 → k ≠ j.val → bits (s.rd (P.loopunit g + R.LU_DESC_RANGE k)) 16 8 = 0)) ∧
    (∃ (a : Fin 64) (set : SampleSet) (s u : State), ((s.loopOf a).pend = some set) ∧ (s.evaluating a = false) ∧ ((s.evalStart a set).2 ≤ s.now) ∧ (s.loopRun a = true) ∧ (u = (s.flushDesc a).applyGraph a) ∧ ((u.loopOf a).graph = none)) ∧
    (∃ (a : Fin 64) (set : SampleSet) (s u : State), ((s.loopOf a).pend = some set) ∧ (s.evaluating a = false) ∧ ((s.evalStart a set).2 ≤ s.now) ∧ (s.loopRun a = true) ∧ (u = (s.flushDesc a).applyGraph a) ∧ (u.stage ≠ 3) ∧ (u.stage ≠ 2 ∨ (u.loopOf a).basic = false) ∧ ((u.loopOf a).graph ≠ none)) ∧
    (∃ (a : Fin 64) (set : SampleSet) (s u : State), ∃ g, ((s.loopOf a).pend = some set) ∧ (s.evaluating a = false) ∧ ((s.evalStart a set).2 ≤ s.now) ∧ (s.loopRun a = true) ∧ (u = (s.flushDesc a).applyGraph a) ∧ ((u.loopOf a).graph = some g) ∧ (u.stage = 3 ∨ (u.stage = 2 ∧ (u.loopOf a).basic = true))) ∧
    (∃ (a : Fin 64) (e : EvalWait) (s : State), ((s.loopOf a).wait = some e) ∧ (e.at_ + e.tmo ≤ s.now)) ∧
    (∃ (g : Fin 16) (r : Nat × List Word) (a : Fin 64) (s : State), ((s.replies.find? fun r => r.1 == g.val) = some r) ∧ (axis? ((r.2.headD 0).toNat / 2 ^ 24) = some a) ∧ (groveOf a = g.val) ∧ ((s.loopOf a).wait = none)) ∧
    (∃ (g : Fin 16) (r : Nat × List Word) (a : Fin 64) (s : State), ∃ e, ((s.replies.find? fun r => r.1 == g.val) = some r) ∧ (axis? ((r.2.headD 0).toNat / 2 ^ 24) = some a) ∧ (groveOf a = g.val) ∧ ((s.loopOf a).wait = some e) ∧ (r.2.headD 0 = e.word0) ∧ (s.now ≤ e.at_ + e.tmo)) :=
  ⟨⟨512, 0, 0, 2, 0, ((((State.reset.wr (P.loopunit 0 + R.LU_DESC_RANGE 0) 0).wr (P.loopunit 0 + R.LU_DESC_RANGE 1) 0).wr (P.loopunit 0 + R.LU_DESC_RANGE 2) 0).wr (P.loopunit 0 + R.LU_DESC_RANGE 3) 0), by decide +kernel, by decide +kernel⟩,
   ⟨512, 0, 0, 2, 0, (State.reset.wr (P.loopunit 0 + R.LU_DESC_RANGE 0) 0x10000), 0, by decide +kernel, by decide +kernel, by decide +kernel, by decide +kernel⟩,
   ⟨512, 0, 0, 2, 0, (State.reset.wr (P.loopunit 0 + R.LU_DESC_RANGE 0) 0x10000).setLoop 0 fun y => { y with graph := some { count := 1 } }, 0, by decide +kernel, by decide +kernel, by decide +kernel, by decide +kernel⟩,
   ⟨0, (State.reset.setb (P.loop 0) F.LOOP_CTRL_HOLD true), by decide⟩,
   ⟨0, State.reset, by decide⟩,
   ⟨0, (State.reset.setb (P.loop 0) F.LOOP_CTRL_APPLY true), _, _, _, by decide, by decide, rfl, rfl⟩,
   ⟨0, (State.reset.setb (P.loop 0) F.LOOP_CTRL_APPLY true).setf (P.loop 0) F.LOOP_GRAPH_COUNT 1, _, by decide +kernel, by decide +kernel, rfl, by decide +kernel⟩,
   ⟨0, _, State.reset, rfl⟩,
   ⟨0, false, State.reset.setb (P.loop 0) F.LOOP_CTRL_RUN true, by decide +kernel, by decide +kernel⟩,
   ⟨0, _, State.reset, rfl, by decide⟩,
   ⟨0, 0, 0x10000, ((State.reset.wr (P.loopunit 0 + R.LU_DESC_RANGE 1) 0).wr (P.loopunit 0 + R.LU_DESC_RANGE 2) 0).wr (P.loopunit 0 + R.LU_DESC_RANGE 3) 0, by decide +kernel, by decide +kernel, by intro k h1 h2; rcases (by simp at h2; omega : k = 1 ∨ k = 2 ∨ k = 3) with rfl | rfl | rfl <;> decide +kernel⟩,
   ⟨0, {}, (late.setb (P.loop 0) F.LOOP_CTRL_RUN true).setLoop 0 fun y => { y with pend := some {} }, _, by decide +kernel, by decide +kernel, by decide +kernel, by decide +kernel, rfl, by decide +kernel⟩,
   ⟨0, {}, (((late.setb (P.loop 0) F.LOOP_CTRL_RUN true).setf P.sys F.SYS_STATE_STATE 1).setLoop 0 fun y => { y with pend := some {}, graph := some ⟨0, 0, 1, 1⟩ }), _, by decide +kernel, by decide +kernel, by decide +kernel, by decide +kernel, rfl, by decide +kernel, by decide +kernel, by decide +kernel⟩,
   ⟨0, {}, (((late.setb (P.loop 0) F.LOOP_CTRL_RUN true).setf P.sys F.SYS_STATE_STATE 3).setLoop 0 fun y => { y with pend := some {}, graph := some ⟨0, 0, 1, 1⟩ }), _, ⟨0, 0, 1, 1⟩, by decide +kernel, by decide +kernel, by decide +kernel, by decide +kernel, rfl, by decide +kernel, by decide +kernel⟩,
   ⟨0, {}, late.setLoop 0 fun y => { y with wait := some {} }, by decide +kernel, by decide +kernel⟩,
   ⟨0, (0, [0]), 0, State.reset.setReplies [(0, [0])], by decide +kernel, by decide +kernel, by decide +kernel, by decide +kernel⟩,
   ⟨0, (0, [0]), 0, (State.reset.setReplies [(0, [0])]).setLoop 0 fun y => { y with wait := some {} }, {}, by decide +kernel, by decide +kernel, by decide +kernel, by decide +kernel, by decide +kernel, by decide +kernel⟩⟩

/-- States and operands that meet the hypotheses of `Obligations.NodeRange`, clause by clause. -/
theorem witness_NodeRange :
    (∃ (opc mode : Nat) (x : NodeIn), (-(2 ^ 31) ≤ x.a ∧ x.a < 2 ^ 31) ∧ (-(2 ^ 31) ≤ x.b ∧ x.b < 2 ^ 31)) :=
  ⟨1, 0, {}, by decide +kernel, by decide +kernel⟩

/-- States and operands that meet the hypotheses of `Obligations.SpaceVectorDuties`, clause by clause. -/
theorem witness_SpaceVectorDuties :
    (∃ (x : NodeIn) (three : Bool), (three = true)) :=
  ⟨{}, true, by decide +kernel⟩

/-- States and operands that meet the hypotheses of `Obligations.EngineControl`, clause by clause. -/
theorem witness_EngineControl :
    (∃ (e : Fin 512) (s : State), ((s.eng e).st = .safety)) ∧
    (∃ (e : Fin 512) (s : State), ((s.eng e).st ≠ .safety) ∧ ((s.eng e).shw = []) ∧ ((s.eng e).fbw = [])) ∧
    (∃ (e : Fin 512) (s : State), ((s.eng e).st ≠ .safety) ∧ ((s.eng e).shw ≠ [] ∨ (s.eng e).fbw ≠ [])) ∧
    (∃ (e : Fin 512) (s : State), ((s.eng e).st = .reset)) ∧
    (∃ (e : Fin 512) (s : State), ((s.eng e).st = .halted) ∧ (s.stage = 3) ∧ (s.domHalted (s.ownerReg (P.engine e)) = false)) ∧
    (∃ (e : Fin 512) (s : State), ((s.eng e).st ≠ .halted ∨ s.stage ≠ 3 ∨ s.domHalted (s.ownerReg (P.engine e)) = true)) ∧
    (∃ (e : Fin 512) (s : State), ((s.eng e).st = .halted)) ∧
    (∃ (e : Fin 512) (s : State), ((s.eng e).st ≠ .halted)) ∧
    (∃ (e : Fin 512) (s : State), ((s.eng e).st = .waiting ∨ ((s.eng e).st = .running ∧ (s.eng e).slot = none ∧ (s.eng e).stall = none))) ∧
    (∃ (e : Fin 512) (s : State), ((s.eng e).st = .running) ∧ ((s.eng e).slot ≠ none ∨ (s.eng e).stall ≠ none)) ∧
    (∃ (e : Fin 512) (s u : State), ((s.eng e).st = .waiting) ∧ ((s.eng e).calls ≠ [] ∨ (s.eng e).mails ≠ [] ∨ (s.eng e).wdPend = true) ∧ (u = (s.setEng e fun x => x.toSt s.now .running)) ∧ ((s.eng e).exl = true)) ∧
    (∃ (e : Fin 512) (s u : State), ((s.eng e).st = .waiting) ∧ ((s.eng e).calls ≠ [] ∨ (s.eng e).mails ≠ [] ∨ (s.eng e).wdPend = true) ∧ (u = (s.setEng e fun x => x.toSt s.now .running)) ∧ ((s.eng e).exl = false) ∧ (u.asyncCause e = none)) ∧
    (∃ (e : Fin 512) (s u : State), ∃ c, ((s.eng e).st = .waiting) ∧ ((s.eng e).calls ≠ [] ∨ (s.eng e).mails ≠ [] ∨ (s.eng e).wdPend = true) ∧ (u = (s.setEng e fun x => x.toSt s.now .running)) ∧ ((s.eng e).exl = false) ∧ (u.asyncCause e = some c)) ∧
    (∃ (e : Fin 512) (s : State), ((s.eng e).ready = true) ∧ (s.preempted e = false) ∧ (s.brkMatch e = true) ∧ (s.flag (P.engine e) F.ENG_CFG_BRK_HALT = false) ∧ (s.badFetch e = false)) ∧
    (∃ (e : Fin 512) (s : State), ((s.eng e).ready = true) ∧ (s.preempted e = false) ∧ (s.brkMatch e = true) ∧ (s.flag (P.engine e) F.ENG_CFG_BRK_HALT = false) ∧ (s.badFetch e = true)) ∧
    (∃ (e : Fin 512) (s : State), ((s.eng e).ready = true) ∧ (s.preempted e = false) ∧ (s.brkMatch e = true) ∧ (s.flag (P.engine e) F.ENG_CFG_BRK_HALT = true) ∧ ((s.eng e).slot = none)) ∧
    (∃ (e : Fin 512) (s : State), ((s.eng e).ready = true) ∧ (s.preempted e = false) ∧ (s.brkMatch e = true) ∧ (s.flag (P.engine e) F.ENG_CFG_BRK_HALT = true) ∧ ((s.eng e).slot ≠ none)) ∧
    (∃ (e : Fin 512) (s : State), (s.wdPeriod e ≠ 0) ∧ ((s.eng e).st.counts = true) ∧ ((s.eng e).wdLeft ≤ 2 * (s.now - (s.eng e).wdAt)) ∧ ((s.eng e).wdOnce = false)) ∧
    (∃ (e : Fin 512) (s : State), (s.wdPeriod e ≠ 0) ∧ ((s.eng e).st.counts = true) ∧ ((s.eng e).wdLeft ≤ 2 * (s.now - (s.eng e).wdAt)) ∧ ((s.eng e).wdOnce = true)) ∧
    (∃ (e : Fin 512) (s : State), ((s.eng e).st = .running)) ∧
    (∃ (e : Fin 512) (v : Word) (s : State), ((s.eng e).st = .halted)) ∧
    (∃ (e : Fin 512) (v : Word) (s : State), ((s.eng e).st ≠ .halted)) ∧
    (∃ (e : Fin 512) (v : BitVec 12) (s : State), ((s.eng e).st = .halted)) ∧
    (∃ (e : Fin 512) (v : BitVec 12) (s : State), ((s.eng e).st ≠ .halted)) ∧
    (∃ (e : Fin 512) (s : State), ((s.eng e).st = .running)) ∧
    (∃ (q : Fin 514) (addr : BitVec 26) (sz : Fin 4) (v : BitVec 64) (e : Fin 512) (s : State), (regionAt addr.toNat = .engMem e.val) ∧ (addr.toNat % 2 ^ sz.val = 0) ∧ (s.accessOk q.val addr.toNat true = true) ∧ (0x4000 ≤ addr.toNat % 0x10000 ∨ (s.eng e).st = .reset ∨ (s.eng e).st = .halted)) ∧
    (∃ (q : Fin 514) (addr : BitVec 26) (sz : Fin 4) (v : BitVec 64) (e : Fin 512) (s : State), (regionAt addr.toNat = .engMem e.val) ∧ (addr.toNat % 2 ^ sz.val = 0) ∧ (s.accessOk q.val addr.toNat true = true) ∧ (addr.toNat % 0x10000 < 0x4000) ∧ ((s.eng e).st ≠ .reset) ∧ ((s.eng e).st ≠ .halted)) :=
  ⟨⟨0, (State.reset.setEng 0 fun y => { y with st := .safety }), by decide⟩,
   ⟨0, ((State.reset.setEng 0 fun y => { y with shw := [] }).setEng 0 fun y => { y with fbw := [] }), by decide, by decide, by decide⟩,
   ⟨0, State.reset.setEng 0 fun y => { y with st := .running, shw := [{}] }, by decide +kernel, by decide +kernel⟩,
   ⟨0, (State.reset.setEng 0 fun y => { y with st := .reset }), by decide⟩,
   ⟨0, ((State.reset.setEng 0 fun y => { y with st := .halted }).setf P.sys F.SYS_STATE_STATE 3), by decide, by decide, by decide⟩,
   ⟨0, (State.reset.setf P.sys F.SYS_STATE_STATE 0), by decide⟩,
   ⟨0, (State.reset.setEng 0 fun y => { y with st := .halted }), by decide⟩,
   ⟨0, State.reset, by decide⟩,
   ⟨0, (State.reset.setEng 0 fun y => { y with st := .waiting }), by decide⟩,
   ⟨0, ((State.reset.setEng 0 fun y => { y with st := .running }).setEng 0 fun y => { y with slot := (some default) }), by decide, by decide⟩,
   ⟨0, (((State.reset.setEng 0 fun y => { y with st := .waiting }).setEng 0 fun y => { y with wdPend := true }).setEng 0 fun y => { y with exl := true }), _, by decide, by decide, rfl, by decide⟩,
   ⟨0, State.reset.setEng 0 fun y => { y with st := .waiting, calls := [{}] }, _, by decide +kernel, by decide +kernel, rfl, by decide +kernel, by decide +kernel⟩,
   ⟨0, (((State.reset.setEng 0 fun y => { y with st := .waiting }).setEng 0 fun y => { y with wdPend := true }).setEng 0 fun y => { y with exl := false }), _, _, by decide, by decide, rfl, by decide, rfl⟩,
   ⟨0, ((State.reset.setEng 0 fun y => { y with st := .running }).wr (P.engine 0 + R.ENG_BRK0) 0x80000000), by decide +kernel, by decide +kernel, by decide +kernel, by decide +kernel, by decide +kernel⟩,
   ⟨0, ((State.reset.setEng 0 fun y => { y with st := .running }).wr (P.engine 0 + R.ENG_BRK0) 0x80000000).setEcc [(0x2000000, true)], by decide +kernel, by decide +kernel, by decide +kernel, by decide +kernel, by decide +kernel⟩,
   ⟨0, ((State.reset.setEng 0 fun y => { y with st := .running }).wr (P.engine 0 + R.ENG_BRK0) 0x80000000).setb (P.engine 0) F.ENG_CFG_BRK_HALT true, by decide +kernel, by decide +kernel, by decide +kernel, by decide +kernel, by decide +kernel⟩,
   ⟨0, (((State.reset.setEng 0 fun y => { y with st := .running, slot := some (0, 0) }).wr (P.engine 0 + R.ENG_BRK0) 0x80000000).setb (P.engine 0) F.ENG_CFG_BRK_HALT true), by decide +kernel, by decide +kernel, by decide +kernel, by decide +kernel, by decide +kernel⟩,
   ⟨0, (State.reset.setEng 0 fun y => { y with st := .running }).setf (P.engine 0) F.ENG_WDOG_PERIOD 1, by decide +kernel, by decide +kernel, by decide +kernel, by decide +kernel⟩,
   ⟨0, (State.reset.setEng 0 fun y => { y with st := .running, wdOnce := true }).setf (P.engine 0) F.ENG_WDOG_PERIOD 1, by decide +kernel, by decide +kernel, by decide +kernel, by decide +kernel⟩,
   ⟨0, (State.reset.setEng 0 fun y => { y with st := .running }), by decide⟩,
   ⟨0, 0#32, (State.reset.setEng 0 fun y => { y with st := .halted }), by decide⟩,
   ⟨0, 0#32, State.reset, by decide⟩,
   ⟨0, 0, (State.reset.setEng 0 fun y => { y with st := .halted }), by decide⟩,
   ⟨0, 0, State.reset, by decide⟩,
   ⟨0, (State.reset.setEng 0 fun y => { y with st := .running }), by decide⟩,
   ⟨512, 0x2000000, 2, 0, 0, State.reset, by decide +kernel, by decide +kernel, by decide +kernel, by decide +kernel⟩,
   ⟨512, 0x2000000, 2, 0, 0, (State.reset.setEng 0 fun y => { y with st := .running }), by decide +kernel, by decide +kernel, by decide +kernel, by decide +kernel, by decide +kernel, by decide +kernel⟩⟩

/-- States and operands that meet the hypotheses of `Obligations.Exceptions`, clause by clause. -/
theorem witness_Exceptions :
    (∃ (e : Fin 512) (cause sub addr : Nat) (sync : Bool) (s : State) (x : EngineState), (x = s.core e) ∧ ((sync && x.exl) = false)) ∧
    (∃ (e : Fin 512) (cause sub addr : Nat) (sync : Bool) (s : State) (x : EngineState), (x = s.core e) ∧ ((sync && x.exl) = true)) ∧
    (∃ (e : Fin 512) (s : State), ∃ c, ((s.eng e).ready = true) ∧ ((s.eng e).slot = none) ∧ ((s.eng e).haltReq = false) ∧ ((s.eng e).exl = false) ∧ (s.asyncCause e = some c)) ∧
    (∃ (e : Fin 512) (s : State), ∃ sub, ((s.eng e).ready = true) ∧ (s.preempted e = false) ∧ (s.brkMatch e = false) ∧ (s.badFetch e = false) ∧ ((s.setEng e EngineState.settle).illegal e = some sub)) ∧
    (∃ (e : Fin 512) (s : State), ((s.eng e).ready = true) ∧ (s.preempted e = false) ∧ (s.brkMatch e = false) ∧ (s.badFetch e = true)) :=
  ⟨⟨0, 0, 0, 0, false, State.reset, _, rfl, by decide⟩,
   ⟨0, 0, 0, 0, true, State.reset.setEng 0 fun y => { y with exl := true }, _, rfl, by decide +kernel⟩,
   ⟨0, (State.reset.setEng 0 fun y => { y with st := .running, wdPend := true }), 5, by decide +kernel, by decide +kernel, by decide +kernel, by decide +kernel, by decide +kernel⟩,
   ⟨0, prog 0xFFFFFFFF, 0, by decide +kernel, by decide +kernel, by decide +kernel, by decide +kernel, by decide +kernel⟩,
   ⟨0, (State.reset.setEng 0 fun y => { y with st := .running }).setEcc [(0x2000000, true)], by decide +kernel, by decide +kernel, by decide +kernel, by decide +kernel⟩⟩

/-- States and operands that meet the hypotheses of `Obligations.EngineMessages`, clause by clause. -/
theorem witness_EngineMessages :
    (∃ (e : Fin 512) (len : Fin 16) (s : State), ((s.eng e).st = .running) ∧ (len = 4)) ∧
    (∃ (e : Fin 512) (len : Fin 16) (s : State), ((s.eng e).st = .running) ∧ (len ≠ 4)) ∧
    (∃ (e q : Fin 512) (t : Fin 32) (len : Fin 16) (s : State), ((s.eng e).st = .running) ∧ (q.val = 32 * (e.val / 32) + t.val) ∧ (s.engDom e = some 0 ∨ ((s.engDom e).isSome = true ∧ s.engDom e = s.engDom q)) ∧ ((s.eng q).st ≠ .safety) ∧ ((s.eng q).mails.length < 8)) ∧
    (∃ (e q : Fin 512) (t : Fin 32) (len : Fin 16) (s : State), ((s.eng e).st = .running) ∧ (q.val = 32 * (e.val / 32) + t.val) ∧ (¬ (s.engDom e = some 0 ∨ ((s.engDom e).isSome = true ∧ s.engDom e = s.engDom q)))) ∧
    (∃ (e : Fin 512) (len : Fin 16) (s : State), ((s.eng e).st = .running) ∧ (4 ≤ (s.eng e).hmails.length)) ∧
    (∃ (e : Fin 512) (len : Fin 16) (s : State), ((s.eng e).st = .running) ∧ (0 < (s.eng e).hmails.length) ∧ ((s.eng e).hmails.length < 4)) ∧
    (∃ (e : Fin 512) (len : Fin 16) (s : State), ((s.eng e).st = .running) ∧ ((s.eng e).hmails = [])) ∧
    (∃ (e : Fin 512) (s : State), ((s.eng e).st = .running)) ∧
    (∃ (e : Fin 512) (s : State), ((s.eng e).st = .running)) ∧
    (∃ (e : Fin 512) (len : Fin 16) (s : State), ((s.eng e).st ≠ .safety) ∧ ((s.eng e).mails.length < 8)) ∧
    (∃ (e : Fin 512) (len : Fin 16) (s : State), ((s.eng e).st ≠ .safety) ∧ (8 ≤ (s.eng e).mails.length)) ∧
    (∃ (e : Fin 512) (s : State), ((s.eng e).hmails ≠ [])) :=
  ⟨⟨0, _, (State.reset.setEng 0 fun y => { y with st := .running }), by decide, rfl⟩,
   ⟨0, 0, (State.reset.setEng 0 fun y => { y with st := .running }), by decide, by decide⟩,
   ⟨0, 0, 0, 0, (State.reset.setEng 0 fun y => { y with st := .running }), by decide, by decide, by decide, by decide, by decide⟩,
   ⟨0, 1, 1, 0, (State.reset.setEng 0 fun y => { y with st := .running }).wr (P.engine 0 + R.PAGE_OWNER) 1, by decide +kernel, by decide +kernel, by decide +kernel⟩,
   ⟨0, 0, State.reset.setEng 0 fun y => { y with st := .running, hmails := List.replicate 4 [] }, by decide +kernel, by decide +kernel⟩,
   ⟨0, 0, State.reset.setEng 0 fun y => { y with st := .running, hmails := List.replicate 3 [] }, by decide +kernel, by decide +kernel, by decide +kernel⟩,
   ⟨0, 0, ((State.reset.setEng 0 fun y => { y with st := .running }).setEng 0 fun y => { y with hmails := [] }), by decide, by decide⟩,
   ⟨0, (State.reset.setEng 0 fun y => { y with st := .running }), by decide⟩,
   ⟨0, (State.reset.setEng 0 fun y => { y with st := .running }), by decide⟩,
   ⟨0, 0, State.reset, by decide, by decide⟩,
   ⟨0, 0, State.reset.setEng 0 fun y => { y with mails := List.replicate 8 {} }, by decide +kernel, by decide +kernel⟩,
   ⟨0, (State.reset.setEng 0 fun y => { y with hmails := [default] }), by decide⟩⟩

/-- States and operands that meet the hypotheses of `Obligations.AluInstructions`, clause by clause. -/
theorem witness_AluInstructions :
    (∃ (e : Fin 512) (rd ra rb : Fin 16) (s : State) (x : EngineState) (r : Word), (x = s.core e) ∧ (r = x.d[ra]) ∧ (s.runs e (.alu .mov rd ra rb))) ∧
    (∃ (e : Fin 512) (rd ra rb : Fin 16) (s : State) (x : EngineState) (r : Word), (x = s.core e) ∧ (r = x.d[ra] + x.d[rb]) ∧ (s.runs e (.alu .add rd ra rb))) ∧
    (∃ (e : Fin 512) (rd ra rb : Fin 16) (s : State) (x : EngineState) (r : Word), (x = s.core e) ∧ (r = x.d[ra] - x.d[rb]) ∧ (s.runs e (.alu .sub rd ra rb))) ∧
    (∃ (e : Fin 512) (rd ra rb : Fin 16) (s : State) (x : EngineState) (r : Word), (x = s.core e) ∧ (r = BitVec.ofInt 32 (clampI (-2147483648) 2147483647 (x.d[ra].toInt + x.d[rb].toInt))) ∧ (s.runs e (.alu .adds rd ra rb))) ∧
    (∃ (e : Fin 512) (rd ra rb : Fin 16) (s : State) (x : EngineState) (r : Word), (x = s.core e) ∧ (r = BitVec.ofInt 32 (clampI (-2147483648) 2147483647 (x.d[ra].toInt - x.d[rb].toInt))) ∧ (s.runs e (.alu .subs rd ra rb))) ∧
    (∃ (e : Fin 512) (rd ra rb : Fin 16) (s : State) (x : EngineState) (r : Word), (x = s.core e) ∧ (r = x.d[ra] &&& x.d[rb]) ∧ (s.runs e (.alu .and_ rd ra rb))) ∧
    (∃ (e : Fin 512) (rd ra rb : Fin 16) (s : State) (x : EngineState) (r : Word), (x = s.core e) ∧ (r = x.d[ra] ||| x.d[rb]) ∧ (s.runs e (.alu .or_ rd ra rb))) ∧
    (∃ (e : Fin 512) (rd ra rb : Fin 16) (s : State) (x : EngineState) (r : Word), (x = s.core e) ∧ (r = x.d[ra] ^^^ x.d[rb]) ∧ (s.runs e (.alu .xor rd ra rb))) ∧
    (∃ (e : Fin 512) (rd ra rb : Fin 16) (s : State) (x : EngineState) (r : Word), (x = s.core e) ∧ (r = x.d[ra] &&& ~~~x.d[rb]) ∧ (s.runs e (.alu .andn rd ra rb))) ∧
    (∃ (e : Fin 512) (rd ra rb : Fin 16) (s : State) (x : EngineState) (r : Word), (x = s.core e) ∧ (r = x.d[ra] <<< (x.d[rb].toNat % 64)) ∧ (s.runs e (.alu .shl rd ra rb))) ∧
    (∃ (e : Fin 512) (rd ra rb : Fin 16) (s : State) (x : EngineState) (r : Word), (x = s.core e) ∧ (r = x.d[ra] >>> (x.d[rb].toNat % 64)) ∧ (s.runs e (.alu .shr rd ra rb))) ∧
    (∃ (e : Fin 512) (rd ra rb : Fin 16) (s : State) (x : EngineState) (r : Word), (x = s.core e) ∧ (r = x.d[ra].sshiftRight (x.d[rb].toNat % 64)) ∧ (s.runs e (.alu .sar rd ra rb))) ∧
    (∃ (e : Fin 512) (rd ra rb : Fin 16) (s : State) (x : EngineState) (r : Word), (x = s.core e) ∧ (r = x.d[ra] * x.d[rb]) ∧ (s.runs e (.alu .mul rd ra rb))) ∧
    (∃ (e : Fin 512) (rd ra rb : Fin 16) (s : State) (x : EngineState) (r : Word), (x = s.core e) ∧ (r = (if x.d[rb].toInt < x.d[ra].toInt then x.d[rb] else x.d[ra])) ∧ (s.runs e (.alu .min_ rd ra rb))) ∧
    (∃ (e : Fin 512) (rd ra rb : Fin 16) (s : State) (x : EngineState) (r : Word), (x = s.core e) ∧ (r = (if x.d[ra].toInt < x.d[rb].toInt then x.d[rb] else x.d[ra])) ∧ (s.runs e (.alu .max_ rd ra rb))) ∧
    (∃ (e : Fin 512) (rd ra rb : Fin 16) (s : State) (x : EngineState) (r : Word), (x = s.core e) ∧ (r = (if x.d[ra].msb then -x.d[ra] else x.d[ra])) ∧ (s.runs e (.alu .abs rd ra rb))) ∧
    (∃ (e : Fin 512) (rd ra rb : Fin 16) (s : State) (x : EngineState) (r : Word), (x = s.core e) ∧ (r = -x.d[ra]) ∧ (s.runs e (.alu .neg rd ra rb))) ∧
    (∃ (e : Fin 512) (rd ra rb : Fin 16) (s : State) (x : EngineState) (r : Word), (x = s.core e) ∧ (r = BitVec.ofNat 32 (clz x.d[ra])) ∧ (s.runs e (.alu .clz rd ra rb))) ∧
    (∃ (e : Fin 512) (rd ra rb : Fin 16) (s : State) (x : EngineState) (r : Word), (x = s.core e) ∧ (r = x.d[ra] - x.d[rb]) ∧ (s.runs e (.alu .cmp rd ra rb))) ∧
    (∃ (e : Fin 512) (rd ra rb : Fin 16) (s : State) (x : EngineState) (w : Option (Word × Bool)), ∃ r l, (x = s.core e) ∧ (w = store32 x.md true (BitVec.ofInt 72 (2 * (x.d[ra].toInt * x.d[rb].toInt)))) ∧ (s.runs e (.alu .mulf rd ra rb)) ∧ (w = some (r, l))) ∧
    (∃ (e : Fin 512) (rd ra rb : Fin 16) (s : State) (x : EngineState) (w : Option (Word × Bool)), (x = s.core e) ∧ (w = store32 x.md true (BitVec.ofInt 72 (2 * (x.d[ra].toInt * x.d[rb].toInt)))) ∧ (s.runs e (.alu .mulf rd ra rb)) ∧ (w = none)) ∧
    (∃ (e : Fin 512) (rd ra : Fin 16) (i : BitVec 18) (s : State) (x : EngineState) (b r : Word), (x = s.core e) ∧ (b = i.signExtend 32) ∧ (r = x.d[ra] + b) ∧ (s.runs e (.imm .addi rd ra i))) ∧
    (∃ (e : Fin 512) (rd ra : Fin 16) (i : BitVec 18) (s : State) (x : EngineState) (b r : Word), (x = s.core e) ∧ (b = i.setWidth 32) ∧ (r = x.d[ra] &&& b) ∧ (s.runs e (.imm .andi rd ra i))) ∧
    (∃ (e : Fin 512) (rd ra : Fin 16) (i : BitVec 18) (s : State) (x : EngineState) (b r : Word), (x = s.core e) ∧ (b = i.setWidth 32) ∧ (r = x.d[ra] ||| b) ∧ (s.runs e (.imm .ori rd ra i))) ∧
    (∃ (e : Fin 512) (rd ra : Fin 16) (i : BitVec 18) (s : State) (x : EngineState) (b r : Word), (x = s.core e) ∧ (b = i.setWidth 32) ∧ (r = x.d[ra] ^^^ b) ∧ (s.runs e (.imm .xori rd ra i))) ∧
    (∃ (e : Fin 512) (rd ra : Fin 16) (i : BitVec 18) (s : State) (x : EngineState) (b r : Word), (x = s.core e) ∧ (b = i.signExtend 32) ∧ (r = x.d[ra] - b) ∧ (s.runs e (.imm .cmpi rd ra i))) ∧
    (∃ (e : Fin 512) (rd ra : Fin 16) (i : BitVec 18) (s : State) (x : EngineState) (k : Nat) (r : Word), (x = s.core e) ∧ (k = i.toNat % 32) ∧ (s.runs e (.imm .shi rd ra i)) ∧ (bits i.toNat 6 2 = 0) ∧ (r = x.d[ra] <<< k)) ∧
    (∃ (e : Fin 512) (rd ra : Fin 16) (i : BitVec 18) (s : State) (x : EngineState) (k : Nat) (r : Word), (x = s.core e) ∧ (k = i.toNat % 32) ∧ (s.runs e (.imm .shi rd ra i)) ∧ (bits i.toNat 6 2 = 1) ∧ (r = x.d[ra] >>> k)) ∧
    (∃ (e : Fin 512) (rd ra : Fin 16) (i : BitVec 18) (s : State) (x : EngineState) (k : Nat) (r : Word), (x = s.core e) ∧ (k = i.toNat % 32) ∧ (s.runs e (.imm .shi rd ra i)) ∧ (bits i.toNat 6 2 = 2) ∧ (r = x.d[ra].sshiftRight k)) ∧
    (∃ (e : Fin 512) (rd : Fin 16) (v : BitVec 16) (s : State) (x : EngineState), (x = s.core e) ∧ (s.runs e (.movil rd v))) ∧
    (∃ (e : Fin 512) (rd : Fin 16) (v : BitVec 16) (s : State) (x : EngineState), (x = s.core e) ∧ (s.runs e (.movih rd v))) :=
  ⟨⟨0, 0, 0, 0, Sys2Proof.Tests.prog 0x4000000, _, _, rfl, rfl, by unfold State.runs; decide⟩,
   ⟨0, 0, 0, 0, Sys2Proof.Tests.prog 0x4000001, _, _, rfl, rfl, by unfold State.runs; decide⟩,
   ⟨0, 0, 0, 0, Sys2Proof.Tests.prog 0x4000002, _, _, rfl, rfl, by unfold State.runs; decide⟩,
   ⟨0, 0, 0, 0, Sys2Proof.Tests.prog 0x4000003, _, _, rfl, rfl, by unfold State.runs; decide⟩,
   ⟨0, 0, 0, 0, Sys2Proof.Tests.prog 0x4000004, _, _, rfl, rfl, by unfold State.runs; decide⟩,
   ⟨0, 0, 0, 0, Sys2Proof.Tests.prog 0x4000005, _, _, rfl, rfl, by unfold State.runs; decide⟩,
   ⟨0, 0, 0, 0, Sys2Proof.Tests.prog 0x4000006, _, _, rfl, rfl, by unfold State.runs; decide⟩,
   ⟨0, 0, 0, 0, Sys2Proof.Tests.prog 0x4000007, _, _, rfl, rfl, by unfold State.runs; decide⟩,
   ⟨0, 0, 0, 0, Sys2Proof.Tests.prog 0x4000008, _, _, rfl, rfl, by unfold State.runs; decide⟩,
   ⟨0, 0, 0, 0, Sys2Proof.Tests.prog 0x4000009, _, _, rfl, rfl, by unfold State.runs; decide⟩,
   ⟨0, 0, 0, 0, Sys2Proof.Tests.prog 0x400000a, _, _, rfl, rfl, by unfold State.runs; decide⟩,
   ⟨0, 0, 0, 0, Sys2Proof.Tests.prog 0x400000b, _, _, rfl, rfl, by unfold State.runs; decide⟩,
   ⟨0, 0, 0, 0, Sys2Proof.Tests.prog 0x400000c, _, _, rfl, rfl, by unfold State.runs; decide⟩,
   ⟨0, 0, 0, 0, Sys2Proof.Tests.prog 0x400000e, _, _, rfl, rfl, by unfold State.runs; decide⟩,
   ⟨0, 0, 0, 0, Sys2Proof.Tests.prog 0x400000f, _, _, rfl, rfl, by unfold State.runs; decide⟩,
   ⟨0, 0, 0, 0, Sys2Proof.Tests.prog 0x4000010, _, _, rfl, rfl, by unfold State.runs; decide⟩,
   ⟨0, 0, 0, 0, Sys2Proof.Tests.prog 0x4000011, _, _, rfl, rfl, by unfold State.runs; decide⟩,
   ⟨0, 0, 0, 0, Sys2Proof.Tests.prog 0x4000012, _, _, rfl, rfl, by unfold State.runs; decide⟩,
   ⟨0, 0, 0, 0, Sys2Proof.Tests.prog 0x4000013, _, _, rfl, rfl, by unfold State.runs; decide⟩,
   ⟨0, 0, 0, 0, Sys2Proof.Tests.prog 0x400000d, _, _, _, _, rfl, rfl, by unfold State.runs; decide, rfl⟩,
   ⟨0, 0, 0, 0, prog 67108877 fun y => { y with md := 15, d := Vector.replicate 16 0x80000000 }, _, _, rfl, rfl, by unfold State.runs; decide +kernel, by decide +kernel⟩,
   ⟨0, 0, 0, 0, Sys2Proof.Tests.prog 0x10000000, _, _, _, rfl, rfl, rfl, by unfold State.runs; decide⟩,
   ⟨0, 0, 0, 0, Sys2Proof.Tests.prog 0x14000000, _, _, _, rfl, rfl, rfl, by unfold State.runs; decide⟩,
   ⟨0, 0, 0, 0, Sys2Proof.Tests.prog 0x18000000, _, _, _, rfl, rfl, rfl, by unfold State.runs; decide⟩,
   ⟨0, 0, 0, 0, Sys2Proof.Tests.prog 0x1c000000, _, _, _, rfl, rfl, rfl, by unfold State.runs; decide⟩,
   ⟨0, 0, 0, 0, Sys2Proof.Tests.prog 0x20000000, _, _, _, rfl, rfl, rfl, by unfold State.runs; decide⟩,
   ⟨0, 0, 0, 0, Sys2Proof.Tests.prog 0x24000000, _, _, _, rfl, rfl, by unfold State.runs; decide, by decide, rfl⟩,
   ⟨0, 0, 0, 64, Sys2Proof.Tests.prog 0x24000040, _, _, _, rfl, rfl, by unfold State.runs; decide, by decide, rfl⟩,
   ⟨0, 0, 0, 128, Sys2Proof.Tests.prog 0x24000080, _, _, _, rfl, rfl, by unfold State.runs; decide, by decide, rfl⟩,
   ⟨0, 0, 0, Sys2Proof.Tests.prog 0x28000000, _, rfl, by unfold State.runs; decide⟩,
   ⟨0, 0, 0, Sys2Proof.Tests.prog 0x2c000000, _, rfl, by unfold State.runs; decide⟩⟩

/-- States and operands that meet the hypotheses of `Obligations.AccumulatorInstructions`, clause by clause. -/
theorem witness_AccumulatorInstructions :
    (∃ (e : Fin 512) (ad as_ : Fin 4) (r : Fin 16) (sh : Nat) (s : State) (x : EngineState) (i : Int) (w : BitVec 72), (x = s.core e) ∧ (i = 0) ∧ (w = BitVec.ofInt 72 i) ∧ (s.runs e (.acc .aclr ad as_ r sh))) ∧
    (∃ (e : Fin 512) (ad as_ : Fin 4) (r : Fin 16) (sh : Nat) (s : State) (x : EngineState) (i : Int) (w : BitVec 72), (x = s.core e) ∧ (i = x.a[as_].toInt) ∧ (w = BitVec.ofInt 72 i) ∧ (s.runs e (.acc .amov ad as_ r sh))) ∧
    (∃ (e : Fin 512) (ad as_ : Fin 4) (r : Fin 16) (sh : Nat) (s : State) (x : EngineState) (i : Int) (w : BitVec 72), (x = s.core e) ∧ (i = x.a[ad].toInt + x.a[as_].toInt) ∧ (w = BitVec.ofInt 72 i) ∧ (s.runs e (.acc .aadd ad as_ r sh))) ∧
    (∃ (e : Fin 512) (ad as_ : Fin 4) (r : Fin 16) (sh : Nat) (s : State) (x : EngineState) (i : Int) (w : BitVec 72), (x = s.core e) ∧ (i = x.a[ad].toInt - x.a[as_].toInt) ∧ (w = BitVec.ofInt 72 i) ∧ (s.runs e (.acc .asub ad as_ r sh))) ∧
    (∃ (e : Fin 512) (ad as_ : Fin 4) (r : Fin 16) (sh : Nat) (s : State) (x : EngineState) (i : Int) (w : BitVec 72), (x = s.core e) ∧ (i = -x.a[as_].toInt) ∧ (w = BitVec.ofInt 72 i) ∧ (s.runs e (.acc .aneg ad as_ r sh))) ∧
    (∃ (e : Fin 512) (ad as_ : Fin 4) (r : Fin 16) (sh : Nat) (s : State) (x : EngineState) (i : Int) (w : BitVec 72), (x = s.core e) ∧ (i = (x.a[as_].toInt.natAbs : Int)) ∧ (w = BitVec.ofInt 72 i) ∧ (s.runs e (.acc .aabs ad as_ r sh))) ∧
    (∃ (e : Fin 512) (ad as_ : Fin 4) (r : Fin 16) (sh : Nat) (s : State) (x : EngineState) (i : Int) (w : BitVec 72), (x = s.core e) ∧ (i = x.a[as_].toInt * 2 ^ sh) ∧ (w = BitVec.ofInt 72 i) ∧ (s.runs e (.acc .ashl ad as_ r sh))) ∧
    (∃ (e : Fin 512) (ad as_ : Fin 4) (r : Fin 16) (sh : Nat) (s : State) (x : EngineState) (i : Int) (w : BitVec 72), (x = s.core e) ∧ (i = x.a[as_].toInt / 2 ^ sh) ∧ (w = BitVec.ofInt 72 i) ∧ (s.runs e (.acc .asar ad as_ r sh))) ∧
    (∃ (e : Fin 512) (ad as_ : Fin 4) (r : Fin 16) (sh : Nat) (s : State) (x : EngineState) (i : Int) (w : BitVec 72), (x = s.core e) ∧ (i = x.d[r].toInt * 2 ^ 32) ∧ (w = BitVec.ofInt 72 i) ∧ (s.runs e (.acc .aload ad as_ r sh))) ∧
    (∃ (e : Fin 512) (ad as_ : Fin 4) (r : Fin 16) (sh : Nat) (s : State) (x : EngineState) (i : Int) (w : BitVec 72), (x = s.core e) ∧ (i = x.d[r].toInt) ∧ (w = BitVec.ofInt 72 i) ∧ (s.runs e (.acc .aloadl ad as_ r sh))) ∧
    (∃ (e : Fin 512) (ad as_ : Fin 4) (r : Fin 16) (sh : Nat) (s : State) (x : EngineState) (i : Int) (w : BitVec 72), (x = s.core e) ∧ (i = (if MD.int x.md then x.a[as_].toInt else roundAcc (MD.trunc x.md) x.a[as_])) ∧ (w = BitVec.ofInt 72 i) ∧ (s.runs e (.acc .arnd ad as_ r sh))) ∧
    (∃ (e : Fin 512) (ad as_ : Fin 4) (rd : Fin 16) (sh : Nat) (s : State) (x : EngineState), ∃ r l, (x = s.core e) ∧ (s.runs e (.acc .ast ad as_ rd sh)) ∧ (store32 x.md false x.a[as_] = some (r, l))) ∧
    (∃ (e : Fin 512) (ad as_ : Fin 4) (rd : Fin 16) (sh : Nat) (s : State) (x : EngineState), (x = s.core e) ∧ (s.runs e (.acc .ast ad as_ rd sh)) ∧ (store32 x.md false x.a[as_] = none)) ∧
    (∃ (e : Fin 512) (ad as_ : Fin 4) (r : Fin 16) (sh : Nat) (s : State) (x : EngineState) (i : Int) (w : BitVec 72), (x = s.core e) ∧ (i = (if accFits (MD.int x.md) x.a[as_] then x.a[as_].toInt else let k : Int := if MD.int x.md then 2 ^ 31 else 2 ^ 63; if x.a[as_].msb then -k else k - 1)) ∧ (w = BitVec.ofInt 72 i) ∧ (s.runs e (.acc .asat ad as_ r sh))) ∧
    (∃ (e : Fin 512) (a : Fin 4) (ra rb : Fin 16) (lx ly : ParLoad) (bx by_ : Nat) (s : State) (x : EngineState) (i : Int) (w : BitVec 72) (y : EngineState), (x = s.core e) ∧ (i = x.a[a].toInt + product (MD.int x.md) x.d[ra] x.d[rb]) ∧ (w = BitVec.ofInt 72 i) ∧ (y = { x with a := x.a.set a w, fl := { x.fl with z := w == 0, n := w.msb, v := decide (w.toInt ≠ i), e := !accFits (MD.int x.md) w } }) ∧ (s.runs e (.mul .mac a ra rb lx ly)) ∧ (lx.code ≠ 0 → (s.setEng e EngineState.settle).target e false (x.p[f8 lx.ptr 0]).toNat 4 false = .ok (.own bx) ∧ s.softIn bx 4 = []) ∧ (ly.code ≠ 0 → (s.setEng e EngineState.settle).target e true (x.p[f8 (4 + ly.ptr) 0]).toNat 4 false = .ok (.own by_) ∧ s.softIn by_ 4 = [])) ∧
    (∃ (e : Fin 512) (a : Fin 4) (ra rb : Fin 16) (lx ly : ParLoad) (bx by_ : Nat) (s : State) (x : EngineState) (i : Int) (w : BitVec 72) (y : EngineState), (x = s.core e) ∧ (i = x.a[a].toInt - product (MD.int x.md) x.d[ra] x.d[rb]) ∧ (w = BitVec.ofInt 72 i) ∧ (y = { x with a := x.a.set a w, fl := { x.fl with z := w == 0, n := w.msb, v := decide (w.toInt ≠ i), e := !accFits (MD.int x.md) w } }) ∧ (s.runs e (.mul .msu a ra rb lx ly)) ∧ (lx.code ≠ 0 → (s.setEng e EngineState.settle).target e false (x.p[f8 lx.ptr 0]).toNat 4 false = .ok (.own bx) ∧ s.softIn bx 4 = []) ∧ (ly.code ≠ 0 → (s.setEng e EngineState.settle).target e true (x.p[f8 (4 + ly.ptr) 0]).toNat 4 false = .ok (.own by_) ∧ s.softIn by_ 4 = [])) ∧
    (∃ (e : Fin 512) (a : Fin 4) (ra rb : Fin 16) (lx ly : ParLoad) (bx by_ : Nat) (s : State) (x : EngineState) (i : Int) (w : BitVec 72) (y : EngineState), (x = s.core e) ∧ (i = product (MD.int x.md) x.d[ra] x.d[rb]) ∧ (w = BitVec.ofInt 72 i) ∧ (y = { x with a := x.a.set a w, fl := { x.fl with z := w == 0, n := w.msb, v := decide (w.toInt ≠ i), e := !accFits (MD.int x.md) w } }) ∧ (s.runs e (.mul .mpy a ra rb lx ly)) ∧ (lx.code ≠ 0 → (s.setEng e EngineState.settle).target e false (x.p[f8 lx.ptr 0]).toNat 4 false = .ok (.own bx) ∧ s.softIn bx 4 = []) ∧ (ly.code ≠ 0 → (s.setEng e EngineState.settle).target e true (x.p[f8 (4 + ly.ptr) 0]).toNat 4 false = .ok (.own by_) ∧ s.softIn by_ 4 = [])) ∧
    (∃ (e : Fin 512) (a : Fin 4) (ra rb : Fin 16) (lx ly : ParLoad) (bx by_ : Nat) (s : State) (x : EngineState) (y : EngineState), (x = s.core e) ∧ (y = x) ∧ (s.runs e (.mul .ldp a ra rb lx ly)) ∧ (lx.code ≠ 0 → (s.setEng e EngineState.settle).target e false (x.p[f8 lx.ptr 0]).toNat 4 false = .ok (.own bx) ∧ s.softIn bx 4 = []) ∧ (ly.code ≠ 0 → (s.setEng e EngineState.settle).target e true (x.p[f8 (4 + ly.ptr) 0]).toNat 4 false = .ok (.own by_) ∧ s.softIn by_ 4 = [])) :=
  ⟨⟨0, 0, 0, 0, 0, Sys2Proof.Tests.prog 0x60000000, _, _, _, rfl, rfl, rfl, by unfold State.runs; decide⟩,
   ⟨0, 0, 0, 0, 0, Sys2Proof.Tests.prog 0x60000001, _, _, _, rfl, rfl, rfl, by unfold State.runs; decide⟩,
   ⟨0, 0, 0, 0, 0, Sys2Proof.Tests.prog 0x60000002, _, _, _, rfl, rfl, rfl, by unfold State.runs; decide⟩,
   ⟨0, 0, 0, 0, 0, Sys2Proof.Tests.prog 0x60000003, _, _, _, rfl, rfl, rfl, by unfold State.runs; decide⟩,
   ⟨0, 0, 0, 0, 0, Sys2Proof.Tests.prog 0x60000004, _, _, _, rfl, rfl, rfl, by unfold State.runs; decide⟩,
   ⟨0, 0, 0, 0, 0, Sys2Proof.Tests.prog 0x60000005, _, _, _, rfl, rfl, rfl, by unfold State.runs; decide⟩,
   ⟨0, 0, 0, 0, 0, Sys2Proof.Tests.prog 0x60000006, _, _, _, rfl, rfl, rfl, by unfold State.runs; decide⟩,
   ⟨0, 0, 0, 0, 0, Sys2Proof.Tests.prog 0x60000007, _, _, _, rfl, rfl, rfl, by unfold State.runs; decide⟩,
   ⟨0, 0, 0, 0, 0, Sys2Proof.Tests.prog 0x60000008, _, _, _, rfl, rfl, rfl, by unfold State.runs; decide⟩,
   ⟨0, 0, 0, 0, 0, Sys2Proof.Tests.prog 0x60000009, _, _, _, rfl, rfl, rfl, by unfold State.runs; decide⟩,
   ⟨0, 0, 0, 0, 0, Sys2Proof.Tests.prog 0x6000000c, _, _, _, rfl, rfl, rfl, by unfold State.runs; decide⟩,
   ⟨0, 0, 0, 0, 0, Sys2Proof.Tests.prog 0x6000000a, _, _, _, rfl, by unfold State.runs; decide, rfl⟩,
   ⟨0, 0, 0, 0, 0, prog 1610612746 fun y => { y with md := 15, a := Vector.replicate 4 (BitVec.ofNat 72 (2 ^ 70)) }, _, rfl, by unfold State.runs; decide +kernel, by decide +kernel⟩,
   ⟨0, 0, 0, 0, 0, prog 0x6000000B, _, _, _, rfl, rfl, rfl, by unfold State.runs; decide +kernel⟩,
   ⟨0, 0, 0, 0, ⟨0, 0, 0⟩, ⟨0, 0, 0⟩, 0, 0, prog 0x80000000, _, _, _, _, rfl, rfl, rfl, rfl, by unfold State.runs; decide +kernel, fun h => absurd rfl h, fun h => absurd rfl h⟩,
   ⟨0, 0, 0, 0, ⟨0, 0, 0⟩, ⟨0, 0, 0⟩, 0, 0, prog 0x84000000, _, _, _, _, rfl, rfl, rfl, rfl, by unfold State.runs; decide +kernel, fun h => absurd rfl h, fun h => absurd rfl h⟩,
   ⟨0, 0, 0, 0, ⟨0, 0, 0⟩, ⟨0, 0, 0⟩, 0, 0, prog 0x88000000, _, _, _, _, rfl, rfl, rfl, rfl, by unfold State.runs; decide +kernel, fun h => absurd rfl h, fun h => absurd rfl h⟩,
   ⟨0, 0, 0, 0, ⟨0, 0, 0⟩, ⟨0, 0, 0⟩, 0, 0, prog 0x8c000000, _, _, rfl, rfl, by unfold State.runs; decide +kernel, fun h => absurd rfl h, fun h => absurd rfl h⟩⟩

/-- States and operands that meet the hypotheses of `Obligations.LoadsAndStores`, clause by clause. -/
theorem witness_LoadsAndStores :
    (∃ (e : Fin 512) (r : Fin 16) (p : Fin 8) (sz am : Nat) (off : BitVec 15) (s u : State) (x : EngineState) (a : Word × Word), ∃ b, (x = s.core e) ∧ (u = s.setEng e EngineState.settle) ∧ (a = x.address p (szBytes sz) am off) ∧ (s.runs e (.ld r p sz am off)) ∧ (u.target e (decide (p.val ≥ 4)) a.1.toNat (szBytes sz) false = .ok (.own b)) ∧ (s.uncorrectable b (szBytes sz) = true)) ∧
    (∃ (e : Fin 512) (r : Fin 16) (p : Fin 8) (sz am : Nat) (off : BitVec 15) (s u : State) (x : EngineState) (a : Word × Word), ∃ b, (x = s.core e) ∧ (u = s.setEng e EngineState.settle) ∧ (a = x.address p (szBytes sz) am off) ∧ (s.runs e (.ld r p sz am off)) ∧ (u.target e (decide (p.val ≥ 4)) a.1.toNat (szBytes sz) false = .ok (.own b)) ∧ (s.softIn b (szBytes sz) = [])) ∧
    (∃ (e : Fin 512) (r : Fin 16) (p : Fin 8) (sz am : Nat) (off : BitVec 15) (s u : State) (x : EngineState) (a : Word × Word), ∃ b, (x = s.core e) ∧ (u = s.setEng e EngineState.settle) ∧ (a = x.address p (szBytes sz) am off) ∧ (s.runs e (.ld r p sz am off)) ∧ (u.target e (decide (p.val ≥ 4)) a.1.toNat (szBytes sz) false = .ok (.shm b))) ∧
    (∃ (e : Fin 512) (r : Fin 16) (p : Fin 8) (sz am : Nat) (off : BitVec 15) (s u : State) (x : EngineState) (a : Word × Word), ∃ o, (x = s.core e) ∧ (u = s.setEng e EngineState.settle) ∧ (a = x.address p (szBytes sz) am off) ∧ (s.runs e (.ld r p sz am off)) ∧ (u.target e (decide (p.val ≥ 4)) a.1.toNat (szBytes sz) false = .ok (.io o))) ∧
    (∃ (e : Fin 512) (r : Fin 16) (p : Fin 8) (sz am : Nat) (off : BitVec 15) (s u : State) (x : EngineState) (a : Word × Word), ∃ b, (x = s.core e) ∧ (u = s.setEng e EngineState.settle) ∧ (a = x.address p (szBytes sz) am off) ∧ (s.runs e (.ld r p sz am off)) ∧ (u.target e (decide (p.val ≥ 4)) a.1.toNat (szBytes sz) false = .ok (.fabric b))) ∧
    (∃ (e : Fin 512) (r : Fin 16) (p : Fin 8) (sz am : Nat) (off : BitVec 15) (s u : State) (x : EngineState) (a : Word × Word), ∃ k sub, (x = s.core e) ∧ (u = s.setEng e EngineState.settle) ∧ (a = x.address p (szBytes sz) am off) ∧ (s.runs e (.ld r p sz am off)) ∧ (u.target e (decide (p.val ≥ 4)) a.1.toNat (szBytes sz) false = .error (k, sub)) ∧ (¬ (k = 2 ∧ sub = 2))) ∧
    (∃ (e : Fin 512) (r : Fin 16) (p : Fin 8) (sz am : Nat) (off : BitVec 15) (s u : State) (x : EngineState) (a : Word × Word), (x = s.core e) ∧ (u = s.setEng e EngineState.settle) ∧ (a = x.address p (szBytes sz) am off) ∧ (s.runs e (.ld r p sz am off)) ∧ (u.target e (decide (p.val ≥ 4)) a.1.toNat (szBytes sz) false = .error (2, 2))) ∧
    (∃ (e : Fin 512) (r : Fin 16) (p : Fin 8) (sz am : Nat) (off : BitVec 15) (s u : State) (x : EngineState) (a : Word × Word), ∃ b, (x = s.core e) ∧ (u = s.setEng e EngineState.settle) ∧ (a = x.address p (szBytes sz) am off) ∧ (s.runs e (.st r p sz am off)) ∧ (u.target e (decide (p.val ≥ 4)) a.1.toNat (szBytes sz) true = .ok (.own b))) ∧
    (∃ (e : Fin 512) (r : Fin 16) (p : Fin 8) (sz am : Nat) (off : BitVec 15) (s u : State) (x : EngineState) (a : Word × Word), ∃ b, (x = s.core e) ∧ (u = s.setEng e EngineState.settle) ∧ (a = x.address p (szBytes sz) am off) ∧ (s.runs e (.st r p sz am off)) ∧ (u.target e (decide (p.val ≥ 4)) a.1.toNat (szBytes sz) true = .ok (.shm b)) ∧ (x.shw.length < 2)) ∧
    (∃ (e : Fin 512) (r : Fin 16) (p : Fin 8) (sz am : Nat) (off : BitVec 15) (s u : State) (x : EngineState) (a : Word × Word), ∃ b, (x = s.core e) ∧ (u = s.setEng e EngineState.settle) ∧ (a = x.address p (szBytes sz) am off) ∧ (s.runs e (.st r p sz am off)) ∧ (u.target e (decide (p.val ≥ 4)) a.1.toNat (szBytes sz) true = .ok (.fabric b)) ∧ (x.fbw.length < 4)) ∧
    (∃ (e : Fin 512) (r : Fin 16) (p : Fin 8) (sz am : Nat) (off : BitVec 15) (s u : State) (x : EngineState) (a : Word × Word), ∃ o, (x = s.core e) ∧ (u = s.setEng e EngineState.settle) ∧ (a = x.address p (szBytes sz) am off) ∧ (s.runs e (.st r p sz am off)) ∧ (u.target e (decide (p.val ≥ 4)) a.1.toNat (szBytes sz) true = .ok (.io o))) ∧
    (∃ (e : Fin 512) (r : Fin 16) (p : Fin 8) (sz am : Nat) (off : BitVec 15) (s u : State) (x : EngineState) (a : Word × Word), ∃ b, (x = s.core e) ∧ (u = s.setEng e EngineState.settle) ∧ (a = x.address p (szBytes sz) am off) ∧ (s.runs e (.st r p sz am off)) ∧ (u.target e (decide (p.val ≥ 4)) a.1.toNat (szBytes sz) true = .ok (.shm b)) ∧ (2 ≤ x.shw.length)) ∧
    (∃ (e : Fin 512) (r : Fin 16) (p : Fin 8) (sz am : Nat) (off : BitVec 15) (s u : State) (x : EngineState) (a : Word × Word), ∃ k sub, (x = s.core e) ∧ (u = s.setEng e EngineState.settle) ∧ (a = x.address p (szBytes sz) am off) ∧ (s.runs e (.st r p sz am off)) ∧ (u.target e (decide (p.val ≥ 4)) a.1.toNat (szBytes sz) true = .error (k, sub)) ∧ (¬ (k = 2 ∧ sub = 2))) ∧
    (∃ (e : Fin 512) (r : Fin 16) (p : Fin 8) (sz am : Nat) (off : BitVec 15) (s u : State) (x : EngineState) (a : Word × Word), (x = s.core e) ∧ (u = s.setEng e EngineState.settle) ∧ (a = x.address p (szBytes sz) am off) ∧ (s.runs e (.st r p sz am off)) ∧ (u.target e (decide (p.val ≥ 4)) a.1.toNat (szBytes sz) true = .error (2, 2))) ∧
    (∃ (e : Fin 512) (i : Fin 4) (p : Fin 8) (am : Nat) (off : BitVec 15) (s u : State) (x : EngineState) (a : Word × Word), ∃ b v l, (x = s.core e) ∧ (u = s.setEng e EngineState.settle) ∧ (a = x.address p 4 am off) ∧ (s.runs e (.sta i p am off)) ∧ (u.target e (decide (p.val ≥ 4)) a.1.toNat 4 true = .ok (.own b)) ∧ (store32 x.md false x.a[i] = some (v, l))) ∧
    (∃ (e : Fin 512) (i : Fin 4) (p : Fin 8) (am : Nat) (off : BitVec 15) (s u : State) (x : EngineState) (a : Word × Word), ∃ b, (x = s.core e) ∧ (u = s.setEng e EngineState.settle) ∧ (a = x.address p 4 am off) ∧ (s.runs e (.sta i p am off)) ∧ (u.target e (decide (p.val ≥ 4)) a.1.toNat 4 true = .ok (.own b)) ∧ (store32 x.md false x.a[i] = none)) ∧
    (∃ (e : Fin 512) (r : Fin 16) (p : Fin 8) (sz am : Nat) (off : BitVec 15) (k : Stall) (s : State) (x : EngineState), (x = s.eng e) ∧ (x.stall = some k) ∧ (k.fabric = false) ∧ (x.shw = []) ∧ (s.softIn k.addr k.bytes = []) ∧ (decodeEng (s.fetch e) = some (.ld r p sz am off))) ∧
    (∃ (e : Fin 512) (r : Fin 16) (p : Fin 8) (sz am : Nat) (off : BitVec 15) (k : Stall) (s : State) (x : EngineState), (x = s.eng e) ∧ (x.stall = some k) ∧ (k.fabric = false) ∧ (x.shw = []) ∧ (s.uncorrectable k.addr k.bytes = true)) :=
  ⟨⟨0, 0, 0, 1, 0, 0, (prog 0x40020000).setEcc [(0x2004000, true)], _, _, _, 0x2004000, rfl, rfl, rfl, by unfold State.runs; decide +kernel, rfl, by decide +kernel⟩,
   ⟨0, 0, 0, 1, 0, 0, prog 0x40020000, _, _, _, 0x2004000, rfl, rfl, rfl, by unfold State.runs; decide +kernel, rfl, by decide +kernel⟩,
   ⟨0, 0, 0, 1, 0, 0, prog 0x40020000 fun y => { y with p := Vector.replicate 8 0x40000 }, _, _, _, 0xC00000, rfl, rfl, rfl, by unfold State.runs; decide +kernel, by simp only [State.target]; rw [if_neg (by decide +kernel), if_neg (by decide +kernel), if_neg (by decide +kernel), if_pos (by decide +kernel), if_neg (by decide +kernel), if_pos (by decide +kernel)]; exact congrArg (fun b => Except.ok (Target.shm b)) (by decide +kernel)⟩,
   ⟨0, 0, 0, 1, 0, 0, prog 0x40020000 fun y => { y with p := Vector.replicate 8 0x80000 }, _, _, _, 0, rfl, rfl, rfl, by unfold State.runs; decide +kernel, by simp only [State.target]; rw [if_neg (by decide +kernel), if_neg (by decide +kernel), if_neg (by decide +kernel), if_neg (by decide +kernel), if_pos (by decide +kernel), if_pos (by decide +kernel)]; exact congrArg (fun b => Except.ok (Target.io b)) (by decide +kernel)⟩,
   ⟨0, 0, 0, 1, 0, 0, prog 0x40020000 fun y => { y with p := Vector.replicate 8 0x10C00000 }, _, _, _, 0xC00000, rfl, rfl, rfl, by unfold State.runs; decide +kernel, by simp only [State.target]; rw [if_neg (by decide +kernel), if_neg (by decide +kernel), if_neg (by decide +kernel), if_neg (by decide +kernel), if_neg (by decide +kernel), if_pos (by decide +kernel), if_neg (by decide +kernel), if_pos (by decide +kernel)]; exact congrArg (fun b => Except.ok (Target.fabric b)) (by decide +kernel)⟩,
   ⟨0, 0, 0, 1, 0, 0, prog 0x40020000 fun y => { y with p := Vector.replicate 8 1 }, _, _, _, 3, 0, rfl, rfl, rfl, by unfold State.runs; decide +kernel, rfl, by decide +kernel⟩,
   ⟨0, 0, 0, 1, 0, 0, (prog 0x40020000 fun y => { y with p := Vector.replicate 8 0x10101010 }).wr (P.engine 0 + R.PAGE_OWNER) 1, _, _, _, rfl, rfl, rfl, by unfold State.runs; decide +kernel, by simp only [State.target]; rw [if_neg (by decide +kernel), if_neg (by decide +kernel), if_neg (by decide +kernel), if_neg (by decide +kernel), if_neg (by decide +kernel), if_pos (by decide +kernel), if_neg (by decide +kernel), if_neg (by decide +kernel)]⟩,
   ⟨0, 0, 0, 0, 0, 0, Sys2Proof.Tests.prog 0x44000000, _, _, _, _, rfl, rfl, rfl, by unfold State.runs; decide, rfl⟩,
   ⟨0, 0, 0, 1, 0, 0, prog 0x44020000 fun y => { y with p := Vector.replicate 8 0x40000 }, _, _, _, 0xC00000, rfl, rfl, rfl, by unfold State.runs; decide +kernel, by simp only [State.target]; rw [if_neg (by decide +kernel), if_neg (by decide +kernel), if_neg (by decide +kernel), if_pos (by decide +kernel), if_neg (by decide +kernel), if_pos (by decide +kernel)]; exact congrArg (fun b => Except.ok (Target.shm b)) (by decide +kernel), by decide +kernel⟩,
   ⟨0, 0, 0, 1, 0, 0, prog 0x44020000 fun y => { y with p := Vector.replicate 8 0x10C00000 }, _, _, _, 0xC00000, rfl, rfl, rfl, by unfold State.runs; decide +kernel, by simp only [State.target]; rw [if_neg (by decide +kernel), if_neg (by decide +kernel), if_neg (by decide +kernel), if_neg (by decide +kernel), if_neg (by decide +kernel), if_pos (by decide +kernel), if_neg (by decide +kernel), if_pos (by decide +kernel)]; exact congrArg (fun b => Except.ok (Target.fabric b)) (by decide +kernel), by decide +kernel⟩,
   ⟨0, 0, 0, 1, 0, 0, prog 0x44020000 fun y => { y with p := Vector.replicate 8 0x80000 }, _, _, _, 0, rfl, rfl, rfl, by unfold State.runs; decide +kernel, by simp only [State.target]; rw [if_neg (by decide +kernel), if_neg (by decide +kernel), if_neg (by decide +kernel), if_neg (by decide +kernel), if_pos (by decide +kernel), if_pos (by decide +kernel)]; exact congrArg (fun b => Except.ok (Target.io b)) (by decide +kernel)⟩,
   ⟨0, 0, 0, 1, 0, 0, prog 0x44020000 fun y => { y with p := Vector.replicate 8 0x40000, shw := [{}, {}] }, _, _, _, 0xC00000, rfl, rfl, rfl, by unfold State.runs; decide +kernel, by simp only [State.target]; rw [if_neg (by decide +kernel), if_neg (by decide +kernel), if_neg (by decide +kernel), if_pos (by decide +kernel), if_neg (by decide +kernel), if_pos (by decide +kernel)]; exact congrArg (fun b => Except.ok (Target.shm b)) (by decide +kernel), by decide +kernel⟩,
   ⟨0, 0, 0, 0, 0, 0, prog 0x44000000 fun y => { y with p := Vector.replicate 8 1 }, _, _, _, 3, 0, rfl, rfl, rfl, by unfold State.runs; decide +kernel, rfl, by decide +kernel⟩,
   ⟨0, 0, 0, 1, 0, 0, (prog 0x44020000 fun y => { y with p := Vector.replicate 8 0x10101000 }).wr (P.engine 0 + R.PAGE_OWNER) 1, _, _, _, rfl, rfl, rfl, by unfold State.runs; decide +kernel, by simp only [State.target]; rw [if_neg (by decide +kernel), if_neg (by decide +kernel), if_neg (by decide +kernel), if_neg (by decide +kernel), if_neg (by decide +kernel), if_pos (by decide +kernel), if_neg (by decide +kernel), if_neg (by decide +kernel)]⟩,
   ⟨0, 0, 0, 0, 0, Sys2Proof.Tests.prog 0x48020000, _, _, _, _, _, _, rfl, rfl, rfl, by unfold State.runs; decide, rfl, rfl⟩,
   ⟨0, 0, 0, 0, 0, prog 1208090624 fun y => { y with md := 15, a := Vector.replicate 4 (BitVec.ofNat 72 (2 ^ 70)) }, _, _, _, _, rfl, rfl, rfl, by unfold State.runs; decide +kernel, rfl, by decide +kernel⟩,
   ⟨0, 0, 0, 0, 0, 0, {}, prog 0x40000000 fun x => { x with stall := some {} }, _, rfl, by decide +kernel, by decide +kernel, by decide +kernel, by decide +kernel, by decide +kernel⟩,
   ⟨0, 0, 0, 0, 0, 0, { addr := 0xC00000 }, (prog 0x40000000 fun x => { x with stall := some { addr := 0xC00000 } }).setEcc [(0xC00000, true)], _, rfl, by decide +kernel, by decide +kernel, by decide +kernel, by decide +kernel⟩⟩

/-- States and operands that meet the hypotheses of `Obligations.ControlInstructions`, clause by clause. -/
theorem witness_ControlInstructions :
    (∃ (e : Fin 512) (s : State) (x : EngineState), (x = s.core e) ∧ (s.runs e .nop)) ∧
    (∃ (e : Fin 512) (s : State) (x : EngineState), (x = s.core e) ∧ (s.runs e .wait) ∧ (x.calls ≠ [] ∨ x.mails ≠ [] ∨ x.wdPend = true)) ∧
    (∃ (e : Fin 512) (s : State) (x : EngineState), (x = s.core e) ∧ (s.runs e .wait) ∧ (x.calls = []) ∧ (x.mails = []) ∧ (x.wdPend = false)) ∧
    (∃ (e : Fin 512) (s : State) (x : EngineState), (x = s.core e) ∧ (s.runs e .rete)) ∧
    (∃ (e : Fin 512) (s : State), (s.runs e .brk)) ∧
    (∃ (e : Fin 512) (dir : Bool) (r : Fin 16) (n : Nat) (s : State) (x : EngineState), (x = s.core e) ∧ (s.runs e (.movs dir r n)) ∧ (dir = false)) ∧
    (∃ (e : Fin 512) (dir : Bool) (r : Fin 16) (n : Nat) (s : State) (x : EngineState), (x = s.core e) ∧ (s.runs e (.movs dir r n)) ∧ (dir = true) ∧ (n = 0x21)) ∧
    (∃ (e : Fin 512) (dir : Bool) (r : Fin 16) (n : Nat) (s : State) (x : EngineState), (x = s.core e) ∧ (s.runs e (.movs dir r n)) ∧ (dir = true) ∧ (n ≠ 0x21)) ∧
    (∃ (e : Fin 512) (p : Fin 8) (v : BitVec 16) (s : State) (x : EngineState), (x = s.core e) ∧ (s.runs e (.padd p v))) ∧
    (∃ (e : Fin 512) (m : BitVec 4) (s : State) (x : EngineState), (x = s.core e) ∧ (s.runs e (.mdk true m))) ∧
    (∃ (e : Fin 512) (m : BitVec 4) (s : State) (x : EngineState), (x = s.core e) ∧ (s.runs e (.mdk false m))) ∧
    (∃ (e : Fin 512) (c : Nat) (rn : Fin 16) (off : Nat) (s : State) (x : EngineState), (x = s.core e) ∧ (s.runs e (.br .b c rn off)) ∧ (condHolds x.fl c = true)) ∧
    (∃ (e : Fin 512) (c : Nat) (rn : Fin 16) (off : Nat) (s : State) (x : EngineState), (x = s.core e) ∧ (s.runs e (.br .b c rn off)) ∧ (condHolds x.fl c = false)) ∧
    (∃ (e : Fin 512) (c : Nat) (rn : Fin 16) (off : Nat) (s : State) (x : EngineState), (x = s.core e) ∧ (s.runs e (.br .br c rn off)) ∧ (condHolds x.fl c = true)) ∧
    (∃ (e : Fin 512) (c : Nat) (rn : Fin 16) (off : Nat) (s : State) (x : EngineState), (x = s.core e) ∧ (s.runs e (.br .br c rn off)) ∧ (condHolds x.fl c = false)) ∧
    (∃ (e : Fin 512) (c : Nat) (rn : Fin 16) (off : Nat) (s : State) (x : EngineState), (x = s.core e) ∧ (s.runs e (.br .call c rn off)) ∧ (condHolds x.fl c = true)) ∧
    (∃ (e : Fin 512) (c : Nat) (rn : Fin 16) (off : Nat) (s : State) (x : EngineState), (x = s.core e) ∧ (s.runs e (.br .call c rn off)) ∧ (condHolds x.fl c = false)) ∧
    (∃ (e : Fin 512) (c : Nat) (rn : Fin 16) (off : Nat) (s : State) (x : EngineState), (x = s.core e) ∧ (s.runs e (.br .callr c rn off)) ∧ (condHolds x.fl c = true)) ∧
    (∃ (e : Fin 512) (c : Nat) (rn : Fin 16) (off : Nat) (s : State) (x : EngineState), (x = s.core e) ∧ (s.runs e (.br .callr c rn off)) ∧ (condHolds x.fl c = false)) ∧
    (∃ (e : Fin 512) (reg : Bool) (rn : Fin 16) (n off k : Nat) (s : State) (x : EngineState), (x = s.core e) ∧ (s.runs e (.loop reg rn n off)) ∧ (k = (if reg then x.d[rn].toNat % 65536 else n)) ∧ (x.slot = none) ∧ (k = 0)) ∧
    (∃ (e : Fin 512) (reg : Bool) (rn : Fin 16) (n off k : Nat) (s : State) (x : EngineState), (x = s.core e) ∧ (s.runs e (.loop reg rn n off)) ∧ (k = (if reg then x.d[rn].toNat % 65536 else n)) ∧ (x.slot = none) ∧ (k ≠ 0)) ∧
    (∃ (e : Fin 512) (s : State) (x : EngineState), (x = s.core e) ∧ (s.runs e .lpop)) :=
  ⟨⟨0, Sys2Proof.Tests.prog 0x0, _, rfl, by unfold State.runs; decide⟩,
   ⟨0, prog 1 fun y => { y with calls := [{}] }, _, rfl, by unfold State.runs; decide +kernel, by decide +kernel⟩,
   ⟨0, Sys2Proof.Tests.prog 0x1, _, rfl, by unfold State.runs; decide, by decide, by decide, by decide⟩,
   ⟨0, prog 2 fun x => { x with exl := true }, _, rfl, by unfold State.runs; decide +kernel⟩,
   ⟨0, Sys2Proof.Tests.prog 0x3, by unfold State.runs; decide⟩,
   ⟨0, _, 0, 0x10, Sys2Proof.Tests.prog 0xc0010000, _, rfl, by unfold State.runs; decide, rfl⟩,
   ⟨0, true, 0, 0x21, Sys2Proof.Tests.prog 0xc0221000, _, rfl, by unfold State.runs; decide, rfl, rfl⟩,
   ⟨0, true, 0, 0x10, Sys2Proof.Tests.prog 0xc0210000, _, rfl, by unfold State.runs; decide, rfl, by decide⟩,
   ⟨0, 0, 0, Sys2Proof.Tests.prog 0xc4000000, _, rfl, by unfold State.runs; decide⟩,
   ⟨0, 0, Sys2Proof.Tests.prog 0xca000000, _, rfl, by unfold State.runs; decide⟩,
   ⟨0, 0, Sys2Proof.Tests.prog 0xc8000000, _, rfl, by unfold State.runs; decide⟩,
   ⟨0, 1, 0, 0, prog 0xe0400000, _, rfl, by unfold State.runs; decide +kernel, by decide +kernel⟩,
   ⟨0, 0, 0, 0, prog 0xe0000000, _, rfl, by unfold State.runs; decide +kernel, by decide +kernel⟩,
   ⟨0, 1, 0, 0, prog 0xe4400000, _, rfl, by unfold State.runs; decide +kernel, by decide +kernel⟩,
   ⟨0, 0, 0, 0, prog 0xe4000000, _, rfl, by unfold State.runs; decide +kernel, by decide +kernel⟩,
   ⟨0, 1, 0, 0, prog 0xe8400000, _, rfl, by unfold State.runs; decide +kernel, by decide +kernel⟩,
   ⟨0, 0, 0, 0, prog 0xe8000000, _, rfl, by unfold State.runs; decide +kernel, by decide +kernel⟩,
   ⟨0, 1, 0, 0, prog 0xec400000, _, rfl, by unfold State.runs; decide +kernel, by decide +kernel⟩,
   ⟨0, 0, 0, 0, prog 0xec000000, _, rfl, by unfold State.runs; decide +kernel, by decide +kernel⟩,
   ⟨0, false, 0, 0, 1, _, Sys2Proof.Tests.prog 0xf0000001, _, rfl, by unfold State.runs; decide, rfl, by decide, by decide⟩,
   ⟨0, false, 0, 5, 1, _, Sys2Proof.Tests.prog 0xf0005001, _, rfl, by unfold State.runs; decide, rfl, by decide, by decide⟩,
   ⟨0, Sys2Proof.Tests.prog 0xf4000000, _, rfl, by unfold State.runs; decide⟩⟩

/-- States and operands that meet the hypotheses of `Obligations.CircularPointer`, clause by clause. -/
theorem witness_CircularPointer :
    (∃ (x : EngineState) (n : Fin 8) (m : Word), (x.pl[n] ≠ 0) ∧ (x.pb[n].toNat ≤ x.p[n].toNat) ∧ (x.p[n].toNat < x.pb[n].toNat + x.pl[n].toNat) ∧ ((m.toNat ≤ x.pl[n].toNat ∧ x.pb[n].toNat + 2 * x.pl[n].toNat ≤ 2 ^ 32) ∨ ((-m).toNat ≤ x.pl[n].toNat ∧ x.pl[n].toNat ≤ x.pb[n].toNat ∧ x.pb[n].toNat + x.pl[n].toNat < 2 ^ 32))) :=
  ⟨{ pl := Vector.replicate 8 4 }, 0, 4, by decide +kernel, by decide +kernel, by decide +kernel, by decide +kernel⟩

/-- States and operands that meet the hypotheses of `Obligations.EngineWords`, clause by clause. -/
theorem witness_EngineWords :
    (∃ (f : Nat) (g : AluFn) (rd ra rb : Fin 16), (aluFn f = some g) ∧ (g = .mov ∨ g = .abs ∨ g = .neg ∨ g = .clz → rb = 0) ∧ (g = .cmp → rd = 0)) ∧
    (∃ (op v : Nat) (g : ImmFn) (rd ra : Fin 16), (immFn op = some g) ∧ (v < 2 ^ 18) ∧ (g = .cmpi → rd = 0) ∧ (g = .shi → v < 256 ∧ bits v 5 1 = 0 ∧ bits v 6 2 ≠ 3)) ∧
    (∃ (r : Fin 16) (p : Fin 8) (sz am off : Nat), (sz < 4) ∧ (am < 4) ∧ (off < 2 ^ 15) ∧ (sz = 2 → r.val % 2 = 0) ∧ (am = 1 → off < 4)) ∧
    (∃ (r : Fin 16) (p : Fin 8) (sz am off : Nat), ∃ a : Fin 4, (sz < 4) ∧ (am < 4) ∧ (off < 2 ^ 15) ∧ (sz = 2 → r.val % 2 = 0) ∧ (am = 1 → off < 4)) ∧
    (∃ (op : Nat) (g : MulFn) (a : Fin 4) (ra rb : Fin 16) (lx ly : ParLoad), (mulFn op = some g) ∧ (lx.code < 4) ∧ (ly.code < 4) ∧ (lx.code = 0 → lx.rd = 0 ∧ lx.ptr = 0) ∧ (ly.code = 0 → ly.rd = 0 ∧ ly.ptr = 0) ∧ (lx.code ≠ 0 → ly.code ≠ 0 → lx.rd ≠ ly.rd) ∧ (g = .ldp → a = 0 ∧ ra = 0 ∧ rb = 0)) ∧
    (∃ (f sh : Nat) (g : AccFn) (ad as_ : Fin 4) (r : Fin 16), (accFn f = some g) ∧ (sh < 64) ∧ (g = .ashl ∨ g = .asar ∨ sh = 0) ∧ (g = .aload ∨ g = .aloadl ∨ g = .ast ∨ r = 0) ∧ (g = .aclr ∨ g = .aload ∨ g = .aloadl → as_ = 0) ∧ (g = .ast → ad = 0)) ∧
    (∃ (op cond off : Nat) (g : BrFn) (rn : Fin 16), (brFn op = some g) ∧ (cond < 15) ∧ (off < 2 ^ 12) ∧ (g = .b ∨ g = .call → rn = 0) ∧ (g = .br ∨ g = .callr → off = 0)) ∧
    (∃ (rn : Fin 16) (count off : Nat), (count < 2 ^ 13) ∧ (0 < off) ∧ (off < 2 ^ 12)) ∧
    (∃ (dir : Bool) (r : Fin 16) (c : Nat), (c < 64) ∧ (sregOk dir c = true)) :=
  ⟨⟨1, .add, 0, 0, 0, by decide +kernel, by decide +kernel, by decide +kernel⟩,
   ⟨4, 262143, .addi, 0, 0, by decide +kernel, by decide +kernel, by decide +kernel, by decide +kernel⟩,
   ⟨2, 0, 2, 1, 3, by decide +kernel, by decide +kernel, by decide +kernel, by decide +kernel, by decide +kernel⟩,
   ⟨2, 0, 2, 1, 3, 3, by decide +kernel, by decide +kernel, by decide +kernel, by decide +kernel, by decide +kernel⟩,
   ⟨0x20, .mac, 3, 0, 15, ⟨1, 2, 1⟩, ⟨2, 3, 1⟩, by decide +kernel, by decide +kernel, by decide +kernel, by decide +kernel, by decide +kernel, by decide +kernel, by decide +kernel⟩,
   ⟨6, 63, .ashl, 3, 3, 0, by decide +kernel, by decide +kernel, by decide +kernel, by decide +kernel, by decide +kernel, by decide +kernel⟩,
   ⟨0x38, 14, 4095, .b, 0, by decide +kernel, by decide +kernel, by decide +kernel, by decide +kernel, by decide +kernel⟩,
   ⟨15, 8191, 4095, by decide +kernel, by decide +kernel, by decide +kernel⟩,
   ⟨false, 0, 0, by decide, by decide⟩⟩

/-- States and operands that meet the hypotheses of `Obligations.TrunksAndTeeth`, clause by clause. -/
theorem witness_TrunksAndTeeth :
    (∃ (k : Fin 8) (s : State) (g : TrunkSeg), (g = s.stagedSeg k) ∧ (16 ≤ (s.trunk k).queue.length)) ∧
    (∃ (k : Fin 8) (s : State) (g : TrunkSeg), ∃ q, (g = s.stagedSeg k) ∧ ((s.trunk k).queue.length < 16) ∧ ((s.trunk k).queue.getLast? = some q) ∧ (laterNs g.t q.t = false)) ∧
    (∃ (k : Fin 8) (s : State) (g : TrunkSeg), (g = s.stagedSeg k) ∧ ((s.trunk k).queue = []) ∧ ((s.trunk k).active = none) ∧ (0 ≤ since96 (s.time96 s.now) g.t)) ∧
    (∃ (k : Fin 8) (s : State) (g : TrunkSeg), (g = s.stagedSeg k) ∧ ((s.trunk k).queue = []) ∧ ((s.trunk k).active = none) ∧ (since96 (s.time96 s.now) g.t < 0) ∧ (g.dur = 0)) ∧
    (∃ (k : Fin 8) (s : State) (g : TrunkSeg), (g = s.stagedSeg k) ∧ ((s.trunk k).queue.length < 16) ∧ (∀ q, (s.trunk k).queue.getLast?.or (s.trunk k).active = some q → laterNs g.t q.t = true) ∧ (since96 (s.time96 s.now) g.t < 0) ∧ (g.dur ≠ 0)) ∧
    (∃ (k : Fin 8) (v : Word) (s : State), (bits v.toNat 2 2 = 3)) ∧
    (∃ (k : Fin 8) (v : Word) (s : State), (s.trkOn k = true) ∧ (bits v.toNat 2 2 ≠ s.trkSrc k ∨ bits v.toNat 8 6 ≠ s.trkIdx k)) ∧
    (∃ (k : Fin 8) (v : Word) (s : State), (s.trkOn k = false) ∧ (v.toNat % 2 = 1) ∧ (bits v.toNat 2 2 = 0) ∧ (bits v.toNat 16 1 = 0)) ∧
    (∃ (k : Fin 8) (v : Word) (s : State), (s.trkOn k = true) ∧ (v.toNat % 2 = 0) ∧ (bits v.toNat 2 2 = s.trkSrc k) ∧ (bits v.toNat 8 6 = s.trkIdx k) ∧ (bits v.toNat 2 2 ≠ 3) ∧ (bits v.toNat 16 1 = 0)) ∧
    (∃ (k : Fin 8) (v : Word) (s : State), (s.trkOn k = false) ∧ (s.srcAbsent (bits v.toNat 2 2) (bits v.toNat 8 6) = true) ∧ (bits v.toNat 2 2 ≠ 3) ∧ (bits v.toNat 16 1 = 0)) ∧
    (∃ (q : Fin 514) (k : Fin 8) (s u : State) (x v : Nat), (u = s.trkAsk k s.now) ∧ (x = ofSigned 64 (u.trkAt k u.now).1) ∧ (v = ofSigned 64 (u.trkAt k u.now).2)) ∧
    (∃ (i : Fin 8) (j : Fin 2) (lvl : Bool) (t0 acc : Nat) (s : State), (acc = t0 + ((s.slate i).auxFilt[j] * 625 + 1) / 2) ∧ ((s.slate i).powered = true) ∧ (acc ≤ s.stick i) ∧ (bits (s.slate i).auxPol j 1 = 1 ↔ lvl = false)) ∧
    (∃ (i : Fin 8) (j : Fin 2) (lvl : Bool) (t0 acc : Nat) (s : State), (acc = t0 + ((s.slate i).auxFilt[j] * 625 + 1) / 2) ∧ ((s.slate i).powered = false ∨ s.stick i < acc ∨ (bits (s.slate i).auxPol j 1 = 1 ↔ lvl = true))) ∧
    (∃ (t : Fin 16) (l : ToothRec) (e : Nat) (s : State), (s.toothOn t = true) ∧ (s.toothLate t (s.now - 625) = true) ∧ ((s.tooth t).last = some l) ∧ ((s.tooth t).texp = some e) ∧ (s.toothVmax t ≤ (s.tooth t).vrun)) ∧
    (∃ (t : Fin 16) (l : ToothRec) (e : Nat) (s : State), (s.toothOn t = true) ∧ (s.toothLate t (s.now - 625) = true) ∧ ((s.tooth t).last = some l) ∧ ((s.tooth t).texp = some e) ∧ ((s.tooth t).vrun < s.toothVmax t) ∧ (s.toothAtRef t = false)) ∧
    (∃ (t : Fin 16) (l : Nat) (s : State), (s.toothOn t = true) ∧ ((s.tooth t).lastReal = some l) ∧ (625 * max 1 (bits (s.rd (P.tooth t + R.TOOTH_STILL)) 0 24) < 2 * (s.now - l))) ∧
    (∃ (t : Fin 16) (l : Nat) (s : State), (s.toothOn t = true) ∧ ((s.tooth t).lastReal = some l) ∧ (2 * (s.now - l) ≤ 625 * max 1 (bits (s.rd (P.tooth t + R.TOOTH_STILL)) 0 24))) ∧
    (∃ (t : Fin 16) (v : BitVec 24) (i : Fin 8) (s u : State), (slate? (t.val / 2) = some i) ∧ (u = ((s.wr (P.tooth t + R.TOOTH_CTRL) (v.toNat &&& 0xFFFF3D)).forward i (auxOff (t.val % 2)) ((s.wr (P.tooth t + R.TOOTH_CTRL) (v.toNat &&& 0xFFFF3D)).auxWord i (t.val % 2)) 0xFFFFFFFF)) ∧ (s.toothOn t = true) ∧ (v.toNat % 2 = 0)) ∧
    (∃ (t : Fin 16) (v : BitVec 24) (i : Fin 8) (s u : State), (slate? (t.val / 2) = some i) ∧ (u = ((s.wr (P.tooth t + R.TOOTH_CTRL) (v.toNat &&& 0xFFFF3D)).forward i (auxOff (t.val % 2)) ((s.wr (P.tooth t + R.TOOTH_CTRL) (v.toNat &&& 0xFFFF3D)).auxWord i (t.val % 2)) 0xFFFFFFFF)) ∧ (s.toothOn t = false) ∧ (v.toNat % 2 = 0)) ∧
    (∃ (t : Fin 16) (v : BitVec 24) (i : Fin 8) (s u : State), (slate? (t.val / 2) = some i) ∧ (u = ((s.wr (P.tooth t + R.TOOTH_CTRL) (v.toNat &&& 0xFFFF3D)).forward i (auxOff (t.val % 2)) ((s.wr (P.tooth t + R.TOOTH_CTRL) (v.toNat &&& 0xFFFF3D)).auxWord i (t.val % 2)) 0xFFFFFFFF)) ∧ (s.toothOn t = false) ∧ (v.toNat % 2 = 1)) ∧
    (∃ (t : Fin 16) (v : BitVec 24) (i : Fin 8) (s u : State), (slate? (t.val / 2) = some i) ∧ (u = ((s.wr (P.tooth t + R.TOOTH_CTRL) (v.toNat &&& 0xFFFF3D)).forward i (auxOff (t.val % 2)) ((s.wr (P.tooth t + R.TOOTH_CTRL) (v.toNat &&& 0xFFFF3D)).auxWord i (t.val % 2)) 0xFFFFFFFF)) ∧ (s.toothOn t = true) ∧ (v.toNat % 2 = 1) ∧ (bits v.toNat 1 1 = 0)) ∧
    (∃ (t : Fin 16) (s : State), (s.toothOn t = true)) ∧
    (∃ (q : Fin 514) (t : Fin 16) (s : State) (k : Nat), (k = ((s.tooth t).last.map (·.tick)).getD 0)) :=
  ⟨⟨0, State.reset.setTrunk 0 fun y => { y with queue := List.replicate 16 {} }, _, rfl, by decide +kernel⟩,
   ⟨0, State.reset.setTrunk 0 fun y => { y with queue := [{}] }, _, {}, rfl, by decide +kernel, by decide +kernel, by decide +kernel⟩,
   ⟨0, (((State.reset.setTime fun y => { y with tick := 1000000000 }).setTrunk 0 fun y => { y with queue := [] }).setTrunk 0 fun y => { y with active := none }), _, rfl, by decide, by decide, by decide⟩,
   ⟨0, State.reset.wr (P.trunk 0 + R.TRK_SEG_T_LO) 1000000000, _, rfl, by decide +kernel, by decide +kernel, by decide +kernel, by decide +kernel⟩,
   ⟨0, (State.reset.wr (P.trunk 0 + R.TRK_SEG_T_LO) 1000000000).wr (P.trunk 0 + R.TRK_SEG_DUR) 1, _, rfl, by decide +kernel, fun q h => absurd (h.symm.trans (by decide +kernel : _ = none)) (by simp), by decide +kernel, by decide +kernel⟩,
   ⟨0, 12, State.reset, by decide⟩,
   ⟨0, 0x105, (State.reset.setb (P.trunk 0) F.TRK_CTRL_EN true), by decide +kernel, by decide +kernel⟩,
   ⟨0, 1, State.reset, by decide +kernel, by decide +kernel, by decide +kernel, by decide +kernel⟩,
   ⟨0, 0, State.reset.setb (P.trunk 0) F.TRK_CTRL_EN true, by decide +kernel, by decide +kernel, by decide +kernel, by decide +kernel, by decide +kernel, by decide +kernel⟩,
   ⟨0, 0x1004, State.reset, by decide +kernel, by decide +kernel, by decide +kernel, by decide +kernel⟩,
   ⟨0, 0, State.reset, _, _, _, rfl, rfl, rfl⟩,
   ⟨0, 0, true, 0, _, (late.setSlate 0 fun y => { y with powered := true }), rfl, by decide +kernel, by decide +kernel, by decide +kernel⟩,
   ⟨0, 0, false, 0, _, State.reset, rfl, by decide⟩,
   ⟨0, {}, 10, ((((late.setb (P.tooth 0) F.TOOTH_CTRL_EN true).setf (P.tooth 0) F.TOOTH_STATUS_STATE 2).wr (P.tooth 0 + R.TOOTH_MAXINT) 1000).setTooth 0 fun y => { y with last := some { tick := 0 }, texp := some 10, vrun := 200, pos := 1, lastReal := some 0 }), by decide +kernel, by decide +kernel, by decide +kernel, by decide +kernel, by decide +kernel⟩,
   ⟨0, {}, 10, ((((late.setb (P.tooth 0) F.TOOTH_CTRL_EN true).setf (P.tooth 0) F.TOOTH_STATUS_STATE 2).wr (P.tooth 0 + R.TOOTH_MAXINT) 1000).setTooth 0 fun y => { y with last := some { tick := 0 }, texp := some 10, vrun := 0, pos := 1, lastReal := some 0 }), by decide +kernel, by decide +kernel, by decide +kernel, by decide +kernel, by decide +kernel, by decide +kernel⟩,
   ⟨0, 0, ((((late.setb (P.tooth 0) F.TOOTH_CTRL_EN true).setf (P.tooth 0) F.TOOTH_STATUS_STATE 2).wr (P.tooth 0 + R.TOOTH_MAXINT) 1000).setTooth 0 fun y => { y with last := some { tick := 0 }, texp := some 10, vrun := 0, pos := 1, lastReal := some 0 }), by decide +kernel, by decide +kernel, by decide +kernel⟩,
   ⟨0, 1000000000, ((late.setb (P.tooth 0) F.TOOTH_CTRL_EN true).setTooth 0 fun y => { y with lastReal := some 1000000000 }), by decide +kernel, by decide +kernel, by decide +kernel⟩,
   ⟨0, 0, 0, State.reset.setb (P.tooth 0) F.TOOTH_CTRL_EN true, _, by decide +kernel, rfl, by decide +kernel, by decide +kernel⟩,
   ⟨0, 0, 0, State.reset, _, by decide, rfl, by decide, by decide⟩,
   ⟨0, 1, 0, State.reset, _, by decide, rfl, by decide, by decide⟩,
   ⟨0, 1, 0, State.reset.setb (P.tooth 0) F.TOOTH_CTRL_EN true, _, by decide +kernel, rfl, by decide +kernel, by decide +kernel, by decide +kernel⟩,
   ⟨0, ((((late.setb (P.tooth 0) F.TOOTH_CTRL_EN true).setf (P.tooth 0) F.TOOTH_STATUS_STATE 2).wr (P.tooth 0 + R.TOOTH_MAXINT) 1000).setTooth 0 fun y => { y with last := some { tick := 0 }, texp := some 10, vrun := 0, pos := 1, lastReal := some 0 }), by decide +kernel⟩,
   ⟨0, 0, State.reset, _, rfl⟩⟩

/-- States and operands that meet the hypotheses of `Obligations.ProfileCommands`, clause by clause. -/
theorem witness_ProfileCommands :
    (∃ (a : Fin 64) (s : State), ((s.loopOf a).posStamp = 0)) ∧
    (∃ (a : Fin 64) (s : State), ((s.loopOf a).posStamp ≠ 0) ∧ (s.prfOn a = true) ∧ ((s.prf a).on = true) ∧ ((s.prf a).nx = none) ∧ ((s.prf a).st = .idle) ∧ ((s.prf a).stopAsk = none) ∧ (s.rd (P.profile a + R.PRF_CMD) = 0)) ∧
    (∃ (q : Fin 514) (a : Fin 64) (s : State) (x : Nat), (x = ofSigned 64 (s.prfX a))) ∧
    (∃ (q : Fin 514) (a : Fin 64) (s : State) (x : Nat), (x = ofSigned 64 (s.prf a).br.ofs)) ∧
    (∃ (a : Fin 64) (s : State) (sp : SetPoint) (ref : Int) (c : Nat) (u : State), (c = s.rd (P.profile a + R.PRF_CMD)) ∧ (u = s.wr (P.profile a + R.PRF_CMD) 0) ∧ (c.testBit 3 = true)) ∧
    (∃ (a : Fin 64) (s : State) (sp : SetPoint) (ref : Int) (c : Nat) (u : State), (c = s.rd (P.profile a + R.PRF_CMD)) ∧ (u = s.wr (P.profile a + R.PRF_CMD) 0) ∧ (c.testBit 3 = false) ∧ (c.testBit 4 = true)) ∧
    (∃ (a : Fin 64) (s : State) (sp : SetPoint) (ref : Int) (c : Nat) (u : State), (c = s.rd (P.profile a + R.PRF_CMD)) ∧ (u = s.wr (P.profile a + R.PRF_CMD) 0) ∧ (c.testBit 3 = false) ∧ (c.testBit 4 = false) ∧ (c.testBit 2 = true)) ∧
    (∃ (a : Fin 64) (s : State) (sp : SetPoint) (ref : Int) (c : Nat) (u : State), (c = s.rd (P.profile a + R.PRF_CMD)) ∧ (u = s.wr (P.profile a + R.PRF_CMD) 0) ∧ (c.testBit 3 = false) ∧ (c.testBit 4 = false) ∧ (c.testBit 2 = false) ∧ (c.testBit 1 = true)) ∧
    (∃ (a : Fin 64) (s : State) (sp : SetPoint) (ref : Int) (c : Nat) (u : State), (c = s.rd (P.profile a + R.PRF_CMD)) ∧ (u = s.wr (P.profile a + R.PRF_CMD) 0) ∧ (c.testBit 3 = false) ∧ (c.testBit 4 = false) ∧ (c.testBit 2 = false) ∧ (c.testBit 1 = false) ∧ (c.testBit 0 = true)) ∧
    (∃ (a : Fin 64) (s : State) (sp : SetPoint), ((s.prfLim a).toList.contains 0 = false) ∧ ((s.prf a).st ≠ .stopping) ∧ (s.grpFollower a = false) ∧ ((s.prf a).st ≠ .path)) :=
  ⟨⟨0, (State.reset.setLoop 0 fun y => { y with posStamp := 0 }), by decide⟩,
   ⟨0, (((State.reset.setb (P.loop 0) F.LOOP_CTRL_RUN true).setsh (P.pwm 0 + R.PWM_CTRL) 1).setPrf 0 fun y => { y with on := true }).setLoop 0 fun y => { y with posStamp := 1 }, by decide +kernel, by decide +kernel, by decide +kernel, by decide +kernel, by decide +kernel, by decide +kernel, by decide +kernel⟩,
   ⟨0, 0, State.reset, _, rfl⟩,
   ⟨0, 0, State.reset, _, rfl⟩,
   ⟨0, State.reset.wr (P.profile 0 + R.PRF_CMD) 8, {}, 0, _, _, rfl, rfl, by decide +kernel⟩,
   ⟨0, State.reset.wr (P.profile 0 + R.PRF_CMD) 16, {}, 0, _, _, rfl, rfl, by decide +kernel, by decide +kernel⟩,
   ⟨0, State.reset.wr (P.profile 0 + R.PRF_CMD) 4, {}, 0, _, _, rfl, rfl, by decide +kernel, by decide +kernel, by decide +kernel⟩,
   ⟨0, State.reset.wr (P.profile 0 + R.PRF_CMD) 2, {}, 0, _, _, rfl, rfl, by decide +kernel, by decide +kernel, by decide +kernel, by decide +kernel⟩,
   ⟨0, State.reset.wr (P.profile 0 + R.PRF_CMD) 1, {}, 0, _, _, rfl, rfl, by decide +kernel, by decide +kernel, by decide +kernel, by decide +kernel, by decide +kernel⟩,
   ⟨0, ((((State.reset.wr (P.profile 0 + R.PRF_VMAX) 1).wr (P.profile 0 + R.PRF_AMAX) 1).wr (P.profile 0 + R.PRF_DMAX) 1).wr (P.profile 0 + R.PRF_JMAX) 1), {}, by decide +kernel, by decide +kernel, by decide +kernel, by decide +kernel⟩⟩

/-- States and operands that meet the hypotheses of `Obligations.GearRatio`, clause by clause. -/
theorem witness_GearRatio :
    (∃ (b : Branch) (x n : Int), (0 < b.den)) :=
  ⟨{ den := 1 }, 0, 0, by decide +kernel⟩

/-- States and operands that meet the hypotheses of `Obligations.TrackingRegions`, clause by clause. -/
theorem witness_TrackingRegions :
    (∃ (d : Fin 8) (s u : State), (u = (s.setTrack fun t => { t with reports := t.reports.set d t.reports[d].tail }).showRpt d) ∧ (u.track.reports[d] = [])) ∧
    (∃ (d : Fin 8) (s u : State), (u = (s.setTrack fun t => { t with reports := t.reports.set d t.reports[d].tail }).showRpt d) ∧ (u.track.reports[d] ≠ [])) ∧
    (∃ (s : State), (s.track.rb = none)) ∧
    (∃ (s : State), ∃ r, (s.track.rb = some r)) ∧
    (∃ (s : State), (s.track.rb = none)) ∧
    (∃ (s : State), ∃ r, (s.track.rb = some r) ∧ (r.built = true)) ∧
    (∃ (s : State), ∃ r, (s.track.rb = some r) ∧ (r.built = false)) ∧
    (∃ (a : Fin 64) (s : State), (s.track.rb ≠ none)) ∧
    (∃ (a : Fin 64) (s : State), (s.track.rb = none)) ∧
    (∃ (d : Fin 8) (v : Word) (s : State), (s.locked = true)) ∧
    (∃ (d : Fin 8) (v : Word) (s : State), (s.locked = false) ∧ (262144 < (v.toNat % 2 ^ 8 + bits v.toNat 16 9) * 1024)) ∧
    (∃ (d : Fin 8) (v : Word) (s : State), (s.locked = false) ∧ ((v.toNat % 2 ^ 8 + bits v.toNat 16 9) * 1024 ≤ 262144) ∧ (∀ e : Fin 8, e ≠ d → s.fld P.track (F.TRACK_RGN_COUNT e) = 0) ∧ (s.usedRecs = []) ∧ ((s.wr (P.track + R.TRACK_RGN d) (v.toNat &&& 0x1FF00FF)).usedRecs = [])) ∧
    (∃ (d : Fin 8) (s u : State), (u = s.wr (P.rgn d + R.RGN_CMD) (1 * 2 ^ 24)) ∧ (s.flag (P.rgn d) F.RGN_CMD_GO = true)) ∧
    (∃ (d : Fin 8) (s u : State), (u = s.wr (P.rgn d + R.RGN_CMD) (1 * 2 ^ 24)) ∧ (s.flag (P.rgn d) F.RGN_CMD_GO = false) ∧ (u.budgetLeft d = false)) ∧
    (∃ (d : Fin 8) (s u : State), (u = s.wr (P.rgn d + R.RGN_CMD) (1 * 2 ^ 24)) ∧ (s.flag (P.rgn d) F.RGN_CMD_GO = false) ∧ (u.budgetLeft d = true) ∧ (u.imageOk d (u.staged d) true = false)) ∧
    (∃ (d : Fin 8) (s u : State), (u = s.wr (P.rgn d + R.RGN_CMD) (1 * 2 ^ 24)) ∧ (s.flag (P.rgn d) F.RGN_CMD_GO = false) ∧ (u.budgetLeft d = true) ∧ (u.imageOk d (u.staged d) true = true) ∧ (u.freeRecs d = [])) ∧
    (∃ (d : Fin 8) (s u : State), (u = s.wr (P.rgn d + R.RGN_CMD) (1 * 2 ^ 24)) ∧ (s.flag (P.rgn d) F.RGN_CMD_GO = false) ∧ (u.budgetLeft d = true) ∧ (u.imageOk d (u.staged d) true = true) ∧ (u.freeRecs d ≠ [])) ∧
    (∃ (d : Fin 8) (s u : State), (u = s.wr (P.rgn d + R.RGN_CMD) (2 * 2 ^ 24)) ∧ (s.flag (P.rgn d) F.RGN_CMD_GO = true)) ∧
    (∃ (d : Fin 8) (s u : State), (u = s.wr (P.rgn d + R.RGN_CMD) (2 * 2 ^ 24)) ∧ (s.flag (P.rgn d) F.RGN_CMD_GO = false) ∧ (u.budgetLeft d = false)) ∧
    (∃ (d : Fin 8) (s u : State), (u = s.wr (P.rgn d + R.RGN_CMD) (2 * 2 ^ 24)) ∧ (s.flag (P.rgn d) F.RGN_CMD_GO = false) ∧ (u.budgetLeft d = true) ∧ (u.imageOk d (u.staged d) false = false)) ∧
    (∃ (d : Fin 8) (s u : State), (u = s.wr (P.rgn d + R.RGN_CMD) (2 * 2 ^ 24)) ∧ (s.flag (P.rgn d) F.RGN_CMD_GO = false) ∧ (u.budgetLeft d = true) ∧ (u.imageOk d (u.staged d) false = true) ∧ (u.freeRecs d = [])) ∧
    (∃ (d : Fin 8) (s u : State), (u = s.wr (P.rgn d + R.RGN_CMD) (2 * 2 ^ 24)) ∧ (s.flag (P.rgn d) F.RGN_CMD_GO = false) ∧ (u.budgetLeft d = true) ∧ (u.imageOk d (u.staged d) false = true) ∧ (u.freeRecs d ≠ [])) ∧
    (∃ (d : Fin 8) (s : State), (s.track.heldIns[d] = none)) ∧
    (∃ (d : Fin 8) (s : State), ∃ op w, (s.track.heldIns[d] = some (op, w)) ∧ (s.budgetLeft d = false)) ∧
    (∃ (d : Fin 8) (s : State), ∃ op w, (s.track.heldIns[d] = some (op, w)) ∧ (s.budgetLeft d = true)) ∧
    (∃ (d : Fin 8) (i : Fin 262144) (s u : State), (u = s.wr (P.rgn d + R.RGN_CMD) (3 * 2 ^ 24 + i.val)) ∧ (s.flag (P.rgn d) F.RGN_CMD_GO = true)) ∧
    (∃ (d : Fin 8) (i : Fin 262144) (s u : State), (u = s.wr (P.rgn d + R.RGN_CMD) (3 * 2 ^ 24 + i.val)) ∧ (s.flag (P.rgn d) F.RGN_CMD_GO = false) ∧ (u.rgnRec d i = false)) ∧
    (∃ (d : Fin 8) (i : Fin 262144) (s u : State), (u = s.wr (P.rgn d + R.RGN_CMD) (3 * 2 ^ 24 + i.val)) ∧ (s.flag (P.rgn d) F.RGN_CMD_GO = false) ∧ (u.rgnRec d i = true) ∧ (u.isEvent i = false)) ∧
    (∃ (d : Fin 8) (i : Fin 262144) (s u : State), (u = s.wr (P.rgn d + R.RGN_CMD) (3 * 2 ^ 24 + i.val)) ∧ (s.flag (P.rgn d) F.RGN_CMD_GO = false) ∧ (u.rgnRec d i = true) ∧ (u.isEvent i = true ∧ (u.rget i Rf.state = 1 ∨ u.rget i Rf.state = 2 ∨ u.rget i Rf.state = 4 ∨ u.rget i Rf.state = 5))) ∧
    (∃ (d : Fin 8) (i : Fin 262144) (s u : State), (u = s.wr (P.rgn d + R.RGN_CMD) (3 * 2 ^ 24 + i.val)) ∧ (s.flag (P.rgn d) F.RGN_CMD_GO = false) ∧ (u.rgnRec d i = true) ∧ (u.isEvent i = true ∧ (u.rget i Rf.state = 3 ∨ 8 ≤ u.rget i Rf.state))) ∧
    (∃ (d : Fin 8) (i : Fin 262144) (s u : State), (u = s.wr (P.rgn d + R.RGN_CMD) (4 * 2 ^ 24 + i.val)) ∧ (s.flag (P.rgn d) F.RGN_CMD_GO = true)) ∧
    (∃ (d : Fin 8) (i : Fin 262144) (s u : State), (u = s.wr (P.rgn d + R.RGN_CMD) (4 * 2 ^ 24 + i.val)) ∧ (s.flag (P.rgn d) F.RGN_CMD_GO = false) ∧ (u.rgnRec d i = false)) ∧
    (∃ (d : Fin 8) (i : Fin 262144) (s u : State), (u = s.wr (P.rgn d + R.RGN_CMD) (4 * 2 ^ 24 + i.val)) ∧ (s.flag (P.rgn d) F.RGN_CMD_GO = false) ∧ (u.rgnRec d i = true) ∧ (u.isEvent i = true ∧ u.rget i Rf.state = 3)) ∧
    (∃ (d : Fin 8) (i : Fin 262144) (s u : State), (u = s.wr (P.rgn d + R.RGN_CMD) (4 * 2 ^ 24 + i.val)) ∧ (s.flag (P.rgn d) F.RGN_CMD_GO = false) ∧ (u.rgnRec d i = true) ∧ (u.isEvent i = true ∧ u.rget i Rf.state ≠ 3)) ∧
    (∃ (d : Fin 8) (i : Fin 262144) (s u : State), (u = s.wr (P.rgn d + R.RGN_CMD) (4 * 2 ^ 24 + i.val)) ∧ (s.flag (P.rgn d) F.RGN_CMD_GO = false) ∧ (u.rgnRec d i = true) ∧ (u.isEvent i = false ∧ u.rget i Rf.state = 1)) ∧
    (∃ (d : Fin 8) (i : Fin 262144) (s u : State), (u = s.wr (P.rgn d + R.RGN_CMD) (4 * 2 ^ 24 + i.val)) ∧ (s.flag (P.rgn d) F.RGN_CMD_GO = false) ∧ (u.rgnRec d i = true) ∧ (u.isEvent i = false ∧ (u.rget i Rf.state = 2 ∨ u.rget i Rf.state = 3))) ∧
    (∃ (d : Fin 8) (i : Fin 262144) (s u : State), (u = s.wr (P.rgn d + R.RGN_CMD) (4 * 2 ^ 24 + i.val)) ∧ (s.flag (P.rgn d) F.RGN_CMD_GO = false) ∧ (u.rgnRec d i = true) ∧ (u.isEvent i = false ∧ 4 ≤ u.rget i Rf.state)) ∧
    (∃ (d : Fin 8) (i : Fin 262144) (s u : State), (u = s.wr (P.rgn d + R.RGN_CMD) (5 * 2 ^ 24 + i.val)) ∧ (s.flag (P.rgn d) F.RGN_CMD_GO = true)) ∧
    (∃ (d : Fin 8) (i : Fin 262144) (s u : State), (u = s.wr (P.rgn d + R.RGN_CMD) (5 * 2 ^ 24 + i.val)) ∧ (s.flag (P.rgn d) F.RGN_CMD_GO = false) ∧ (u.rgnRec d i = false)) ∧
    (∃ (d : Fin 8) (i : Fin 262144) (s u : State), (u = s.wr (P.rgn d + R.RGN_CMD) (5 * 2 ^ 24 + i.val)) ∧ (s.flag (P.rgn d) F.RGN_CMD_GO = false) ∧ (u.rgnRec d i = true) ∧ (u.isItem i = false)) ∧
    (∃ (d : Fin 8) (i : Fin 262144) (s u : State), (u = s.wr (P.rgn d + R.RGN_CMD) (5 * 2 ^ 24 + i.val)) ∧ (s.flag (P.rgn d) F.RGN_CMD_GO = false) ∧ (u.rgnRec d i = true) ∧ (u.isItem i = true ∧ u.rget i Rf.state ≠ 1 ∧ u.rget i Rf.state ≠ 6)) ∧
    (∃ (d : Fin 8) (i : Fin 262144) (s u : State), (u = s.wr (P.rgn d + R.RGN_CMD) (5 * 2 ^ 24 + i.val)) ∧ (s.flag (P.rgn d) F.RGN_CMD_GO = false) ∧ (u.rgnRec d i = true) ∧ (u.isItem i = true ∧ (u.rget i Rf.state = 1 ∨ u.rget i Rf.state = 6))) ∧
    (∃ (d : Fin 8) (i : Fin 262144) (s u : State), (u = s.wr (P.rgn d + R.RGN_CMD) (6 * 2 ^ 24 + i.val)) ∧ (s.flag (P.rgn d) F.RGN_CMD_GO = true)) ∧
    (∃ (d : Fin 8) (i : Fin 262144) (s u : State), (u = s.wr (P.rgn d + R.RGN_CMD) (6 * 2 ^ 24 + i.val)) ∧ (s.flag (P.rgn d) F.RGN_CMD_GO = false) ∧ (u.rgnRec d i = false)) ∧
    (∃ (d : Fin 8) (i : Fin 262144) (s u : State), (u = s.wr (P.rgn d + R.RGN_CMD) (6 * 2 ^ 24 + i.val)) ∧ (s.flag (P.rgn d) F.RGN_CMD_GO = false) ∧ (u.rgnRec d i = true) ∧ (True)) :=
  ⟨⟨0, State.reset, _, rfl, by decide⟩,
   ⟨0, State.reset.setTrack fun y => { y with reports := y.reports.set 0 [Vector.replicate 4 0, Vector.replicate 4 0] }, _, rfl, by decide +kernel⟩,
   ⟨(State.reset.setTrack fun y => { y with rb := none }), by decide⟩,
   ⟨State.reset.setTrack fun y => { y with rb := some {} }, {}, by decide +kernel⟩,
   ⟨(State.reset.setTrack fun y => { y with rb := none }), by decide⟩,
   ⟨State.reset.setTrack fun y => { y with rb := some { built := true } }, { built := true }, by decide +kernel, by decide +kernel⟩,
   ⟨State.reset.setTrack fun y => { y with rb := some {} }, {}, by decide +kernel, by decide +kernel⟩,
   ⟨0, State.reset.setTrack fun y => { y with rb := some {} }, by decide +kernel⟩,
   ⟨0, (State.reset.setTrack fun y => { y with rb := none }), by decide⟩,
   ⟨0, 0#32, (State.reset.setb P.dom F.DOM_LOCK_LOCK true), by decide⟩,
   ⟨0, 0x1FF00FF, State.reset, by decide +kernel, by decide +kernel⟩,
   ⟨0, 0#32, (State.reset.setb P.dom F.DOM_LOCK_LOCK false), by decide, by decide, by decide, by decide, by decide⟩,
   ⟨0, (State.reset.setb (P.rgn 0) F.RGN_CMD_GO true), _, rfl, by decide⟩,
   ⟨0, (State.reset.wr (P.dom + R.DOM_INS_LO) 0), _, rfl, by decide +kernel, by decide +kernel⟩,
   ⟨0, (State.reset.setb (P.rgn 0) F.RGN_CMD_GO false), _, rfl, by decide, by decide, by decide⟩,
   ⟨0, ((((State.reset.setb (P.lane 0) F.LANE_CTRL_EN true).setb (P.trunk 0) F.TRK_CTRL_EN true).wr (P.dom + R.DOM_INS_LO) 1).wr (P.rgn 0 + R.RGN_STAGE 0) 0x10).setf P.track (F.TRACK_RGN_COUNT 0) 0, _, rfl, by decide +kernel, by decide +kernel, by decide +kernel, by decide +kernel⟩,
   ⟨0, ((((State.reset.setb (P.lane 0) F.LANE_CTRL_EN true).setb (P.trunk 0) F.TRK_CTRL_EN true).wr (P.dom + R.DOM_INS_LO) 1).wr (P.rgn 0 + R.RGN_STAGE 0) 0x10).setf P.track (F.TRACK_RGN_COUNT 0) 1, _, rfl, by decide +kernel, by decide +kernel, by decide +kernel, by decide +kernel⟩,
   ⟨0, (State.reset.setb (P.rgn 0) F.RGN_CMD_GO true), _, rfl, by decide⟩,
   ⟨0, (State.reset.wr (P.dom + R.DOM_INS_LO) 0), _, rfl, by decide +kernel, by decide +kernel⟩,
   ⟨0, (State.reset.setb (P.rgn 0) F.RGN_CMD_GO false), _, rfl, by decide, by decide, by decide⟩,
   ⟨0, (((((State.reset.setb (P.lane 0) F.LANE_CTRL_EN true).setb (P.trunk 0) F.TRK_CTRL_EN true).wr (P.dom + R.DOM_INS_LO) 1).wr (P.rgn 0 + R.RGN_STAGE 0) 0x120).wr (P.rgn 0 + R.RGN_STAGE 4) 0xFFFFFFFF).setf P.track (F.TRACK_RGN_COUNT 0) 0, _, rfl, by decide +kernel, by decide +kernel, by decide +kernel, by decide +kernel⟩,
   ⟨0, (((((State.reset.setb (P.lane 0) F.LANE_CTRL_EN true).setb (P.trunk 0) F.TRK_CTRL_EN true).wr (P.dom + R.DOM_INS_LO) 1).wr (P.rgn 0 + R.RGN_STAGE 0) 0x120).wr (P.rgn 0 + R.RGN_STAGE 4) 0xFFFFFFFF).setf P.track (F.TRACK_RGN_COUNT 0) 1, _, rfl, by decide +kernel, by decide +kernel, by decide +kernel, by decide +kernel⟩,
   ⟨0, State.reset, by decide⟩,
   ⟨0, (State.reset.wr (P.dom + R.DOM_INS_LO) 0).setTrack fun y => { y with heldIns := y.heldIns.set 0 (some (1, 0)) }, 1, 0, by decide +kernel, by decide +kernel⟩,
   ⟨0, (State.reset.wr (P.dom + R.DOM_INS_LO) 1).setTrack fun y => { y with heldIns := y.heldIns.set 0 (some (1, 0)) }, 1, 0, by decide +kernel, by decide +kernel⟩,
   ⟨0, 0, (State.reset.setb (P.rgn 0) F.RGN_CMD_GO true), _, rfl, by decide⟩,
   ⟨0, 0, (State.reset.setb (P.rgn 0) F.RGN_CMD_GO false), _, rfl, by decide, by decide⟩,
   ⟨0, 0, (State.reset.setf P.track (F.TRACK_RGN_COUNT 0) 1).putRec 0 0x11, _, rfl, by decide +kernel, by decide +kernel, by decide +kernel⟩,
   ⟨0, 0, (State.reset.setf P.track (F.TRACK_RGN_COUNT 0) 1).putRec 0 0x21, _, rfl, by decide +kernel, by decide +kernel, by decide +kernel⟩,
   ⟨0, 0, (State.reset.setf P.track (F.TRACK_RGN_COUNT 0) 1).putRec 0 0x28, _, rfl, by decide +kernel, by decide +kernel, by decide +kernel⟩,
   ⟨0, 0, (State.reset.setb (P.rgn 0) F.RGN_CMD_GO true), _, rfl, by decide⟩,
   ⟨0, 0, (State.reset.setb (P.rgn 0) F.RGN_CMD_GO false), _, rfl, by decide, by decide⟩,
   ⟨0, 0, (State.reset.setf P.track (F.TRACK_RGN_COUNT 0) 1).putRec 0 0x23, _, rfl, by decide +kernel, by decide +kernel, by decide +kernel⟩,
   ⟨0, 0, (State.reset.setf P.track (F.TRACK_RGN_COUNT 0) 1).putRec 0 0x22, _, rfl, by decide +kernel, by decide +kernel, by decide +kernel⟩,
   ⟨0, 0, (State.reset.setf P.track (F.TRACK_RGN_COUNT 0) 1).putRec 0 0x11, _, rfl, by decide +kernel, by decide +kernel, by decide +kernel⟩,
   ⟨0, 0, (State.reset.setf P.track (F.TRACK_RGN_COUNT 0) 1).putRec 0 0x12, _, rfl, by decide +kernel, by decide +kernel, by decide +kernel⟩,
   ⟨0, 0, (State.reset.setf P.track (F.TRACK_RGN_COUNT 0) 1).putRec 0 0x14, _, rfl, by decide +kernel, by decide +kernel, by decide +kernel⟩,
   ⟨0, 0, (State.reset.setb (P.rgn 0) F.RGN_CMD_GO true), _, rfl, by decide⟩,
   ⟨0, 0, (State.reset.setb (P.rgn 0) F.RGN_CMD_GO false), _, rfl, by decide, by decide⟩,
   ⟨0, 0, (State.reset.setf P.track (F.TRACK_RGN_COUNT 0) 1).putRec 0 0x21, _, rfl, by decide +kernel, by decide +kernel, by decide +kernel⟩,
   ⟨0, 0, (State.reset.setf P.track (F.TRACK_RGN_COUNT 0) 1).putRec 0 0x12, _, rfl, by decide +kernel, by decide +kernel, by decide +kernel⟩,
   ⟨0, 0, (State.reset.setf P.track (F.TRACK_RGN_COUNT 0) 1).putRec 0 0x11, _, rfl, by decide +kernel, by decide +kernel, by decide +kernel⟩,
   ⟨0, 0, (State.reset.setb (P.rgn 0) F.RGN_CMD_GO true), _, rfl, by decide⟩,
   ⟨0, 0, (State.reset.setb (P.rgn 0) F.RGN_CMD_GO false), _, rfl, by decide, by decide⟩,
   ⟨0, 0, (State.reset.setf P.track (F.TRACK_RGN_COUNT 0) 1).putRec 0 0x11, _, rfl, by decide +kernel, by decide +kernel, trivial⟩⟩

/-- States and operands that meet the hypotheses of `Obligations.Handover`, clause by clause. -/
theorem witness_Handover :
    (∃ (k : Fin 8) (dn : Bool) (m : HoMsg) (s : State), (m.arg % 256 < 2 ∨ 4 < m.arg % 256)) ∧
    (∃ (k : Fin 8) (dn : Bool) (m : HoMsg) (s : State), (2 ≤ m.arg % 256) ∧ (m.arg % 256 ≤ 4) ∧ (dn = true)) ∧
    (∃ (k : Fin 8) (dn : Bool) (m : HoMsg) (s : State), (2 ≤ m.arg % 256) ∧ (m.arg % 256 ≤ 4) ∧ (dn = false)) ∧
    (∃ (k : Fin 8) (s u : State), ∃ t, (u = (s.setTrack fun t => { t with pages := t.pages.set k { t.pages[k] with hello := some s.now } })) ∧ (s.track.pages[k].hello = some t) ∧ (s.now < t + 31250000)) ∧
    (∃ (k : Fin 8) (s u : State), (u = (s.setTrack fun t => { t with pages := t.pages.set k { t.pages[k] with hello := some s.now } })) ∧ (s.track.pages[k].hello = none) ∧ (u.rd64 (P.handover k) R.HO_DN_ADDR_LO % 2 ^ 48 = 0) ∧ (u.rd64 (P.handover k) R.HO_UP_ADDR_LO % 2 ^ 48 = 0)) ∧
    (∃ (k : Fin 8) (s u : State), (u = (s.setTrack fun t => { t with pages := t.pages.set k { t.pages[k] with hello := some s.now } })) ∧ (s.track.pages[k].hello = none) ∧ (u.rd64 (P.handover k) R.HO_DN_ADDR_LO % 2 ^ 48 ≠ 0) ∧ ((u.hoSend k true 8 3 0 0 0 0x203 []).rd64 (P.handover k) R.HO_UP_ADDR_LO % 2 ^ 48 = 0)) ∧
    (∃ (k : Fin 8) (s : State), (s.sessUp k true = false)) ∧
    (∃ (k : Fin 8) (s : State), (s.sessUp k true = true) ∧ ((s.track.pages[k].dn.getD 0) + 109375000 ≤ s.now)) ∧
    (∃ (k : Fin 8) (s : State), (s.sessUp k false = true) ∧ ((s.track.pages[k].up.getD 0) + 109375000 ≤ s.now)) ∧
    (∃ (k : Fin 8) (m : HoMsg) (s u : State), (s.sessUp k false = false ∨ m.ver ≠ s.sessVer k false)) ∧
    (∃ (k : Fin 8) (m : HoMsg) (s u : State), (s.sessUp k false = true) ∧ (m.ver = s.sessVer k false) ∧ ((s.hoHeard k false).hoFirst k 1 m = (false, u))) ∧
    (∃ (k : Fin 8) (m : HoMsg) (s u : State), (s.sessUp k false = true) ∧ (m.ver = s.sessVer k false) ∧ ((s.hoHeard k false).hoFirst k 1 m = (true, u)) ∧ (m.count ≠ 0) ∧ (m.count ≤ 41) ∧ (32 * m.count ≤ m.body.length) ∧ (u.hoFind k true m.xfer ≠ none)) ∧
    (∃ (k : Fin 8) (m : HoMsg) (s u : State), (s.sessUp k false = true) ∧ (m.ver = s.sessVer k false) ∧ ((s.hoHeard k false).hoFirst k 1 m = (true, u)) ∧ (m.count ≠ 0) ∧ (m.count ≤ 41) ∧ (32 * m.count ≤ m.body.length) ∧ (u.hoFind k true m.xfer = none) ∧ (m.line ≠ u.rd (P.handover k + R.HO_LINE_ID) % 2 ^ 16)) ∧
    (∃ (k : Fin 8) (m : HoMsg) (s u : State), (s.sessUp k false = true) ∧ (m.ver = s.sessVer k false) ∧ ((s.hoHeard k false).hoFirst k 1 m = (true, u)) ∧ (m.count ≠ 0) ∧ (m.count ≤ 41) ∧ (32 * m.count ≤ m.body.length) ∧ (u.hoFind k true m.xfer = none) ∧ (m.line = u.rd (P.handover k + R.HO_LINE_ID) % 2 ^ 16) ∧ (u.flag (P.handover k) F.HO_CTRL_IN_EN = false)) ∧
    (∃ (k : Fin 8) (m : HoMsg) (s u : State), (s.sessUp k false = true) ∧ (m.ver = s.sessVer k false) ∧ ((s.hoHeard k false).hoFirst k 1 m = (true, u)) ∧ (m.count ≠ 0) ∧ (m.count ≤ 41) ∧ (32 * m.count ≤ m.body.length) ∧ (u.hoFind k true m.xfer = none) ∧ (m.line = u.rd (P.handover k + R.HO_LINE_ID) % 2 ^ 16) ∧ (u.flag (P.handover k) F.HO_CTRL_IN_EN = true) ∧ ((u.freeRecs (u.hoOwner k)).length < (u.arrivalEvents k m).length + 1)) ∧
    (∃ (k : Fin 8) (m : HoMsg) (s u : State), (s.sessUp k false = true) ∧ (m.ver = s.sessVer k false) ∧ ((s.hoHeard k false).hoFirst k 1 m = (true, u)) ∧ (m.count ≠ 0) ∧ (m.count ≤ 41) ∧ (32 * m.count ≤ m.body.length) ∧ (u.hoFind k true m.xfer = none) ∧ (m.line = u.rd (P.handover k + R.HO_LINE_ID) % 2 ^ 16) ∧ (u.flag (P.handover k) F.HO_CTRL_IN_EN = true) ∧ ((u.arrivalEvents k m).length + 1 ≤ (u.freeRecs (u.hoOwner k)).length) ∧ (u.roomFor (arrivalItem k m :: u.arrivalEvents k m) = true)) ∧
    (∃ (k : Fin 8) (m : HoMsg) (s u : State), (s.sessUp k false = false ∨ m.ver ≠ s.sessVer k false)) ∧
    (∃ (k : Fin 8) (m : HoMsg) (s u : State), (s.sessUp k false = true) ∧ (m.ver = s.sessVer k false) ∧ ((s.hoHeard k false).hoFirst k 4 m = (false, u))) ∧
    (∃ (k : Fin 8) (m : HoMsg) (s u : State), (s.sessUp k false = true) ∧ (m.ver = s.sessVer k false) ∧ ((s.hoHeard k false).hoFirst k 4 m = (true, u)) ∧ (u.hoFind k true m.xfer = none) ∧ (u.track.gone.contains (k.val, m.xfer) = true)) ∧
    (∃ (k : Fin 8) (m : HoMsg) (s u : State), (s.sessUp k false = true) ∧ (m.ver = s.sessVer k false) ∧ ((s.hoHeard k false).hoFirst k 4 m = (true, u)) ∧ (u.hoFind k true m.xfer = none) ∧ (u.track.gone.contains (k.val, m.xfer) = false)) ∧
    (∃ (k : Fin 8) (m : HoMsg) (s u : State), ∃ h, (s.sessUp k false = true) ∧ (m.ver = s.sessVer k false) ∧ ((s.hoHeard k false).hoFirst k 4 m = (true, u)) ∧ (u.hoFind k true m.xfer = some h) ∧ (u.rget h.rec_ Rf.state = 5)) ∧
    (∃ (k : Fin 8) (m : HoMsg) (s u : State), ∃ h, (s.sessUp k false = true) ∧ (m.ver = s.sessVer k false) ∧ ((s.hoHeard k false).hoFirst k 4 m = (true, u)) ∧ (u.hoFind k true m.xfer = some h) ∧ (u.rget h.rec_ Rf.state = 6)) ∧
    (∃ (k : Fin 8) (m : HoMsg) (s u : State), ∃ h, (s.sessUp k false = true) ∧ (m.ver = s.sessVer k false) ∧ ((s.hoHeard k false).hoFirst k 4 m = (true, u)) ∧ (u.hoFind k true m.xfer = some h) ∧ (u.rget h.rec_ Rf.state = 1)) ∧
    (∃ (k : Fin 8) (m : HoMsg) (s u : State), (s.sessUp k false = false ∨ m.ver ≠ s.sessVer k false)) ∧
    (∃ (k : Fin 8) (m : HoMsg) (s u : State), (s.sessUp k false = true) ∧ (m.ver = s.sessVer k false) ∧ ((s.hoHeard k false).hoFirst k 6 m = (false, u))) ∧
    (∃ (k : Fin 8) (m : HoMsg) (s u : State), (s.sessUp k false = true) ∧ (m.ver = s.sessVer k false) ∧ ((s.hoHeard k false).hoFirst k 6 m = (true, u)) ∧ (u.hoFind k true m.xfer = none)) ∧
    (∃ (k : Fin 8) (m : HoMsg) (s u : State), ∃ h, (s.sessUp k false = true) ∧ (m.ver = s.sessVer k false) ∧ ((s.hoHeard k false).hoFirst k 6 m = (true, u)) ∧ (u.hoFind k true m.xfer = some h) ∧ (u.rget h.rec_ Rf.state = 5)) ∧
    (∃ (k : Fin 8) (m : HoMsg) (s u : State), ∃ h, (s.sessUp k false = true) ∧ (m.ver = s.sessVer k false) ∧ ((s.hoHeard k false).hoFirst k 6 m = (true, u)) ∧ (u.hoFind k true m.xfer = some h) ∧ (u.rget h.rec_ Rf.state = 6)) ∧
    (∃ (k : Fin 8) (m : HoMsg) (s u : State), ∃ h, (s.sessUp k false = true) ∧ (m.ver = s.sessVer k false) ∧ ((s.hoHeard k false).hoFirst k 6 m = (true, u)) ∧ (u.hoFind k true m.xfer = some h) ∧ (u.rget h.rec_ Rf.state = 1)) ∧
    (∃ (k : Fin 8) (m : HoMsg) (s u : State), (s.sessUp k true = false ∨ m.ver ≠ s.sessVer k true)) ∧
    (∃ (k : Fin 8) (m : HoMsg) (s u : State), (s.sessUp k true = true) ∧ (m.ver = s.sessVer k true) ∧ ((s.hoHeard k true).hoFirst k 2 m = (false, u))) ∧
    (∃ (k : Fin 8) (m : HoMsg) (s u : State), (s.sessUp k true = true) ∧ (m.ver = s.sessVer k true) ∧ ((s.hoHeard k true).hoFirst k 2 m = (true, u)) ∧ (u.hoFind k false m.xfer = none)) ∧
    (∃ (k : Fin 8) (m : HoMsg) (s u : State), ∃ h, (s.sessUp k true = true) ∧ (m.ver = s.sessVer k true) ∧ ((s.hoHeard k true).hoFirst k 2 m = (true, u)) ∧ (u.hoFind k false m.xfer = some h) ∧ (u.rget h.rec_ Rf.state = 2)) ∧
    (∃ (k : Fin 8) (m : HoMsg) (s u : State), ∃ h, (s.sessUp k true = true) ∧ (m.ver = s.sessVer k true) ∧ ((s.hoHeard k true).hoFirst k 2 m = (true, u)) ∧ (u.hoFind k false m.xfer = some h) ∧ (u.rget h.rec_ Rf.state = 6)) ∧
    (∃ (k : Fin 8) (m : HoMsg) (s u : State), ∃ h, (s.sessUp k true = true) ∧ (m.ver = s.sessVer k true) ∧ ((s.hoHeard k true).hoFirst k 2 m = (true, u)) ∧ (u.hoFind k false m.xfer = some h) ∧ (u.rget h.rec_ Rf.state = 3)) ∧
    (∃ (k : Fin 8) (m : HoMsg) (s u : State), (s.sessUp k true = false ∨ m.ver ≠ s.sessVer k true)) ∧
    (∃ (k : Fin 8) (m : HoMsg) (s u : State), (s.sessUp k true = true) ∧ (m.ver = s.sessVer k true) ∧ ((s.hoHeard k true).hoFirst k 3 m = (false, u))) ∧
    (∃ (k : Fin 8) (m : HoMsg) (s u : State), (s.sessUp k true = true) ∧ (m.ver = s.sessVer k true) ∧ ((s.hoHeard k true).hoFirst k 3 m = (true, u)) ∧ (u.hoFind k false m.xfer = none)) ∧
    (∃ (k : Fin 8) (m : HoMsg) (s u : State), ∃ h, (s.sessUp k true = true) ∧ (m.ver = s.sessVer k true) ∧ ((s.hoHeard k true).hoFirst k 3 m = (true, u)) ∧ (u.hoFind k false m.xfer = some h) ∧ (u.rget h.rec_ Rf.state = 2)) ∧
    (∃ (k : Fin 8) (m : HoMsg) (s u : State), ∃ h, (s.sessUp k true = true) ∧ (m.ver = s.sessVer k true) ∧ ((s.hoHeard k true).hoFirst k 3 m = (true, u)) ∧ (u.hoFind k false m.xfer = some h) ∧ (u.rget h.rec_ Rf.state = 6) ∧ (m.arg = 4)) ∧
    (∃ (k : Fin 8) (m : HoMsg) (s u : State), (s.sessUp k true = false ∨ m.ver ≠ s.sessVer k true)) ∧
    (∃ (k : Fin 8) (m : HoMsg) (s u : State), (s.sessUp k true = true) ∧ (m.ver = s.sessVer k true) ∧ ((s.hoHeard k true).hoFirst k 5 m = (false, u))) ∧
    (∃ (k : Fin 8) (m : HoMsg) (s u : State), (s.sessUp k true = true) ∧ (m.ver = s.sessVer k true) ∧ ((s.hoHeard k true).hoFirst k 5 m = (true, u)) ∧ (u.hoFind k false m.xfer = none)) ∧
    (∃ (k : Fin 8) (m : HoMsg) (s u : State), ∃ h, (s.sessUp k true = true) ∧ (m.ver = s.sessVer k true) ∧ ((s.hoHeard k true).hoFirst k 5 m = (true, u)) ∧ (u.hoFind k false m.xfer = some h) ∧ (h.del = true)) ∧
    (∃ (k : Fin 8) (m : HoMsg) (s u : State), ∃ h, (s.sessUp k true = true) ∧ (m.ver = s.sessVer k true) ∧ ((s.hoHeard k true).hoFirst k 5 m = (true, u)) ∧ (u.hoFind k false m.xfer = some h) ∧ (h.del = false) ∧ (u.rget h.rec_ Rf.state = 4 ∨ u.rget h.rec_ Rf.state = 6)) ∧
    (∃ (k : Fin 8) (m : HoMsg) (s u : State), (s.sessUp k true = false ∨ m.ver ≠ s.sessVer k true)) ∧
    (∃ (k : Fin 8) (m : HoMsg) (s u : State), (s.sessUp k true = true) ∧ (m.ver = s.sessVer k true) ∧ (m.ver ≠ 2) ∧ ((s.hoHeard k true).hoFirst k 7 m = (false, u))) ∧
    (∃ (k : Fin 8) (m : HoMsg) (s u : State), (s.sessUp k true = true) ∧ (m.ver = s.sessVer k true) ∧ (m.ver ≠ 2) ∧ ((s.hoHeard k true).hoFirst k 7 m = (true, u)) ∧ (u.hoFind k false m.xfer = none)) ∧
    (∃ (k : Fin 8) (m : HoMsg) (s u : State), ∃ h, (s.sessUp k true = true) ∧ (m.ver = s.sessVer k true) ∧ (m.ver ≠ 2) ∧ ((s.hoHeard k true).hoFirst k 7 m = (true, u)) ∧ (u.hoFind k false m.xfer = some h) ∧ (u.rget h.rec_ Rf.state = 6) ∧ (m.arg = 1)) ∧
    (∃ (k : Fin 8) (m : HoMsg) (s u : State), ∃ h, (s.sessUp k true = true) ∧ (m.ver = s.sessVer k true) ∧ (m.ver ≠ 2) ∧ ((s.hoHeard k true).hoFirst k 7 m = (true, u)) ∧ (u.hoFind k false m.xfer = some h) ∧ (u.rget h.rec_ Rf.state = 6) ∧ (m.arg ≠ 1)) ∧
    (∃ (i : Fin 262144) (t : Nat) (s : State), (s.isItem i = true) ∧ ((s.hoGet i).down = true) ∧ (s.rget i Rf.state = 5) ∧ (s.tBin (s.hoGet i) = some t) ∧ (t + s.commitTmo (s.hoGet i).page ≤ s.now)) ∧
    (∃ (i : Fin 262144) (t : Nat) (s : State), (s.isItem i = true) ∧ ((s.hoGet i).down = true) ∧ (s.rget i Rf.state = 5) ∧ (s.tBin (s.hoGet i) = some t) ∧ (s.now < t + s.commitTmo (s.hoGet i).page)) ∧
    (∃ (i : Fin 262144) (s : State), (s.isItem i = true) ∧ (s.rget i Rf.state = 6) ∧ ((s.hoGet i).tB.getD 0 + s.doubtTmo (s.hoGet i).page ≤ s.now) ∧ ((s.hoGet i).down = true)) ∧
    (∃ (i : Fin 262144) (s : State), (s.isItem i = true) ∧ (s.rget i Rf.state = 6) ∧ ((s.hoGet i).tB.getD 0 + s.doubtTmo (s.hoGet i).page ≤ s.now) ∧ ((s.hoGet i).down = false)) ∧
    (∃ (i : Fin 262144) (s : State), (s.isItem i = true) ∧ (s.rget i Rf.state = 6) ∧ (s.now < (s.hoGet i).tB.getD 0 + s.doubtTmo (s.hoGet i).page)) ∧
    (∃ (i : Fin 262144) (s : State), (s.isItem i = true) ∧ ((s.hoGet i).down = false) ∧ (s.rget i Rf.state = 4) ∧ ((s.hoGet i).tB.getD 0 + s.commitTmo (s.hoGet i).page ≤ s.now)) ∧
    (∃ (i : Fin 262144) (s : State), (s.isItem i = true) ∧ ((s.hoGet i).down = false) ∧ (s.rget i Rf.state = 4) ∧ (s.now < (s.hoGet i).tB.getD 0 + s.commitTmo (s.hoGet i).page)) ∧
    (∃ (i : Fin 262144) (s : State), (s.isItem i = true) ∧ ((s.hoGet i).down = false) ∧ (s.now < (s.hoGet i).sent + s.hoRetry (s.hoGet i).page)) ∧
    (∃ (i : Fin 262144) (s : State), (s.isItem i = true) ∧ ((s.hoGet i).down = false) ∧ ((s.hoGet i).sent + s.hoRetry (s.hoGet i).page ≤ s.now) ∧ ((s.hoGet i).del = true)) ∧
    (∃ (i : Fin 262144) (s : State), (s.isItem i = true) ∧ ((s.hoGet i).down = false) ∧ ((s.hoGet i).sent + s.hoRetry (s.hoGet i).page ≤ s.now) ∧ ((s.hoGet i).del = false) ∧ (s.rget i Rf.state = 2) ∧ ((s.hoGet i).refused = none)) ∧
    (∃ (i : Fin 262144) (s : State), (s.isItem i = true) ∧ ((s.hoGet i).down = false) ∧ ((s.hoGet i).sent + s.hoRetry (s.hoGet i).page ≤ s.now) ∧ ((s.hoGet i).del = false) ∧ (s.rget i Rf.state = 4 ∨ s.rget i Rf.state = 6) ∧ ((s.hoGet i).committed = true)) :=
  ⟨⟨0, false, ⟨4, false, 0, 0, 0, 0, 1, []⟩, State.reset, by decide +kernel⟩,
   ⟨0, true, ⟨4, false, 0, 0, 0, 0, 4, []⟩, State.reset, by decide +kernel, by decide +kernel, rfl⟩,
   ⟨0, false, ⟨4, false, 0, 0, 0, 0, 2, []⟩, State.reset, by decide +kernel, by decide +kernel, rfl⟩,
   ⟨0, late.setTrack fun y => { y with pages := y.pages.set 0 { hello := some 1000000000 } }, _, 1000000000, rfl, by decide +kernel, by decide +kernel⟩,
   ⟨0, State.reset, _, rfl, by decide, by decide, by decide⟩,
   ⟨0, State.reset.wr (P.handover 0 + R.HO_DN_ADDR_LO) 1, _, rfl, by decide +kernel, by decide +kernel, by decide +kernel⟩,
   ⟨0, State.reset, by decide⟩,
   ⟨0, late.setb (P.handover 0) F.HO_STATUS_DN_UP true, by decide +kernel, by decide +kernel⟩,
   ⟨0, late.setb (P.handover 0) F.HO_STATUS_UP_UP true, by decide +kernel, by decide +kernel⟩,
   ⟨0, ⟨4, false, 0, 0, 0, 0, 0, []⟩, State.reset, State.reset, by decide +kernel⟩,
   ⟨0, ⟨4, false, 0, 0, 0, 0, 0, []⟩, (hoOff.setTrack fun y => { y with seen := [⟨0, 1, 0, true, false⟩] }), (((hoOff.setTrack fun y => { y with seen := [⟨0, 1, 0, true, false⟩] }).hoHeard 0 false).hoFirst 0 1 ⟨4, false, 0, 0, 0, 0, 0, []⟩).2, by decide +kernel, by decide +kernel, Prod.ext (by decide +kernel) rfl⟩,
   ⟨0, ⟨4, false, 0, 0, 0, 1, 0, List.replicate 32 0⟩, (hoOn true 5), ((((hoOn true 5)).hoHeard 0 false).hoFirst 0 1 ⟨4, false, 0, 0, 0, 1, 0, List.replicate 32 0⟩).2, by decide +kernel, by decide +kernel, Prod.ext (by decide +kernel) rfl, by decide +kernel, by decide +kernel, by decide +kernel, by decide +kernel⟩,
   ⟨0, ⟨4, false, 7, 0, 0, 1, 0, List.replicate 32 0⟩, (hoOff), ((((hoOff)).hoHeard 0 false).hoFirst 0 1 ⟨4, false, 7, 0, 0, 1, 0, List.replicate 32 0⟩).2, by decide +kernel, by decide +kernel, Prod.ext (by decide +kernel) rfl, by decide +kernel, by decide +kernel, by decide +kernel, by decide +kernel, by decide +kernel⟩,
   ⟨0, ⟨4, false, 0, 0, 0, 1, 0, List.replicate 32 0⟩, (hoOff), ((((hoOff)).hoHeard 0 false).hoFirst 0 1 ⟨4, false, 0, 0, 0, 1, 0, List.replicate 32 0⟩).2, by decide +kernel, by decide +kernel, Prod.ext (by decide +kernel) rfl, by decide +kernel, by decide +kernel, by decide +kernel, by decide +kernel, by decide +kernel, by decide +kernel⟩,
   ⟨0, ⟨4, false, 0, 0, 0, 1, 0, List.replicate 32 0⟩, (hoOff.setb (P.handover 0) F.HO_CTRL_IN_EN true), ((((hoOff.setb (P.handover 0) F.HO_CTRL_IN_EN true)).hoHeard 0 false).hoFirst 0 1 ⟨4, false, 0, 0, 0, 1, 0, List.replicate 32 0⟩).2, by decide +kernel, by decide +kernel, Prod.ext (by decide +kernel) rfl, by decide +kernel, by decide +kernel, by decide +kernel, by decide +kernel, by decide +kernel, by decide +kernel, by decide +kernel⟩,
   ⟨0, ⟨4, false, 0, 0, 0, 1, 0, List.replicate 32 0⟩, (hoOff |>.setb (P.handover 0) F.HO_CTRL_IN_EN true |>.setf P.track (F.TRACK_RGN_COUNT 0) 1), ((((hoOff |>.setb (P.handover 0) F.HO_CTRL_IN_EN true |>.setf P.track (F.TRACK_RGN_COUNT 0) 1)).hoHeard 0 false).hoFirst 0 1 ⟨4, false, 0, 0, 0, 1, 0, List.replicate 32 0⟩).2, by decide +kernel, by decide +kernel, Prod.ext (by decide +kernel) rfl, by decide +kernel, by decide +kernel, by decide +kernel, by decide +kernel, by decide +kernel, by decide +kernel, by decide +kernel, by decide +kernel⟩,
   ⟨0, ⟨4, false, 0, 0, 0, 0, 0, []⟩, State.reset, State.reset, by decide +kernel⟩,
   ⟨0, ⟨4, false, 0, 0, 0, 0, 0, []⟩, (hoOff.setTrack fun y => { y with seen := [⟨0, 4, 0, true, false⟩] }), (((hoOff.setTrack fun y => { y with seen := [⟨0, 4, 0, true, false⟩] }).hoHeard 0 false).hoFirst 0 4 ⟨4, false, 0, 0, 0, 0, 0, []⟩).2, by decide +kernel, by decide +kernel, Prod.ext (by decide +kernel) rfl⟩,
   ⟨0, ⟨4, false, 0, 0, 0, 0, 0, []⟩, (hoOff.setTrack fun y => { y with gone := [(0, 0)] }), ((((hoOff.setTrack fun y => { y with gone := [(0, 0)] })).hoHeard 0 false).hoFirst 0 4 ⟨4, false, 0, 0, 0, 0, 0, []⟩).2, by decide +kernel, by decide +kernel, Prod.ext (by decide +kernel) rfl, by decide +kernel, by decide +kernel⟩,
   ⟨0, ⟨4, false, 0, 0, 0, 0, 0, []⟩, (hoOff), ((((hoOff)).hoHeard 0 false).hoFirst 0 4 ⟨4, false, 0, 0, 0, 0, 0, []⟩).2, by decide +kernel, by decide +kernel, Prod.ext (by decide +kernel) rfl, by decide +kernel, by decide +kernel⟩,
   ⟨0, ⟨4, false, 0, 0, 0, 0, 0, []⟩, (hoOn true 5), ((((hoOn true 5)).hoHeard 0 false).hoFirst 0 4 ⟨4, false, 0, 0, 0, 0, 0, []⟩).2, { rec_ := 0, page := 0, down := true }, by decide +kernel, by decide +kernel, Prod.ext (by decide +kernel) rfl, by decide +kernel, by decide +kernel⟩,
   ⟨0, ⟨4, false, 0, 0, 0, 0, 0, []⟩, (hoOn true 6), ((((hoOn true 6)).hoHeard 0 false).hoFirst 0 4 ⟨4, false, 0, 0, 0, 0, 0, []⟩).2, { rec_ := 0, page := 0, down := true }, by decide +kernel, by decide +kernel, Prod.ext (by decide +kernel) rfl, by decide +kernel, by decide +kernel⟩,
   ⟨0, ⟨4, false, 0, 0, 0, 0, 0, []⟩, (hoOn true 1), ((((hoOn true 1)).hoHeard 0 false).hoFirst 0 4 ⟨4, false, 0, 0, 0, 0, 0, []⟩).2, { rec_ := 0, page := 0, down := true }, by decide +kernel, by decide +kernel, Prod.ext (by decide +kernel) rfl, by decide +kernel, by decide +kernel⟩,
   ⟨0, ⟨4, false, 0, 0, 0, 0, 0, []⟩, State.reset, State.reset, by decide +kernel⟩,
   ⟨0, ⟨4, false, 0, 0, 0, 0, 0, []⟩, (hoOff.setTrack fun y => { y with seen := [⟨0, 6, 0, true, false⟩] }), (((hoOff.setTrack fun y => { y with seen := [⟨0, 6, 0, true, false⟩] }).hoHeard 0 false).hoFirst 0 6 ⟨4, false, 0, 0, 0, 0, 0, []⟩).2, by decide +kernel, by decide +kernel, Prod.ext (by decide +kernel) rfl⟩,
   ⟨0, ⟨4, false, 0, 0, 0, 0, 0, []⟩, (hoOff), ((((hoOff)).hoHeard 0 false).hoFirst 0 6 ⟨4, false, 0, 0, 0, 0, 0, []⟩).2, by decide +kernel, by decide +kernel, Prod.ext (by decide +kernel) rfl, by decide +kernel⟩,
   ⟨0, ⟨4, false, 0, 0, 0, 0, 0, []⟩, (hoOn true 5), ((((hoOn true 5)).hoHeard 0 false).hoFirst 0 6 ⟨4, false, 0, 0, 0, 0, 0, []⟩).2, { rec_ := 0, page := 0, down := true }, by decide +kernel, by decide +kernel, Prod.ext (by decide +kernel) rfl, by decide +kernel, by decide +kernel⟩,
   ⟨0, ⟨4, false, 0, 0, 0, 0, 0, []⟩, (hoOn true 6), ((((hoOn true 6)).hoHeard 0 false).hoFirst 0 6 ⟨4, false, 0, 0, 0, 0, 0, []⟩).2, { rec_ := 0, page := 0, down := true }, by decide +kernel, by decide +kernel, Prod.ext (by decide +kernel) rfl, by decide +kernel, by decide +kernel⟩,
   ⟨0, ⟨4, false, 0, 0, 0, 0, 0, []⟩, (hoOn true 1), ((((hoOn true 1)).hoHeard 0 false).hoFirst 0 6 ⟨4, false, 0, 0, 0, 0, 0, []⟩).2, { rec_ := 0, page := 0, down := true }, by decide +kernel, by decide +kernel, Prod.ext (by decide +kernel) rfl, by decide +kernel, by decide +kernel⟩,
   ⟨0, ⟨4, false, 0, 0, 0, 0, 0, []⟩, State.reset, State.reset, by decide +kernel⟩,
   ⟨0, ⟨4, false, 0, 0, 0, 0, 0, []⟩, (hoOff.setTrack fun y => { y with seen := [⟨0, 2, 0, true, false⟩] }), (((hoOff.setTrack fun y => { y with seen := [⟨0, 2, 0, true, false⟩] }).hoHeard 0 true).hoFirst 0 2 ⟨4, false, 0, 0, 0, 0, 0, []⟩).2, by decide +kernel, by decide +kernel, Prod.ext (by decide +kernel) rfl⟩,
   ⟨0, ⟨4, false, 0, 0, 0, 0, 0, []⟩, (hoOff), ((((hoOff)).hoHeard 0 true).hoFirst 0 2 ⟨4, false, 0, 0, 0, 0, 0, []⟩).2, by decide +kernel, by decide +kernel, Prod.ext (by decide +kernel) rfl, by decide +kernel⟩,
   ⟨0, ⟨4, false, 0, 0, 0, 0, 0, []⟩, (hoOn false 2), ((((hoOn false 2)).hoHeard 0 true).hoFirst 0 2 ⟨4, false, 0, 0, 0, 0, 0, []⟩).2, { rec_ := 0, page := 0, down := false }, by decide +kernel, by decide +kernel, Prod.ext (by decide +kernel) rfl, by decide +kernel, by decide +kernel⟩,
   ⟨0, ⟨4, false, 0, 0, 0, 0, 0, []⟩, (hoOn false 6), ((((hoOn false 6)).hoHeard 0 true).hoFirst 0 2 ⟨4, false, 0, 0, 0, 0, 0, []⟩).2, { rec_ := 0, page := 0, down := false }, by decide +kernel, by decide +kernel, Prod.ext (by decide +kernel) rfl, by decide +kernel, by decide +kernel⟩,
   ⟨0, ⟨4, false, 0, 0, 0, 0, 0, []⟩, (hoOn false 3), ((((hoOn false 3)).hoHeard 0 true).hoFirst 0 2 ⟨4, false, 0, 0, 0, 0, 0, []⟩).2, { rec_ := 0, page := 0, down := false }, by decide +kernel, by decide +kernel, Prod.ext (by decide +kernel) rfl, by decide +kernel, by decide +kernel⟩,
   ⟨0, ⟨4, false, 0, 0, 0, 0, 0, []⟩, State.reset, State.reset, by decide +kernel⟩,
   ⟨0, ⟨4, false, 0, 0, 0, 0, 0, []⟩, (hoOff.setTrack fun y => { y with seen := [⟨0, 3, 0, true, false⟩] }), (((hoOff.setTrack fun y => { y with seen := [⟨0, 3, 0, true, false⟩] }).hoHeard 0 true).hoFirst 0 3 ⟨4, false, 0, 0, 0, 0, 0, []⟩).2, by decide +kernel, by decide +kernel, Prod.ext (by decide +kernel) rfl⟩,
   ⟨0, ⟨4, false, 0, 0, 0, 0, 0, []⟩, (hoOff), ((((hoOff)).hoHeard 0 true).hoFirst 0 3 ⟨4, false, 0, 0, 0, 0, 0, []⟩).2, by decide +kernel, by decide +kernel, Prod.ext (by decide +kernel) rfl, by decide +kernel⟩,
   ⟨0, ⟨4, false, 0, 0, 0, 0, 0, []⟩, (hoOn false 2), ((((hoOn false 2)).hoHeard 0 true).hoFirst 0 3 ⟨4, false, 0, 0, 0, 0, 0, []⟩).2, { rec_ := 0, page := 0, down := false }, by decide +kernel, by decide +kernel, Prod.ext (by decide +kernel) rfl, by decide +kernel, by decide +kernel⟩,
   ⟨0, ⟨4, false, 0, 0, 0, 0, 4, []⟩, (hoOn false 6), ((((hoOn false 6)).hoHeard 0 true).hoFirst 0 3 ⟨4, false, 0, 0, 0, 0, 4, []⟩).2, { rec_ := 0, page := 0, down := false }, by decide +kernel, by decide +kernel, Prod.ext (by decide +kernel) rfl, by decide +kernel, by decide +kernel, by decide +kernel⟩,
   ⟨0, ⟨4, false, 0, 0, 0, 0, 0, []⟩, State.reset, State.reset, by decide +kernel⟩,
   ⟨0, ⟨4, false, 0, 0, 0, 0, 0, []⟩, (hoOff.setTrack fun y => { y with seen := [⟨0, 5, 0, true, false⟩] }), (((hoOff.setTrack fun y => { y with seen := [⟨0, 5, 0, true, false⟩] }).hoHeard 0 true).hoFirst 0 5 ⟨4, false, 0, 0, 0, 0, 0, []⟩).2, by decide +kernel, by decide +kernel, Prod.ext (by decide +kernel) rfl⟩,
   ⟨0, ⟨4, false, 0, 0, 0, 0, 0, []⟩, (hoOff), ((((hoOff)).hoHeard 0 true).hoFirst 0 5 ⟨4, false, 0, 0, 0, 0, 0, []⟩).2, by decide +kernel, by decide +kernel, Prod.ext (by decide +kernel) rfl, by decide +kernel⟩,
   ⟨0, ⟨4, false, 0, 0, 0, 0, 0, []⟩, (hoOn false 4).setTrack fun y => { y with ho := [{ rec_ := 0, page := 0, down := false, del := true }] }, ((((hoOn false 4).setTrack fun y => { y with ho := [{ rec_ := 0, page := 0, down := false, del := true }] }).hoHeard 0 true).hoFirst 0 5 ⟨4, false, 0, 0, 0, 0, 0, []⟩).2, { rec_ := 0, page := 0, down := false, del := true }, by decide +kernel, by decide +kernel, Prod.ext (by decide +kernel) rfl, by decide +kernel, by decide +kernel⟩,
   ⟨0, ⟨4, false, 0, 0, 0, 0, 0, []⟩, (hoOn false 4), ((((hoOn false 4)).hoHeard 0 true).hoFirst 0 5 ⟨4, false, 0, 0, 0, 0, 0, []⟩).2, { rec_ := 0, page := 0, down := false }, by decide +kernel, by decide +kernel, Prod.ext (by decide +kernel) rfl, by decide +kernel, by decide +kernel, by decide +kernel⟩,
   ⟨0, ⟨4, false, 0, 0, 0, 0, 0, []⟩, State.reset, State.reset, by decide +kernel⟩,
   ⟨0, ⟨4, false, 0, 0, 0, 0, 0, []⟩, (hoOff.setTrack fun y => { y with seen := [⟨0, 7, 0, true, false⟩] }), (((hoOff.setTrack fun y => { y with seen := [⟨0, 7, 0, true, false⟩] }).hoHeard 0 true).hoFirst 0 7 ⟨4, false, 0, 0, 0, 0, 0, []⟩).2, by decide +kernel, by decide +kernel, by decide +kernel, Prod.ext (by decide +kernel) rfl⟩,
   ⟨0, ⟨4, false, 0, 0, 0, 0, 0, []⟩, (hoOff), ((((hoOff)).hoHeard 0 true).hoFirst 0 7 ⟨4, false, 0, 0, 0, 0, 0, []⟩).2, by decide +kernel, by decide +kernel, by decide +kernel, Prod.ext (by decide +kernel) rfl, by decide +kernel⟩,
   ⟨0, ⟨4, false, 0, 0, 0, 0, 1, []⟩, (hoOn false 6), ((((hoOn false 6)).hoHeard 0 true).hoFirst 0 7 ⟨4, false, 0, 0, 0, 0, 1, []⟩).2, { rec_ := 0, page := 0, down := false }, by decide +kernel, by decide +kernel, by decide +kernel, Prod.ext (by decide +kernel) rfl, by decide +kernel, by decide +kernel, by decide +kernel⟩,
   ⟨0, ⟨4, false, 0, 0, 0, 0, 0, []⟩, (hoOn false 6), ((((hoOn false 6)).hoHeard 0 true).hoFirst 0 7 ⟨4, false, 0, 0, 0, 0, 0, []⟩).2, { rec_ := 0, page := 0, down := false }, by decide +kernel, by decide +kernel, by decide +kernel, Prod.ext (by decide +kernel) rfl, by decide +kernel, by decide +kernel, by decide +kernel⟩,
   ⟨0, 0, (hoOn true 5).setTrack fun y => { y with ho := [{ rec_ := 0, page := 0, down := true, tB := some 0 }] }, by decide +kernel, by decide +kernel, by decide +kernel, by decide +kernel, by decide +kernel⟩,
   ⟨0, 1000000000, (hoOn true 5).setTrack fun y => { y with ho := [{ rec_ := 0, page := 0, down := true, tB := some 1000000000, sent := 1000000000 }] }, by decide +kernel, by decide +kernel, by decide +kernel, by decide +kernel, by decide +kernel⟩,
   ⟨0, (hoOn true 6).setTrack fun y => { y with ho := [{ rec_ := 0, page := 0, down := true, tB := some 0 }] }, by decide +kernel, by decide +kernel, by decide +kernel, by decide +kernel⟩,
   ⟨0, (hoOn true 6).setTrack fun y => { y with ho := [{ rec_ := 0, page := 0, down := false, tB := some 0 }] }, by decide +kernel, by decide +kernel, by decide +kernel, by decide +kernel⟩,
   ⟨0, (hoOn true 6).setTrack fun y => { y with ho := [{ rec_ := 0, page := 0, down := true, tB := some 1000000000, sent := 1000000000 }] }, by decide +kernel, by decide +kernel, by decide +kernel⟩,
   ⟨0, (hoOn true 4).setTrack fun y => { y with ho := [{ rec_ := 0, page := 0, down := false, tB := some 0 }] }, by decide +kernel, by decide +kernel, by decide +kernel, by decide +kernel⟩,
   ⟨0, (hoOn true 4).setTrack fun y => { y with ho := [{ rec_ := 0, page := 0, down := false, tB := some 1000000000, sent := 1000000000 }] }, by decide +kernel, by decide +kernel, by decide +kernel, by decide +kernel⟩,
   ⟨0, (hoOn true 4).setTrack fun y => { y with ho := [{ rec_ := 0, page := 0, down := false, tB := some 1000000000, sent := 1000000000 }] }, by decide +kernel, by decide +kernel, by decide +kernel⟩,
   ⟨0, (hoOn true 2).setTrack fun y => { y with ho := [{ rec_ := 0, page := 0, down := false, tB := some 0, del := true }] }, by decide +kernel, by decide +kernel, by decide +kernel, by decide +kernel⟩,
   ⟨0, (hoOn true 2).setTrack fun y => { y with ho := [{ rec_ := 0, page := 0, down := false, tB := some 0 }] }, by decide +kernel, by decide +kernel, by decide +kernel, by decide +kernel, by decide +kernel, by decide +kernel⟩,
   ⟨0, (hoOn true 4).setTrack fun y => { y with ho := [{ rec_ := 0, page := 0, down := false, tB := some 0, committed := true }] }, by decide +kernel, by decide +kernel, by decide +kernel, by decide +kernel, by decide +kernel, by decide +kernel⟩⟩

/-- States and operands that meet the hypotheses of `Obligations.CompareAndFire`, clause by clause. -/
theorem witness_CompareAndFire :
    (∃ (a : Fin 64) (s v w : State), ∃ i, (v = ((s.setLane a fun l => { l with ck := some (s.instants a).1 }).setb (P.lane a) F.LANE_STATUS_AXIS_TIMED (s.instants a).2.2)) ∧ (w = (if (v.track.rb.map (·.built)).getD true then v.swapLane a else v)) ∧ (w.badRecs = [i])) ∧
    (∃ (a : Fin 64) (s v w : State), (v = ((s.setLane a fun l => { l with ck := some (s.instants a).1 }).setb (P.lane a) F.LANE_STATUS_AXIS_TIMED (s.instants a).2.2)) ∧ (w = (if (v.track.rb.map (·.built)).getD true then v.swapLane a else v)) ∧ (w.badRecs = [])) ∧
    (∃ (a : Fin 64) (s v w : State), (v = ((s.setLane a fun l => { l with ck := some (s.instants a).1 }).setb (P.lane a) F.LANE_STATUS_AXIS_TIMED (s.instants a).2.2)) ∧ (w = (if (v.track.rb.map (·.built)).getD true then v.swapLane a else v)) ∧ (s.laneOn a = false ∨ (∃ c, (s.lane a).ck = some c ∧ (s.instants a).1 ≤ c))) ∧
    (∃ (a : Fin 64) (s v w : State), (v = ((s.setLane a fun l => { l with ck := some (s.instants a).1 }).setb (P.lane a) F.LANE_STATUS_AXIS_TIMED (s.instants a).2.2)) ∧ (w = (if (v.track.rb.map (·.built)).getD true then v.swapLane a else v)) ∧ (s.laneOn a = true) ∧ (∀ c, (s.lane a).ck = some c → c < (s.instants a).1) ∧ (w.flag P.track F.TRACK_CTRL_EN = false ∨ w.stage ≠ 3)) ∧
    (∃ (a : Fin 64) (s v w : State), (v = ((s.setLane a fun l => { l with ck := some (s.instants a).1 }).setb (P.lane a) F.LANE_STATUS_AXIS_TIMED (s.instants a).2.2)) ∧ (w = (if (v.track.rb.map (·.built)).getD true then v.swapLane a else v)) ∧ (s.laneOn a = true) ∧ (∀ c, (s.lane a).ck = some c → c < (s.instants a).1) ∧ (w.flag P.track F.TRACK_CTRL_EN = true) ∧ (w.stage = 3)) ∧
    (∃ (i : Fin 262144) (s v : State), (v = s.setTrack (fun k => { k with com := k.com.filter (·.1 ≠ i.val) })) ∧ (s.isEvent i = false ∨ (s.now : Int) < s.evTick i)) ∧
    (∃ (i : Fin 262144) (s v : State), (v = s.setTrack (fun k => { k with com := k.com.filter (·.1 ≠ i.val) })) ∧ (s.isEvent i = true) ∧ (s.evTick i ≤ s.now) ∧ (s.rget i Rf.state = 3) ∧ ((s.track.com.any fun c => c.1 == i.val && c.2.2) = true)) ∧
    (∃ (i : Fin 262144) (s v : State), (v = s.setTrack (fun k => { k with com := k.com.filter (·.1 ≠ i.val) })) ∧ (s.isEvent i = true) ∧ (s.evTick i ≤ s.now) ∧ (s.rget i Rf.state = 3) ∧ ((s.track.com.any fun c => c.1 == i.val && c.2.2) = false) ∧ (s.flag P.time (F.TIME_ALIGN_ALIGNED (slateOf (s.evLane i))) = false)) ∧
    (∃ (i : Fin 262144) (s v : State), (v = s.setTrack (fun k => { k with com := k.com.filter (·.1 ≠ i.val) })) ∧ (s.isEvent i = true) ∧ (s.evTick i ≤ s.now) ∧ (s.rget i Rf.state = 3) ∧ ((s.track.com.any fun c => c.1 == i.val && c.2.2) = false) ∧ (s.flag P.time (F.TIME_ALIGN_ALIGNED (slateOf (s.evLane i))) = true)) ∧
    (∃ (i : Fin 262144) (s v : State), (v = s.setTrack (fun k => { k with com := k.com.filter (·.1 ≠ i.val) })) ∧ (s.isEvent i = true) ∧ (s.evTick i ≤ s.now) ∧ (s.rget i Rf.state = 2) ∧ (s.track.inh.contains i.val = true)) ∧
    (∃ (i : Fin 262144) (s v : State), (v = s.setTrack (fun k => { k with com := k.com.filter (·.1 ≠ i.val) })) ∧ (s.isEvent i = true) ∧ (s.evTick i ≤ s.now) ∧ (s.rget i Rf.state = 2) ∧ (s.track.inh.contains i.val = false) ∧ (s.runOf i = .skip)) ∧
    (∃ (i : Fin 262144) (s : State), (s.isEvent i = true) ∧ (s.isWindow i = true) ∧ (s.rget i Rf.state = 2) ∧ ((s.track.wins.any fun x => x.1 == i.val) = true) ∧ (s.evTick i ≤ s.now)) ∧
    (∃ (i : Fin 262144) (s : State), (s.isEvent i = false ∨ s.isWindow i = false ∨ s.rget i Rf.state ≠ 2 ∨ (s.now : Int) < s.evTick i)) ∧
    (∃ (i : Fin 262144) (w : Nat × Nat) (s : State), ((s.track.wins.find? fun w => w.1 == i.val) = some w) ∧ (s.isEvent i = false ∨ s.final i = true ∨ s.runOf i ≠ .go ∨ s.now < w.2 + 625)) ∧
    (∃ (i : Fin 262144) (w : Nat × Nat) (s : State), ((s.track.wins.find? fun w => w.1 == i.val) = some w) ∧ (s.isEvent i = true) ∧ (s.final i = false) ∧ (s.runOf i = .go) ∧ (w.2 + 625 ≤ s.now)) ∧
    (∃ (s : State), (s.corrections = [])) ∧
    (∃ (s : State), ∃ c r u, (s.corrections = c :: r) ∧ (u = s.setCorrections r)) ∧
    (∃ (s : State) (due : EvHeld → Bool), (due = (fun e => decide (e.1 + 625 ≤ s.now) || (match s.evlog.lastKey with | some k => keyLt (evKey e) k | none => false)))) :=
  ⟨⟨0, (State.reset.putRec 0 0x23).setEcc [(0x1000000, true)], _, _, 0, rfl, rfl, by decide +kernel⟩,
   ⟨0, late, _, _, rfl, rfl, by decide +kernel⟩,
   ⟨0, State.reset, _, _, rfl, rfl, by decide +kernel⟩,
   ⟨0, (((late.setb P.track F.TRACK_CTRL_EN true).setb (P.lane 0) F.LANE_CTRL_EN true).setTrack fun y => { y with rb := some {} }), _, _, rfl, rfl, by decide +kernel, fun c h => absurd (h.symm.trans (by decide +kernel : _ = none)) (by simp), by decide +kernel⟩,
   ⟨0, ((((late.setb P.track F.TRACK_CTRL_EN true).setb (P.lane 0) F.LANE_CTRL_EN true)).setf P.sys F.SYS_STATE_STATE 3), _, _, rfl, rfl, by decide +kernel, fun c h => absurd (h.symm.trans (by decide +kernel : _ = none)) (by simp), by decide +kernel, by decide +kernel⟩,
   ⟨0, State.reset, _, rfl, by decide +kernel⟩,
   ⟨0, (late.putRec 0 0x23).setTrack fun y => { y with com := [(0, 0, true)] }, _, rfl, by decide +kernel, by decide +kernel, by decide +kernel, by decide +kernel⟩,
   ⟨0, (late.putRec 0 0x23), _, rfl, by decide +kernel, by decide +kernel, by decide +kernel, by decide +kernel, by decide +kernel⟩,
   ⟨0, (late.putRec 0 0x23).setb P.time (F.TIME_ALIGN_ALIGNED 0) true, _, rfl, by decide +kernel, by decide +kernel, by decide +kernel, by decide +kernel, by decide +kernel⟩,
   ⟨0, (late.putRec 0 0x22).setTrack fun y => { y with inh := [0] }, _, rfl, by decide +kernel, by decide +kernel, by decide +kernel, by decide +kernel⟩,
   ⟨0, ((late.putRec 0 (0x22 + 2 ^ 128)).putRec 1 0x16), _, rfl, by decide +kernel, by decide +kernel, by decide +kernel, by decide +kernel, by decide +kernel⟩,
   ⟨0, (late.putRec 0 0x322).setTrack fun y => { y with wins := [(0, 0)] }, by decide +kernel, by decide +kernel, by decide +kernel, by decide +kernel, by decide +kernel⟩,
   ⟨0, State.reset, by decide⟩,
   ⟨0, (0, 0), late.setTrack fun y => { y with wins := [(0, 0)] }, by decide +kernel, by decide +kernel⟩,
   ⟨0, (0, 0), (late.putRec 0 (0x322 + 0xFFFFFFFF * 2 ^ 128)).setTrack fun y => { y with wins := [(0, 0)] }, by decide +kernel, by decide +kernel, by decide +kernel, by decide +kernel, by decide +kernel⟩,
   ⟨State.reset, by decide⟩,
   ⟨State.reset.setCorrections [{}], {}, [], _, by decide +kernel, rfl⟩,
   ⟨State.reset, _, rfl⟩⟩

/-- States and operands that meet the hypotheses of `Obligations.NearestWindow`, clause by clause. -/
theorem witness_NearestWindow :
    (∃ (s : State) (t : Nat) (l : List Nat) (dist : Nat → Int), ∃ r p, (∀ r, dist r = wrap64 (s.xT (s.evTrunk r) t - s.xfire r)) ∧ (s.nearestWindow t l = some (r, p))) ∧
    (∃ (s : State) (t : Nat) (l : List Nat) (dist : Nat → Int), ∃ r p, ∃ q ∈ l, (∀ r, dist r = wrap64 (s.xT (s.evTrunk r) t - s.xfire r)) ∧ (s.nearestWindow t l = some (r, p)) ∧ (((dist q).natAbs : Int) ≤ s.halfWidth q)) ∧
    (∃ (s : State) (t : Nat) (l : List Nat) (dist : Nat → Int), (∀ r, dist r = wrap64 (s.xT (s.evTrunk r) t - s.xfire r))) :=
  ⟨⟨State.reset, 0, [0], fun r => wrap64 (State.reset.xT (State.reset.evTrunk r) 0 - State.reset.xfire r), 0, 0, fun _ => rfl, by decide +kernel⟩,
   ⟨State.reset, 0, [0], fun r => wrap64 (State.reset.xT (State.reset.evTrunk r) 0 - State.reset.xfire r), 0, 0, 0, by simp, fun _ => rfl, by decide +kernel, by decide +kernel⟩,
   ⟨State.reset, 0, [0], fun r => wrap64 (State.reset.xT (State.reset.evTrunk r) 0 - State.reset.xfire r), fun _ => rfl⟩⟩

/-- States and operands that meet the hypotheses of `Obligations.FieldPoints`, clause by clause. -/
theorem witness_FieldPoints :
    (∃ (i : Fin 8) (j : Fin 16) (lvl : Bool) (t0 acc : Nat) (s u : State), (u = (s.setPt i j fun f => { f with land := lvl })) ∧ (acc = t0 + 5 * fioFilt (s.cfgAt i j t0)) ∧ ((s.pt i j).mode ≠ 1)) ∧
    (∃ (i : Fin 8) (j : Fin 16) (lvl : Bool) (t0 acc : Nat) (s u : State), (u = (s.setPt i j fun f => { f with land := lvl })) ∧ (acc = t0 + 5 * fioFilt (s.cfgAt i j t0)) ∧ ((s.pt i j).mode = 1) ∧ ((s.pt i j).fresh = true) ∧ (t0 ≤ (s.pt i j).chg)) ∧
    (∃ (i : Fin 8) (j : Fin 16) (lvl : Bool) (t0 acc : Nat) (s u : State), (u = (s.setPt i j fun f => { f with land := lvl })) ∧ (acc = t0 + 5 * fioFilt (s.cfgAt i j t0)) ∧ ((s.pt i j).mode = 1) ∧ ((s.pt i j).fresh = false) ∧ (fioPulsed (s.cfgAt i j t0) = true ∨ (s.pt i j).lvl = lvl ∨ s.stick i < acc)) ∧
    (∃ (i : Fin 8) (j : Fin 16) (lvl : Bool) (t0 acc : Nat) (s u : State), (u = (s.setPt i j fun f => { f with land := lvl })) ∧ (acc = t0 + 5 * fioFilt (s.cfgAt i j t0)) ∧ ((s.pt i j).mode = 1) ∧ ((s.pt i j).fresh = false) ∧ (fioPulsed (s.cfgAt i j t0) = false) ∧ ((s.pt i j).lvl ≠ lvl) ∧ (acc ≤ s.stick i)) ∧
    (∃ (i : Fin 8) (levels : BitVec 16) (s : State), (s.pulseRead i = none)) ∧
    (∃ (i : Fin 8) (levels : BitVec 16) (s : State), ∃ t, (s.pulseRead i = some t) ∧ (t ≤ (s.slate i).pulseAt)) ∧
    (∃ (i : Fin 8) (levels : BitVec 16) (s : State), ∃ t, (s.pulseRead i = some t) ∧ ((s.slate i).pulseAt < t)) ∧
    (∃ (i : Fin 8) (j : Fin 16) (mv v : Int) (s u : State), (v = clampI (-32768) 32767 mv) ∧ (u = s.setf (P.fio i) ⟨R.FIO_VIN (j / 2), 16 * (j % 2), 16⟩ (ofSigned 16 v)) ∧ (u.flag (P.fio i) (F.FIO_CFG_RC_EN j) = false ∨ (toSigned 16 (u.fld (P.fio i) F.FIO_RANGE_LO) ≤ v ∧ v ≤ toSigned 16 (u.fld (P.fio i) F.FIO_RANGE_HI)))) ∧
    (∃ (i : Fin 8) (j : Fin 16) (mv v : Int) (s u : State), (v = clampI (-32768) 32767 mv) ∧ (u = s.setf (P.fio i) ⟨R.FIO_VIN (j / 2), 16 * (j % 2), 16⟩ (ofSigned 16 v)) ∧ (u.flag (P.fio i) (F.FIO_CFG_RC_EN j) = true) ∧ (¬ (toSigned 16 (u.fld (P.fio i) F.FIO_RANGE_LO) ≤ v ∧ v ≤ toSigned 16 (u.fld (P.fio i) F.FIO_RANGE_HI))) ∧ (max 1 (u.fld (P.fio i) F.FIO_RANGE_CNT_RCNT) ≤ min 15 ((u.pt i j).rangeRun + 1))) ∧
    (∃ (i : Fin 8) (j : Fin 16) (s : State), (s.fld (P.fio i) (F.FIO_TMO_TMO j) ≠ 0) ∧ ((s.pt i j).mode = 1) ∧ ((s.pt i j).lvl = s.flag (P.fio i) (F.FIO_TMO_LVL j)) ∧ ((s.pt i j).stuck = false) ∧ ((s.pt i j).chg + 312500 * s.fld (P.fio i) (F.FIO_TMO_TMO j) ≤ s.stick i)) ∧
    (∃ (i : Fin 8) (j : Fin 16) (s : State), (s.fld (P.fio i) (F.FIO_TMO_TMO j) = 0 ∨ (s.pt i j).mode ≠ 1 ∨ s.stick i < (s.pt i j).chg + 312500 * s.fld (P.fio i) (F.FIO_TMO_TMO j))) ∧
    (∃ (i : Fin 8) (j : Fin 16) (v : Word) (land : Bool) (s : State), (bits (s.slate i).claim j 1 = 1) ∧ (v.toNat ≠ (s.slate i).claimCfg[j])) ∧
    (∃ (i : Fin 8) (j : Fin 16) (v : Word) (land : Bool) (s : State), (bits (s.slate i).claim j 1 = 0)) ∧
    (∃ (i : Fin 8) (j : Fin 16) (v : Word) (land : Bool) (s : State), (bits (s.slate i).claim j 1 = 0) ∧ ((s.pt i j).mode = 2) ∧ (fioMode (v.toNat &&& 0x7FFFFF7F) ≠ 2)) ∧
    (∃ (i : Fin 8) (j : Fin 16) (v : Word) (land : Bool) (s : State), (bits (s.slate i).claim j 1 = 0) ∧ ((s.pt i j).mode ≠ 2)) ∧
    (∃ (i : Fin 8) (j : Fin 16) (s : State), (s.outLevel i j = false)) ∧
    (∃ (i : Fin 8) (j : Fin 16) (s : State), (s.outLevel i j = true) ∧ ((s.pt i j).retries < s.fld (P.fio i) (F.FIO_CFG_RETRY j))) ∧
    (∃ (i : Fin 8) (j : Fin 16) (s : State), (s.outLevel i j = true) ∧ (s.fld (P.fio i) (F.FIO_CFG_RETRY j) ≤ (s.pt i j).retries)) ∧
    (∃ (i : Fin 8) (j : Fin 16) (s : State), ((s.pt i j).cut = true) ∧ ((s.pt i j).cutAt + 3125000 ≤ s.stick i)) ∧
    (∃ (i : Fin 8) (j : Fin 16) (s : State), (s.stick i < (s.pt i j).cutAt + 3125000)) ∧
    (∃ (i : Fin 8) (j : Fin 16) (s : State), ((s.pt i j).mode = 2) ∧ (s.outLevel i j = false) ∧ (s.flag (P.fio i) (F.FIO_CFG_OL_EN j) = true)) ∧
    (∃ (i : Fin 8) (j : Fin 16) (s : State), ((s.pt i j).mode ≠ 2 ∨ s.outLevel i j = true ∨ s.flag (P.fio i) (F.FIO_CFG_OL_EN j) = false)) ∧
    (∃ (i : Fin 8) (j : Fin 16) (land : Bool) (s : State), ((s.pt i j).mode ≠ 2)) ∧
    (∃ (i : Fin 8) (j : Fin 16) (land : Bool) (s : State), ((s.pt i j).mode = 2) ∧ (land = s.fioOut i j)) ∧
    (∃ (i : Fin 8) (j : Fin 16) (land : Bool) (s : State), ((s.pt i j).mode = 2) ∧ (land ≠ s.fioOut i j) ∧ ((s.pt i j).cmdAt + 62500 ≤ s.stick i) ∧ ((s.pt i j).cut = false) ∧ (s.fieldUv i = false)) ∧
    (∃ (i : Fin 8) (j : Fin 16) (land : Bool) (s : State), ((s.pt i j).discharge = false)) ∧
    (∃ (i : Fin 8) (j : Fin 16) (land : Bool) (s : State), ((s.pt i j).discharge = true)) ∧
    (∃ (i : Fin 8) (j : Fin 16) (s : State), ((s.pt i j).mode ≠ 2 ∨ s.fieldUv i = true ∨ s.shortBit i j = true ∨ (s.pt i j).cut = true ∨ (s.pt i j).discharge = true)) ∧
    (∃ (i : Fin 8) (j : Fin 16) (s : State), ((s.pt i j).mode = 2) ∧ (s.fieldUv i = false) ∧ (s.shortBit i j = false) ∧ ((s.pt i j).cut = false) ∧ ((s.pt i j).discharge = false) ∧ (s.testBit i j = false) ∧ ((s.slate i).safe = true)) ∧
    (∃ (i : Fin 8) (j : Fin 16) (s : State), ((s.pt i j).mode = 2) ∧ (s.fieldUv i = false) ∧ (s.shortBit i j = false) ∧ ((s.pt i j).cut = false) ∧ ((s.pt i j).discharge = false) ∧ (s.testBit i j = false) ∧ ((s.slate i).safe = false)) ∧
    (∃ (i : Fin 8) (j : Fin 16) (s : State), ((s.pt i j).mode = 2) ∧ (s.fieldUv i = false) ∧ (s.shortBit i j = false) ∧ ((s.pt i j).cut = false) ∧ ((s.pt i j).discharge = false) ∧ (s.testBit i j = true)) :=
  ⟨⟨0, 0, false, 0, _, State.reset, _, rfl, rfl, by decide⟩,
   ⟨0, 0, false, 0, _, ((State.reset.setPt 0 0 fun y => { y with mode := 1 }).setPt 0 0 fun y => { y with fresh := true }), _, rfl, rfl, by decide, by decide, by decide⟩,
   ⟨0, 0, false, 0, _, ((State.reset.setPt 0 0 fun y => { y with mode := 1 }).setPt 0 0 fun y => { y with fresh := false }), _, rfl, rfl, by decide, by decide, by decide⟩,
   ⟨0, 0, true, 0, _, late.setPt 0 0 fun y => { y with mode := 1 }, _, rfl, rfl, by decide +kernel, by decide +kernel, by decide +kernel, by decide +kernel, by decide +kernel⟩,
   ⟨0, 0, State.reset, by decide⟩,
   ⟨0, 0, late.setSlate 0 fun y => { y with pulseAt := 2000000000 }, (late.pulseRead 0).getD 0, by decide +kernel, by decide +kernel⟩,
   ⟨0, 0, late, (late.pulseRead 0).getD 0, by decide +kernel, by decide +kernel⟩,
   ⟨0, 0, 0, _, State.reset, _, rfl, rfl, by decide⟩,
   ⟨0, 0, -20000, _, ((State.reset.setb (P.fio 0) (F.FIO_CFG_RC_EN 0) true).setf (P.fio 0) F.FIO_RANGE_CNT_RCNT 1), _, rfl, rfl, by decide +kernel, by decide +kernel, by decide +kernel⟩,
   ⟨0, 0, (late.setf (P.fio 0) (F.FIO_TMO_TMO 0) 1).setPt 0 0 fun y => { y with mode := 1 }, by decide +kernel, by decide +kernel, by decide +kernel, by decide +kernel, by decide +kernel⟩,
   ⟨0, 0, State.reset, by decide⟩,
   ⟨0, 0, 1, false, State.reset.setSlate 0 fun y => { y with claim := 1 }, by decide +kernel, by decide +kernel⟩,
   ⟨0, 0, 0#32, false, State.reset, by decide⟩,
   ⟨0, 0, 0#32, false, (State.reset.setPt 0 0 fun y => { y with mode := 2 }), by decide, by decide, by decide⟩,
   ⟨0, 0, 0#32, false, State.reset, by decide, by decide⟩,
   ⟨0, 0, State.reset, by decide⟩,
   ⟨0, 0, ((((late.setSlate 0 fun y => { y with powered := true, safe := false, sb := { y.sb with up := true } }).wr (P.fio 0 + R.FIO_OUT) 1).setf (P.fio 0) (F.FIO_CFG_RETRY 0) 1).setPt 0 0 fun y => { y with mode := 2 }), by decide +kernel, by decide +kernel⟩,
   ⟨0, 0, ((((late.setSlate 0 fun y => { y with powered := true, safe := false, sb := { y.sb with up := true } }).wr (P.fio 0 + R.FIO_OUT) 1).setf (P.fio 0) (F.FIO_CFG_RETRY 0) 0).setPt 0 0 fun y => { y with mode := 2 }), by decide +kernel, by decide +kernel⟩,
   ⟨0, 0, (Tests.late.setPt (0 : Fin 8) (0 : Fin 16) fun y => { y with cut := true }), by decide +kernel, by decide +kernel⟩,
   ⟨0, 0, State.reset, by decide⟩,
   ⟨0, 0, ((State.reset.setPt 0 0 fun y => { y with mode := 2 }).setb (P.fio 0) (F.FIO_CFG_OL_EN 0) true), by decide, by decide, by decide⟩,
   ⟨0, 0, (State.reset.setb (P.fio 0) (F.FIO_CFG_OL_EN 0) false), by decide⟩,
   ⟨0, 0, false, State.reset, by decide⟩,
   ⟨0, 0, _, (State.reset.setPt 0 0 fun y => { y with mode := 2 }), by decide, rfl⟩,
   ⟨0, 0, true, late.setPt 0 0 fun y => { y with mode := 2 }, by decide +kernel, by decide +kernel, by decide +kernel, by decide +kernel, by decide +kernel⟩,
   ⟨0, 0, false, (State.reset.setPt 0 0 fun y => { y with discharge := false }), by decide⟩,
   ⟨0, 0, false, (State.reset.setPt 0 0 fun y => { y with discharge := true }), by decide⟩,
   ⟨0, 0, State.reset, by decide⟩,
   ⟨0, 0, ((((State.reset.setPt 0 0 fun y => { y with mode := 2 }).setPt 0 0 fun y => { y with cut := false }).setPt 0 0 fun y => { y with discharge := false }).setSlate 0 fun y => { y with safe := true }), by decide, by decide, by decide, by decide, by decide, by decide, by decide⟩,
   ⟨0, 0, ((((State.reset.setPt 0 0 fun y => { y with mode := 2 }).setPt 0 0 fun y => { y with cut := false }).setPt 0 0 fun y => { y with discharge := false }).setSlate 0 fun y => { y with safe := false }), by decide, by decide, by decide, by decide, by decide, by decide, by decide⟩,
   ⟨0, 0, State.reset.setSlate 0 fun y => { y with fp := y.fp.set 0 { mode := 2 }, sb := { y.sb with testMask := 1 } }, by decide +kernel, by decide +kernel, by decide +kernel, by decide +kernel, by decide +kernel, by decide +kernel⟩⟩

/-- States and operands that meet the hypotheses of `Obligations.ScheduledTransitions`, clause by clause. -/
theorem witness_ScheduledTransitions :
    (∃ (i : Fin 8) (c : Fin 16) (v : BitVec 5) (s : State), (s.locked = true)) ∧
    (∃ (i : Fin 8) (c : Fin 16) (v : BitVec 5) (s : State), ∃ d : Fin 16, (s.locked = false) ∧ (bits v.toNat 4 1 = 1) ∧ (d ≠ c) ∧ (bits (s.rd (P.fsch i + R.FSCH_MAP d)) 0 5 = v.toNat % 32)) ∧
    (∃ (i : Fin 8) (c : Fin 16) (v : BitVec 5) (s : State), (s.locked = false) ∧ (bits v.toNat 4 1 = 0 ∨ ∀ d : Fin 16, d ≠ c → bits (s.rd (P.fsch i + R.FSCH_MAP d)) 0 5 ≠ v.toNat % 32)) ∧
    (∃ (i : Fin 8) (c : Fin 16) (level : Bool) (s u : State) (tau w : Nat), (tau = s.rd64 (P.fsch i) (R.FSCH_TICK_LO c)) ∧ (w = bits (s.rd (P.fsch i + R.FSCH_WIDTH c)) 0 31) ∧ (u = s.setb (P.fsch i) (F.FSCH_CTRL_LEVEL c) level) ∧ (u.fschArmed i c = true)) ∧
    (∃ (i : Fin 8) (c : Fin 16) (level : Bool) (s u : State) (tau w : Nat), (tau = s.rd64 (P.fsch i) (R.FSCH_TICK_LO c)) ∧ (w = bits (s.rd (P.fsch i + R.FSCH_WIDTH c)) 0 31) ∧ (u = s.setb (P.fsch i) (F.FSCH_CTRL_LEVEL c) level) ∧ (u.fschArmed i c = false) ∧ (tau ≤ s.now)) ∧
    (∃ (i : Fin 8) (c : Fin 16) (level : Bool) (s u : State) (tau w : Nat), (tau = s.rd64 (P.fsch i) (R.FSCH_TICK_LO c)) ∧ (w = bits (s.rd (P.fsch i + R.FSCH_WIDTH c)) 0 31) ∧ (u = s.setb (P.fsch i) (F.FSCH_CTRL_LEVEL c) level) ∧ (u.fschArmed i c = false) ∧ (s.now < tau)) ∧
    (∃ (i : Fin 8) (c : Fin 16) (s : State) (r : FschReq), (r = s.fschReq i c) ∧ (s.fschArmed i c = false)) ∧
    (∃ (i : Fin 8) (c : Fin 16) (s : State) (r : FschReq), (r = s.fschReq i c) ∧ (s.fschArmed i c = true) ∧ (r.handled = 0)) ∧
    (∃ (i : Fin 8) (c : Fin 16) (s : State) (r : FschReq), (r = s.fschReq i c) ∧ (s.fschArmed i c = true) ∧ (r.handled ≠ 0) ∧ (r.handled < r.count)) ∧
    (∃ (i : Fin 8) (c : Fin 16) (s : State) (r : FschReq), (r = s.fschReq i c) ∧ (s.fschArmed i c = false ∨ r.count ≤ r.handled ∨ s.now + s.reach < r.tick r.handled)) ∧
    (∃ (i : Fin 8) (c : Fin 16) (s : State) (r : FschReq), (r = s.fschReq i c) ∧ (s.fschArmed i c = true) ∧ (r.handled < r.count) ∧ (r.tick r.handled ≤ s.now + s.reach) ∧ (s.inhibited F.TIME_INH_CFG_FIO = false) ∧ (s.flag P.time (F.TIME_ALIGN_ALIGNED i) = true)) ∧
    (∃ (i : Fin 8) (c : Fin 16) (s : State) (r : FschReq), (r = s.fschReq i c) ∧ (s.fschArmed i c = true) ∧ (r.handled < r.count) ∧ (r.tick r.handled ≤ s.now + s.reach) ∧ (s.inhibited F.TIME_INH_CFG_FIO = true)) ∧
    (∃ (i : Fin 8) (c : Fin 16) (s : State), ((s.pt i c).pend = [])) ∧
    (∃ (i : Fin 8) (c : Fin 16) (s : State), ∃ e r, (takeEarliest (s.pt i c).pend = some (e, r)) ∧ (s.stick i < e.1)) ∧
    (∃ (i : Fin 8) (c : Fin 16) (s : State), ∃ e r, (takeEarliest (s.pt i c).pend = some (e, r)) ∧ (e.1 ≤ s.stick i)) ∧
    (∃ (i : Fin 8) (c : Fin 16) (s : State), (s.fschArmed i c = true) ∧ ((s.fschReq i c).count ≤ (s.fschReq i c).handled) ∧ ((s.fschReq i c).last ≤ s.now)) ∧
    (∃ (i : Fin 8) (c : Fin 16) (s : State), (s.fschArmed i c = false ∨ (s.fschReq i c).handled < (s.fschReq i c).count ∨ s.now < (s.fschReq i c).last)) :=
  ⟨⟨0, 0, 0, (State.reset.setb P.dom F.DOM_LOCK_LOCK true), by decide⟩,
   ⟨0, 0, 16, State.reset.wr (P.fsch 0 + R.FSCH_MAP 1) 16, 1, by decide +kernel, by decide +kernel, by decide +kernel, by decide +kernel⟩,
   ⟨0, 0, 0, (State.reset.setb P.dom F.DOM_LOCK_LOCK false), by decide, by decide⟩,
   ⟨0, 0, true, (late.setb (P.fsch 0) (F.FSCH_CTRL_GO 0) true), _, _, _, rfl, rfl, rfl, by decide +kernel⟩,
   ⟨0, 0, false, (State.reset.setTime fun y => { y with tick := 1000000000 }), _, _, _, rfl, rfl, rfl, by decide, by decide⟩,
   ⟨0, 0, true, late.wr (P.fsch 0 + R.FSCH_TICK_LO 0) 2000000000, _, _, _, rfl, rfl, rfl, by decide +kernel, by decide +kernel⟩,
   ⟨0, 0, State.reset, _, rfl, by decide⟩,
   ⟨0, 0, (late.setb (P.fsch 0) (F.FSCH_CTRL_GO 0) true), _, rfl, by decide +kernel, by decide +kernel⟩,
   ⟨0, 0, (late.setb (P.fsch 0) (F.FSCH_CTRL_GO 0) true).setFsch 0 0 fun y => { y with handled := 1, width := 1 }, _, rfl, by decide +kernel, by decide +kernel, by decide +kernel⟩,
   ⟨0, 0, State.reset, _, rfl, by decide⟩,
   ⟨0, 0, ((late.setb (P.fsch 0) (F.FSCH_CTRL_GO 0) true).setb P.time F.TIME_LOCK_STAT_NET_LOCK true).setb P.time (F.TIME_ALIGN_ALIGNED 0) true, _, rfl, by decide +kernel, by decide +kernel, by decide +kernel, by decide +kernel, by decide +kernel⟩,
   ⟨0, 0, (late.setb (P.fsch 0) (F.FSCH_CTRL_GO 0) true).setb P.time F.TIME_INH_CFG_FIO true, _, rfl, by decide +kernel, by decide +kernel, by decide +kernel, by decide +kernel⟩,
   ⟨0, 0, (State.reset.setPt 0 0 fun y => { y with pend := [] }), by decide⟩,
   ⟨0, 0, State.reset.setPt 0 0 fun y => { y with pend := [(1, true)] }, (1, true), [], by decide +kernel, by decide +kernel⟩,
   ⟨0, 0, late.setPt 0 0 fun y => { y with pend := [(0, true)] }, (0, true), [], by decide +kernel, by decide +kernel⟩,
   ⟨0, 0, (late.setb (P.fsch 0) (F.FSCH_CTRL_GO 0) true).setFsch 0 0 fun y => { y with handled := 2 }, by decide +kernel, by decide +kernel, by decide +kernel⟩,
   ⟨0, 0, State.reset, by decide⟩⟩

/-- States and operands that meet the hypotheses of `Obligations.EarliestFirst`, clause by clause. -/
theorem witness_EarliestFirst :
    (∃ (l r : List (Nat × Bool)) (e : Nat × Bool), (takeEarliest l = some (e, r))) ∧
    (∃ (l r : List (Nat × Bool)) (e : Nat × Bool), ∃ f, (takeEarliest l = some (e, r)) ∧ (f ∈ l)) :=
  ⟨⟨[(5, true), (4, false)], [(5, true)], (4, false), by decide +kernel⟩,
   ⟨[(5, true), (4, false)], [(5, true)], (4, false), (5, true), by decide +kernel, by simp⟩⟩

/-- States and operands that meet the hypotheses of `Obligations.NetworkFrames`, clause by clause. -/
theorem witness_NetworkFrames :
    (∃ (d : Fin 8) (h : HostTx) (s : State) (a : Nat), (a = s.rd64 (P.netq d) R.NQ_TX_BASE_LO / 32 * 32 + 32 * s.rd (P.netq d + R.NQ_TX_HEAD)) ∧ (s.flag (P.netq d) F.NQ_CTRL_TX_EN = false ∨ s.rd (P.netq d + R.NQ_TX_HEAD) = s.rd (P.netq d + R.NQ_TX_TAIL) % 2 ^ 10 ∨ bits s.net.stopT d 1 = 1)) ∧
    (∃ (d : Fin 8) (h : HostTx) (s : State) (a : Nat), ∃ t, (a = s.rd64 (P.netq d) R.NQ_TX_BASE_LO / 32 * 32 + 32 * s.rd (P.netq d + R.NQ_TX_HEAD)) ∧ (s.flag (P.netq d) F.NQ_CTRL_TX_EN = true) ∧ (s.rd (P.netq d + R.NQ_TX_HEAD) ≠ s.rd (P.netq d + R.NQ_TX_TAIL) % 2 ^ 10) ∧ (bits s.net.stopT d 1 = 0) ∧ (s.nqHost d = false) ∧ (s.memOwned d a 32 = true) ∧ (s.softIn a 32 = []) ∧ (t = txDesc (s.load a 32)) ∧ (t.own = false)) ∧
    (∃ (d : Fin 8) (h : HostTx) (s : State) (a : Nat), ∃ t, (a = s.rd64 (P.netq d) R.NQ_TX_BASE_LO / 32 * 32 + 32 * s.rd (P.netq d + R.NQ_TX_HEAD)) ∧ (s.flag (P.netq d) F.NQ_CTRL_TX_EN = true) ∧ (s.rd (P.netq d + R.NQ_TX_HEAD) ≠ s.rd (P.netq d + R.NQ_TX_TAIL) % 2 ^ 10) ∧ (bits s.net.stopT d 1 = 0) ∧ (s.nqHost d = false) ∧ (s.memOwned d a 32 = true) ∧ (s.softIn a 32 = []) ∧ (t = txDesc (s.load a 32)) ∧ (t.own = true) ∧ (s.txBad d t = true)) ∧
    (∃ (d : Fin 8) (h : HostTx) (s : State) (a : Nat), ∃ t, (a = s.rd64 (P.netq d) R.NQ_TX_BASE_LO / 32 * 32 + 32 * s.rd (P.netq d + R.NQ_TX_HEAD)) ∧ (s.flag (P.netq d) F.NQ_CTRL_TX_EN = true) ∧ (s.rd (P.netq d + R.NQ_TX_HEAD) ≠ s.rd (P.netq d + R.NQ_TX_TAIL) % 2 ^ 10) ∧ (bits s.net.stopT d 1 = 0) ∧ (s.nqHost d = false) ∧ (s.memOwned d a 32 = true) ∧ (s.softIn a 32 = []) ∧ (t = txDesc (s.load a 32)) ∧ (t.own = true) ∧ (s.txBad d t = false) ∧ (s.memOwned d t.addr t.len = true) ∧ (s.softIn t.addr t.len = [])) ∧
    (∃ (d : Fin 8) (h : HostTx) (s : State) (a : Nat), ∃ t, (a = s.rd64 (P.netq d) R.NQ_TX_BASE_LO / 32 * 32 + 32 * s.rd (P.netq d + R.NQ_TX_HEAD)) ∧ (s.flag (P.netq d) F.NQ_CTRL_TX_EN = true) ∧ (s.rd (P.netq d + R.NQ_TX_HEAD) ≠ s.rd (P.netq d + R.NQ_TX_TAIL) % 2 ^ 10) ∧ (bits s.net.stopT d 1 = 0) ∧ (s.nqHost d = false) ∧ (s.memOwned d a 32 = true) ∧ (s.softIn a 32 = []) ∧ (t = txDesc (s.load a 32)) ∧ (t.own = true) ∧ (s.txBad d t = false) ∧ (s.memOwned d t.addr t.len = false)) ∧
    (∃ (d : Fin 8) (v : Word) (s u : State), (u = s.wr (P.netq d + R.NQ_TX_TAIL) (v.toNat % 2 ^ 10)) ∧ (u.flag P.host F.HOST_STATUS_BME = true)) ∧
    (∃ (d : Fin 8) (v : Word) (s u : State), (u = s.wr (P.netq d + R.NQ_TX_TAIL) (v.toNat % 2 ^ 10)) ∧ (u.flag P.host F.HOST_STATUS_BME = false)) ∧
    (∃ (d : Fin 8) (v : Word) (s u : State), (u = s.wr (P.netq d + R.NQ_RX_TAIL) (v.toNat % 2 ^ 10)) ∧ (u.flag P.host F.HOST_STATUS_BME = true)) ∧
    (∃ (d : Fin 8) (v : Word) (s u : State), (u = s.wr (P.netq d + R.NQ_RX_TAIL) (v.toNat % 2 ^ 10)) ∧ (u.flag P.host F.HOST_STATUS_BME = false)) ∧
    (∃ (p : Fin 4) (s : State), ((s.port p).launch = [])) ∧
    (∃ (p : Fin 4) (s : State), ∃ l, (firstLaunch (s.port p).launch = some l) ∧ (s.launchDue p l = false)) ∧
    (∃ (p : Fin 4) (s : State), ∃ l u, (firstLaunch (s.port p).launch = some l) ∧ (s.launchDue p l = true) ∧ (u = (s.setPort p fun x => { x with launch := x.launch.erase l })) ∧ (s.portUp p = false)) ∧
    (∃ (p : Fin 4) (s : State), ∃ l u, (firstLaunch (s.port p).launch = some l) ∧ (s.launchDue p l = true) ∧ (u = (s.setPort p fun x => { x with launch := x.launch.erase l })) ∧ (s.portUp p = true) ∧ (s.inhibited F.TIME_INH_CFG_LAUNCH = true)) ∧
    (∃ (p : Fin 4) (s : State), ∃ l u, (firstLaunch (s.port p).launch = some l) ∧ (s.launchDue p l = true) ∧ (u = (s.setPort p fun x => { x with launch := x.launch.erase l })) ∧ (s.portUp p = true) ∧ (s.inhibited F.TIME_INH_CFG_LAUNCH = false) ∧ ((s.port p).tx.isSome = true)) ∧
    (∃ (p : Fin 4) (s : State), ∃ l u, (firstLaunch (s.port p).launch = some l) ∧ (s.launchDue p l = true) ∧ (u = (s.setPort p fun x => { x with launch := x.launch.erase l })) ∧ (s.portUp p = true) ∧ (s.inhibited F.TIME_INH_CFG_LAUNCH = false) ∧ ((s.port p).tx = none) ∧ (l.late = false) ∧ (64 * (s.now : Int) ≤ s.launchStart p l.tick + 64)) ∧
    (∃ (p : Fin 4) (s : State), (s.portUp p = false ∨ (s.port p).tx.isSome = true)) ∧
    (∃ (p : Fin 4) (s : State), ∃ l, (s.portUp p = true) ∧ ((s.port p).tx = none) ∧ (firstLaunch (s.port p).launch = some l) ∧ (s.launchDue p l = true)) ∧
    (∃ (p : Fin 4) (s : State), ∃ q f r, (s.portUp p = true) ∧ ((s.port p).tx = none) ∧ ((s.port p).launch = []) ∧ ((s.credits p).nextQueue p = some q) ∧ (((s.credits p).port p).q[q] = f :: r)) ∧
    (∃ (p : Fin 4) (sfd : Int) (f : TxFrame) (q t : Nat) (s w u : State), ((s.port p).tx = some (f, q)) ∧ (t = (sfd + toSigned 16 (s.rd (P.net p + R.NET_DLY_TX))).toNat) ∧ (w = (((s.credits p).setPort p fun x => { x with tx := none }).inc (P.net p) ⟨R.NET_TX_FRAMES, 0, 31⟩).txCopy f.job (if f.late then 1 else 0)) ∧ (u = w.bufEcc p f.soft) ∧ (f.soft = none)) ∧
    (∃ (p : Fin 4) (sfd : Int) (f : TxFrame) (q t : Nat) (s w u : State), ((s.port p).tx = some (f, q)) ∧ (t = (sfd + toSigned 16 (s.rd (P.net p + R.NET_DLY_TX))).toNat) ∧ (w = (((s.credits p).setPort p fun x => { x with tx := none }).inc (P.net p) ⟨R.NET_TX_FRAMES, 0, 31⟩).txCopy f.job (if f.late then 1 else 0)) ∧ (u = w.bufEcc p f.soft) ∧ (f.soft = some false)) ∧
    (∃ (p : Fin 4) (sfd : Int) (f : TxFrame) (q t : Nat) (s w u : State), ((s.port p).tx = some (f, q)) ∧ (t = (sfd + toSigned 16 (s.rd (P.net p + R.NET_DLY_TX))).toNat) ∧ (w = (((s.credits p).setPort p fun x => { x with tx := none }).inc (P.net p) ⟨R.NET_TX_FRAMES, 0, 31⟩).txCopy f.job (if f.late then 1 else 0)) ∧ (u = w.bufEcc p f.soft) ∧ (f.soft = some true)) ∧
    (∃ (p : Fin 4) (sfd : Int) (f : TxFrame) (q t : Nat) (s w u : State), ((s.port p).tx = some (f, q)) ∧ (t = (sfd + toSigned 16 (s.rd (P.net p + R.NET_DLY_TX))).toNat) ∧ (w = (((s.credits p).setPort p fun x => { x with tx := none }).inc (P.net p) ⟨R.NET_TX_FRAMES, 0, 31⟩).txCopy f.job (if f.late then 1 else 0)) ∧ (u = w.bufEcc p f.soft) ∧ (f.stamp = false)) ∧
    (∃ (p : Fin 4) (sfd : Int) (f : TxFrame) (q t : Nat) (s w u : State), ((s.port p).tx = some (f, q)) ∧ (t = (sfd + toSigned 16 (s.rd (P.net p + R.NET_DLY_TX))).toNat) ∧ (w = (((s.credits p).setPort p fun x => { x with tx := none }).inc (P.net p) ⟨R.NET_TX_FRAMES, 0, 31⟩).txCopy f.job (if f.late then 1 else 0)) ∧ (u = w.bufEcc p f.soft) ∧ (f.stamp = true) ∧ (16 ≤ (u.port p).stamps.length)) ∧
    (∃ (p : Fin 4) (sfd : Int) (f : TxFrame) (q t : Nat) (s w u : State), ((s.port p).tx = some (f, q)) ∧ (t = (sfd + toSigned 16 (s.rd (P.net p + R.NET_DLY_TX))).toNat) ∧ (w = (((s.credits p).setPort p fun x => { x with tx := none }).inc (P.net p) ⟨R.NET_TX_FRAMES, 0, 31⟩).txCopy f.job (if f.late then 1 else 0)) ∧ (u = w.bufEcc p f.soft) ∧ (f.stamp = true) ∧ ((u.port p).stamps.length < 16)) ∧
    (∃ (p : Fin 4) (rx : NetRx) (s u : State), (u = s.inc (P.net p) ⟨R.NET_RX_FRAMES, 0, 31⟩) ∧ (s.portUp p = false)) ∧
    (∃ (p : Fin 4) (rx : NetRx) (s u : State), (u = s.inc (P.net p) ⟨R.NET_RX_FRAMES, 0, 31⟩) ∧ (s.portUp p = true) ∧ (u.maxFrame < rx.bytes.length + 4)) ∧
    (∃ (p : Fin 4) (rx : NetRx) (s u : State), (u = s.inc (P.net p) ⟨R.NET_RX_FRAMES, 0, 31⟩) ∧ (s.portUp p = true) ∧ (rx.bytes.length + 4 ≤ u.maxFrame)) ∧
    (∃ (a b c : Nat), (a ≤ 6) ∧ (b ≤ 6) ∧ (c ≤ 6)) :=
  ⟨⟨0, ⟨none, none⟩, State.reset, _, rfl, by decide +kernel⟩,
   ⟨0, ⟨none, none⟩, ((late.setb (P.netq 0) F.NQ_CTRL_TX_EN true).wr (P.netq 0 + R.NQ_TX_TAIL) 1).wr (P.netq 0 + R.NQ_TX_BASE_LO) 0xC00000, _, _, rfl, by decide +kernel, by decide +kernel, by decide +kernel, by decide +kernel, by decide +kernel, by decide +kernel, rfl, by decide +kernel⟩,
   ⟨0, ⟨none, none⟩, ((((late.setb (P.netq 0) F.NQ_CTRL_TX_EN true).wr (P.netq 0 + R.NQ_TX_TAIL) 1).wr (P.netq 0 + R.NQ_TX_BASE_LO) 0xC00000).store 0xC00000 32 (0xC01000 + 60 * 2 ^ 64 + 0 * 2 ^ 96 + 2 ^ 127)), _, _, rfl, by decide +kernel, by decide +kernel, by decide +kernel, by decide +kernel, by decide +kernel, by decide +kernel, rfl, by decide +kernel, by decide +kernel⟩,
   ⟨0, ⟨none, none⟩, ((((late.setb (P.netq 0) F.NQ_CTRL_TX_EN true).wr (P.netq 0 + R.NQ_TX_TAIL) 1).wr (P.netq 0 + R.NQ_TX_BASE_LO) 0xC00000).store 0xC00000 32 (0xC01000 + 60 * 2 ^ 64 + 1 * 2 ^ 96 + 2 ^ 127)), _, _, rfl, by decide +kernel, by decide +kernel, by decide +kernel, by decide +kernel, by decide +kernel, by decide +kernel, rfl, by decide +kernel, by decide +kernel, by decide +kernel, by decide +kernel⟩,
   ⟨0, ⟨none, none⟩, ((((late.setb (P.netq 0) F.NQ_CTRL_TX_EN true).wr (P.netq 0 + R.NQ_TX_TAIL) 1).wr (P.netq 0 + R.NQ_TX_BASE_LO) 0xC00000).store 0xC00000 32 (0 + 60 * 2 ^ 64 + 1 * 2 ^ 96 + 2 ^ 127)), _, _, rfl, by decide +kernel, by decide +kernel, by decide +kernel, by decide +kernel, by decide +kernel, by decide +kernel, rfl, by decide +kernel, by decide +kernel, by decide +kernel⟩,
   ⟨0, 0#32, (State.reset.setb P.host F.HOST_STATUS_BME true), _, rfl, by decide⟩,
   ⟨0, 0#32, (State.reset.setb P.host F.HOST_STATUS_BME false), _, rfl, by decide⟩,
   ⟨0, 0#32, (State.reset.setb P.host F.HOST_STATUS_BME true), _, rfl, by decide⟩,
   ⟨0, 0#32, (State.reset.setb P.host F.HOST_STATUS_BME false), _, rfl, by decide⟩,
   ⟨0, (State.reset.setPort 0 fun y => { y with launch := [] }), by decide⟩,
   ⟨0, late.setPort 0 fun y => { y with launch := [{ tick := 2000000000 }] }, { tick := 2000000000 }, by decide +kernel, by decide +kernel⟩,
   ⟨0, late.setPort 0 fun y => { y with launch := [{ late := true }] }, { late := true }, _, by decide +kernel, by decide +kernel, rfl, by decide +kernel⟩,
   ⟨0, ((late.setb (P.net 0) F.NET_STATUS_LINK_UP true).setb P.time F.TIME_INH_CFG_LAUNCH true).setPort 0 fun y => { y with launch := [{ late := true }] }, { late := true }, _, by decide +kernel, by decide +kernel, rfl, by decide +kernel, by decide +kernel⟩,
   ⟨0, ((late.setb (P.net 0) F.NET_STATUS_LINK_UP true).setb P.time F.TIME_LOCK_STAT_NET_LOCK true).setPort 0 fun y => { y with tx := some ({}, 0), launch := [{ late := true }] }, { late := true }, _, by decide +kernel, by decide +kernel, rfl, by decide +kernel, by decide +kernel, by decide +kernel⟩,
   ⟨0, ((late.setb (P.net 0) F.NET_STATUS_LINK_UP true).setb P.time F.TIME_LOCK_STAT_NET_LOCK true).setPort 0 fun y => { y with launch := [{ tick := 1000000001 }] }, { tick := 1000000001 }, _, by decide +kernel, by decide +kernel, rfl, by decide +kernel, by decide +kernel, by decide +kernel, by decide +kernel, by decide +kernel⟩,
   ⟨0, State.reset, by decide⟩,
   ⟨0, (late.setb (P.net 0) F.NET_STATUS_LINK_UP true).setPort 0 fun y => { y with launch := [{ late := true }] }, { late := true }, by decide +kernel, by decide +kernel, by decide +kernel, by decide +kernel⟩,
   ⟨0, (late.setb (P.net 0) F.NET_STATUS_LINK_UP true).setPort 0 fun y => { y with q := y.q.set 0 [{}] }, 0, {}, [], by decide +kernel, by decide +kernel, by decide +kernel, by decide +kernel, by decide +kernel⟩,
   ⟨0, 0, {}, 0, _, (late.setPort 0 fun y => { y with tx := some ({}, 0) }), _, _, by decide +kernel, rfl, rfl, rfl, by decide +kernel⟩,
   ⟨0, 0, { soft := some false }, 0, _, (late.setPort 0 fun y => { y with tx := some ({ soft := some false }, 0) }), _, _, by decide +kernel, rfl, rfl, rfl, by decide +kernel⟩,
   ⟨0, 0, { soft := some true }, 0, _, (late.setPort 0 fun y => { y with tx := some ({ soft := some true }, 0) }), _, _, by decide +kernel, rfl, rfl, rfl, by decide +kernel⟩,
   ⟨0, 0, {}, 0, _, (late.setPort 0 fun y => { y with tx := some ({}, 0) }), _, _, by decide +kernel, rfl, rfl, rfl, by decide +kernel⟩,
   ⟨0, 0, { stamp := true }, 0, _, (late.setPort 0 fun y => { y with tx := some ({ stamp := true }, 0), stamps := List.replicate 16 (0, 0) }), _, _, by decide +kernel, rfl, rfl, rfl, by decide +kernel, by decide +kernel⟩,
   ⟨0, 0, { stamp := true }, 0, _, (late.setPort 0 fun y => { y with tx := some ({ stamp := true }, 0) }), _, _, by decide +kernel, rfl, rfl, rfl, by decide +kernel, by decide +kernel⟩,
   ⟨0, ⟨List.replicate 60 0, true, 0, none⟩, State.reset, _, rfl, by decide +kernel⟩,
   ⟨0, ⟨List.replicate 2100 0, true, 0, none⟩, (late.setb (P.net 0) F.NET_STATUS_LINK_UP true), _, rfl, by decide +kernel, by decide +kernel⟩,
   ⟨0, ⟨List.replicate 60 0, true, 0, none⟩, (late.setb (P.net 0) F.NET_STATUS_LINK_UP true), _, rfl, by decide +kernel, by decide +kernel⟩,
   ⟨0, 0, 0, by decide, by decide, by decide⟩⟩

/-- States and operands that meet the hypotheses of `Obligations.NetworkPorts`, clause by clause. -/
theorem witness_NetworkPorts :
    (∃ (r : Fin 2) (s : State), (s.ringMgr r = false)) ∧
    (∃ (r : Fin 2) (s : State), (s.ringMgr r = true) ∧ (s.net.rings[r].got[0] = false ∨ s.net.rings[r].got[1] = false) ∧ (s.portUp (ringPort r 0) = false) ∧ (s.portUp (ringPort r 1) = false)) ∧
    (∃ (r : Fin 2) (s : State), (s.ringMgr r = false ∨ s.now < s.net.rings[r].last + 3 * s.ringTest)) ∧
    (∃ (r : Fin 2) (s : State), (s.ringMgr r = true) ∧ (s.net.rings[r].last + 3 * s.ringTest ≤ s.now) ∧ (bits (s.rd (P.switch + R.SW_RING_STATUS)) (8 + r) 1 = 0)) ∧
    (∃ (p : Fin 4) (s : State), (s.flag (P.net p) F.NET_CFG_EN = true) ∧ (s.portUp p = false)) ∧
    (∃ (p : Fin 4) (s : State), (s.flag (P.net p) F.NET_CFG_EN = false ∨ s.portUp p = true)) ∧
    (∃ (p : Fin 4) (hiBer : Bool) (s : State), (s.portUp p = false)) ∧
    (∃ (p : Fin 4) (hiBer : Bool) (s : State), (s.portUp p = true)) ∧
    (∃ (p : Fin 4) (hiBer : Bool) (s : State), ∃ u, (s.portUp p = true) ∧ (s.ringMgr (portRing p) = false) ∧ ((s.port p).q = Vector.replicate 9 []) ∧ ((s.port p).tx = none) ∧ (u = (((s.setb (P.net p) F.NET_STATUS_LINK_UP false).inc (P.net p) ⟨R.NET_LINK_DOWN_CNT, 0, 16⟩).err (P.net p) E.net_LINK_DOWN).setPort p (fun x => { x with q := Vector.replicate 9 [], tx := none, trySince := s.now })) ∧ (u.ringMgr (portRing p) = false)) ∧
    (∃ (p : Fin 4) (s : State), (s.fld (P.net p) F.NET_CFG_MODE = 3) ∧ (s.flag (P.net p) F.NET_CFG_EN = true) ∧ (s.portUp p = false) ∧ ((s.port p).trySince + 62500000 ≤ s.now)) ∧
    (∃ (p : Fin 4) (s : State), (s.fld (P.net p) F.NET_CFG_MODE ≠ 3 ∨ s.portUp p = true ∨ s.now < (s.port p).trySince + 62500000)) ∧
    (∃ (p : Fin 4) (v : Word) (s : State) (old new : Nat), (old = s.rd (P.net p + R.NET_CFG)) ∧ (new = v.toNat &&& 0x30F) ∧ ((old ^^^ new) &&& 0x307 = 0) ∧ (new % 2 = 1)) ∧
    (∃ (p : Fin 4) (v : Word) (s : State) (old new : Nat), (old = s.rd (P.net p + R.NET_CFG)) ∧ (new = v.toNat &&& 0x30F) ∧ ((old ^^^ new) &&& 0x306 ≠ 0) ∧ ((old ^^^ new) &&& 0x307 ≠ 0)) ∧
    (∃ (p : Fin 4) (q : Fin 9) (v : Word) (s : State) (sum : Nat), (s.portUp p = true) ∧ (sum = ((List.finRange 9).map fun i => if i = q then v.toNat % 2 ^ 14 else bits (s.rd (P.net p + R.NET_CBS i)) 0 14).foldl (· + ·) 0) ∧ (3 * s.portRate p < 4 * sum)) ∧
    (∃ (p : Fin 4) (q : Fin 9) (v : Word) (s : State) (sum : Nat), (s.portUp p = true) ∧ (sum = ((List.finRange 9).map fun i => if i = q then v.toNat % 2 ^ 14 else bits (s.rd (P.net p + R.NET_CBS i)) 0 14).foldl (· + ·) 0) ∧ (4 * sum ≤ 3 * s.portRate p)) ∧
    (∃ (q : Fin 9) (v : Word) (s : State) (sum : Nat), (sum = ((List.finRange 9).map fun i => if i = q then v.toNat % 2 ^ 13 else s.rsv i).foldl (· + ·) 0) ∧ (s.locked = true)) ∧
    (∃ (q : Fin 9) (v : Word) (s : State) (sum : Nat), (sum = ((List.finRange 9).map fun i => if i = q then v.toNat % 2 ^ 13 else s.rsv i).foldl (· + ·) 0) ∧ (s.locked = false) ∧ (8192 < 4 * sum)) ∧
    (∃ (q : Fin 9) (v : Word) (s : State) (sum : Nat), (sum = ((List.finRange 9).map fun i => if i = q then v.toNat % 2 ^ 13 else s.rsv i).foldl (· + ·) 0) ∧ (s.locked = false) ∧ (4 * sum ≤ 8192)) :=
  ⟨⟨0, State.reset, by decide⟩,
   ⟨0, (late.wr (P.switch + R.SW_RING_CFG) 1), by decide +kernel, by decide +kernel, by decide +kernel, by decide +kernel⟩,
   ⟨0, State.reset, by decide⟩,
   ⟨0, (late.wr (P.switch + R.SW_RING_CFG) 1), by decide +kernel, by decide +kernel, by decide +kernel⟩,
   ⟨0, (State.reset.setb (P.net 0) F.NET_CFG_EN true), by decide, by decide⟩,
   ⟨0, State.reset, by decide⟩,
   ⟨0, false, State.reset, by decide⟩,
   ⟨0, false, (late.setb (P.net 0) F.NET_STATUS_LINK_UP true), by decide +kernel⟩,
   ⟨0, false, (late.setb (P.net 0) F.NET_STATUS_LINK_UP true), _, by decide +kernel, by decide +kernel, by decide +kernel, by decide +kernel, rfl, by decide +kernel⟩,
   ⟨0, (((State.reset.setTime fun y => { y with tick := 1000000000 }).setf (P.net 0) F.NET_CFG_MODE (3)).setb (P.net 0) F.NET_CFG_EN true), by decide, by decide, by decide, by decide⟩,
   ⟨0, State.reset, by decide⟩,
   ⟨0, 1, State.reset.wr (P.net 0 + R.NET_CFG) 1, _, _, rfl, rfl, by decide +kernel, by decide +kernel⟩,
   ⟨0, 0#32, State.reset, _, _, rfl, rfl, by decide, by decide⟩,
   ⟨0, 0, 0x3FFF, (late.setb (P.net 0) F.NET_STATUS_LINK_UP true), _, by decide +kernel, rfl, by decide +kernel⟩,
   ⟨0, 0, 1, (late.setb (P.net 0) F.NET_STATUS_LINK_UP true), _, by decide +kernel, rfl, by decide +kernel⟩,
   ⟨0, 0#32, (State.reset.setb P.dom F.DOM_LOCK_LOCK true), _, rfl, by decide⟩,
   ⟨0, 0x1FFF, State.reset, _, rfl, by decide +kernel, by decide +kernel⟩,
   ⟨0, 0#32, (State.reset.setb P.dom F.DOM_LOCK_LOCK false), _, rfl, by decide, by decide⟩⟩

/-- States and operands that meet the hypotheses of `Obligations.SafetyCommands`, clause by clause. -/
theorem witness_SafetyCommands :
    (∃ (s : State), (s.safeCfg.en = true)) ∧
    (∃ (s : State), (s.safeCfg.en = false)) ∧
    (∃ (t : Nat) (s : State), (s.safety.mark = some t) ∧ (s.safeCfg.en = true) ∧ (t + 171875 ≤ s.now)) ∧
    (∃ (t : Nat) (s : State), (s.safety.mark = some t) ∧ (s.safeCfg.en = false ∨ s.now < t + 171875)) ∧
    (∃ (i : Fin 8) (rx : SbRx) (q : Nat) (last : Option Nat) (s u : State), (q = field rx.bytes 0 1 % 16) ∧ (last = (if (s.slate i).sb.fLast + 31250 ≤ s.now then none else (s.slate i).sb.fSeq)) ∧ (u = (s.setSlate i fun x => { x with sb := { x.sb with fSeq := some q, fLast := s.now, fUp := true, stat := field rx.bytes 1 1, pts := field rx.bytes 2 2, halls := field rx.bytes 4 8, backs := field rx.bytes 12 2 } })) ∧ ((sbChecks rx 3 && seqCont last q) = false)) ∧
    (∃ (i : Fin 8) (rx : SbRx) (q : Nat) (last : Option Nat) (s u : State), (q = field rx.bytes 0 1 % 16) ∧ (last = (if (s.slate i).sb.fLast + 31250 ≤ s.now then none else (s.slate i).sb.fSeq)) ∧ (u = (s.setSlate i fun x => { x with sb := { x.sb with fSeq := some q, fLast := s.now, fUp := true, stat := field rx.bytes 1 1, pts := field rx.bytes 2 2, halls := field rx.bytes 4 8, backs := field rx.bytes 12 2 } })) ∧ ((sbChecks rx 3 && seqCont last q) = true) ∧ (u.safeCfg.en = false ∨ u.safety.b.run = false)) ∧
    (∃ (i : Fin 8) (rx : SbRx) (q : Nat) (last : Option Nat) (s u : State), (q = field rx.bytes 0 1 % 16) ∧ (last = (if (s.slate i).sb.fLast + 31250 ≤ s.now then none else (s.slate i).sb.fSeq)) ∧ (u = (s.setSlate i fun x => { x with sb := { x.sb with fSeq := some q, fLast := s.now, fUp := true, stat := field rx.bytes 1 1, pts := field rx.bytes 2 2, halls := field rx.bytes 4 8, backs := field rx.bytes 12 2 } })) ∧ ((sbChecks rx 3 && seqCont last q) = true) ∧ (u.safeCfg.en = true) ∧ (u.safety.b.run = true)) ∧
    (∃ (count : BitVec 16) (s : State), ∃ t, (s.safety.mark = some t) ∧ (s.now < t + 156250)) ∧
    (∃ (count : BitVec 16) (s : State), ∃ t, (s.safety.mark = some t) ∧ (t + 156250 ≤ s.now) ∧ (s.safeCfg.en = false)) ∧
    (∃ (count : BitVec 16) (s : State), ∃ t u, (s.safety.mark = some t) ∧ (t + 156250 ≤ s.now) ∧ (s.safeCfg.en = true) ∧ (19600 ≤ count.toNat) ∧ (count.toNat ≤ 20400) ∧ (u = ((((s.setSafety fun x => { x with mark := some s.now, cnt := count.toNat }).setf P.clk F.CLK_FLINT_CYC_CYC count.toNat).latchDsc).channelCycle false).channelCycle true)) ∧
    (∃ (s : State), (s.safeCfg.en = true) ∧ (s.safety.a.run = true) ∧ (s.safety.b.run = true) ∧ (s.safety.b.waits = true)) ∧
    (∃ (s : State), (s.safeCfg.en = false ∨ s.safety.a.run = false ∨ s.safety.b.run = false ∨ s.safety.b.waits = false)) ∧
    (∃ (s : State), (s.safeCfg.en = true) ∧ (s.safety.a.run = true) ∧ (s.safety.b.run = true) ∧ (s.safety.a.waits = true) ∧ (s.safety.b.waits = false)) ∧
    (∃ (s : State), (s.safeCfg.en = false ∨ s.safety.a.waits = false ∨ s.safety.b.waits = true)) ∧
    (∃ (f : Bool) (t : Nat) (s : State), (s.safety.mark = some t) ∧ (s.safeCfg.en = true) ∧ ((s.chan f).run = true) ∧ ((s.chan f).waits = true) ∧ (t + (if f then 93750 else 125000) ≤ s.now)) ∧
    (∃ (f : Bool) (t : Nat) (s : State), (s.safety.mark = some t) ∧ (s.safeCfg.en = true) ∧ ((s.chan f).run = true) ∧ ((s.chan f).waits = true) ∧ (s.now < t + (if f then 93750 else 125000))) ∧
    (∃ (f : Bool) (n : Fin 64) (p : PairCfg) (t : Nat) (s : State), ((s.safeCfg.pairs.find? fun p => p.pair == n.val) = some p) ∧ ((s.pairOf f n).alone = some t) ∧ (s.safeCfg.en = true) ∧ ((s.chan f).run = true) ∧ ((s.pairOf f n).fault = false) ∧ (t + p.disc * 312500 < s.now)) ∧
    (∃ (f : Bool) (n : Fin 64) (p : PairCfg) (t : Nat) (s : State), ((s.safeCfg.pairs.find? fun p => p.pair == n.val) = some p) ∧ ((s.pairOf f n).alone = some t) ∧ (s.safeCfg.en = true) ∧ ((s.chan f).run = true) ∧ ((s.pairOf f n).fault = true ∨ s.now ≤ t + p.disc * 312500)) ∧
    (∃ (z : Fin 8) (s : State), (s.safeCfg.en = false)) ∧
    (∃ (z : Fin 8) (s : State), (s.safeCfg.en = true)) ∧
    (∃ (k : Fin 128) (r : FuncCfg) (z : Fin 8) (hit : Nat → Bool) (s : State), (s.safeCfg.funcs[k.val]? = some r) ∧ (fin? 8 r.zone = some z) ∧ (s.safeCfg.en = true) ∧ (r.kind = 7) ∧ (hit = (fun n => s.safeCfg.outs.any fun o => o.brake && o.point == n && (o.axis == r.axis || (r.axis == 0xFF && s.safeCfg.zoneOf (n / 16) == some z))))) ∧
    (∃ (q : Fin 514) (hi : Bool) (v : Word) (s : State) (a m : Nat), (a = P.safe + R.SAFE_BRK_REQ_LO + 4 * hi.toNat) ∧ (m = s.brkMask q.val hi.toNat)) ∧
    (∃ (c : Fin 32) (k : ConnCfg) (s : State), (s.connOf c = some k) ∧ (s.dscOn = true) ∧ ((s.dscOf c).run = true ∨ (s.dscOf c).conn = true) ∧ (∀ t, (s.dscOf c).sentAt = some t → t + k.periodT ≤ s.now ∨ s.dscOut k ≠ (s.dscOf c).outs)) ∧
    (∃ (c : Fin 32) (k : ConnCfg) (s : State), (s.connOf c = some k) ∧ (s.dscOn = false ∨ ((s.dscOf c).run = false ∧ (s.dscOf c).conn = false))) ∧
    (∃ (c : Fin 32) (k : ConnCfg) (s : State), (s.connOf c = some k) ∧ (s.dscOn = true) ∧ ((s.dscOf c).run = false) ∧ (∀ t, (s.dscOf c).connAt = some t → t + k.periodT ≤ s.now)) ∧
    (∃ (c : Fin 32) (k : ConnCfg) (s : State), (s.connOf c = some k) ∧ (s.dscOn = false ∨ (s.dscOf c).run = true)) ∧
    (∃ (p : Fin 4) (body : List Byte) (s : State), (s.dscOn = false)) ∧
    (∃ (p : Fin 4) (body : List Byte) (s : State), (s.dscOn = true) ∧ (s.dscNamed (body.take 32) = none)) ∧
    (∃ (p : Fin 4) (body : List Byte) (s : State), ∃ c k, (s.dscOn = true) ∧ (body.length = 42) ∧ (s.dscNamed (body.take 32) = some c) ∧ (s.connOf c = some k) ∧ ((s.dscOf c).admits (body.take 32) = true) ∧ (field (body.take 32) 1 1 % 2 ≠ k.side) ∧ (k.seqd = true) ∧ (field (body.take 32) 28 4 ≠ dscCrc k.id ((body.take 32).take 28))) ∧
    (∃ (p : Fin 4) (body : List Byte) (s : State), ∃ c k, (s.dscOn = true) ∧ (body.length = 42) ∧ (s.dscNamed (body.take 32) = some c) ∧ (s.connOf c = some k) ∧ ((s.dscOf c).admits (body.take 32) = true) ∧ (field (body.take 32) 1 1 % 2 ≠ k.side) ∧ (field (body.take 32) 28 4 = dscCrc k.id ((body.take 32).take 28)) ∧ (k.tpc = false)) ∧
    (∃ (c : Fin 32) (k : ConnCfg) (s : State), (s.connOf c = some k) ∧ (s.dscOn = true) ∧ ((s.dscOf c).run = true) ∧ ((s.dscOf c).dataAt + k.teT ≤ s.now ∨ (s.dscOf c).echoAt + k.teT < s.now)) ∧
    (∃ (c : Fin 32) (k : ConnCfg) (s : State), (s.connOf c = some k) ∧ (s.dscOn = true) ∧ ((s.dscOf c).run = true) ∧ (s.now < (s.dscOf c).dataAt + k.teT) ∧ (s.now ≤ (s.dscOf c).echoAt + k.teT)) ∧
    (∃ (c : Fin 32) (k : ConnCfg) (h : Nat × Nat × List Byte) (s : State), (s.connOf c = some k) ∧ ((s.dscOf c).hold = some h) ∧ (h.2.1 + k.win * 31250 ≤ s.now)) ∧
    (∃ (c : Fin 32) (k : ConnCfg) (h : Nat × Nat × List Byte) (s : State), (s.connOf c = some k) ∧ ((s.dscOf c).hold = some h) ∧ (s.now < h.2.1 + k.win * 31250)) :=
  ⟨⟨(State.reset.setSafety fun y => { y with cfg := { y.cfg with en := true } }), by decide⟩,
   ⟨(State.reset.setSafety fun y => { y with cfg := { y.cfg with en := false } }), by decide⟩,
   ⟨0, (((State.reset.setTime fun y => { y with tick := 1000000000 }).setSafety fun y => { y with mark := some 0 }).setSafety fun y => { y with cfg := { y.cfg with en := true } }), by decide, by decide, by decide⟩,
   ⟨0, (State.reset.setSafety fun y => { y with mark := some 0 }), by decide, by decide⟩,
   ⟨0, ⟨false, []⟩, _, _, State.reset, _, rfl, rfl, rfl, by decide +kernel⟩,
   ⟨0, sideFrame 3, _, _, late, _, rfl, rfl, rfl, by decide +kernel, by decide +kernel⟩,
   ⟨0, sideFrame 3, _, _, (late.setSafety fun y => { y with cfg := { y.cfg with en := true }, a := { y.a with run := true }, b := { y.b with run := true } }), _, rfl, rfl, rfl, by decide +kernel, by decide +kernel, by decide +kernel⟩,
   ⟨20000, State.reset.setSafety fun y => { y with mark := some 0 }, 0, by decide +kernel, by decide +kernel⟩,
   ⟨20000, late.setSafety fun y => { y with mark := some 0 }, 0, by decide +kernel, by decide +kernel, by decide +kernel⟩,
   ⟨20000, (late.setSafety fun y => { y with cfg := { y.cfg with en := true }, a := { y.a with run := true }, b := { y.b with run := true }, mark := some 0 }), 0, _, by decide +kernel, by decide +kernel, by decide +kernel, by decide +kernel, by decide +kernel, rfl⟩,
   ⟨((((State.reset.setSafety fun y => { y with cfg := { y.cfg with en := true } }).setSafety fun y => { y with a := { y.a with run := true } }).setSafety fun y => { y with b := { y.b with run := true } }).setSafety fun y => { y with b := { y.b with waits := true } }), by decide, by decide, by decide, by decide⟩,
   ⟨(State.reset.setSafety fun y => { y with b := { y.b with run := false } }), by decide⟩,
   ⟨(((((State.reset.setSafety fun y => { y with cfg := { y.cfg with en := true } }).setSafety fun y => { y with a := { y.a with run := true } }).setSafety fun y => { y with b := { y.b with run := true } }).setSafety fun y => { y with a := { y.a with waits := true } }).setSafety fun y => { y with b := { y.b with waits := false } }), by decide, by decide, by decide, by decide, by decide⟩,
   ⟨(State.reset.setSafety fun y => { y with b := { y.b with waits := true } }), by decide⟩,
   ⟨false, 0, (((((State.reset.setTime fun y => { y with tick := 1000000000 }).setSafety fun y => { y with mark := some 0 }).setSafety fun y => { y with cfg := { y.cfg with en := true } }).setChan false fun y => { y with run := true }).setChan false fun y => { y with waits := true }), by decide, by decide, by decide, by decide, by decide⟩,
   ⟨false, 0, ((((State.reset.setSafety fun y => { y with mark := some 0 }).setSafety fun y => { y with cfg := { y.cfg with en := true } }).setChan false fun y => { y with run := true }).setChan false fun y => { y with waits := true }), by decide, by decide, by decide, by decide, by decide⟩,
   ⟨false, 0, {}, 0, (late.setSafety fun y => { y with cfg := { y.cfg with en := true, pairs := [{}] }, a := { y.a with run := true }, b := { y.b with run := true } }).setPair false 0 fun y => { y with alone := some 0 }, by decide +kernel, by decide +kernel, by decide +kernel, by decide +kernel, by decide +kernel, by decide +kernel⟩,
   ⟨false, 0, {}, 1000000000, (late.setSafety fun y => { y with cfg := { y.cfg with en := true, pairs := [{}] }, a := { y.a with run := true }, b := { y.b with run := true } }).setPair false 0 fun y => { y with alone := some 1000000000 }, by decide +kernel, by decide +kernel, by decide +kernel, by decide +kernel, by decide +kernel⟩,
   ⟨0, (State.reset.setSafety fun y => { y with cfg := { y.cfg with en := false } }), by decide⟩,
   ⟨0, (State.reset.setSafety fun y => { y with cfg := { y.cfg with en := true } }), by decide⟩,
   ⟨0, { kind := 7 }, 0, _, (late.setSafety fun y => { y with cfg := { y.cfg with en := true, funcs := [{ kind := 7 }] }, a := { y.a with run := true }, b := { y.b with run := true } }), by decide +kernel, by decide +kernel, by decide +kernel, by decide +kernel, rfl⟩,
   ⟨0, false, 0#32, State.reset, _, _, rfl, rfl⟩,
   ⟨0, {}, ((late.setSafety fun y => { y with cfg := { y.cfg with en := true, conns := [{}] }, a := { y.a with run := true }, b := { y.b with run := true } }).setDsc 0 fun y => { y with run := true }), by decide +kernel, by decide +kernel, by decide +kernel, fun t h => absurd (h.symm.trans (by decide +kernel : _ = none)) (by simp)⟩,
   ⟨0, {}, State.reset.setSafety fun y => { y with cfg := { y.cfg with conns := [{}] } }, by decide +kernel, by decide +kernel⟩,
   ⟨0, {}, ((late.setSafety fun y => { y with cfg := { y.cfg with en := true, conns := [{}] }, a := { y.a with run := true }, b := { y.b with run := true } }).setDsc 0 fun y => { y with run := false }), by decide +kernel, by decide +kernel, by decide +kernel, fun t h => absurd (h.symm.trans (by decide +kernel : _ = none)) (by simp)⟩,
   ⟨0, {}, State.reset.setSafety fun y => { y with cfg := { y.cfg with conns := [{}] } }, by decide +kernel, by decide +kernel⟩,
   ⟨0, [], State.reset, by decide⟩,
   ⟨0, [], (late.setSafety fun y => { y with cfg := { y.cfg with en := true }, a := { y.a with run := true }, b := { y.b with run := true } }), by decide +kernel, by decide +kernel⟩,
   ⟨0, dscFrame 1, ((late.setSafety fun y => { y with cfg := { y.cfg with en := true, conns := [{}] }, a := { y.a with run := true }, b := { y.b with run := true } }).setDsc 0 fun y => { y with run := true }), 0, {}, by decide +kernel, by decide +kernel, by decide +kernel, by decide +kernel, by decide +kernel, by decide +kernel, by decide +kernel, by decide +kernel⟩,
   ⟨0, dscFrame 0, ((late.setSafety fun y => { y with cfg := { y.cfg with en := true, conns := [{}] }, a := { y.a with run := true }, b := { y.b with run := true } }).setDsc 0 fun y => { y with run := true }), 0, {}, by decide +kernel, by decide +kernel, by decide +kernel, by decide +kernel, by decide +kernel, by decide +kernel, by decide +kernel, by decide +kernel⟩,
   ⟨0, {}, ((late.setSafety fun y => { y with cfg := { y.cfg with en := true, conns := [{}] }, a := { y.a with run := true }, b := { y.b with run := true } }).setDsc 0 fun y => { y with run := true }), by decide +kernel, by decide +kernel, by decide +kernel, by decide +kernel⟩,
   ⟨0, {}, (late.setSafety fun y => { y with cfg := { y.cfg with en := true, conns := [{}] }, a := { y.a with run := true }, b := { y.b with run := true } }).setDsc 0 fun y => { y with run := true, dataAt := 1000000000, echoAt := 1000000000 }, by decide +kernel, by decide +kernel, by decide +kernel, by decide +kernel, by decide +kernel⟩,
   ⟨0, {}, (0, 0, []), ((((late.setSafety fun y => { y with cfg := { y.cfg with en := true, conns := [{}] }, a := { y.a with run := true }, b := { y.b with run := true } }).setDsc 0 fun y => { y with run := true })).setDsc 0 fun y => { y with hold := some (0, 0, []) }), by decide +kernel, by decide +kernel, by decide +kernel⟩,
   ⟨0, {}, (0, 1000000000, []), ((((late.setSafety fun y => { y with cfg := { y.cfg with en := true, conns := [{}] }, a := { y.a with run := true }, b := { y.b with run := true } }).setDsc 0 fun y => { y with run := true })).setDsc 0 fun y => { y with hold := some (0, 1000000000, []) }), by decide +kernel, by decide +kernel, by decide +kernel⟩⟩

/-- States and operands that meet the hypotheses of `Obligations.ZoneLatch`, clause by clause. -/
theorem witness_ZoneLatch :
    (∃ (f : Bool) (z : Fin 8) (was : Nat) (s t : State), (t = s.stepZone f z was) ∧ ((s.zone f z).st = 3) ∧ (s.acknowledged f z = false ∨ (s.chan f).agree < 8 ∨ s.demand f z true ≠ none ∨ s.demand f z false ≠ none)) ∧
    (∃ (f : Bool) (z : Fin 8) (was : Nat) (s t : State), (t = s.stepZone f z was) ∧ (s.linkLost f z = true) ∧ ((s.noteReset f z).linkLost f z = true)) ∧
    (∃ (f : Bool) (z : Fin 8) (was : Nat) (s t : State), (t = s.stepZone f z was) ∧ (2 ≤ (s.zone f z).st) ∧ (s.demand f z true ≠ none ∨ s.demand f z false ≠ none)) :=
  ⟨⟨false, 0, 0, (State.reset.setZone false 0 fun y => { y with st := 3 }), _, rfl, by decide, by decide⟩,
   ⟨false, 0, 0, State.reset.setSafety fun y => { y with cfg := { y.cfg with en := true, zones := y.cfg.zones.set 0 { slates := 1 } } }, _, rfl, by decide +kernel, by decide +kernel⟩,
   ⟨false, 0, 0, State.reset.setSafety fun y => { y with cfg := { y.cfg with en := true, funcs := [{ kind := 1, srcs := [0x1000] }], zones := y.cfg.zones.set 0 { slates := 1 } }, a := { y.a with pairs := y.a.pairs.set 0 { dA := true } } }, _, rfl, by decide +kernel, by decide +kernel⟩⟩

/-- States and operands that meet the hypotheses of `Obligations.PairFaultClears`, clause by clause. -/
theorem witness_PairFaultClears :
    (∃ (x : PairCopy) (l : List (Bool × Bool × Nat)), (x.fault = true) ∧ (x.both = false) ∧ ((l.foldl (fun y e => y.take e.1 e.2.1 e.2.2) x).fault = false)) :=
  ⟨{ fault := true }, [(true, true, 0), (false, false, 0)], by decide +kernel, by decide +kernel, by decide +kernel⟩

/-- States and operands that meet the hypotheses of `Obligations.FaultCollector`, clause by clause. -/
theorem witness_FaultCollector :
    (∃ (i : Fin 40) (s : State), (s.lineClass i ≤ s.recClass i)) ∧
    (∃ (i : Fin 40) (s : State), ∃ (pg : PageKind × Nat) (act d : Nat) (u : State), (s.recClass i < s.lineClass i) ∧ (pg = s.risePage i (s.lineClass i)) ∧ (d = s.pageOwner pg.1 pg.2) ∧ (act = s.reaction i (s.lineClass i)) ∧ (u = (((s.setf P.fault ⟨R.FAULT_CLASS (i / 16), 2 * (i % 16), 2⟩ (s.lineClass i)).setbit P.fault (R.FAULT_SOURCE_LO + 4 * (i / 32)) (i % 32) true).putLog #v[BitVec.ofNat 32 (i * 2 ^ 24 + s.lineClass i * 2 ^ 22 + act * 2 ^ 19 + d * 2 ^ 16), BitVec.ofNat 32 (pageBase pg.1 pg.2), BitVec.ofNat 32 (s.errSeen pg.1 pg.2), BitVec.ofNat 32 s.now]))) ∧
    (∃ (s u : State), (u = (s.setFault fun f => { f with log := f.log.drop 1 })) ∧ (u.fault.log = [])) ∧
    (∃ (s u : State), (u = (s.setFault fun f => { f with log := f.log.drop 1 })) ∧ (u.fault.log ≠ []) ∧ (u.flag P.fault F.FAULT_IRQ_EN = false)) ∧
    (∃ (s u : State), (u = (s.setFault fun f => { f with log := f.log.drop 1 })) ∧ (u.fault.log ≠ []) ∧ (u.flag P.fault F.FAULT_IRQ_EN = true)) ∧
    (∃ (v : Word) (subj n : Nat) (s u : State), (u = s.closePartners) ∧ (subj = u.rd (P.fault + R.FAULT_PR_SUBJ_LO) + u.rd (P.fault + R.FAULT_PR_SUBJ_HI) * 2 ^ 32) ∧ (n = (if u.fault.ms.1 = u.now / 312500 then u.fault.ms.2 else 0)) ∧ (bits v.toNat 24 8 = 0 ∨ bits v.toNat 22 2 = 0)) ∧
    (∃ (v : Word) (subj n : Nat) (s u : State), (u = s.closePartners) ∧ (subj = u.rd (P.fault + R.FAULT_PR_SUBJ_LO) + u.rd (P.fault + R.FAULT_PR_SUBJ_HI) * 2 ^ 32) ∧ (n = (if u.fault.ms.1 = u.now / 312500 then u.fault.ms.2 else 0)) ∧ (bits v.toNat 24 8 ≠ 0) ∧ (bits v.toNat 22 2 ≠ 0) ∧ (u.fault.opn.any (fun r => r.subj == subj && r.kind == bits v.toNat 24 8) = true)) ∧
    (∃ (v : Word) (subj n : Nat) (s u : State), (u = s.closePartners) ∧ (subj = u.rd (P.fault + R.FAULT_PR_SUBJ_LO) + u.rd (P.fault + R.FAULT_PR_SUBJ_HI) * 2 ^ 32) ∧ (n = (if u.fault.ms.1 = u.now / 312500 then u.fault.ms.2 else 0)) ∧ (bits v.toNat 24 8 ≠ 0) ∧ (bits v.toNat 22 2 ≠ 0) ∧ (u.fault.opn.any (fun r => r.subj == subj && r.kind == bits v.toNat 24 8) = false) ∧ (64 ≤ n ∨ 128 ≤ u.fault.opn.length)) ∧
    (∃ (v : Word) (subj n : Nat) (s u : State), (u = s.closePartners) ∧ (subj = u.rd (P.fault + R.FAULT_PR_SUBJ_LO) + u.rd (P.fault + R.FAULT_PR_SUBJ_HI) * 2 ^ 32) ∧ (n = (if u.fault.ms.1 = u.now / 312500 then u.fault.ms.2 else 0)) ∧ (bits v.toNat 24 8 ≠ 0) ∧ (bits v.toNat 22 2 ≠ 0) ∧ (u.fault.opn.any (fun r => r.subj == subj && r.kind == bits v.toNat 24 8) = false) ∧ (n < 64) ∧ (u.fault.opn.length < 128)) :=
  ⟨⟨0, State.reset, by decide +kernel⟩,
   ⟨29, (((State.reset.setb P.time F.TIME_LOCK_STAT_NET_LOCK true).wr (P.time + R.PAGE_ERR) 0xFFFF).wr (P.time + R.PAGE_ERR_MASK) 0), _, _, _, _, by decide +kernel, rfl, rfl, rfl, rfl⟩,
   ⟨(State.reset.setFault fun y => { y with log := [] }), _, rfl, by decide⟩,
   ⟨State.reset.setFault fun y => { y with log := [Vector.replicate 4 0, Vector.replicate 4 0] }, _, rfl, by decide +kernel, by decide +kernel⟩,
   ⟨(State.reset.setFault fun y => { y with log := [Vector.replicate 4 0, Vector.replicate 4 0] }).setb P.fault F.FAULT_IRQ_EN true, _, rfl, by decide +kernel, by decide +kernel⟩,
   ⟨0#32, _, _, State.reset, _, rfl, rfl, rfl, by decide⟩,
   ⟨0x1400000, _, _, State.reset.setFault fun y => { y with opn := [{ kind := 1 }] }, _, rfl, rfl, rfl, by decide +kernel, by decide +kernel, by decide +kernel⟩,
   ⟨0x1400000, _, _, State.reset.setFault fun y => { y with ms := (0, 64) }, _, rfl, rfl, rfl, by decide +kernel, by decide +kernel, by decide +kernel, by decide +kernel⟩,
   ⟨0x1400000, _, _, State.reset.setFault fun y => { y with opn := [] }, _, rfl, rfl, rfl, by decide +kernel, by decide +kernel, by decide +kernel, by decide +kernel, by decide +kernel⟩⟩

/-- States and operands that meet the hypotheses of `Obligations.TraceRecorders`, clause by clause. -/
theorem witness_TraceRecorders :
    (∃ (r : Fin 8) (j : Fin 16) (n : Fin 64) (w : Nat) (s : State), (w = (s.recorder r).set.src[j]) ∧ (srcEn w = false ∨ (s.trcSt r ≠ 1 ∧ s.trcSt r ≠ 2))) ∧
    (∃ (r : Fin 8) (j : Fin 16) (n : Fin 64) (w : Nat) (s : State), ∃ (u : State), (w = (s.recorder r).set.src[j]) ∧ (srcEn w = true) ∧ (s.trcSt r = 1 ∨ s.trcSt r = 2) ∧ (s.srcValue (s.trcOwner r) w n = (none, u))) ∧
    (∃ (r : Fin 8) (j : Fin 16) (n : Fin 64) (w : Nat) (s : State), ∃ (tick tag val slot : Nat) (u : State), (w = (s.recorder r).set.src[j]) ∧ (srcEn w = true) ∧ (s.trcSt r = 1 ∨ s.trcSt r = 2) ∧ (s.srcValue (s.trcOwner r) w n = (some (tick, tag, val), u)) ∧ (slot = (s.recorder r).nextSlot r u.now) ∧ ((s.recorder r).cnt[j] + 1 < srcDiv w)) ∧
    (∃ (r : Fin 8) (j : Fin 16) (n : Fin 64) (w : Nat) (s : State), ∃ (tick tag val slot : Nat) (u : State), ∃ y, (w = (s.recorder r).set.src[j]) ∧ (srcEn w = true) ∧ (s.trcSt r = 1 ∨ s.trcSt r = 2) ∧ (s.srcValue (s.trcOwner r) w n = (some (tick, tag, val), u)) ∧ (slot = (s.recorder r).nextSlot r u.now) ∧ (srcDiv w ≤ (s.recorder r).cnt[j] + 1) ∧ (y = (u.setRec r fun x => { x with cnt := x.cnt.set j 0 })) ∧ (2 * y.now + 576 < slot)) ∧
    (∃ (r : Fin 8) (j : Fin 16) (n : Fin 64) (w : Nat) (s : State), ∃ (tick tag val slot : Nat) (u : State), ∃ y, (w = (s.recorder r).set.src[j]) ∧ (srcEn w = true) ∧ (s.trcSt r = 1 ∨ s.trcSt r = 2) ∧ (s.srcValue (s.trcOwner r) w n = (some (tick, tag, val), u)) ∧ (slot = (s.recorder r).nextSlot r u.now) ∧ (srcDiv w ≤ (s.recorder r).cnt[j] + 1) ∧ (y = (u.setRec r fun x => { x with cnt := x.cnt.set j 0 })) ∧ (slot ≤ 2 * y.now + 576) ∧ (y.rd (P.trc r + R.TRC_TRIG) / 2 ^ 24 ≠ 8)) ∧
    (∃ (r : Fin 8) (s : State), (s.trcSt r = 1 ∨ s.trcSt r = 2)) ∧
    (∃ (r : Fin 8) (s : State), (s.trcSt r ≠ 1) ∧ (s.trcSt r ≠ 2) ∧ (s.armReason r ≠ 0)) ∧
    (∃ (r : Fin 8) (s : State), ∃ u, (s.trcSt r ≠ 1) ∧ (s.trcSt r ≠ 2) ∧ (s.armReason r = 0) ∧ (u = (s.setRec r fun _ => { set := { base := s.fld (P.trc r) F.TRC_BUF_BASE * 4096, n := s.fld (P.trc r) F.TRC_BUF_LEN * 256, pre := s.rd (P.trc r + R.TRC_PRE), post := s.rd (P.trc r + R.TRC_POST), src := Vector.ofFn fun (j : Fin 16) => s.rd (P.trc r + R.TRC_SRC j) }, slot := 0 }).setTrcSt r 1)) ∧
    (∃ (r : Fin 8) (s : State), (s.trcSt r = 1)) ∧
    (∃ (r : Fin 8) (s : State), (s.trcSt r = 2)) ∧
    (∃ (r : Fin 8) (s : State), (s.trcSt r = 0 ∨ s.trcSt r = 3)) ∧
    (∃ (r : Fin 8) (s : State), ((s.recorder r).due = none)) ∧
    (∃ (r : Fin 8) (s : State), ∃ t, ((s.recorder r).due = some t) ∧ (s.trcSt r = 1)) ∧
    (∃ (r : Fin 8) (s : State), ∃ t, ((s.recorder r).due = some t) ∧ (s.trcSt r ≠ 1)) ∧
    (∃ (r : Fin 8) (s u : State), (u = (s.setRec r fun x => { x with timed := true })) ∧ (s.trcSt r ≠ 1 ∨ s.fld (P.trc r) F.TRC_TRIG_CODE ≠ 2 ∨ (s.recorder r).timed = true ∨ s.now < s.rd64 (P.trc r) R.TRC_TAT_LO)) ∧
    (∃ (r : Fin 8) (s u : State), (u = (s.setRec r fun x => { x with timed := true })) ∧ (s.trcSt r = 1) ∧ (s.fld (P.trc r) F.TRC_TRIG_CODE = 2) ∧ ((s.recorder r).timed = false) ∧ (s.rd64 (P.trc r) R.TRC_TAT_LO ≤ s.now) ∧ (u.inhibited F.TIME_INH_CFG_TTRIG = true)) ∧
    (∃ (r : Fin 8) (s u : State), (u = (s.setRec r fun x => { x with timed := true })) ∧ (s.trcSt r = 1) ∧ (s.fld (P.trc r) F.TRC_TRIG_CODE = 2) ∧ ((s.recorder r).timed = false) ∧ (s.rd64 (P.trc r) R.TRC_TAT_LO ≤ s.now) ∧ (u.inhibited F.TIME_INH_CFG_TTRIG = false)) ∧
    (∃ (d : Fin 8) (v : Word) (s : State), (s.locked = true)) ∧
    (∃ (d : Fin 8) (v : Word) (s : State), (s.locked = false) ∧ (128 < v.toNat % 128 + bits v.toNat 16 8)) ∧
    (∃ (d : Fin 8) (v : Word) (s : State), ∃ t, (s.locked = false) ∧ (v.toNat % 128 + bits v.toNat 16 8 ≤ 128) ∧ (∀ e, e < 8 → e ≠ d.val → bits v.toNat 16 8 = 0 ∨ s.fld P.trace (F.TRC_RGN_COUNT e) = 0 ∨ s.fld P.trace (F.TRC_RGN_BASE e) + s.fld P.trace (F.TRC_RGN_COUNT e) ≤ v.toNat % 128 ∨ v.toNat % 128 + bits v.toNat 16 8 ≤ s.fld P.trace (F.TRC_RGN_BASE e)) ∧ (t = (s.wr (P.trace + R.TRC_RGN d) (v.toNat &&& 0xFF007F)).stopRecorders d)) :=
  ⟨⟨0, 0, 0, _, State.reset, rfl, by decide⟩,
   ⟨0, 0, 0, _, ((late.setRec 0 fun y => { y with set := { y.set with src := y.set.src.set 0 0x80000000 } }).setTrcSt 0 1), _, rfl, by decide +kernel, by decide +kernel, rfl⟩,
   ⟨0, 0, 0, _, ((late.setRec 0 fun y => { y with set := { y.set with src := y.set.src.set 0 0x81000001 } }).setTrcSt 0 1), 0, 0, 0, _, _, rfl, by decide +kernel, by decide +kernel, rfl, rfl, by decide +kernel⟩,
   ⟨0, 0, 0, _, ((late.setRec 0 fun y => { y with set := { y.set with src := y.set.src.set 0 0x81000000 }, slot := 4000000000 }).setTrcSt 0 1), 0, 0, 0, _, _, _, rfl, by decide +kernel, by decide +kernel, rfl, rfl, by decide +kernel, rfl, by decide +kernel⟩,
   ⟨0, 0, 0, _, ((late.setRec 0 fun y => { y with set := { y.set with src := y.set.src.set 0 0x81000000 } }).setTrcSt 0 1), 0, 0, 0, _, _, _, rfl, by decide +kernel, by decide +kernel, rfl, rfl, by decide +kernel, rfl, by decide +kernel, by decide +kernel⟩,
   ⟨0, (State.reset.setTrcSt 0 2), by decide⟩,
   ⟨0, State.reset, by decide, by decide, by decide⟩,
   ⟨0, ((((State.reset.setf (P.trc 0) F.TRC_BUF_LEN 1).setf P.trace (F.TRC_RGN_COUNT 0) 1).wr (P.trc 0 + R.TRC_SRC 0) 0x81000000).setf P.trace (F.TRC_RGN_BASE 0) 0), _, by decide +kernel, by decide +kernel, by decide +kernel, rfl⟩,
   ⟨0, (State.reset.setTrcSt 0 1), by decide⟩,
   ⟨0, (State.reset.setTrcSt 0 2), by decide⟩,
   ⟨0, (State.reset.setTrcSt 0 3), by decide⟩,
   ⟨0, (State.reset.setRec 0 fun y => { y with due := none }), by decide⟩,
   ⟨0, (late.setRec 0 fun y => { y with due := some 0 }).setTrcSt 0 1, 0, by decide +kernel, by decide +kernel⟩,
   ⟨0, late.setRec 0 fun y => { y with due := some 0 }, 0, by decide +kernel, by decide +kernel⟩,
   ⟨0, (State.reset.setRec 0 fun y => { y with timed := true }), _, rfl, by decide⟩,
   ⟨0, ((((State.reset.setTime fun y => { y with tick := 1000000000 }).setTrcSt 0 1).setf (P.trc 0) F.TRC_TRIG_CODE (2)).setRec 0 fun y => { y with timed := false }), _, rfl, by decide, by decide, by decide, by decide, by decide⟩,
   ⟨0, ((State.reset.setTrcSt 0 1).setf (P.trc 0) F.TRC_TRIG_CODE 2).setb P.time F.TIME_LOCK_STAT_NET_LOCK true, _, rfl, by decide +kernel, by decide +kernel, by decide +kernel, by decide +kernel, by decide +kernel⟩,
   ⟨0, 0#32, (State.reset.setb P.dom F.DOM_LOCK_LOCK true), by decide⟩,
   ⟨0, 0xFF007F, State.reset, by decide +kernel, by decide +kernel⟩,
   ⟨0, 0#32, (State.reset.setb P.dom F.DOM_LOCK_LOCK false), _, by decide, by decide, by decide, rfl⟩⟩

/-- States and operands that meet the hypotheses of `Obligations.SnapshotAndBus`, clause by clause. -/
theorem witness_SnapshotAndBus :
    (∃ (s : State), (s.flag P.snap F.SNAP_STATUS_BUSY = true)) ∧
    (∃ (s : State), ∃ (fit : List (Fin 8)) (u : State), (s.flag P.snap F.SNAP_STATUS_BUSY = false) ∧ (fit = (List.finRange 8).filter (fun (i : Fin 8) => s.fitted i)) ∧ (u = (((s.wrAll s.graniteMirrors).wr (P.snap + R.SNAP_STATUS) (2 ^ 31 + 1 * 2 ^ 24 + (s.fld P.snap F.SNAP_STATUS_SEQ + 1) % 2 ^ 16)).wr64 P.snap R.SNAP_TICK_LO s.now).wr (P.snap + R.SNAP_SLATE) 0)) ∧
    (∃ (s u : State), (u = (s.setCap fun c => { c with snapArmed := false })) ∧ (s.capture.snapArmed = false ∨ s.flag P.snap F.SNAP_CFG_AT_EN = false ∨ s.now < s.rd64 P.snap R.SNAP_AT_LO)) ∧
    (∃ (s u : State), (u = (s.setCap fun c => { c with snapArmed := false })) ∧ (s.capture.snapArmed = true) ∧ (s.flag P.snap F.SNAP_CFG_AT_EN = true) ∧ (s.rd64 P.snap R.SNAP_AT_LO ≤ s.now) ∧ (u.inhibited F.TIME_INH_CFG_TTRIG = true)) ∧
    (∃ (s u : State), (u = (s.setCap fun c => { c with snapArmed := false })) ∧ (s.capture.snapArmed = true) ∧ (s.flag P.snap F.SNAP_CFG_AT_EN = true) ∧ (s.rd64 P.snap R.SNAP_AT_LO ≤ s.now) ∧ (u.inhibited F.TIME_INH_CFG_TTRIG = false)) ∧
    (∃ (i : Fin 8) (s u : State), (u = ((s.setSlate i fun x => { x with snapAns := none }).setCap fun c => { c with snapWait := c.snapWait.erase i.val })) ∧ ((s.slate i).snapAns = none)) ∧
    (∃ (i : Fin 8) (s u : State), (u = ((s.setSlate i fun x => { x with snapAns := none }).setCap fun c => { c with snapWait := c.snapWait.erase i.val })) ∧ ((s.slate i).snapAns = some false)) ∧
    (∃ (i : Fin 8) (s u : State), (u = ((s.setSlate i fun x => { x with snapAns := none }).setCap fun c => { c with snapWait := c.snapWait.erase i.val })) ∧ ((s.slate i).snapAns = some true)) ∧
    (∃ (s : State), (s.flag P.snap F.SNAP_STATUS_BUSY = false ∨ (s.capture.snapWait ≠ [] ∧ s.now < s.rd64 P.snap R.SNAP_TICK_LO + 6250))) ∧
    (∃ (s : State), (s.flag P.snap F.SNAP_STATUS_BUSY = true) ∧ (s.capture.snapWait = [] ∨ s.rd64 P.snap R.SNAP_TICK_LO + 6250 ≤ s.now)) ∧
    (∃ (n : Fin 4) (level : Bool) (tap : Fin 64) (s : State), (s.flag P.trig (F.TRIG_IN_CFG_EN n) = false ∨ bits (s.fld P.trig (F.TRIG_IN_CFG_EDGE n)) (if level then 0 else 1) 1 = 0)) ∧
    (∃ (n : Fin 4) (level : Bool) (tap : Fin 64) (s : State), ∃ l, (s.flag P.trig (F.TRIG_IN_CFG_EN n) = true) ∧ (bits (s.fld P.trig (F.TRIG_IN_CFG_EDGE n)) (if level then 0 else 1) 1 = 1) ∧ (s.capture.ins[n].last = some l) ∧ (64 * s.now + tap < l.tap + 128)) ∧
    (∃ (n : Fin 4) (level : Bool) (tap : Fin 64) (s : State), ∃ u, (s.flag P.trig (F.TRIG_IN_CFG_EN n) = true) ∧ (bits (s.fld P.trig (F.TRIG_IN_CFG_EDGE n)) (if level then 0 else 1) 1 = 1) ∧ (s.capture.ins[n].last = none) ∧ (s.capture.ins[n].q.length < 16) ∧ (u = (s.setCap fun c => { c with ins := c.ins.set n { q := s.capture.ins[n].q ++ [⟨64 * s.now + tap, level, false⟩], last := some ⟨64 * s.now + tap, level, false⟩ } }))) ∧
    (∃ (n : Fin 4) (s u : State), (u = (s.setBus n fun b => { b with armed := false })) ∧ ((s.bus n).armed = false ∨ s.now < s.rd64 P.trig (R.TBUS_AT_LO n))) ∧
    (∃ (n : Fin 4) (s u : State), (u = (s.setBus n fun b => { b with armed := false })) ∧ ((s.bus n).armed = true) ∧ (s.rd64 P.trig (R.TBUS_AT_LO n) ≤ s.now) ∧ (u.inhibited F.TIME_INH_CFG_TTRIG = true)) ∧
    (∃ (n : Fin 4) (s u : State), (u = (s.setBus n fun b => { b with armed := false })) ∧ ((s.bus n).armed = true) ∧ (s.rd64 P.trig (R.TBUS_AT_LO n) ≤ s.now) ∧ (u.inhibited F.TIME_INH_CFG_TTRIG = false)) ∧
    (∃ (n : Fin 4) (own : Bool) (tap : Fin 64) (st : Stamp) (s : State), ((s.bus n).cal = none) ∧ (st = ⟨(((64 * s.now + tap : Nat) : Int) - s.busComp n).toNat, true, own⟩) ∧ (s.flag P.trig (F.TBUS_CFG_RX_EN n) = false)) ∧
    (∃ (n : Fin 4) (own : Bool) (tap : Fin 64) (st : Stamp) (s : State), ∃ u, ((s.bus n).cal = none) ∧ (st = ⟨(((64 * s.now + tap : Nat) : Int) - s.busComp n).toNat, true, own⟩) ∧ (s.flag P.trig (F.TBUS_CFG_RX_EN n) = true) ∧ ((s.bus n).q.length < 16) ∧ (u = (s.setBus n fun b => { b with q := b.q ++ [st] }))) ∧
    (∃ (n : Fin 4) (own : Bool) (tap : Fin 64) (st : Stamp) (s : State), ∃ u, ((s.bus n).cal = none) ∧ (st = ⟨(((64 * s.now + tap : Nat) : Int) - s.busComp n).toNat, true, own⟩) ∧ (s.flag P.trig (F.TBUS_CFG_RX_EN n) = true) ∧ (16 ≤ (s.bus n).q.length) ∧ (u = (s.inc P.trig ⟨R.TBUS_OVF, 6 * n, 6⟩).err P.trig E.trig_BUS_OVF)) ∧
    (∃ (n : Fin 4) (s u : State), (u = (s.setBus n fun b => { b with cal := none })) ∧ ((s.bus n).cal = none)) ∧
    (∃ (n : Fin 4) (s u : State), ∃ c, (u = (s.setBus n fun b => { b with cal := none })) ∧ ((s.bus n).cal = some c) ∧ (s.now < c.start + 16384)) ∧
    (∃ (n : Fin 4) (s u : State), ∃ c, (u = (s.setBus n fun b => { b with cal := none })) ∧ ((s.bus n).cal = some c) ∧ (c.start + 16384 ≤ s.now) ∧ (c.bad = true ∨ c.n ≠ 64)) ∧
    (∃ (n : Fin 4) (s u : State), ∃ c, (u = (s.setBus n fun b => { b with cal := none })) ∧ ((s.bus n).cal = some c) ∧ (c.start + 16384 ≤ s.now) ∧ (c.bad = false) ∧ (c.n = 64)) :=
  ⟨⟨(State.reset.setb P.snap F.SNAP_STATUS_BUSY true), by decide⟩,
   ⟨(State.reset.setb P.snap F.SNAP_STATUS_BUSY false), _, _, by decide, rfl, rfl⟩,
   ⟨State.reset, _, rfl, by decide⟩,
   ⟨(((State.reset.setTime fun y => { y with tick := 1000000000 }).setCap fun y => { y with snapArmed := true }).setb P.snap F.SNAP_CFG_AT_EN true), _, rfl, by decide, by decide, by decide, by decide⟩,
   ⟨((State.reset.setCap fun y => { y with snapArmed := true }).setb P.snap F.SNAP_CFG_AT_EN true).setb P.time F.TIME_LOCK_STAT_NET_LOCK true, _, rfl, by decide +kernel, by decide +kernel, by decide +kernel, by decide +kernel⟩,
   ⟨0, (State.reset.setSlate 0 fun y => { y with snapAns := none }), _, rfl, by decide⟩,
   ⟨0, (State.reset.setSlate 0 fun y => { y with snapAns := some false }), _, rfl, by decide⟩,
   ⟨0, (State.reset.setSlate 0 fun y => { y with snapAns := some true }), _, rfl, by decide⟩,
   ⟨(State.reset.setCap fun y => { y with snapWait := [default] }), by decide⟩,
   ⟨((State.reset.setTime fun y => { y with tick := 1000000000 }).setb P.snap F.SNAP_STATUS_BUSY true), by decide, by decide⟩,
   ⟨0, false, 0, State.reset, by decide⟩,
   ⟨0, true, 0, ((State.reset.setb P.trig (F.TRIG_IN_CFG_EN 0) true).setf P.trig (F.TRIG_IN_CFG_EDGE 0) 3).setCap fun y => { y with ins := y.ins.set 0 { last := some {} } }, {}, by decide +kernel, by decide +kernel, by decide +kernel, by decide +kernel⟩,
   ⟨0, true, 0, ((State.reset.setb P.trig (F.TRIG_IN_CFG_EN 0) true).setf P.trig (F.TRIG_IN_CFG_EDGE 0) 3), _, by decide +kernel, by decide +kernel, by decide +kernel, by decide +kernel, rfl⟩,
   ⟨0, State.reset, _, rfl, by decide⟩,
   ⟨0, ((State.reset.setTime fun y => { y with tick := 1000000000 }).setBus 0 fun y => { y with armed := true }), _, rfl, by decide, by decide, by decide⟩,
   ⟨0, (State.reset.setBus 0 fun y => { y with armed := true }).setb P.time F.TIME_LOCK_STAT_NET_LOCK true, _, rfl, by decide +kernel, by decide +kernel, by decide +kernel⟩,
   ⟨0, false, 0, _, ((State.reset.setBus 0 fun y => { y with cal := none }).setb P.trig (F.TBUS_CFG_RX_EN 0) false), by decide, rfl, by decide⟩,
   ⟨0, false, 0, _, ((State.reset.setBus 0 fun y => { y with cal := none }).setb P.trig (F.TBUS_CFG_RX_EN 0) true), _, by decide, rfl, by decide, by decide, rfl⟩,
   ⟨0, false, 0, _, (State.reset.setb P.trig (F.TBUS_CFG_RX_EN 0) true).setBus 0 fun y => { y with q := List.replicate 16 {} }, _, by decide +kernel, rfl, by decide +kernel, by decide +kernel, rfl⟩,
   ⟨0, (State.reset.setBus 0 fun y => { y with cal := none }), _, rfl, by decide⟩,
   ⟨0, late.setBus 0 fun y => { y with cal := some { start := 1000000000 } }, _, { start := 1000000000 }, rfl, by decide +kernel, by decide +kernel⟩,
   ⟨0, late.setBus 0 fun y => { y with cal := some {} }, _, {}, rfl, by decide +kernel, by decide +kernel, by decide +kernel⟩,
   ⟨0, late.setBus 0 fun y => { y with cal := some { n := 64 } }, _, { n := 64 }, rfl, by decide +kernel, by decide +kernel, by decide +kernel, by decide +kernel⟩⟩

/-- States and operands that meet the hypotheses of `Obligations.TriggersTaken`, clause by clause. -/
theorem witness_TriggersTaken :
    (∃ (r : Fin 8) (tick : Nat) (s t : State), (t = s.takeTrigger r tick) ∧ (s.trcSt r ≠ 1)) ∧
    (∃ (r : Fin 8) (tick : Nat) (s t : State), (t = s.takeTrigger r tick) ∧ (s.trcSt r = 1)) :=
  ⟨⟨0, 0, State.reset, _, rfl, by decide⟩,
   ⟨0, 0, (State.reset.setTrcSt 0 1), _, rfl, by decide⟩⟩

/-- States and operands that meet the hypotheses of `Obligations.AmberCommands`, clause by clause. -/
theorem witness_AmberCommands :
    (∃ (v : Nat) (s u : State), (v = amberWord 1 false false 0) ∧ (u = s.wr (P.amber + R.AMBER_CMD) (v &&& 0x8F000330)) ∧ (s.boot.job ≠ none)) ∧
    (∃ (v : Nat) (s u : State), ∃ c, (v = amberWord 1 false false 0) ∧ (u = s.wr (P.amber + R.AMBER_CMD) (v &&& 0x8F000330)) ∧ (s.boot.job = none) ∧ (u.amberRefusal v = c) ∧ (c ≠ 0) ∧ (c = 7 → u.flag P.amber F.AMBER_SRC_HI_HOST = false)) ∧
    (∃ (v : Nat) (s u : State), (v = amberWord 1 false false 0) ∧ (u = s.wr (P.amber + R.AMBER_CMD) (v &&& 0x8F000330)) ∧ (s.boot.job = none) ∧ (u.amberRefusal v = 0)) ∧
    (∃ (v : Nat) (s u : State), (v = amberWord 1 false false 0) ∧ (u = s.wr (P.amber + R.AMBER_CMD) (v &&& 0x8F000330)) ∧ (s.boot.job = none) ∧ (u.amberRefusal v = 7) ∧ (u.flag P.amber F.AMBER_SRC_HI_HOST = true)) ∧
    (∃ (v : Nat) (s u : State), (v = amberWord 2 false false 0) ∧ (u = s.wr (P.amber + R.AMBER_CMD) (v &&& 0x8F000330)) ∧ (s.boot.job ≠ none)) ∧
    (∃ (v : Nat) (s u : State), ∃ c, (v = amberWord 2 false false 0) ∧ (u = s.wr (P.amber + R.AMBER_CMD) (v &&& 0x8F000330)) ∧ (s.boot.job = none) ∧ (u.amberRefusal v = c) ∧ (c ≠ 0) ∧ (c = 7 → u.flag P.amber F.AMBER_SRC_HI_HOST = false)) ∧
    (∃ (v : Nat) (s u : State), (v = amberWord 2 false false 0) ∧ (u = s.wr (P.amber + R.AMBER_CMD) (v &&& 0x8F000330)) ∧ (s.boot.job = none) ∧ (u.amberRefusal v = 0)) ∧
    (∃ (v : Nat) (s u : State), (v = amberWord 2 false false 0) ∧ (u = s.wr (P.amber + R.AMBER_CMD) (v &&& 0x8F000330)) ∧ (s.boot.job = none) ∧ (u.amberRefusal v = 7) ∧ (u.flag P.amber F.AMBER_SRC_HI_HOST = true)) ∧
    (∃ (slot : Bool) (v : Nat) (s u : State), (v = amberWord 3 slot false 0) ∧ (u = s.wr (P.amber + R.AMBER_CMD) (v &&& 0x8F000330)) ∧ (s.boot.job ≠ none)) ∧
    (∃ (slot : Bool) (v : Nat) (s u : State), (v = amberWord 3 slot false 0) ∧ (u = s.wr (P.amber + R.AMBER_CMD) (v &&& 0x8F000330)) ∧ (s.boot.job = none)) ∧
    (∃ (slot trial : Bool) (v : Nat) (s u : State), (v = amberWord 4 slot trial 0) ∧ (u = s.wr (P.amber + R.AMBER_CMD) (v &&& 0x8F000330)) ∧ (s.boot.job ≠ none)) ∧
    (∃ (slot trial : Bool) (v : Nat) (s u : State), ∃ c, (v = amberWord 4 slot trial 0) ∧ (u = s.wr (P.amber + R.AMBER_CMD) (v &&& 0x8F000330)) ∧ (s.boot.job = none) ∧ (u.amberRefusal v = c) ∧ (c ≠ 0)) ∧
    (∃ (slot trial : Bool) (v : Nat) (s u : State), (v = amberWord 4 slot trial 0) ∧ (u = s.wr (P.amber + R.AMBER_CMD) (v &&& 0x8F000330)) ∧ (s.boot.job = none) ∧ (u.amberRefusal v = 0)) ∧
    (∃ (v : Nat) (s u : State), (v = amberWord 5 false false 0) ∧ (u = s.wr (P.amber + R.AMBER_CMD) (v &&& 0x8F000330)) ∧ (s.boot.job ≠ none)) ∧
    (∃ (v : Nat) (s u : State), ∃ c, (v = amberWord 5 false false 0) ∧ (u = s.wr (P.amber + R.AMBER_CMD) (v &&& 0x8F000330)) ∧ (s.boot.job = none) ∧ (u.amberRefusal v = c) ∧ (c ≠ 0)) ∧
    (∃ (v : Nat) (s u : State), (v = amberWord 5 false false 0) ∧ (u = s.wr (P.amber + R.AMBER_CMD) (v &&& 0x8F000330)) ∧ (s.boot.job = none) ∧ (u.amberRefusal v = 0)) ∧
    (∃ (v : Nat) (s u : State), (v = amberWord 6 false false 0) ∧ (u = s.wr (P.amber + R.AMBER_CMD) (v &&& 0x8F000330)) ∧ (s.boot.job ≠ none)) ∧
    (∃ (v : Nat) (s u : State), ∃ c, (v = amberWord 6 false false 0) ∧ (u = s.wr (P.amber + R.AMBER_CMD) (v &&& 0x8F000330)) ∧ (s.boot.job = none) ∧ (u.amberRefusal v = c) ∧ (c ≠ 0)) ∧
    (∃ (v : Nat) (s u : State), (v = amberWord 6 false false 0) ∧ (u = s.wr (P.amber + R.AMBER_CMD) (v &&& 0x8F000330)) ∧ (s.boot.job = none) ∧ (u.amberRefusal v = 0)) ∧
    (∃ (key : Fin 4) (v : Nat) (s u : State), (v = amberWord 7 false false key.val) ∧ (u = s.wr (P.amber + R.AMBER_CMD) (v &&& 0x8F000330)) ∧ (s.boot.job ≠ none)) ∧
    (∃ (key : Fin 4) (v : Nat) (s u : State), ∃ c, (v = amberWord 7 false false key.val) ∧ (u = s.wr (P.amber + R.AMBER_CMD) (v &&& 0x8F000330)) ∧ (s.boot.job = none) ∧ (u.amberRefusal v = c) ∧ (c ≠ 0)) ∧
    (∃ (key : Fin 4) (v : Nat) (s u : State), (v = amberWord 7 false false key.val) ∧ (u = s.wr (P.amber + R.AMBER_CMD) (v &&& 0x8F000330)) ∧ (s.boot.job = none) ∧ (u.amberRefusal v = 0)) ∧
    (∃ (key : Fin 4) (v : Nat) (s u : State), (v = amberWord 8 false false key.val) ∧ (u = s.wr (P.amber + R.AMBER_CMD) (v &&& 0x8F000330)) ∧ (s.boot.job ≠ none)) ∧
    (∃ (key : Fin 4) (v : Nat) (s u : State), ∃ c, (v = amberWord 8 false false key.val) ∧ (u = s.wr (P.amber + R.AMBER_CMD) (v &&& 0x8F000330)) ∧ (s.boot.job = none) ∧ (u.amberRefusal v = c) ∧ (c ≠ 0)) ∧
    (∃ (key : Fin 4) (v : Nat) (s u : State), (v = amberWord 8 false false key.val) ∧ (u = s.wr (P.amber + R.AMBER_CMD) (v &&& 0x8F000330)) ∧ (s.boot.job = none) ∧ (u.amberRefusal v = 0)) ∧
    (∃ (slot : Bool) (v : Nat) (s u : State), (v = amberWord 9 slot false 0) ∧ (u = s.wr (P.amber + R.AMBER_CMD) (v &&& 0x8F000330)) ∧ (s.boot.job ≠ none)) ∧
    (∃ (slot : Bool) (v : Nat) (s u : State), ∃ c, (v = amberWord 9 slot false 0) ∧ (u = s.wr (P.amber + R.AMBER_CMD) (v &&& 0x8F000330)) ∧ (s.boot.job = none) ∧ (u.amberRefusal v = c) ∧ (c ≠ 0)) ∧
    (∃ (slot : Bool) (v : Nat) (s u : State), (v = amberWord 9 slot false 0) ∧ (u = s.wr (P.amber + R.AMBER_CMD) (v &&& 0x8F000330)) ∧ (s.boot.job = none) ∧ (u.amberRefusal v = 0)) ∧
    (∃ (x : ImageCheck) (src : HostData) (s : State), (s.boot.job = none)) ∧
    (∃ (x : ImageCheck) (src : HostData) (s : State), ∃ v, (s.boot.job = some v) ∧ (bits v 24 4 = 1) ∧ (s.flag P.amber F.AMBER_SRC_HI_HOST = false) ∧ (s.softIn s.copySrc s.copyLen = [])) ∧
    (∃ (x : ImageCheck) (src : HostData) (s : State), ∃ v, (s.boot.job = some v) ∧ (bits v 24 4 = 2)) ∧
    (∃ (x : ImageCheck) (src : HostData) (s : State), ∃ v, ∃ code, (s.boot.job = some v) ∧ (bits v 24 4 = 3) ∧ (s.verifyCode (bits v 8 1 == 1) x = code) ∧ (code ≠ 0)) ∧
    (∃ (x : ImageCheck) (src : HostData) (s : State), ∃ v, (s.boot.job = some v) ∧ (bits v 24 4 = 3) ∧ (s.verifyCode (bits v 8 1 == 1) x = 0)) ∧
    (∃ (x : ImageCheck) (src : HostData) (s : State), ∃ v, (s.boot.job = some v) ∧ (bits v 24 4 = 4)) ∧
    (∃ (x : ImageCheck) (src : HostData) (s : State), ∃ v, (s.boot.job = some v) ∧ (bits v 24 4 = 5)) ∧
    (∃ (x : ImageCheck) (src : HostData) (s : State), ∃ v, (s.boot.job = some v) ∧ (bits v 24 4 = 6)) ∧
    (∃ (x : ImageCheck) (src : HostData) (s : State), ∃ v, (s.boot.job = some v) ∧ (bits v 24 4 = 7)) ∧
    (∃ (x : ImageCheck) (src : HostData) (s : State), ∃ v, (s.boot.job = some v) ∧ (bits v 24 4 = 8)) ∧
    (∃ (x : ImageCheck) (src : HostData) (s : State), ∃ v, (s.boot.job = some v) ∧ (bits v 24 4 = 9)) :=
  ⟨⟨_, (State.reset.setBoot fun y => { y with job := (some default) }), _, rfl, rfl, by decide⟩,
   ⟨_, State.reset, _, 7, rfl, rfl, by decide +kernel, by decide +kernel, by decide, by decide +kernel⟩,
   ⟨_, (((State.reset.wr (P.amber + R.AMBER_LEN) 64).wr (P.amber + R.AMBER_DST) 0x1F00000).wr (P.amber + R.AMBER_SRC_LO) 0xC00000), _, rfl, rfl, by decide +kernel, by decide +kernel⟩,
   ⟨_, ((State.reset.setBoot fun y => { y with job := none }).setb P.amber F.AMBER_SRC_HI_HOST true), _, rfl, rfl, by decide, by decide, by decide⟩,
   ⟨_, (State.reset.setBoot fun y => { y with job := (some default) }), _, rfl, rfl, by decide⟩,
   ⟨_, State.reset, _, 7, rfl, rfl, by decide +kernel, by decide +kernel, by decide, by decide +kernel⟩,
   ⟨_, (((State.reset.wr (P.amber + R.AMBER_LEN) 64).wr (P.amber + R.AMBER_DST) 0x1F00000).wr (P.amber + R.AMBER_SRC_LO) 0xC00000), _, rfl, rfl, by decide +kernel, by decide +kernel⟩,
   ⟨_, ((State.reset.setBoot fun y => { y with job := none }).setb P.amber F.AMBER_SRC_HI_HOST true), _, rfl, rfl, by decide, by decide, by decide⟩,
   ⟨false, _, (State.reset.setBoot fun y => { y with job := (some default) }), _, rfl, rfl, by decide⟩,
   ⟨false, _, (State.reset.setBoot fun y => { y with job := none }), _, rfl, rfl, by decide +kernel⟩,
   ⟨false, false, _, (State.reset.setBoot fun y => { y with job := (some default) }), _, rfl, rfl, by decide⟩,
   ⟨true, false, _, State.reset, _, 8, rfl, rfl, by decide +kernel, by decide +kernel, by decide⟩,
   ⟨true, false, _, (State.reset.setBoot fun y => { y with verified := y.verified.set 1 true }), _, rfl, rfl, by decide +kernel, by decide +kernel⟩,
   ⟨_, (State.reset.setBoot fun y => { y with job := (some default) }), _, rfl, rfl, by decide⟩,
   ⟨_, State.reset, _, 8, rfl, rfl, by decide +kernel, by decide +kernel, by decide⟩,
   ⟨_, (State.reset.setb P.amber F.AMBER_STATUS_TRIAL true), _, rfl, rfl, by decide +kernel, by decide +kernel⟩,
   ⟨_, (State.reset.setBoot fun y => { y with job := (some default) }), _, rfl, rfl, by decide⟩,
   ⟨_, State.reset.setb P.amber F.AMBER_STATUS_TRIAL true, _, 8, rfl, rfl, by decide +kernel, by decide +kernel, by decide⟩,
   ⟨_, (State.reset.setBoot fun y => { y with job := none }), _, rfl, rfl, by decide, by decide⟩,
   ⟨0, _, (State.reset.setBoot fun y => { y with job := (some default) }), _, rfl, rfl, by decide⟩,
   ⟨1, _, (State.reset.setb P.dom F.DOM_LOCK_LOCK true), _, 8, rfl, rfl, by decide +kernel, by decide +kernel, by decide⟩,
   ⟨1, _, State.reset, _, rfl, rfl, by decide +kernel, by decide +kernel⟩,
   ⟨0, _, (State.reset.setBoot fun y => { y with job := (some default) }), _, rfl, rfl, by decide⟩,
   ⟨0, _, State.reset, _, 8, rfl, rfl, by decide +kernel, by decide +kernel, by decide⟩,
   ⟨0, _, (State.reset.setAbyte 0x10006 1), _, rfl, rfl, by decide +kernel, by decide +kernel⟩,
   ⟨false, _, (State.reset.setBoot fun y => { y with job := (some default) }), _, rfl, rfl, by decide⟩,
   ⟨true, _, State.reset, _, 8, rfl, rfl, by decide +kernel, by decide +kernel, by decide⟩,
   ⟨true, _, (State.reset.setBoot fun y => { y with wait := true }), _, rfl, rfl, by decide +kernel, by decide +kernel⟩,
   ⟨⟨true, true, 0⟩, none, (State.reset.setBoot fun y => { y with job := none }), by decide⟩,
   ⟨⟨true, true, 0⟩, none, ((State.reset.setBoot fun y => { y with job := some 16777216 }).setb P.amber F.AMBER_SRC_HI_HOST false), 16777216, by decide +kernel, by decide +kernel, by decide +kernel, by decide +kernel⟩,
   ⟨⟨true, true, 0⟩, none, (State.reset.setBoot fun y => { y with job := some 33554432 }), 33554432, by decide, by decide⟩,
   ⟨⟨false, false, 0⟩, none, State.reset.setBoot fun y => { y with job := some 0x3000000 }, 0x3000000, 5, by decide +kernel, by decide +kernel, by decide +kernel, by decide +kernel⟩,
   ⟨⟨true, true, 1⟩, none, ((((((State.reset.setBoot fun y => { y with job := some 0x3000000 }).astore 0x10000 4 0x4D495642).astore 0x10004 2 1).astore 0x10014 4 1).astore 0x10040 1 1).astore 0x1000C 4 0x100), 0x3000000, by decide +kernel, by decide +kernel, by decide +kernel⟩,
   ⟨⟨true, true, 0⟩, none, (State.reset.setBoot fun y => { y with job := some 67108864 }), 67108864, by decide, by decide⟩,
   ⟨⟨true, true, 0⟩, none, (State.reset.setBoot fun y => { y with job := some 83886080 }), 83886080, by decide, by decide⟩,
   ⟨⟨true, true, 0⟩, none, (State.reset.setBoot fun y => { y with job := some 100663296 }), 100663296, by decide, by decide⟩,
   ⟨⟨true, true, 0⟩, none, (State.reset.setBoot fun y => { y with job := some 117440512 }), 117440512, by decide, by decide⟩,
   ⟨⟨true, true, 0⟩, none, (State.reset.setBoot fun y => { y with job := some 134217728 }), 134217728, by decide, by decide⟩,
   ⟨⟨true, true, 0⟩, none, (State.reset.setBoot fun y => { y with job := some 150994944 }), 150994944, by decide, by decide⟩⟩

/-- States and operands that meet the hypotheses of `Obligations.AssignmentsAndAccess`, clause by clause. -/
theorem witness_AssignmentsAndAccess :
    (∃ (addr : BitVec 26) (v : Word) (k : PageKind) (n : Nat) (s : State), (pageAt addr.toNat = some (k, n)) ∧ (s.assign k n (addr.toNat % 0x1000) v.toNat = none)) ∧
    (∃ (addr : BitVec 26) (v : Word) (k : PageKind) (n : Nat) (s : State), ∃ t, (pageAt addr.toNat = some (k, n)) ∧ (s.assign k n (addr.toNat % 0x1000) v.toNat = some t) ∧ (s.locked = true)) ∧
    (∃ (addr : BitVec 26) (v : Word) (k : PageKind) (n : Nat) (s : State), ∃ t, (pageAt addr.toNat = some (k, n)) ∧ (s.assign k n (addr.toNat % 0x1000) v.toNat = some t) ∧ (s.locked = false)) ∧
    (∃ (addr : BitVec 26) (v : Word) (s : State), (pageAt addr.toNat = none)) ∧
    (∃ (q : Fin 514) (addr : BitVec 26) (v : Word) (s : State), (pageAt addr.toNat = none)) ∧
    (∃ (q : Fin 514) (addr : BitVec 26) (v : Word) (s : State), ∃ k n, (pageAt addr.toNat = some (k, n)) ∧ (s.absent addr.toNat = false) ∧ (addr.toNat % 4 = 0) ∧ (s.mayAccess q addr.toNat true = false)) ∧
    (∃ (q : Fin 514) (addr : BitVec 26) (v : Word) (s : State), ∃ k n, (pageAt addr.toNat = some (k, n)) ∧ (s.absent addr.toNat = false) ∧ (addr.toNat % 4 = 0) ∧ (s.mayAccess q addr.toNat true = true) ∧ (lockable k (addr.toNat % 0x1000) = true) ∧ ((s.reqDom q).getD 0 ≠ 0)) ∧
    (∃ (q : Fin 514) (addr : BitVec 26) (v : Word) (s : State), ∃ k n, (pageAt addr.toNat = some (k, n)) ∧ (s.absent addr.toNat = false) ∧ (addr.toNat % 4 = 0) ∧ (s.mayAccess q addr.toNat true = true) ∧ (lockable k (addr.toNat % 0x1000) = true) ∧ ((s.reqDom q).getD 0 = 0) ∧ (s.locked = true)) ∧
    (∃ (q : Fin 514) (addr : BitVec 26) (v : Word) (s : State), ∃ k n, (pageAt addr.toNat = some (k, n)) ∧ (s.absent addr.toNat = false) ∧ (addr.toNat % 4 = 0) ∧ (s.mayAccess q addr.toNat true = true) ∧ (lockable k (addr.toNat % 0x1000) = false ∨ ((s.reqDom q).getD 0 = 0 ∧ s.locked = false)) ∧ (k = .engine → s.engSafety n = false) ∧ (slateOfPage k n = none)) ∧
    (∃ (q : Fin 514) (addr : BitVec 26) (v : Word) (s : State), ∃ k n, (pageAt addr.toNat = some (k, n)) ∧ (s.absent addr.toNat = false) ∧ (addr.toNat % 4 = 0) ∧ (s.mayAccess q addr.toNat true = true) ∧ (lockable k (addr.toNat % 0x1000) = false ∨ ((s.reqDom q).getD 0 = 0 ∧ s.locked = false)) ∧ (k = .engine → s.engSafety n = false) ∧ (slateOfPage k n ≠ none) ∧ (addr.toNat % 0x1000 < 0x800)) ∧
    (∃ (q : Fin 514) (addr : BitVec 26) (v : Word) (s : State), ∃ k n, (pageAt addr.toNat = some (k, n)) ∧ (s.absent addr.toNat = false) ∧ (addr.toNat % 4 = 0) ∧ (s.mayAccess q addr.toNat true = true) ∧ (lockable k (addr.toNat % 0x1000) = false ∨ ((s.reqDom q).getD 0 = 0 ∧ s.locked = false)) ∧ (k = .engine → s.engSafety n = false) ∧ (slateOfPage k n ≠ none) ∧ (0x800 ≤ addr.toNat % 0x1000)) ∧
    (∃ (q : Fin 514) (addr : BitVec 26) (v : Word) (s : State), (slateResident addr.toNat = true)) ∧
    (∃ (q : Fin 514) (addr : BitVec 26) (v : Word) (s : State), (slateResident addr.toNat = false)) ∧
    (∃ (q : Fin 514) (addr : BitVec 26) (k : PageKind) (n : Nat) (s : State), (slateResident addr.toNat = false ∨ addr.toNat % 4 ≠ 0)) ∧
    (∃ (q : Fin 514) (addr : BitVec 26) (k : PageKind) (n : Nat) (s : State), (slateResident addr.toNat = true) ∧ (addr.toNat % 4 = 0) ∧ (s.absent addr.toNat = true)) ∧
    (∃ (q : Fin 514) (addr : BitVec 26) (k : PageKind) (n : Nat) (s : State), (slateResident addr.toNat = true) ∧ (addr.toNat % 4 = 0) ∧ (s.absent addr.toNat = false) ∧ (regionAt addr.toNat = .page k n) ∧ ((slateOfPage k n).isSome = true) ∧ (s.mayAccess q addr.toNat false = false)) ∧
    (∃ (q : Fin 514) (addr : BitVec 26) (k : PageKind) (n : Nat) (s : State), (slateResident addr.toNat = true) ∧ (addr.toNat % 4 = 0) ∧ (s.absent addr.toNat = false) ∧ (regionAt addr.toNat = .page k n) ∧ ((slateOfPage k n).isSome = true) ∧ (s.mayAccess q addr.toNat false = true)) ∧
    (∃ (q : Fin 514) (addr : BitVec 26) (s : State), (pageAt addr.toNat = none)) ∧
    (∃ (q : Fin 514) (addr : BitVec 26) (s : State), ∃ k n d, (pageAt addr.toNat = some (k, n)) ∧ (regAt k (addr.toNat % 0x1000) = some d) ∧ (hasClr k (addr.toNat % 0x1000) d = true)) ∧
    (∃ (q : Fin 514) (addr : BitVec 26) (s : State), ∃ k n d, (pageAt addr.toNat = some (k, n)) ∧ (regAt k (addr.toNat % 0x1000) = some d) ∧ (hasClr k (addr.toNat % 0x1000) d = false)) ∧
    (∃ (e : Fin 512) (s : State), ((s.eng e).stall = none)) ∧
    (∃ (e : Fin 512) (s : State), ∃ r, ((s.eng e).stall = some r) ∧ (r.fabric = false ∨ (s.eng e).fbw ≠ [])) ∧
    (∃ (e : Fin 512) (s : State), ∃ r, ((s.eng e).stall = some r) ∧ (r.fabric = true) ∧ ((s.eng e).fbw = []) ∧ (slateResident r.addr = true) ∧ (s.readOut e = true)) ∧
    (∃ (e : Fin 512) (s : State), ∃ r, ((s.eng e).stall = some r) ∧ (r.fabric = true) ∧ ((s.eng e).fbw = []) ∧ (slateResident r.addr = true) ∧ (s.readOut e = false)) ∧
    (∃ (e : Fin 512) (s : State), ∃ r, ((s.eng e).stall = some r) ∧ (r.fabric = true) ∧ ((s.eng e).fbw = []) ∧ (slateResident r.addr = false)) ∧
    (∃ (e : Fin 512) (s : State), ((s.eng e).rstPend = false) ∧ ((s.eng e).shw = [])) ∧
    (∃ (e : Fin 512) (s : State), ((s.eng e).rstPend = false) ∧ ((s.eng e).fbw = [])) ∧
    (∃ (e : Fin 512) (s : State), ∃ w l u, ((s.eng e).shw = w :: l) ∧ (u = ((s.setEng e fun x => { x with shw := l }).store w.addr w.bytes w.val)) ∧ ((u.eng e).rstPend = false)) ∧
    (∃ (e : Fin 512) (s : State), ∃ w l u, ((s.eng e).shw = w :: l) ∧ (u = ((s.setEng e fun x => { x with shw := l }).store w.addr w.bytes w.val)) ∧ ((u.eng e).rstPend = true) ∧ (l = []) ∧ ((u.eng e).fbw = [])) ∧
    (∃ (e : Fin 512) (s : State), ∃ w l u, ((s.eng e).fbw = w :: l) ∧ (u = ((s.setEng e fun x => { x with fbw := l }).busWrite e w.addr w.bytes w.val).st) ∧ ((u.eng e).rstPend = false)) ∧
    (∃ (e : Fin 512) (s : State), ∃ w l u, ((s.eng e).fbw = w :: l) ∧ (u = ((s.setEng e fun x => { x with fbw := l }).busWrite e w.addr w.bytes w.val).st) ∧ ((u.eng e).rstPend = true) ∧ ((u.eng e).shw = []) ∧ ((u.eng e).fbw = [])) :=
  ⟨⟨0, 0#32, .sys, 0, State.reset, by decide, by decide⟩,
   ⟨0x81101C, 0, .trc, 0, State.reset.setb P.dom F.DOM_LOCK_LOCK true, _, by decide +kernel, rfl, by decide +kernel⟩,
   ⟨0x81101C, 0, .trc, 0, State.reset, _, by decide +kernel, rfl, by decide +kernel⟩,
   ⟨0x000C000, 0, State.reset, by decide +kernel⟩,
   ⟨512, 0xC000, 0, State.reset, by decide +kernel⟩,
   ⟨0, 0x4000, 0, (State.reset.setEng 0 fun y => { y with st := .running }).wr (P.engine 0 + R.PAGE_OWNER) 1, .dom, 0, by decide +kernel, by decide +kernel, by decide +kernel, by decide +kernel⟩,
   ⟨0, 0x81101C, 0, ((State.reset.setEng 0 fun y => { y with st := .running }).wr (P.engine 0 + R.PAGE_OWNER) 1).wr (P.trc 0 + R.PAGE_OWNER) 1, .trc, 0, by decide +kernel, by decide +kernel, by decide +kernel, by decide +kernel, by decide +kernel, by decide +kernel⟩,
   ⟨512, 0x81101C, 0, State.reset.setb P.dom F.DOM_LOCK_LOCK true, .trc, 0, by decide +kernel, by decide +kernel, by decide +kernel, by decide +kernel, by decide +kernel, by decide +kernel, by decide +kernel⟩,
   ⟨512, 0x2008, 0, State.reset, .time, 0, by decide +kernel, by decide +kernel, by decide +kernel, by decide +kernel, by decide +kernel, by decide +kernel, by decide +kernel⟩,
   ⟨512, 0x204010, 0, State.reset, .fio, 0, by decide +kernel, by decide +kernel, by decide +kernel, by decide +kernel, by decide +kernel, by decide +kernel, by decide +kernel, by decide +kernel⟩,
   ⟨512, 0x204800, 0, State.reset, .fio, 0, by decide +kernel, by decide +kernel, by decide +kernel, by decide +kernel, by decide +kernel, by decide +kernel, by decide +kernel, by decide +kernel⟩,
   ⟨512, 0x204010, 0, State.reset, by decide +kernel⟩,
   ⟨0, 0, 0#32, State.reset, by decide⟩,
   ⟨0, 0, .sys, 0, State.reset, by decide⟩,
   ⟨512, 0x182000, .link, 4, { State.reset with dev := { bv3204 := true } }, by decide +kernel, by decide +kernel, by decide +kernel⟩,
   ⟨0, 0x204800, .fio, 0, (State.reset.setEng 0 fun y => { y with st := .running }).wr (P.engine 0 + R.PAGE_OWNER) 1, by decide +kernel, by decide +kernel, by decide +kernel, by decide +kernel, by decide +kernel, by decide +kernel⟩,
   ⟨512, 0x204010, .fio, 0, State.reset, by decide +kernel, by decide +kernel, by decide +kernel, by decide +kernel, by decide +kernel, by decide +kernel⟩,
   ⟨512, 0xC000, State.reset, by decide +kernel⟩,
   ⟨512, 0x280080, State.reset, .net, 0, _, by decide +kernel, rfl, by decide +kernel⟩,
   ⟨512, 0x2C, State.reset, .sys, 0, ((regAt .sys 0x2C).getD ⟨0, 0, 0, 0, 0, 0, 0, 0, 0, true⟩), by decide +kernel, by decide +kernel, by decide +kernel⟩,
   ⟨0, (State.reset.setEng 0 fun y => { y with stall := none }), by decide⟩,
   ⟨0, State.reset.setEng 0 fun y => { y with st := .running, stall := some { fabric := false, addr := 0x204010 } }, { fabric := false, addr := 0x204010 }, by decide +kernel, by decide +kernel⟩,
   ⟨0, (State.reset.setEng 0 fun y => { y with st := .running, stall := some { fabric := true, addr := 0x204010 } }).setLink 0 fun y => { y with reads := [{}] }, { fabric := true, addr := 0x204010 }, by decide +kernel, by decide +kernel, by decide +kernel, by decide +kernel, by decide +kernel⟩,
   ⟨0, State.reset.setEng 0 fun y => { y with st := .running, stall := some { fabric := true, addr := 0x204010 } }, { fabric := true, addr := 0x204010 }, by decide +kernel, by decide +kernel, by decide +kernel, by decide +kernel, by decide +kernel⟩,
   ⟨0, State.reset.setEng 0 fun y => { y with st := .running, stall := some { fabric := true, addr := 0x2008 } }, { fabric := true, addr := 0x2008 }, by decide +kernel, by decide +kernel, by decide +kernel, by decide +kernel⟩,
   ⟨0, ((State.reset.setEng 0 fun y => { y with rstPend := false }).setEng 0 fun y => { y with shw := [] }), by decide, by decide⟩,
   ⟨0, ((State.reset.setEng 0 fun y => { y with rstPend := false }).setEng 0 fun y => { y with fbw := [] }), by decide, by decide⟩,
   ⟨0, State.reset.setEng 0 fun y => { y with st := .running, shw := [{ addr := 0xC00000 }] }, { addr := 0xC00000 }, [], _, by decide +kernel, rfl, by decide +kernel⟩,
   ⟨0, State.reset.setEng 0 fun y => { y with st := .running, shw := [{ addr := 0xC00000 }], rstPend := true }, { addr := 0xC00000 }, [], _, by decide +kernel, rfl, by decide +kernel, by decide +kernel, by decide +kernel⟩,
   ⟨0, State.reset.setEng 0 fun y => { y with st := .running, fbw := [{ addr := 0xC00000 }] }, { addr := 0xC00000 }, [], _, by decide +kernel, rfl, by decide +kernel⟩,
   ⟨0, State.reset.setEng 0 fun y => { y with st := .running, fbw := [{ addr := 0xC00000 }], rstPend := true }, { addr := 0xC00000 }, [], _, by decide +kernel, rfl, by decide +kernel, by decide +kernel, by decide +kernel⟩⟩

/-- States and operands that meet the hypotheses of `Obligations.ResetsAndSave`, clause by clause. -/
theorem witness_ResetsAndSave :
    (∃ (s : State), (s.power.save = none)) ∧
    (∃ (s : State), (s.power.save ≠ none)) ∧
    (∃ (s : State), (s.power.held = false)) ∧
    (∃ (s : State), (s.power.held = true)) ∧
    (∃ (p : Fin 3) (s : State), (s.power.held = true)) ∧
    (∃ (p : Fin 3) (s : State), (s.power.held = false) ∧ (p ≠ 2)) ∧
    (∃ (p : Fin 3) (s : State), (s.power.held = false) ∧ (p = 2) ∧ (s.flag P.clk F.CLK_STATUS_SYS_LOCK = true) ∧ (s.flag P.clk F.CLK_STATUS_LINK_LOCK = true)) ∧
    (∃ (p : Fin 3) (s : State), (s.power.held = false) ∧ (p = 2) ∧ (s.flag P.clk F.CLK_STATUS_SYS_LOCK = false ∨ s.flag P.clk F.CLK_STATUS_LINK_LOCK = false)) ∧
    (∃ (s : State), ∃ u, (u = (s.setb P.clk F.CLK_STATUS_SYS_LOCK false).err P.clk E.clk_SYS_UNLOCK) ∧ (u.power.save = none)) ∧
    (∃ (s : State), ∃ u, (u = (s.setb P.clk F.CLK_STATUS_SYS_LOCK false).err P.clk E.clk_SYS_UNLOCK) ∧ (u.power.save ≠ none)) ∧
    (∃ (s : State), (s.time.holdStart = none)) ∧
    (∃ (s : State), ∃ t, (s.time.holdStart = some t) ∧ (s.flag P.clk F.CLK_STATUS_HOLDOVER = false ∨ s.now < t + 31250)) ∧
    (∃ (s : State), ∃ t, (s.time.holdStart = some t) ∧ (s.flag P.clk F.CLK_STATUS_HOLDOVER = true) ∧ (t + 31250 ≤ s.now)) ∧
    (∃ (s : State), (s.power.held = true)) ∧
    (∃ (s : State), (s.power.held = false)) ∧
    (∃ (s : State), (2 ≤ s.stage ∧ s.fld P.sys F.SYS_WDOG_PERIOD ≠ 0)) ∧
    (∃ (s : State), (s.stage < 2 ∨ s.fld P.sys F.SYS_WDOG_PERIOD = 0)) ∧
    (∃ (s : State), (s.power.wdFrom = none)) ∧
    (∃ (s : State), ∃ t, (s.power.wdFrom = some t) ∧ (s.now < t + 312500 * s.fld P.sys F.SYS_WDOG_PERIOD)) ∧
    (∃ (s : State), ∃ t, (s.power.wdFrom = some t) ∧ (t + 312500 * s.fld P.sys F.SYS_WDOG_PERIOD ≤ s.now) ∧ (s.power.save = none)) ∧
    (∃ (s : State), ∃ t, (s.power.wdFrom = some t) ∧ (t + 312500 * s.fld P.sys F.SYS_WDOG_PERIOD ≤ s.now) ∧ (s.power.save ≠ none)) ∧
    (∃ (s : State), (s.boot.trialEnd = none)) ∧
    (∃ (s : State), ∃ t, (s.boot.trialEnd = some t) ∧ (s.now < t)) ∧
    (∃ (s : State), ∃ t, (s.boot.trialEnd = some t) ∧ (t ≤ s.now) ∧ (s.power.save = none)) ∧
    (∃ (s : State), ∃ t, (s.boot.trialEnd = some t) ∧ (t ≤ s.now) ∧ (s.power.save ≠ none)) ∧
    (∃ (key : BitVec 16) (s : State), (key.toNat ≠ 0xA5A5)) ∧
    (∃ (key : BitVec 16) (s : State), (key.toNat = 0xA5A5) ∧ (s.power.save = none)) ∧
    (∃ (key : BitVec 16) (s : State), (key.toNat = 0xA5A5) ∧ (s.power.save ≠ none)) ∧
    (∃ (key : BitVec 16) (s : State), (key.toNat ≠ 0xA5A5 ∨ s.power.save ≠ none)) ∧
    (∃ (key : BitVec 16) (s : State), (key.toNat = 0xA5A5) ∧ (s.power.save = none)) ∧
    (∃ (uF : BitVec 16) (s : State), (780 ≤ uF.toNat)) ∧
    (∃ (uF : BitVec 16) (s : State), (uF.toNat < 780)) ∧
    (∃ (pfail : Bool) (s u : State), (u = (if pfail then s.setb P.pwr F.PWR_STATUS_PFAIL true else s)) ∧ (s.flag P.pwr (if pfail then F.PWR_CFG_PFAIL_EN else F.PWR_CFG_SENSE_EN) = false)) ∧
    (∃ (pfail : Bool) (s u : State), (u = (if pfail then s.setb P.pwr F.PWR_STATUS_PFAIL true else s)) ∧ (s.flag P.pwr (if pfail then F.PWR_CFG_PFAIL_EN else F.PWR_CFG_SENSE_EN) = true) ∧ (u.power.wait = true)) ∧
    (∃ (pfail : Bool) (s u : State), (u = (if pfail then s.setb P.pwr F.PWR_STATUS_PFAIL true else s)) ∧ (s.flag P.pwr (if pfail then F.PWR_CFG_PFAIL_EN else F.PWR_CFG_SENSE_EN) = true) ∧ (u.power.wait = false) ∧ (u.flag P.pwr F.PWR_STATUS_SAG = true)) ∧
    (∃ (pfail : Bool) (s u : State), ∃ x, (u = (if pfail then s.setb P.pwr F.PWR_STATUS_PFAIL true else s)) ∧ (s.flag P.pwr (if pfail then F.PWR_CFG_PFAIL_EN else F.PWR_CFG_SENSE_EN) = true) ∧ (u.power.wait = false) ∧ (u.flag P.pwr F.PWR_STATUS_SAG = false) ∧ (x = ((u.inc P.pwr F.PWR_SAG_CNT_COUNT).err P.pwr E.pwr_SAG).setb P.pwr F.PWR_STATUS_SAG true) ∧ (x.stage < 2 ∨ x.power.save ≠ none)) ∧
    (∃ (pfail : Bool) (s u : State), ∃ x, (u = (if pfail then s.setb P.pwr F.PWR_STATUS_PFAIL true else s)) ∧ (s.flag P.pwr (if pfail then F.PWR_CFG_PFAIL_EN else F.PWR_CFG_SENSE_EN) = true) ∧ (u.power.wait = false) ∧ (u.flag P.pwr F.PWR_STATUS_SAG = false) ∧ (x = ((u.inc P.pwr F.PWR_SAG_CNT_COUNT).err P.pwr E.pwr_SAG).setb P.pwr F.PWR_STATUS_SAG true) ∧ (2 ≤ x.stage) ∧ (x.power.save = none) ∧ (x.restoring = true)) ∧
    (∃ (pfail : Bool) (s u : State), ∃ x, (u = (if pfail then s.setb P.pwr F.PWR_STATUS_PFAIL true else s)) ∧ (s.flag P.pwr (if pfail then F.PWR_CFG_PFAIL_EN else F.PWR_CFG_SENSE_EN) = true) ∧ (u.power.wait = false) ∧ (u.flag P.pwr F.PWR_STATUS_SAG = false) ∧ (x = ((u.inc P.pwr F.PWR_SAG_CNT_COUNT).err P.pwr E.pwr_SAG).setb P.pwr F.PWR_STATUS_SAG true) ∧ (2 ≤ x.stage) ∧ (x.power.save = none) ∧ (x.restoring = false) ∧ (x.flag P.pwr F.PWR_CFG_SAVE_EN = false)) ∧
    (∃ (pfail : Bool) (s u : State), ∃ x, (u = (if pfail then s.setb P.pwr F.PWR_STATUS_PFAIL true else s)) ∧ (s.flag P.pwr (if pfail then F.PWR_CFG_PFAIL_EN else F.PWR_CFG_SENSE_EN) = true) ∧ (u.power.wait = false) ∧ (u.flag P.pwr F.PWR_STATUS_SAG = false) ∧ (x = ((u.inc P.pwr F.PWR_SAG_CNT_COUNT).err P.pwr E.pwr_SAG).setb P.pwr F.PWR_STATUS_SAG true) ∧ (2 ≤ x.stage) ∧ (x.power.save = none) ∧ (x.restoring = false) ∧ (x.flag P.pwr F.PWR_CFG_SAVE_EN = true) ∧ (x.flag P.pwr F.PWR_STATUS_HOLD_OK = false)) ∧
    (∃ (pfail : Bool) (s u : State), ∃ x, (u = (if pfail then s.setb P.pwr F.PWR_STATUS_PFAIL true else s)) ∧ (s.flag P.pwr (if pfail then F.PWR_CFG_PFAIL_EN else F.PWR_CFG_SENSE_EN) = true) ∧ (u.power.wait = false) ∧ (u.flag P.pwr F.PWR_STATUS_SAG = false) ∧ (x = ((u.inc P.pwr F.PWR_SAG_CNT_COUNT).err P.pwr E.pwr_SAG).setb P.pwr F.PWR_STATUS_SAG true) ∧ (2 ≤ x.stage) ∧ (x.power.save = none) ∧ (x.restoring = false) ∧ (x.flag P.pwr F.PWR_CFG_SAVE_EN = true) ∧ (x.flag P.pwr F.PWR_STATUS_HOLD_OK = true)) ∧
    (∃ (s : State), (s.power.save = none ∨ ∃ v, s.power.save = some v ∧ v.sag = false)) ∧
    (∃ (s : State), ∃ v, (s.power.save = some v) ∧ (v.sag = true)) ∧
    (∃ (s t : State), (t = (s.setb P.pwr F.PWR_STATUS_SAG false).setb P.pwr F.PWR_STATUS_PFAIL false) ∧ (s.power.wait = false)) ∧
    (∃ (s t : State), (t = (s.setb P.pwr F.PWR_STATUS_SAG false).setb P.pwr F.PWR_STATUS_PFAIL false) ∧ (s.power.wait = true)) ∧
    (∃ (s : State), (s.power.save = none)) ∧
    (∃ (s : State), ∃ (v : Save) (u t : State), (s.power.save = some v) ∧ (u = ((s.astore Save.commit 4 0x544D4F43).astore (Save.commit + 4) 4 (s.power.seq + 1)).astore (Save.commit + 8) 4 (s.amberCrc Save.base 0x10000)) ∧ (t = ((((u.astore (Save.commit + 12) 4 (u.amberCrc Save.table 0x800000)).wr (P.pwr + R.PWR_SAVE_STAT) (2 ^ 28 + min 65535 ((u.now - v.at_) * 2 / 625))).setb P.pwr F.PWR_STATUS_SAVING false).setPower fun p => { p with save := none, seq := (s.power.seq + 1) % 2 ^ 32, defer := 0, wait := v.sag })) ∧ (v.sag = false)) ∧
    (∃ (s : State), ∃ (v : Save) (u t : State), (s.power.save = some v) ∧ (u = ((s.astore Save.commit 4 0x544D4F43).astore (Save.commit + 4) 4 (s.power.seq + 1)).astore (Save.commit + 8) 4 (s.amberCrc Save.base 0x10000)) ∧ (t = ((((u.astore (Save.commit + 12) 4 (u.amberCrc Save.table 0x800000)).wr (P.pwr + R.PWR_SAVE_STAT) (2 ^ 28 + min 65535 ((u.now - v.at_) * 2 / 625))).setb P.pwr F.PWR_STATUS_SAVING false).setPower fun p => { p with save := none, seq := (s.power.seq + 1) % 2 ^ 32, defer := 0, wait := v.sag })) ∧ (v.sag = true) ∧ (s.power.defer ≠ 0)) ∧
    (∃ (s : State), ∃ (v : Save) (u t : State), (s.power.save = some v) ∧ (u = ((s.astore Save.commit 4 0x544D4F43).astore (Save.commit + 4) 4 (s.power.seq + 1)).astore (Save.commit + 8) 4 (s.amberCrc Save.base 0x10000)) ∧ (t = ((((u.astore (Save.commit + 12) 4 (u.amberCrc Save.table 0x800000)).wr (P.pwr + R.PWR_SAVE_STAT) (2 ^ 28 + min 65535 ((u.now - v.at_) * 2 / 625))).setb P.pwr F.PWR_STATUS_SAVING false).setPower fun p => { p with save := none, seq := (s.power.seq + 1) % 2 ^ 32, defer := 0, wait := v.sag })) ∧ (v.sag = true) ∧ (s.power.defer = 0) ∧ (t.flag P.pwr F.PWR_STATUS_SAG = true)) ∧
    (∃ (s : State), ∃ (v : Save) (u t : State), (s.power.save = some v) ∧ (u = ((s.astore Save.commit 4 0x544D4F43).astore (Save.commit + 4) 4 (s.power.seq + 1)).astore (Save.commit + 8) 4 (s.amberCrc Save.base 0x10000)) ∧ (t = ((((u.astore (Save.commit + 12) 4 (u.amberCrc Save.table 0x800000)).wr (P.pwr + R.PWR_SAVE_STAT) (2 ^ 28 + min 65535 ((u.now - v.at_) * 2 / 625))).setb P.pwr F.PWR_STATUS_SAVING false).setPower fun p => { p with save := none, seq := (s.power.seq + 1) % 2 ^ 32, defer := 0, wait := v.sag })) ∧ (v.sag = true) ∧ (s.power.defer = 0) ∧ (t.flag P.pwr F.PWR_STATUS_SAG = false)) :=
  ⟨⟨(State.reset.setPower fun y => { y with save := none }), by decide⟩,
   ⟨State.reset.setPower fun y => { y with save := some {} }, by decide +kernel⟩,
   ⟨(State.reset.setPower fun y => { y with held := false }), by decide⟩,
   ⟨(State.reset.setPower fun y => { y with held := true }), by decide⟩,
   ⟨0, (State.reset.setPower fun y => { y with held := true }), by decide⟩,
   ⟨0, (State.reset.setPower fun y => { y with held := false }), by decide, by decide⟩,
   ⟨_, (((State.reset.setPower fun y => { y with held := false }).setb P.clk F.CLK_STATUS_SYS_LOCK true).setb P.clk F.CLK_STATUS_LINK_LOCK true), by decide, rfl, by decide, by decide⟩,
   ⟨_, ((State.reset.setPower fun y => { y with held := false }).setb P.clk F.CLK_STATUS_LINK_LOCK false), by decide, rfl, by decide⟩,
   ⟨(State.reset.setPower fun y => { y with save := none }), _, rfl, by decide⟩,
   ⟨State.reset.setPower fun y => { y with save := some {} }, _, rfl, by decide +kernel⟩,
   ⟨(State.reset.setTime fun y => { y with holdStart := none }), by decide⟩,
   ⟨State.reset.setTime fun y => { y with holdStart := some 0 }, 0, by decide +kernel, by decide +kernel⟩,
   ⟨(late.setb P.clk F.CLK_STATUS_HOLDOVER true).setTime fun y => { y with holdStart := some 0 }, 0, by decide +kernel, by decide +kernel, by decide +kernel⟩,
   ⟨(State.reset.setPower fun y => { y with held := true }), by decide⟩,
   ⟨(State.reset.setPower fun y => { y with held := false }), by decide⟩,
   ⟨(State.reset.setf P.sys F.SYS_STATE_STATE 2).setf P.sys F.SYS_WDOG_PERIOD 1, by decide +kernel⟩,
   ⟨(State.reset.setf P.sys F.SYS_WDOG_PERIOD (0)), by decide⟩,
   ⟨(State.reset.setPower fun y => { y with wdFrom := none }), by decide⟩,
   ⟨(late.setf P.sys F.SYS_WDOG_PERIOD 1).setPower fun y => { y with wdFrom := some 1000000000 }, 1000000000, by decide +kernel, by decide +kernel⟩,
   ⟨late.setPower fun y => { y with wdFrom := some 0 }, 0, by decide +kernel, by decide +kernel, by decide +kernel⟩,
   ⟨late.setPower fun y => { y with wdFrom := some 0, save := some {} }, 0, by decide +kernel, by decide +kernel, by decide +kernel⟩,
   ⟨(State.reset.setBoot fun y => { y with trialEnd := none }), by decide⟩,
   ⟨State.reset.setBoot fun y => { y with trialEnd := some 1 }, 1, by decide +kernel, by decide +kernel⟩,
   ⟨late.setBoot fun y => { y with trialEnd := some 0 }, 0, by decide +kernel, by decide +kernel, by decide +kernel⟩,
   ⟨(late.setBoot fun y => { y with trialEnd := some 0 }).setPower fun y => { y with save := some {} }, 0, by decide +kernel, by decide +kernel, by decide +kernel⟩,
   ⟨0, State.reset, by decide⟩,
   ⟨0xA5A5, (State.reset.setPower fun y => { y with save := none }), by decide, by decide⟩,
   ⟨0xA5A5, State.reset.setPower fun y => { y with save := some {} }, by decide +kernel, by decide +kernel⟩,
   ⟨0, State.reset, by decide⟩,
   ⟨0xA5A5, (State.reset.setPower fun y => { y with save := none }), by decide, by decide⟩,
   ⟨780, State.reset, by decide +kernel⟩,
   ⟨0, State.reset, by decide⟩,
   ⟨false, (State.reset.setb P.pwr (if false then F.PWR_CFG_PFAIL_EN else F.PWR_CFG_SENSE_EN) false), _, rfl, by decide⟩,
   ⟨false, ((State.reset.setb P.pwr (if false then F.PWR_CFG_PFAIL_EN else F.PWR_CFG_SENSE_EN) true).setPower fun y => { y with wait := true }), _, rfl, by decide, by decide⟩,
   ⟨false, (((State.reset.setb P.pwr (if false then F.PWR_CFG_PFAIL_EN else F.PWR_CFG_SENSE_EN) true).setPower fun y => { y with wait := false }).setb P.pwr F.PWR_STATUS_SAG true), _, rfl, by decide, by decide, by decide⟩,
   ⟨false, (((State.reset.setb P.pwr (if false then F.PWR_CFG_PFAIL_EN else F.PWR_CFG_SENSE_EN) true).setPower fun y => { y with wait := false }).setb P.pwr F.PWR_STATUS_SAG false), _, _, rfl, by decide, by decide, by decide, rfl, by decide⟩,
   ⟨true, ((((State.reset.setb P.pwr F.PWR_CFG_PFAIL_EN true).setb P.pwr F.PWR_CFG_RESTORE_EN true).setf P.sys F.SYS_STATE_STATE 2).setPower fun y => { y with applied := true }).astore 0x1E20000 4 0x544D4F43, _, _, rfl, by decide +kernel, by decide +kernel, by decide +kernel, rfl, by decide +kernel, by decide +kernel, by decide +kernel⟩,
   ⟨false, ((((((State.reset.setb P.pwr (if false then F.PWR_CFG_PFAIL_EN else F.PWR_CFG_SENSE_EN) true).setPower fun y => { y with wait := false }).setb P.pwr F.PWR_STATUS_SAG false).setf P.sys F.SYS_STATE_STATE 2).setPower fun y => { y with save := none }).setb P.pwr F.PWR_CFG_SAVE_EN false), _, _, rfl, by decide, by decide, by decide, rfl, by decide, by decide, by decide, by decide⟩,
   ⟨false, (((((((State.reset.setb P.pwr (if false then F.PWR_CFG_PFAIL_EN else F.PWR_CFG_SENSE_EN) true).setPower fun y => { y with wait := false }).setb P.pwr F.PWR_STATUS_SAG false).setf P.sys F.SYS_STATE_STATE 2).setPower fun y => { y with save := none }).setb P.pwr F.PWR_CFG_SAVE_EN true).setb P.pwr F.PWR_STATUS_HOLD_OK false), _, _, rfl, by decide, by decide, by decide, rfl, by decide, by decide, by decide, by decide, by decide⟩,
   ⟨false, (((((((State.reset.setb P.pwr (if false then F.PWR_CFG_PFAIL_EN else F.PWR_CFG_SENSE_EN) true).setPower fun y => { y with wait := false }).setb P.pwr F.PWR_STATUS_SAG false).setf P.sys F.SYS_STATE_STATE 2).setPower fun y => { y with save := none }).setb P.pwr F.PWR_CFG_SAVE_EN true).setb P.pwr F.PWR_STATUS_HOLD_OK true), _, _, rfl, by decide, by decide, by decide, rfl, by decide, by decide, by decide, by decide, by decide⟩,
   ⟨State.reset, by decide⟩,
   ⟨late.setPower fun y => { y with save := some {} }, {}, by decide +kernel, by decide +kernel⟩,
   ⟨(State.reset.setPower fun y => { y with wait := false }), _, rfl, by decide⟩,
   ⟨(State.reset.setPower fun y => { y with wait := true }), _, rfl, by decide⟩,
   ⟨(State.reset.setPower fun y => { y with save := none }), by decide⟩,
   ⟨late.setPower fun y => { y with save := some { sag := false } }, { sag := false }, _, _, by decide +kernel, rfl, rfl, by decide +kernel⟩,
   ⟨late.setPower fun y => { y with save := some {}, defer := 1 }, {}, _, _, by decide +kernel, rfl, rfl, by decide +kernel, by decide +kernel⟩,
   ⟨(late.setb P.pwr F.PWR_STATUS_SAG true).setPower fun y => { y with save := some {} }, {}, _, _, by decide +kernel, rfl, rfl, by decide +kernel, by decide +kernel, by decide +kernel⟩,
   ⟨late.setPower fun y => { y with save := some {} }, {}, _, _, by decide +kernel, rfl, rfl, by decide +kernel, by decide +kernel, by decide +kernel⟩⟩

/-- States and operands that meet the hypotheses of `Obligations.HostPort`, clause by clause. -/
theorem witness_HostPort :
    (∃ (addr : BitVec 26) (data : List Byte) (s : State), (s.hostUp = false)) ∧
    (∃ (addr : BitVec 26) (data : List Byte) (s : State), (s.hostUp = true) ∧ (s.tlpKind addr.toNat data.length = .absent)) ∧
    (∃ (addr : BitVec 26) (data : List Byte) (s : State), ∃ b, (s.hostUp = true) ∧ (s.tlpKind addr.toNat data.length = .bad b)) ∧
    (∃ (addr : BitVec 26) (data : List Byte) (s : State), (s.hostUp = true) ∧ (s.tlpKind addr.toNat data.length = .reg)) ∧
    (∃ (addr : BitVec 26) (data : List Byte) (s : State), (s.hostUp = true) ∧ (s.tlpKind addr.toNat data.length = .mem)) ∧
    (∃ (addr : BitVec 26) (n : Fin 513) (s : State), (s.hostUp = false)) ∧
    (∃ (addr : BitVec 26) (n : Fin 513) (s : State), (s.hostUp = true) ∧ (s.tlpKind addr.toNat n = .absent)) ∧
    (∃ (addr : BitVec 26) (n : Fin 513) (s : State), ∃ b, (s.hostUp = true) ∧ (s.tlpKind addr.toNat n = .bad b)) ∧
    (∃ (addr : BitVec 26) (n : Fin 513) (s : State), (s.hostUp = true) ∧ (s.tlpKind addr.toNat n = .reg)) ∧
    (∃ (addr : BitVec 26) (n : Fin 513) (s : State), ∃ r, (s.hostUp = true) ∧ (s.tlpKind addr.toNat n = .mem) ∧ (r = s.hostPieces (splitTlp addr.toNat n 0 n))) ∧
    (∃ (s : State), (s.hostUp = true)) ∧
    (∃ (s : State), (s.hostUp = false)) ∧
    (∃ (s : State), (s.hostUp = true)) ∧
    (∃ (s : State), (s.hostUp = false)) ∧
    (∃ (s : State), (s.hostUp = true)) ∧
    (∃ (s : State), (s.hostUp = false)) ∧
    (∃ (gen : Fin 3) (x2 : Bool) (s : State), (s.stage = 0)) ∧
    (∃ (gen : Fin 3) (x2 : Bool) (s : State), (s.stage ≠ 0)) ∧
    (∃ (bme msix fmask : Bool) (s : State), (s.hostUp = false)) ∧
    (∃ (bme msix fmask : Bool) (s : State), (s.hostUp = true)) ∧
    (∃ (s : State), ∃ (d : Fin 8) (desc : Option (BitVec 256)), (s.nqHost d = false)) ∧
    (∃ (s : State), ∃ (d : Fin 8) (desc : Option (BitVec 256)), (s.nqHost d = true)) ∧
    (∃ (s : State), ∃ (d : Fin 8), (s.nqHost d = false ∨ s.flag (P.netq d) F.NQ_CTRL_RX_EN = false ∨ bits s.net.stopR d 1 ≠ 0)) ∧
    (∃ (s : State), ∃ (d : Fin 8), (s.nqHost d = true) ∧ (s.flag (P.netq d) F.NQ_CTRL_RX_EN = true) ∧ (s.rd (P.netq d + R.NQ_RX_HEAD) ≠ s.rd (P.netq d + R.NQ_RX_TAIL) % 2 ^ 10) ∧ (bits s.net.stopR d 1 = 0)) ∧
    (∃ (s : State), (s.boot.job = none)) ∧
    (∃ (s : State), ∃ v, (s.boot.job = some v) ∧ (bits v 24 4 = 1) ∧ (s.flag P.amber F.AMBER_SRC_HI_HOST = true)) ∧
    (∃ (p : Fin 4) (src : BitVec 48) (body : List Byte) (ok : Bool) (tag : BitVec 128) (s : State), (field body 0 1 % 16 ≠ 1)) ∧
    (∃ (p : Fin 4) (src : BitVec 48) (body : List Byte) (ok : Bool) (tag : BitVec 128) (s : State), (s.flag P.host F.HOST_MGMT_CTRL_EN = false ∨ s.stage < 2)) ∧
    (∃ (p : Fin 4) (src : BitVec 48) (body : List Byte) (ok : Bool) (tag : BitVec 128) (s : State), (field body 0 1 % 16 = 1) ∧ (s.flag P.host F.HOST_MGMT_CTRL_EN = true) ∧ (2 ≤ s.stage)) ∧
    (∃ (p : Fin 4) (src : BitVec 48) (body : List Byte) (ok : Bool) (tag : BitVec 128) (s : State), (field body 0 1 % 16 ≠ 2)) ∧
    (∃ (p : Fin 4) (src : BitVec 48) (body : List Byte) (ok : Bool) (tag : BitVec 128) (s : State), (s.flag P.host F.HOST_MGMT_CTRL_EN = false ∨ s.stage < 2)) ∧
    (∃ (p : Fin 4) (src : BitVec 48) (body : List Byte) (ok : Bool) (tag : BitVec 128) (s : State), (field body 0 1 % 16 = 2) ∧ (s.flag P.host F.HOST_MGMT_CTRL_EN = true) ∧ (2 ≤ s.stage)) ∧
    (∃ (p : Fin 4) (src : BitVec 48) (body : List Byte) (ok : Bool) (tag : BitVec 128) (s : State), (field body 0 1 % 16 = 1 ∨ field body 0 1 % 16 = 2)) ∧
    (∃ (p : Fin 4) (src : BitVec 48) (body : List Byte) (ok : Bool) (tag : BitVec 128) (s : State), (s.flag P.host F.HOST_MGMT_CTRL_EN = false ∨ s.stage < 2)) ∧
    (∃ (p : Fin 4) (src : BitVec 48) (body : List Byte) (ok : Bool) (tag : BitVec 128) (s : State), (field body 0 1 % 16 ≠ 1) ∧ (field body 0 1 % 16 ≠ 2) ∧ (s.flag P.host F.HOST_MGMT_CTRL_EN = true) ∧ (2 ≤ s.stage)) :=
  ⟨⟨0, [], (State.reset.setb P.host F.HOST_STATUS_LINK_UP false), by decide⟩,
   ⟨0x180000, [0, 0, 0, 0], { ((State.reset.setf P.sys F.SYS_STATE_STATE 1).setb P.host F.HOST_STATUS_LINK_UP true) with dev := { bv3204 := true } }, by decide +kernel, by decide +kernel⟩,
   ⟨0, [], (State.reset.setb P.host F.HOST_STATUS_LINK_UP true), _, by decide, rfl⟩,
   ⟨0x4, [0, 0, 0, 0], (State.reset.setf P.sys F.SYS_STATE_STATE 1).setb P.host F.HOST_STATUS_LINK_UP true, by decide +kernel, by decide +kernel⟩,
   ⟨0xC00000, [0, 0, 0, 0], (State.reset.setf P.sys F.SYS_STATE_STATE 1).setb P.host F.HOST_STATUS_LINK_UP true, by decide +kernel, by decide +kernel⟩,
   ⟨0, 0, (State.reset.setb P.host F.HOST_STATUS_LINK_UP false), by decide⟩,
   ⟨0x180000, 4, { ((State.reset.setf P.sys F.SYS_STATE_STATE 1).setb P.host F.HOST_STATUS_LINK_UP true) with dev := { bv3204 := true } }, by decide +kernel, by decide +kernel⟩,
   ⟨0, 0, (State.reset.setb P.host F.HOST_STATUS_LINK_UP true), _, by decide, rfl⟩,
   ⟨0x4, 4, (State.reset.setf P.sys F.SYS_STATE_STATE 1).setb P.host F.HOST_STATUS_LINK_UP true, by decide +kernel, by decide +kernel⟩,
   ⟨0xC00000, 4, (State.reset.setf P.sys F.SYS_STATE_STATE 1).setb P.host F.HOST_STATUS_LINK_UP true, _, by decide +kernel, by decide +kernel, rfl⟩,
   ⟨(State.reset.setb P.host F.HOST_STATUS_LINK_UP true), by decide⟩,
   ⟨(State.reset.setb P.host F.HOST_STATUS_LINK_UP false), by decide⟩,
   ⟨(State.reset.setb P.host F.HOST_STATUS_LINK_UP true), by decide⟩,
   ⟨(State.reset.setb P.host F.HOST_STATUS_LINK_UP false), by decide⟩,
   ⟨(State.reset.setb P.host F.HOST_STATUS_LINK_UP true), by decide⟩,
   ⟨(State.reset.setb P.host F.HOST_STATUS_LINK_UP false), by decide⟩,
   ⟨0, false, (State.reset.setf P.sys F.SYS_STATE_STATE 0), by decide⟩,
   ⟨0, false, (State.reset.setf P.sys F.SYS_STATE_STATE 2), by decide⟩,
   ⟨false, false, false, (State.reset.setb P.host F.HOST_STATUS_LINK_UP false), by decide⟩,
   ⟨false, false, false, (State.reset.setb P.host F.HOST_STATUS_LINK_UP true), by decide⟩,
   ⟨State.reset, 0, (none : Option (BitVec 256)), by decide +kernel⟩,
   ⟨State.reset.setb (P.netq 0) F.NQ_CTRL_HOST true, 0, (none : Option (BitVec 256)), by decide +kernel⟩,
   ⟨(State.reset.setb (P.netq 0) F.NQ_CTRL_RX_EN false), 0, by decide⟩,
   ⟨((State.reset.setb (P.netq 0) F.NQ_CTRL_HOST true).setb (P.netq 0) F.NQ_CTRL_RX_EN true).wr (P.netq 0 + R.NQ_RX_TAIL) 1, 0, by decide +kernel, by decide +kernel, by decide +kernel, by decide +kernel⟩,
   ⟨(State.reset.setBoot fun y => { y with job := none }), by decide⟩,
   ⟨((State.reset.setBoot fun y => { y with job := some 16777216 }).setb P.amber F.AMBER_SRC_HI_HOST true), 16777216, by decide, by decide, by decide⟩,
   ⟨0, 0, [], false, 0, State.reset, by decide⟩,
   ⟨0, 0, [], false, 0, State.reset, by decide⟩,
   ⟨0, 0, [1], true, 0, ((State.reset.setb P.host F.HOST_MGMT_CTRL_EN true).setf P.sys F.SYS_STATE_STATE 2), by decide +kernel, by decide +kernel, by decide +kernel⟩,
   ⟨0, 0, [], false, 0, State.reset, by decide⟩,
   ⟨0, 0, [], false, 0, State.reset, by decide⟩,
   ⟨0, 0, [2], true, 0, ((State.reset.setb P.host F.HOST_MGMT_CTRL_EN true).setf P.sys F.SYS_STATE_STATE 2), by decide +kernel, by decide +kernel, by decide +kernel⟩,
   ⟨0, 0, [1], true, 0, State.reset, by decide +kernel⟩,
   ⟨0, 0, [], false, 0, State.reset, by decide⟩,
   ⟨0, 0, [], false, 0, ((State.reset.setb P.host F.HOST_MGMT_CTRL_EN true).setf P.sys F.SYS_STATE_STATE 2), by decide, by decide, by decide, by decide⟩⟩

/-- States and operands that meet the hypotheses of `Obligations.ManagementChecks`, clause by clause. -/
theorem witness_ManagementChecks :
    (∃ (f : MgmtFrame) (s : State) (n : Nat), (s.power.save = none) ∧ (s.power.wait = false) ∧ (s.mgmt.job = none) ∧ (s.mgmt.todo = [f]) ∧ (f.formed = false ∨ f.tagOk = false ∨ ((s.rd (P.host + R.HOST_MGMT_PEER_LO) + s.rd (P.host + R.HOST_MGMT_PEER_HI) % 2 ^ 16 * 2 ^ 32) ≠ 0 ∧ (s.rd (P.host + R.HOST_MGMT_PEER_LO) + s.rd (P.host + R.HOST_MGMT_PEER_HI) % 2 ^ 16 * 2 ^ 32) ≠ f.src) ∨ (f.type ≠ 3 ∧ (field f.body 12 4 ≠ s.mgmtEpoch ∨ f.seq < s.rd (P.host + R.HOST_MGMT_SEQ) ∨ (f.seq = s.rd (P.host + R.HOST_MGMT_SEQ) ∧ f.body.take f.size ≠ s.mgmt.last))))) :=
  ⟨{}, State.reset.setMgmt fun y => { y with todo := [{}] }, 0, by decide +kernel, by decide +kernel, by decide +kernel, by decide +kernel, by decide +kernel⟩

/-- States and operands that meet the hypotheses of `Obligations.BootAndStages`, clause by clause. -/
theorem witness_BootAndStages :
    (∃ (s : State), (s.stage ≠ 0 ∨ s.power.held = true ∨ s.flag P.clk F.CLK_STATUS_SYS_LOCK = false ∨ s.safety.flintOk = false)) ∧
    (∃ (s : State), (s.stage = 0) ∧ (s.power.held = false) ∧ (s.flag P.clk F.CLK_STATUS_SYS_LOCK = true) ∧ (s.safety.flintOk = true)) ∧
    (∃ (a b : ImageCheck) (s u : State), (u = (if s.readBoot.boot.booted.isNone then s.readBoot.selectSlot a b else s.readBoot)) ∧ (s.stage ≠ 1)) ∧
    (∃ (a b : ImageCheck) (s u : State), (u = (if s.readBoot.boot.booted.isNone then s.readBoot.selectSlot a b else s.readBoot)) ∧ (s.stage = 1) ∧ (u.boot.booted = none)) ∧
    (∃ (a b : ImageCheck) (s u : State), ∃ x, (u = (if s.readBoot.boot.booted.isNone then s.readBoot.selectSlot a b else s.readBoot)) ∧ (s.stage = 1) ∧ (u.boot.booted = some x) ∧ (u.basicReady = false)) ∧
    (∃ (a b : ImageCheck) (s u : State), ∃ x, (u = (if s.readBoot.boot.booted.isNone then s.readBoot.selectSlot a b else s.readBoot)) ∧ (s.stage = 1) ∧ (u.boot.booted = some x) ∧ (u.basicReady = true)) ∧
    (∃ (x other : ImageCheck) (s : State), (s.boot.booted = none ∨ s.stage ≠ 2 ∨ s.power.applied = true ∨ s.power.failed = true)) ∧
    (∃ (x other : ImageCheck) (s : State), ∃ slot l, (s.boot.booted = some slot) ∧ (s.stage = 2) ∧ (s.power.applied = false) ∧ (s.power.failed = false) ∧ (l = s.blocks slot)) ∧
    (∃ (us : BitVec 16) (s : State), (s.stage ≠ 2 ∨ s.power.applied = false ∨ s.power.restored = true)) ∧
    (∃ (us : BitVec 16) (s : State), (s.stage = 2) ∧ (s.power.applied = true) ∧ (s.power.restored = false) ∧ (s.restoreCode ≠ 1)) ∧
    (∃ (s : State), (s.stage = 2) ∧ (s.power.applied = true) ∧ (s.power.restored = true) ∧ (s.allCal = true) ∧ (s.timeLocked = true) ∧ (s.allAligned = true)) ∧
    (∃ (s : State), (s.stage ≠ 2 ∨ s.power.applied = false ∨ s.power.restored = false ∨ s.allCal = false ∨ s.timeLocked = false ∨ s.allAligned = false)) :=
  ⟨⟨(State.reset.setb P.clk F.CLK_STATUS_SYS_LOCK false), by decide⟩,
   ⟨((((State.reset.setf P.sys F.SYS_STATE_STATE 0).setPower fun y => { y with held := false }).setb P.clk F.CLK_STATUS_SYS_LOCK true).setSafety fun y => { y with flintOk := true }), by decide, by decide, by decide, by decide⟩,
   ⟨⟨true, true, 0⟩, ⟨true, true, 0⟩, (State.reset.setf P.sys F.SYS_STATE_STATE 0), _, rfl, by decide⟩,
   ⟨⟨true, true, 0⟩, ⟨true, true, 0⟩, ((State.reset.setf P.sys F.SYS_STATE_STATE 1).setBoot fun y => { y with booted := none }), _, rfl, by decide, by decide⟩,
   ⟨⟨true, true, 0⟩, ⟨true, true, 0⟩, ((State.reset.setf P.sys F.SYS_STATE_STATE 1).setBoot fun y => { y with read := true, booted := some false }).setSafety fun y => { y with held := false }, _, false, rfl, by decide +kernel, by decide +kernel, by decide +kernel⟩,
   ⟨⟨true, true, 0⟩, ⟨true, true, 0⟩, ((State.reset.setf P.sys F.SYS_STATE_STATE 1).setBoot fun y => { y with read := true, booted := some false }).setSafety fun y => { y with held := true }, _, false, rfl, by decide +kernel, by decide +kernel, by decide +kernel⟩,
   ⟨⟨true, true, 0⟩, ⟨true, true, 0⟩, (State.reset.setPower fun y => { y with applied := true }), by decide⟩,
   ⟨⟨true, true, 0⟩, ⟨true, true, 0⟩, (State.reset.setf P.sys F.SYS_STATE_STATE 2).setBoot fun y => { y with booted := some false }, false, _, by decide +kernel, by decide +kernel, by decide +kernel, by decide +kernel, rfl⟩,
   ⟨0, (State.reset.setPower fun y => { y with restored := true }), by decide⟩,
   ⟨0, (((State.reset.setf P.sys F.SYS_STATE_STATE 2).setPower fun y => { y with applied := true }).setPower fun y => { y with restored := false }), by decide, by decide, by decide, by decide⟩,
   ⟨{ ((State.reset.setf P.sys F.SYS_STATE_STATE 2).setPower fun y => { y with applied := true, restored := true }).setb P.time F.TIME_LOCK_STAT_NET_LOCK true with dev := { bv3204 := true } } |> fun s => (List.finRange 8).foldl (fun s i => (s.setb (P.carrier i) F.CARRIER_STATUS_CAL_DONE true).setb P.time (F.TIME_ALIGN_ALIGNED i) true) s, by decide +kernel, by decide +kernel, by decide +kernel, by decide +kernel, by decide +kernel, by decide +kernel⟩,
   ⟨(State.reset.setPower fun y => { y with restored := false }), by decide⟩⟩

end Sys2Proof.Tests
end

section
/-! SUPPORT. The clamp of Table 4-1 (R77), the compare values in force and PWM_CMP_U, V and W that show them, and the duty of
R75. -/
namespace Sys2Proof.Machine
open Sys2Proof

/-! The rows of Table 4-1, first match first. -/

theorem clampCompare_of_half_le {h cmin c : Nat} (hc : h ≤ c) : clampCompare h cmin c = h := if_pos hc

theorem clampCompare_of_lt_cmin {h cmin c : Nat} (hc : c < h) (hm : c < cmin) : clampCompare h cmin c = 0 := by
  rw [clampCompare, if_neg (Nat.not_le.mpr hc), if_pos hm]

theorem clampCompare_of_half_lt_add {h cmin c : Nat} (hc : c < h) (hm : cmin ≤ c) (ha : h < c + cmin) :
    clampCompare h cmin c = h := by
  rw [clampCompare, if_neg (Nat.not_le.mpr hc), if_neg (Nat.not_lt.mpr hm), if_pos ha]

theorem clampCompare_of_add_le_half {h cmin c : Nat} (hc : c < h) (hm : cmin ≤ c) (ha : c + cmin ≤ h) :
    clampCompare h cmin c = c := by
  rw [clampCompare, if_neg (Nat.not_le.mpr hc), if_neg (Nat.not_lt.mpr hm), if_neg (Nat.not_lt.mpr ha)]

/-- A value in force is 0, the half period, or the received value with CMIN free on both sides. -/
theorem clampCompare_cases (h cmin c : Nat) : clampCompare h cmin c = 0 ∨ clampCompare h cmin c = h ∨
    (clampCompare h cmin c = c ∧ cmin ≤ c ∧ c + cmin ≤ h) := by
  rcases Nat.lt_or_ge c h with hc | hc
  · rcases Nat.lt_or_ge c cmin with hm | hm
    · exact .inl (clampCompare_of_lt_cmin hc hm)
    · rcases Nat.lt_or_ge h (c + cmin) with ha | ha
      · exact .inr (.inl (clampCompare_of_half_lt_add hc hm ha))
      · exact .inr (.inr ⟨clampCompare_of_add_le_half hc hm ha, hm, ha⟩)
  · exact .inr (.inl (clampCompare_of_half_le hc))

theorem clampCompare_le_half (h cmin c : Nat) : clampCompare h cmin c ≤ h := by
  rcases clampCompare_cases h cmin c with h0 | hh | ⟨hc, -, ha⟩ <;> omega

theorem clampCompare_mono (h cmin : Nat) : Monotone (clampCompare h cmin) := by
  intro c d hcd
  rcases Nat.lt_or_ge d h with hd | hd
  · have hc : c < h := Nat.lt_of_le_of_lt hcd hd
    rcases Nat.lt_or_ge c cmin with hm | hm
    · rw [clampCompare_of_lt_cmin hc hm]
      exact Nat.zero_le _
    · rcases Nat.lt_or_ge h (d + cmin) with ha | ha
      · rw [clampCompare_of_half_lt_add hd (hm.trans hcd) ha]
        exact clampCompare_le_half h cmin c
      · rw [clampCompare_of_add_le_half hd (hm.trans hcd) ha, clampCompare_of_add_le_half hc hm (by omega)]
        exact hcd
  · rw [clampCompare_of_half_le hd]
    exact clampCompare_le_half h cmin c

/-! What the compare registers show. -/

@[simp] theorem State.pwm_setPwm (s : State) (a : Fin 64) (f : PwmAxis → PwmAxis) : (s.setPwm a f).pwm a = f (s.pwm a) := by
  simp [State.pwm, State.axis, State.setPwm, State.setAxis]

@[simp] theorem State.pwm_wr (s : State) (a v : Nat) (b : Fin 64) : (s.wr a v).pwm b = s.pwm b := rfl

@[simp] theorem State.pwm_showCmp (s : State) (a b : Fin 64) (k v : Nat) (tag : Option Nat) :
    (s.showCmp a k v tag).pwm b = s.pwm b := State.pwm_wr ..

theorem State.bits_rd_showCmp_same (s : State) (a : Fin 64) (k v : Nat) (tag : Option Nat) :
    bits ((s.showCmp a k v tag).rd (P.pwm a + R.PWM_CMP_U + 4 * k)) 0 24 = v % 2 ^ 24 := by
  unfold State.showCmp
  rw [State.rd_wr_same, bits_mod _ _ _ _ (by decide)]
  simp [bits]

theorem State.rd_showCmp_other (s : State) (a : Fin 64) {j k : Nat} (v : Nat) (tag : Option Nat) (h : j ≠ k) :
    (s.showCmp a k v tag).rd (P.pwm a + R.PWM_CMP_U + 4 * j) = s.rd (P.pwm a + R.PWM_CMP_U + 4 * j) :=
  State.rd_wr_other _ _ _ _ (by omega)

/-- The values of all three phases shown one after another: each register shows that of its phase. -/
theorem State.bits_rd_showCmp_each (s : State) (a : Fin 64) (v : Fin 3 → Nat) (tag : Option Nat) (k : Fin 3) :
    bits ((((s.showCmp a 0 (v 0) tag).showCmp a 1 (v 1) tag).showCmp a 2 (v 2) tag).rd (P.pwm a + R.PWM_CMP_U + 4 * k)) 0 24 =
      v k % 2 ^ 24 := by
  match k with
  | 0 =>
    rw [State.rd_showCmp_other _ _ _ _ (by decide), State.rd_showCmp_other _ _ _ _ (by decide)]
    exact State.bits_rd_showCmp_same ..
  | 1 =>
    rw [State.rd_showCmp_other _ _ _ _ (by decide)]
    exact State.bits_rd_showCmp_same ..
  | 2 => exact State.bits_rd_showCmp_same ..

/-! The values in force. -/

/-- The clamp at the update instants of a period. -/
def PwmAxis.clamp (p : PwmAxis) : Nat → Nat := clampCompare (p.perT / 2) (p.dt + p.minon)

theorem State.hb_loadSet (s : State) (a : Fin 64) (edge : Bool) (c : CmpSet) (k : Fin 3) :
    ((s.loadSet a edge c).pwm a).hb[k] =
      { (s.pwm a).hb[k] with
        c1 := if edge then (s.pwm a).clamp #v[c.u, c.v, c.w][k] else (s.pwm a).hb[k].c1
        c2 := (s.pwm a).clamp #v[c.u, c.v, c.w][k] } := by
  simp only [State.loadSet, State.pwm_showCmp, State.pwm_setPwm]
  match k with
  | 0 | 1 | 2 => cases edge <;> rfl

theorem State.bits_rd_loadSet (s : State) (a : Fin 64) (edge : Bool) (c : CmpSet) (k : Fin 3) :
    bits ((s.loadSet a edge c).rd (P.pwm a + R.PWM_CMP_U + 4 * k)) 0 24 = (s.pwm a).clamp #v[c.u, c.v, c.w][k] % 2 ^ 24 :=
  State.bits_rd_showCmp_each _ a (fun k => (s.pwm a).clamp #v[c.u, c.v, c.w][k]) (some c.tag) k

/-- PWM_CMP_INIT clamped, at the start sequence. -/
def State.initCompare (s : State) (a : Fin 64) : Nat :=
  clampCompare (s.carT (slateOf a) / 2) ((s.pwm a).dt + (s.pwm a).minon) (bits (s.rd (P.pwm a + R.PWM_CMP_INIT)) 0 24)

theorem State.hb_loadInit (s : State) (a : Fin 64) (k : Fin 3) :
    ((s.loadInit a).pwm a).hb[k] = { (s.pwm a).hb[k] with c1 := s.initCompare a, c2 := s.initCompare a } := by
  simp only [State.loadInit, forEach, List.foldl, State.pwm_showCmp, State.pwm_setPwm]
  simp [State.initCompare]

theorem State.bits_rd_loadInit (s : State) (a : Fin 64) (k : Fin 3) :
    bits ((s.loadInit a).rd (P.pwm a + R.PWM_CMP_U + 4 * k)) 0 24 = s.initCompare a % 2 ^ 24 :=
  State.bits_rd_showCmp_each _ a (fun _ => s.initCompare a) none k

/-! The duty of R75. -/

/-- The period is cut at the two changes of the reference: high for C1 taps, low, high for the last C2 taps. -/
theorem length_filter_refHigh (c1 low c2 : Nat) :
    ((List.range (c1 + low + c2)).filter (refHigh (c1 + low + c2) c1 c2)).length = c1 + c2 := by
  have hfirst : (List.range c1).filter (refHigh (c1 + low + c2) c1 c2) = List.range c1 :=
    List.filter_eq_self.mpr fun u hu => by simp [refHigh, List.mem_range.mp hu]
  have hlow : ((List.range low).map (c1 + ·)).filter (refHigh (c1 + low + c2) c1 c2) = [] :=
    List.filter_eq_nil_iff.mpr fun u hu => by
      obtain ⟨x, hx, rfl⟩ := List.mem_map.mp hu
      have := List.mem_range.mp hx
      simp only [refHigh, Bool.or_eq_true, decide_eq_true_eq]; omega
  have hlast : ((List.range c2).map (c1 + low + ·)).filter (refHigh (c1 + low + c2) c1 c2) = (List.range c2).map (c1 + low + ·) :=
    List.filter_eq_self.mpr fun u hu => by
      obtain ⟨x, -, rfl⟩ := List.mem_map.mp hu
      simp only [refHigh, Bool.or_eq_true, decide_eq_true_eq]; omega
  simp only [List.range_add, List.filter_append, hfirst, hlow, hlast]
  simp

/-- Settles O18: the rows of Table 4-1, what loading a set and PWM_CMP_INIT put in force and show, and the laws of the clamp. -/
theorem compareClamp : Obligations.CompareClamp := by
  unfold Obligations.CompareClamp
  refine ⟨?rows, ?loadSet, ?loadInit, clampCompare_cases, fun h cmin _ _ hcd => clampCompare_mono h cmin hcd, ?duty⟩
  case rows =>
    exact fun h cmin c => ⟨clampCompare_of_half_le, clampCompare_of_lt_cmin,
      fun hc hm ha => clampCompare_of_half_lt_add hc hm (by omega), fun hc hm ha => clampCompare_of_add_le_half hc hm (by omega)⟩
  case loadSet =>
    rintro a edge c k _ s rfl
    refine ⟨?_, ?_, ?_, State.bits_rd_loadSet s a edge c k⟩
    · rw [State.hb_loadSet]; rfl
    · rintro rfl
      rw [State.hb_loadSet]; rfl
    · rintro rfl
      rw [State.hb_loadSet]; rfl
  case loadInit =>
    rintro a k _ s rfl
    exact ⟨congrArg HalfBridge.c1 (s.hb_loadInit a k), congrArg HalfBridge.c2 (s.hb_loadInit a k), s.bits_rd_loadInit a k⟩
  case duty =>
    intro t c1 c2 hle
    obtain ⟨low, rfl⟩ : ∃ low, t = c1 + low + c2 := ⟨t - (c1 + c2), by omega⟩
    exact length_filter_refHigh c1 low c2

end Sys2Proof.Machine
end

section
/-! SUPPORT. Unmapped addresses and absent windows (R4, R5, R428): what an access of either comes to, for any requester and for
the host, and what the record of an error of the host port (Table 19-9) shows and leaves. -/
namespace Sys2Proof.Machine
open Sys2Proof

/-! The record of an error of the host port. -/

@[simp] theorem State.dmaErr_mem (s : State) (bit d a q : Nat) (write : Bool) : (s.dmaErr bit d a q write).mem = s.mem := by simp [State.dmaErr]
@[simp] theorem State.dmaErr_slates (s : State) (bit d a q : Nat) (write : Bool) : (s.dmaErr bit d a q write).slates = s.slates := by simp [State.dmaErr]

theorem State.pageErr_dmaErr (s : State) (bit d a q : Nat) (write : Bool) (hb : bit < 32) :
    (s.dmaErr bit d a q write).pageErr P.host bit = true := by
  unfold State.pageErr State.dmaErr State.inc
  rw [State.rbit_setf_other _ _ _ _ _ _ _ (by decide), State.rbit_wr_other _ _ _ _ _ _ (by decide),
    State.rbit_wr_other _ _ _ _ _ _ (by decide)]
  exact State.rbit_err _ _ _ hb

theorem State.rd_dmaErr_addr (s : State) (bit d a q : Nat) (write : Bool) :
    (s.dmaErr bit d a q write).rd (P.host + R.HOST_ERR_ADDR) = a % 2 ^ 32 := by
  unfold State.dmaErr State.inc
  rw [State.rd_setf_other _ _ _ _ _ (by decide), State.rd_wr_other _ _ _ _ (by decide), State.rd_wr_same, Nat.mod_mod]

theorem State.rd_dmaErr_info (s : State) (bit d a q : Nat) (write : Bool) :
    (s.dmaErr bit d a q write).rd (P.host + R.HOST_ERR_INFO) =
      (2 ^ 31 + bit * 2 ^ 26 + write.toNat * 2 ^ 24 + d * 2 ^ 16 + reqCode q) % 2 ^ 32 := by
  unfold State.dmaErr State.inc
  rw [State.rd_setf_other _ _ _ _ _ (by decide), State.rd_wr_same]

/-- Only the error bits and the three registers of the record change. -/
theorem State.regsBut_dmaErr (s : State) (bit d a q : Nat) (write : Bool) :
    RegsBut [P.host + R.PAGE_ERR, P.host + R.HOST_ERR_ADDR, P.host + R.HOST_ERR_INFO, P.host + R.HOST_ERR_CNT]
      s (s.dmaErr bit d a q write) := by
  intro x hx
  simp only [List.mem_cons, List.not_mem_nil, or_false, not_or] at hx
  obtain ⟨herr, haddr, hinfo, hcnt⟩ := hx
  unfold State.dmaErr State.inc
  rw [State.rd_setf_other _ _ _ _ _ hcnt, State.rd_wr_other _ _ _ _ hinfo, State.rd_wr_other _ _ _ _ haddr,
    State.rd_err_other _ _ _ _ herr]

theorem reqCode_lt (q : Nat) : reqCode q < 2 ^ 10 := by
  unfold reqCode
  split_ifs <;> omega

/-- HOST_ERR_INFO after an error: VALID, KIND, WRITE, DOMAIN and REQ. -/
theorem State.bits_rd_dmaErr_info (s : State) {bit d : Nat} (a q : Nat) (write : Bool) (hb : bit < 16) (hd : d < 8) :
    let info := (s.dmaErr bit d a q write).rd (P.host + R.HOST_ERR_INFO)
    bits info 31 1 = 1 ∧ bits info 26 4 = bit ∧ bits info 24 1 = write.toNat ∧ bits info 16 3 = d ∧ bits info 0 10 = reqCode q := by
  have hq := reqCode_lt q
  have hw := Bool.toNat_le write
  simp only [State.rd_dmaErr_info, bits, Nat.shiftRight_eq_div_pow]
  omega

/-! Accesses of any requester. -/

theorem State.busRead_of_unmapped_or_absent {s : State} {a : Nat} (h : regionAt a = .unmapped ∨ s.absent a = true) (q n : Nat) :
    s.busRead q a n = { st := s } := by
  unfold State.busRead
  rcases h with h | h
  · rw [h, ite_self]
  · rw [if_pos h]

theorem State.busWrite_of_unmapped_or_absent {s : State} {a : Nat} (h : regionAt a = .unmapped ∨ s.absent a = true) (q n v : Nat) :
    s.busWrite q a n v = { st := s } := by
  unfold State.busWrite
  rcases h with h | h
  · rw [h, ite_self]
  · rw [if_pos h]

/-! Packets of the host. -/

theorem State.tlpKind_of_absent {s : State} {a : Nat} (h : s.absent a = true) (n : Nat) : s.tlpKind a n = .absent := if_pos h

theorem State.tlpKind_of_unmapped {s : State} {a : Nat} (habs : s.absent a = false) (h : regionAt a = .unmapped) (n : Nat) :
    s.tlpKind a n = .bad E.host_UNMAPPED := by
  simp [State.tlpKind, habs, h]

theorem exec_hostWrite (addr : BitVec 26) (data : List Byte) (s : State) :
    exec (.hostWrite addr data) s = .next (s.hostTlpWrite addr.toNat data) := rfl

theorem exec_hostRead (addr : BitVec 26) (n : Fin 513) (s : State) :
    exec (.hostRead addr n) s = .next (s.hostTlpRead addr.toNat n) := rfl

section HostPacket
variable {s : State} {a : Nat} (hup : s.hostUp = true)
include hup

theorem State.hostTlpWrite_of_absent {data : List Byte} (hk : s.tlpKind a data.length = .absent) : s.hostTlpWrite a data = s := by
  simp [State.hostTlpWrite, hup, hk]

theorem State.hostTlpWrite_of_bad {data : List Byte} {b : Nat} (hk : s.tlpKind a data.length = .bad b) :
    s.hostTlpWrite a data = s.hostErr b a true := by
  simp [State.hostTlpWrite, hup, hk]

theorem State.hostTlpRead_of_absent {n : Nat} (hk : s.tlpKind a n = .absent) : s.hostTlpRead a n = s.answer Req.host a 0 := by
  simp [State.hostTlpRead, hup, hk]

theorem State.hostTlpRead_of_bad {n b : Nat} (hk : s.tlpKind a n = .bad b) :
    s.hostTlpRead a n = (s.hostErr b a false).answer Req.host a 0 := by
  simp [State.hostTlpRead, hup, hk]

end HostPacket

/-- The answer is the newest of all. -/
theorem State.resp_answer (s : State) {q : Nat} (hq : q ≠ noReq) (a v : Nat) :
    (s.answer q a v).resp = ⟨q, a, v, false⟩ :: s.resp.filter fun x => x.req ≠ q := by
  simp [State.answer, State.respond, hq]

@[simp] theorem State.rd_answer (s : State) (q a v x : Nat) : (s.answer q a v).rd x = s.rd x := State.respond_rd ..

/-- The host's domain, a field of three bits. -/
theorem State.reqDom_host_lt (s : State) : (s.reqDom Req.host).getD 0 < 8 := bits_lt _ _ 3

/-- The record of an access of the host: its address and, in HOST_ERR_INFO, its kind, direction, domain and requester;
other registers, memory and the Slates stay. -/
def State.HostRecord (s t : State) (bit a : Nat) (write : Bool) : Prop :=
  let info := t.rd (P.host + R.HOST_ERR_INFO)
  t.rd (P.host + R.HOST_ERR_ADDR) = a ∧
    (bits info 31 1 = 1 ∧ bits info 26 4 = bit ∧ bits info 24 1 = write.toNat ∧ bits info 16 3 = (s.reqDom Req.host).getD 0 ∧
      bits info 0 10 = reqCode Req.host) ∧
    RegsBut [P.host + R.PAGE_ERR, P.host + R.HOST_ERR_ADDR, P.host + R.HOST_ERR_INFO, P.host + R.HOST_ERR_CNT] s t ∧
    t.mem = s.mem ∧ t.slates = s.slates

theorem State.hostErr_hostRecord (s : State) {bit : Nat} (hb : bit < 16) (addr : BitVec 26) (write : Bool) :
    s.HostRecord (s.hostErr bit addr.toNat write) bit addr.toNat write := by
  have haddr : addr.toNat < 2 ^ 32 := addr.isLt.trans (by decide)
  exact ⟨(s.rd_dmaErr_addr ..).trans (Nat.mod_eq_of_lt haddr), s.bits_rd_dmaErr_info _ _ _ hb s.reqDom_host_lt,
    s.regsBut_dmaErr _ _ _ _ _, s.dmaErr_mem .., s.dmaErr_slates ..⟩

/-- An answer to a requester leaves what was recorded. -/
theorem State.HostRecord.answer {s t : State} {bit a : Nat} {write : Bool} (h : s.HostRecord t bit a write) (q b v : Nat) :
    s.HostRecord (t.answer q b v) bit a write := by
  simpa [State.HostRecord, RegsBut, State.answer] using h

/-- Settles O12: an access ends at the absent windows and the region, before any permission is asked, and a packet of
the host is kept as one record. -/
theorem unmappedAccess : Obligations.UnmappedAccess := by
  unfold Obligations.UnmappedAccess
  refine ⟨?law, ?hostWrite, ?hostRead, ?absent⟩
  case law =>
    intro q a n v s h
    rw [State.busRead_of_unmapped_or_absent h, State.busWrite_of_unmapped_or_absent h]
    exact ⟨rfl, rfl, rfl, rfl, rfl⟩
  case hostWrite =>
    intro addr data s hup habs hun
    rw [Completes, exec_hostWrite, State.hostTlpWrite_of_bad hup (State.tlpKind_of_unmapped habs hun _)]
    exact ⟨_, rfl, s.pageErr_dmaErr _ _ _ _ _ (by decide), by decide, s.hostErr_hostRecord (by decide) addr true⟩
  case hostRead =>
    intro addr n s hup habs hun
    rw [Completes, exec_hostRead, State.hostTlpRead_of_bad hup (State.tlpKind_of_unmapped habs hun _)]
    have herr := s.pageErr_dmaErr E.host_UNMAPPED ((s.reqDom Req.host).getD 0) addr.toNat Req.host false (by decide)
    exact ⟨_, rfl, ⟨_, State.resp_answer _ (by decide) _ _⟩, (State.respond_rbit ..).trans herr,
      (s.hostErr_hostRecord (by decide) addr false).answer _ _ _⟩
  case absent =>
    intro addr data n s hup habs
    rw [exec_hostWrite, exec_hostRead, State.hostTlpWrite_of_absent hup (State.tlpKind_of_absent habs _),
      State.hostTlpRead_of_absent hup (State.tlpKind_of_absent habs _)]
    exact ⟨rfl, rfl⟩

end Sys2Proof.Machine
end

section
/-! SUPPORT. Frames and invariants over all commands, from what the machine's named setters keep (Laws/Keeps): the canonical form,
the fuses, the queue and the device inputs, BAR0 memory and Amber outside their writers. -/
namespace Sys2Proof.Machine
open Sys2Proof

/-- What every setter that `Closed` lists leaves: the queue, the device inputs, both memories, the boot record, and the canonical
form of the registers and of the shadow. -/
structure SetterKept (s t : State) : Prop where
  pending : t.pending = s.pending
  dev : t.dev = s.dev
  mem : t.mem = s.mem
  amber : t.amber = s.amber
  boot : t.boot = s.boot
  regs : RegFile.wf s.regs = true → RegFile.wf t.regs = true
  shadow : RegFile.wf s.shadow = true → RegFile.wf t.shadow = true

theorem SetterKept.respond (s : State) (r : Resp) : SetterKept s (s.respond r) := by
  constructor <;> simp

/-- A property that rests on what `SetterKept` lists alone is kept by every setter. -/
theorem SetterKept.closed {P : State → Prop} (hP : ∀ {s t}, SetterKept s t → P s → P t) : Closed P where
  wr s a v := hP { pending := rfl, dev := rfl, mem := rfl, amber := rfl, boot := rfl, regs := s.wr_regs_wf a v, shadow := id }
  setsh s a v := hP { pending := rfl, dev := rfl, mem := rfl, amber := rfl, boot := rfl, regs := id, shadow := s.setsh_wf a v }
  keepRegs s p := hP { pending := rfl, dev := rfl, mem := rfl, amber := rfl, boot := rfl, regs := s.keepRegs_wf p, shadow := id }
  respond s r := hP (.respond s r)
  draw _ := hP ⟨rfl, rfl, rfl, rfl, rfl, id, id⟩
  setSlate _ _ _ := hP ⟨rfl, rfl, rfl, rfl, rfl, id, id⟩
  setSlates _ _ := hP ⟨rfl, rfl, rfl, rfl, rfl, id, id⟩
  setAxis _ _ _ := hP ⟨rfl, rfl, rfl, rfl, rfl, id, id⟩
  setTime _ _ := hP ⟨rfl, rfl, rfl, rfl, rfl, id, id⟩
  setEvlog _ _ := hP ⟨rfl, rfl, rfl, rfl, rfl, id, id⟩
  setCorrections _ _ := hP ⟨rfl, rfl, rfl, rfl, rfl, id, id⟩
  setEcc _ _ := hP ⟨rfl, rfl, rfl, rfl, rfl, id, id⟩
  setReplies _ _ := hP ⟨rfl, rfl, rfl, rfl, rfl, id, id⟩
  setCleaning _ _ := hP ⟨rfl, rfl, rfl, rfl, rfl, id, id⟩
  setMsi _ _ := hP ⟨rfl, rfl, rfl, rfl, rfl, id, id⟩
  setFault _ _ := hP ⟨rfl, rfl, rfl, rfl, rfl, id, id⟩
  latch _ _ _ _ := hP ⟨rfl, rfl, rfl, rfl, rfl, id, id⟩
  setEng _ _ _ := hP ⟨rfl, rfl, rfl, rfl, rfl, id, id⟩
  setTooth _ _ _ := hP ⟨rfl, rfl, rfl, rfl, rfl, id, id⟩
  setTrunk _ _ _ := hP ⟨rfl, rfl, rfl, rfl, rfl, id, id⟩
  setFsch _ _ _ _ := hP ⟨rfl, rfl, rfl, rfl, rfl, id, id⟩
  setNet _ _ := hP ⟨rfl, rfl, rfl, rfl, rfl, id, id⟩
  setTrack _ _ := hP ⟨rfl, rfl, rfl, rfl, rfl, id, id⟩
  setSafety _ _ := hP ⟨rfl, rfl, rfl, rfl, rfl, id, id⟩
  setCap _ _ := hP ⟨rfl, rfl, rfl, rfl, rfl, id, id⟩
  setPower _ _ := hP ⟨rfl, rfl, rfl, rfl, rfl, id, id⟩
  setMgmt _ _ := hP ⟨rfl, rfl, rfl, rfl, rfl, id, id⟩

/-- What holds of every command, with what only the writers of BAR0 memory and of Amber need asked of those alone. -/
theorem exec_keeps_of_writer {P : State → Prop} (c : Instr) {s t : State} (H : Closed P) (HM : c.mayWriteMem = true → ClosedMem P)
    (HA : c.mayWriteAmber = true → ClosedAmber P) (HB : ClosedBoot P) (HR : c.mayWriteMem = true → ClosedReset P)
    (hP : Holds P s) (he : exec c s = .next t) : Holds P t := by
  cases c with
  | samplingInstant a edge => exact execSamplingInstant_keeps _ _ _ _ H hP he
  | conversionComplete a iu iv iw vbus => exact execConversionComplete_keeps _ _ _ _ _ _ _ H hP he
  | downstreamFrame sl rx => exact execDownstreamFrame_keeps _ _ _ _ H hP he
  | upstreamFrame sl rx => exact execUpstreamFrame_keeps _ _ _ _ H hP he
  | downstreamFrameSend sl => exact execDownstreamFrameSend_keeps _ _ _ H hP he
  | upstreamFrameSend sl => exact execUpstreamFrameSend_keeps _ _ _ H hP he
  | evaluationStart a => exact execEvaluationStart_keeps _ _ _ H (HM rfl) hP he
  | updateInstant a => exact execUpdateInstant_keeps _ _ _ H hP he
  | enterSafeHold => exact execEnterSafeHold_keeps _ _ H hP he
  | enterBasic a b => exact execEnterBasic_keeps _ _ _ _ H (HM rfl) (HA rfl) HB (HR rfl) hP he
  | enterFull => exact execEnterFull_keeps _ _ H hP he
  | refSel v => exact execRefSel_keeps _ _ _ H hP he
  | refclkLoss cab => exact execRefclkLoss_keeps _ _ _ H hP he
  | holdoverExpiry => exact execHoldoverExpiry_keeps _ _ H (HR rfl) hP he
  | altDevMeasure ppm => exact execAltDevMeasure_keeps _ _ _ H hP he
  | timeTickLo q => exact execTimeTickLo_keeps _ _ _ H hP he
  | timeSubns q => exact execTimeSubns_keeps _ _ _ H hP he
  | timeCmtGo v => exact execTimeCmtGo_keeps _ _ _ H hP he
  | timeStageWrite r v => exact execTimeStageWrite_keeps _ _ _ _ H hP he
  | commitTakeEffect => exact execCommitTakeEffect_keeps _ _ H hP he
  | timeMeasOfs v => exact execTimeMeasOfs_keeps _ _ _ H hP he
  | netHoldoverExpiry => exact execNetHoldoverExpiry_keeps _ _ H hP he
  | netMaster on => exact execNetMaster_keeps _ _ _ H hP he
  | linkDelayMeasured sl => exact execLinkDelayMeasured_keeps _ _ _ H hP he
  | slatePowerUp sl => exact execSlatePowerUp_keeps _ _ _ H hP he
  | slatePowerLoss sl => exact execSlatePowerLoss_keeps _ _ _ H hP he
  | slateSilenceTimeout sl => exact execSlateSilenceTimeout_keeps _ _ _ H hP he
  | linkTimeout sl => exact execLinkTimeout_keeps _ _ _ H hP he
  | release sl => exact execRelease_keeps _ _ _ H hP he
  | safeCmdClear sl => exact execSafeCmdClear_keeps _ _ _ H hP he
  | slateRegWrite q addr v => exact execSlateRegWrite_keeps _ _ _ _ _ H (HM rfl) (HA rfl) HB (HR rfl) hP he
  | slateRegRead q addr => exact execSlateRegRead_keeps _ _ _ _ H hP he
  | forwardedReadTimeout sl => exact execForwardedReadTimeout_keeps _ _ _ H hP he
  | sidebandSend sl fromFlint halls pts => exact execSidebandSend_keeps _ _ _ _ _ _ H hP he
  | sidebandFrameAtSlate sl rx => exact execSidebandFrameAtSlate_keeps _ _ _ _ H hP he
  | sidebandFrameAtFlint sl rx => exact execSidebandFrameAtFlint_keeps _ _ _ _ H hP he
  | sbDown sl => exact execSbDown_keeps _ _ _ H hP he
  | eventLogRelease => exact execEventLogRelease_keeps _ _ H (HM rfl) hP he
  | carrierRun sl v => exact execCarrierRun_keeps _ _ _ _ H hP he
  | carrierEdge sl => exact execCarrierEdge_keeps _ _ _ H hP he
  | carrierApplyGo sl v => exact execCarrierApplyGo_keeps _ _ _ _ H hP he
  | axisEdge a => exact execAxisEdge_keeps _ _ _ H hP he
  | pwmEdge t e otherLow => exact execPwmEdge_keeps _ _ _ _ _ H hP he
  | pwmPhaseWrite a v => exact execPwmPhaseWrite_keeps _ _ _ _ H hP he
  | delayLineSwap sl ix delta bad => exact execDelayLineSwap_keeps _ _ _ _ _ _ H hP he
  | calDone sl bad => exact execCalDone_keeps _ _ _ _ H hP he
  | pwmEn a v => exact execPwmEn_keeps _ _ _ _ H hP he
  | prechargeEnd a => exact execPrechargeEnd_keeps _ _ _ H hP he
  | tripQualify a src => exact execTripQualify_keeps _ _ _ _ H hP he
  | tripLatchClear a => exact execTripLatchClear_keeps _ _ _ H hP he
  | chopPeriodStart sl => exact execChopPeriodStart_keeps _ _ _ H hP he
  | chopTrip sl ocp => exact execChopTrip_keeps _ _ _ _ H hP he
  | timerTrigger sl code => exact execTimerTrigger_keeps _ _ _ _ H hP he
  | timerWindowOpen sl n => exact execTimerWindowOpen_keeps _ _ _ _ H hP he
  | timerWindowClose sl n => exact execTimerWindowClose_keeps _ _ _ _ H hP he
  | gatePhaseAdvance sl ix => exact execGatePhaseAdvance_keeps _ _ _ _ H hP he
  | tonTmo sl ix => exact execTonTmo_keeps _ _ _ _ H hP he
  | turnOnRelease sl ix => exact execTurnOnRelease_keeps _ _ _ _ H hP he
  | glock sl ix => exact execGlock_keeps _ _ _ _ H hP he
  | vgdLockout sl enter => exact execVgdLockout_keeps _ _ _ _ H hP he
  | vgdUvReport sl => exact execVgdUvReport_keeps _ _ _ H hP he
  | bstLockout sl k enter => exact execBstLockout_keeps _ _ _ _ _ H hP he
  | otShut sl enter => exact execOtShut_keeps _ _ _ _ H hP he
  | desatReport sl ix on => exact execDesatReport_keeps _ _ _ _ _ H hP he
  | ocpAssert sl ph on => exact execOcpAssert_keeps _ _ _ _ _ H hP he
  | adcCalGo sl mask => exact execAdcCalGo_keeps _ _ _ _ H hP he
  | adcCalComplete sl n u v w => exact execAdcCalComplete_keeps _ _ _ _ _ _ _ H hP he
  | backgroundConversion sl ch k v => exact execBackgroundConversion_keeps _ _ _ _ _ _ H hP he
  | hallChange a lands t0 => exact execHallChange_keeps _ _ _ _ _ H hP he
  | abzEdge a la lb t0 => exact execAbzEdge_keeps _ _ _ _ _ _ H hP he
  | index a t0 => exact execIndex_keeps _ _ _ _ H hP he
  | fbModeWrite a v lands => exact execFbModeWrite_keeps _ _ _ _ _ H hP he
  | serialRequest a => exact execSerialRequest_keeps _ _ _ H hP he
  | serialReading a start raw raw2 => exact execSerialReading_keeps _ _ _ _ _ _ H hP he
  | fbPosRead q a => exact execFbPosRead_keeps _ _ _ _ H hP he
  | preset a => exact execPreset_keeps _ _ _ H hP he
  | fbWrapWrite a v => exact execFbWrapWrite_keeps _ _ _ _ H hP he
  | fbStill a => exact execFbStill_keeps _ _ _ H hP he
  | virtualTooth t => exact execVirtualTooth_keeps _ _ _ H hP he
  | toothStill t => exact execToothStill_keeps _ _ _ H hP he
  | toothEnable t v => exact execToothEnable_keeps _ _ _ _ H hP he
  | research t => exact execResearch_keeps _ _ _ H hP he
  | toothPosRead q t => exact execToothPosRead_keeps _ _ _ _ H hP he
  | ecallReply g => exact execEcallReply_keeps _ _ _ H (HM rfl) hP he
  | ecallTmo a => exact execEcallTmo_keeps _ _ _ H (HM rfl) hP he
  | apply a => exact execApply_keeps _ _ _ H hP he
  | graphValidate a => exact execGraphValidate_keeps _ _ _ H hP he
  | descriptorWrite q g off sz v => exact execDescriptorWrite_keeps _ _ _ _ _ _ _ H (HM rfl) hP he
  | holdRelease a => exact execHoldRelease_keeps _ _ _ H (HM rfl) hP he
  | descriptorWritesApply a => exact execDescriptorWritesApply_keeps _ _ _ H (HM rfl) hP he
  | loopRun a on => exact execLoopRun_keeps _ _ _ _ H hP he
  | loopPosLoRead q a => exact execLoopPosLoRead_keeps _ _ _ _ H hP he
  | luDescRangeWrite g j v => exact execLuDescRangeWrite_keeps _ _ _ _ _ H hP he
  | engRst e => exact execEngRst_keeps _ _ _ H hP he
  | engRstRelease e => exact execEngRstRelease_keeps _ _ _ H hP he
  | engGo e => exact execEngGo_keeps _ _ _ H hP he
  | engStep e => exact execEngStep_keeps _ _ _ H hP he
  | engHalt e => exact execEngHalt_keeps _ _ _ H hP he
  | engineWake e => exact execEngineWake_keeps _ _ _ H hP he
  | exceptionEntry e => exact execExceptionEntry_keeps _ _ _ H hP he
  | breakpointMatch e => exact execBreakpointMatch_keeps _ _ _ H hP he
  | engWdogExpiry e => exact execEngWdogExpiry_keeps _ _ _ H hP he
  | ioWdogKick e => exact execIoWdogKick_keeps _ _ _ H hP he
  | ioCallPop e => exact execIoCallPop_keeps _ _ _ H hP he
  | ioMailPop e => exact execIoMailPop_keeps _ _ _ H hP he
  | sendReply e len => exact execSendReply_keeps _ _ _ _ H hP he
  | sendMail e t len => exact execSendMail_keeps _ _ _ _ _ H hP he
  | sendHostMail e len => exact execSendHostMail_keeps _ _ _ _ H hP he
  | engMailSend e len => exact execEngMailSend_keeps _ _ _ _ H hP he
  | engHmailPop e => exact execEngHmailPop_keeps _ _ _ H hP he
  | engDbgDataWrite e v => exact execEngDbgDataWrite_keeps _ _ _ _ H hP he
  | engPcWrite e v => exact execEngPcWrite_keeps _ _ _ _ H hP he
  | externalMemoryWrite q addr sz v => exact execExternalMemoryWrite_keeps _ _ _ _ _ _ H (HM rfl) hP he
  | ioCycleLoRead e => exact execIoCycleLoRead_keeps _ _ _ H hP he
  | sharedReadComplete e => exact execSharedReadComplete_keeps _ _ _ H hP he
  | fabricReadComplete e => exact execFabricReadComplete_keeps _ _ _ H hP he
  | modeWriteTakeEffect e => exact execModeWriteTakeEffect_keeps _ _ _ H hP he
  | mov e => exact execMov_keeps _ _ _ H hP he
  | add e => exact execAdd_keeps _ _ _ H hP he
  | sub e => exact execSub_keeps _ _ _ H hP he
  | adds e => exact execAdds_keeps _ _ _ H hP he
  | subs e => exact execSubs_keeps _ _ _ H hP he
  | andOp e => exact execAndOp_keeps _ _ _ H hP he
  | orOp e => exact execOrOp_keeps _ _ _ H hP he
  | xor e => exact execXor_keeps _ _ _ H hP he
  | andn e => exact execAndn_keeps _ _ _ H hP he
  | shl e => exact execShl_keeps _ _ _ H hP he
  | shr e => exact execShr_keeps _ _ _ H hP he
  | sar e => exact execSar_keeps _ _ _ H hP he
  | mul e => exact execMul_keeps _ _ _ H hP he
  | mulf e => exact execMulf_keeps _ _ _ H hP he
  | minOp e => exact execMinOp_keeps _ _ _ H hP he
  | maxOp e => exact execMaxOp_keeps _ _ _ H hP he
  | abs e => exact execAbs_keeps _ _ _ H hP he
  | neg e => exact execNeg_keeps _ _ _ H hP he
  | clz e => exact execClz_keeps _ _ _ H hP he
  | cmp e => exact execCmp_keeps _ _ _ H hP he
  | addi e => exact execAddi_keeps _ _ _ H hP he
  | andi e => exact execAndi_keeps _ _ _ H hP he
  | ori e => exact execOri_keeps _ _ _ H hP he
  | xori e => exact execXori_keeps _ _ _ H hP he
  | cmpi e => exact execCmpi_keeps _ _ _ H hP he
  | shi e => exact execShi_keeps _ _ _ H hP he
  | movil e => exact execMovil_keeps _ _ _ H hP he
  | movih e => exact execMovih_keeps _ _ _ H hP he
  | ld e => exact execLd_keeps _ _ _ H hP he
  | st e => exact execSt_keeps _ _ _ H (HM rfl) hP he
  | sta e => exact execSta_keeps _ _ _ H (HM rfl) hP he
  | mac e => exact execMac_keeps _ _ _ H hP he
  | msu e => exact execMsu_keeps _ _ _ H hP he
  | mpy e => exact execMpy_keeps _ _ _ H hP he
  | ldp e => exact execLdp_keeps _ _ _ H hP he
  | aclr e => exact execAclr_keeps _ _ _ H hP he
  | amov e => exact execAmov_keeps _ _ _ H hP he
  | aadd e => exact execAadd_keeps _ _ _ H hP he
  | asub e => exact execAsub_keeps _ _ _ H hP he
  | aneg e => exact execAneg_keeps _ _ _ H hP he
  | aabs e => exact execAabs_keeps _ _ _ H hP he
  | ashl e => exact execAshl_keeps _ _ _ H hP he
  | asar e => exact execAsar_keeps _ _ _ H hP he
  | aload e => exact execAload_keeps _ _ _ H hP he
  | aloadl e => exact execAloadl_keeps _ _ _ H hP he
  | ast e => exact execAst_keeps _ _ _ H hP he
  | asat e => exact execAsat_keeps _ _ _ H hP he
  | arnd e => exact execArnd_keeps _ _ _ H hP he
  | nop e => exact execNop_keeps _ _ _ H hP he
  | wait e => exact execWait_keeps _ _ _ H hP he
  | rete e => exact execRete_keeps _ _ _ H hP he
  | brk e => exact execBrk_keeps _ _ _ H hP he
  | movs e => exact execMovs_keeps _ _ _ H hP he
  | padd e => exact execPadd_keeps _ _ _ H hP he
  | mdset e => exact execMdset_keeps _ _ _ H hP he
  | mdclr e => exact execMdclr_keeps _ _ _ H hP he
  | b e => exact execB_keeps _ _ _ H hP he
  | br e => exact execBr_keeps _ _ _ H hP he
  | call e => exact execCall_keeps _ _ _ H hP he
  | callr e => exact execCallr_keeps _ _ _ H hP he
  | loopOp e => exact execLoopOp_keeps _ _ _ H hP he
  | lpop e => exact execLpop_keeps _ _ _ H hP he
  | setpointCompute a => exact execSetpointCompute_keeps _ _ _ H hP he
  | move a => exact execMove_keeps _ _ _ H hP he
  | vel a => exact execVel_keeps _ _ _ H hP he
  | gear a => exact execGear_keeps _ _ _ H hP he
  | stop a => exact execStop_keeps _ _ _ H hP he
  | path a => exact execPath_keeps _ _ _ H hP he
  | trkEnable k v => exact execTrkEnable_keeps _ _ _ _ H hP he
  | trkSegPush k => exact execTrkSegPush_keeps _ _ _ H hP he
  | flush k => exact execFlush_keeps _ _ _ H hP he
  | trkPosRead q k => exact execTrkPosRead_keeps _ _ _ _ H hP he
  | prfSpRead q a => exact execPrfSpRead_keeps _ _ _ _ H hP he
  | brOfsNowRead q a => exact execBrOfsNowRead_keeps _ _ _ _ H hP he
  | insertItem d => exact execInsertItem_keeps _ _ _ H (HM rfl) hP he
  | insertEvent d => exact execInsertEvent_keeps _ _ _ H (HM rfl) hP he
  | cancel d ix => exact execCancel_keeps _ _ _ _ H (HM rfl) hP he
  | delete d ix => exact execDelete_keeps _ _ _ _ H (HM rfl) hP he
  | shift d ix => exact execShift_keeps _ _ _ _ H (HM rfl) hP he
  | read d ix => exact execRead_keeps _ _ _ _ H hP he
  | heldInsertRelease d => exact execHeldInsertRelease_keeps _ _ _ H (HM rfl) hP he
  | compareInstant a => exact execCompareInstant_keeps _ _ _ H (HM rfl) hP he
  | eventFire ix => exact execEventFire_keeps _ _ _ H (HM rfl) hP he
  | windowOpen ix => exact execWindowOpen_keeps _ _ _ H (HM rfl) hP he
  | notSeen ix => exact execNotSeen_keeps _ _ _ H (HM rfl) hP he
  | correctionApply => exact execCorrectionApply_keeps _ _ H (HM rfl) hP he
  | rebuild => exact execRebuild_keeps _ _ H hP he
  | rebuildComplete => exact execRebuildComplete_keeps _ _ H hP he
  | merge a => exact execMerge_keeps _ _ _ H hP he
  | init => exact execInit_keeps _ _ H (HM rfl) hP he
  | trackRgnWrite d v => exact execTrackRgnWrite_keeps _ _ _ _ H (HM rfl) hP he
  | offer k m => exact execOffer_keeps _ _ _ _ H (HM rfl) hP he
  | accept k m => exact execAccept_keeps _ _ _ _ H (HM rfl) hP he
  | refuse k m => exact execRefuse_keeps _ _ _ _ H (HM rfl) hP he
  | commit k m => exact execCommit_keeps _ _ _ _ H (HM rfl) hP he
  | doneMsg k m => exact execDoneMsg_keeps _ _ _ _ H (HM rfl) hP he
  | withdraw k m => exact execWithdraw_keeps _ _ _ _ H (HM rfl) hP he
  | resolve k m => exact execResolve_keeps _ _ _ _ H (HM rfl) hP he
  | hello k dn m => exact execHello_keeps _ _ _ _ _ H hP he
  | helloSend k => exact execHelloSend_keeps _ _ _ H hP he
  | sessionDown k dn => exact execSessionDown_keeps _ _ _ _ H hP he
  | hoRetry ix => exact execHoRetry_keeps _ _ _ H hP he
  | commitTmo ix => exact execCommitTmo_keeps _ _ _ H (HM rfl) hP he
  | heldCommitTimeout ix => exact execHeldCommitTimeout_keeps _ _ _ H (HM rfl) hP he
  | doubtTmo ix => exact execDoubtTmo_keeps _ _ _ H (HM rfl) hP he
  | rgnRptPop d => exact execRgnRptPop_keeps _ _ _ H hP he
  | fieldInputChange sl j lvl t0 => exact execFieldInputChange_keeps _ _ _ _ _ _ H hP he
  | pulseWindow sl levels => exact execPulseWindow_keeps _ _ _ _ H hP he
  | fieldVoltageMeasure sl j mv => exact execFieldVoltageMeasure_keeps _ _ _ _ _ H hP he
  | stuck sl j => exact execStuck_keeps _ _ _ _ H hP he
  | short sl j => exact execShort_keeps _ _ _ _ H hP he
  | shortRetry sl j => exact execShortRetry_keeps _ _ _ _ H hP he
  | shortClear sl mask => exact execShortClear_keeps _ _ _ _ H hP he
  | openLoad sl j => exact execOpenLoad_keeps _ _ _ _ H hP he
  | readbackMismatch sl j land => exact execReadbackMismatch_keeps _ _ _ _ _ H hP he
  | vfieldUv sl enter => exact execVfieldUv_keeps _ _ _ _ H hP he
  | fioCfgWrite sl j v land => exact execFioCfgWrite_keeps _ _ _ _ _ _ H hP he
  | outputDischarged sl j land => exact execOutputDischarged_keeps _ _ _ _ _ H hP he
  | fioOutWrite sl data mask => exact execFioOutWrite_keeps _ _ _ _ _ H hP he
  | scheduledTransition sl c => exact execScheduledTransition_keeps _ _ _ _ H hP he
  | fschMapWrite sl c v => exact execFschMapWrite_keeps _ _ _ _ _ H hP he
  | fschGo sl c level => exact execFschGo_keeps _ _ _ _ _ H hP he
  | fschCancel sl c => exact execFschCancel_keeps _ _ _ _ H hP he
  | fschSend sl c => exact execFschSend_keeps _ _ _ _ H hP he
  | fschDone sl c => exact execFschDone_keeps _ _ _ _ H hP he
  | frameReceive p rx => exact execFrameReceive_keeps _ _ _ _ H (HM rfl) hP he
  | frameStart p => exact execFrameStart_keeps _ _ _ H (HM rfl) hP he
  | frameSent p sfd => exact execFrameSent_keeps _ _ _ _ H (HM rfl) hP he
  | launch p => exact execLaunch_keeps _ _ _ H (HM rfl) hP he
  | portLinkUp p => exact execPortLinkUp_keeps _ _ _ H hP he
  | portLinkDown p hiBer => exact execPortLinkDown_keeps _ _ _ _ H (HM rfl) hP he
  | autoModeSwitch p => exact execAutoModeSwitch_keeps _ _ _ H hP he
  | netCfgWrite p v => exact execNetCfgWrite_keeps _ _ _ _ H (HM rfl) hP he
  | ringTestSend r => exact execRingTestSend_keeps _ _ _ H hP he
  | ringOpen r => exact execRingOpen_keeps _ _ _ H hP he
  | txTailWrite d v => exact execTxTailWrite_keeps _ _ _ _ H hP he
  | txDescriptorFetch d h => exact execTxDescriptorFetch_keeps _ _ _ _ H (HM rfl) hP he
  | rxTailWrite d v => exact execRxTailWrite_keeps _ _ _ _ H hP he
  | netTsqPop p => exact execNetTsqPop_keeps _ _ _ H hP he
  | netCbsWrite p q v => exact execNetCbsWrite_keeps _ _ _ _ _ H hP he
  | swBufRsvWrite q v => exact execSwBufRsvWrite_keeps _ _ _ _ H hP he
  | cycleMark count => exact execCycleMark_keeps _ _ _ H (HM rfl) hP he
  | markMissing => exact execMarkMissing_keeps _ _ H hP he
  | recordA => exact execRecordA_keeps _ _ H hP he
  | recordB => exact execRecordB_keeps _ _ H hP he
  | recordDeadline atFlint => exact execRecordDeadline_keeps _ _ _ H hP he
  | lockstepMismatch => exact execLockstepMismatch_keeps _ _ H hP he
  | flintSelfTestFail => exact execFlintSelfTestFail_keeps _ _ H hP he
  | pairDiscrepancy flint pair => exact execPairDiscrepancy_keeps _ _ _ _ H hP he
  | ss1TExpiry z => exact execSs1TExpiry_keeps _ _ _ H hP he
  | sbcDlyExpiry f => exact execSbcDlyExpiry_keeps _ _ _ H hP he
  | safeReqWrite v => exact execSafeReqWrite_keeps _ _ _ H hP he
  | safeBrkReqWrite q hi v => exact execSafeBrkReqWrite_keeps _ _ _ _ _ H hP he
  | dscReceive p body => exact execDscReceive_keeps _ _ _ _ H hP he
  | dscDataSend c => exact execDscDataSend_keeps _ _ _ H hP he
  | dscConnectSend c => exact execDscConnectSend_keeps _ _ _ H hP he
  | dscExpiry c => exact execDscExpiry_keeps _ _ _ H hP he
  | tpcWindowExpiry c => exact execTpcWindowExpiry_keeps _ _ _ H hP he
  | faultRise ix => exact execFaultRise_keeps _ _ _ H (HM rfl) hP he
  | faultSourceClear hi v => exact execFaultSourceClear_keeps _ _ _ _ H hP he
  | dssClr => exact execDssClr_keeps _ _ H hP he
  | domHaltRelease mask => exact execDomHaltRelease_keeps _ _ _ H hP he
  | faultLogPop => exact execFaultLogPop_keeps _ _ H hP he
  | partnerReport v => exact execPartnerReport_keeps _ _ _ H hP he
  | partnerRecordClose => exact execPartnerRecordClose_keeps _ _ H hP he
  | faultPrPop => exact execFaultPrPop_keeps _ _ H hP he
  | traceEntry r j n => exact execTraceEntry_keeps _ _ _ _ _ H (HM rfl) hP he
  | trcArm r => exact execTrcArm_keeps _ _ _ H (HM rfl) hP he
  | trcStop r => exact execTrcStop_keeps _ _ _ H hP he
  | trcForce r => exact execTrcForce_keeps _ _ _ H hP he
  | traceTrigger r => exact execTraceTrigger_keeps _ _ _ H hP he
  | traceTimeTrigger r => exact execTraceTimeTrigger_keeps _ _ _ H hP he
  | trcRgnWrite d v => exact execTrcRgnWrite_keeps _ _ _ _ H (HM rfl) hP he
  | trigInEdge n level tap => exact execTrigInEdge_keeps _ _ _ _ _ H hP he
  | trigInPop mask => exact execTrigInPop_keeps _ _ _ H hP he
  | tbusPulse mask => exact execTbusPulse_keeps _ _ _ H hP he
  | tbusAt n => exact execTbusAt_keeps _ _ _ H hP he
  | tbusEdge n own tap => exact execTbusEdge_keeps _ _ _ _ _ H hP he
  | tbusPop mask => exact execTbusPop_keeps _ _ _ H hP he
  | tbusCal mask => exact execTbusCal_keeps _ _ _ H hP he
  | tbusCalDone n => exact execTbusCalDone_keeps _ _ _ H hP he
  | snapGo => exact execSnapGo_keeps _ _ H hP he
  | snapAt => exact execSnapAt_keeps _ _ H hP he
  | slateSnapshotAnswer sl => exact execSlateSnapshotAnswer_keeps _ _ _ H hP he
  | snapBusyEnd => exact execSnapBusyEnd_keeps _ _ H hP he
  | assignmentWrite addr v => exact execAssignmentWrite_keeps _ _ _ _ H (HM rfl) hP he
  | cleaningDone => exact execCleaningDone_keeps _ _ H hP he
  | domLock => exact execDomLock_keeps _ _ H hP he
  | copyIn => exact execCopyIn_keeps _ _ H HB hP he
  | copyOut => exact execCopyOut_keeps _ _ H HB hP he
  | verify slot => exact execVerify_keeps _ _ _ H HB hP he
  | switch slot trial => exact execSwitch_keeps _ _ _ _ H HB hP he
  | confirm => exact execConfirm_keeps _ _ H HB hP he
  | raiseFloor => exact execRaiseFloor_keeps _ _ H HB hP he
  | fuseKey key => exact execFuseKey_keeps _ _ _ H HB hP he
  | revoke key => exact execRevoke_keeps _ _ _ H HB hP he
  | boot slot => exact execBoot_keeps _ _ _ H HB hP he
  | amberCmdComplete x src => exact execAmberCmdComplete_keeps _ _ _ _ H (HM rfl) (HA rfl) HB hP he
  | trialExpiry => exact execTrialExpiry_keeps _ _ H (HR rfl) hP he
  | imageLoad x other => exact execImageLoad_keeps _ _ _ _ H (HM rfl) (HA rfl) HB (HR rfl) hP he
  | restore us => exact execRestore_keeps _ _ _ H (HM rfl) (HA rfl) hP he
  | powerOnReset => exact execPowerOnReset_keeps _ _ H (HR rfl) hP he
  | externalReset => exact execExternalReset_keeps _ _ H (HR rfl) hP he
  | sysReset key => exact execSysReset_keeps _ _ _ H (HA rfl) HB (HR rfl) hP he
  | sysResetSave key => exact execSysResetSave_keeps _ _ _ H (HA rfl) HB (HR rfl) hP he
  | sysWdogExpiry => exact execSysWdogExpiry_keeps _ _ H (HR rfl) hP he
  | sysWdogKick => exact execSysWdogKick_keeps _ _ H hP he
  | pllLock p => exact execPllLock_keeps _ _ _ H hP he
  | flintSelfTestPass => exact execFlintSelfTestPass_keeps _ _ H hP he
  | sagDetect pfail => exact execSagDetect_keeps _ _ _ H (HA rfl) HB hP he
  | saveComplete => exact execSaveComplete_keeps _ _ H (HA rfl) (HR rfl) hP he
  | holdCollapse => exact execHoldCollapse_keeps _ _ H hP he
  | sagEnd => exact execSagEnd_keeps _ _ H (HR rfl) hP he
  | holdCapMeasure uF => exact execHoldCapMeasure_keeps _ _ _ H hP he
  | softReset q addr snap => exact execSoftReset_keeps _ _ _ _ _ H (HM rfl) (HA rfl) HB (HR rfl) hP he
  | hostWrite addr data => exact execHostWrite_keeps _ _ _ _ H (HM rfl) (HA rfl) HB (HR rfl) hP he
  | hostRead addr n => exact execHostRead_keeps _ _ _ _ H hP he
  | hostUnsupported => exact execHostUnsupported_keeps _ _ H hP he
  | flr => exact execFlr_keeps _ _ H (HA rfl) HB hP he
  | perst => exact execPerst_keeps _ _ H (HA rfl) HB hP he
  | pcieLinkDown => exact execPcieLinkDown_keeps _ _ H (HA rfl) HB hP he
  | msixUnmask v => exact execMsixUnmask_keeps _ _ _ H (HM rfl) (HA rfl) HB (HR rfl) hP he
  | dmaTmo r => exact execDmaTmo_keeps _ _ _ H (HM rfl) (HA rfl) HB hP he
  | mgmtRead p src body tagOk tag => exact execMgmtRead_keeps _ _ _ _ _ _ _ H (HM rfl) (HA rfl) HB (HR rfl) hP he
  | mgmtWrite p src body tagOk tag => exact execMgmtWrite_keeps _ _ _ _ _ _ _ H (HM rfl) (HA rfl) HB (HR rfl) hP he
  | mgmtStatus p src body tagOk tag => exact execMgmtStatus_keeps _ _ _ _ _ _ _ H (HM rfl) (HA rfl) HB (HR rfl) hP he
  | pageErrClear q addr v => exact execPageErrClear_keeps _ _ _ _ _ H (HM rfl) (HA rfl) HB (HR rfl) hP he
  | counterClear q addr => exact execCounterClear_keeps _ _ _ _ H (HM rfl) (HA rfl) HB (HR rfl) hP he
  | registerWrite q addr v => exact execRegisterWrite_keeps _ _ _ _ _ H (HM rfl) (HA rfl) HB (HR rfl) hP he
  | toothInputEdge sl j lvl t0 => exact execToothInputEdge_keeps _ _ _ _ _ _ H hP he
  | pllUnlock p => exact execPllUnlock_keeps _ _ _ H (HR rfl) hP he
  | inactiveRefLoss cab absent => exact execInactiveRefLoss_keeps _ _ _ _ H hP he
  | refclkRecovery cab => exact execRefclkRecovery_keeps _ _ _ H hP he
  | postedWriteComplete e fabric => exact execPostedWriteComplete_keeps _ _ _ _ H (HM rfl) (HA rfl) HB (HR rfl) hP he
  | resetRelease => exact execResetRelease_keeps _ _ H hP he
  | pcieLinkUp gen x2 => exact execPcieLinkUp_keeps _ _ _ _ H hP he
  | pcieConfigWrite bme msix fmask => exact execPcieConfigWrite_keeps _ _ _ _ _ H hP he
  | amberScrub addr found => exact execAmberScrub_keeps _ _ _ _ H hP he
  | holdOkChange ok => exact execHoldOkChange_keeps _ _ _ H hP he

/-! The canonical form. -/

/-- BAR0 memory, Amber, the registers and the shadow are in canonical form. -/
def State.Canonical (s : State) : Prop :=
  Memory.wf s.mem = true ∧ Memory.wf s.amber = true ∧ RegFile.wf s.regs = true ∧ RegFile.wf s.shadow = true

theorem closed_canonical : Closed State.Canonical :=
  SetterKept.closed fun k ⟨hm, ha, hr, hs⟩ => ⟨k.mem ▸ hm, k.amber ▸ ha, k.regs hr, k.shadow hs⟩

theorem closedMem_canonical : ClosedMem State.Canonical where
  setByte s a v := fun ⟨hm, hrest⟩ => ⟨s.setByte_mem_wf a v hm, hrest⟩
  clearMem s a n := fun ⟨hm, hrest⟩ => ⟨s.clearMem_mem_wf a n hm, hrest⟩
  restoreTable s := fun ⟨hm, ha, hrest⟩ => ⟨s.restoreTable_wf hm ha, ha, hrest⟩

theorem closedAmber_canonical : ClosedAmber State.Canonical where
  setAbyte s a v := fun ⟨hm, ha, hrest⟩ => ⟨hm, s.setAbyte_amber_wf a v ha, hrest⟩
  azero s a n := fun ⟨hm, ha, hrest⟩ => ⟨hm, s.azero_amber_wf a n ha, hrest⟩
  saveTable s := fun ⟨hm, ha, hrest⟩ => ⟨hm, s.saveTable_wf hm ha, hrest⟩

theorem closedBoot_canonical : ClosedBoot State.Canonical where
  setBoot _ _ _ h := h

/-- A Granite reset empties BAR0 memory and the shadow, and drops registers. -/
theorem closedReset_canonical : ClosedReset State.Canonical where
  afterReset _ _ := fun ⟨_, ha, hr, _⟩ => ⟨rfl, ha, Assoc.wf_filter _ _ _ hr, rfl⟩

/-- Settles O5: the four canonical forms together are kept by every setter, and so by every step. -/
theorem canonicalFormKept : Obligations.CanonicalFormKept := fun s t h e =>
  step_keeps (P := State.Canonical) closed_canonical closedMem_canonical closedAmber_canonical closedBoot_canonical
    closedReset_canonical (fun _ _ h => h) s t h e

/-! The fuses. -/

theorem FuseLe.trans {a b c : AmberState} (hab : FuseLe a b) (hbc : FuseLe b c) : FuseLe a c := by
  obtain ⟨hle, hmax, hkey, hrev⟩ := hab
  obtain ⟨hle', hmax', hkey', hrev'⟩ := hbc
  exact ⟨hle.trans hle', by omega, fun i h => hkey' i (hkey i h), fun i h => hrev' i (hrev i h)⟩

/-- The fuses of `b` are still blown. -/
def State.FusesFrom (b : AmberState) (s : State) : Prop := FuseLe b s.boot

theorem step_fuseLe {s t : State} (e : step s = .next t) : FuseLe s.boot t.boot :=
  step_keeps (P := State.FusesFrom s.boot) (SetterKept.closed fun k h => by simpa [State.FusesFrom, k.boot] using h)
    ⟨fun _ _ _ h => h, fun _ _ _ h => h, fun _ h => h⟩ ⟨fun _ _ _ h => h, fun _ _ _ h => h, fun _ h => h⟩
    ⟨fun _ _ hf h => h.trans hf⟩ ⟨fun _ _ h => h⟩ (fun _ _ h => h) s t (FuseLe.refl _) e

/-- Settles O6: the boot record's fuses change only by blowing more of them, and RAISE_FLOOR stops at 63. -/
theorem fusesOnlyBlow : Obligations.FusesOnlyBlow := fun s t e => by
  obtain ⟨hle, hmax, hkey, hrev⟩ := step_fuseLe e
  exact ⟨hle, fun h => by omega, hkey, hrev⟩

/-! The queue and the device inputs. -/

/-- The queue and the device inputs are those of `s`. -/
def State.SameQueue (s t : State) : Prop := t.pending = s.pending ∧ t.dev = s.dev

/-- Settles O7: no setter of the machine, and no reset, touches them. -/
theorem queueAndVariantKept : Obligations.QueueAndVariantKept := fun c s t e =>
  exec_keeps (P := State.SameQueue s) (SetterKept.closed fun k ⟨hp, hd⟩ => ⟨k.pending.trans hp, k.dev.trans hd⟩)
    ⟨fun _ _ _ h => h, fun _ _ _ h => h, fun _ h => h⟩ ⟨fun _ _ _ h => h, fun _ _ _ h => h, fun _ h => h⟩
    ⟨fun _ _ _ h => h⟩ ⟨fun _ _ h => h⟩ c s t ⟨rfl, rfl⟩ e

/-! The frames of BAR0 memory and Amber. -/

/-- Settles O8: only what the listed commands use writes BAR0 memory. -/
theorem memoryFrame : Obligations.MemoryFrame := fun c s t hc e a => by
  have h : t.mem = s.mem := exec_keeps_of_writer (P := fun u => u.mem = s.mem) c (SetterKept.closed fun k h => k.mem.trans h)
    (by simp [hc]) (fun _ => ⟨fun _ _ _ h => h, fun _ _ _ h => h, fun _ h => h⟩) ⟨fun _ _ _ h => h⟩ (by simp [hc]) rfl e
  rw [State.byte, h, State.byte]

/-- Settles O9: only what the listed commands use writes Amber; a Granite reset leaves it. -/
theorem amberFrame : Obligations.AmberFrame := fun c s t hc e a => by
  have h : t.amber = s.amber := exec_keeps_of_writer (P := fun u => u.amber = s.amber) c (SetterKept.closed fun k h => k.amber.trans h)
    (fun _ => ⟨fun _ _ _ h => h, fun _ _ _ h => h, fun _ h => h⟩) (by simp [hc]) ⟨fun _ _ _ h => h⟩ (fun _ => ⟨fun _ _ h => h⟩) rfl e
  rw [State.abyte, h, State.abyte]

end Sys2Proof.Machine
end

section
/-! SUPPORT. Laws of single operations: link directions (R62), a port's count (R132), circular pointers (R216), the gear quotient
(R238), pending transitions (R291), windows (R257) and pair faults (R332). -/
namespace Sys2Proof.Machine
open Sys2Proof

/-! Receivers of the barrier links (R62). -/

theorem RxDir.up_foldl_take_good {r : RxDir} (l : List Nat) (h : r.up = true) :
    (l.foldl (fun r q => r.take true q) r).up = true := by
  induction l generalizing r with
  | nil => exact h
  | cons q l ih => exact ih (by simp [RxDir.take, h])

theorem RxDir.up_foldl_take_bad {r : RxDir} (l : List Nat) (h : r.up = false) :
    (l.foldl (fun r q => r.take false q) r).up = false := by
  induction l generalizing r with
  | nil => exact h
  | cons q l ih => exact ih (by simp [RxDir.take, h])

/-- Good frames add up, and the direction is up from the 16th on. -/
theorem RxDir.up_of_good {r : RxDir} {l : List Nat} (hl : l ≠ []) (h : 16 ≤ r.good + l.length) :
    (l.foldl (fun r q => r.take true q) r).up = true := by
  induction l generalizing r with
  | nil => exact absurd rfl hl
  | cons q l ih =>
    rw [List.length_cons] at h
    rcases Nat.lt_or_ge r.good 15 with hg | hg
    · refine ih (List.ne_nil_of_length_pos (by omega)) ?_
      simp only [RxDir.take, if_true]
      omega
    · refine RxDir.up_foldl_take_good l ?_
      simp only [RxDir.take, if_true, Bool.or_eq_true, beq_iff_eq]
      omega

/-- Bad frames add up, and the direction is down from the fourth on. -/
theorem RxDir.down_of_bad {r : RxDir} {l : List Nat} (hl : l ≠ []) (h : 4 ≤ r.bad + l.length) :
    (l.foldl (fun r q => r.take false q) r).up = false := by
  induction l generalizing r with
  | nil => exact absurd rfl hl
  | cons q l ih =>
    rw [List.length_cons] at h
    rcases Nat.lt_or_ge r.bad 3 with hb | hb
    · refine ih (List.ne_nil_of_length_pos (by omega)) ?_
      simp only [RxDir.take, Bool.false_eq_true, if_false]
      omega
    · refine RxDir.up_foldl_take_bad l ?_
      simp only [RxDir.take, Bool.false_eq_true, if_false, Bool.and_eq_false_iff, decide_eq_false_iff_not]
      omega

/-- Settles O15: both counts reach their limit over the frames, from whatever they stood at. -/
theorem linkDirection : Obligations.LinkDirection := by
  refine ⟨fun r l hl => RxDir.up_of_good (List.ne_nil_of_length_pos (by omega)) (by omega),
    fun r l hl => RxDir.down_of_bad (List.ne_nil_of_length_pos (by omega)) (by omega), fun r q hup hg => ?_⟩
  simp only [RxDir.take, if_true, hup, Bool.false_or, beq_eq_false_iff_ne]
  omega

/-! Counting of a feedback port (R132). -/

theorem toSigned_ofSigned_32 {i : Int} (hlo : -(2 ^ 31) ≤ i) (hhi : i < 2 ^ 31) : toSigned 32 (ofSigned 32 i) = i := by
  unfold toSigned ofSigned
  split_ifs <;> omega

theorem FbPort.up_below {f : FbPort} (h : f.p + 1 < f.w) : f.up = ({ f with p := f.p + 1 }, false) :=
  if_neg (by omega)

theorem FbPort.up_wrap {f : FbPort} (h : f.p + 1 = f.w) (hw : f.pendW = none) (hlo : -(2 ^ 31) ≤ f.turn) (hhi : f.turn + 1 < 2 ^ 31) :
    f.up = ({ f with p := 0, turn := f.turn + 1 }, false) := by
  have ht : (f.turn + 1 == 2 ^ 31) = false := beq_eq_false_iff_ne.mpr (by omega)
  have hsig := toSigned_ofSigned_32 (i := f.turn + 1) (by omega) hhi
  simp only [FbPort.up, h, ge_iff_le, le_refl, if_true, hsig, ht, hw, Option.getD_none, Option.isSome_none, Bool.or_false]

theorem FbPort.down_above {f : FbPort} (h : f.p ≠ 0) : f.down = ({ f with p := f.p - 1 }, false) := if_neg h

theorem FbPort.down_wrap {f : FbPort} (h : f.p = 0) (hw : f.pendW = none) (hlo : -(2 ^ 31) < f.turn) (hhi : f.turn < 2 ^ 31) :
    f.down = ({ f with p := f.w - 1, turn := f.turn - 1 }, false) := by
  have ht : (f.turn - 1 == -(2 ^ 31) - 1) = false := beq_eq_false_iff_ne.mpr (by omega)
  have hsig := toSigned_ofSigned_32 (i := f.turn - 1) (by omega) (by omega)
  simp only [FbPort.down, h, if_true, hsig, ht, hw, Option.getD_none, Option.isSome_none, Bool.or_false]

/-- Settles O22: inside a turn the position moves, at its ends the turn count does. -/
theorem countingLaw : Obligations.CountingLaw := by
  constructor
  · intro f hp hw hlo hhi
    rcases Nat.lt_or_ge (f.p + 1) f.w with h | h
    · rw [FbPort.up_below h]
      exact ⟨h, rfl, rfl, by push_cast; ring⟩
    · have h : f.p + 1 = f.w := by omega
      rw [FbPort.up_wrap h hw hlo hhi]
      exact ⟨by show 0 < f.w; omega, rfl, rfl, by simp only [← h]; push_cast; ring⟩
  · intro f hp hw hlo hhi
    by_cases h : f.p = 0
    · rw [FbPort.down_wrap h hw hlo hhi]
      exact ⟨by show f.w - 1 < f.w; omega, rfl, rfl, by simp only [h, Nat.cast_sub (show 1 ≤ f.w by omega)]; push_cast; ring⟩
    · rw [FbPort.down_above h]
      exact ⟨by show f.p - 1 < f.w; omega, rfl, rfl, by simp only [Nat.cast_sub (Nat.one_le_iff_ne_zero.mpr h)]; push_cast; ring⟩

/-! Circular pointers (R216). -/

/-- Settles O33: past the end the length is taken off, below the base it is added, and either lands inside. -/
theorem circularPointer : Obligations.CircularPointer := by
  intro x n m hlen hlo hhi hm
  unfold EngineState.update
  simp only [if_neg hlen]
  generalize x.p[n] = p at *
  generalize x.pl[n] = len at *
  generalize x.pb[n] = base at *
  rcases hm with ⟨hm, hfit⟩ | ⟨hm, hfit, hend⟩ <;> split_ifs <;> bv_omega

/-! The gear quotient (R238). -/

theorem roundQ_add_mul (num n : Int) {den : Nat} (h : 0 < den) : roundQ (num + n * den) den = roundQ num den + n := by
  unfold roundQ
  rw [show 2 * (num + n * den) + (den : Int) = 2 * num + den + n * (2 * den) by ring]
  exact Int.add_mul_ediv_right _ _ (by omega)

/-- Settles O37: the rounded quotient gains a whole number for whole multiples of the denominator. -/
theorem gearRatio : Obligations.GearRatio := by
  intro b x n hden
  unfold Branch.gearX
  rw [show (x + n * b.den * 2 ^ 16) * b.num = x * b.num + n * b.num * ((b.den * 2 ^ 16 : Nat) : Int) by push_cast; ring,
    roundQ_add_mul _ _ (by omega)]
  ring

/-! Transitions waiting at a channel (R291). -/

theorem takeEarliest_cons_ne_none (e : Nat × Bool) (l : List (Nat × Bool)) : takeEarliest (e :: l) ≠ none := by
  unfold takeEarliest
  split
  · exact Option.some_ne_none _
  · split_ifs <;> exact Option.some_ne_none _

/-- Settles O44, along the recursion of `takeEarliest`. -/
theorem earliestFirst : Obligations.EarliestFirst := by
  intro l
  fun_induction takeEarliest l with
  | case1 => simp
  | case2 e l hnone ih =>
    intro r e' h
    cases l with
    | nil => simp_all
    | cons f l => exact absurd hnone (takeEarliest_cons_ne_none f l)
  | case3 e l f r hsome hlt ih =>
    rintro r' e' ⟨⟩
    obtain ⟨hperm, hmin⟩ := ih _ _ hsome
    exact ⟨(hperm.cons e).trans (List.Perm.swap ..), fun g hg => by
      rcases List.mem_cons.mp hg with rfl | hg
      · exact hlt.le
      · exact hmin g hg⟩
  | case4 e l f r hsome hge ih =>
    rintro r' e' ⟨⟩
    obtain ⟨hperm, hmin⟩ := ih _ _ hsome
    exact ⟨.refl _, fun g hg => by
      rcases List.mem_cons.mp hg with rfl | hg
      · exact le_rfl
      · have := hmin g hg
        omega⟩

/-! Windows in reach of an edge (R257). -/

/-- The next window of the list is taken where it is in reach and nearer than the one held. -/
theorem State.nearestWindow_append (s : State) (t : Nat) (l : List Nat) (r : Nat) :
    s.nearestWindow t (l ++ [r]) =
      let p := wrap64 (s.xT (s.evTrunk r) t - s.xfire r)
      if s.halfWidth r < p.natAbs then s.nearestWindow t l
      else match s.nearestWindow t l with
        | none => some (r, p)
        | some (w, q) => if p.natAbs < q.natAbs then some (r, p) else some (w, q) := by
  rw [State.nearestWindow, List.foldl_append]
  simp only [List.foldl_cons, List.foldl_nil]
  rw [← State.nearestWindow]
  split_ifs
  · rfl
  · cases s.nearestWindow t l <;> rfl

/-- Settles O41, window by window of the list. -/
theorem nearestWindow : Obligations.NearestWindow := by
  intro s t l dist hdist
  induction l using List.reverseRecOn with
  | nil => simp [State.nearestWindow]
  | append_singleton l r ih =>
    obtain ⟨ihs, ihn⟩ := ih
    rw [State.nearestWindow_append, ← hdist r]
    simp only [List.mem_append, List.mem_singleton]
    by_cases hfar : s.halfWidth r < (dist r).natAbs
    · rw [if_pos hfar]
      refine ⟨fun w p h => ?_, ihn.trans ?_⟩
      · obtain ⟨hmem, hp, hreach, hnear⟩ := ihs w p h
        exact ⟨.inl hmem, hp, hreach, by rintro q (hq | rfl) hq'; exacts [hnear q hq hq', absurd hfar (by omega)]⟩
      · exact ⟨by rintro h q (hq | rfl); exacts [h q hq, hfar], fun h q hq => h q (.inl hq)⟩
    · rw [if_neg hfar]
      cases hw : s.nearestWindow t l with
      | none =>
        have hall := ihn.mp hw
        refine ⟨?_, iff_of_false (by simp) fun h => hfar (h r (.inr rfl))⟩
        rintro w p ⟨⟩
        exact ⟨.inr rfl, rfl, by omega, by rintro q (hq | rfl) hq'; exacts [absurd (hall q hq) (by omega), le_rfl]⟩
      | some o =>
        obtain ⟨w, q⟩ := o
        obtain ⟨hmem, hp, hreach, hnear⟩ := ihs w q hw
        dsimp only
        split_ifs with hlt
        · refine ⟨?_, iff_of_false (by simp) fun h => hfar (h r (.inr rfl))⟩
          rintro w' p' ⟨⟩
          exact ⟨.inr rfl, rfl, by omega, by rintro x (hx | rfl) hx'; exacts [hlt.le.trans (hnear x hx hx'), le_rfl]⟩
        · refine ⟨?_, iff_of_false (by simp) fun h => hfar (h r (.inr rfl))⟩
          rintro w' p' ⟨⟩
          exact ⟨.inl hmem, hp, hreach, by rintro x (hx | rfl) hx'; exacts [hnear x hx hx', by omega]⟩

/-! Pair faults (R332). -/

/-- Once both contacts have demanded, the fault ends only at a mark where both are free. -/
theorem PairCopy.free_of_cleared {x : PairCopy} {l : List (Bool × Bool × Nat)} (hf : x.fault = true) (hb : x.both = true)
    (h : (l.foldl (fun y e => y.take e.1 e.2.1 e.2.2) x).fault = false) : ∃ l₁ t l₂, l = l₁ ++ (false, false, t) :: l₂ := by
  induction l generalizing x with
  | nil => simp [hf] at h
  | cons e l ih =>
    obtain ⟨dA, dB, t⟩ := e
    by_cases hfree : dA = false ∧ dB = false
    · obtain ⟨rfl, rfl⟩ := hfree
      exact ⟨[], t, l, rfl⟩
    · have hstay : (!dA && !dB) = false := by cases dA <;> cases dB <;> simp_all
      obtain ⟨l₁, u, l₂, rfl⟩ := ih (x := x.take dA dB t) (by simp [PairCopy.take, hf, hb, hstay]) (by simp [PairCopy.take, hf, hb, hstay]) h
      exact ⟨(dA, dB, t) :: l₁, u, l₂, rfl⟩

/-- Settles O49: until both contacts have demanded at one mark the fault stands, and from there on until both are free. -/
theorem pairFaultClears : Obligations.PairFaultClears := by
  intro x l hf hb h
  induction l generalizing x with
  | nil => simp [hf] at h
  | cons e l ih =>
    obtain ⟨dA, dB, t⟩ := e
    by_cases hboth : dA = true ∧ dB = true
    · obtain ⟨rfl, rfl⟩ := hboth
      obtain ⟨l₂, t₂, l₃, rfl⟩ := PairCopy.free_of_cleared (x := x.take true true t) (by simp [PairCopy.take, hf]) (by simp [PairCopy.take, hf]) h
      exact ⟨[], l₂, t, t₂, l₃, rfl⟩
    · have hnot : (dA && dB) = false := by cases dA <;> cases dB <;> simp_all
      obtain ⟨l₁, l₂, t₁, t₂, l₃, rfl⟩ :=
        ih (x := x.take dA dB t) (by simp [PairCopy.take, hf, hb, hnot]) (by simp [PairCopy.take, hb, hnot]) h
      exact ⟨(dA, dB, t) :: l₁, l₂, t₁, t₂, l₃, rfl⟩

end Sys2Proof.Machine
end

section
/-! SUPPORT. The range of node outputs (R165) and of the duties of SVM (R167). -/
namespace Sys2Proof.Machine
open Sys2Proof

/-- In the signal format (R155). -/
def IsSignal (x : Int) : Prop := -(2 ^ 31) ≤ x ∧ x < 2 ^ 31

theorem clampI_mem {lo hi : Int} (h : lo ≤ hi) (x : Int) : lo ≤ clampI lo hi x ∧ clampI lo hi x ≤ hi :=
  ⟨le_max_left .., max_le h (min_le_left ..)⟩

theorem duty_mem (num : Int) (den : Nat) : 0 ≤ duty num den ∧ duty num den ≤ 0x7FFFFFFF := clampI_mem (by decide) _

@[simp] theorem isSignal_sat32 (x : Int) : IsSignal (sat32 x) := by
  have h := clampI_mem (show (-2147483648 : Int) ≤ 2147483647 by decide) x
  exact ⟨h.1, Int.lt_of_le_of_lt h.2 (by decide)⟩

@[simp] theorem isSignal_sig (num : Int) (den : Nat) : IsSignal (sig num den) := isSignal_sat32 _

@[simp] theorem isSignal_duty (num : Int) (den : Nat) : IsSignal (duty num den) := by
  have h := duty_mem num den
  exact ⟨le_trans (by decide) h.1, Int.lt_of_le_of_lt h.2 (by decide)⟩

@[simp] theorem isSignal_zero : IsSignal 0 := ⟨by decide, by decide⟩
@[simp] theorem isSignal_flagHi : IsSignal flagHi := ⟨by decide, by decide⟩
@[simp] theorem isSignal_flagLo : IsSignal flagLo := ⟨by decide, by decide⟩

theorem IsSignal.max {x y : Int} (hx : IsSignal x) (hy : IsSignal y) : IsSignal (max x y) := by
  rcases max_choice x y with h | h <;> rwa [h]

theorem IsSignal.min {x y : Int} (hx : IsSignal x) (hy : IsSignal y) : IsSignal (min x y) := by
  rcases min_choice x y with h | h <;> rwa [h]

/-- All three outputs are in the signal format. -/
def NodeOut.InRange (o : NodeOut) : Prop := IsSignal o.a ∧ IsSignal o.b ∧ IsSignal o.c

theorem NodeIn.keep_inRange (i : NodeIn) : i.keep.InRange := ⟨isSignal_zero, isSignal_zero, isSignal_zero⟩

theorem nodeLimit_inRange (i : NodeIn) (lo hi : Int) : (nodeLimit i lo hi).InRange := by
  refine ⟨isSignal_sat32 _, ?_, isSignal_zero⟩
  unfold nodeLimit
  dsimp only
  split_ifs
  exacts [isSignal_flagLo, isSignal_flagHi, isSignal_zero]

theorem nodeLimitVec_inRange {i : NodeIn} (ha : IsSignal i.a) (hb : IsSignal i.b) : (nodeLimitVec i).InRange := by
  unfold nodeLimitVec
  dsimp only
  split_ifs
  exacts [⟨isSignal_sat32 _, isSignal_sat32 _, isSignal_flagHi⟩, ⟨ha, hb, isSignal_zero⟩]

theorem nodeDeadband_inRange {i : NodeIn} (ha : IsSignal i.a) (sub : Bool) : (nodeDeadband i sub).InRange := by
  unfold nodeDeadband
  split_ifs
  exacts [i.keep_inRange, ⟨isSignal_sat32 _, isSignal_zero, isSignal_zero⟩, ⟨ha, isSignal_zero, isSignal_zero⟩]

theorem nodeClarke_inRange {i : NodeIn} (ha : IsSignal i.a) (three : Bool) : (nodeClarke i three).InRange := by
  unfold nodeClarke
  split_ifs
  exacts [⟨isSignal_sig .., isSignal_sig .., isSignal_zero⟩, ⟨ha, isSignal_sig .., isSignal_zero⟩]

theorem nodeSvm_inRange (i : NodeIn) (three : Bool) : (nodeSvm i three).InRange := by
  cases three
  exacts [⟨isSignal_duty .., isSignal_duty .., isSignal_zero⟩, ⟨isSignal_duty .., isSignal_duty .., isSignal_duty ..⟩]

/-- Each node rounds and saturates what it outputs, or passes an input or a flag on. -/
theorem nodeRun_inRange (opc mode : Nat) {i : NodeIn} (ha : IsSignal i.a) (hb : IsSignal i.b) : (nodeRun opc mode i).InRange := by
  unfold nodeRun
  split
  case h_1 => split_ifs <;> exact ⟨isSignal_sig .., isSignal_zero, isSignal_zero⟩
  case h_9 =>
    split
    exacts [nodeLimit_inRange .., nodeLimit_inRange .., nodeLimitVec_inRange ha hb]
  case h_10 => exact nodeDeadband_inRange ha _
  case h_11 =>
    refine ⟨?_, isSignal_zero, isSignal_zero⟩
    split
    · split_ifs
      exacts [hb, ha]
    · exact ha.max hb
    · exact ha.min hb
  case h_12 => exact nodeClarke_inRange ha _
  case h_16 => exact nodeSvm_inRange i _
  case h_19 | h_20 => exact i.keep_inRange
  all_goals
    first
    | exact ⟨isSignal_sat32 _, isSignal_zero, isSignal_zero⟩
    | exact ⟨isSignal_sat32 _, isSignal_sat32 _, isSignal_zero⟩

/-- Settles O24. -/
theorem nodeRange : Obligations.NodeRange := fun opc mode _ ha hb => nodeRun_inRange opc mode ha hb

/-- Settles O25: each output named is a duty. -/
theorem spaceVectorDuties : Obligations.SpaceVectorDuties := fun _ three =>
  match three with
  | true => ⟨duty_mem _ _, duty_mem _ _, fun _ => duty_mem _ _⟩
  | false => ⟨duty_mem _ _, duty_mem _ _, nofun⟩

end Sys2Proof.Machine
end

section
/-! SUPPORT. Words of engine instructions assembled from the fields of Table 9-3 decode to their instruction (R214). -/
namespace Sys2Proof.Machine
open Sys2Proof

theorem bits_eq_div_mod (w lo n : Nat) : bits w lo n = w / 2 ^ lo % 2 ^ n := by rw [bits, Nat.shiftRight_eq_div_pow]

theorem testBit_eq_bits (w lo : Nat) : w.testBit lo = decide (bits w lo 1 = 1) := by
  rw [Nat.testBit_eq_decide_div_mod_eq, bits_eq_div_mod, Nat.pow_one]

theorem f16_eq {w lo : Nat} {r : Fin 16} (h : bits w lo 4 = r) : f16 w lo = r := Fin.ext h
theorem f8_eq {w lo : Nat} {p : Fin 8} (h : bits w lo 3 = p) : f8 w lo = p := Fin.ext h
theorem f4_eq {w lo : Nat} {a : Fin 4} (h : bits w lo 2 = a) : f4 w lo = a := Fin.ext h

theorem ofNat_eq_of_bits {n w v : Nat} (h : bits w 0 n = v) : BitVec.ofNat n w = BitVec.ofNat n v := by
  apply BitVec.eq_of_toNat_eq
  rw [bits_eq_div_mod, Nat.pow_zero, Nat.div_one] at h
  rw [BitVec.toNat_ofNat, BitVec.toNat_ofNat, ← h, Nat.mod_mod]

theorem guardOp_of {c : Bool} (h : c = true) (x : EngOp) : guardOp c x = some x := if_pos h

/-! The functions of a format have codes that fit its field. -/

theorem aluFn_lt {f : Nat} {g : AluFn} (h : aluFn f = some g) : f < 20 := by
  unfold aluFn at h
  split at h <;> first | omega | exact nomatch h

theorem accFn_lt {f : Nat} {g : AccFn} (h : accFn f = some g) : f < 13 := by
  unfold accFn at h
  split at h <;> first | omega | exact nomatch h

theorem immFn_mem {op : Nat} {g : ImmFn} (h : immFn op = some g) : 4 ≤ op ∧ op ≤ 9 := by
  unfold immFn at h
  split at h <;> first | omega | exact nomatch h

theorem mulFn_mem {op : Nat} {g : MulFn} (h : mulFn op = some g) : 0x20 ≤ op ∧ op ≤ 0x23 := by
  unfold mulFn at h
  split at h <;> first | omega | exact nomatch h

theorem brFn_mem {op : Nat} {g : BrFn} (h : brFn op = some g) : 0x38 ≤ op ∧ op ≤ 0x3B := by
  unfold brFn at h
  split at h <;> first | omega | exact nomatch h

/-! The opcode selects the format. -/

theorem decodeEng_of_R {w : Nat} (h : bits w 26 6 = 0x01) : decodeEng w = decodeR w := by simp [decodeEng, h]
theorem decodeEng_of_M {w : Nat} (h : bits w 26 6 = 0x10 ∨ bits w 26 6 = 0x11) : decodeEng w = decodeM w := by
  rcases h with h | h <;> simp [decodeEng, h]
theorem decodeEng_of_MA {w : Nat} (h : bits w 26 6 = 0x12) : decodeEng w = decodeMA w := by simp [decodeEng, h]
theorem decodeEng_of_A {w : Nat} (h : bits w 26 6 = 0x18) : decodeEng w = decodeA w := by simp [decodeEng, h]
theorem decodeEng_of_S {w : Nat} (h : bits w 26 6 = 0x30) : decodeEng w = decodeS w := by simp [decodeEng, h]
theorem decodeEng_of_L {w : Nat} (h : bits w 26 6 = 0x3C) : decodeEng w = decodeL w := by simp [decodeEng, h]

theorem decodeEng_of_I {w : Nat} (h : 4 ≤ bits w 26 6 ∧ bits w 26 6 ≤ 9) : decodeEng w = decodeI w := by
  unfold decodeEng
  dsimp only
  rw [if_neg (by omega), if_neg (by omega), if_pos h]

theorem decodeEng_of_P {w : Nat} (h : 0x20 ≤ bits w 26 6 ∧ bits w 26 6 ≤ 0x23) : decodeEng w = decodeP w := by
  unfold decodeEng
  dsimp only
  rw [if_neg (by omega), if_neg (by omega), if_neg (by omega), if_neg (by omega), if_neg (by omega), if_neg (by omega),
    if_neg (by omega), if_neg (by omega), if_pos h]

theorem decodeEng_of_B {w : Nat} (h : 0x38 ≤ bits w 26 6 ∧ bits w 26 6 ≤ 0x3B) : decodeEng w = decodeB w := by
  unfold decodeEng
  dsimp only
  rw [if_neg (by omega), if_neg (by omega), if_neg (by omega), if_neg (by omega), if_neg (by omega), if_neg (by omega),
    if_neg (by omega), if_neg (by omega), if_neg (by omega), if_neg (by omega), if_neg (by omega), if_neg (by omega), if_pos h]

/-! One lemma for each format, over the fields of the word. -/

theorem decodeEng_R {w f : Nat} {g : AluFn} {rd ra rb : Fin 16} (hop : bits w 26 6 = 0x01) (hrd : bits w 22 4 = rd)
    (hra : bits w 18 4 = ra) (hrb : bits w 14 4 = rb) (hz : bits w 6 8 = 0) (hf : bits w 0 6 = f) (hg : aluFn f = some g)
    (hrb0 : g = .mov ∨ g = .abs ∨ g = .neg ∨ g = .clz → rb = 0) (hrd0 : g = .cmp → rd = 0) :
    decodeEng w = some (.alu g rd ra rb) := by
  rw [decodeEng_of_R hop, decodeR, hf, hg, Option.bind_some, f16_eq hrd, f16_eq hra, f16_eq hrb, hz, hrb, hrd]
  refine guardOp_of ?_ _
  cases g <;> simp_all

theorem decodeEng_I {w op v : Nat} {g : ImmFn} {rd ra : Fin 16} (hop : bits w 26 6 = op) (hrd : bits w 22 4 = rd)
    (hra : bits w 18 4 = ra) (hv : bits w 0 18 = v) (hg : immFn op = some g) (hrd0 : g = .cmpi → rd = 0)
    (hshi : g = .shi → bits w 8 10 = 0 ∧ bits w 5 1 = 0 ∧ bits w 6 2 ≠ 3) :
    decodeEng w = some (.imm g rd ra (BitVec.ofNat 18 v)) := by
  rw [decodeEng_of_I (hop ▸ immFn_mem hg), decodeI, hop, hg, Option.bind_some, f16_eq hrd, f16_eq hra, ofNat_eq_of_bits hv, hrd]
  refine guardOp_of ?_ _
  cases g <;> simp_all

theorem decodeEng_M {w sz am off : Nat} {r : Fin 16} {p : Fin 8} (hr : bits w 22 4 = r) (hp : bits w 19 3 = p)
    (hsz : bits w 17 2 = sz) (ham : bits w 15 2 = am) (hoff : bits w 0 15 = off) (hodd : sz = 2 → bits w 22 1 = 0)
    (hmod : am = 1 → bits w 2 13 = 0) :
    (bits w 26 6 = 0x10 → decodeEng w = some (.ld r p sz am (BitVec.ofNat 15 off))) ∧
    (bits w 26 6 = 0x11 → decodeEng w = some (.st r p sz am (BitVec.ofNat 15 off))) := by
  have hok : (amOk w && (bits w 17 2 != 2 || bits w 22 1 == 0)) = true := by
    simp only [amOk, ham, hsz, Bool.and_eq_true, Bool.or_eq_true, bne_iff_ne, beq_iff_eq]
    exact ⟨or_iff_not_imp_left.mpr fun h => hmod (not_not.mp h), or_iff_not_imp_left.mpr fun h => hodd (not_not.mp h)⟩
  constructor <;> intro hop
  · rw [decodeEng_of_M (.inl hop), decodeM, if_pos hop, guardOp_of hok, f16_eq hr, f8_eq hp, hsz, ham, ofNat_eq_of_bits hoff]
  · rw [decodeEng_of_M (.inr hop), decodeM, if_neg (by omega), guardOp_of hok, f16_eq hr, f8_eq hp, hsz, ham, ofNat_eq_of_bits hoff]

theorem decodeEng_MA {w am off : Nat} {a : Fin 4} {p : Fin 8} (hop : bits w 26 6 = 0x12) (ha : bits w 24 2 = a) (hz : bits w 22 2 = 0)
    (hp : bits w 19 3 = p) (hsz : bits w 17 2 = 1) (ham : bits w 15 2 = am) (hoff : bits w 0 15 = off)
    (hmod : am = 1 → bits w 2 13 = 0) : decodeEng w = some (.sta a p am (BitVec.ofNat 15 off)) := by
  rw [decodeEng_of_MA hop, decodeMA, f4_eq ha, f8_eq hp, ham, ofNat_eq_of_bits hoff, guardOp_of]
  simp only [hz, hsz, amOk, ham, Bool.and_eq_true, Bool.or_eq_true, bne_iff_ne, beq_iff_eq, true_and]
  exact or_iff_not_imp_left.mpr fun h => hmod (not_not.mp h)

theorem decodeEng_P {w op : Nat} {g : MulFn} {a : Fin 4} {ra rb : Fin 16} {x y : ParLoad} (hop : bits w 26 6 = op)
    (ha : bits w 24 2 = a) (hra : bits w 20 4 = ra) (hrb : bits w 16 4 = rb) (hxr : bits w 12 4 = x.rd) (hxp : bits w 10 2 = x.ptr)
    (hxc : bits w 8 2 = x.code) (hyr : bits w 4 4 = y.rd) (hyp : bits w 2 2 = y.ptr) (hyc : bits w 0 2 = y.code)
    (hg : mulFn op = some g) (hldp : g = .ldp → bits w 16 10 = 0) (hx0 : x.code = 0 → bits w 10 6 = 0)
    (hy0 : y.code = 0 → bits w 2 6 = 0) (hxy : x.code ≠ 0 → y.code ≠ 0 → x.rd ≠ y.rd) :
    decodeEng w = some (.mul g a ra rb x y) := by
  rw [decodeEng_of_P (hop ▸ mulFn_mem hg), decodeP, hop, hg, Option.bind_some, f4_eq ha, f16_eq hra, f16_eq hrb, f16_eq hxr, f4_eq hxp,
    f16_eq hyr, f4_eq hyp, hxc, hyc, hxr, hyr, guardOp_of]
  simp only [Bool.and_eq_true, Bool.or_eq_true, bne_iff_ne, beq_iff_eq, or_iff_not_imp_left, not_not, ne_eq, Fin.val_inj] at *
  exact ⟨⟨⟨hldp, hx0⟩, hy0⟩, fun h => hxy (by tauto) (by tauto)⟩

theorem decodeEng_A {w f sh : Nat} {g : AccFn} {ad as_ : Fin 4} {r : Fin 16} (hop : bits w 26 6 = 0x18) (had : bits w 24 2 = ad)
    (has : bits w 22 2 = as_) (hr : bits w 18 4 = r) (hsh : bits w 12 6 = sh) (hz : bits w 6 6 = 0) (hf : bits w 0 6 = f)
    (hg : accFn f = some g) (hsh0 : g = .ashl ∨ g = .asar ∨ sh = 0) (hr0 : g = .aload ∨ g = .aloadl ∨ g = .ast ∨ r = 0)
    (has0 : g = .aclr ∨ g = .aload ∨ g = .aloadl → as_ = 0) (had0 : g = .ast → ad = 0) :
    decodeEng w = some (.acc g ad as_ r sh) := by
  rw [decodeEng_of_A hop, decodeA, hf, hg, Option.bind_some, f4_eq had, f4_eq has, f16_eq hr, had, has, hr, hsh, hz]
  refine guardOp_of ?_ _
  cases g <;> simp_all

theorem decodeEng_B {w op cond off : Nat} {g : BrFn} {rn : Fin 16} (hop : bits w 26 6 = op) (hcond : bits w 22 4 = cond)
    (hrn : bits w 18 4 = rn) (hz : bits w 12 6 = 0) (hoff : bits w 0 12 = off) (hg : brFn op = some g) (hc : cond < 15)
    (hrn0 : g = .b ∨ g = .call → rn = 0) (hoff0 : g = .br ∨ g = .callr → off = 0) : decodeEng w = some (.br g cond rn off) := by
  rw [decodeEng_of_B (hop ▸ brFn_mem hg), decodeB, hop, hg, Option.bind_some, f16_eq hrn, hcond, hrn, hz, hoff]
  refine guardOp_of ?_ _
  have hc' : cond ≠ 15 := by omega
  cases g <;> simp_all

theorem decodeEng_S {w c : Nat} {dir : Bool} {r : Fin 16} (hop : bits w 26 6 = 0x30) (hr : bits w 22 4 = r) (hdir : bits w 21 1 = dir.toNat)
    (hz : bits w 18 3 = 0) (hc : bits w 12 6 = c) (hz' : bits w 0 12 = 0) (hok : sregOk dir c = true) :
    decodeEng w = some (.movs dir r c) := by
  have hbit : w.testBit 21 = dir := by rw [testBit_eq_bits, hdir]; cases dir <;> rfl
  rw [decodeEng_of_S hop, decodeS, hbit, f16_eq hr, hc, guardOp_of (by simp [hz, hz', hok])]

theorem decodeEng_L {w off : Nat} (hop : bits w 26 6 = 0x3C) (hoff : bits w 0 12 = off) (hpos : 0 < off) :
    (∀ count, bits w 25 1 = 0 → bits w 12 13 = count → decodeEng w = some (.loop false 0 count off)) ∧
    (∀ rn : Fin 16, bits w 25 1 = 1 → bits w 12 9 = 0 → bits w 21 4 = rn → decodeEng w = some (.loop true rn 0 off)) := by
  have hne : (off != 0) = true := bne_iff_ne.mpr (by omega)
  rw [decodeEng_of_L hop, decodeL, hoff, testBit_eq_bits]
  refine ⟨fun count hreg hcount => ?_, fun rn hreg hz hrn => ?_⟩
  · simp [hreg, hcount, guardOp_of hne]
  · simp [hreg, hz, f16_eq hrn, guardOp_of hne]

/-- Settles O34: the fields of each assembled word are read off by arithmetic, and the format's lemma says what they decode to. -/
theorem engineWords : Obligations.EngineWords := by
  refine ⟨?r, ?i, ?m, ?p, ?a, ?b, ?l, ?s⟩
  case r =>
    intro f g rd ra rb hg hrb hrd
    have hf := aluFn_lt hg
    apply decodeEng_R (f := f) _ _ _ _ _ _ hg hrb hrd <;> simp only [bits_eq_div_mod] <;> omega
  case i =>
    intro op v g rd ra hg hv hrd hshi
    have hop := immFn_mem hg
    simp only [bits_eq_div_mod] at hshi
    refine decodeEng_I (op := op) (v := v) ?_ ?_ ?_ ?_ hg hrd fun h => ?_ <;> simp only [bits_eq_div_mod]
    case refine_5 =>
      obtain ⟨hlt, hbit, htwo⟩ := hshi h
      refine ⟨?_, ?_, ?_⟩ <;> omega
    all_goals omega
  case m =>
    intro r p sz am off hsz ham hoff hodd hmod
    refine ⟨(decodeEng_M ?_ ?_ ?_ ?_ ?_ ?_ ?_).1 ?_, (decodeEng_M ?_ ?_ ?_ ?_ ?_ ?_ ?_).2 ?_, fun a => decodeEng_MA ?_ ?_ ?_ ?_ ?_ ?_ ?_ ?_⟩ <;>
      simp only [bits_eq_div_mod] <;> omega
  case p =>
    intro op g a ra rb x y hg hx hy hx0 hy0 hxy hldp
    have hop := mulFn_mem hg
    simp only [Fin.ext_iff] at hx0 hy0 hldp
    apply decodeEng_P (op := op) (x := x) (y := y) _ _ _ _ _ _ _ _ _ _ hg _ _ _ hxy <;> simp only [bits_eq_div_mod] <;> try omega
    all_goals
      intro h
      have := hldp h
      omega
  case a =>
    intro f sh g ad as_ r hg hsh hsh0 hr0 has0 had0
    have hf := accFn_lt hg
    apply decodeEng_A (f := f) _ _ _ _ _ _ _ hg hsh0 hr0 has0 had0 <;> simp only [bits_eq_div_mod] <;> omega
  case b =>
    intro op cond off g rn hg hc hoff hrn0 hoff0
    have hop := brFn_mem hg
    apply decodeEng_B (op := op) _ _ _ _ _ hg hc hrn0 hoff0 <;> simp only [bits_eq_div_mod] <;> omega
  case l =>
    intro rn count off hcount hpos hoff
    refine ⟨(decodeEng_L ?_ ?_ hpos).1 count ?_ ?_, (decodeEng_L ?_ ?_ hpos).2 rn ?_ ?_ ?_⟩ <;> simp only [bits_eq_div_mod] <;> omega
  case s =>
    intro dir r c hc hok
    have hdir := Bool.toNat_le dir
    apply decodeEng_S _ _ _ _ _ _ hok <;> simp only [bits_eq_div_mod] <;> omega

end Sys2Proof.Machine
end

section
/-! SUPPORT. Single rules of safety and protection: the zone latch (R329, R335), a staged carrier period (R83), the gate interlock
(R108), triggers (R370), and taking an exception (R196-R203). -/
namespace Sys2Proof.Machine
open Sys2Proof

/-! Zones (R329). -/

@[simp] theorem State.chan_setChan (s : State) (f : Bool) (g : Channel → Channel) : (s.setChan f g).chan f = g (s.chan f) := by
  cases f <;> rfl

@[simp] theorem State.zone_setZone (s : State) (f : Bool) (z : Fin 8) (g : ZoneCopy → ZoneCopy) :
    (s.setZone f z g).zone f z = g (s.zone f z) := by
  simp [State.zone, State.setZone]

@[simp] theorem State.zone_noteReset (s : State) (f : Bool) (z : Fin 8) : (s.noteReset f z).zone f z = s.zone f z := by
  simp [State.zone, State.noteReset]

@[simp] theorem State.agree_noteReset (s : State) (f : Bool) (z : Fin 8) :
    ((s.noteReset f z).chan f).agree = (s.chan f).agree := by
  simp [State.noteReset]

theorem State.zone_latchZone (s : State) (f : Bool) (z : Fin 8) (cause : Nat) : ((s.latchZone f z cause).zone f z).st = 3 := by
  unfold State.latchZone
  split_ifs with h
  · exact h
  · simp [ZoneCopy.leave]

/-- One zone at a mark, from STO on: a lost link or a pair fault latches it; else it leaves its state only without a demand, and
STO_LATCHED only for an acknowledgement and eight agreed cycles besides. -/
theorem State.stepZone_cases (s : State) (f : Bool) (z : Fin 8) (was : Nat) (h : 2 ≤ (s.zone f z).st) :
    ((s.stepZone f z was).zone f z).st = 3 ∨
    ((s.noteReset f z).linkLost f z = false ∧ ((s.stepZone f z was).zone f z).st = (s.zone f z).st) ∨
    ((s.noteReset f z).linkLost f z = false ∧ s.demand f z true = none ∧ s.demand f z false = none ∧
      ((s.zone f z).st = 3 → s.acknowledged f z = true ∧ 8 ≤ (s.chan f).agree)) := by
  unfold State.stepZone
  dsimp only
  cases hlost : (s.noteReset f z).linkLost f z
  case true => exact .inl (by rw [if_pos rfl]; exact State.zone_latchZone ..)
  case false =>
    rw [if_neg Bool.false_ne_true]
    split
    · exact .inl (State.zone_latchZone ..)
    · split
      · omega
      · omega
      all_goals
        split
        · simp_all
        · exact .inr (.inl ⟨rfl, by simp⟩)

/-- Settles O48. -/
theorem zoneLatch : Obligations.ZoneLatch := by
  rintro f z was s _ rfl
  refine ⟨fun hst hbar => ?_, fun _ hlost => ?_, fun hst hdem => ?_⟩
  · rcases s.stepZone_cases f z was (by omega) with h | ⟨-, h⟩ | ⟨-, hsto, hss1, hack⟩
    · exact h
    · rw [h, hst]
    · obtain ⟨hack, hagree⟩ := hack hst
      simp [hack, hsto, hss1, Nat.not_lt.mpr hagree] at hbar
  · unfold State.stepZone
    dsimp only
    rw [if_pos hlost]
    exact State.zone_latchZone ..
  · rcases s.stepZone_cases f z was hst with h | ⟨-, h⟩ | ⟨-, hsto, hss1, -⟩
    · omega
    · omega
    · simp [hsto, hss1] at hdem

/-! The staged period and mode of a carrier (R83). -/

/-- Settles O17: the check of R83 decides between the two ends of an apply. -/
theorem stagedPeriod : Obligations.StagedPeriod := by
  intro i s
  refine ⟨fun hrange hdbl hphase => ?_, fun hout => ?_⟩
  · have hok : (decide (200000 ≤ bits (s.rd (P.carrier i + R.CARRIER_PERIOD)) 1 23 * 2 ∧ bits (s.rd (P.carrier i + R.CARRIER_PERIOD)) 1 23 * 2 ≤ 2500000) &&
        (!decide (bits (s.rd (P.carrier i + R.CARRIER_MODE)) 0 1 = 1) || decide (250000 ≤ bits (s.rd (P.carrier i + R.CARRIER_PERIOD)) 1 23 * 2)) &&
        (axesOf i).all fun a => !s.pwmEnabled a || decide ((s.pwm a).phase < bits (s.rd (P.carrier i + R.CARRIER_PERIOD)) 1 23 * 2)) = true := by
      simp only [Bool.and_eq_true, decide_eq_true_eq, List.all_eq_true, Bool.or_eq_true, Bool.not_eq_true', decide_eq_false_iff_not]
      exact ⟨⟨hrange, or_iff_not_imp_left.mpr fun h => hdbl (not_not.mp h)⟩,
        fun a ha => or_iff_not_imp_left.mpr fun h => hphase a ha (Bool.eq_true_of_not_eq_false h)⟩
    have hlt : bits (s.rd (P.carrier i + R.CARRIER_PERIOD)) 1 23 < 2 ^ 23 := bits_lt ..
    unfold State.applyStaged
    dsimp only
    rw [if_pos hok]
    refine ⟨?_, ?_, ?_⟩
    · unfold State.carT
      rw [State.rd_setb_other _ _ _ _ _ (by simp), State.rd_setb_other _ _ _ _ _ (by simp), State.rd_wr_same, bits_mod _ _ _ _ (by decide)]
      simp only [bits, Nat.shiftRight_zero]
      omega
    · unfold State.carDouble
      rw [State.flag_setb_other _ _ _ _ _ _ (by decide) (by simp), State.flag_setb_same _ _ _ _ (by decide) rfl]
    · exact State.flag_setb_same _ _ _ _ (by decide) rfl
  · unfold State.applyStaged
    dsimp only
    rw [if_neg (by simp only [Bool.and_eq_true, decide_eq_true_eq]; omega)]
    refine ⟨?_, ?_, State.rbit_err _ _ _ (by decide)⟩
    · unfold State.carT
      rw [State.rd_err_other _ _ _ _ (by simp), State.rd_setb_other _ _ _ _ _ (by simp), State.setSlate_rd,
        State.rd_setb_other _ _ _ _ _ (by simp), State.rd_setb_other _ _ _ _ _ (by simp)]
    · rw [State.flag_err_other _ _ _ _ _ (by simp)]
      exact State.flag_setb_same _ _ _ _ (by decide) rfl

/-! The interlock of a half-bridge (R108). -/

@[simp] theorem State.slate_setSlate (s : State) (i : Fin 8) (f : SlateState → SlateState) : (s.setSlate i f).slate i = f (s.slate i) := by
  simp [State.slate, State.setSlate]

@[simp] theorem State.out_setOut (s : State) (i : Fin 8) (k : Fin 49) (f : GateOut → GateOut) : (s.setOut i k f).out i k = f (s.out i k) := by
  simp [State.out, State.setOut]

theorem otherOut_ne {k : Fin 49} (h : k.val < 48) : otherOut k ≠ k := by
  intro he
  have hv := congrArg Fin.val he
  simp only [otherOut, dif_pos h] at hv
  split_ifs at hv <;> omega

/-- Settles O20. -/
theorem gateInterlock : Obligations.GateInterlock := by
  intro i k tap low s hk hoff hon
  unfold State.gateOn
  dsimp only
  rw [if_neg (by simp [hoff]), if_pos ⟨hk, hon⟩]
  refine ⟨?_, ?_, State.rbit_err _ _ _ (by decide), ?_⟩
  · have hne := Fin.val_ne_of_ne (otherOut_ne hk)
    simp [State.out, State.setOut, Vector.getElem_set_ne _ _ hne]
  · simp [State.out, State.setOut]
  · rw [State.flag_err_other _ _ _ _ _ (by simp)]
    exact State.flag_setb_same _ _ _ _ (by decide) rfl

/-! Triggers (R370). -/

/-- The registers of an offer: none. -/
theorem State.offerAll_regs (s : State) (tick : Nat) (hit : Nat → Nat → Bool) (ok : Nat → Bool) :
    (s.offerAll tick hit ok).regs = s.regs ∧ (s.offerAll tick hit ok).mem = s.mem := by
  unfold State.offerAll forEach
  generalize List.finRange 8 = l
  induction l generalizing s with
  | nil => exact ⟨rfl, rfl⟩
  | cons r l ih =>
    obtain ⟨hr, hm⟩ := ih (if hit (s.rd (P.trc r + R.TRC_TRIG) / 2 ^ 24) (s.rd (P.trc r + R.TRC_TRIG) % 2 ^ 24) && s.trcMay r ok then s.offer r tick else s)
    refine ⟨hr.trans ?_, hm.trans ?_⟩ <;> (unfold State.offer; split_ifs <;> rfl)

theorem State.rd_eq_of_regs {s t : State} (h : t.regs = s.regs) (a : Nat) : t.rd a = s.rd a := by
  unfold State.rd State.reg
  rw [h]

/-- A state that agrees in the registers reads the same. -/
theorem State.setRec_rd (s : State) (r : Fin 8) (f : Recorder → Recorder) (a : Nat) : (s.setRec r f).rd a = s.rd a := rfl

/-- The recorder's own registers of a trigger are apart from each other and from those of another recorder. -/
theorem trc_ne {r p : Fin 8} (h : p ≠ r) {a b : Nat} (ha : a < 0x1000) (hb : b < 0x1000) : P.trc p + a ≠ P.trc r + b := by
  have := Fin.val_ne_of_ne h
  unfold P.trc
  omega

theorem State.rd64_wr64 (s : State) (p o v : Nat) (h : v < 2 ^ 64) : (s.wr64 p o v).rd64 p o = v := by
  unfold State.rd64 State.wr64
  rw [State.rd_wr_other _ _ _ _ (by omega), State.rd_wr_same, State.rd_wr_same]
  omega

theorem State.rd_wr64_other (s : State) (p o v a : Nat) (h : a ≠ p + o) (h' : a ≠ p + o + 4) : (s.wr64 p o v).rd a = s.rd a := by
  unfold State.wr64
  rw [State.rd_wr_other _ _ _ _ h', State.rd_wr_other _ _ _ _ h]

/-- A trigger on an ARMED recorder, before it is offered on: TPTR, TTICK and the state, and FIRST where PRE ran full. -/
theorem State.takeTrigger_armed {s : State} {r : Fin 8} (tick : Nat) (h : s.trcSt r = 1) :
    ∃ u : State, (s.takeTrigger r tick).regs = (u.setTrcSt r (if (s.recorder r).set.post = 0 then 3 else 2)).regs ∧
      (s.takeTrigger r tick).mem = s.mem ∧
      ∀ a, a ≠ P.trc r + R.TRC_FIRST → u.rd a = ((s.wr (P.trc r + R.TRC_TPTR) (s.wptr r)).wr64 (P.trc r) R.TRC_TTICK_LO (tick % 2 ^ 64)).rd a := by
  unfold State.takeTrigger
  dsimp only
  rw [if_neg (not_not.mpr h)]
  refine ⟨_, (State.offerAll_regs ..).1, ?_, ?_⟩
  · rw [(State.offerAll_regs ..).2]
    split_ifs <;> simp [State.setRec, State.setTrcSt]
  · intro a ha
    rw [State.setRec_rd]
    split_ifs
    · rfl
    · rw [State.setRec_rd, State.rd_wr_other _ _ _ _ ha]

/-- Settles O53. -/
theorem triggersTaken : Obligations.TriggersTaken := by
  rintro r tick s _ rfl
  refine ⟨fun h => if_pos h, fun h => ?_⟩
  obtain ⟨u, hregs, hmem, hu⟩ := s.takeTrigger_armed tick h
  have hrd := State.rd_eq_of_regs hregs
  have hw : s.wptr r < 2 ^ 32 := s.rd_lt _
  have hother : ∀ p : Fin 8, p ≠ r → ∀ a < 0x1000, (s.takeTrigger r tick).rd (P.trc p + a) = s.rd (P.trc p + a) := by
    intro p hp a ha
    have hne (b : Nat) (hb : b < 0x1000) := trc_ne hp ha hb
    rw [hrd, State.setTrcSt, State.rd_setf_other _ _ _ _ _ (hne F.TRC_STATUS_STATE.off (by decide)), hu _ (hne R.TRC_FIRST (by decide)),
      State.rd_wr64_other _ _ _ _ _ (hne R.TRC_TTICK_LO (by decide)) (hne (R.TRC_TTICK_LO + 4) (by decide)),
      State.rd_wr_other _ _ _ _ (hne R.TRC_TPTR (by decide))]
  refine ⟨?_, ?_, ?_, ?_, hmem, fun p hp => ⟨?_, hother p hp _ (by decide)⟩⟩
  · rw [hrd, State.setTrcSt, State.rd_setf_other _ _ _ _ _ (by simp), hu _ (by simp), State.rd_wr64_other _ _ _ _ _ (by simp) (by simp [R.TRC_TTICK_LO, Nat.add_assoc]),
      State.rd_wr_same, Nat.mod_eq_of_lt hw]
  · rw [hrd, State.setTrcSt, State.rd_setf_other _ _ _ _ _ (by simp), hu _ (by simp), State.rd_wr64_other _ _ _ _ _ (by simp) (by simp [R.TRC_TTICK_LO, Nat.add_assoc]),
      State.rd_wr_other _ _ _ _ (by simp), State.wptr]
  · rw [← State.rd64_wr64 (s.wr (P.trc r + R.TRC_TPTR) (s.wptr r)) (P.trc r) R.TRC_TTICK_LO (tick % 2 ^ 64) (Nat.mod_lt _ (by decide))]
    unfold State.rd64
    rw [hrd, hrd, State.setTrcSt, State.rd_setf_other _ _ _ _ _ (by simp), State.rd_setf_other _ _ _ _ _ (by simp [R.TRC_TTICK_LO, Nat.add_assoc]), hu _ (by simp), hu _ (by simp [R.TRC_TTICK_LO, Nat.add_assoc])]
  · rw [State.trcSt, State.fld, hrd, ← State.fld, State.setTrcSt, State.fld_setf_same _ _ _ _ (by decide)]
    split_ifs <;> rfl
  · rw [State.trcSt, State.fld, hother p hp _ (by decide), ← State.fld, State.trcSt]

/-! Taking an exception (R196-R203). -/

/-- A mode write changes MD alone. -/
theorem EngineState.foldl_applyMode (x : EngineState) (l : List ModeWrite) :
    l.foldl EngineState.applyMode x = { x with md := (l.foldl EngineState.applyMode x).md } := by
  induction l generalizing x with
  | nil => rfl
  | cons w l ih => rw [List.foldl_cons, ih]; rfl

theorem EngineState.applyModes_eq (x : EngineState) : x.applyModes = { x with md := x.applyModes.md, modes := [] } := by
  conv_lhs => unfold EngineState.applyModes
  rw [EngineState.foldl_applyMode]
  rfl

theorem EngineState.toSt_st (x : EngineState) (t : Nat) (n : EngSt) : (x.toSt t n).st = n := rfl

theorem EngineState.toSt_pc (x : EngineState) (t : Nat) (n : EngSt) : (x.toSt t n).pc = x.pc := by
  unfold EngineState.toSt
  dsimp only
  split_ifs <;> rfl

/-- An exception that is taken. -/
theorem State.exception_taken {s : State} {e : Fin 512} {sync : Bool} (h : (sync && (s.core e).exl) = false) (cause sub addr : Nat) :
    s.exception e cause sub addr sync = s.setEng e fun _ =>
      let x := s.core e
      { x.applyModes with
        epc := x.resumePc sync
        estat := x.estatWord cause sub sync
        eaddr := addr
        est := x.stWord
        emd := x.applyModes.md.toNat
        eloop := #v[x.l0.ls, x.l0.le, x.l0.lc, x.l1.ls, x.l1.le, x.l1.lc]
        l0 := { x.l0 with lc := 0 }
        l1 := { x.l1 with lc := 0 }
        exl := true
        slot := none
        pc := (s.fld (P.engine e) ⟨R.ENG_VBASE, 0, 12⟩ + 2 * cause) % 4096 } := by
  unfold State.exception
  dsimp only
  rw [if_neg (by rw [← State.core, h]; decide), ← State.core]
  conv_lhs => rw [EngineState.applyModes_eq]
  conv_rhs => rw [EngineState.applyModes_eq]
  rfl

/-- A synchronous exception inside a handler. -/
theorem State.exception_double {s : State} {e : Fin 512} (h : (s.core e).exl = true) (cause sub addr : Nat) :
    s.exception e cause sub addr true = (s.setEng e fun _ => { (s.core e).toSt s.now .faultHalt with
      epc := (s.core e).resumePc true, estat := (s.core e).estatWord cause sub true, eaddr := addr }).err (P.engine e) E.engine_DOUBLE :=
  if_pos (by rw [← State.core, h]; rfl)

/-- Where nothing comes before the next instruction, EXCEPTION_ENTRY looks at that instruction. -/
theorem execExceptionEntry_of_not_preempted {s : State} {e : Fin 512} (hready : (s.eng e).ready = true) (hpre : s.preempted e = false) :
    execExceptionEntry e s = .next (
      if s.brkMatch e then s
      else if s.badFetch e then s.memFault e
      else match (s.setEng e EngineState.settle).illegal e with
        | some sub => s.exception e 1 sub 0 true
        | none => s) := by
  unfold State.preempted at hpre
  dsimp only at hpre
  unfold execExceptionEntry
  cases hslot : (s.eng e).slot
  case some => simp [hready, hslot] <;> rfl
  case none =>
    have hpre' : (s.eng e).haltReq = false ∧ ((s.eng e).exl = false → s.asyncCause e = none) := by simpa [hslot] using hpre
    obtain ⟨hhalt, hcause⟩ := hpre'
    cases hexl : (s.eng e).exl
    · simp [hready, hslot, hhalt, hcause hexl] <;> rfl
    · simp [hready, hslot, hhalt, hexl] <;> rfl

/-- Settles O27. -/
theorem exceptions : Obligations.Exceptions := by
  constructor
  · rintro e cause sub addr sync s _ rfl
    refine ⟨fun h => ?_, fun h => ?_⟩
    · rw [State.exception_taken h]
      refine ⟨?_, rfl⟩
      rw [State.eng_setEng]
      cases hslot : (s.core e).slot <;> simp [EngineState.resumePc, EngineState.estatWord, hslot]
    · obtain ⟨rfl, hexl⟩ := (Bool.and_eq_true ..).mp h
      rw [State.exception_double hexl]
      exact ⟨State.rbit_err _ _ _ (by decide), by simp [EngineState.toSt_st], by simp [EngineState.toSt_pc]⟩
  · intro e s hready
    refine ⟨fun c hslot hhalt hexl hc => ?_, fun sub hpre hbrk hbad hill => ?_, fun hpre hbrk hbad => ?_⟩
    · change execExceptionEntry e s = _
      simp [execExceptionEntry, hready, hslot, hhalt, hexl, hc]
    · exact (execExceptionEntry_of_not_preempted hready hpre).trans (by rw [hbrk, hbad, hill]; rfl)
    · exact (execExceptionEntry_of_not_preempted hready hpre).trans (by rw [hbrk, hbad]; rfl)

end Sys2Proof.Machine
end

section
/-! SUPPORT. The checks of the management agent (R441): a payload that fails one is counted and dropped. -/
namespace Sys2Proof.Machine
open Sys2Proof

/-- The payload `f` fails a check of R441, in a state with peer `peer`, stored sequence number `last` and stored request `req`. -/
def MgmtFrame.fails (f : MgmtFrame) (peer last epoch : Nat) (req : List Byte) : Prop :=
  f.formed = false ∨ f.tagOk = false ∨ (peer ≠ 0 ∧ peer ≠ f.src) ∨
    (f.type ≠ 3 ∧ (field f.body 12 4 ≠ epoch ∨ f.seq < last ∨ (f.seq = last ∧ f.body.take f.size ≠ req)))

theorem State.mgmtStart_of_fails {s : State} {f : MgmtFrame}
    (h : f.fails (s.rd (P.host + R.HOST_MGMT_PEER_LO) + s.rd (P.host + R.HOST_MGMT_PEER_HI) % 2 ^ 16 * 2 ^ 32)
      (s.rd (P.host + R.HOST_MGMT_SEQ)) s.mgmtEpoch s.mgmt.last) :
    s.mgmtStart f = s.mgmtReject F.HOST_MGMT_CNT_AUTH ∨ s.mgmtStart f = s.mgmtReject F.HOST_MGMT_CNT_SEQ := by
  unfold State.mgmtStart
  dsimp only
  by_cases hauth : (!f.formed) = true ∨
      (s.rd (P.host + R.HOST_MGMT_PEER_LO) + s.rd (P.host + R.HOST_MGMT_PEER_HI) % 2 ^ 16 * 2 ^ 32 ≠ 0 ∧
        s.rd (P.host + R.HOST_MGMT_PEER_LO) + s.rd (P.host + R.HOST_MGMT_PEER_HI) % 2 ^ 16 * 2 ^ 32 ≠ f.src) ∨ (!f.tagOk) = true
  · exact .inl (if_pos hauth)
  · rw [if_neg hauth]
    obtain ⟨hform, hpeer, htag⟩ := not_or.mp hauth |>.imp id not_or.mp
    rcases h with h | h | h | ⟨htype, hseq⟩
    · exact absurd (by simp [h]) hform
    · exact absurd (by simp [h]) htag
    · exact absurd h hpeer
    · rw [if_neg htype]
      right
      by_cases hepoch : field f.body 12 4 ≠ s.mgmtEpoch
      · rw [if_pos hepoch]
      · rcases hseq.resolve_left hepoch with hlt | ⟨heq, hbytes⟩
        · rw [if_neg hepoch, if_neg (by omega), if_neg fun h => by omega]
        · rw [if_neg hepoch, if_neg (by omega), if_neg fun h => hbytes h.2]

/-- What a rejection leaves, beside its counter. -/
theorem State.mgmtReject_leaves (s : State) {f : Fld} (hf : R.HOST_MGMT_SEQ ≠ f.off) :
    (s.mgmtReject f).mgmt = s.mgmt ∧ (s.mgmtReject f).mem = s.mem ∧ (s.mgmtReject f).power = s.power ∧
      (s.mgmtReject f).rd (P.host + R.HOST_MGMT_SEQ) = s.rd (P.host + R.HOST_MGMT_SEQ) ∧
      (s.mgmtReject f).pageErr P.host E.host_MGMT_REJ = true := by
  refine ⟨by simp [State.mgmtReject], by simp [State.mgmtReject], by simp [State.mgmtReject], ?_, State.rbit_err _ _ _ (by decide)⟩
  unfold State.mgmtReject State.inc
  rw [State.rd_err_other _ _ _ _ (by decide), State.rd_setf_other _ _ _ _ _ (by omega)]

/-- With no request in progress and one payload waiting, the agent takes that payload first. -/
theorem State.mgmtRun_succ {s : State} {f : MgmtFrame} (hsave : s.power.save = none) (hwait : s.power.wait = false)
    (hjob : s.mgmt.job = none) (htodo : s.mgmt.todo = [f]) (n : Nat) :
    s.mgmtRun (n + 1) = ((s.setMgmt fun m => { m with todo := [] }).mgmtStart f).mgmtRun n := by
  rw [State.mgmtRun]
  simp [hsave, hwait, hjob, htodo]

/-- With no request in progress and nothing waiting the agent rests. -/
theorem State.mgmtRun_idle {s : State} (hsave : s.power.save = none) (hwait : s.power.wait = false)
    (hjob : s.mgmt.job = none) (htodo : s.mgmt.todo = []) (n : Nat) : s.mgmtRun n = s := by
  cases n with
  | zero => rfl
  | succ n => rw [State.mgmtRun]; simp [hsave, hwait, hjob, htodo]

/-- Settles O58. -/
theorem managementChecks : Obligations.ManagementChecks := by
  intro f s n hsave hwait hjob htodo hfails
  rw [State.mgmtRun_succ hsave hwait hjob htodo]
  generalize hu : (s.setMgmt fun m => { m with todo := [] }) = u
  have hmgmt : u.mgmt = { s.mgmt with todo := [] } := by rw [← hu]; rfl
  have hpower : u.power = s.power := by rw [← hu]; rfl
  have hmem : u.mem = s.mem := by rw [← hu]; rfl
  have hseq : u.rd (P.host + R.HOST_MGMT_SEQ) = s.rd (P.host + R.HOST_MGMT_SEQ) := by rw [← hu]; rfl
  have hreject : ∃ c, u.mgmtStart f = u.mgmtReject c ∧ R.HOST_MGMT_SEQ ≠ c.off := by
    rcases State.mgmtStart_of_fails (s := u) (f := f) (by subst hu; exact hfails) with h | h
    exacts [⟨_, h, by decide⟩, ⟨_, h, by decide⟩]
  obtain ⟨c, hstart, hc⟩ := hreject
  obtain ⟨kmgmt, kmem, kpower, kseq, kerr⟩ := u.mgmtReject_leaves hc
  rw [hstart, State.mgmtRun_idle (by rw [kpower, hpower, hsave]) (by rw [kpower, hpower, hwait]) (by rw [kmgmt, hmgmt, ← hjob])
    (by rw [kmgmt, hmgmt])]
  exact ⟨by rw [kmgmt, hmgmt, ← hjob], by rw [kmgmt, hmgmt], by rw [kmgmt, hmgmt], by rw [kmgmt, hmgmt], kerr, kseq.trans hseq, kmem.trans hmem⟩

end Sys2Proof.Machine
end

section
/-! SUPPORT. Refusals (R388) and the lock (R390): the record in the DOM page, what it leaves, and where an access ends in it. -/
namespace Sys2Proof.Machine
open Sys2Proof

/-- The registers of the record of a refusal. -/
abbrev refusalRegs : List Nat := [P.dom + R.DOM_REF_CNT, P.dom + R.DOM_REF_ADDR, P.dom + R.DOM_REF_INFO, P.dom + R.PAGE_ERR]

/-- Only the record of a refusal may differ. -/
structure OnlyRefusal (s t : State) : Prop where
  regs : RegsBut refusalRegs s t
  mem : t.mem = s.mem
  amber : t.amber = s.amber
  shadow : t.shadow = s.shadow
  slates : t.slates = s.slates
  engines : t.engines = s.engines
  cleaning : t.cleaning = s.cleaning
  track : t.track = s.track
  capture : t.capture = s.capture

theorem OnlyRefusal.refl (s : State) : OnlyRefusal s s := ⟨fun _ _ => rfl, rfl, rfl, rfl, rfl, rfl, rfl, rfl, rfl⟩

theorem OnlyRefusal.lockedWr (s : State) : OnlyRefusal s s.lockedWr := by
  refine ⟨fun a ha => State.rd_err_other _ _ _ _ ?_, ?_, ?_, ?_, ?_, ?_, ?_, ?_, ?_⟩
  · simp only [refusalRegs, List.mem_cons, not_or] at ha
    exact ha.2.2.2.1
  all_goals simp [State.lockedWr]

theorem OnlyRefusal.refuse (s : State) (q a : Nat) (w : Bool) : OnlyRefusal s (s.refuse q a w) := by
  refine ⟨fun x hx => ?_, ?_, ?_, ?_, ?_, ?_, ?_, ?_, ?_⟩
  · simp only [refusalRegs, List.mem_cons, not_or] at hx
    obtain ⟨hcnt, haddr, hinfo, herr, -⟩ := hx
    unfold State.refuse State.inc
    rw [State.rd_err_other _ _ _ _ herr, State.rd_wr_other _ _ _ _ hinfo, State.rd_wr_other _ _ _ _ haddr, State.rd_setf_other _ _ _ _ _ hcnt]
  all_goals simp [State.refuse]

theorem OnlyRefusal.locked {s t : State} (h : OnlyRefusal s t) : t.locked = s.locked := by
  unfold State.locked State.flag State.fld
  rw [h.regs _ (by decide)]

/-- A write of a lockable register while the lock is set. -/
theorem State.writeReg_locked {s : State} {a : Nat} {k : PageKind} {n : Nat} (hlock : s.locked = true) (hpage : pageAt a = some (k, n))
    (hk : lockable k (a % 0x1000) = true) (q v : Nat) : OnlyRefusal s (s.writeReg q a v) := by
  unfold State.writeReg
  rw [hpage]
  dsimp only
  split
  · exact .refl s
  split
  · exact .refuse ..
  split
  · exact .refuse ..
  · rw [if_pos ⟨hk, hlock⟩]
    exact .lockedWr s

/-- Settles O10. -/
theorem lockedWrites : Obligations.LockedWrites := by
  intro q addr v k n s hlock hpage hk
  have h := State.writeReg_locked hlock hpage hk q v.toNat
  exact ⟨_, rfl, h.regs, h.locked.trans hlock, h.mem, h.amber, h.shadow, h.slates, h.engines, h.cleaning, h.track, h.capture⟩

/-! Refused accesses (R388). -/

theorem pageAt_of_regionAt {a : Nat} {k : PageKind} {i : Nat} (h : regionAt a = .page k i) : pageAt a = some (k, i) := by
  unfold regionAt at h
  split_ifs at h
  split at h
  · cases h; assumption
  · exact nomatch h

theorem State.busWrite_of_refused {s : State} {q a : Nat} (n v : Nat) (habs : s.absent a = false) (hmay : s.mayAccess q a true = false)
    (hwidth : ∀ k i, regionAt a = .page k i → n = 4 ∧ a % 4 = 0) (hmap : regionAt a ≠ .unmapped) :
    s.busWrite q a n v = s.refused q a true := by
  unfold State.busWrite
  rw [if_neg (by simp [habs])]
  split
  case h_1 h => exact absurd h hmap
  case h_2 k i h =>
    obtain ⟨rfl, halign⟩ := hwidth k i h
    unfold State.writeReg
    simp [pageAt_of_regionAt h, habs, halign, hmay, State.refused]
  all_goals simp [hmay]

theorem State.busRead_of_refused {s : State} {q a : Nat} (n : Nat) (habs : s.absent a = false) (hmay : s.mayAccess q a false = false)
    (hwidth : ∀ k i, regionAt a = .page k i → n = 4 ∧ a % 4 = 0) (hmap : regionAt a ≠ .unmapped) :
    s.busRead q a n = s.refused q a false := by
  unfold State.busRead
  rw [if_neg (by simp [habs])]
  split
  case h_1 h => exact absurd h hmap
  case h_2 k i h =>
    obtain ⟨rfl, halign⟩ := hwidth k i h
    simp [halign, hmay]
  all_goals simp [hmay]

/-- What the record of a refusal shows. -/
theorem State.refuse_record (s : State) (q a : Nat) (w : Bool) (ha : a < 2 ^ 32) :
    (s.refuse q a w).pageErr P.dom E.dom_REFUSED = true ∧ (s.refuse q a w).rd (P.dom + R.DOM_REF_ADDR) = a ∧
      (s.refuse q a w).fld P.dom F.DOM_REF_CNT_COUNT = min (s.fld P.dom F.DOM_REF_CNT_COUNT + 1) (2 ^ F.DOM_REF_CNT_COUNT.w - 1) := by
  refine ⟨State.rbit_err _ _ _ (by decide), ?_, ?_⟩ <;> unfold State.refuse State.inc
  · rw [State.rd_err_other _ _ _ _ (by decide), State.rd_wr_other _ _ _ _ (by decide), State.rd_wr_same, Nat.mod_eq_of_lt ha]
  · rw [State.fld_err_other _ _ _ _ _ (by decide), State.fld_wr_other _ _ _ _ _ (by decide), State.fld_wr_other _ _ _ _ _ (by decide),
      State.fld_setf_same _ _ _ _ (by decide)]
    exact Nat.mod_eq_of_lt (Nat.lt_of_le_of_lt (Nat.min_le_right ..) (by decide))

/-- Settles O11. -/
theorem refusedAccess : Obligations.RefusedAccess := by
  constructor
  · intro q a n v w s habs hmay hwidth hmap
    have h := OnlyRefusal.refuse s q a w
    constructor
    · rintro rfl t rfl
      rw [State.busWrite_of_refused n v habs hmay hwidth hmap]
      exact ⟨rfl, rfl, h.regs, h.mem, h.slates, h.engines⟩
    · rintro rfl t rfl
      rw [State.busRead_of_refused n habs hmay hwidth hmap]
      exact ⟨rfl, rfl, rfl, h.regs, h.mem, h.slates, h.engines⟩
  · intro q a w s ha _
    obtain ⟨herr, haddr, hcnt⟩ := s.refuse_record q a w (ha.trans (by decide))
    exact ⟨herr, by decide, haddr, hcnt⟩

end Sys2Proof.Machine
end

section
/-! SUPPORT. Soft errors (R181, R366, R433): which reads they reach, and what ECC records of them. -/
namespace Sys2Proof.Machine
open Sys2Proof

/-! An engine that meets one (R181). -/

/-- A change of an engine's state touches its state and its counters of time alone. -/
theorem EngineState.toSt_eq (x : EngineState) (t : Nat) (n : EngSt) :
    x.toSt t n = { x with st := n, wdLeft := (x.toSt t n).wdLeft, wdAt := (x.toSt t n).wdAt, busy := (x.toSt t n).busy,
                          since := (x.toSt t n).since } := by
  unfold EngineState.toSt
  dsimp only
  split_ifs <;> rfl

theorem State.eng_memFault (s : State) (e : Fin 512) :
    (s.memFault e).eng e = { (s.eng e).toSt s.now .faultHalt with stall := none } := by
  simp [State.memFault]

theorem State.memFault_mem (s : State) (e : Fin 512) : (s.memFault e).mem = s.mem := by simp [State.memFault]

/-! Words and their soft errors. -/

theorem eccHits_iff (a n : Nat) (m : Nat × Bool) : eccHits a n m = true ↔
    0xC00000 ≤ m.1 ∧ m.1 / eccSpan m.1 * eccSpan m.1 < a + n ∧ a < m.1 / eccSpan m.1 * eccSpan m.1 + eccSpan m.1 := by
  simp [eccHits, and_assoc]

/-- A word that touches an aligned group of four bytes covers it. -/
theorem eccHits_of_aligned {a i : Nat} {m : Nat × Bool} (ha : a % 4 = 0) (hi : i < 4) (h : eccHits a 4 m = true) :
    eccHits (a + i) 1 m = true := by
  rw [eccHits_iff] at h ⊢
  unfold eccSpan at h ⊢
  split_ifs at h ⊢ <;> omega

theorem State.uncorrectable_of_aligned {s : State} {a i : Nat} (ha : a % 4 = 0) (hi : i < 4) (h : s.uncorrectable a 4 = true) :
    s.uncorrectable (a + i) 1 = true := by
  simp only [State.uncorrectable, State.softIn, List.any_eq_true, List.mem_filter] at h ⊢
  obtain ⟨m, ⟨hm, hhit⟩, hbad⟩ := h
  exact ⟨m, ⟨hm, eccHits_of_aligned ha hi hhit⟩, hbad⟩

/-- A read from outside of an uncorrectable word brings 0. -/
theorem State.extLoad_of_uncorrectable {s : State} {a : Nat} (ha : a % 4 = 0) (h : s.uncorrectable a 4 = true) : s.extLoad a 4 = 0 := by
  have hbyte (i : Nat) (hi : i < 4) := State.uncorrectable_of_aligned ha hi h
  have hfirst : s.uncorrectable a 1 = true := hbyte 0 (by decide)
  simp [State.extLoad, Nat.add_assoc, hfirst, hbyte 1 (by decide), hbyte 2 (by decide), hbyte 3 (by decide)]

/-- A soft error lies in the word of its own address. -/
theorem eccHits_self {m : Nat × Bool} (h : 0xC00000 ≤ m.1) : eccHits m.1 1 m = true := by
  rw [eccHits_iff]
  unfold eccSpan
  split_ifs <;> omega

theorem shm_bounds {a g : Nat} (h : regionAt a = .shm g) : 0xC00000 ≤ a ∧ a < 0x1000000 := by
  unfold regionAt at h
  split_ifs at h with h1
  · exact h1
  · split at h <;> exact nomatch h

/-- A scan at the only soft error of the state meets it. -/
theorem State.eccScan_single {s : State} {m : Nat × Bool} (hecc : s.ecc = [m]) (h : 0xC00000 ≤ m.1) : s.eccScan m.1 1 = s.eccMeet m := by
  simp [State.eccScan, State.softIn, hecc, eccHits_self h, forEach]

theorem State.eccMeet_shm_ue {s : State} {m : Nat × Bool} {g : Nat} (hm : regionAt m.1 = .shm g) (hue : m.2 = true) :
    s.eccMeet m = (s.wr (P.grove g + R.GROVE_SHM_UE_ADDR) ((m.1 - 0xC00000) % 0x40000 / 8 * 8 + 1)).err (P.grove g) E.grove_SHM_UE := by
  simp [State.eccMeet, hm, hue]

theorem State.eccMeet_shm_ce {s : State} {m : Nat × Bool} {g : Nat} (hm : regionAt m.1 = .shm g) (hce : m.2 = false) :
    s.eccMeet m = ((s.eccFix m).inc (P.grove g) F.GROVE_SHM_CE_COUNT).err (P.grove g) E.grove_SHM_CE := by
  simp [State.eccMeet, hm, hce]

/-! A read of the host in shared memory (R433). -/

/-- An aligned word of shared memory is read in one access. -/
theorem splitTlp_shm_word {a g : Nat} (h : regionAt a = .shm g) (ha : a % 4 = 0) : splitTlp a 4 0 4 = [(a, 4, 0)] := by
  have hmin : minWidth a = 4 := by simp [minWidth, h]
  have hwidth : accessWidth a 4 = 4 := by simp [accessWidth, hmin, ha]
  simp [splitTlp, hwidth]

theorem State.tlpKind_shm_word {s : State} {a g : Nat} (habs : s.absent a = false) (h : regionAt a = .shm g) (ha : a % 4 = 0) :
    s.tlpKind a 4 = .mem := by
  obtain ⟨hlo, hhi⟩ := shm_bounds h
  have hrow : mapRow a = mapRow (a + 4 - 1) := by
    unfold mapRow
    split_ifs <;> omega
  simp [State.tlpKind, habs, h, hrow]

theorem State.hostTlpRead_shm_word {s : State} {a g : Nat} (hup : s.hostUp = true) (habs : s.absent a = false)
    (h : regionAt a = .shm g) (ha : a % 4 = 0) (hmay : s.mayAccess Req.host a false = true) :
    s.hostTlpRead a 4 = (s.readMem Req.host a 4).st.answer Req.host a (s.extLoad a 4) := by
  unfold State.hostTlpRead
  rw [if_neg (by simp [hup]), State.tlpKind_shm_word habs h ha]
  simp [splitTlp_shm_word h ha, State.hostPieces, State.hostPiece, h, State.busRead, habs, hmay, State.readMem]

theorem State.readMem_of_softIn {s : State} {a n : Nat} (h : s.softIn a n = []) (q : Nat) : (s.readMem q a n).st = s := by
  simp [State.readMem, State.eccScan_of_softIn h, State.uncorrectable_of_softIn h, State.when]

theorem State.readMem_of_uncorrectable {s : State} {a n : Nat} (h : s.uncorrectable a n = true) :
    (s.readMem Req.host a n).st = (s.eccScan a n).dmaErr E.host_RD_UE ((s.reqDom Req.host).getD 0) a Req.host false := by
  simp [State.readMem, h, State.when]

/-- Settles O2. -/
theorem softErrors : Obligations.SoftErrors := by
  refine ⟨?memFault, ?extLoad, ?eccScan, ?hostRead⟩
  case memFault =>
    intro e s
    rw [State.eng_memFault, EngineState.toSt_eq]
    exact ⟨rfl, State.rbit_err _ _ _ (by decide), State.memFault_mem s e, rfl, rfl, rfl, rfl, rfl, rfl⟩
  case extLoad => exact fun a s => ⟨State.extLoad_of_softIn, State.extLoad_of_uncorrectable⟩
  case eccScan =>
    rintro g m s _ hecc hm rfl
    rw [State.eccScan_single hecc (shm_bounds hm).1]
    refine ⟨fun hue => ?_, fun hce => ?_⟩
    · rw [State.eccMeet_shm_ue hm hue]
      refine ⟨by simp [hecc], by simp, State.rbit_err _ _ _ (by decide), ?_⟩
      rw [State.rd_err_other _ _ _ _ (by simp), State.rd_wr_same]
      exact Nat.mod_eq_of_lt (by omega)
    · rw [State.eccMeet_shm_ce hm hce]
      refine ⟨by simp [State.eccFix, State.setEcc, hecc], by simp [State.eccFix], State.rbit_err _ _ _ (by decide), ?_⟩
      rw [State.fld_err_other _ _ _ _ _ (by simp), State.inc, State.fld_setf_same _ _ _ _ (by decide), Nat.mod_eq_of_lt (Nat.lt_of_le_of_lt (Nat.min_le_right ..) (by decide)), Nat.min_comm]
      rfl
  case hostRead =>
    rintro a g s w rfl hup habs hm ha hmay
    refine ⟨fun hnone => ?_, fun hue => ?_⟩ <;> rw [exec_hostRead] <;> congr 1 <;>
      rw [show ((4 : Fin 513) : Nat) = 4 from rfl, State.hostTlpRead_shm_word hup habs hm ha hmay]
    · rw [State.readMem_of_softIn hnone, State.extLoad_of_softIn hnone]
    · rw [State.readMem_of_uncorrectable hue, State.extLoad_of_uncorrectable ha hue]

end Sys2Proof.Machine
end

section
/-! SUPPORT. Chapter 2: reference inputs (R34-R36), NET_LOCK and its holdover (R47-R51), latched time reads (R40) and commits (R41). -/
namespace Sys2Proof.Machine
open Sys2Proof

/-! Clearing NET_LOCK touches the time page alone (R49, R51). -/

theorem State.netUnlock_regsBut (s : State) (why : Nat) :
    RegsBut [P.time + R.TIME_LOCK_STAT, P.time + R.PAGE_ERR, P.time + R.TIME_UNLOCK_CNT] s (s.netUnlock why) := by
  intro a ha
  simp only [List.mem_cons, List.not_mem_nil, or_false, not_or] at ha
  obtain ⟨hlock, herr, hcnt⟩ := ha
  exact s.netUnlock_rd why a hlock herr hcnt

theorem State.r49_rd (s : State) (why a : Nat) (ha : a ∉ [P.time + R.TIME_LOCK_STAT, P.time + R.PAGE_ERR, P.time + R.TIME_UNLOCK_CNT]) :
    (s.r49 why).rd a = s.rd a := by
  unfold State.r49
  rw [State.setTime_rd, s.netUnlock_regsBut why a ha]

theorem State.r49_timeLocked (s : State) (why : Nat) : (s.r49 why).timeLocked = false := by
  rw [← s.netUnlock_locked why, State.r49, State.timeLocked, State.timeLocked, State.setTime_flag]

theorem State.r49_fld (s : State) (why p : Nat) (f : Fld)
    (ha : p + f.off ∉ [P.time + R.TIME_LOCK_STAT, P.time + R.PAGE_ERR, P.time + R.TIME_UNLOCK_CNT]) :
    (s.r49 why).fld p f = s.fld p f := by
  unfold State.fld
  rw [s.r49_rd why _ ha]

theorem State.r49_flag (s : State) (why p : Nat) (f : Fld)
    (ha : p + f.off ∉ [P.time + R.TIME_LOCK_STAT, P.time + R.PAGE_ERR, P.time + R.TIME_UNLOCK_CNT]) :
    (s.r49 why).flag p f = s.flag p f := by
  unfold State.flag
  rw [s.r49_fld why p f ha]

theorem State.r49_holdStart (s : State) (why : Nat) : (s.r49 why).time.holdStart = s.time.holdStart := by
  unfold State.r49 State.netUnlock
  dsimp only
  split_ifs <;> simp

theorem State.r49_commits (s : State) (why : Nat) : (s.r49 why).time.commits = s.time.commits ∧ (s.r49 why).time.pend = s.time.pend := by
  obtain ⟨hc, hp, -⟩ := s.netUnlock_commits why
  unfold State.r49
  simp [hc, hp]

/-! A change of the reference (R34, R36). -/

/-- What a change of the reference shows. -/
theorem State.refChange_reads (s : State) (cab : Bool) :
    (s.refChange cab).refActive = cab ∧ (s.refChange cab).flag P.clk F.CLK_STATUS_HOLDOVER = false ∧
      (s.refChange cab).time.holdStart = none ∧ (s.refChange cab).timeLocked = false ∧
      (s.refChange cab).fld P.clk F.CLK_CTRL_REF_SEL = cab.toNat := by
  unfold State.refChange State.refActive
  refine ⟨?_, ?_, ?_, State.r49_timeLocked .., ?_⟩
  · simp (disch := decide) [State.r49_flag, State.flag_setb_other, State.flag_setb_same]
  · simp (disch := decide) [State.r49_flag, State.flag_setb_same]
  · simp [State.r49_holdStart]
  · simp (disch := decide) [State.r49_fld, State.fld_setb_other, State.fld_setf_same]
    cases cab <;> decide

theorem State.refChange_refOk (s : State) (cab c : Bool) : (s.refChange cab).refOk c = s.refOk c := by
  unfold State.refOk State.refChange
  simp (disch := decide) [State.r49_flag, State.flag_setb_other, State.flag_setf_other]

/-- What an error bit of the CLK page leaves. -/
theorem State.err_clk_reads (s : State) (b : Nat) :
    (s.err P.clk b).refActive = s.refActive ∧ (∀ cab, (s.err P.clk b).refOk cab = s.refOk cab) ∧
      (s.err P.clk b).timeLocked = s.timeLocked ∧ (s.err P.clk b).flag P.clk F.CLK_STATUS_HOLDOVER = s.flag P.clk F.CLK_STATUS_HOLDOVER ∧
      (s.err P.clk b).fld P.clk F.CLK_CTRL_REF_SEL = s.fld P.clk F.CLK_CTRL_REF_SEL := by
  unfold State.refActive State.refOk State.timeLocked
  simp (disch := decide) [State.flag_err_other, State.fld_err_other]

theorem State.selectRef_of_other {s : State} {v : BitVec 2} (hv : v.toNat < 2) (hne : decide (v = 1) ≠ s.refActive)
    (hok : s.refOk (decide (v = 1)) = true) :
    s.selectRef v = (s.refChange (decide (v = 1))).errIf (s.flag P.clk F.CLK_STATUS_HOLDOVER) P.clk E.clk_REF_LOSS := by
  unfold State.selectRef
  dsimp only
  rw [if_neg (by omega), if_neg hne, if_neg (by rw [hok]; decide)]

theorem State.selectRef_of_not {s : State} {v : BitVec 2}
    (h : v.toNat ≥ 2 ∨ decide (v = 1) = s.refActive ∨ s.refOk (decide (v = 1)) = false) : s.selectRef v = s := by
  unfold State.selectRef
  dsimp only
  split_ifs with hv hact hok
  · rfl
  · rfl
  · rfl
  · rcases h with h | h | h
    · exact absurd h hv
    · exact absurd h hact
    · exact absurd hok (by rw [h]; decide)

/-- A REF_SEL that names an input has its number. -/
theorem toNat_decide_eq_one {v : BitVec 2} (hv : v.toNat < 2) : (decide (v = 1)).toNat = v.toNat := by
  have h : v.toNat = 0 ∨ v.toNat = 1 := by omega
  rcases h with h | h
  · have hz : v = 0 := BitVec.eq_of_toNat_eq h
    subst hz; rfl
  · have ho : v = 1 := BitVec.eq_of_toNat_eq h
    subst ho; rfl

/-- An input's OK bit after a report, and the bits of CLK_STATUS beside it. -/
theorem State.refOk_setRefOk (s : State) (cab ok : Bool) : (s.setRefOk cab ok).refOk cab = ok := by
  unfold State.refOk State.setRefOk
  cases cab <;> simp (disch := decide) [State.flag_setb_same]

theorem State.refOk_setRefOk_other (s : State) (cab ok : Bool) : (s.setRefOk cab ok).refOk (!cab) = s.refOk (!cab) := by
  unfold State.refOk State.setRefOk
  cases cab <;> simp (disch := decide) [State.flag_setb_other]

theorem State.refActive_setRefOk (s : State) (cab ok : Bool) : (s.setRefOk cab ok).refActive = s.refActive := by
  unfold State.refActive State.setRefOk
  cases cab <;> simp (disch := decide) [State.flag_setb_other]

theorem State.rd_setRefOk_other (s : State) (cab ok : Bool) (a : Nat) (h : a ≠ P.clk + R.CLK_STATUS) :
    (s.setRefOk cab ok).rd a = s.rd a := by
  unfold State.setRefOk
  split_ifs <;> exact State.rd_setb_other _ _ _ _ _ h

@[simp] theorem State.setRefOk_time (s : State) (cab ok : Bool) : (s.setRefOk cab ok).time = s.time := by
  unfold State.setRefOk
  split_ifs <;> simp

@[simp] theorem State.setTime_refOk (s : State) (f : TimeState → TimeState) (cab : Bool) : (s.setTime f).refOk cab = s.refOk cab := by
  unfold State.refOk
  simp

@[simp] theorem State.setTime_refActive (s : State) (f : TimeState → TimeState) : (s.setTime f).refActive = s.refActive := by
  unfold State.refActive
  simp

theorem State.flag_eq_of_rd {s t : State} {p : Nat} {f : Fld} (h : t.rd (p + f.off) = s.rd (p + f.off)) : t.flag p f = s.flag p f := by
  unfold State.flag State.fld
  rw [h]

theorem toSigned_ofSigned_16 {i : Int} (hlo : -32768 ≤ i) (hhi : i < 32768) : toSigned 16 (ofSigned 16 i % 2 ^ 16) = i := by
  unfold toSigned ofSigned
  split_ifs <;> omega

/-- The active input is lost: its OK bit clears, and its presence. -/
def State.loseInput (s : State) (cab : Bool) : State :=
  (s.setRefOk cab false).setTime fun t => if cab then { t with cabPresent := false } else { t with locPresent := false }

theorem State.loseInput_reads (s : State) (cab : Bool) :
    (s.loseInput cab).refOk cab = false ∧ (s.loseInput cab).refOk (!cab) = s.refOk (!cab) ∧ (s.loseInput cab).refActive = s.refActive ∧
      (s.loseInput cab).flag P.clk F.CLK_CTRL_FAILOVER_EN = s.flag P.clk F.CLK_CTRL_FAILOVER_EN ∧
      (s.loseInput cab).time.holdStart = s.time.holdStart ∧ (s.loseInput cab).now = s.now := by
  unfold State.loseInput
  refine ⟨?_, ?_, ?_, ?_, ?_, ?_⟩
  · rw [State.setTime_refOk, State.refOk_setRefOk]
  · rw [State.setTime_refOk, State.refOk_setRefOk_other]
  · rw [State.setTime_refActive, State.refActive_setRefOk]
  · rw [State.setTime_flag, State.flag_eq_of_rd (State.rd_setRefOk_other _ _ _ _ (by decide))]
  · cases cab <;> simp
  · cases cab <;> simp [State.now]

/-- What the loss of the active input comes to (R36). -/
theorem execRefclkLoss_active {s : State} {cab : Bool} (h : cab = s.refActive) :
    execRefclkLoss cab s = .next (if s.flag P.clk F.CLK_CTRL_FAILOVER_EN && s.refOk (!cab) then
        ((s.loseInput cab).refChange (!cab)).err P.clk E.clk_REF_LOSS
      else ((s.loseInput cab).setb P.clk F.CLK_STATUS_HOLDOVER true).setTime fun t => { t with holdStart := some (t.holdStart.getD t.tick) }) := by
  obtain ⟨-, hother, -, hfail, -⟩ := s.loseInput_reads cab
  rw [← hother, ← hfail]
  exact congrArg _ (if_neg (not_not.mpr h))

/-- A loss with failover: the other input takes over (R36). -/
theorem State.failover_reads (u : State) (cab : Bool) :
    ((u.refChange cab).err P.clk E.clk_REF_LOSS).refOk (!cab) = u.refOk (!cab) ∧
      ((u.refChange cab).err P.clk E.clk_REF_LOSS).refActive = cab ∧
      ((u.refChange cab).err P.clk E.clk_REF_LOSS).fld P.clk F.CLK_CTRL_REF_SEL = cab.toNat ∧
      ((u.refChange cab).err P.clk E.clk_REF_LOSS).pageErr P.clk E.clk_REF_LOSS = true ∧
      ((u.refChange cab).err P.clk E.clk_REF_LOSS).timeLocked = false := by
  obtain ⟨hact, -, -, hlock, hsel⟩ := u.refChange_reads cab
  obtain ⟨eact, eok, elock, -, esel⟩ := (u.refChange cab).err_clk_reads E.clk_REF_LOSS
  exact ⟨(eok _).trans (u.refChange_refOk ..), eact.trans hact, esel.trans hsel, State.rbit_err _ _ _ (by decide), elock.trans hlock⟩

/-- A loss without one: the holdover of the reference starts, or goes on (R36). -/
theorem State.holdover_reads (u : State) (cab : Bool) {t : State}
    (ht : t = (u.setb P.clk F.CLK_STATUS_HOLDOVER true).setTime fun t => { t with holdStart := some (t.holdStart.getD t.tick) }) :
    t.refOk cab = u.refOk cab ∧ t.flag P.clk F.CLK_STATUS_HOLDOVER = true ∧ t.refActive = u.refActive ∧
      t.time.holdStart = some (u.time.holdStart.getD u.now) := by
  subst ht
  refine ⟨?_, ?_, ?_, by simp [State.now]⟩
  · unfold State.refOk
    simp (disch := decide) [State.flag_setb_other]
  · simp (disch := decide) [State.flag_setb_same]
  · unfold State.refActive
    simp (disch := decide) [State.flag_setb_other]

/-- The loss of the inactive input (R35). -/
theorem State.inactiveLoss_reads {s : State} {cab : Bool} (h : cab ≠ s.refActive) (absent : Bool) :
    (s.inactiveLoss cab absent).refOk cab = false ∧
      (absent = true → (s.inactiveLoss cab absent).fld P.clk F.CLK_ALT_DEV_DEV_PPM = 0x8000) ∧
      RegsBut [P.clk + R.CLK_STATUS, P.clk + R.CLK_ALT_DEV] s (s.inactiveLoss cab absent) := by
  unfold State.inactiveLoss
  rw [if_neg h]
  have hlost := s.refOk_setRefOk cab false
  cases absent
  case false =>
    dsimp only
    rw [if_neg Bool.false_ne_true]
    refine ⟨hlost, nofun, fun a ha => ?_⟩
    simp only [List.mem_cons, List.not_mem_nil, or_false, not_or] at ha
    exact State.rd_setRefOk_other _ _ _ _ ha.1
  case true =>
    dsimp only
    rw [if_pos rfl]
    refine ⟨?_, fun _ => ?_, fun a ha => ?_⟩
    · rw [State.setTime_refOk]
      refine Eq.trans ?_ hlost
      unfold State.refOk
      simp (disch := decide) [State.flag_setf_other]
    · rw [State.setTime_fld, State.fld_setf_same _ _ _ _ (by decide)]
      decide
    · simp only [List.mem_cons, List.not_mem_nil, or_false, not_or] at ha
      rw [State.setTime_rd, State.rd_setf_other _ _ _ _ _ ha.2, State.rd_setRefOk_other _ _ _ _ ha.1]

/-! NET_LOCK (R47-R50). -/

theorem State.startHold_flag (s : State) (ofs p : Nat) (f : Fld) : (s.startHold ofs).flag p f = s.flag p f := by
  unfold State.startHold
  simp

theorem State.startHold_fld (s : State) (ofs p : Nat) (f : Fld) : (s.startHold ofs).fld p f = s.fld p f := by
  unfold State.startHold
  simp

/-- A good measurement counts; the count that reaches LOCK_CNT sets NET_LOCK (R47). -/
theorem State.measOfs_good {s : State} {v : Word} (h : v.toInt.natAbs ≤ s.netGuard) :
    (s.measOfs v).fld P.time F.TIME_LOCK_STAT_GOOD_CNT = min (s.fld P.time F.TIME_LOCK_STAT_GOOD_CNT + 1) 255 ∧
    (s.lockCnt ≤ min (s.fld P.time F.TIME_LOCK_STAT_GOOD_CNT + 1) 255 → (s.measOfs v).timeLocked = true) := by
  have hcnt : (s.inc P.time F.TIME_LOCK_STAT_GOOD_CNT).fld P.time F.TIME_LOCK_STAT_GOOD_CNT =
      min (s.fld P.time F.TIME_LOCK_STAT_GOOD_CNT + 1) 255 := by
    rw [State.inc, State.fld_setf_same _ _ _ _ (by decide)]
    exact Nat.mod_eq_of_lt (Nat.lt_of_le_of_lt (Nat.min_le_right ..) (by decide))
  have hlim : (s.inc P.time F.TIME_LOCK_STAT_GOOD_CNT).lockCnt = s.lockCnt := by
    unfold State.lockCnt State.inc
    rw [State.fld_setf_other _ _ _ _ _ _ (by decide) (by decide)]
  unfold State.measOfs State.timeLocked
  dsimp only
  rw [if_pos h, hcnt, hlim]
  split_ifs with hlock hset
  · exact ⟨by rw [State.startHold_fld, State.fld_setb_other _ _ _ _ _ _ (by decide) (by decide), hcnt],
      fun _ => by rw [State.startHold_flag, State.flag_setb_same _ _ _ _ (by decide) rfl]⟩
  · rw [State.flag_setb_same _ _ _ _ (by decide) rfl] at hset
    exact absurd rfl hset
  · exact ⟨by rw [State.startHold_fld, hcnt], fun h => absurd h hlock⟩
  · exact ⟨hcnt, fun h => absurd h hlock⟩

theorem State.measOfs_bad {s : State} {v : Word} (h : s.netGuard < v.toInt.natAbs) :
    s.measOfs v = if s.masterHolds then s.setf P.time F.TIME_LOCK_STAT_GOOD_CNT 0 else s.netUnlock 1 := by
  unfold State.measOfs
  dsimp only
  rw [if_neg (Nat.not_le.mpr h)]

/-- NET_MASTER set: it holds the lock from now on (R50). -/
theorem State.setMaster_on {s : State} (h : s.flag P.time F.TIME_LOCK_CFG_NET_MASTER = false) :
    (s.setMaster true).time.masterOk = true ∧
      (s.flag P.clk F.CLK_STATUS_SYS_LOCK = true → (s.setMaster true).timeLocked = true ∧ (s.setMaster true).time.holdEnd = none) := by
  unfold State.setMaster State.timeLocked
  dsimp only
  rw [if_pos (by simp [h])]
  have hsys : ((s.setb P.time F.TIME_LOCK_CFG_NET_MASTER true).setTime fun t => { t with masterOk := true }).flag P.clk F.CLK_STATUS_SYS_LOCK =
      s.flag P.clk F.CLK_STATUS_SYS_LOCK := by
    rw [State.setTime_flag, State.flag_setb_other _ _ _ _ _ _ (by decide) (by decide)]
  rw [hsys]
  split_ifs with hlock
  · simp (disch := decide) [State.flag_setb_same]
  · exact ⟨by simp, fun h => absurd h hlock⟩

theorem State.setMaster_flag (s : State) (on : Bool) : (s.setMaster on).flag P.time F.TIME_LOCK_CFG_NET_MASTER = on := by
  unfold State.setMaster
  dsimp only
  split_ifs <;> simp (disch := decide) [State.startHold_flag, State.flag_setb_other, State.flag_setb_same]

/-- NET_MASTER cleared while it held the lock: the holdover of R48 starts. -/
theorem State.setMaster_off {s : State} (hmaster : s.masterHolds = true) (hlock : s.timeLocked = true) :
    (s.setMaster false).time.holdEnd.isSome = true := by
  have hwas : s.flag P.time F.TIME_LOCK_CFG_NET_MASTER = true := by
    unfold State.masterHolds at hmaster
    simp only [Bool.and_eq_true] at hmaster
    exact hmaster.1.1
  have hnow : (s.setb P.time F.TIME_LOCK_CFG_NET_MASTER false).masterHolds = false := by
    unfold State.masterHolds
    rw [State.flag_setb_same _ _ _ _ (by decide) rfl]
    rfl
  unfold State.timeLocked at hlock
  simp [State.setMaster, hwas, hmaster, hlock, State.startHold, hnow]

/-! Latched reads (R40). -/

theorem State.latchOf_setLatch (s : State) (q : Fin 514) (f : TimeLatch → TimeLatch) : (s.setLatch q f).latchOf q = f (s.latchOf q) := by
  simp [State.latchOf, State.setLatch]

theorem State.latchOf_setLatch_other (s : State) {q p : Fin 514} (f : TimeLatch → TimeLatch) (h : p ≠ q) :
    (s.setLatch q f).latchOf p = s.latchOf p := by
  simp [State.latchOf, State.setLatch, Vector.getElem_set_ne _ _ (Fin.val_ne_of_ne h.symm)]

/-- An answer to a requester stands first and changes nothing else. -/
theorem State.answer_eq (s : State) (q : Fin 514) (a v : Nat) :
    s.answer q a v = { s with resp := ⟨q, a, v, false⟩ :: s.resp.filter fun x => x.req ≠ q.val } := by
  unfold State.answer State.respond
  rw [if_neg (show q.val ≠ noReq by have := q.isLt; unfold noReq; omega)]

/-- A latching read: the requester's latch, and its answer. -/
theorem State.latchRead_spec (s : State) (q : Fin 514) (f : TimeLatch → TimeLatch) (a v : Nat) :
    (((s.setLatch q f).answer q a v).latchOf q = f (s.latchOf q)) ∧ ((s.setLatch q f).answer q a v).resp.head? = some ⟨q, a, v, false⟩ ∧
      (∀ p, p ≠ q → ((s.setLatch q f).answer q a v).latchOf p = s.latchOf p) ∧
      (s.setLatch q f).answer q a v = { s with time := ((s.setLatch q f).answer q a v).time, resp := ((s.setLatch q f).answer q a v).resp } := by
  rw [State.answer_eq]
  exact ⟨s.latchOf_setLatch q f, rfl, fun p hp => s.latchOf_setLatch_other f hp, rfl⟩

/-! Commits (R41). -/

theorem State.writeCmtCtrl_go {s : State} {v : Nat} (hpend : s.cmtPending = false) (hgo : v % 2 = 1) :
    (s.writeCmtCtrl v).time.pend =
      some (if (s.wr (P.time + R.TIME_CMT_CTRL) (v % 2 ^ 7 &&& 0x73)).flag P.time F.TIME_CMT_CTRL_AT_TICK ∧ s.now < s.rd64 P.time R.TIME_CMT_TICK_LO
        then s.rd64 P.time R.TIME_CMT_TICK_LO else s.now + 1) := by
  have hwant : (s.wr (P.time + R.TIME_CMT_CTRL) (v % 2 ^ 7 &&& 0x73)).rd64 P.time R.TIME_CMT_TICK_LO = s.rd64 P.time R.TIME_CMT_TICK_LO := by
    unfold State.rd64
    rw [State.rd_wr_other _ _ _ _ (by decide), State.rd_wr_other _ _ _ _ (by decide)]
  unfold State.writeCmtCtrl
  dsimp only
  rw [hpend, if_neg Bool.false_ne_true, if_neg (by omega), hwant, State.wr_now]
  have hpend (c : Bool) (t : State) : (t.when c fun s => s.setb P.time F.TIME_CMT_STAT_LATE true).time = t.time := by
    unfold State.when
    split_ifs <;> simp
  rw [hpend, State.setTime_time]
  cases (s.wr (P.time + R.TIME_CMT_CTRL) (v % 2 ^ 7 &&& 0x73)).flag P.time F.TIME_CMT_CTRL_AT_TICK <;> simp

theorem State.endCommit_time (s : State) : s.endCommit.time = { s.time with pend := none } := by
  simp [State.endCommit]

/-- The end of a due commit: rejected whole, or the newest of the four kept. -/
theorem State.takeCommit_time (s : State) (tn : Nat) : (s.takeCommit tn).time.pend = none ∧ (s.takeCommit tn).time.commits =
    if (s.flag P.time F.TIME_CMT_CTRL_SEL_SET && decide (s.rd (P.time + R.TIME_SET_NS) ≥ 1000000000)) ||
        (s.flag P.time F.TIME_CMT_CTRL_SEL_INC && !incOk s.stagedInc) then s.time.commits
    else ⟨s.commitBase tn, tn, if s.flag P.time F.TIME_CMT_CTRL_SEL_INC then s.stagedInc else s.time.cur.inc⟩ :: s.time.commits.take 3 := by
  unfold State.takeCommit
  dsimp only
  split
  · simp [State.endCommit_time]
  · have hwhen (c : Bool) (t : State) : (t.when c fun s => s.r49 4).time.pend = t.time.pend ∧
        (t.when c fun s => s.r49 4).time.commits = t.time.commits := by
      unfold State.when
      split_ifs
      exacts [⟨(t.r49_commits 4).2, (t.r49_commits 4).1⟩, ⟨rfl, rfl⟩]
    rw [(hwhen _ _).1, (hwhen _ _).2, State.endCommit_time]
    simp

/-- Settles O13. -/
theorem timeAndClocks : Obligations.TimeAndClocks := by
  refine ⟨?refSel, ?refclkLoss, ?inactiveRefLoss, ?refclkRecovery, ?altDevMeasure, ?timeMeasOfs, ?netHoldoverExpiry, ?netMaster,
    ?timeTickLo, ?timeSubns, ?timeStageWrite, ?timeCmtGo, ?commitTakeEffect, ?law⟩
  case refSel =>
    refine fun v s => ⟨s.selectRef v, rfl, fun hv hne hok => ?_, State.selectRef_of_not⟩
    rw [State.selectRef_of_other hv hne hok]
    obtain ⟨hact, hhold, hstart, hlock, hsel⟩ := s.refChange_reads (decide (v = 1))
    cases hwas : s.flag P.clk F.CLK_STATUS_HOLDOVER
    · exact ⟨hact, hhold, hstart, hlock, hsel.trans (toNat_decide_eq_one hv), nofun⟩
    · obtain ⟨eact, -, elock, ehold, esel⟩ := (s.refChange (decide (v = 1))).err_clk_reads E.clk_REF_LOSS
      rw [State.errIf, if_pos rfl]
      exact ⟨eact.trans hact, ehold.trans hhold, by rw [State.err_time, hstart], elock.trans hlock,
        (esel.trans hsel).trans (toNat_decide_eq_one hv), fun _ => State.rbit_err _ _ _ (by decide)⟩
  case refclkLoss =>
    intro cab s
    by_cases h : cab = s.refActive
    · refine ⟨_, execRefclkLoss_active h, fun hne => absurd h hne, fun _ => ?_⟩
      obtain ⟨hlost, -, hact, -, hstart, hnow⟩ := s.loseInput_reads cab
      split_ifs with hgo
      · obtain ⟨hok, hreads⟩ := (s.loseInput cab).failover_reads (!cab)
        rw [Bool.not_not] at hok
        exact ⟨hok.trans hlost, hreads⟩
      · obtain ⟨hok, hhold, hactive, hs⟩ := (s.loseInput cab).holdover_reads cab rfl
        rw [hstart, hnow] at hs
        exact ⟨hok.trans hlost, hhold, (hactive.trans hact).trans h.symm, hs⟩
    · exact ⟨s, congrArg _ (if_pos h), fun _ => rfl, fun he => absurd he h⟩
  case inactiveRefLoss =>
    refine fun cab absent s => ⟨s.inactiveLoss cab absent, rfl, ?_⟩
    split_ifs with h
    · exact if_pos h
    · exact State.inactiveLoss_reads h absent
  case refclkRecovery =>
    refine fun cab s => ⟨_, rfl, ?_, ?_, fun a ha => ?_⟩
    · rw [State.setTime_refOk, State.refOk_setRefOk]
    · rw [State.setTime_refActive, State.refActive_setRefOk]
    · rw [State.setTime_rd, State.rd_setRefOk_other _ _ _ _ (by simpa using ha)]
  case altDevMeasure =>
    refine fun ppm s hpresent => ⟨_, rfl, ?_⟩
    have hclamp := clampI_mem (show (-32767 : Int) ≤ 32767 by decide) ppm
    rw [if_neg (by cases hact : s.refActive <;> simp_all)]
    refine ⟨?_, ?_, fun a ha => ?_⟩
    · rw [State.fld, State.rd_setRefOk_other _ _ _ _ (by decide), ← State.fld, State.fld_setf_same _ _ _ _ (by decide)]
      exact toSigned_ofSigned_16 (by omega) (by omega)
    · exact State.refOk_setRefOk ..
    · simp only [List.mem_cons, List.not_mem_nil, or_false, not_or] at ha
      rw [State.rd_setRefOk_other _ _ _ _ ha.1, State.rd_setf_other _ _ _ _ _ ha.2]
  case timeMeasOfs =>
    refine fun v s => ⟨fun h => ⟨_, rfl, (State.measOfs_good h).1⟩, fun h hcnt => ⟨_, rfl, (State.measOfs_good h).2 hcnt⟩,
      fun h hm => congrArg _ ((State.measOfs_bad h).trans (if_pos hm)),
      fun h hm => congrArg _ ((State.measOfs_bad h).trans (if_neg (by rw [hm]; decide)))⟩
  case netHoldoverExpiry =>
    refine fun s => ⟨_, rfl, fun e he hdue hlock => ?_, fun h => ?_⟩
    · obtain ⟨hwhy, herr, htime⟩ := s.netUnlock_was 2 hlock
      rw [he]
      dsimp only
      rw [if_pos ⟨hdue, hlock⟩]
      exact ⟨s.netUnlock_locked 2, hwhy, by rw [htime], herr⟩
    · split
      · rename_i e he
        refine if_neg fun hgo => ?_
        rcases h with h | h | ⟨e', he', hlt⟩
        · exact absurd he (by rw [h]; exact nofun)
        · exact absurd hgo.2 (by rw [← State.timeLocked, h]; exact nofun)
        · have : e = e' := Option.some.inj (he.symm.trans he')
          omega
      · rfl
  case netMaster =>
    exact fun on s => ⟨_, rfl, s.setMaster_flag on, fun hon hwas => by subst hon; exact State.setMaster_on hwas,
      fun hon hm hl => by subst hon; exact State.setMaster_off hm hl⟩
  case timeTickLo =>
    refine fun q s => ⟨s.readTickLo q, rfl, ?_⟩
    obtain ⟨hlatch, hrest⟩ := s.latchRead_spec q (fun l => { l with tickHi := s.now / 2 ^ 32 % 2 ^ 32 }) (P.time + R.TIME_TICK_LO) (s.now % 2 ^ 32)
    exact ⟨congrArg TimeLatch.tickHi hlatch, hrest⟩
  case timeSubns =>
    refine fun q s => ⟨s.readSubns q, rfl, ?_⟩
    obtain ⟨hlatch, hrest⟩ := s.latchRead_spec q (fun l => { l with time := timeWith s.time.cur s.now, tick := s.now }) (P.time + R.TIME_SUBNS)
      (timeFrac (timeWith s.time.cur s.now) / 2 ^ 16)
    exact ⟨congrArg TimeLatch.time hlatch, congrArg TimeLatch.tick hlatch, hrest⟩
  case timeStageWrite =>
    refine fun r v s => ⟨s.writeStage r.val v.toNat, rfl, ?_⟩
    unfold State.writeStage
    split_ifs
    · rfl
    · refine ⟨?_, fun a ha => State.rd_wr_other _ _ _ _ (by simpa using ha), rfl⟩
      rw [State.rd_wr_same]
      exact Nat.mod_eq_of_lt (Nat.lt_of_le_of_lt Nat.and_le_left v.isLt)
  case timeCmtGo =>
    refine fun v s => ⟨fun h => ?_, fun h hgo => ?_, fun h hgo => ⟨s.writeCmtCtrl v.toNat, rfl, State.writeCmtCtrl_go h hgo⟩⟩
    · exact congrArg _ (if_pos h)
    · exact congrArg _ ((if_neg (by rw [h]; decide)).trans (if_pos hgo))
  case commitTakeEffect =>
    refine fun s tn hpend hdue => ⟨_, rfl, ?_⟩
    rw [hpend]
    dsimp only
    rw [if_pos hdue]
    exact s.takeCommit_time tn
  case law =>
    exact fun s why => ⟨s.netUnlock_locked why, s.netUnlock_goodCnt why, fun h => by
      obtain ⟨hwhy, herr, htime⟩ := s.netUnlock_was why h
      exact ⟨hwhy, herr, by rw [htime]⟩, s.netUnlock_regsBut why⟩

end Sys2Proof.Machine
end

section
/-! SUPPORT. One step of the machine, and the state right after reset (O1, O3, O4). -/
namespace Sys2Proof.Machine
open Sys2Proof

/-- With no management work waiting the agent does nothing. -/
theorem State.mgmtRun_of_quiet (s : State) (n : Nat) (hjob : s.mgmt.job = none) (htodo : s.mgmt.todo = [])
    (hsave : s.power.save = none) (hwait : s.power.wait = false) : s.mgmtRun n = s := by
  cases n with
  | zero => rfl
  | succ n => simp [State.mgmtRun, hjob, htodo, hsave, hwait]

/-- Settles O1: the front of the queue is executed on the rest; on an empty queue one tick passes. -/
theorem stepRunsTheFront : Obligations.StepRunsTheFront := by
  unfold Obligations.StepRunsTheFront
  refine ⟨fun c l s h => ?front, fun s h => ?idle, fun s => ⟨rfl, rfl, rfl, rfl⟩, fun s hjob htodo hsave hwait h => ?quiet⟩
  case front => simp [step, h]
  case idle => simp [step, h, State.idle]
  case quiet =>
    have hrun : s.tickOn.mgmtRun 68 = s.tickOn := State.mgmtRun_of_quiet _ _ hjob htodo hsave hwait
    simp [step, h, State.idle, hrun]

theorem State.rd_reset (a : Nat) : State.reset.rd a = resetVal a % 2 ^ 32 := BitVec.toNat_ofNat ..

theorem State.sh_reset (a : Nat) : State.reset.sh a = resetVal a % 2 ^ 32 := BitVec.toNat_ofNat ..

theorem State.eng_reset (e : Fin 512) : State.reset.eng e = {} := by
  simp [State.eng, State.reset]

/-- Settles O3: every register file is empty in the reset state, so every register reads its reset value. -/
theorem resetState : Obligations.ResetState := by
  unfold Obligations.ResetState
  refine ⟨fun a => ⟨State.rd_reset a, State.sh_reset a⟩, ⟨?stage, rfl, rfl, ?locked, ?hostUp, ?timeLocked, rfl, rfl, rfl, rfl, rfl⟩,
    fun e => ?engines⟩
  case stage => rw [State.stage, State.fld, State.rd_reset]; decide
  case locked => rw [State.locked, State.flag, State.fld, State.rd_reset]; decide
  case hostUp => rw [State.hostUp, State.flag, State.fld, State.rd_reset]; decide
  case timeLocked => rw [State.timeLocked, State.flag, State.fld, State.rd_reset]; decide
  case engines => rw [State.eng_reset]; exact ⟨rfl, rfl, rfl, rfl⟩

/-- Settles O4: the memories and register files of the reset state are empty, and no floor is fused. -/
theorem resetMeetsInvariants : Obligations.ResetMeetsInvariants := by
  unfold Obligations.ResetMeetsInvariants
  exact ⟨rfl, rfl, rfl, rfl, Nat.zero_le _⟩

end Sys2Proof.Machine
end

section
/-! SUPPORT. Engine states and control: reset, GO, STEP, HALT, waking, breakpoints, watchdog and debug access (O26). -/
namespace Sys2Proof.Machine
open Sys2Proof

theorem exec_engRst (e : Fin 512) (s : State) : exec (.engRst e) s = .next (s.engRst e) := rfl
theorem exec_engRstRelease (e : Fin 512) (s : State) :
    exec (.engRstRelease e) s = .next (if (s.eng e).st = .safety then s else s.engRelease e) := rfl
theorem exec_engGo (e : Fin 512) (s : State) : exec (.engGo e) s = .next (s.engGo e) := rfl
theorem exec_engStep (e : Fin 512) (s : State) : exec (.engStep e) s = .next (s.engStep e) := rfl
theorem exec_engHalt (e : Fin 512) (s : State) : exec (.engHalt e) s = .next (s.engHalt e) := rfl
theorem exec_engDbgDataWrite (e : Fin 512) (v : Word) (s : State) :
    exec (.engDbgDataWrite e v) s = .next (s.engDbg e v.toNat) := rfl
theorem exec_engPcWrite (e : Fin 512) (v : BitVec 12) (s : State) :
    exec (.engPcWrite e v) s = .next (s.setEngPc e v.toNat) := rfl

/-- A waiting engine with something to wake it runs; the exception that matches is taken outside a handler. -/
theorem exec_engineWake {e : Fin 512} {s : State} (hst : (s.eng e).st = .waiting)
    (hwake : (s.eng e).calls ≠ [] ∨ (s.eng e).mails ≠ [] ∨ (s.eng e).wdPend = true) :
    exec (.engineWake e) s = .next (
      let u := s.setEng e fun x => x.toSt s.now .running
      match u.asyncCause e with
      | some c => if (s.eng e).exl then u else u.exception e c 0 0 false
      | none => u) := by
  change execEngineWake e s = _
  have hw : (s.eng e).st = .waiting ∧ (!(s.eng e).calls.isEmpty ∨ !(s.eng e).mails.isEmpty ∨ (s.eng e).wdPend) := by
    simpa [hst] using hwake
  exact congrArg Host.Outcome.next (if_pos hw)

/-- A breakpoint that is met, by what ENG_CFG asks for there. -/
theorem exec_breakpointMatch {e : Fin 512} {s : State} (hready : (s.eng e).ready = true) (hpre : s.preempted e = false)
    (hbrk : s.brkMatch e = true) :
    exec (.breakpointMatch e) s = .next (
      if s.flag (P.engine e) F.ENG_CFG_BRK_HALT then
        if (s.eng e).slot.isSome then s.setEng e fun x => { x with haltReq := true, brkSkip := some x.pc }
        else s.setEng e fun x => { x.halt s.now with brkSkip := some x.pc }
      else if s.badFetch e then s.memFault e
      else s.exception e 6 0 0 true) :=
  congrArg Host.Outcome.next (if_neg (by simp [hready, hpre, hbrk]))

/-- A watchdog count that has run out. -/
theorem exec_engWdogExpiry {e : Fin 512} {s : State} (hper : s.wdPeriod e ≠ 0) (hcnt : (s.eng e).st.counts = true)
    (hleft : (s.eng e).wdLeft ≤ 2 * (s.now - (s.eng e).wdAt)) :
    exec (.engWdogExpiry e) s = .next (
      if (s.eng e).wdOnce then (s.setEng e fun x => x.toSt s.now .faultHalt).err (P.engine e) E.engine_WDOG
      else s.setEng e fun x => { x with wdLeft := s.wdPeriod e, wdAt := s.now, wdPend := true, wdOnce := true }) :=
  congrArg Host.Outcome.next (if_neg (by simp [hper, hcnt, hleft]))

/-- An engine that runs makes its own accesses to the I/O page. -/
theorem State.engOn_of_running {e : Fin 512} {s : State} (h : (s.eng e).st = .running) : s.engOn e = true := by
  simp [State.engOn, h]

/-- An aligned write by a requester that may make it reaches the engine's memory. -/
theorem exec_externalMemoryWrite {q : Fin 514} {addr : BitVec 26} {sz : Fin 4} {v : BitVec 64} {e : Fin 512} {s : State}
    (hreg : regionAt addr.toNat = .engMem e.val) (halign : addr.toNat % 2 ^ sz.val = 0)
    (hok : s.accessOk q.val addr.toNat true = true) :
    exec (.externalMemoryWrite q addr sz v) s = .next (s.engMemWrite e addr.toNat (2 ^ sz.val) v.toNat) := by
  change execExternalMemoryWrite q addr sz v s = _
  simp [execExternalMemoryWrite, hreg, fin?, halign, hok]

/-- Settles O26: each command by the branch of its definition that the clause's hypotheses choose. -/
theorem engineControl : Obligations.EngineControl := by
  unfold Obligations.EngineControl
  refine ⟨?engRst, ?engRstRelease, ?engGo, ?engStep, ?engHalt, ?engineWake, ?breakpointMatch, ?engWdogExpiry, ?ioWdogKick,
    ?engDbgDataWrite, ?engPcWrite, ?ioCycleLoRead, ?externalMemoryWrite⟩
  case engRst =>
    intro e s
    refine ⟨fun h => ?_, fun h hs hf => ?_, fun h hp => ?_⟩
    · rw [exec_engRst, State.engRst, if_pos h]
    · rw [exec_engRst, State.engRst, if_neg h, if_pos (by simp [hs, hf]), State.engReset]
    · rw [exec_engRst, State.engRst, if_neg h, if_neg (by simpa [imp_iff_not_or] using hp)]
  case engRstRelease =>
    intro e s h
    have h' : ((s.setb (P.engine e) F.ENG_CTRL_RST false).eng e).st = .reset := by simpa using h
    rw [exec_engRstRelease, if_neg (by simp [h]), State.engRelease, if_pos h']
  case engGo =>
    intro e s
    refine ⟨fun h hfull hdom => ?_, fun h => ?_⟩
    · rw [exec_engGo, State.engGo, if_pos (by simp [h, hfull, hdom]), State.engRun]
    · rw [exec_engGo, State.engGo, if_neg (by simpa [imp_iff_not_or] using h)]
  case engStep =>
    intro e s
    refine ⟨fun h => ?_, fun h => ?_⟩
    · rw [exec_engStep, State.engStep, if_pos h, State.engRun]
    · rw [exec_engStep, State.engStep, if_neg h]
  case engHalt =>
    intro e s
    refine ⟨fun h => ?_, fun h hp => ?_⟩
    · rw [exec_engHalt, State.engHalt, if_pos h]
      rfl
    · rw [exec_engHalt, State.engHalt, if_neg (by simpa [h, imp_iff_not_or] using hp), if_pos h]
  case engineWake =>
    rintro e s u hst hwake rfl
    refine ⟨fun hexl => ?_, fun hexl hc => ?_, fun c hexl hc => ?_⟩
    · rw [exec_engineWake hst hwake]
      dsimp only
      split <;> simp [hexl]
    · rw [exec_engineWake hst hwake]
      simp [hc]
    · rw [exec_engineWake hst hwake]
      simp [hc, hexl]
  case breakpointMatch =>
    intro e s hready hpre hbrk
    refine ⟨fun hcfg hbad => ?_, fun hcfg hbad => ?_, fun hcfg hslot => ?_, fun hcfg hslot => ?_⟩
    · rw [exec_breakpointMatch hready hpre hbrk, if_neg (by simp [hcfg]), if_neg (by simp [hbad])]
    · rw [exec_breakpointMatch hready hpre hbrk, if_neg (by simp [hcfg]), if_pos hbad]
    · rw [exec_breakpointMatch hready hpre hbrk, if_pos hcfg, if_neg (by simp [hslot])]
    · rw [exec_breakpointMatch hready hpre hbrk, if_pos hcfg, if_pos (Option.isSome_iff_ne_none.mpr hslot)]
  case engWdogExpiry =>
    intro e s hper hcnt hleft
    refine ⟨fun h => ?_, fun h => ?_⟩
    · rw [exec_engWdogExpiry hper hcnt hleft, if_neg (by simp [h])]
    · rw [exec_engWdogExpiry hper hcnt hleft, if_pos h]
  case ioWdogKick => exact fun e s h => congrArg Host.Outcome.next (if_pos (State.engOn_of_running h))
  case engDbgDataWrite =>
    intro e v s
    refine ⟨fun h => ?_, fun h => ?_⟩
    · rw [exec_engDbgDataWrite, State.engDbg, if_pos h]
    · rw [exec_engDbgDataWrite, State.engDbg, if_neg h]
  case engPcWrite =>
    intro e v s
    refine ⟨fun h => ?_, fun h => ?_⟩
    · rw [exec_engPcWrite, State.setEngPc, if_pos h, Nat.mod_eq_of_lt (a := v.toNat) v.isLt]
    · rw [exec_engPcWrite, State.setEngPc, if_neg h]
  case ioCycleLoRead => exact fun e s h => congrArg Host.Outcome.next (if_pos (State.engOn_of_running h))
  case externalMemoryWrite =>
    intro q addr sz v e s hreg halign hok
    refine ⟨fun h => ?_, fun hlow hr hh => ?_⟩
    · rw [exec_externalMemoryWrite hreg halign hok, State.engMemWrite, if_neg]
      rintro ⟨hlow, hr, hh⟩
      rcases h with h | h | h
      · omega
      · exact hr h
      · exact hh h
    · rw [exec_externalMemoryWrite hreg halign hok, State.engMemWrite, if_pos ⟨hlow, hr, hh⟩]

/-- Mail enters a MAIL queue that has room. -/
theorem State.pushMail_of_room {s : State} {e : Fin 512} (m : Msg) (hst : (s.eng e).st ≠ .safety) (hroom : (s.eng e).mails.length < 8) :
    s.pushMail e m = (true, s.setEng e fun x => { x with mails := x.mails ++ [m] }) :=
  if_neg (by simp [hst, hroom])

/-- Settles O28: each send and pop by the branch of its definition that the clause's hypotheses choose. -/
theorem engineMessages : Obligations.EngineMessages := by
  unfold Obligations.EngineMessages
  refine ⟨?sendReply, ?sendMail, ?sendHostMail, ?ioCallPop, ?ioMailPop, ?engMailSend, ?engHmailPop, fun e s => rfl⟩
  case sendReply =>
    intro e len s hrun
    have hexec : exec (.sendReply e len) s = .next (s.sendReply e len) := congrArg Host.Outcome.next (if_pos (State.engOn_of_running hrun))
    refine ⟨fun h => ?_, fun h => ?_⟩
    · subst h
      rw [hexec, State.sendReply, if_neg (by decide)]
      rfl
    · have hlen : (len : Nat) ≠ 4 := fun hl => h (Fin.ext hl)
      rw [hexec, State.sendReply, if_pos hlen, State.setRefused]
  case sendMail =>
    intro e q t len s hrun hq
    have hexec : exec (.sendMail e t len) s = .next (s.sendMail e t len) := congrArg Host.Outcome.next (if_pos (State.engOn_of_running hrun))
    have hq' : (⟨32 * (e.val / 32) + t.val, by omega⟩ : Fin 512) = q := Fin.ext hq.symm
    refine ⟨fun hdom hst hroom => ?_, fun hdom => ?_⟩
    · rw [hexec, State.sendMail, hq', State.pushMail_of_room _ hst hroom]
      exact congrArg Host.Outcome.next (if_pos ⟨hdom, rfl⟩)
    · rw [hexec, State.sendMail, hq']
      exact congrArg Host.Outcome.next (if_neg fun h => hdom h.1)
  case sendHostMail =>
    intro e len s hrun
    have hexec : exec (.sendHostMail e len) s = .next (s.sendHostMail e len) := congrArg Host.Outcome.next (if_pos (State.engOn_of_running hrun))
    refine ⟨fun hfull => ?_, fun hsome hroom => ?_, fun hnil => ?_⟩
    · rw [hexec, State.sendHostMail, if_pos hfull, State.setRefused]
    · have hne : (s.eng e).hmails.isEmpty = false := by simpa using List.ne_nil_of_length_pos hsome
      rw [hexec, State.sendHostMail, if_neg (by omega)]
      simp [hne, State.when]
    · rw [hexec, State.sendHostMail, if_neg (by simp [hnil])]
      simp [hnil, State.when]
  case ioCallPop => exact fun e s h => congrArg Host.Outcome.next (if_pos (State.engOn_of_running h))
  case ioMailPop => exact fun e s h => congrArg Host.Outcome.next (if_pos (State.engOn_of_running h))
  case engMailSend =>
    intro e len s hst
    have hexec : exec (.engMailSend e len) s = .next (s.mailIn e len) := congrArg Host.Outcome.next (if_neg hst)
    refine ⟨fun hroom => ?_, fun hfull => ?_⟩
    · rw [hexec, State.mailIn, State.pushMail_of_room _ hst hroom]
      rfl
    · rw [hexec, State.mailIn, State.pushMail, if_pos (Or.inr hfull)]
      rfl
  case engHmailPop =>
    exact fun e s h => congrArg Host.Outcome.next (if_neg (by simpa using h))

end Sys2Proof.Machine
end

section
/-! SUPPORT. The engine's register instructions: each changes its engine alone (O29, O30, O32). -/
namespace Sys2Proof.Machine
open Sys2Proof

/-- The command of an instruction that runs leaves the state its effect gives. -/
theorem runOp_of {s t : State} {e : Fin 512} {o : EngOp} {pick : EngOp → Option (State → Eff)} {act : State → Eff}
    (h : s.runs e o) (hp : pick o = some act)
    (hact : (act (s.setEng e EngineState.settle)).apply s (s.setEng e EngineState.settle) e = t) :
    (Host.Outcome.next (s.runOp e pick) : Out) = .next t := by
  rw [State.runOp_runs h hp, hact]

/-- The command of an instruction that changes its engine alone and completes. -/
theorem runOp_complete {s : State} {e : Fin 512} {o : EngOp} {pick : EngOp → Option (State → Eff)} {f : EngineState → EngineState}
    {x : EngineState} (h : s.runs e o) (hp : pick o = some (complete e f)) (hx : f (s.core e) = x) :
    (Host.Outcome.next (s.runOp e pick) : Out) = .next (s.afterOp e x) := by
  rw [State.runOp_runs h hp, complete_apply, hx]

theorem State.eng_settle (s : State) (e : Fin 512) : (s.setEng e EngineState.settle).eng e = s.core e := State.eng_setEng s e _

/-- The command of an instruction whose result goes through the store path into a data register. -/
theorem runOp_storeReg {s : State} {e : Fin 512} {o : EngOp} {pick : EngOp → Option (State → Eff)} {act : State → Eff} {rd : Fin 16}
    {w : Option (Word × Bool)} (h : s.runs e o) (hp : pick o = some act)
    (hact : act (s.setEng e EngineState.settle) = storeReg e rd w (s.setEng e EngineState.settle)) :
    (∀ r l, w = some (r, l) → (Host.Outcome.next (s.runOp e pick) : Out) = .next (s.afterOp e { s.core e with
      d := (s.core e).d.set rd r, fl := { (s.core e).fl with z := r == 0, n := r.msb, l := (s.core e).fl.l || l } })) ∧
    (w = none → (Host.Outcome.next (s.runOp e pick) : Out) = .next ((s.setEng e EngineState.settle).exception e 4 0 0 true)) := by
  rw [State.runOp_runs h hp, hact]
  refine ⟨fun r l hw => ?_, fun hw => ?_⟩
  · rw [hw, storeReg, complete_apply]
    rfl
  · rw [hw]
    rfl

/-- Shifts by an immediate count are at most 31 places, so the carry is always a bit of the operand. -/
theorem shiftCount_le (i : BitVec 18) : i.toNat % 32 ≤ 32 := by omega

theorem toNat_setWidth_18 (i : BitVec 18) : (i.setWidth 32).toNat = i.toNat := by
  rw [BitVec.toNat_setWidth]
  omega

/-- Settles O29: each row is one change of the engine, whose result and flags are those of its operation. -/
theorem aluInstructions : Obligations.AluInstructions := by
  unfold Obligations.AluInstructions
  refine ⟨?mov, ?add, ?sub, ?adds, ?subs, ?andOp, ?orOp, ?xor, ?andn, ?shl, ?shr, ?sar, ?mul, ?minOp, ?maxOp, ?abs, ?neg, ?clz, ?cmp,
    ?mulf, ?addi, ?andi, ?ori, ?xori, ?cmpi, ?shi, ?movil, ?movih⟩
  case mov | add | sub | adds | subs | andOp | orOp | xor | andn | shl | shr | sar | mul | minOp | maxOp | abs | neg | clz | cmp =>
    rintro e rd ra rb s x r rfl rfl h
    exact runOp_complete h rfl rfl
  case mulf =>
    rintro e rd ra rb s x w rfl rfl h
    refine runOp_storeReg h rfl ?_
    dsimp only
    rw [State.eng_settle]
  case addi | andi | ori | xori | cmpi =>
    rintro e rd ra i s x b r rfl rfl rfl h
    exact runOp_complete h rfl rfl
  case shi =>
    rintro e rd ra i s x k r rfl rfl h
    refine ⟨fun hf hr => ?_, fun hf hr => ?_, fun hf hr => ?_⟩ <;> subst hr <;> refine runOp_complete h rfl ?_
    · simp only [toNat_setWidth_18, hf, aluShl, shiftCount_le, if_true, Flags.zn]
    · simp only [toNat_setWidth_18, hf, aluShr, shiftCount_le, if_true, Flags.zn]
    · simp only [toNat_setWidth_18, hf, aluSar, shiftCount_le, if_true, Flags.zn]
  case movil | movih =>
    rintro e rd v s x rfl h
    exact runOp_complete h rfl rfl

/-- The pointer registers of the X space are numbers 0 to 3. -/
theorem f8_ptr (p : Fin 4) : f8 p.val 0 = ⟨p.val, by omega⟩ := by
  revert p
  decide

/-- The pointer registers of the Y space are numbers 4 to 7. -/
theorem f8_ptr_y (p : Fin 4) : f8 (4 + p.val) 0 = ⟨4 + p.val, by omega⟩ := by
  revert p
  decide

theorem EngineState.parLoad_of_code_zero (x : EngineState) (y : Bool) {l : ParLoad} (p : Fin 8) (v : Nat) (h : l.code = 0) :
    x.parLoad y l p v = x := if_pos h

/-- A read of the engine's own memory without a soft error brings what is stored. -/
theorem State.readAt_own {s : State} {e : Fin 512} {y : Bool} {a n b : Nat} {k : Nat → State → Eff}
    (ht : s.target e y a n false = .ok (.own b)) (hsoft : s.softIn b n = []) : s.readAt e y a n none k = k (s.load b n) s := by
  simp [State.readAt, ht, State.uncorrectable_of_softIn hsoft, State.eccScan_of_softIn hsoft]

/-- A multiply whose parallel loads find their words in the engine's own memories: the accumulator, then the loads and pointers. -/
theorem mulEff_apply {s : State} {e : Fin 512} (f : MulFn) (a : Fin 4) (ra rb : Fin 16) {lx ly : ParLoad} {bx by_ : Nat}
    (hx : lx.code ≠ 0 → (s.setEng e EngineState.settle).target e false ((s.core e).p[f8 lx.ptr 0]).toNat 4 false = .ok (.own bx) ∧ s.softIn bx 4 = [])
    (hy : ly.code ≠ 0 → (s.setEng e EngineState.settle).target e true ((s.core e).p[f8 (4 + ly.ptr) 0]).toNat 4 false = .ok (.own by_) ∧ s.softIn by_ 4 = []) :
    (mulEff e f a ra rb lx ly none (s.setEng e EngineState.settle)).apply s (s.setEng e EngineState.settle) e =
      s.afterOp e ((((s.core e).mulAcc f a ra rb).parLoad false lx (f8 lx.ptr 0) (s.load bx 4)).parLoad true ly (f8 (4 + ly.ptr) 0) (s.load by_ 4)) := by
  unfold mulEff
  simp only [← f8_ptr, ← f8_ptr_y, State.eng_settle, Option.isSome_none, Bool.false_eq_true, or_false]
  by_cases h1 : lx.code = 0 <;> by_cases h2 : ly.code = 0
  · simp only [h1, h2, if_true, complete_apply, EngineState.parLoad_of_code_zero]
  · obtain ⟨ht, hs⟩ := hy h2
    simp only [h1, h2, if_true, if_false, State.readAt_own ht hs, complete_apply, State.setEng_load, EngineState.parLoad_of_code_zero]
  · obtain ⟨ht, hs⟩ := hx h1
    simp only [h1, h2, if_true, if_false, ht, State.readAt_own ht hs, complete_apply, State.setEng_load, EngineState.parLoad_of_code_zero]
  · obtain ⟨ht, hs⟩ := hx h1
    obtain ⟨ht', hs'⟩ := hy h2
    simp only [h1, h2, if_false, ht, State.readAt_own ht hs, State.readAt_own ht' hs', complete_apply, State.setEng_load]

/-- The command of such a multiply; `y` is the engine with the accumulator and flags written. -/
theorem runOp_mul {s : State} {e : Fin 512} {o : EngOp} {pick : EngOp → Option (State → Eff)} {f : MulFn} {a : Fin 4} {ra rb : Fin 16}
    {lx ly : ParLoad} {bx by_ : Nat} {y : EngineState} (h : s.runs e o) (hp : pick o = some (mulEff e f a ra rb lx ly none))
    (hx : lx.code ≠ 0 → (s.setEng e EngineState.settle).target e false ((s.core e).p[f8 lx.ptr 0]).toNat 4 false = .ok (.own bx) ∧ s.softIn bx 4 = [])
    (hy : ly.code ≠ 0 → (s.setEng e EngineState.settle).target e true ((s.core e).p[f8 (4 + ly.ptr) 0]).toNat 4 false = .ok (.own by_) ∧ s.softIn by_ 4 = [])
    (hacc : (s.core e).mulAcc f a ra rb = y) :
    (Host.Outcome.next (s.runOp e pick) : Out) =
      .next (s.afterOp e ((y.parLoad false lx (f8 lx.ptr 0) (s.load bx 4)).parLoad true ly (f8 (4 + ly.ptr) 0) (s.load by_ 4))) := by
  rw [State.runOp_runs h hp, mulEff_apply f a ra rb hx hy, hacc]

/-- ASAT writes the value, or the largest that fits, as any accumulator row does; L is set where it did not fit. -/
theorem accSat_eq (int : Bool) (a : BitVec 72) (f : Flags) :
    accSat int a f =
      let r := accWrite int (if accFits int a then a.toInt else
        let k : Int := if int then 2 ^ 31 else 2 ^ 63
        if a.msb then -k else k - 1) f
      (r.1, { r.2 with l := f.l || !accFits int a }) := by
  by_cases h : accFits int a = true
  · simp only [accSat, h, if_true, accWrite, Bool.not_true, Bool.or_false]
  · simp only [accSat, h, accWrite, Bool.not_false, Bool.or_true, Bool.false_eq_true, if_false]

/-- Settles O30: an accumulator row writes the exact value modulo 2^72; a multiply does so before its parallel loads. -/
theorem accumulatorInstructions : Obligations.AccumulatorInstructions := by
  unfold Obligations.AccumulatorInstructions
  refine ⟨?aclr, ?amov, ?aadd, ?asub, ?aneg, ?aabs, ?ashl, ?asar, ?aload, ?aloadl, ?arnd, ?ast, ?asat, ?mac, ?msu, ?mpy, ?ldp⟩
  case aclr | amov | aadd | asub | aneg | aabs | ashl | asar | aload | aloadl | arnd =>
    rintro e ad as_ r sh s x i w rfl rfl rfl h
    exact runOp_complete h rfl rfl
  case ast =>
    rintro e ad as_ rd sh s x rfl h
    refine runOp_storeReg h rfl ?_
    rw [State.eng_settle]
  case asat =>
    rintro e ad as_ r sh s x i w rfl rfl rfl h
    refine runOp_complete h rfl ?_
    dsimp only
    rw [accSat_eq]
    rfl
  case mac | msu | mpy =>
    rintro e a ra rb lx ly bx by_ s x i w y rfl rfl rfl rfl h hx hy
    exact runOp_mul h rfl hx hy rfl
  case ldp =>
    rintro e a ra rb lx ly bx by_ s x y rfl rfl h hx hy
    exact runOp_mul h rfl hx hy rfl

/-- The command of an instruction that ends by one change of its engine. -/
theorem runOp_done {s : State} {e : Fin 512} {o : EngOp} {pick : EngOp → Option (State → Eff)} {act : State → Eff}
    {f : EngineState → EngineState} {x : EngineState} (h : s.runs e o) (hp : pick o = some act)
    (hact : act (s.setEng e EngineState.settle) = .done ((s.setEng e EngineState.settle).setEng e f)) (hx : f (s.core e) = x) :
    (Host.Outcome.next (s.runOp e pick) : Out) = .next (s.setEng e fun _ => x) := by
  rw [State.runOp_runs h hp, hact, Eff.apply, State.setEng_setEng, ← hx]
  simp [State.setEng, State.core, State.eng]

/-- The pick of a branch: taken where its condition holds, with D15 written by a taken call. -/
theorem runOp_branch {s : State} {e : Fin 512} {o : EngOp} {pick : EngOp → Option (State → Eff)} {c : Nat} {link : Bool}
    {target : EngineState → Nat} (h : s.runs e o) (hp : pick o = some (branchRow e c link target)) :
    (Host.Outcome.next (s.runOp e pick) : Out) = .next (s.setEng e fun _ =>
      let x := s.core e
      let taken := condHolds x.fl c
      let y := if taken && link then { x with d := x.d.set 15 (BitVec.ofNat 32 ((x.pc + 2) % 4096)) } else x
      ({ y with slot := some (x.pc, if taken then target x else (x.pc + 2) % 4096), pc := (x.pc + 1) % 4096 } : EngineState).retire s.now) :=
  runOp_done h hp rfl rfl

/-- Settles O32: each row by the change of the engine its definition gives. -/
theorem controlInstructions : Obligations.ControlInstructions := by
  unfold Obligations.ControlInstructions
  refine ⟨?nop, ?wait, ?rete, ?brk, ?movs, ?padd, ?mdset, ?mdclr, ?b, ?br, ?call, ?callr, ?loopOp, ?lpop⟩
  case nop | lpop =>
    rintro e s x rfl h
    exact runOp_complete h rfl rfl
  case wait =>
    rintro e s x rfl h
    refine ⟨fun hw => ?_, fun hc hm hw => ?_⟩
    · have hwake : (s.core e).wake = true := by
        simpa [EngineState.wake, or_assoc] using hw
      refine runOp_done h rfl rfl ?_
      simp only [hwake, if_true]
      rfl
    · have hwake : (s.core e).wake = false := by
        simp [EngineState.wake, hc, hm, hw]
      refine runOp_done h rfl rfl ?_
      simp only [hwake, Bool.false_eq_true, if_false]
      rfl
  case rete =>
    rintro e s x rfl h
    exact runOp_done h rfl rfl rfl
  case brk => exact fun e s h => runOp_of h rfl rfl
  case movs =>
    rintro e dir r n s x rfl h
    refine ⟨fun hd => ?_, fun hd hn => ?_, fun hd hn => ?_⟩
    · subst hd
      exact runOp_complete h rfl rfl
    · subst hd hn
      exact runOp_complete h rfl rfl
    · subst hd
      exact runOp_complete h rfl rfl
  case padd =>
    rintro e p v s x rfl h
    exact runOp_complete h rfl rfl
  case mdset | mdclr =>
    rintro e m s x rfl h
    exact runOp_complete h rfl rfl
  case b | br | call | callr =>
    rintro e c rn off s x rfl h
    refine ⟨fun hc => ?_, fun hc => ?_⟩
    · refine (runOp_branch h rfl).trans ?_
      simp only [hc]
      rfl
    · refine (runOp_branch h rfl).trans ?_
      simp only [hc]
      rfl
  case loopOp =>
    rintro e reg rn n off k s x rfl h rfl hslot
    refine ⟨fun hk => ?_, fun hk => ?_⟩
    · refine runOp_done h rfl rfl ?_
      rw [EngineState.pushLoop, if_pos hk, hslot]
      rfl
    · refine runOp_done h rfl rfl ?_
      rw [EngineState.pushLoop, if_neg hk, hslot]
      rfl

end Sys2Proof.Machine
end

section
/-! SUPPORT. Loads and stores of an engine (O31). -/
namespace Sys2Proof.Machine
open Sys2Proof

/-- The command of an instruction that raises an exception other than a refused fabric access. -/
theorem runOp_fault {s : State} {e : Fin 512} {o : EngOp} {pick : EngOp → Option (State → Eff)} {act : State → Eff} {c sub a : Nat} {w : Bool}
    (h : s.runs e o) (hp : pick o = some act) (hact : act (s.setEng e EngineState.settle) = .fault c sub a w) (hne : ¬ (c = 2 ∧ sub = 2)) :
    (Host.Outcome.next (s.runOp e pick) : Out) = .next ((s.setEng e EngineState.settle).exception e c sub a true) := by
  rw [State.runOp_runs h hp, hact, Eff.apply, if_neg hne]

/-- The command of an instruction whose fabric access is refused: the refusal is recorded, then the exception taken. -/
theorem runOp_refused {s : State} {e : Fin 512} {o : EngOp} {pick : EngOp → Option (State → Eff)} {act : State → Eff} {a : Nat} {w : Bool}
    (h : s.runs e o) (hp : pick o = some act) (hact : act (s.setEng e EngineState.settle) = .fault 2 2 a w) :
    (Host.Outcome.next (s.runOp e pick) : Out) =
      .next (((s.setEng e EngineState.settle).refuse e.val (a - 0x10000000) w).exception e 2 2 a true) := by
  rw [State.runOp_runs h hp, hact, Eff.apply, if_pos ⟨rfl, rfl⟩]

theorem State.softIn_setEng (s : State) (e : Fin 512) (f : EngineState → EngineState) (a n : Nat) :
    (s.setEng e f).softIn a n = s.softIn a n := rfl

theorem State.uncorrectable_setEng (s : State) (e : Fin 512) (f : EngineState → EngineState) (a n : Nat) :
    (s.setEng e f).uncorrectable a n = s.uncorrectable a n := rfl

theorem State.ioRead_now (s : State) (e : Fin 512) (o : Nat) : (s.ioRead e o).2.now = s.now := by
  unfold State.ioRead
  split_ifs <;> rfl

/-- An instruction that stores and then changes its engine. -/
theorem complete_store_apply (s : State) (e : Fin 512) (f : EngineState → EngineState) (a n v : Nat) :
    (complete e f ((s.setEng e EngineState.settle).store a n v)).apply s (s.setEng e EngineState.settle) e =
      (s.store a n v).afterOp e (f (s.core e)) := by
  rw [State.setEng_store]
  exact (complete_apply (s.store a n v) e f).trans (by rw [State.store_core])

/-- An instruction that posts a write and then changes its engine. -/
theorem complete_setEng_apply (s : State) (e : Fin 512) (f g : EngineState → EngineState) :
    (complete e f ((s.setEng e EngineState.settle).setEng e g)).apply s (s.setEng e EngineState.settle) e =
      s.afterOp e (f (g (s.core e))) := by
  simp only [complete, Eff.apply, State.setEng_setEng, State.setEng_now, State.afterOp, State.core]
  simp [State.setEng, State.eng]

/-- A stalled LD that completes with the value `v`. -/
theorem State.resumeOp_ld {s : State} {e : Fin 512} {r : Fin 16} {p : Fin 8} {sz am : Nat} {off : BitVec 15} (v : Nat)
    (hdec : decodeEng (s.fetch e) = some (.ld r p sz am off)) :
    s.resumeOp e v = s.afterOp e { ({ s.eng e with stall := none }.loadInto r sz v) with
      p := (s.eng e).p.set p ((s.eng e).address p (szBytes sz) am off).2 } := by
  have hfetch : (s.setEng e fun x => { x with stall := none }).fetch e = s.fetch e := by
    simp only [State.fetch, State.fetchAddr, State.eng_setEng, State.setEng_load]
  simp only [State.resumeOp, hfetch, hdec, ldEff, State.readAt, complete, Eff.apply, State.setEng_setEng, State.eng_setEng,
    State.setEng_now, State.afterOp]
  simp [State.setEng, State.eng]
  rfl

/-- An engine whose shared-memory read gets its slot, with nothing posted before it. -/
theorem exec_sharedReadComplete {e : Fin 512} {k : Stall} {s : State} (hk : (s.eng e).stall = some k) (hshm : k.fabric = false)
    (hshw : (s.eng e).shw = []) :
    exec (.sharedReadComplete e) s = .next (
      if s.uncorrectable k.addr k.bytes then (s.eccScan k.addr k.bytes).memFault e
      else (s.eccScan k.addr k.bytes).resumeOp e (s.load k.addr k.bytes)) := by
  change execSharedReadComplete e s = _
  simp [execSharedReadComplete, hk, hshm, hshw]

/-- Settles O31: each clause by the target of the access, as the definition of the access says. -/
theorem loadsAndStores : Obligations.LoadsAndStores := by
  unfold Obligations.LoadsAndStores
  refine ⟨?ld, ?st, ?sta, ?sharedReadComplete⟩
  case ld =>
    rintro e r p sz am off s u x a rfl rfl rfl h
    refine ⟨fun b ht hue => ?_, fun b ht hs => ?_, fun b ht => ?_, fun o ht => ?_, fun b ht => ?_, fun k sub ht hne => ?_, fun ht => ?_⟩
    · refine runOp_of h rfl ?_
      rw [ldEff, State.eng_settle]
      simp only [State.readAt, ht, State.uncorrectable_setEng, hue, if_true, Eff.apply]
    · refine runOp_of h rfl ?_
      rw [ldEff, State.eng_settle, State.readAt_own ht hs, complete_apply, State.setEng_load]
    · refine runOp_of h rfl ?_
      rw [ldEff, State.eng_settle]
      simp only [State.readAt, ht, Eff.apply]
    · refine runOp_of h rfl ?_
      rw [ldEff, State.eng_settle]
      simp only [State.readAt, ht, Eff.apply, complete, State.ioRead_now]
      rfl
    · refine runOp_of h rfl ?_
      rw [ldEff, State.eng_settle]
      simp only [State.readAt, ht, Eff.apply]
    · refine runOp_fault (w := false) h rfl ?_ hne
      rw [ldEff, State.eng_settle]
      simp only [State.readAt, ht]
    · refine runOp_refused h rfl ?_
      rw [ldEff, State.eng_settle]
      simp only [State.readAt, ht]
  case st =>
    rintro e r p sz am off s u x a rfl rfl rfl h
    refine ⟨fun b ht => ?_, fun b ht hroom => ?_, fun b ht hroom => ?_, fun o ht => ?_, fun b ht hfull => ?_, fun k sub ht hne => ?_, fun ht => ?_⟩
    · refine runOp_of h rfl ?_
      simp only [State.eng_settle, State.writeAt, ht, complete_store_apply]
    · refine runOp_of h rfl ?_
      simp only [State.eng_settle, State.writeAt, ht]
      rw [if_neg (by omega), complete_setEng_apply]
    · refine runOp_of h rfl ?_
      simp only [State.eng_settle, State.writeAt, ht]
      rw [if_neg (by omega), complete_setEng_apply]
    · refine runOp_of h rfl ?_
      simp only [State.eng_settle, State.writeAt, ht, complete, Eff.apply]
    · refine runOp_of h rfl ?_
      simp only [State.eng_settle, State.writeAt, ht]
      rw [if_pos hfull, Eff.apply]
    · refine runOp_fault (w := true) h rfl ?_ hne
      simp only [State.eng_settle, State.writeAt, ht]
    · refine runOp_refused h rfl ?_
      simp only [State.eng_settle, State.writeAt, ht]
  case sta =>
    rintro e i p am off s u x a rfl rfl rfl h
    refine ⟨fun b v l ht hv => ?_, fun b ht hv => ?_⟩
    · refine runOp_of h rfl ?_
      simp only [State.eng_settle, State.writeAt, ht, hv, complete_store_apply]
    · refine runOp_fault (w := true) h rfl ?_ (by decide)
      simp only [State.eng_settle, ht, hv]
  case sharedReadComplete =>
    rintro e r p sz am off k s x rfl hk hshm hshw
    refine ⟨fun hs hdec => ?_, fun hue => ?_⟩
    · rw [exec_sharedReadComplete hk hshm hshw, State.uncorrectable_of_softIn hs, State.eccScan_of_softIn hs,
        if_neg (by decide), State.resumeOp_ld _ hdec]
    · rw [exec_sharedReadComplete hk hshm hshw, if_pos hue]

end Sys2Proof.Machine
end

section
/-! SUPPORT. Schedule channels and field points (O43, O42). -/
namespace Sys2Proof.Machine
open Sys2Proof

/-- A request with transitions left, when the tick of the next one is within reach. -/
theorem State.fschSend_due {s : State} {i : Fin 8} {c : Fin 16} (harm : s.fschArmed i c = true)
    (hleft : (s.fschReq i c).handled < (s.fschReq i c).count) (hdue : (s.fschReq i c).tick (s.fschReq i c).handled ≤ s.now + s.reach) :
    s.fschSend i c =
      let u := s.setFsch i c fun r => { r with handled := r.handled + 1 }
      if s.inhibited F.TIME_INH_CFG_FIO || !s.flag P.time (F.TIME_ALIGN_ALIGNED i) then
        ((u.inc (P.fsch i) F.FSCH_INH_CNT_COUNT).setb (P.fsch i) (F.FSCH_STAT_INHIBIT c) true).err (P.fsch i) E.fsch_INHIBIT
      else u.queueOut i ((s.fschReq i c).lvl (s.fschReq i c).handled) c ((s.fschReq i c).tick (s.fschReq i c).handled) :=
  if_neg (by simp only [harm, Bool.not_true, Bool.false_eq_true, false_or]; omega)

/-- Settles O43: each command by the branch of its definition that the clause's hypotheses choose. -/
theorem scheduledTransitions : Obligations.ScheduledTransitions := by
  unfold Obligations.ScheduledTransitions
  refine ⟨?fschMapWrite, ?fschGo, ?fschCancel, ?fschSend, ?scheduledTransition, ?fschDone⟩
  case fschMapWrite =>
    intro i c v s
    refine ⟨fun hl => congrArg Host.Outcome.next (if_pos hl), fun d hl hen hne heq => ?_, fun hl hno => ?_⟩
    · exact congrArg Host.Outcome.next ((if_neg (by simp [hl])).trans (if_pos ⟨hen, d, hne, heq⟩))
    · refine congrArg Host.Outcome.next ((if_neg (by simp [hl])).trans (if_neg ?_))
      rintro ⟨hen, d, hne, heq⟩
      rcases hno with h | h
      · rw [h] at hen
        exact absurd hen (by decide)
      · exact h d hne heq
  case fschGo =>
    rintro i c level s u tau w rfl rfl rfl
    refine ⟨fun harm => ?_, fun harm hlate => ?_, fun harm hnow => ?_⟩
    · exact congrArg Host.Outcome.next (if_pos harm)
    · exact congrArg Host.Outcome.next ((if_neg (by simp [harm])).trans (if_pos hlate))
    · exact congrArg Host.Outcome.next ((if_neg (by simp [harm])).trans (if_neg (Nat.not_le.mpr hnow)))
  case fschCancel =>
    rintro i c s r rfl
    refine ⟨fun harm => ?_, fun harm h0 => ?_, fun harm h0 hleft => ?_⟩
    · exact congrArg Host.Outcome.next (if_pos (by simp [harm]))
    · exact congrArg Host.Outcome.next ((if_neg (by simp [harm])).trans (if_pos h0))
    · refine congrArg Host.Outcome.next (((if_neg (by simp [harm])).trans (if_neg h0)).trans ?_)
      have hl : (s.fsch[fschIx i c]).handled < (s.fsch[fschIx i c]).count := hleft
      simp only [State.setFsch, if_pos hl]
  case fschSend =>
    rintro i c s r rfl
    refine ⟨fun h => ?_, fun harm hleft hdue hinh hal => ?_, fun harm hleft hdue hinh => ?_⟩
    · exact congrArg Host.Outcome.next (if_pos (by simpa using h))
    · exact congrArg Host.Outcome.next ((State.fschSend_due harm hleft hdue).trans (if_neg (by simp [hinh, hal])))
    · exact congrArg Host.Outcome.next ((State.fschSend_due harm hleft hdue).trans (if_pos (by simp [hinh])))
  case scheduledTransition =>
    intro i c s
    have hexec : exec (.scheduledTransition i c) s = execScheduledTransition i c s := rfl
    refine ⟨fun hnil => ?_, fun e r he hlate => ?_, fun e r he hdue => ?_⟩
    · rw [hexec, execScheduledTransition, hnil]
      rfl
    · simp only [hexec, execScheduledTransition, he, if_neg (Nat.not_le.mpr hlate)]
    · simp only [hexec, execScheduledTransition, he, if_pos hdue]
  case fschDone =>
    intro i c s
    refine ⟨fun harm hall hlast => congrArg Host.Outcome.next (if_pos ⟨harm, hall, hlast⟩), fun h => ?_⟩
    refine congrArg Host.Outcome.next (if_neg ?_)
    rintro ⟨harm, hall, hlast⟩
    rcases h with h | h | h
    · simp [harm] at h
    · omega
    · omega

theorem State.pt_setPt_same (s : State) (i : Fin 8) (j : Fin 16) (f : FieldPoint → FieldPoint) : (s.setPt i j f).pt i j = f (s.pt i j) := by
  simp [State.pt, State.setPt, State.slate, State.setSlate]

/-- Registers keep what they hold when a point's Slate state changes. -/
theorem State.rd_setPt (s : State) (i : Fin 8) (j : Fin 16) (f : FieldPoint → FieldPoint) (a : Nat) : (s.setPt i j f).rd a = s.rd a := rfl

theorem State.fioCfg_setPt (s : State) (i : Fin 8) (j : Fin 16) (f : FieldPoint → FieldPoint) (k : Nat) :
    (s.setPt i j f).fioCfg i k = s.fioCfg i k := rfl

/-- A point's state is not the Slate's tick. -/
theorem State.stick_setPt (s : State) (i : Fin 8) (j : Fin 16) (f : FieldPoint → FieldPoint) (k : Fin 8) :
    (s.setPt i j f).stick k = s.stick k := by
  simp only [State.stick, State.setPt, State.setSlate, State.slate, Fin.getElem_fin, Vector.getElem_set]
  split <;> simp_all

theorem State.pt_enterMode (s : State) (i : Fin 8) (j : Fin 16) (m : Nat) (known : Bool) :
    ((s.enterMode i j m known).pt i j).mode = m ∧ ((s.enterMode i j m known).pt i j).discharge = false := by
  rw [State.enterMode, State.pt_setPt_same]
  exact ⟨rfl, rfl⟩

theorem State.fioCfg_enterMode (s : State) (i : Fin 8) (j : Fin 16) (m : Nat) (known : Bool) (k : Nat) :
    (s.enterMode i j m known).fioCfg i k = s.fioCfg i k := rfl

/-- A write of FIO_CFG stores the masked word, and a point in output mode that leaves it waits for its discharge. -/
theorem State.putFioCfg_reads (s : State) (i : Fin 8) (j : Fin 16) (v : Nat) (land : Option Bool) (hv : v < 2 ^ 32) :
    (s.putFioCfg i j v land).fioCfg i j = v &&& 0x7FFFFF7F ∧
    ((s.pt i j).mode = 2 → fioMode (v &&& 0x7FFFFF7F) ≠ 2 →
      ((s.putFioCfg i j v land).pt i j).mode = 2 ∧ ((s.putFioCfg i j v land).pt i j).discharge = true) ∧
    ((s.pt i j).mode ≠ 2 → ((s.putFioCfg i j v land).pt i j).mode = fioMode (v &&& 0x7FFFFF7F)) := by
  have hmask : (v &&& 0x7FFFFF7F) % 2 ^ 32 = v &&& 0x7FFFFF7F := Nat.mod_eq_of_lt (lt_of_le_of_lt Nat.and_le_left hv)
  have hrd : (s.wr (P.fio i + R.FIO_CFG j) (v &&& 0x7FFFFF7F)).rd (P.fio i + R.FIO_CFG j) = v &&& 0x7FFFFF7F := by
    rw [State.rd_wr_same, hmask]
  unfold State.putFioCfg
  dsimp only
  by_cases h1 : (s.pt i j).mode = 2 ∧ fioMode (v &&& 0x7FFFFF7F) ≠ 2
  · rw [if_pos h1]
    refine ⟨hrd, fun _ _ => ?_, fun hne => absurd h1.1 hne⟩
    rw [State.pt_setPt_same, State.pt_setPt_same]
    exact ⟨h1.1, rfl⟩
  · rw [if_neg h1]
    by_cases h2 : (s.pt i j).mode = fioMode (v &&& 0x7FFFFF7F)
    · rw [if_pos h2]
      refine ⟨hrd, fun hm hne => absurd ⟨hm, hne⟩ h1, fun _ => ?_⟩
      rw [State.pt_setPt_same, State.pt_setPt_same]
      exact h2
    · rw [if_neg h2]
      exact ⟨hrd, fun hm hne => absurd ⟨hm, hne⟩ h1, fun _ => (State.pt_enterMode _ i j _ _).1⟩

/-- Settles O42: each command by the branch of its definition that the clause's hypotheses choose; the law by Table 12-4. -/
theorem fieldPoints : Obligations.FieldPoints := by
  unfold Obligations.FieldPoints
  refine ⟨?fieldInputChange, ?pulseWindow, ?fieldVoltageMeasure, ?stuck, ?fioCfgWrite, ?short, ?shortRetry, ?shortClear, ?openLoad,
    ?readbackMismatch, ?vfieldUv, ?fioOutWrite, ?outputDischarged, ?law⟩
  case fieldInputChange =>
    rintro i j lvl t0 acc s u rfl rfl
    refine ⟨fun hm => ?_, fun hm hf ht => ?_, fun hm hf h => ?_, fun hm hf hp hl ht => ?_⟩
    · exact congrArg Host.Outcome.next (if_pos hm)
    · exact congrArg Host.Outcome.next ((if_neg (not_not.mpr hm)).trans (if_pos ⟨hf, ht⟩))
    · exact congrArg Host.Outcome.next ((if_neg (not_not.mpr hm)).trans ((if_neg (by simp [hf])).trans (if_pos (by rwa [State.stick_setPt]))))
    · refine congrArg Host.Outcome.next ((if_neg (not_not.mpr hm)).trans ((if_neg (by simp [hf])).trans (if_neg ?_)))
      rintro (h | h | h)
      · simp [hp] at h
      · exact hl h
      · exact absurd ht (Nat.not_le.mpr (by rwa [State.stick_setPt] at h))
  case pulseWindow =>
    intro i levels s
    have hexec : exec (.pulseWindow i levels) s = execPulseWindow i levels s := rfl
    refine ⟨fun h => ?_, fun t h ht => ?_, fun t h ht => ?_⟩
    · rw [hexec, execPulseWindow, h]
    · simp only [hexec, execPulseWindow, h, if_pos ht]
    · simp only [hexec, execPulseWindow, h, if_neg (Nat.not_le.mpr ht)]
  case fieldVoltageMeasure =>
    rintro i j mv v s u rfl rfl
    refine ⟨fun h => ?_, fun hen hout hrun => ?_⟩
    · exact congrArg Host.Outcome.next (if_pos (by simpa using h))
    · refine congrArg Host.Outcome.next ((if_neg (by simpa [hen] using hout)).trans (if_pos ?_))
      rw [State.pt_setPt_same]
      exact hrun
  case stuck =>
    intro i j s
    refine ⟨fun ht hm hl hs hdue => ?_, fun h => ?_⟩
    · exact congrArg Host.Outcome.next (if_pos ⟨ht, hm, hl, by simp [hs], hdue⟩)
    · refine congrArg Host.Outcome.next (if_neg ?_)
      rintro ⟨ht, hm, hl, hs, hdue⟩
      rcases h with h | h | h
      · exact ht h
      · exact h hm
      · exact absurd hdue (Nat.not_le.mpr h)
  case fioCfgWrite =>
    intro i j v land s
    refine ⟨fun hc hv => congrArg Host.Outcome.next (if_pos ⟨hc, hv⟩), fun hc => ?_⟩
    refine ⟨s.putFioCfg i j v.toNat (some land), congrArg Host.Outcome.next (if_neg (by simp [hc])), ?_⟩
    exact s.putFioCfg_reads i j v.toNat (some land) v.isLt
  case short =>
    intro i j s
    refine ⟨fun h => ?_, fun h hr => ?_, fun h hr => ?_⟩
    · exact congrArg Host.Outcome.next (if_pos (by simp [h]))
    · exact congrArg Host.Outcome.next ((if_neg (by simp [h])).trans (if_pos hr))
    · exact congrArg Host.Outcome.next ((if_neg (by simp [h])).trans (if_neg (Nat.not_lt.mpr hr)))
  case shortRetry =>
    intro i j s
    refine ⟨fun hc ht => congrArg Host.Outcome.next (if_pos ⟨hc, ht⟩), fun ht => congrArg Host.Outcome.next (if_neg ?_)⟩
    exact fun h => absurd h.2 (Nat.not_le.mpr ht)
  case shortClear => exact fun i mask s => rfl
  case openLoad =>
    intro i j s
    refine ⟨fun hm ho hen => congrArg Host.Outcome.next (if_pos ⟨hm, by simp [ho], hen⟩), fun h => congrArg Host.Outcome.next (if_neg ?_)⟩
    rintro ⟨hm, ho, hen⟩
    rcases h with h | h | h
    · exact h hm
    · simp [h] at ho
    · simp [h] at hen
  case readbackMismatch =>
    intro i j land s
    refine ⟨fun hm => ?_, fun hm hl => ?_, fun hm hl ht hc hu => ?_⟩
    · exact congrArg Host.Outcome.next (if_pos hm)
    · exact congrArg Host.Outcome.next ((if_neg (not_not.mpr hm)).trans (if_neg fun h => h.1 hl))
    · exact congrArg Host.Outcome.next ((if_neg (not_not.mpr hm)).trans (if_pos ⟨hl, ht, by simp [hc], by simp [hu]⟩))
  case vfieldUv => exact fun i s => ⟨rfl, rfl⟩
  case fioOutWrite => exact fun i data mask s => rfl
  case outputDischarged =>
    intro i j land s
    refine ⟨fun h => congrArg Host.Outcome.next (if_neg (by simp [h])), fun h => ?_⟩
    refine ⟨_, congrArg Host.Outcome.next (if_pos h), ?_⟩
    exact ⟨(State.pt_enterMode _ i j _ true).2, (State.pt_enterMode _ i j _ true).1⟩
  case law =>
    intro i j s
    unfold State.outLevel
    refine ⟨fun h => if_pos h, fun hm hu hs hc hd => ?_⟩
    have hon : ¬ ((s.pt i j).mode ≠ 2 ∨ s.fieldUv i = true ∨ s.shortBit i j = true ∨ (s.pt i j).cut = true ∨ (s.pt i j).discharge = true) := by
      simp [hm, hu, hs, hc, hd]
    dsimp only
    rw [if_neg hon]
    refine ⟨fun ht hsafe => ?_, fun ht hsafe => ?_, fun ht => ?_⟩
    · simp [ht, hsafe]
    · simp [ht, hsafe]
    · cases hup : (s.slate i).sb.up <;> simp [ht]

end Sys2Proof.Machine
end

section
/-! SUPPORT. Trace recorders and regions (O51). -/
namespace Sys2Proof.Machine
open Sys2Proof

theorem State.when_true (s : State) (f : State → State) : s.when true f = f s := rfl
theorem State.when_false (s : State) (f : State → State) : s.when false f = s := rfl

/-- A recorder that captures looks at its enabled sources. -/
theorem State.captures_of {s : State} {r : Fin 8} {w : Nat} (hen : srcEn w = true) (hst : s.trcSt r = 1 ∨ s.trcSt r = 2) :
    ¬ ((!srcEn w) = true ∨ (s.trcSt r ≠ 1 ∧ s.trcSt r ≠ 2)) := by
  rintro (h | ⟨h1, h2⟩)
  · simp [hen] at h
  · exact hst.elim h1 h2

/-- Settles O51: each command by the branch of its definition that the clause's hypotheses choose. -/
theorem traceRecorders : Obligations.TraceRecorders := by
  unfold Obligations.TraceRecorders
  refine ⟨?traceEntry, ?trcArm, ?trcStop, fun r s => rfl, ?traceTrigger, ?traceTimeTrigger, ?trcRgnWrite⟩
  case traceEntry =>
    rintro r j n w s rfl
    have hexec : exec (.traceEntry r j n) s = .next (s.traceEntry r j n.val) := rfl
    refine ⟨fun h => ?_, fun u hen hst hv => ?_, fun tick tag val slot u hen hst hv hslot => ⟨fun hcnt => ?_, fun y hdiv hy => ⟨fun hlost => ?_, fun hroom htrig => ?_⟩⟩⟩
    · exact congrArg Host.Outcome.next (if_pos (by simpa using h))
    · rw [hexec, State.traceEntry, if_neg (State.captures_of hen hst), hv]
    · rw [hexec, State.traceEntry, if_neg (State.captures_of hen hst), hv]
      exact congrArg Host.Outcome.next (if_pos hcnt)
    · subst hslot hy
      rw [hexec, State.traceEntry, if_neg (State.captures_of hen hst), hv]
      exact congrArg Host.Outcome.next ((if_neg (Nat.not_lt.mpr hdiv)).trans (if_pos hlost))
    · subst hslot hy
      rw [hexec, State.traceEntry, if_neg (State.captures_of hen hst), hv]
      refine congrArg Host.Outcome.next ((if_neg (Nat.not_lt.mpr hdiv)).trans ((if_neg (Nat.not_lt.mpr hroom)).trans ?_))
      simp only [beq_false_of_ne htrig, Bool.false_and]
      rfl
  case trcArm =>
    intro r s
    refine ⟨fun h => ?_, fun h1 h2 hr => ?_, fun u h1 h2 hr hu => ?_⟩
    · exact congrArg Host.Outcome.next (if_pos h)
    · exact congrArg Host.Outcome.next ((if_neg (not_or.mpr ⟨h1, h2⟩)).trans (if_pos hr))
    · subst hu
      refine congrArg Host.Outcome.next ((if_neg (not_or.mpr ⟨h1, h2⟩)).trans ((if_neg (not_not.mpr hr)).trans ?_))
      simp only [forEach, List.foldl_cons, List.foldl_nil, State.setTrcSt, State.setRec, State.setb_now, State.setf_now,
        State.setCap_now]
  case trcStop =>
    intro r s
    refine ⟨fun h => congrArg Host.Outcome.next (if_pos h), fun h => ?_, fun h => ?_⟩
    · exact congrArg Host.Outcome.next ((if_neg (by omega)).trans (if_pos h))
    · exact congrArg Host.Outcome.next ((if_neg (by omega)).trans (if_neg (by omega)))
  case traceTrigger =>
    intro r s
    have hexec : exec (.traceTrigger r) s = execTraceTrigger r s := rfl
    refine ⟨fun h => ?_, fun t h hst => ?_, fun t h hst => ?_⟩
    · rw [hexec, execTraceTrigger, h]
    · simp only [hexec, execTraceTrigger, h, if_pos hst]
    · simp only [hexec, execTraceTrigger, h, if_neg hst]
  case traceTimeTrigger =>
    rintro r s u rfl
    refine ⟨fun h => congrArg Host.Outcome.next (if_pos h), fun hst hcode htimed hnow => ?_⟩
    have hgo : ¬ (s.trcSt r ≠ 1 ∨ s.fld (P.trc r) F.TRC_TRIG_CODE ≠ 2 ∨ (s.recorder r).timed = true ∨ s.now < s.rd64 (P.trc r) R.TRC_TAT_LO) := by
      simp [hst, hcode, htimed, hnow]
    refine ⟨fun hinh => ?_, fun hinh => ?_⟩
    · exact congrArg Host.Outcome.next ((if_neg hgo).trans (if_pos hinh))
    · exact congrArg Host.Outcome.next ((if_neg hgo).trans (if_neg (by simp [hinh])))
  case trcRgnWrite =>
    intro d v s
    refine ⟨fun hl => congrArg Host.Outcome.next (if_pos hl), fun hl hbig => ?_, fun hl hfit hfree t ht => ?_⟩
    · exact congrArg Host.Outcome.next ((if_neg (by simp [hl])).trans (if_pos (Or.inl hbig)))
    · rw [ht]
      refine congrArg Host.Outcome.next ((if_neg (by simp [hl])).trans (if_neg ?_))
      rintro (hbig | hclash)
      · omega
      · simp only [List.any_eq_true, List.mem_range, Bool.and_eq_true, bne_iff_ne, decide_eq_true_eq] at hclash
        obtain ⟨e, he, hne, h1, h2, h3, h4⟩ := hclash
        rcases hfree e he hne with h | h | h | h <;> omega

end Sys2Proof.Machine
end

section
/-! SUPPORT. The common snapshot, TRIG_IN and the cabinet trigger bus (O52). -/
namespace Sys2Proof.Machine
open Sys2Proof

theorem State.snapSlate_now (s : State) (i : Fin 8) : (s.snapSlate i).now = s.now := by
  unfold State.snapSlate
  split <;> rfl

theorem forEach_snapSlate_now (l : List (Fin 8)) (s : State) : (forEach l s fun i t => t.snapSlate i).now = s.now :=
  forEach_keeps (P := fun t => t.now = s.now) l s _ rfl fun i t h => (t.snapSlate_now i).trans h

theorem State.wrAll_now (s : State) (l : List (Nat × Nat)) : (s.wrAll l).now = s.now :=
  forEach_keeps (P := fun t => t.now = s.now) l s _ rfl fun _ _ h => h

/-- A line that keeps what it holds leaves the state. -/
theorem State.setBus_eq_self {s : State} {n : Fin 4} {f : BusLine → BusLine} (h : f (s.bus n) = s.bus n) : s.setBus n f = s := by
  have hset : s.capture.bus.set n s.capture.bus[n] = s.capture.bus := Vector.set_getElem_self ..
  have hf : f s.capture.bus[n] = s.capture.bus[n] := h
  simp only [State.setBus, State.setCap, hf, hset]

theorem bits_one_eq_one_iff {w : Nat} (m : BitVec w) (n : Nat) : bits m.toNat n 1 = 1 ↔ m.getLsbD n = true := by
  rw [BitVec.getLsbD, Nat.testBit_eq_decide_div_mod_eq, decide_eq_true_eq, bits_eq_div_mod, Nat.pow_one]

/-- Settles O52: each command by the branch of its definition that the clause's hypotheses choose. -/
theorem snapshotAndBus : Obligations.SnapshotAndBus := by
  unfold Obligations.SnapshotAndBus
  refine ⟨?snapGo, ?snapAt, ?slateSnapshotAnswer, ?snapBusyEnd, ?trigInEdge, ?trigInPop, fun mask s => rfl, ?tbusAt, ?tbusEdge,
    ?tbusPop, fun mask s => rfl, ?tbusCalDone⟩
  case snapGo =>
    intro s
    have hexec : exec .snapGo s = .next (s.snapshot 1) := rfl
    refine ⟨fun hb => congrArg Host.Outcome.next (if_pos hb), fun fit u hb hfit hu => ?_⟩
    rw [hexec, State.snapshot, if_neg (by simp [hb]), hu, hfit]
    dsimp only
    simp only [forEach_snapSlate_now, State.wrAll_now, State.setCap_now, State.wr_now, State.wr64_now]
  case snapAt =>
    rintro s u rfl
    refine ⟨fun h => congrArg Host.Outcome.next (if_pos (by simpa using h)), fun ha he hn => ?_⟩
    have hgo : ¬ ((!s.capture.snapArmed) = true ∨ (!s.flag P.snap F.SNAP_CFG_AT_EN) = true ∨ s.now < s.rd64 P.snap R.SNAP_AT_LO) := by
      simp [ha, he, hn]
    refine ⟨fun hinh => ?_, fun hinh => ?_⟩
    · exact congrArg Host.Outcome.next ((if_neg hgo).trans (if_pos hinh))
    · exact congrArg Host.Outcome.next ((if_neg hgo).trans (if_neg (by simp [hinh])))
  case slateSnapshotAnswer =>
    rintro i s u rfl
    have hexec : exec (.slateSnapshotAnswer i) s = .next (s.snapAnswer i) := rfl
    refine ⟨fun h => ?_, fun h => ?_, fun h => ?_⟩ <;> simp only [hexec, State.snapAnswer, h, State.when_true, State.when_false]
  case snapBusyEnd =>
    intro s
    refine ⟨fun h => congrArg Host.Outcome.next (if_neg ?_), fun hb h => congrArg Host.Outcome.next (if_pos ⟨hb, by simpa using h⟩)⟩
    rintro ⟨hb, h'⟩
    rcases h with h | ⟨h, hn⟩
    · simp [h] at hb
    · rcases h' with h' | h'
      · exact h (List.isEmpty_iff.mp h')
      · omega
  case trigInEdge =>
    intro n level tap s
    refine ⟨fun h => congrArg Host.Outcome.next (if_pos (by simpa using h)), fun l hen hedge hl hclose => ?_, fun u hen hedge hl hroom hu => ?_⟩
    · refine congrArg Host.Outcome.next ((if_neg (by simp [hen, hedge])).trans (if_pos ?_))
      rw [hl]
      simpa using hclose
    · refine congrArg Host.Outcome.next ((if_neg (by simp [hen, hedge])).trans ((if_neg (by rw [hl]; exact Bool.false_ne_true)).trans ?_))
      rw [decide_eq_false (Nat.not_le.mpr hroom), hu]
      rfl
  case trigInPop =>
    intro mask n s
    refine ⟨s.trigPop mask.toNat, rfl, ?_⟩
    simp only [State.trigPop, State.setCap, Fin.getElem_fin, Vector.getElem_ofFn, bits_one_eq_one_iff]
    split <;> simp
  case tbusAt =>
    rintro n s u rfl
    refine ⟨fun h => congrArg Host.Outcome.next (if_pos (by simpa using h)), fun ha hn => ?_⟩
    have hgo : ¬ ((!(s.bus n).armed) = true ∨ s.now < s.rd64 P.trig (R.TBUS_AT_LO n)) := by
      simp [ha, hn]
    refine ⟨fun hinh => ?_, fun hinh => ?_⟩
    · exact congrArg Host.Outcome.next ((if_neg hgo).trans (if_pos hinh))
    · refine congrArg Host.Outcome.next ((if_neg hgo).trans ((if_neg (by simp [hinh])).trans ?_))
      rw [State.setBus, State.setCap_now, Nat.max_eq_right hn]
  case tbusEdge =>
    intro n own tap st s hcal hst
    have hkeep : (s.setBus n fun b => { b with cal := b.cal.map fun c =>
        if own then { c with n := c.n + 1, sum := c.sum + (64 * s.now + tap - 64 * (c.start + 256 * c.n)) } else { c with bad := true } }) = s := by
      refine State.setBus_eq_self ?_
      rw [hcal]
      exact congrArg (fun c => { s.bus n with cal := c }) hcal.symm
    have hexec : exec (.tbusEdge n own tap) s = .next (s.tbusEdge n own tap.val) := rfl
    rw [hexec, State.tbusEdge, hkeep]
    refine ⟨fun hoff => ?_, fun u hon hroom hu => ?_, fun u hon hfull hu => ?_⟩
    · exact congrArg Host.Outcome.next (if_pos (by simp [hoff]))
    · refine congrArg Host.Outcome.next ((if_neg (by simp [hon])).trans ?_)
      rw [decide_eq_false (Nat.not_le.mpr hroom), hu, hst]
      rfl
    · refine congrArg Host.Outcome.next ((if_neg (by simp [hon])).trans ?_)
      rw [decide_eq_true hfull, hu, hst]
      rfl
  case tbusPop =>
    intro mask n s
    refine ⟨s.tbusPop mask.toNat, rfl, ?_⟩
    simp only [State.tbusPop, State.setCap, State.bus, Fin.getElem_fin, Vector.getElem_ofFn, bits_one_eq_one_iff]
    split <;> simp
  case tbusCalDone =>
    intro n s u hu
    have hexec : exec (.tbusCalDone n) s = .next (s.tbusCalDone n) := rfl
    refine ⟨fun h => ?_, fun c h hn => ?_, fun c h hn hbad => ?_, fun c h hn hgood hcnt => ?_⟩
    · simp only [hexec, State.tbusCalDone, h]
    · simp only [hexec, State.tbusCalDone, h, if_pos hn]
    · simp only [hexec, State.tbusCalDone, h, if_neg (Nat.not_lt.mpr hn), if_pos hbad, hu]
    · simp only [hexec, State.tbusCalDone, h, if_neg (Nat.not_lt.mpr hn), hgood, hcnt, hu]
      rfl

end Sys2Proof.Machine
end

section
/-! SUPPORT. The fault collector (O50). -/
namespace Sys2Proof.Machine
open Sys2Proof

/-! What a reaction does takes no time. -/

theorem State.engHalt_now (s : State) (e : Fin 512) : (s.engHalt e).now = s.now := by
  unfold State.engHalt
  dsimp only
  split_ifs <;> rfl

theorem State.faultStop_now (s : State) (a : Fin 64) : (s.faultStop a).now = s.now := by
  unfold State.faultStop
  split_ifs <;> rfl

theorem State.setSafeCmd_now (s : State) (i : Fin 8) : (s.setSafeCmd i).now = s.now := rfl

theorem forEach_now {α : Type} (l : List α) (s : State) (f : α → State → State) (hf : ∀ x t, (f x t).now = t.now) :
    (forEach l s f).now = s.now :=
  forEach_keeps (P := fun t => t.now = s.now) l s f rfl fun x t h => (hf x t).trans h

theorem State.haltDomain_now (s : State) (d : Nat) : (s.haltDomain d).now = s.now := by
  unfold State.haltDomain
  dsimp only
  rw [State.setbit_now, State.setb_now, forEach_now _ _ _ fun a t => t.faultStop_now a, forEach_now _ _ _ fun e t => t.engHalt_now e]

theorem State.stopGroup_now (s : State) (g : Nat) : (s.stopGroup g).now = s.now :=
  forEach_now _ _ _ fun a t => t.faultStop_now a

theorem State.safeStop_now (s : State) : s.safeStop.now = s.now :=
  (forEach_now _ _ _ fun i t => t.setSafeCmd_now i).trans rfl

theorem State.react_now (s : State) (i act d : Nat) : (s.react i act d).now = s.now := by
  unfold State.react
  split_ifs
  · exact s.haltDomain_now d
  · exact s.stopGroup_now _
  · exact s.safeStop_now
  · rfl

theorem State.raiseVec_now (s : State) (v d : Nat) : (s.raiseVec v d).now = s.now := by
  unfold State.raiseVec
  split_ifs <;> rfl

theorem State.faultVec_now (s : State) : s.faultVec.now = s.now := by
  unfold State.faultVec
  split_ifs
  · exact s.raiseVec_now _ _
  · rfl

theorem State.when_now (s : State) (c : Bool) (f : State → State) (hf : (f s).now = s.now) : (s.when c f).now = s.now := by
  cases c
  · rfl
  · exact hf

theorem State.putLog_now (s : State) (w : Vector Word 4) : (s.putLog w).now = s.now := by
  unfold State.putLog
  split_ifs <;> rfl

/-- Settles O50: each command by the branch of its definition that the clause's hypotheses choose; nothing of a rise takes time. -/
theorem faultCollector : Obligations.FaultCollector := by
  unfold Obligations.FaultCollector
  refine ⟨?faultRise, fun hi v s => ⟨s.clearSources hi v.toNat, rfl, rfl⟩, ?dssClr, fun mask s => rfl, ?faultLogPop, fun s => rfl,
    ?partnerReport, fun s => rfl⟩
  case faultRise =>
    intro i s
    refine ⟨fun h => congrArg Host.Outcome.next (if_pos h), fun pg act d u hup hpg hd hact hu => ?_⟩
    have hexec : exec (.faultRise i) s = .next (s.faultRise i.val) := rfl
    have hnow : ((u.react i (s.reaction i (s.lineClass i)) (s.pageOwner pg.1 pg.2)).when (s.reaction i (s.lineClass i) != 0 || s.fault.log.isEmpty)
        State.faultVec).now = s.now := by
      rw [State.when_now _ _ _ (State.faultVec_now _), State.react_now, hu, State.putLog_now]
      rfl
    subst hpg hd hact
    rw [hexec, State.faultRise, if_neg (Nat.not_le.mpr hup)]
    dsimp only
    rw [← hu, hnow]
    rfl
  case dssClr =>
    intro s
    refine ⟨s.setb P.fault F.FAULT_STATUS_DSS false, rfl, State.flag_setb_same _ _ _ _ (by decide) rfl, ?_, rfl, rfl⟩
    intro a ha
    exact State.rd_setb_other _ _ _ _ _ (by simpa using ha)
  case faultLogPop =>
    rintro s u rfl
    have hexec : exec .faultLogPop s = .next s.popLog := rfl
    refine ⟨fun hnil => ?_, fun hne hen => ?_, fun hne hen => ?_⟩
    · rw [hexec, State.popLog, hnil]
      rfl
    · rw [hexec, State.popLog, List.isEmpty_eq_false_iff.mpr hne]
      exact congrArg Host.Outcome.next (if_neg (ne_true_of_eq_false hen))
    · rw [hexec, State.popLog, List.isEmpty_eq_false_iff.mpr hne]
      exact congrArg Host.Outcome.next (if_pos hen)
  case partnerReport =>
    rintro v subj n s u rfl rfl rfl
    refine ⟨fun h => congrArg Host.Outcome.next (if_pos h), fun hk hc => ?_⟩
    have hgood : ¬ (bits v.toNat 24 8 = 0 ∨ bits v.toNat 22 2 = 0) := not_or.mpr ⟨hk, hc⟩
    refine ⟨fun hit => ?_, fun hno hfull => ?_, fun hno hn hopn => ?_⟩
    · exact congrArg Host.Outcome.next ((if_neg hgood).trans (if_pos hit))
    · exact congrArg Host.Outcome.next ((if_neg hgood).trans ((if_neg (ne_true_of_eq_false hno)).trans (if_pos hfull)))
    · exact congrArg Host.Outcome.next ((if_neg hgood).trans ((if_neg (ne_true_of_eq_false hno)).trans (if_neg (by omega))))

end Sys2Proof.Machine
end

section
/-! SUPPORT. The line network: rings of descriptors, frames on the wire, links and limits (O45, O46). -/
namespace Sys2Proof.Machine
open Sys2Proof

/-! Descriptor rings in memory behind BAR0. -/

/-- The ring is enabled, a descriptor is posted and no host read has stopped it. -/
def State.txReady (s : State) (d : Fin 8) : Prop :=
  s.flag (P.netq d) F.NQ_CTRL_TX_EN = true ∧ s.rd (P.netq d + R.NQ_TX_HEAD) ≠ s.rd (P.netq d + R.NQ_TX_TAIL) % 2 ^ 10 ∧ bits s.net.stopT d 1 = 0

/-- What the device does with a descriptor it has read from memory without a soft error. -/
def State.txTake (s : State) (d : Fin 8) (a : Nat) (t : TxDesc) : State :=
  if !t.own then s
  else if s.txBad d t then (s.txAdvance d).txBack d a 5
  else if !s.memOwned d t.addr t.len then (s.txAdvance d).txBack d a 5
  else ((s.eccScan t.addr t.len).txAdvance d).txGo d a t (bytesOf t.len (s.extLoad t.addr t.len))

theorem State.ringOk_of_memory {s : State} {d : Nat} (hhost : s.nqHost d = false) (a n : Nat) (write : Bool) :
    s.ringOk d a n write = (s.memOwned d a n, s) :=
  if_neg (ne_true_of_eq_false hhost)

theorem State.txFetch_of_memory {s : State} {d : Fin 8} {h : HostTx} {a : Nat} (hr : s.txReady d) (hhost : s.nqHost d = false)
    (ha : a = s.rd64 (P.netq d) R.NQ_TX_BASE_LO / 32 * 32 + 32 * s.rd (P.netq d + R.NQ_TX_HEAD)) (hown : s.memOwned d a 32 = true)
    (hsoft : s.softIn a 32 = []) : s.txFetch d h = s.txTake d a (txDesc (s.load a 32)) := by
  obtain ⟨hen, hpost, hrun⟩ := hr
  have hok := State.ringOk_of_memory hhost (d := d)
  simp only [State.txFetch, ← ha, hen, hrun, hok, hown, hhost, State.eccScan_of_softIn hsoft, State.extLoad_of_softIn hsoft, State.txTake,
    Bool.not_true, Bool.or_false, if_false, beq_eq_false_iff_ne.mpr hpost,
    show ((0 : Nat) == 1) = false from rfl, Bool.false_eq_true]

/-! Launches. -/

/-- A launch is due before the boundary that would bring its SFD nearest has gone by, on a free port whose link is up. -/
theorem State.launchGo_on_time {s : State} {p : Fin 4} {l : Launch} (hup : s.portUp p = true) (hinh : s.inhibited F.TIME_INH_CFG_LAUNCH = false)
    (hfree : (s.port p).tx = none) (hlate : l.late = false) (ht : 64 * (s.now : Int) ≤ s.launchStart p l.tick + 64) :
    s.launchGo p l = (s.setPort p fun x => { x with launch := x.launch.erase l }).startTx p { l.frame with late := false } 9 := by
  simp only [State.launchGo, hup, hinh, hfree, hlate, Int.not_lt.mpr ht, Bool.not_true, Bool.false_eq_true, if_false, Option.isSome_none,
    Bool.false_or, decide_false, State.when_false]

/-- The severity of Table 13-4 orders the codes, so the order in which a descriptor's copies end is indifferent (R315). -/
theorem txWorst_laws : ∀ a ≤ 6, ∀ b ≤ 6, ∀ c ≤ 6, txWorst a b = txWorst b a ∧ txWorst (txWorst a b) c = txWorst a (txWorst b c) ∧
    txRank (txWorst a b) = max (txRank a) (txRank b) := by
  decide

/-- Settles O45: each command by the branch of its definition that the clause's hypotheses choose; the statuses by their seven codes. -/
theorem networkFrames : Obligations.NetworkFrames := by
  unfold Obligations.NetworkFrames
  refine ⟨?txDescriptorFetch, ?txTailWrite, ?rxTailWrite, ?launch, ?frameStart, ?frameSent, fun p s => rfl, ?frameReceive,
    fun a b c ha hb hc => txWorst_laws a ha b hb c hc⟩
  case txDescriptorFetch =>
    intro d h s a ha
    refine ⟨fun hidle => congrArg Host.Outcome.next (if_pos ?_), fun t hen hpost hrun hhost hown hsoft ht => ?_⟩
    · rcases hidle with h | h | h <;> simp [h]
    · have hexec : exec (.txDescriptorFetch d h) s = .next (s.txTake d a t) :=
        congrArg Host.Outcome.next ((State.txFetch_of_memory ⟨hen, hpost, hrun⟩ hhost ha hown hsoft).trans (by rw [ht]))
      rw [hexec]
      refine ⟨fun hno => ?_, fun ho hbad => ?_, fun ho hgood hbuf hclean => ?_, fun ho hgood hbuf => ?_⟩
      · simp [State.txTake, hno]
      · simp [State.txTake, ho, hbad]
      · simp [State.txTake, ho, hgood, hbuf, State.eccScan_of_softIn hclean, State.extLoad_of_softIn hclean]
      · simp [State.txTake, ho, hgood, hbuf]
  case txTailWrite | rxTailWrite =>
    rintro d v s u rfl
    exact ⟨fun h => congrArg Host.Outcome.next (if_pos h), fun h => congrArg Host.Outcome.next (if_neg (ne_true_of_eq_false h))⟩
  case launch =>
    intro p s
    have hexec : exec (.launch p) s = execLaunch p s := rfl
    refine ⟨fun hnil => ?_, fun l hl hwait => ?_, ?_⟩
    · rw [hexec, execLaunch, hnil]
      rfl
    · rw [hexec, execLaunch, hl]
      exact congrArg Host.Outcome.next (if_neg (ne_true_of_eq_false hwait))
    · rintro l u hl hdue rfl
      have hgo : exec (.launch p) s = .next (s.launchGo p l) := by
        rw [hexec, execLaunch, hl]
        exact congrArg Host.Outcome.next (if_pos hdue)
      rw [hgo]
      refine ⟨fun hdown => ?_, fun hup hinh => ?_, fun hup hinh hbusy => ?_, fun hup hinh hfree hlate ht => ?_⟩
      · exact congrArg Host.Outcome.next (if_pos (by simp [hdown]))
      · exact congrArg Host.Outcome.next ((if_neg (by simp [hup])).trans (if_pos hinh))
      · exact congrArg Host.Outcome.next ((if_neg (by simp [hup])).trans ((if_neg (by simp [hinh])).trans (if_pos hbusy)))
      · rw [State.launchGo_on_time hup hinh hfree hlate ht]
  case frameStart =>
    intro p s
    have hexec : exec (.frameStart p) s = .next (s.startFrame p) := rfl
    refine ⟨fun h => congrArg Host.Outcome.next (if_pos (by simpa using h)), fun l hup hfree hl hdue => ?_, fun q f r hup hfree hnil hq hf => ?_⟩
    · simp only [hexec, State.startFrame, hup, hfree, hl, hdue, Option.filter_some, if_true, Bool.not_true, Option.isSome_none, Bool.or_false,
        Bool.false_eq_true, if_false]
    · simp only [hexec, State.startFrame, hup, hfree, hnil, firstLaunch, hq, hf, Option.filter_none, Bool.not_true, Option.isSome_none,
        Bool.or_false, Bool.false_eq_true, if_false]
  case frameSent =>
    rintro p sfd f q t s w u htx rfl rfl rfl
    have hexec : exec (.frameSent p sfd) s = .next (s.endFrame p sfd) := rfl
    refine ⟨fun h => by rw [h]; rfl, fun h => by rw [h]; rfl, fun h => by rw [h]; rfl, fun hno => ?_, fun hst hfull => ?_, fun hst hroom => ?_⟩
    · rw [hexec, State.endFrame, htx]
      exact congrArg Host.Outcome.next (if_pos (by simp [hno]))
    · rw [hexec, State.endFrame, htx]
      exact congrArg Host.Outcome.next ((if_neg (by simp [hst])).trans (if_pos hfull))
    · rw [hexec, State.endFrame, htx]
      exact congrArg Host.Outcome.next ((if_neg (by simp [hst])).trans (if_neg (Nat.not_le.mpr hroom)))
  case frameReceive =>
    rintro p rx s u rfl
    refine ⟨fun h => congrArg Host.Outcome.next (if_pos (by simp [h])), fun hup hlong => ?_, fun hup hfit => ?_⟩
    · exact congrArg Host.Outcome.next ((if_neg (by simp [hup])).trans (if_pos hlong))
    · exact congrArg Host.Outcome.next ((if_neg (by simp [hup])).trans (if_neg (Nat.not_lt.mpr hfit)))

/-! Links. -/

/-- A port whose link is up goes down. -/
theorem State.portDown_empty {s u : State} {p : Fin 4} (hup : s.portUp p = true) (hq : (s.port p).q = Vector.replicate 9 [])
    (htx : (s.port p).tx = none)
    (hu : u = (((s.setb (P.net p) F.NET_STATUS_LINK_UP false).inc (P.net p) ⟨R.NET_LINK_DOWN_CNT, 0, 16⟩).err (P.net p) E.net_LINK_DOWN).setPort p
      fun x => { x with q := Vector.replicate 9 [], tx := none, trySince := s.now })
    (hmgr : u.ringMgr (portRing p) = false) : s.portDown p = u := by
  have hgone : ((s.port p).q.toList.foldl (· ++ ·) []) ++ ((s.port p).tx.map (·.1)).toList = [] := by
    rw [hq, htx]
    rfl
  simp only [State.portDown, hup, hgone, State.bump, forEach, List.foldl, State.err_now, State.inc_now, State.setb_now, ← hu,
    hmgr, Bool.not_true, Bool.false_eq_true, if_false]

/-- The fields of NET_CFG whose change takes the link down are among those whose change restarts the mode search. -/
theorem and_0x306_of_and_0x307 {x : Nat} (h : x &&& 0x307 = 0) : x &&& 0x306 = 0 := by
  calc x &&& 0x306 = (x &&& 0x307) &&& 0x306 := (Nat.and_assoc x 0x307 0x306).symm
    _ = 0 := by rw [h, Nat.zero_and]

/-- Settles O46: each command by the branch of its definition that the clause's hypotheses choose. -/
theorem networkPorts : Obligations.NetworkPorts := by
  unfold Obligations.NetworkPorts
  refine ⟨?ringTestSend, ?ringOpen, ?portLinkUp, ?portLinkDown, ?autoModeSwitch, ?netCfgWrite, ?netCbsWrite, ?swBufRsvWrite⟩
  case ringTestSend =>
    intro r s
    have hexec : exec (.ringTestSend r) s = .next (s.ringTestSend r) := rfl
    refine ⟨fun hno => congrArg Host.Outcome.next (if_pos (by simp [hno])), fun hm hgot h0 h1 => ?_⟩
    have hmiss : (s.net.rings[r].got[0] && s.net.rings[r].got[1]) = false := by
      rcases hgot with h | h
      · rw [h, Bool.false_and]
      · rw [h, Bool.and_false]
    have hdown (k : Fin 2) (f : RingState → RingState) : (s.setRing r f).portUp (ringPort r k) = s.portUp (ringPort r k) := rfl
    simp only [hexec, State.ringTestSend, hm, hmiss, forEach, List.foldl, hdown, h0, h1, Bool.not_true, Bool.false_eq_true, if_false,
      OfNat.zero_ne_ofNat]
  case ringOpen =>
    intro r s
    refine ⟨fun h => congrArg Host.Outcome.next (if_neg ?_), fun hm ht hclosed => ?_⟩
    · rcases h with h | h
      · simp [h]
      · rw [decide_eq_false (Nat.not_le.mpr h), Bool.and_false]
        exact Bool.false_ne_true
    · exact congrArg Host.Outcome.next ((if_pos (by rw [hm, decide_eq_true ht]; rfl)).trans (if_neg (by simp [hclosed])))
  case portLinkUp =>
    intro p s
    refine ⟨fun hen hdown => congrArg Host.Outcome.next (if_pos (by simp [hen, hdown])), fun h => congrArg Host.Outcome.next (if_neg ?_)⟩
    rcases h with h | h <;> simp [h]
  case portLinkDown =>
    intro p hiBer s
    have hup_exec (h : s.portUp p = true) : exec (.portLinkDown p hiBer) s =
        .next (((s.portDown p).setb (P.net p) F.NET_STATUS_HI_BER hiBer).setb (P.net p) F.NET_STATUS_LOCK hiBer) :=
      congrArg Host.Outcome.next (if_pos h)
    refine ⟨fun h => congrArg Host.Outcome.next (if_neg (ne_true_of_eq_false h)), hup_exec, fun u hup _ hq htx hu hmgr => ?_⟩
    rw [hup_exec hup, State.portDown_empty hup hq htx hu hmgr]
  case autoModeSwitch =>
    intro p s
    refine ⟨fun hm hen hdown ht => congrArg Host.Outcome.next (if_pos ⟨hm, hen, by simp [hdown], ht⟩), fun h => congrArg Host.Outcome.next (if_neg ?_)⟩
    rintro ⟨hm, -, hdown, ht⟩
    rcases h with h | h | h
    · exact h hm
    · simp [h] at hdown
    · omega
  case netCfgWrite =>
    rintro p v s old new rfl rfl
    refine ⟨fun hsame hen => ?_, fun hlink hsearch => ?_⟩
    · have hkeep : ¬ ((s.rd (P.net p + R.NET_CFG) ^^^ (v.toNat &&& 0x30F)) &&& 0x306 ≠ 0 ∨ (v.toNat &&& 0x30F) % 2 = 0) :=
        not_or.mpr ⟨not_not.mpr (and_0x306_of_and_0x307 hsame), by omega⟩
      exact congrArg Host.Outcome.next ((if_neg (not_not.mpr hsame)).trans (congrArg (State.wr · _ _) (if_neg hkeep)))
    · have hdown : (if (s.rd (P.net p + R.NET_CFG) ^^^ (v.toNat &&& 0x30F)) &&& 0x306 ≠ 0 ∨ (v.toNat &&& 0x30F) % 2 = 0 then s.portDown p else s) =
          s.portDown p := if_pos (Or.inl hlink)
      exact congrArg Host.Outcome.next ((if_pos hsearch).trans (by rw [hdown, State.wr_now]))
  case netCbsWrite =>
    rintro p q v s sum hup rfl
    have hexec : exec (.netCbsWrite p q v) s = .next (s.writeCbs p q v.toNat) := rfl
    refine ⟨fun h => ?_, fun h => ?_⟩
    · simp only [hexec, State.writeCbs, hup, if_true, gt_iff_lt, if_pos h]
    · simp only [hexec, State.writeCbs, hup, if_true, gt_iff_lt, if_neg (Nat.not_lt.mpr h)]
  case swBufRsvWrite =>
    rintro q v s sum rfl
    refine ⟨fun hl => congrArg Host.Outcome.next (if_pos hl), fun hl h => ?_, fun hl h => ?_⟩
    · exact congrArg Host.Outcome.next ((if_neg (ne_true_of_eq_false hl)).trans (if_pos h))
    · exact congrArg Host.Outcome.next ((if_neg (ne_true_of_eq_false hl)).trans (if_neg (Nat.not_lt.mpr h)))

end Sys2Proof.Machine
end

section
/-! SUPPORT. The compare unit, windows, corrections and the release of the event log (O40). -/
namespace Sys2Proof.Machine
open Sys2Proof

theorem State.trackRun_eq_true {s : State} (hen : s.flag P.track F.TRACK_CTRL_EN = true) (hst : s.stage = 3) : s.trackRun = true := by
  simp [State.trackRun, hen, hst]

theorem State.trackRun_eq_false {s : State} (h : s.flag P.track F.TRACK_CTRL_EN = false ∨ s.stage ≠ 3) : s.trackRun = false := by
  rcases h with h | h <;> simp [State.trackRun, h]

/-- A committed event whose Slate was cut is missed, one whose Slate is not aligned is inhibited, any other fires. -/
theorem exec_eventFire_committed {i : Fin 262144} {s : State} (hev : s.isEvent i = true) (ht : s.evTick i ≤ s.now) (hst : s.rget i Rf.state = 3) :
    exec (.eventFire i) s = .next (s.fireEvent i (s.evTick i).toNat) :=
  congrArg Host.Outcome.next ((if_neg (by simp [hev, Int.not_lt.mpr ht])).trans (if_pos hst))

/-- Settles O40: each command by the branch of its definition that the clause's hypotheses choose. -/
theorem compareAndFire : Obligations.CompareAndFire := by
  unfold Obligations.CompareAndFire
  refine ⟨?compareInstant, ?eventFire, ?windowOpen, ?notSeen, ?correctionApply, ?eventLogRelease⟩
  case compareInstant =>
    intro a s v w hv hw
    have hexec : exec (.compareInstant a) s = execCompareInstant a s := rfl
    have hpass (hon : s.laneOn a = true) (hfresh : ∀ c, (s.lane a).ck = some c → c < (s.instants a).1) : exec (.compareInstant a) s =
        .next (if !w.trackRun then w else
          w.recordUe.comparePass ⟨a, (s.instants a).1, (s.instants a).2.1, w.reach, w.look a ((s.instants a).2.1 - (s.instants a).1)⟩) := by
      rw [hexec, execCompareInstant, hw, hv]
      cases hck : (s.lane a).ck with
      | none => simp only [hon, Bool.not_true, Bool.or_self, Bool.false_eq_true, if_false]
      | some c => simp only [hon, hfresh c hck, decide_true, Bool.not_true, Bool.or_self, Bool.false_eq_true, if_false]
    refine ⟨fun i hbad => ?_, fun hnone => ?_, fun hno => ?_, fun hon hfresh hidle => ?_, fun hon hfresh hen hst => ?_⟩
    · rw [State.recordUe, hbad]
      rfl
    · rw [State.recordUe, hnone]
      rfl
    · rcases hno with hoff | ⟨c, hck, hold⟩
      · exact congrArg Host.Outcome.next (if_pos (by simp [hoff]))
      · rw [hexec, execCompareInstant]
        simp only [hck, decide_eq_false (Nat.not_lt.mpr hold), Bool.not_false, Bool.or_true, if_true]
    · rw [hpass hon hfresh, State.trackRun_eq_false hidle]
      rfl
    · rw [hpass hon hfresh, State.trackRun_eq_true hen hst]
      rfl
  case eventFire =>
    rintro i s v rfl
    refine ⟨fun h => ?_, fun hev ht hst hcut => ?_, fun hev ht hst hcut hal => ?_, fun hev ht hst hcut hal => ?_, fun hev ht hst hinh => ?_,
      fun hev ht hst hinh hskip => ?_⟩
    · refine congrArg Host.Outcome.next (if_pos ?_)
      rcases h with h | h <;> simp [h]
    · rw [exec_eventFire_committed hev ht hst]
      exact congrArg Host.Outcome.next (if_pos hcut)
    · rw [exec_eventFire_committed hev ht hst]
      exact congrArg Host.Outcome.next ((if_neg (ne_true_of_eq_false hcut)).trans (if_pos (congrArg not hal)))
    · rw [exec_eventFire_committed hev ht hst]
      exact congrArg Host.Outcome.next ((if_neg (ne_true_of_eq_false hcut)).trans (if_neg (ne_true_of_eq_false (congrArg not hal))))
    · exact congrArg Host.Outcome.next ((if_neg (by simp [hev, Int.not_lt.mpr ht])).trans ((if_neg (by simp [hst])).trans (if_pos ⟨hst, hinh⟩)))
    · exact congrArg Host.Outcome.next ((if_neg (by simp [hev, Int.not_lt.mpr ht])).trans ((if_neg (by simp [hst])).trans
        ((if_neg fun h => ne_true_of_eq_false hinh h.2).trans (if_pos ⟨hst, hskip⟩))))
  case windowOpen =>
    intro i s
    refine ⟨fun hev hwin hst hany ht => congrArg Host.Outcome.next (if_pos ?_), fun h => congrArg Host.Outcome.next (if_neg ?_)⟩
    · rw [hev, hwin, hst, hany, decide_eq_true ht]
      rfl
    · simp only [Bool.and_eq_true, beq_iff_eq, decide_eq_true_eq]
      rintro ⟨⟨⟨⟨hev, hwin⟩, hst⟩, -⟩, ht⟩
      rcases h with h | h | h | h
      · exact ne_true_of_eq_false h hev
      · exact ne_true_of_eq_false h hwin
      · exact h hst
      · exact Int.not_le.mpr h ht
  case notSeen =>
    intro i w s hw
    have hexec : exec (.notSeen i) s = execNotSeen i s := rfl
    refine ⟨fun h => ?_, fun hev hfin hrun ht => ?_⟩
    · rw [hexec, execNotSeen, hw]
      refine congrArg Host.Outcome.next (if_pos ?_)
      rcases h with h | h | h | h <;> simp [h]
    · rw [hexec, execNotSeen, hw]
      exact congrArg Host.Outcome.next (if_neg (by simp [hev, hfin, hrun, ht]))
  case correctionApply =>
    intro s
    have hexec : exec .correctionApply s = execCorrectionApply s := rfl
    refine ⟨fun hnil => ?_, ?_⟩
    · rw [hexec, execCorrectionApply, hnil]
    · rintro c r u hc rfl
      rw [hexec, execCorrectionApply, hc]
  case eventLogRelease =>
    rintro s due rfl
    rfl

end Sys2Proof.Machine
end

section
/-! SUPPORT. The host port and the service stages (O57, O59). -/
namespace Sys2Proof.Machine
open Sys2Proof

theorem State.mgmtTake_of_enabled {s : State} (hen : s.flag P.host F.HOST_MGMT_CTRL_EN = true) (hst : 2 ≤ s.stage) (f : MgmtFrame) :
    s.mgmtTake f = (s.setMgmt fun m => { m with todo := m.todo ++ [f] }).mgmtRun 68 :=
  if_pos (by simp [hen, hst])

theorem State.mgmtTake_of_disabled {s : State} (h : s.flag P.host F.HOST_MGMT_CTRL_EN = false ∨ s.stage < 2) (f : MgmtFrame) : s.mgmtTake f = s := by
  refine if_neg ?_
  rcases h with h | h
  · simp [h]
  · simp [Nat.not_le.mpr h]

/-- Settles O57: each command by the branch of its definition that the clause's hypotheses choose. -/
theorem hostPort : Obligations.HostPort := by
  unfold Obligations.HostPort
  refine ⟨?hostWrite, ?hostRead, ?hostUnsupported, ?flr, fun s => rfl, ?pcieLinkDown, ?pcieLinkUp, ?pcieConfigWrite, fun v s => rfl, ?dmaTmo,
    ?mgmtRead, ?mgmtWrite, ?mgmtStatus⟩
  case hostWrite =>
    intro addr data s
    have hexec : exec (.hostWrite addr data) s = .next (s.hostTlpWrite addr.toNat data) := rfl
    refine ⟨fun hdown => ?_, fun hup hk => ?_, fun b hup hk => ?_, fun hup hk => ?_, fun hup hk => ?_⟩
    · exact congrArg Host.Outcome.next (if_pos (by simp [hdown]))
    · simp only [hexec, State.hostTlpWrite, hup, hk, Bool.not_true, Bool.false_eq_true, if_false]
    · simp only [hexec, State.hostTlpWrite, hup, hk, Bool.not_true, Bool.false_eq_true, if_false]
    · simp only [hexec, State.hostTlpWrite, hup, hk, Bool.not_true, Bool.false_eq_true, if_false]
    · simp only [hexec, State.hostTlpWrite, hup, hk, Bool.not_true, Bool.false_eq_true, if_false, State.hostPiece, apply_ite Done.st]
  case hostRead =>
    intro addr n s
    have hexec : exec (.hostRead addr n) s = .next (s.hostTlpRead addr.toNat n) := rfl
    refine ⟨fun hdown => ?_, fun hup hk => ?_, fun b hup hk => ?_, fun hup hk => ?_, fun r hup hk hr => ?_⟩
    · exact congrArg Host.Outcome.next (if_pos (by simp [hdown]))
    · simp only [hexec, State.hostTlpRead, hup, hk, Bool.not_true, Bool.false_eq_true, if_false]
    · simp only [hexec, State.hostTlpRead, hup, hk, Bool.not_true, Bool.false_eq_true, if_false]
    · simp only [hexec, State.hostTlpRead, hup, hk, Bool.not_true, Bool.false_eq_true, if_false]
    · simp only [hexec, State.hostTlpRead, hup, hk, hr, Bool.not_true, Bool.false_eq_true, if_false]
  case hostUnsupported | flr | pcieLinkDown =>
    exact fun s => ⟨fun h => congrArg Host.Outcome.next (if_pos h), fun h => congrArg Host.Outcome.next (if_neg (ne_true_of_eq_false h))⟩
  case pcieLinkUp =>
    exact fun gen x2 s => ⟨fun h => congrArg Host.Outcome.next (if_pos h), fun h => congrArg Host.Outcome.next (if_neg h)⟩
  case pcieConfigWrite =>
    exact fun bme msix fmask s =>
      ⟨fun h => congrArg Host.Outcome.next (if_neg (ne_true_of_eq_false h)), fun h => congrArg Host.Outcome.next (if_pos h)⟩
  case dmaTmo =>
    intro s
    have hexec (r : DmaRead) : exec (.dmaTmo r) s = .next (s.dmaFail r) := rfl
    refine ⟨fun d desc h => ?_, fun d desc h => ?_, fun d h => ?_, fun d hhost hen hpost hrun => ?_, fun hjob => ?_, fun v hjob hop hhost => ?_⟩
    · exact congrArg Host.Outcome.next (if_neg (ne_true_of_eq_false h))
    · exact congrArg Host.Outcome.next (if_pos h)
    · refine congrArg Host.Outcome.next (if_neg ?_)
      rcases h with h | h | h <;> simp [h]
    · exact congrArg Host.Outcome.next (if_pos (by rw [hhost, hen, bne_iff_ne.mpr hpost, hrun]; rfl))
    · rw [hexec, State.dmaFail, hjob]
    · rw [hexec, State.dmaFail, hjob]
      simp only [hop, hhost, and_self, if_true, State.amberDo, State.copyIn]
  case mgmtRead | mgmtWrite =>
    intro p src body ok tag s
    refine ⟨fun h => congrArg Host.Outcome.next (if_neg h), fun h => congrArg Host.Outcome.next ?_, fun ht hen hst => congrArg Host.Outcome.next ?_⟩
    · rw [State.mgmtTake_of_disabled h, ite_self]
    · rw [if_pos ht, State.mgmtTake_of_enabled hen hst]
  case mgmtStatus =>
    intro p src body ok tag s
    refine ⟨fun h => congrArg Host.Outcome.next (if_pos h), fun h => congrArg Host.Outcome.next ?_,
      fun h1 h2 hen hst => congrArg Host.Outcome.next ?_⟩
    · rw [State.mgmtTake_of_disabled h, ite_self]
    · rw [if_neg (not_or.mpr ⟨h1, h2⟩), State.mgmtTake_of_enabled hen hst]

/-- Settles O59: each command by the branch of its definition that the clause's hypotheses choose. -/
theorem bootAndStages : Obligations.BootAndStages := by
  unfold Obligations.BootAndStages
  refine ⟨?enterSafeHold, ?enterBasic, ?imageLoad, ?restore, ?enterFull⟩
  case enterSafeHold =>
    intro s
    refine ⟨fun h => congrArg Host.Outcome.next (if_neg ?_), fun hst hrel hlock hflint => congrArg Host.Outcome.next (if_pos ?_)⟩
    · rintro ⟨hst, hrel, hlock, hflint⟩
      rcases h with h | h | h | h
      · exact h hst
      · simp [h] at hrel
      · exact ne_true_of_eq_false h hlock
      · exact ne_true_of_eq_false h hflint
    · exact ⟨hst, congrArg not hrel, hlock, hflint⟩
  case enterBasic =>
    intro a b s u hu
    have hexec (hst : s.stage = 1) : exec (.enterBasic a b) s = .next (match u.boot.booted with
        | some x => if u.basicReady then ((u.enterStage 2 R.SYS_T_BASIC).wdogKick.safeAct).applyBasic (u.typeBytes x 1) else u
        | none => u) := by
      rw [hu]
      exact congrArg Host.Outcome.next (if_neg (not_not.mpr hst))
    refine ⟨fun hst => congrArg Host.Outcome.next (if_pos hst), fun hst hb => ?_, fun x hst hb hr => ?_, fun x hst hb hr => ?_⟩
    · rw [hexec hst, hb]
    · rw [hexec hst, hb]
      exact congrArg Host.Outcome.next (if_neg (ne_true_of_eq_false hr))
    · rw [hexec hst, hb]
      exact congrArg Host.Outcome.next (if_pos hr)
  case imageLoad =>
    intro x other s
    have hexec : exec (.imageLoad x other) s = execImageLoad x other s := rfl
    refine ⟨fun h => ?_, fun slot l hb hst happ hfail hl => ?_⟩
    · rw [hexec, execImageLoad]
      cases hb : s.boot.booted with
      | none => rfl
      | some slot => exact congrArg Host.Outcome.next (if_pos (h.resolve_left (by simp [hb])))
    · rw [hexec, execImageLoad, hb, hl]
      exact congrArg Host.Outcome.next (if_neg (by simp [hst, happ, hfail]))
  case restore =>
    intro us s
    refine ⟨fun h => congrArg Host.Outcome.next (if_pos (by simpa using h)), fun hst happ hres hc => ?_, fun hst happ hres hc => ?_⟩
    · exact congrArg Host.Outcome.next ((if_neg (by simp [hst, happ, hres])).trans (congrArg (State.setPower · _) (if_pos hc)))
    · exact congrArg Host.Outcome.next ((if_neg (by simp [hst, happ, hres])).trans (congrArg (State.setPower · _) (if_neg hc)))
  case enterFull =>
    intro s
    refine ⟨fun hst happ hres hcal htime hal => congrArg Host.Outcome.next (if_pos ⟨hst, happ, hres, hcal, htime, hal⟩),
      fun h => congrArg Host.Outcome.next (if_neg ?_)⟩
    rintro ⟨hst, happ, hres, hcal, htime, hal⟩
    rcases h with h | h | h | h | h | h
    · exact h hst
    · exact ne_true_of_eq_false h happ
    · exact ne_true_of_eq_false h hres
    · exact ne_true_of_eq_false h hcal
    · exact ne_true_of_eq_false h htime
    · exact ne_true_of_eq_false h hal

end Sys2Proof.Machine
end

section
/-! SUPPORT. Amber commands (O54). -/
namespace Sys2Proof.Machine
open Sys2Proof

/-! The command word of an operation, and what a write of it does (R400). -/

theorem amberWord_op {op : Nat} (hop : op < 16) (slot trial : Bool) {key : Nat} (hkey : key < 4) : bits (amberWord op slot trial key) 24 4 = op := by
  rw [bits_eq_div_mod, amberWord]
  have hs : slot.toNat ≤ 1 := slot.toNat_le
  have ht : trial.toNat ≤ 1 := trial.toNat_le
  omega

theorem amberWord_go {op : Nat} (hop : op < 16) (slot trial : Bool) {key : Nat} (hkey : key < 4) : bits (amberWord op slot trial key) 31 1 = 1 := by
  rw [bits_eq_div_mod, amberWord]
  have hs : slot.toNat ≤ 1 := slot.toNat_le
  have ht : trial.toNat ≤ 1 := trial.toNat_le
  omega

theorem State.amberCmd_of_busy {s : State} (hjob : s.boot.job ≠ none) (v : Nat) : s.amberCmd v = s :=
  if_pos (Option.isSome_iff_ne_none.mpr hjob)

section
variable {s u : State} {op v : Nat} {slot trial : Bool} {key : Nat} (hop : 1 ≤ op ∧ op ≤ 9) (hkey : key < 4)
  (hv : v = amberWord op slot trial key) (hu : u = s.wr (P.amber + R.AMBER_CMD) (v &&& 0x8F000330)) (hjob : s.boot.job = none)
include hop hkey hv hu hjob

theorem State.amberCmd_of_idle : s.amberCmd v =
    if u.amberRefusal v ≠ 0 then
      ((if u.amberRefusal v = 7 ∧ (decide (op ≤ 2) && u.flag P.amber F.AMBER_SRC_HI_HOST) = true then
        u.dmaErr E.host_DMA_WIN 0 u.copySrc Req.boot (op == 2) else u).amberResult (u.amberRefusal v))
    else if op = 1 then
      forEach [false, true] (u.setBoot fun b => { b with job := some v }) fun slot y =>
        if touches ((u.setBoot fun b => { b with job := some v }).rd (P.amber + R.AMBER_DST)) y.copyLen slot then y.unverify slot false else y
    else u.setBoot fun b => { b with job := some v } := by
  obtain ⟨hlo, hhi⟩ := hop
  have hcode : bits v 24 4 = op := by rw [hv, amberWord_op (by omega) slot trial hkey]
  have hgo : bits v 31 1 = 1 := by rw [hv, amberWord_go (by omega) slot trial hkey]
  have hlegal : ¬ (bits v 31 1 = 0 ∨ op = 0 ∨ 9 < op) := by omega
  rw [State.amberCmd, if_neg (by simp [hjob])]
  dsimp only
  rw [← hu, hcode, if_neg hlegal]

/-- An operation that is refused ends at once; a copy outside the host's window is recorded too. -/
theorem State.amberCmd_refused {c : Nat} (hc : u.amberRefusal v = c) (h0 : c ≠ 0)
    (hwin : ¬ (c = 7 ∧ (decide (op ≤ 2) && u.flag P.amber F.AMBER_SRC_HI_HOST) = true)) : s.amberCmd v = u.amberResult c := by
  rw [State.amberCmd_of_idle hop hkey hv hu hjob, hc, if_pos h0, if_neg hwin]

theorem State.amberCmd_window (hc : u.amberRefusal v = 7) (hcopy : op ≤ 2) (hhost : u.flag P.amber F.AMBER_SRC_HI_HOST = true) :
    s.amberCmd v = (u.dmaErr E.host_DMA_WIN 0 u.copySrc Req.boot (op == 2)).amberResult 7 := by
  rw [State.amberCmd_of_idle hop hkey hv hu hjob, hc, if_pos (by decide), if_pos ⟨rfl, by rw [decide_eq_true hcopy, hhost]; rfl⟩]

/-- An accepted operation other than COPY_IN is in progress, and nothing else changes. -/
theorem State.amberCmd_accepted (hc : u.amberRefusal v = 0) (hne : op ≠ 1) : s.amberCmd v = u.setBoot fun b => { b with job := some v } := by
  rw [State.amberCmd_of_idle hop hkey hv hu hjob, if_neg (not_not.mpr hc), if_neg hne]

end

/-- The operations that copy nothing and may be refused: a write waits for the one in progress, ends at once or is in progress. -/
theorem State.amberCmd_outcome (s : State) {u : State} {op v : Nat} {slot trial : Bool} {key : Nat} (hop : 4 ≤ op ∧ op ≤ 9) (hkey : key < 4)
    (hv : v = amberWord op slot trial key) (hu : u = s.wr (P.amber + R.AMBER_CMD) (v &&& 0x8F000330)) :
    (s.boot.job ≠ none → (.next (s.amberCmd v) : Out) = .next s) ∧
    (s.boot.job = none → ∀ c, u.amberRefusal v = c → c ≠ 0 → (.next (s.amberCmd v) : Out) = .next (u.amberResult c)) ∧
    (s.boot.job = none → u.amberRefusal v = 0 → (.next (s.amberCmd v) : Out) = .next (u.setBoot fun b => { b with job := some v })) := by
  obtain ⟨hlo, hhi⟩ := hop
  have hany : 1 ≤ op ∧ op ≤ 9 := ⟨by omega, hhi⟩
  have hnocopy : decide (op ≤ 2) = false := decide_eq_false (by omega)
  refine ⟨fun hb => ?_, fun hj c hc h0 => ?_, fun hj hc => ?_⟩
  · rw [State.amberCmd_of_busy hb]
  · rw [State.amberCmd_refused hany hkey hv hu hj hc h0 (by simp [hnocopy])]
  · rw [State.amberCmd_accepted hany hkey hv hu hj hc (by omega)]

/-- VERIFY is never refused at the write. -/
theorem State.amberRefusal_verify (s : State) {v : Nat} (h : bits v 24 4 = 3) : s.amberRefusal v = 0 := by
  simp only [State.amberRefusal, h]

/-- Settles O54: each command by the rules of a write of AMBER_CMD, each end by the operation in progress. -/
theorem amberCommands : Obligations.AmberCommands := by
  unfold Obligations.AmberCommands
  refine ⟨?copyIn, ?copyOut, ?verify, ?switch, ?confirm, ?raiseFloor, ?fuseKey, ?revoke, ?boot, ?amberCmdComplete, fun addr s => ⟨rfl, rfl, rfl⟩⟩
  case copyIn =>
    intro v s u hv hu
    have hexec : exec .copyIn s = .next (s.amberCmd v) := by rw [hv]; rfl
    rw [hexec]
    refine ⟨fun hb => ?_, fun hj c hc h0 hwin => ?_, fun hj hc => ?_, fun hj hc hhost => ?_⟩
    · rw [State.amberCmd_of_busy hb]
    · rw [State.amberCmd_refused (by decide) (by decide) hv hu hj hc h0 fun h => by simp [hwin h.1] at h]
    · rw [State.amberCmd_of_idle (by decide) (by decide) hv hu hj, if_neg (not_not.mpr hc), if_pos rfl]
    · rw [State.amberCmd_window (by decide) (by decide) hv hu hj hc (by decide) hhost]
      rfl
  case copyOut =>
    intro v s u hv hu
    have hexec : exec .copyOut s = .next (s.amberCmd v) := by rw [hv]; rfl
    rw [hexec]
    refine ⟨fun hb => ?_, fun hj c hc h0 hwin => ?_, fun hj hc => ?_, fun hj hc hhost => ?_⟩
    · rw [State.amberCmd_of_busy hb]
    · rw [State.amberCmd_refused (by decide) (by decide) hv hu hj hc h0 fun h => by simp [hwin h.1] at h]
    · rw [State.amberCmd_accepted (by decide) (by decide) hv hu hj hc (by decide)]
    · rw [State.amberCmd_window (by decide) (by decide) hv hu hj hc (by decide) hhost]
      rfl
  case verify =>
    intro slot v s u hv hu
    have hexec : exec (.verify slot) s = .next (s.amberCmd v) := by rw [hv]; rfl
    rw [hexec]
    refine ⟨fun hb => by rw [State.amberCmd_of_busy hb], fun hj => ?_⟩
    have hc : u.amberRefusal v = 0 := u.amberRefusal_verify (by rw [hv, amberWord_op (by decide) slot false (by decide)])
    rw [State.amberCmd_accepted (by decide) (by decide) hv hu hj hc (by decide)]
  case switch =>
    rintro slot trial v s u rfl hu
    exact s.amberCmd_outcome (by decide) (by decide) rfl hu
  case confirm | raiseFloor =>
    rintro v s u rfl hu
    exact s.amberCmd_outcome (by decide) (by decide) rfl hu
  case fuseKey | revoke =>
    rintro key v s u rfl hu
    exact s.amberCmd_outcome (by decide) key.isLt rfl hu
  case boot =>
    rintro slot v s u rfl hu
    exact s.amberCmd_outcome (by decide) (by decide) rfl hu
  case amberCmdComplete =>
    intro x src s
    have hexec : exec (.amberCmdComplete x src) s = execAmberCmdComplete x src s := rfl
    refine ⟨fun hnone => by rw [hexec, execAmberCmdComplete, hnone], fun v hjob => ?_⟩
    have hdo : exec (.amberCmdComplete x src) s = .next (s.amberDo v x src) := by rw [hexec, execAmberCmdComplete, hjob]
    rw [hdo]
    refine ⟨fun hop hbar hsoft => ?_, fun hop => ?_, fun code hop hcode h0 => ?_, fun hop hcode => ?_, fun hop => ?_, fun hop => ?_, fun hop => ?_,
      fun hop => ?_, fun hop => ?_, fun hop => ?_⟩
    · simp only [State.amberDo, hop, State.copyIn, hbar, Bool.false_eq_true, if_false, State.eccScan_of_softIn hsoft, State.extLoad_of_softIn hsoft]
    · simp only [State.amberDo, hop]
    · simp only [State.amberDo, hop, State.doVerify, hcode, beq_eq_false_iff_ne.mpr h0, State.when_false]
    · simp only [State.amberDo, hop, State.doVerify, hcode, beq_self_eq_true, State.when_true]
    · simp only [State.amberDo, hop]
    · simp only [State.amberDo, hop, State.doConfirm]
    · simp only [State.amberDo, hop, State.blowFloor]
    · simp only [State.amberDo, hop]
    · simp only [State.amberDo, hop, State.revokeKey]
    · simp only [State.amberDo, hop, State.bootSlot]

end Sys2Proof.Machine
end

section
/-! SUPPORT. Reset sources, locks, timers, sag and save (O56). -/
namespace Sys2Proof.Machine
open Sys2Proof

theorem State.askReset_of_no_save {s : State} (h : s.power.save = none) (cause : Nat) (held : Bool) :
    s.askReset cause held = s.graniteReset cause held :=
  if_neg (by simp [h])

/-- During a save a reset source only leaves its cause (R423). -/
theorem State.askReset_of_save {s : State} (h : s.power.save ≠ none) (cause : Nat) (held : Bool) :
    s.askReset cause held = s.setPower fun p => { p with defer := p.defer ||| cause } :=
  if_pos (Option.isSome_iff_ne_none.mpr h)

/-- Registers that a filter drops read their reset value. -/
theorem State.rd_keepRegs_dropped (s : State) {p : Nat → Bool} {a : Nat} (h : p a = false) : (s.keepRegs p).rd a = (regDefault a).toNat := by
  rw [State.rd, State.reg, State.keepRegs, Assoc.get_filter, h]
  rfl

theorem State.powerOnReset_stage (s : State) : s.powerOnReset.stage = 0 := by
  have hdrop : s.powerOnReset.rd (P.sys + R.SYS_STATE) = (((s.graniteReset 0 true).keepRegs fun a =>
      (List.finRange 8).any fun i => onSlate i a)).rd (P.sys + R.SYS_STATE) := by
    rw [State.powerOnReset, State.setSlates_rd, State.rd_setb_other _ _ _ _ _ (by decide), State.setSafety_rd]
  rw [State.stage, State.fld, show P.sys + F.SYS_STATE_STATE.off = P.sys + R.SYS_STATE from rfl, hdrop, State.rd_keepRegs_dropped _ (by decide)]
  decide

/-- What of the state a power-on reset leaves or clears, registers apart, is what every Granite reset leaves, without Flint's. -/
theorem State.powerOnReset_parts (s : State) :
    s.powerOnReset.power = (s.afterReset true).power ∧ s.powerOnReset.amber = s.amber ∧ s.powerOnReset.boot = (s.afterReset true).boot ∧
    s.powerOnReset.mem = (s.afterReset true).mem ∧ s.powerOnReset.time = (s.afterReset true).time ∧
    s.powerOnReset.engines = (s.afterReset true).engines ∧ s.powerOnReset.safety = {} := by
  simp [State.powerOnReset, State.graniteReset]
  rfl

theorem State.astore_power (s : State) (a n v : Nat) : (s.astore a n v).power = s.power := by
  rw [State.astore_only_amber]

theorem State.astore_now (s : State) (a n v : Nat) : (s.astore a n v).now = s.now := by
  rw [State.astore_only_amber]
  rfl

/-- What a sag does once it is detected and PFAIL is recorded. -/
theorem State.sagDetect_of_enabled {s u : State} {pfail : Bool} (hu : u = if pfail then s.setb P.pwr F.PWR_STATUS_PFAIL true else s)
    (hen : s.flag P.pwr (if pfail then F.PWR_CFG_PFAIL_EN else F.PWR_CFG_SENSE_EN) = true) :
    s.sagDetect pfail =
      if u.power.wait then u.inc P.pwr F.PWR_SAG_CNT_COUNT
      else if u.flag P.pwr F.PWR_STATUS_SAG then u
      else
        let x := ((u.inc P.pwr F.PWR_SAG_CNT_COUNT).err P.pwr E.pwr_SAG).setb P.pwr F.PWR_STATUS_SAG true
        if x.stage < 2 ∨ x.power.save.isSome then x
        else if x.restoring then
          (x.setPower fun p => { p with restored := true }).wr (P.pwr + R.PWR_REST_STAT) (7 * 2 ^ 28) |>.err P.pwr E.pwr_REST_SKIP
        else if !x.flag P.pwr F.PWR_CFG_SAVE_EN then
          (x.wr64 P.pwr R.PWR_SAVE_TICK_LO x.now).safeCmdAll.wr (P.pwr + R.PWR_SAVE_STAT) (4 * 2 ^ 28)
        else if !x.flag P.pwr F.PWR_STATUS_HOLD_OK then
          ((x.wr64 P.pwr R.PWR_SAVE_TICK_LO x.now).safeCmdAll.wr (P.pwr + R.PWR_SAVE_STAT) (2 * 2 ^ 28)).err P.pwr E.pwr_SAVE_FAIL
        else x.startSave true := by
  rw [hu, State.sagDetect, if_neg (by simp [hen])]
  rfl

/-- Settles O56: each command by the branch of its definition that the clause's hypotheses choose. -/
theorem resetsAndSave : Obligations.ResetsAndSave := by
  unfold Obligations.ResetsAndSave
  refine ⟨?powerOnReset, ?externalReset, ?resetRelease, ?pllLock, ?pllUnlock, ?holdoverExpiry, ?flintSelfTestPass, ?sysWdogKick, ?sysWdogExpiry,
    ?trialExpiry, ?sysReset, ?sysResetSave, ?holdCapMeasure, fun ok s => rfl, ?sagDetect, ?holdCollapse, ?sagEnd, ?saveComplete⟩
  case powerOnReset =>
    intro s
    obtain ⟨hpower, hamber, hboot, hmem, htime, heng, hsafety⟩ := s.powerOnReset_parts
    refine ⟨s.powerOnReset, rfl, ?_, s.powerOnReset_stage, hamber, ?_, ?_, ?_, ?_, hmem, ?_, ?_, heng, hsafety⟩
    · rw [hpower]; rfl
    · rw [hboot]; rfl
    · rw [hboot]; rfl
    · rw [hboot]; rfl
    · rw [hboot]; rfl
    · rw [State.now, htime]; rfl
    · rw [htime]; rfl
  case externalReset =>
    exact fun s => ⟨fun h => congrArg Host.Outcome.next (State.askReset_of_no_save h _ _),
      fun h => congrArg Host.Outcome.next (State.askReset_of_save h _ _)⟩
  case resetRelease =>
    exact fun s => ⟨fun h => congrArg Host.Outcome.next (if_neg (ne_true_of_eq_false h)), fun h => congrArg Host.Outcome.next (if_pos h)⟩
  case pllLock =>
    intro p s
    refine ⟨fun h => congrArg Host.Outcome.next (if_pos h), fun hrel hp => ?_, fun hrel hp hsys hlink => ?_, fun hrel hp hno => ?_⟩
    · exact congrArg Host.Outcome.next ((if_neg (ne_true_of_eq_false hrel)).trans (if_pos (by omega)))
    · exact congrArg Host.Outcome.next ((if_neg (ne_true_of_eq_false hrel)).trans ((if_neg (by omega)).trans (if_pos (by simp [hsys, hlink]))))
    · refine congrArg Host.Outcome.next ((if_neg (ne_true_of_eq_false hrel)).trans ((if_neg (by omega)).trans (if_neg ?_)))
      rcases hno with h | h <;> simp [h]
  case pllUnlock =>
    refine fun s => ⟨rfl, rfl, ?_⟩
    rintro u rfl
    have hexec : exec (.pllUnlock 0) s = .next s.sysUnlock := rfl
    refine ⟨fun h => ?_, fun h => ?_⟩
    · simp only [hexec, State.sysUnlock, h, Option.isSome_none, State.when_false]
    · simp only [hexec, State.sysUnlock, Option.isSome_iff_ne_none.mpr h, State.when_true]
  case holdoverExpiry =>
    intro s
    have hexec : exec .holdoverExpiry s = execHoldoverExpiry s := rfl
    refine ⟨fun hnone => ?_, fun t ht hno => ?_, fun t ht hhold hlate => ?_⟩
    · rw [hexec, execHoldoverExpiry, hnone]
    · rw [hexec, execHoldoverExpiry, ht]
      refine congrArg Host.Outcome.next (if_neg ?_)
      rintro ⟨hhold, hlate⟩
      rcases hno with h | h
      · exact ne_true_of_eq_false h hhold
      · omega
    · rw [hexec, execHoldoverExpiry, ht]
      exact congrArg Host.Outcome.next (if_pos ⟨hhold, hlate⟩)
  case flintSelfTestPass =>
    exact fun s => ⟨fun h => congrArg Host.Outcome.next (if_pos h), fun h => congrArg Host.Outcome.next (if_neg (ne_true_of_eq_false h))⟩
  case sysWdogKick =>
    intro s
    have hexec : exec .sysWdogKick s = .next s.wdogKick := rfl
    refine ⟨fun h => ?_, fun h => ?_⟩
    · simp only [hexec, State.wdogKick, if_pos h]
    · have hoff : ¬ (2 ≤ s.stage ∧ s.fld P.sys F.SYS_WDOG_PERIOD ≠ 0) := by omega
      simp only [hexec, State.wdogKick, if_neg hoff]
  case sysWdogExpiry =>
    intro s
    have hexec : exec .sysWdogExpiry s = execSysWdogExpiry s := rfl
    refine ⟨fun hnone => ?_, fun t ht hwait => ?_, fun t ht hlate hs => ?_, fun t ht hlate hs => ?_⟩
    · rw [hexec, execSysWdogExpiry, hnone]
    · rw [hexec, execSysWdogExpiry, ht]
      exact congrArg Host.Outcome.next (if_neg (Nat.not_le.mpr hwait))
    · rw [hexec, execSysWdogExpiry, ht]
      exact congrArg Host.Outcome.next ((if_pos hlate).trans (State.askReset_of_no_save hs _ _))
    · rw [hexec, execSysWdogExpiry, ht]
      exact congrArg Host.Outcome.next ((if_pos hlate).trans (State.askReset_of_save hs _ _))
  case trialExpiry =>
    intro s
    have hexec : exec .trialExpiry s = execTrialExpiry s := rfl
    refine ⟨fun hnone => ?_, fun t ht hwait => ?_, fun t ht hlate hs => ?_, fun t ht hlate hs => ?_⟩
    · rw [hexec, execTrialExpiry, hnone]
    · rw [hexec, execTrialExpiry, ht]
      exact congrArg Host.Outcome.next (if_neg (Nat.not_le.mpr hwait))
    · rw [hexec, execTrialExpiry, ht]
      exact congrArg Host.Outcome.next ((if_pos hlate).trans (State.askReset_of_no_save hs _ _))
    · rw [hexec, execTrialExpiry, ht]
      exact congrArg Host.Outcome.next ((if_pos hlate).trans (State.askReset_of_save hs _ _))
  case sysReset =>
    intro key s
    have hlt := key.isLt
    have hnosave : bits (key.toNat * 2 ^ 16 + 1) 1 1 = 0 := by rw [bits_eq_div_mod]; omega
    refine ⟨fun h => congrArg Host.Outcome.next (if_pos (Or.inl (by omega))), fun h hs => ?_, fun h hs => ?_⟩
    · exact congrArg Host.Outcome.next ((if_neg (by omega)).trans ((if_pos hnosave).trans (State.askReset_of_no_save hs _ _)))
    · exact congrArg Host.Outcome.next ((if_neg (by omega)).trans ((if_pos hnosave).trans (State.askReset_of_save hs _ _)))
  case sysResetSave =>
    intro key s
    have hlt := key.isLt
    have hsave : bits (key.toNat * 2 ^ 16 + 3) 1 1 ≠ 0 := by rw [bits_eq_div_mod]; omega
    have hexec : exec (.sysResetSave key) s = .next (s.writeSysReset (key.toNat * 2 ^ 16 + 3)) := rfl
    refine ⟨fun h => ?_, fun h hs => ?_⟩
    · by_cases hkey : key.toNat = 0xA5A5
      · exact congrArg Host.Outcome.next ((if_neg (by omega)).trans ((if_neg hsave).trans
          (if_pos (Option.isSome_iff_ne_none.mpr (h.resolve_left (not_not.mpr hkey))))))
      · exact congrArg Host.Outcome.next (if_pos (Or.inl (by omega)))
    · exact congrArg Host.Outcome.next ((if_neg (by omega)).trans ((if_neg hsave).trans (if_neg (by simp [hs]))))
  case holdCapMeasure =>
    refine fun uF s => ⟨fun h => congrArg Host.Outcome.next (if_neg ?_), fun h => congrArg Host.Outcome.next (if_pos (decide_eq_true h))⟩
    rw [decide_eq_false (Nat.not_lt.mpr h)]
    decide
  case sagDetect =>
    intro pfail s u hu
    refine ⟨fun hoff => congrArg Host.Outcome.next (if_pos (congrArg not hoff)), fun hen => ?_⟩
    have hexec : exec (.sagDetect pfail) s = .next (s.sagDetect pfail) := rfl
    rw [hexec, State.sagDetect_of_enabled hu hen]
    refine ⟨fun hw => by rw [if_pos hw], fun hw hsag => by rw [if_neg (ne_true_of_eq_false hw), if_pos hsag], ?_⟩
    intro x hw hsag hx
    rw [if_neg (ne_true_of_eq_false hw), if_neg (ne_true_of_eq_false hsag)]
    dsimp only
    rw [← hx]
    have hrun (hst : 2 ≤ x.stage) (hs : x.power.save = none) : ¬ (x.stage < 2 ∨ x.power.save.isSome = true) := by simp [hs]; omega
    refine ⟨fun h => ?_, fun hst hs hr => ?_, fun hst hs hr hsv => ?_, fun hst hs hr hsv hok => ?_, fun hst hs hr hsv hok => ?_⟩
    · rw [if_pos (h.imp id Option.isSome_iff_ne_none.mpr)]
    · rw [if_neg (hrun hst hs), if_pos hr]
    · rw [if_neg (hrun hst hs), if_neg (ne_true_of_eq_false hr), if_pos (by simp [hsv])]
    · rw [if_neg (hrun hst hs), if_neg (ne_true_of_eq_false hr), if_neg (by simp [hsv]), if_pos (by simp [hok])]
    · rw [if_neg (hrun hst hs), if_neg (ne_true_of_eq_false hr), if_neg (by simp [hsv]), if_neg (by simp [hok])]
  case holdCollapse =>
    intro s
    have hexec : exec .holdCollapse s = execHoldCollapse s := rfl
    refine ⟨?_, fun v hv hsag => ?_⟩
    · rintro (hnone | ⟨⟨t, sag⟩, hv, rfl⟩)
      · rw [hexec, execHoldCollapse, hnone]
      · rw [hexec, execHoldCollapse, hv]
    · obtain ⟨t, sag⟩ := v
      obtain rfl : sag = true := hsag
      rw [hexec, execHoldCollapse, hv]
  case sagEnd =>
    rintro s t rfl
    exact ⟨fun h => congrArg Host.Outcome.next (if_neg (ne_true_of_eq_false h)), fun h => congrArg Host.Outcome.next (if_pos h)⟩
  case saveComplete =>
    intro s
    have hexec : exec .saveComplete s = .next s.saveComplete := rfl
    refine ⟨fun hnone => by rw [hexec, State.saveComplete, hnone], fun v u t hv hu ht => ?_⟩
    have hdone : exec .saveComplete s = .next (
        if !v.sag then t.graniteReset (Cause.softSave ||| s.power.defer) (bits s.power.defer 1 1 == 1)
        else if s.power.defer ≠ 0 then t.graniteReset s.power.defer (bits s.power.defer 1 1 == 1)
        else if t.flag P.pwr F.PWR_STATUS_SAG then t
        else t.graniteReset Cause.resume false) := by
      rw [hexec, State.saveComplete, hv]
      dsimp only
      rw [← hu, State.astore_now, ← ht, State.setb_power, State.wr_power, State.astore_power, hu, State.astore_power, State.astore_power, State.astore_power]
    rw [hdone]
    refine ⟨fun hno => by rw [if_pos (by simp [hno])], fun hsag hd => ?_, fun hsag hd hst => ?_, fun hsag hd hst => ?_⟩
    · rw [if_neg (by simp [hsag]), if_pos hd]
    · rw [if_neg (by simp [hsag]), if_neg (not_not.mpr hd), if_pos hst]
    · rw [if_neg (by simp [hsag]), if_neg (not_not.mpr hd), if_neg (ne_true_of_eq_false hst)]

end Sys2Proof.Machine
end

section
/-! SUPPORT. Safety channels and safe communication (O47). -/
namespace Sys2Proof.Machine
open Sys2Proof

/-- A cycle mark after the first: its tick and count are taken and shown. -/
def State.noteMark (s : State) (count : BitVec 16) : State :=
  (s.setSafety fun x => { x with mark := some s.now, cnt := count.toNat }).setf P.clk F.CLK_FLINT_CYC_CYC count.toNat

theorem exec_cycleMark_due {s : State} {count : BitVec 16} {t : Nat} (hmark : s.safety.mark = some t) (hdue : t + 156250 ≤ s.now) :
    exec (.cycleMark count) s = .next (
      if !s.safeCfg.en then s.noteMark count
      else
        let u := if 19600 ≤ count.toNat ∧ count.toNat ≤ 20400 then s.noteMark count else (s.noteMark count).faultClock
        let w := u.latchDsc.both fun f t => t.channelCycle f
        (if w.safety.b.run then w.openTests else w).safeAct) := by
  have hexec : exec (.cycleMark count) s = execCycleMark count s := rfl
  have hcnt : (s.noteMark count).safety.cnt = count.toNat := by simp [State.noteMark, State.setSafety]
  have hen : (s.noteMark count).safeCfg.en = s.safeCfg.en := by simp [State.noteMark, State.safeCfg, State.setSafety]
  have hnote : (s.setSafety fun x => { x with mark := some s.now, cnt := count.toNat }).setf P.clk F.CLK_FLINT_CYC_CYC count.toNat = s.noteMark count := rfl
  rw [hexec, execCycleMark, hmark, ← hen]
  simp only [decide_eq_true hdue, Option.isNone_some, Bool.not_true, Bool.false_eq_true, if_false, hnote, hcnt]

/-- A message is due where its period has passed since the last, or none was sent. -/
theorem exec_dscConnectSend {c : Fin 32} {k : ConnCfg} {s : State} (hk : s.connOf c = some k) (hon : s.dscOn = true) (hrun : (s.dscOf c).run = false)
    (hdue : ∀ t, (s.dscOf c).connAt = some t → t + k.periodT ≤ s.now) :
    exec (.dscConnectSend c) s = .next (((s.dscSend c k 1 (bytesOf 16 (2 + 256 * 1))).setDsc c fun x =>
      { x with connAt := some s.now, expd := false }).showDsc c) := by
  have hexec : exec (.dscConnectSend c) s = execDscConnectSend c s := rfl
  rw [hexec, execDscConnectSend, hk]
  refine congrArg Host.Outcome.next (if_pos ⟨hon, by simp [hrun], ?_⟩)
  cases hat : (s.dscOf c).connAt with
  | none => rfl
  | some t => exact decide_eq_true (hdue t hat)

theorem exec_dscDataSend {c : Fin 32} {k : ConnCfg} {s : State} (hk : s.connOf c = some k) (hon : s.dscOn = true)
    (hrun : (s.dscOf c).run = true ∨ (s.dscOf c).conn = true)
    (hdue : ∀ t, (s.dscOf c).sentAt = some t → t + k.periodT ≤ s.now ∨ s.dscOut k ≠ (s.dscOf c).outs) :
    exec (.dscDataSend c) s = .next ((s.dscSend c k 2 (bytesOf 16 (s.dscOut k))).setDsc c fun x =>
      { x with sentAt := some s.now, outs := s.dscOut k }) := by
  have hexec : exec (.dscDataSend c) s = execDscDataSend c s := rfl
  rw [hexec, execDscDataSend, hk]
  refine congrArg Host.Outcome.next (if_pos ⟨hon, hrun, ?_⟩)
  cases hat : (s.dscOf c).sentAt with
  | none => rfl
  | some t =>
    rcases hdue t hat with h | h
    · simp [h]
    · simp [bne_iff_ne.mpr h]

/-- Settles O47: each command by the branch of its definition that the clause's hypotheses choose. -/
theorem safetyCommands : Obligations.SafetyCommands := by
  unfold Obligations.SafetyCommands
  refine ⟨?lockstepMismatch, fun s => rfl, ?markMissing, ?sidebandFrameAtFlint, ?cycleMark, ?recordA, ?recordB, ?recordDeadline, ?pairDiscrepancy,
    ?ss1TExpiry, ?sbcDlyExpiry, fun v s => rfl, ?safeBrkReqWrite, ?dscDataSend, ?dscConnectSend, ?dscReceive, ?dscExpiry, ?tpcWindowExpiry⟩
  case lockstepMismatch =>
    exact fun s => ⟨fun h => congrArg Host.Outcome.next (if_pos h), fun h => congrArg Host.Outcome.next (if_neg (ne_true_of_eq_false h))⟩
  case markMissing =>
    intro t s hmark
    have hexec : exec .markMissing s = execMarkMissing s := rfl
    rw [hexec, execMarkMissing, hmark]
    refine ⟨fun hen hlate => congrArg Host.Outcome.next (if_pos ⟨hen, hlate⟩), fun h => congrArg Host.Outcome.next (if_neg ?_)⟩
    rintro ⟨hen, hlate⟩
    rcases h with h | h
    · exact ne_true_of_eq_false h hen
    · omega
  case sidebandFrameAtFlint =>
    rintro i rx q last s u rfl rfl rfl
    refine ⟨fun hbad => congrArg Host.Outcome.next (if_neg (ne_true_of_eq_false hbad)), fun hgood hoff => ?_, fun hgood hen hrun => ?_⟩
    · refine congrArg Host.Outcome.next ((if_pos hgood).trans (if_neg ?_))
      rintro ⟨hen, hrun⟩
      rcases hoff with h | h
      · exact ne_true_of_eq_false h hen
      · exact ne_true_of_eq_false h hrun
    · exact congrArg Host.Outcome.next ((if_pos hgood).trans (if_pos ⟨hen, hrun⟩))
  case cycleMark =>
    intro count s
    refine ⟨fun t hmark hearly => ?_, fun t hmark hdue hen => ?_, fun t u hmark hdue hen hlo hhi hu => ?_⟩
    · have hexec : exec (.cycleMark count) s = execCycleMark count s := rfl
      rw [hexec, execCycleMark, hmark]
      exact congrArg Host.Outcome.next (if_pos (by simp [hearly]))
    · rw [exec_cycleMark_due hmark hdue, if_pos (by simp [hen])]
      rfl
    · have hcycle : u = (s.noteMark count).latchDsc.both fun f t => t.channelCycle f :=
        hu.trans (by simp only [State.both, State.noteMark])
      rw [exec_cycleMark_due hmark hdue, if_neg (by simp [hen]), if_pos ⟨hlo, hhi⟩, hcycle]
  case recordA =>
    intro s
    refine ⟨fun hen ha hb hw => congrArg Host.Outcome.next (if_pos ⟨hen, ha, hb, hw⟩), fun h => congrArg Host.Outcome.next (if_neg ?_)⟩
    rintro ⟨hen, ha, hb, hw⟩
    rcases h with h | h | h | h <;> simp [h] at hen ha hb hw
  case recordB =>
    intro s
    refine ⟨fun hen ha hb hw hd => congrArg Host.Outcome.next (if_pos ⟨hen, ha, hb, hw, congrArg not hd⟩),
      fun h => congrArg Host.Outcome.next (if_neg ?_)⟩
    rintro ⟨hen, ha, hb, hw, hd⟩
    rcases h with h | h | h <;> simp [h] at hen hw hd
  case recordDeadline =>
    intro f t s hmark hen hrun hwait
    have hexec : exec (.recordDeadline f) s = execRecordDeadline f s := rfl
    rw [hexec, execRecordDeadline, hmark]
    exact ⟨fun hlate => congrArg Host.Outcome.next (if_pos ⟨hen, hrun, hwait, hlate⟩),
      fun hearly => congrArg Host.Outcome.next (if_neg fun h => Nat.not_le.mpr hearly h.2.2.2)⟩
  case pairDiscrepancy =>
    intro f n p t s hp ht hen hrun
    have hexec : exec (.pairDiscrepancy f n) s = execPairDiscrepancy f n s := rfl
    rw [hexec, execPairDiscrepancy, hp, ht]
    refine ⟨fun hflt hlate => congrArg Host.Outcome.next (if_pos ⟨hen, hrun, congrArg not hflt, hlate⟩), fun h => congrArg Host.Outcome.next (if_neg ?_)⟩
    rintro ⟨-, -, hflt, hlate⟩
    rcases h with h | h
    · simp [h] at hflt
    · omega
  case ss1TExpiry =>
    exact fun z s => ⟨fun h => congrArg Host.Outcome.next (if_neg (ne_true_of_eq_false h)), fun h => congrArg Host.Outcome.next (if_pos h)⟩
  case sbcDlyExpiry =>
    intro k r z hit s hr hz hen hkind hhit
    have hexec : exec (.sbcDlyExpiry k) s = execSbcDlyExpiry k s := rfl
    rw [hexec, execSbcDlyExpiry, hr]
    simp only [hz, hen, hkind, and_self, if_true, hhit]
  case safeBrkReqWrite =>
    rintro q hi v s a m rfl rfl
    rfl
  case dscDataSend =>
    intro c k s hk
    refine ⟨exec_dscDataSend hk, fun h => ?_⟩
    have hexec : exec (.dscDataSend c) s = execDscDataSend c s := rfl
    rw [hexec, execDscDataSend, hk]
    refine congrArg Host.Outcome.next (if_neg ?_)
    rintro ⟨hon, hrun, -⟩
    rcases h with h | ⟨h1, h2⟩
    · exact ne_true_of_eq_false h hon
    · exact hrun.elim (ne_true_of_eq_false h1) (ne_true_of_eq_false h2)
  case dscConnectSend =>
    intro c k s hk
    refine ⟨exec_dscConnectSend hk, fun h => ?_⟩
    have hexec : exec (.dscConnectSend c) s = execDscConnectSend c s := rfl
    rw [hexec, execDscConnectSend, hk]
    refine congrArg Host.Outcome.next (if_neg ?_)
    rintro ⟨hon, hrun, -⟩
    rcases h with h | h
    · exact ne_true_of_eq_false h hon
    · simp [h] at hrun
  case dscReceive =>
    intro p body s
    have hexec (hon : s.dscOn = true) : exec (.dscReceive p body) s = .next (s.dscReceive p body) := congrArg Host.Outcome.next (if_pos hon)
    refine ⟨fun h => congrArg Host.Outcome.next (if_neg (ne_true_of_eq_false h)), fun hon hnone => ?_,
      fun c k hon hlen hname hk hadm hside hseq hcrc => ?_, fun c k hon hlen hname hk hadm hside hcrc htpc => ?_⟩
    · rw [hexec hon, State.dscReceive, hnone]
      exact congrArg Host.Outcome.next (ite_self _)
    · rw [hexec hon, State.dscReceive, hname]
      simp only [Option.map_some, Option.getD_some, hlen, hadm, hk, if_neg hside, hseq, ne_eq, not_true, Bool.not_true, Bool.false_eq_true, or_self,
        if_false, hcrc, not_false_eq_true, and_self, if_true, State.dscReject]
    · rw [hexec hon, State.dscReceive, hname]
      simp only [Option.map_some, Option.getD_some, hlen, hadm, hk, if_neg hside, hcrc, ne_eq, not_true, Bool.not_true, Bool.false_eq_true, or_self,
        if_false, and_false, State.dscTpc, htpc, Bool.not_false, if_true]
  case dscExpiry =>
    intro c k s hk hon hrun
    have hexec : exec (.dscExpiry c) s = execDscExpiry c s := rfl
    rw [hexec, execDscExpiry, hk]
    refine ⟨fun h => congrArg Host.Outcome.next (if_pos ⟨hon, hrun, h⟩), fun hdata hecho => congrArg Host.Outcome.next (if_neg ?_)⟩
    rintro ⟨-, -, h⟩
    omega
  case tpcWindowExpiry =>
    intro c k h s hk hhold
    have hexec : exec (.tpcWindowExpiry c) s = execTpcWindowExpiry c s := rfl
    rw [hexec, execTpcWindowExpiry, hk, hhold]
    exact ⟨fun hlate => congrArg Host.Outcome.next (if_pos hlate), fun hearly => congrArg Host.Outcome.next (if_neg (Nat.not_le.mpr hearly))⟩

end Sys2Proof.Machine
end

section
/-! SUPPORT. Trunks and tooth units (O35). -/
namespace Sys2Proof.Machine
open Sys2Proof

/-- A time-defined trunk has a source on every device, and in every domain. -/
theorem State.srcAbsent_zero (s : State) (idx : Nat) : s.srcAbsent 0 idx = false := rfl

theorem State.srcForeign_zero (s : State) (k : Fin 8) (idx : Nat) : s.srcForeign k 0 idx = false := by
  simp [State.srcForeign]

/-- A write of TRK_CTRL that changes no source of an enabled trunk and flushes nothing. -/
theorem State.writeTrkCtrl_of_kept {s : State} {k : Fin 8} {v : Nat} {on : Bool} (h3 : bits v 2 2 ≠ 3)
    (hkeep : s.trkOn k = true → bits v 2 2 = s.trkSrc k ∧ bits v 8 6 = s.trkIdx k) (hnoflush : bits v 16 1 = 0)
    (hon : (v % 2 == 1 && !s.srcAbsent (bits v 2 2) (bits v 8 6) && !s.srcForeign k (bits v 2 2) (bits v 8 6)) = on) :
    s.writeTrkCtrl k v =
      let u := s.wr (P.trunk k + R.TRK_CTRL) (on.toNat + 4 * bits v 2 2 + 256 * bits v 8 6)
      if on = true ∧ (!s.trkOn k) = true then u.trkStart k else if s.trkOn k = true ∧ (!on) = true then u.trkValid k false else u := by
  have hsame : ¬ (bits v 2 2 = 3 ∨ (s.trkOn k = true ∧ (bits v 2 2 ≠ s.trkSrc k ∨ bits v 8 6 ≠ s.trkIdx k))) := by
    rintro (h | ⟨hen, hne⟩)
    · exact h3 h
    · obtain ⟨hs, hi⟩ := hkeep hen
      exact hne.elim (· hs) (· hi)
  rw [State.writeTrkCtrl]
  dsimp only
  rw [if_neg hsame, hon, if_neg (c := bits v 16 1 = 1) (by omega)]

/-- The level of an edge is the accepted one where its polarity bit is the other. -/
theorem beq_polarity {lvl : Bool} {p : Nat} : (lvl == (p == 1)) = true ↔ (p = 1 ↔ lvl = true) := by
  cases lvl <;> simp

/-- Settles O35: each command by the branch of its definition that the clause's hypotheses choose. -/
theorem trunksAndTeeth : Obligations.TrunksAndTeeth := by
  unfold Obligations.TrunksAndTeeth
  refine ⟨?trkSegPush, ?trkEnable, fun k s => rfl, ?trkPosRead, ?toothInputEdge, ?virtualTooth, ?toothStill, ?toothEnable,
    fun t s hon => congrArg Host.Outcome.next (if_pos hon), ?toothPosRead⟩
  case trkSegPush =>
    intro k s g hg
    have hexec : exec (.trkSegPush k) s = .next (s.pushSeg k) := rfl
    rw [hexec, State.pushSeg]
    refine ⟨fun hfull => ?_, fun q hroom hq hord => ?_, fun hq ha hlate => ?_, fun hq ha hearly hdur => ?_, fun hroom hord hearly hdur => ?_⟩
    · simp only [ge_iff_le, if_pos hfull]
    · simp only [ge_iff_le, ← hg, if_neg (Nat.not_le.mpr hroom), hq, hord, Bool.not_false, if_true]
    · simp only [ge_iff_le, ← hg, hq, ha, List.getLast?_nil, List.length_nil, if_pos hlate, Nat.not_le.mpr (Nat.succ_pos 15), if_false,
        Bool.false_eq_true]
    · simp only [ge_iff_le, ← hg, hq, ha, List.getLast?_nil, List.length_nil, if_neg (Int.not_le.mpr hearly), if_pos hdur,
        Nat.not_le.mpr (Nat.succ_pos 15), if_false, Bool.false_eq_true]
    · cases hq : (s.trunk k).queue.getLast? with
      | some q =>
        have hlater : laterNs g.t q.t = true := hord q (by rw [hq]; rfl)
        simp only [ge_iff_le, ← hg, if_neg (Nat.not_le.mpr hroom), hlater, Bool.not_true, Bool.false_eq_true, if_false,
          if_neg (Int.not_le.mpr hearly), if_neg hdur]
      | none =>
        cases ha : (s.trunk k).active with
        | some q =>
          have hlater : laterNs g.t q.t = true := hord q (by rw [hq, ha]; rfl)
          simp only [ge_iff_le, ← hg, if_neg (Nat.not_le.mpr hroom), hlater, Bool.not_true, Bool.false_eq_true, if_false,
            if_neg (Int.not_le.mpr hearly), if_neg hdur]
        | none =>
          simp only [ge_iff_le, ← hg, if_neg (Nat.not_le.mpr hroom), Bool.false_eq_true, if_false, if_neg (Int.not_le.mpr hearly), if_neg hdur]
  case trkEnable =>
    intro k v s
    have hexec : exec (.trkEnable k v) s = .next (s.writeTrkCtrl k v.toNat) := rfl
    refine ⟨fun h3 => congrArg Host.Outcome.next (if_pos (Or.inl h3)), fun hen hne => congrArg Host.Outcome.next (if_pos (Or.inr ⟨hen, hne⟩)),
      fun hoff hv hsrc hfl => ?_, fun hen hv hsrc hidx h3 hfl => ?_, fun hoff habs h3 hfl => ?_⟩
    · have hon : (v.toNat % 2 == 1 && !s.srcAbsent (bits v.toNat 2 2) (bits v.toNat 8 6) && !s.srcForeign k (bits v.toNat 2 2) (bits v.toNat 8 6)) =
          true := by rw [hsrc, State.srcAbsent_zero, State.srcForeign_zero, hv]; rfl
      rw [hexec, State.writeTrkCtrl_of_kept (by rw [hsrc]; decide) (fun h => absurd h (ne_true_of_eq_false hoff)) hfl hon, hsrc, hoff]
      rfl
    · have hoff : (v.toNat % 2 == 1 && !s.srcAbsent (bits v.toNat 2 2) (bits v.toNat 8 6) && !s.srcForeign k (bits v.toNat 2 2) (bits v.toNat 8 6)) =
          false := by rw [hv]; rfl
      rw [hexec, State.writeTrkCtrl_of_kept h3 (fun _ => ⟨hsrc, hidx⟩) hfl hoff, hsrc, hidx, hen]
      simp
    · have hoff' : (v.toNat % 2 == 1 && !s.srcAbsent (bits v.toNat 2 2) (bits v.toNat 8 6) && !s.srcForeign k (bits v.toNat 2 2) (bits v.toNat 8 6)) =
          false := by rw [habs, Bool.not_true, Bool.and_false, Bool.false_and]
      rw [hexec, State.writeTrkCtrl_of_kept h3 (fun h => absurd h (ne_true_of_eq_false hoff)) hfl hoff', hoff]
      simp
  case trkPosRead =>
    rintro q k s u x v rfl rfl rfl
    rfl
  case toothInputEdge =>
    rintro i j lvl t0 acc s rfl
    refine ⟨fun hp hacc hpol => ?_, fun h => ?_⟩
    · refine congrArg Host.Outcome.next (if_neg ?_)
      have hne : ¬ (bits (s.slate i).auxPol j 1 = 1 ↔ lvl = true) := by cases lvl <;> simp_all
      rw [hp, decide_eq_false (Nat.not_lt.mpr hacc), Bool.not_true, Bool.or_self, Bool.false_or, beq_polarity]
      exact hne
    · refine congrArg Host.Outcome.next (if_pos ?_)
      rcases h with h | h | h
      · simp [h]
      · rw [decide_eq_true h, Bool.or_true, Bool.true_or]
      · rw [beq_polarity.mpr h, Bool.or_true]
  case virtualTooth =>
    intro t l e s hon hlate hl he
    have hexec : exec (.virtualTooth t) s = .next ((s.toothVirtual t).toothShow t) :=
      congrArg Host.Outcome.next (if_pos (by rw [hon, hlate]; rfl))
    rw [hexec, State.toothVirtual, hl, he]
    refine ⟨fun hlost => ?_, fun hgo hnoref => ?_⟩
    · simp only [ge_iff_le, if_pos hlost]
    · simp only [ge_iff_le, if_neg (Nat.not_le.mpr hgo), hnoref, Bool.false_and, Bool.false_eq_true, if_false, Nat.one_mul]
  case toothStill =>
    intro t l s hon hl
    have hexec : exec (.toothStill t) s = execToothStill t s := rfl
    rw [hexec, execToothStill, hl]
    refine ⟨fun hlate => congrArg Host.Outcome.next (if_pos ?_), fun hearly => congrArg Host.Outcome.next (if_neg ?_)⟩
    · rw [hon, decide_eq_true hlate]
      rfl
    · rw [hon, decide_eq_false (Nat.not_lt.mpr hearly)]
      decide
  case toothEnable =>
    intro t v i s u hi hu
    have hexec : exec (.toothEnable t v) s = .next (s.writeToothCtrl t v.toNat) := rfl
    rw [hexec, State.writeToothCtrl]
    simp only [hi, ← hu]
    refine ⟨fun hwas hv => ?_, fun hwas hv => ?_, fun hwas hv => ?_, fun hwas hv hre => ?_⟩
    · rw [if_pos hv, if_pos hwas]
    · rw [if_pos hv, if_neg (ne_true_of_eq_false hwas)]
    · rw [if_neg (by omega), if_pos (by simp [hwas])]
    · rw [if_neg (by omega), if_neg (by simp [hwas]), if_neg (by omega)]
  case toothPosRead =>
    rintro q t s k rfl
    rfl

end Sys2Proof.Machine
end

section
/-! SUPPORT. Motion profiles (O36). -/
namespace Sys2Proof.Machine
open Sys2Proof

/-! The generator of an axis after the operations on the state. -/

theorem State.prf_eq_of_axes {s t : State} (h : t.axes = s.axes) (a : Fin 64) : t.prf a = s.prf a := by
  rw [State.prf, State.prf, State.axis, State.axis, h]

theorem State.prf_setPrf_same (s : State) (a : Fin 64) (f : Profile → Profile) : (s.setPrf a f).prf a = f (s.prf a) := by
  simp [State.prf, State.setPrf, State.axis, State.setAxis]

theorem State.prf_wr (s : State) (a : Fin 64) (b v : Nat) : (s.wr b v).prf a = s.prf a := rfl

theorem State.prf_prfShow (s : State) (a : Fin 64) : (s.prfShow a).prf a = s.prf a := by
  refine State.prf_eq_of_axes ?_ a
  simp [State.prfShow]

/-- A read of registers does not see the generators. -/
theorem State.rd_setPrf (s : State) (a : Fin 64) (f : Profile → Profile) (b : Nat) : (s.setPrf a f).rd b = s.rd b := rfl

/-- RUN and EN as the generator last saw them change nothing. -/
theorem State.prfGate_of_same {s : State} {a : Fin 64} (h : s.prfOn a = (s.prf a).on) : s.prfGate a = s := if_pos h

/-- With no command bit set, the commands taken leave PRF_CMD at 0. -/
theorem State.takeCmd_none {s : State} {a : Fin 64} (h : s.rd (P.profile a + R.PRF_CMD) = 0) (sp : SetPoint) (ref : Int) :
    s.takeCmd a sp ref = s.wr (P.profile a + R.PRF_CMD) 0 := by
  rw [State.takeCmd, h]
  rfl

/-- An idle axis holds its position. -/
theorem State.prfMotion_idle {s : State} {a : Fin 64} (h : (s.prf a).st = .idle) (ref : Int) (per : Nat) :
    s.prfMotion a ref per = (s, { (s.prf a).cur with v := 0, a := 0 }) := by
  rw [State.prfMotion]
  simp only [h]

/-- The set-point of an idle axis without a command: the state up to what the registers show. -/
theorem State.prfComputeAt_idle {s u : State} {a : Fin 64} {ref : Int} (hsame : s.prfOn a = (s.prf a).on) (hon : (s.prf a).on = true)
    (hnx : (s.prf a).nx = none) (hidle : (s.prf a).st = .idle) (hstop : (s.prf a).stopAsk = none) (hcmd : s.rd (P.profile a + R.PRF_CMD) = 0)
    (hu : u = (s.setPrf a fun p => { p with ref := ref }).wr (P.profile a + R.PRF_CMD) 0) :
    s.prfComputeAt a ref = (u.setPrf a fun p => { p with
      nx := some { (s.prf a).sp with v := 0, a := 0, ilim := u.ilimSp a (u.ilimStep a) }, ramp := u.ilimStep a }).prfShow a := by
  have hst : ((s.setPrf a fun p => { p with ref := ref }).prf a).st = .idle := by rw [State.prf_setPrf_same, hidle]
  have hcur : ((s.setPrf a fun p => { p with ref := ref }).prf a).cur = (s.prf a).sp := by
    rw [State.prf_setPrf_same, Profile.cur, hnx]
    rfl
  have hask : ((s.setPrf a fun p => { p with ref := ref }).prf a).stopAsk = none := by rw [State.prf_setPrf_same, hstop]
  have htake (sp : SetPoint) : (s.setPrf a fun p => { p with ref := ref }).takeCmd a sp ref = u := by
    rw [hu, State.takeCmd_none (by rw [State.rd_setPrf, hcmd])]
  rw [State.prfComputeAt, State.prfGate_of_same hsame, if_neg (by simp [hon, hnx])]
  simp only [State.prfMotion_idle hst, hcur, hask, htake]

/-- Settles O36: each command by its definition; the order of the command bits by the branches of their taking. -/
theorem profileCommands : Obligations.ProfileCommands := by
  unfold Obligations.ProfileCommands
  refine ⟨?setpointCompute, fun a s => rfl, fun a s => rfl, fun a s => rfl, fun a s => rfl, fun a s => rfl, ?prfSpRead, ?brOfsNowRead, ?law, ?move⟩
  case setpointCompute =>
    intro a s
    refine ⟨fun h => congrArg Host.Outcome.next (if_pos h), fun hps hrun hon hnx hidle hstop hcmd => ?_⟩
    have hstate := State.prfComputeAt_idle (ref := s.refInstant a) (hrun.trans hon.symm) hon hnx hidle hstop hcmd rfl
    refine ⟨s.prfComputeAt a (s.refInstant a), congrArg Host.Outcome.next (if_neg hps), ?_⟩
    beta_reduce
    rw [hstate, State.prf_prfShow, State.prf_setPrf_same, State.prf_wr, State.prf_setPrf_same]
    exact ⟨hidle, rfl, rfl⟩
  case prfSpRead | brOfsNowRead =>
    rintro q a s x rfl
    rfl
  case law =>
    rintro a s sp ref c u rfl rfl
    simp only [testBit_eq_bits, decide_eq_true_eq, decide_eq_false_iff_not]
    refine ⟨fun h3 => ?_, fun h3 h4 => ?_, fun h3 h4 h2 => ?_, fun h3 h4 h2 h1 => ?_, fun h3 h4 h2 h1 h0 => ?_⟩
    · rw [State.takeCmd, if_pos h3]
    · rw [State.takeCmd, if_neg h3, if_pos h4]
    · rw [State.takeCmd, if_neg h3, if_neg h4, if_pos h2]
    · rw [State.takeCmd, if_neg h3, if_neg h4, if_neg h2, if_pos h1]
    · rw [State.takeCmd, if_neg h3, if_neg h4, if_neg h2, if_neg h1, if_pos h0]
  case move =>
    intro a s sp hlim hst hgrp hpath
    have hok : s.moveRej a (s.prfLim a).toList false = 0 := by
      simp only [State.moveRej, hlim, hst, hgrp, Bool.false_and, Bool.not_false, Bool.true_and, Bool.false_eq_true, if_false,
        beq_eq_false_iff_ne.mpr hpath]
    rw [State.cmdMove]
    dsimp only
    rw [hok, if_neg (not_not.mpr rfl)]

end Sys2Proof.Machine
end

section
/-! SUPPORT. PWM generators, trip logic and the chopper (O16). -/
namespace Sys2Proof.Machine
open Sys2Proof

/-! Operations that leave the Slate's own state. -/

/-- A pass over a list whose steps leave a state ends in it. -/
theorem forEach_of_fixed {α : Type} (l : List α) (s : State) (f : α → State → State) (h : ∀ x, f x s = s) : forEach l s f = s := by
  induction l with
  | nil => rfl
  | cons x l ih => exact (congrArg (forEach l · f) (h x)).trans ih

theorem forEach_slate {α : Type} (l : List α) (s : State) (f : α → State → State) (i : Fin 8) (h : ∀ x t, (f x t).slate i = t.slate i) :
    (forEach l s f).slate i = s.slate i :=
  forEach_keeps (P := fun t => t.slate i = s.slate i) l s f rfl fun x t ht => (h x t).trans ht

theorem State.slate_setPwm (s : State) (a : Fin 64) (f : PwmAxis → PwmAxis) (i : Fin 8) : (s.setPwm a f).slate i = s.slate i := rfl

theorem State.slate_setb (s : State) (p : Nat) (f : Fld) (b : Bool) (i : Fin 8) : (s.setb p f b).slate i = s.slate i := rfl

theorem State.slate_setf (s : State) (p : Nat) (f : Fld) (v : Nat) (i : Fin 8) : (s.setf p f v).slate i = s.slate i := rfl

theorem State.slate_wr (s : State) (a v : Nat) (i : Fin 8) : (s.wr a v).slate i = s.slate i := rfl

theorem State.stick_setb (s : State) (p : Nat) (f : Fld) (b : Bool) (i : Fin 8) : (s.setb p f b).stick i = s.stick i := rfl

theorem State.stick_setf (s : State) (p : Nat) (f : Fld) (v : Nat) (i : Fin 8) : (s.setf p f v).stick i = s.stick i := rfl

/-- The chopper's output has no axis and no other switch. -/
theorem State.gateOff_chop (s : State) (i : Fin 8) (tap : Nat) : s.gateOff i 48 tap =
    if (s.out i 48).cmd then s.setOut i 48 fun o => { o with cmd := false, ph := .off, offTap := tap, desat := none } else s := by
  have haxis : outAxis i 48 = none := rfl
  unfold State.gateOff
  simp only [haxis]
  cases (s.out i 48).cmd <;> rfl

theorem State.chop_setOut (s : State) (i : Fin 8) (k : Fin 49) (f : GateOut → GateOut) : ((s.setOut i k f).slate i).chop = (s.slate i).chop := by
  rw [State.setOut, State.slate_setSlate]

theorem State.chop_gateOff_chop (s : State) (i : Fin 8) (tap : Nat) : ((s.gateOff i 48 tap).slate i).chop = (s.slate i).chop := by
  rw [State.gateOff_chop]
  split
  · exact State.chop_setOut _ _ _ _
  · rfl

theorem State.slate_markPair (s : State) (i : Fin 8) (k : Nat) (j : Fin 8) : (s.markPair i k).slate j = s.slate j := by
  unfold State.markPair
  split <;> rfl

theorem State.chopMode_off {s : State} {i : Fin 8} (h : s.fld (P.chop i) F.CHOP_CTRL_MODE = 0) : s.chopMode i = 0 := by
  simp [State.chopMode, h]

/-- A carrier apply that waits for the next carrier edge. -/
def State.applyAwaits (s : State) (i : Fin 8) : State :=
  (((s.wr (P.carrier i + R.CARRIER_APPLY) (setBits (s.rd (P.carrier i + R.CARRIER_APPLY)) 1 1 (1 / 2))).setb (P.carrier i) F.CARRIER_APPLY_GO true).setb
    (P.carrier i) F.CARRIER_STATUS_APPLY_PEND true).setSlate i fun x => { x with car := { x.car with pend := some none } }

/-- A pair after a visit: the idle twin's trim has moved by at most one code, and the lines have changed roles. -/
def DelayPair.swapped (p : DelayPair) (delta : Int) : DelayPair :=
  if p.twin then { p with twin := false, trimA := p.trimA + clampI (-1) 1 delta } else { p with twin := true, trimB := p.trimB + clampI (-1) 1 delta }

def State.swapLine (s : State) (i : Fin 8) (k : Fin 49) (delta : Int) : State :=
  s.setSlate i fun x => { x with dl := x.dl.set k (x.dl[k].swapped delta) }

theorem State.dl_swapLine (s : State) (i : Fin 8) (k : Fin 49) (delta : Int) :
    ((s.swapLine i k delta).slate i).dl[k] = ((s.slate i).dl[k]).swapped delta := by
  rw [State.swapLine, State.slate_setSlate]
  simp

theorem DelayPair.twin_swapped (p : DelayPair) (delta : Int) : (p.swapped delta).twin = !p.twin := by
  unfold DelayPair.swapped
  split <;> simp [*]

theorem DelayPair.trims_swapped (p : DelayPair) (delta : Int) (h : p.twin = true) :
    (p.swapped delta).trimB = p.trimB ∧ (p.swapped delta).trimA = p.trimA + clampI (-1) 1 delta := by
  rw [DelayPair.swapped, if_pos h]
  exact ⟨rfl, rfl⟩

/-- Settles O16: each command by the branch of its definition that the clause's hypotheses choose. -/
theorem pwmCommands : Obligations.PwmCommands := by
  unfold Obligations.PwmCommands
  refine ⟨?carrierRun, ?carrierApplyGo, ?carrierEdge, ?axisEdge, ?updateInstant, ?prechargeEnd, ?tripQualify, ?tripLatchClear, ?pwmEn,
    ?pwmPhaseWrite, ?pwmEdge, ?delayLineSwap, ?calDone, ?chopPeriodStart, ?chopTrip⟩
  case carrierRun =>
    intro i v s
    have hexec : exec (.carrierRun i v) s = .next (s.writeCarrierCtrl i v.toNat) := rfl
    refine ⟨?_, ?_⟩
    · rintro rfl hwas
      have hrun : bits (1 : BitVec 2).toNat 0 1 = 1 := by decide
      have hnow : ¬ bits (1 : BitVec 2).toNat 1 1 = 1 := by decide
      rw [hexec, State.writeCarrierCtrl]
      simp only [hwas, hrun, hnow, if_false, Bool.not_false, and_self, if_true]
      rfl
    · rintro rfl hwas hpend
      have hrun : ¬ bits (0 : BitVec 2).toNat 0 1 = 1 := by decide
      have hslate (l : List (Fin 64)) (t : State) (f : PwmAxis → PwmAxis) : (forEach l t fun a u => u.setPwm a f).slate i = t.slate i :=
        forEach_slate l t _ i fun a u => u.slate_setPwm a f i
      rw [hexec, State.writeCarrierCtrl]
      simp only [hwas, hrun, hslate, State.slate_setb, State.slate_wr, hpend, Option.isSome_none, Bool.not_true, Bool.not_false, Bool.false_eq_true,
        if_false, and_self, if_true, decide_false]
      rfl
  case carrierApplyGo =>
    intro i s
    have hexec : exec (.carrierApplyGo i 1) s = .next (s.writeCarrierApply i 1) := rfl
    have hrun' : (s.wr (P.carrier i + R.CARRIER_APPLY) (setBits (s.rd (P.carrier i + R.CARRIER_APPLY)) 1 1 (1 / 2))).carRun i = s.carRun i :=
      State.flag_wr_other _ _ _ _ _ (by simp)
    refine ⟨fun hoff => ?_, fun hon => ?_⟩
    · rw [hexec, State.writeCarrierApply, if_neg (by decide)]
      exact congrArg Host.Outcome.next (if_pos (by rw [hrun', hoff]; rfl))
    · refine ⟨s.applyAwaits i, ?_, ?_, ?_⟩
      · have hat : ¬ bits 1 1 1 = 1 := by decide
        rw [hexec, State.writeCarrierApply, if_neg (by decide)]
        dsimp only
        rw [hrun', hon, if_neg (by decide)]
        simp only [hat, decide_false, Bool.false_and, Bool.false_eq_true, if_false, State.when_false, State.applyAwaits]
      · rw [State.applyAwaits, State.slate_setSlate]
      · rw [State.applyAwaits, State.flag, State.setSlate_fld]
        exact State.flag_setb_same _ _ _ _ (by decide) rfl
  case carrierEdge =>
    intro i s hrun hdue hpend
    have hexec : exec (.carrierEdge i) s = .next (s.carrierEdge i) := rfl
    rw [hexec, State.carrierEdge]
    simp only [hrun, hdue, hpend, Bool.and_self, if_true, Bool.false_eq_true, if_false]
  case axisEdge =>
    intro a s tap p hnext hdue
    have hexec : exec (.axisEdge a) s = .next (s.axisEdge a) := rfl
    rw [hexec, State.axisEdge, hnext]
    exact congrArg Host.Outcome.next (if_neg (by simp [hdue]))
  case updateInstant =>
    intro a s
    refine ⟨fun hedge => congrArg Host.Outcome.next (if_pos hedge), fun hedge hcentre hdbl hdue => ?_⟩
    exact congrArg Host.Outcome.next ((if_neg (ne_true_of_eq_false hedge)).trans (if_pos (by rw [hcentre, hdbl, hdue]; rfl)))
  case prechargeEnd =>
    intro a s u hboot hdue
    have hexec : exec (.prechargeEnd a) s = execPrechargeEnd a s := rfl
    rw [hexec, execPrechargeEnd, hboot]
    exact congrArg Host.Outcome.next (if_pos (decide_eq_true hdue))
  case tripQualify =>
    intro a src s hsrc
    have hexec : exec (.tripQualify a src) s = .next (s.tripQualify a src) := rfl
    rw [hexec, State.tripQualify]
    simp only [if_neg hsrc]
  case tripLatchClear =>
    intro a s
    have hexec : exec (.tripLatchClear a) s = .next (s.clearLatch a) := rfl
    rw [hexec, State.clearLatch]
    refine ⟨fun hlatch hnone => ?_, fun hany => by rw [if_pos hany]⟩
    rw [if_neg (ne_true_of_eq_false hnone), State.dropLatch, if_pos hlatch]
    simp only [State.stick_setf, State.stick_setb]
  case pwmEn =>
    intro a v s
    have hexec : exec (.pwmEn a v) s = .next (s.writePwmCtrl a v.toNat) := rfl
    refine ⟨fun hv hoff => ?_, fun hv => ?_⟩
    · have hphase : (s.wr (P.pwm a + R.PWM_CTRL) (v.toNat &&& 0x73)).rd (P.pwm a + R.PWM_PHASE) = s.rd (P.pwm a + R.PWM_PHASE) :=
        State.rd_wr_other _ _ _ _ (by simp)
      rw [hexec, State.writePwmCtrl, hv, hoff, State.armStart, if_pos (by decide), hphase]
    · rw [hexec, State.writePwmCtrl, hv, State.armStart, if_neg (by simp), if_pos (by decide)]
  case pwmPhaseWrite =>
    intro a v s
    have hexec : exec (.pwmPhaseWrite a v) s = .next (s.writePhase a v.toNat) := rfl
    rw [hexec, State.writePhase, Nat.mod_eq_of_lt v.isLt]
    exact ⟨fun hen => congrArg Host.Outcome.next (if_pos hen), fun hen => congrArg Host.Outcome.next (if_neg (ne_true_of_eq_false hen))⟩
  case pwmEdge =>
    intro a k low s hact htrip hheld href
    have hexec (e : EdgeKind) : exec (.pwmEdge (.axis a k) e low) s = .next (s.hbEdge a k e low) := rfl
    refine ⟨fun hlow hdue => ?_, fun hdue => ?_⟩
    · rw [hexec, State.hbEdge]
      simp only [hact, htrip, hheld, href, hlow, hdue, Bool.not_true, Bool.not_false, Bool.or_self, Bool.and_self, Bool.false_eq_true, if_false, if_true]
    · rw [hexec, State.hbEdge]
      simp only [hact, htrip, hheld, href, hdue, Bool.not_true, Bool.or_self, Bool.and_self, Bool.false_eq_true, if_false, if_true]
  case delayLineSwap =>
    intro i k delta bad s hfar
    refine ⟨if bad then (s.swapLine i k delta).markPair i k else s.swapLine i k delta,
      congrArg Host.Outcome.next (if_neg (ne_true_of_eq_false hfar)), ?_⟩
    beta_reduce
    rw [apply_ite (State.slate · i), State.slate_markPair, ite_self, State.dl_swapLine]
    exact ⟨DelayPair.twin_swapped _ _, DelayPair.trims_swapped _ _⟩
  case calDone =>
    intro i s hrun
    refine congrArg Host.Outcome.next ((if_pos hrun).trans (forEach_of_fixed _ _ _ fun k => if_neg ?_))
    simp
  case chopPeriodStart =>
    intro i s hdue hmode
    have hexec : exec (.chopPeriodStart i) s = execChopPeriodStart i s := rfl
    unfold Completes
    rw [hexec, execChopPeriodStart]
    simp only [gt_iff_lt, if_neg (Nat.not_lt.mpr hdue), State.chopMode_off hmode, chopDuty, OfNat.zero_ne_ofNat, zero_ne_one, if_false, Nat.zero_mul,
      Nat.zero_div, ne_eq, not_true, decide_false, Bool.false_and, Bool.false_eq_true]
    refine ⟨_, rfl, ?_⟩
    simp only [State.chop_gateOff_chop, State.slate_setSlate, State.slate_setb, State.slate_setf, and_self]
  case chopTrip =>
    intro i s hseen hen hnow
    have hexec : exec (.chopTrip i true) s = execChopTrip i true s := rfl
    rw [hexec, execChopTrip]
    simp only [hseen, hen, hnow, Bool.not_true, Bool.false_eq_true, if_false, if_true]

end Sys2Proof.Machine
end

section
/-! SUPPORT. Gate drivers, sampling and conversion (O19). -/
namespace Sys2Proof.Machine
open Sys2Proof

/-! What the steps of a conversion leave. -/

theorem State.pwm_setFb (s : State) (a : Fin 64) (f : FbPort → FbPort) : (s.setFb a f).pwm a = s.pwm a := by
  simp [State.pwm, State.axis, State.setFb, State.setAxis]

theorem State.pwm_setLink (s : State) (i : Fin 8) (f : LinkState → LinkState) (a : Fin 64) : (s.setLink i f).pwm a = s.pwm a := rfl

theorem State.fb_setPwm (s : State) (a : Fin 64) (f : PwmAxis → PwmAxis) : (s.setPwm a f).fb a = s.fb a := by
  simp [State.fb, State.axis, State.setPwm, State.setAxis]

theorem State.slate_setFb (s : State) (a : Fin 64) (f : FbPort → FbPort) (i : Fin 8) : (s.setFb a f).slate i = s.slate i := rfl

theorem State.link_setLink (s : State) (i : Fin 8) (f : LinkState → LinkState) : ((s.setLink i f).slate i).link = f (s.slate i).link := by
  rw [State.setLink, State.slate_setSlate]

theorem length_insertAged {α : Type} (ax : α → Nat) (t : Nat) (x : α) (l : List (Nat × α)) : (insertAged ax t x l).length = l.length + 1 := by
  induction l with
  | nil => rfl
  | cons y l ih =>
    obtain ⟨u, y⟩ := y
    rw [insertAged]
    split
    · rfl
    · rw [List.length_cons, ih, List.length_cons]

/-- A check of a code writes registers alone. -/
theorem State.slate_err (s : State) (p b : Nat) (j : Fin 8) : (s.err p b).slate j = s.slate j := rfl

theorem State.slate_inc (s : State) (p : Nat) (f : Fld) (j : Fin 8) : (s.inc p f).slate j = s.slate j := rfl

theorem State.slate_setbit (s : State) (p o b : Nat) (v : Bool) (j : Fin 8) : (s.setbit p o b v).slate j = s.slate j := rfl

theorem State.slate_rangeHit (s : State) (i : Fin 8) (e : Nat) (j : Fin 8) : (s.rangeHit i e).slate j = s.slate j := by
  rw [State.rangeHit, State.slate_err, State.slate_inc]

theorem State.slate_currentCheck (s : State) (a : Fin 64) (c : Int) (j : Fin 8) : (s.currentCheck a c).1.slate j = s.slate j := by
  unfold State.currentCheck
  dsimp only
  split
  · rw [State.slate_rangeHit, State.slate_setbit]
  · rfl

theorem State.slate_vbusCheck (s : State) (i : Fin 8) (v : Nat) (j : Fin 8) : (s.vbusCheck i v).1.slate j = s.slate j := by
  unfold State.vbusCheck
  dsimp only
  split_ifs <;> simp only [State.slate_rangeHit, State.slate_setb]

theorem State.slate_sumCheck (s : State) (a : Fin 64) (u v w : Int) (j : Fin 8) : (s.sumCheck a u v w).slate j = s.slate j := by
  unfold State.sumCheck
  dsimp only
  split
  · rw [State.slate_err, State.slate_setbit]
  · rfl

/-- A converted set joins the queue of its Slate, and the axis awaits no conversion. -/
theorem State.convert_effect (s : State) (a : Fin 64) (iu iv iw : Int) (vbus : Nat) :
    ((s.convert a iu iv iw vbus).pwm a).conv = false ∧
    ((s.convert a iu iv iw vbus).slate (slateOf a)).link.smpq.length = (s.slate (slateOf a)).link.smpq.length + 1 := by
  simp only [State.convert, State.pwm_setLink, State.pwm_setPwm, State.link_setLink, State.slate_setPwm, State.slate_setFb, State.slate_sumCheck,
    State.slate_vbusCheck, State.slate_currentCheck, length_insertAged, and_self]

/-! Passes over a list in which one element acts. -/

theorem forEach_of_absent {α : Type} {l : List α} {n : α} (f : α → State → State) (hn : n ∉ l) (h : ∀ m t, m ≠ n → f m t = t) (s : State) :
    forEach l s f = s := by
  induction l generalizing s with
  | nil => rfl
  | cons m l ih =>
    obtain ⟨hm, hrest⟩ := List.ne_and_not_mem_of_not_mem_cons hn
    exact (congrArg (forEach l · f) (h m s (Ne.symm hm))).trans (ih hrest s)

theorem forEach_of_one {α : Type} {l : List α} {n : α} (f : α → State → State) (hn : l.Nodup) (hmem : n ∈ l) (h : ∀ m t, m ≠ n → f m t = t)
    (s : State) : forEach l s f = f n s := by
  induction l generalizing s with
  | nil => cases hmem
  | cons m l ih =>
    obtain ⟨hnot, hrest⟩ := List.nodup_cons.mp hn
    by_cases hm : m = n
    · subst hm
      exact forEach_of_absent f hnot h (f m s)
    · exact (congrArg (forEach l · f) (h m s hm)).trans (ih hrest (List.mem_of_ne_of_mem (Ne.symm hm) hmem) s)

/-- GO bits of a mask with one bit set. -/
theorem bits_one_shift : ∀ n m : Fin 8, bits ((1 : BitVec 8) <<< n.val).toNat m 1 = if m = n then 1 else 0 := by
  decide

theorem State.rbit_setbit_same (s : State) (p o b : Nat) (v : Bool) (hb : b < 32) : (s.setbit p o b v).rbit p o b = v := by
  rw [State.rbit, State.setbit, State.rd_wr_same, bits_mod _ _ _ _ (by omega), bits_setBits_same]
  cases v <;> rfl

theorem State.rbit_setPwm (s : State) (a : Fin 64) (f : PwmAxis → PwmAxis) (p o b : Nat) : (s.setPwm a f).rbit p o b = s.rbit p o b := rfl

/-- The W1C bits of a write of ADC_CAL. -/
def State.clearCalRefused (s : State) (i : Fin 8) (v : Nat) : State :=
  s.setf (P.adc i) F.ADC_CAL_REFUSED (s.fld (P.adc i) F.ADC_CAL_REFUSED - (s.fld (P.adc i) F.ADC_CAL_REFUSED &&& bits v 16 8))

/-- A write of ADC_CAL with one GO bit starts the calibration of an axis whose generator is off. -/
theorem State.writeAdcCal_one (s : State) {i n : Fin 8} (hoff : s.pwmEnabled (axisOf i n) = false) :
    s.writeAdcCal i ((1 : BitVec 8) <<< n.val).toNat =
      ((s.clearCalRefused i ((1 : BitVec 8) <<< n.val).toNat).setbit (P.adc i) R.ADC_CAL n true).setPwm (axisOf i n) fun p => { p with cal := true } := by
  refine (forEach_of_one _ (List.nodup_finRange 8) (List.mem_finRange n) (fun m t hm => ?_) _).trans ?_
  · exact if_pos (by rw [bits_one_shift, if_neg hm])
  · have hgo : ¬ bits ((1 : BitVec 8) <<< n.val).toNat n 1 = 0 := by rw [bits_one_shift, if_pos rfl]; decide
    have hoff' (v : Nat) : (s.setf (P.adc i) F.ADC_CAL_REFUSED v).pwmEnabled (axisOf i n) = false :=
      (State.flag_wr_other _ _ _ _ _ (by simp [P.pwm, P.adc, axisOf]; omega)).trans hoff
    rw [if_neg hgo, if_neg (ne_true_of_eq_false (hoff' _))]
    rfl

/-- Settles O19: each command by the branch of its definition that the clause's hypotheses choose. -/
theorem gateAndSampling : Obligations.GateAndSampling := by
  unfold Obligations.GateAndSampling
  refine ⟨?gatePhaseAdvance, ?tonTmo, ?turnOnRelease, ?glock, fun i s => ⟨rfl, rfl⟩, ?vgdUvReport, fun i k s => ⟨rfl, rfl⟩, fun i s => ⟨rfl, rfl⟩,
    ?desatReport, ?ocpAssert, ?samplingInstant, ?conversionComplete, ?adcCalGo, ?adcCalComplete, ?backgroundConversion⟩
  case gatePhaseAdvance =>
    intro i k s
    have hexec : exec (.gatePhaseAdvance i k) s = execGatePhaseAdvance i k s := rfl
    rw [hexec, execGatePhaseAdvance]
    exact ⟨fun hph => by simp only [hph], fun hph => by simp only [hph]⟩
  case tonTmo =>
    exact fun i k s hph ht => congrArg Host.Outcome.next (if_pos ⟨Or.inr hph, ht⟩)
  case turnOnRelease =>
    exact fun i k s hph hoff ht => congrArg Host.Outcome.next (if_pos ⟨hph, congrArg not hoff, ht⟩)
  case glock =>
    exact fun i k s hph hg ht => congrArg Host.Outcome.next (if_pos ⟨hph, congrArg not hg, ht⟩)
  case vgdUvReport =>
    exact fun i s huv hset hrep => congrArg Host.Outcome.next (if_pos ⟨huv, hset, congrArg not hrep⟩)
  case desatReport =>
    intro i k a s ha
    have hexec (on : Bool) : exec (.desatReport i k on) s = execDesatReport i k on s := rfl
    refine ⟨fun hen hcmd hph => ?_, ?_⟩
    · rw [hexec, execDesatReport, ha]
      simp only [if_true, if_pos (And.intro hen (And.intro hcmd (Or.inr (Or.inr hph))))]
    · rw [hexec, execDesatReport, ha]
      rfl
  case ocpAssert =>
    intro n i on s hth
    have hexec : exec (.ocpAssert i ⟨3 * n.val, by omega⟩ on) s = execOcpAssert i ⟨3 * n.val, by omega⟩ on s := rfl
    have hlt : 3 * n.val < 24 := by omega
    have hdiv : 3 * n.val / 3 = n.val := by omega
    have hmod : 3 * n.val % 3 = 0 := by omega
    unfold Completes
    rw [hexec, execOcpAssert, dif_pos hlt]
    simp only [hdiv, hmod, hth, ne_eq, not_false_eq_true, decide_true, Bool.and_true, Fin.eta]
    exact ⟨_, rfl, by rw [State.pwm_setPwm], rfl⟩
  case samplingInstant =>
    intro a edge s hdue hdiv hser
    have hcount : (s.hold a edge).speedCount a = s.hold a edge := if_pos hdiv
    have hserial : (s.hold a edge).serialCount a = s.hold a edge := if_pos (congrArg not hser)
    refine ⟨s.hold a edge, congrArg Host.Outcome.next ((if_pos hdue).trans (by rw [hcount, hserial])), ?_⟩
    beta_reduce
    rw [State.hold, State.pwm_setPwm]
    exact ⟨rfl, rfl, rfl, rfl, rfl⟩
  case conversionComplete =>
    exact fun a iu iv iw vbus s hconv => ⟨s.convert a iu iv iw vbus, congrArg Host.Outcome.next (if_pos hconv), s.convert_effect a iu iv iw vbus⟩
  case adcCalGo =>
    intro i n s hoff
    refine ⟨s.writeAdcCal i ((1 : BitVec 8) <<< n.val).toNat, rfl, ?_⟩
    beta_reduce
    rw [s.writeAdcCal_one hoff, State.pwm_setPwm, State.rbit_setPwm, State.rbit_setbit_same _ _ _ _ _ (by omega)]
    exact ⟨rfl, rfl⟩
  case adcCalComplete =>
    intro i n u v w s hgo
    refine ⟨_, congrArg Host.Outcome.next (if_pos hgo), ?_⟩
    beta_reduce
    rw [State.pwm_setPwm, State.rbit_setPwm, State.rbit_setbit_same _ _ _ _ _ (by omega)]
    exact ⟨rfl, rfl⟩
  case backgroundConversion =>
    intro i k v s
    have hexec (ch : BgChannel) : exec (.backgroundConversion i ch k v) s = execBackgroundConversion i ch k v s := rfl
    refine ⟨fun hdue => ?_, fun hdue hwarn => ?_, fun hdue => ?_⟩
    · exact congrArg Host.Outcome.next (if_neg (by simp [hdue]))
    · rw [hexec, execBackgroundConversion, hdue]
      simp only [Bool.not_true, Bool.false_eq_true, if_false, State.errIf, decide_eq_true hwarn, if_true]
    · exact congrArg Host.Outcome.next (if_neg (by simp [hdue]))

end Sys2Proof.Machine
end

section
/-! SUPPORT. Feedback ports and serial sensors (O21). -/
namespace Sys2Proof.Machine
open Sys2Proof

/-! What a port keeps while registers and queues are written. -/

theorem State.fb_eq_of_axes {s t : State} (h : t.axes = s.axes) (a : Fin 64) : t.fb a = s.fb a := by
  rw [State.fb, State.fb, State.axis, State.axis, h]

theorem State.fb_setFb_same (s : State) (a : Fin 64) (f : FbPort → FbPort) : (s.setFb a f).fb a = f (s.fb a) := by
  simp [State.fb, State.setFb, State.axis, State.setAxis]

theorem State.fb_setb (s : State) (p : Nat) (f : Fld) (b : Bool) (a : Fin 64) : (s.setb p f b).fb a = s.fb a := rfl

theorem State.fb_setf (s : State) (p : Nat) (f : Fld) (v : Nat) (a : Fin 64) : (s.setf p f v).fb a = s.fb a := rfl

theorem State.fb_wr (s : State) (b v : Nat) (a : Fin 64) : (s.wr b v).fb a = s.fb a := rfl

theorem State.fb_pushEvent (s : State) (i : Fin 8) (ch : Nat) (level : Bool) (stamp : Nat) (a : Fin 64) :
    (s.pushEvent i ch level stamp).fb a = s.fb a := by
  unfold State.pushEvent
  split <;> rfl

/-- A read of registers does not see the ports. -/
theorem State.rd_setFb (s : State) (a : Fin 64) (f : FbPort → FbPort) (b : Nat) : (s.setFb a f).rd b = s.rd b := rfl

/-- `t` is `s` with FB_CTRL of the port at `v`; among the registers only FB_STATUS may differ besides. -/
def FbCtrlIs (a : Fin 64) (v : Nat) (s t : State) : Prop :=
  t.rd (P.fb a + R.FB_CTRL) = v ∧ RegsBut [P.fb a + R.FB_CTRL, P.fb a + R.FB_STATUS] s t

theorem FbCtrlIs.wr {a : Fin 64} {v : Nat} (s : State) (hv : v < 2 ^ 32) : FbCtrlIs a v s (s.wr (P.fb a + R.FB_CTRL) v) := by
  refine ⟨(State.rd_wr_same _ _ _).trans (Nat.mod_eq_of_lt hv), fun b hb => State.rd_wr_other _ _ _ _ ?_⟩
  exact fun h => hb (by simp [h])

theorem FbCtrlIs.setFb {a : Fin 64} {v : Nat} {s t : State} (h : FbCtrlIs a v s t) (f : FbPort → FbPort) : FbCtrlIs a v s (t.setFb a f) := h

theorem FbCtrlIs.setf {a : Fin 64} {v : Nat} {s t : State} (h : FbCtrlIs a v s t) (f : Fld) (x : Nat) (hf : f.off = R.FB_STATUS) :
    FbCtrlIs a v s (t.setf (P.fb a) f x) := by
  refine ⟨(State.rd_setf_other _ _ _ _ _ (by simp [hf])).trans h.1, fun b hb => (State.rd_setf_other _ _ _ _ _ ?_).trans (h.2 b hb)⟩
  exact fun h => hb (by simp [h, hf])

theorem FbCtrlIs.setb {a : Fin 64} {v : Nat} {s t : State} (h : FbCtrlIs a v s t) (f : Fld) (x : Bool) (hf : f.off = R.FB_STATUS) :
    FbCtrlIs a v s (t.setb (P.fb a) f x) := h.setf f x.toNat hf

theorem FbCtrlIs.hallStart {a : Fin 64} {v : Nat} {s t : State} (h : FbCtrlIs a v s t) (lands : Nat) :
    FbCtrlIs a v s (t.hallStart a lands) := by
  unfold State.hallStart
  dsimp only
  split <;> exact (FbCtrlIs.setf (h.setFb _) F.FB_STATUS_HALL _ rfl).setFb _

/-- A write of FB_CTRL that is not rejected leaves the value in FB_CTRL and changes no register but it and FB_STATUS. -/
theorem FbCtrlIs.writeFbCtrl (s : State) (a : Fin 64) (v lands : Nat) (h : isSerial (fbMode (v &&& 0xFF71FFF)) = false) :
    FbCtrlIs a (v &&& 0xFF71FFF) s (s.writeFbCtrl a v lands) := by
  have hlt : v &&& 0xFF71FFF < 2 ^ 32 := Nat.lt_of_le_of_lt Nat.and_le_right (by decide)
  have hif {c : Prop} [Decidable c] {t u : State} (ht : FbCtrlIs a (v &&& 0xFF71FFF) s t) (hu : FbCtrlIs a (v &&& 0xFF71FFF) s u) :
      FbCtrlIs a (v &&& 0xFF71FFF) s (if c then t else u) := by split <;> assumption
  unfold State.writeFbCtrl
  simp only [h, Bool.false_and, Bool.false_eq_true, if_false]
  have hwritten := FbCtrlIs.wr (a := a) s hlt
  have hmode := hif (c := fbMode (v &&& 0xFF71FFF) ≠ fbMode (s.fbCtrl a))
    (((hwritten.setb F.FB_STATUS_VALID false rfl).setb F.FB_STATUS_HOMED false rfl).setFb fun f =>
      { f with lastIdx := none, serEver := false, reqGood := false, reqDue := false, a := bits lands 4 1 = 1, b := bits lands 3 1 = 1 }) hwritten
  have hidx := hif (c := bits (v &&& 0xFF71FFF) 8 3 ≠ bits (s.fbCtrl a) 8 3) (hmode.setFb fun f => { f with lastIdx := none }) hmode
  have hhall (x : Nat) := hif (c := (fbHallRead (v &&& 0xFF71FFF) && !fbHallRead (s.fbCtrl a)) = true) (hidx.hallStart (lands % 8))
    (hidx.setf F.FB_STATUS_HALL x rfl)
  exact hif ((hhall _).setb F.FB_STATUS_VALID true rfl) (hhall _)

/-- The port at a qualified index in the home mode: the count is 0, the index stored before forgotten. -/
def State.homedAt (s : State) (a : Fin 64) (t0 : Nat) : State :=
  (((((s.pushEvent (slateOf a) (16 + localOf a) true (t0 + bits (s.fbCtrl a) 16 3)).setFb a fun f => { f with idxSeen := true }).setFb a fun f =>
    { f with p := 0, lastIdx := none }).setb (P.fb a) F.FB_STATUS_HOMED true).setb (P.fb a) F.FB_STATUS_VALID true).setf (P.fb a)
    F.FB_CTRL_IDX_MODE 1

theorem State.fb_homedAt (s : State) (a : Fin 64) (t0 : Nat) :
    (s.homedAt a t0).fb a = { s.fb a with p := 0, lastIdx := none, idxSeen := true } := by
  simp only [State.homedAt, State.fb_setf, State.fb_setb, State.fb_setFb_same, State.fb_pushEvent]

/-- The port while a serial transfer it has asked for runs. -/
def State.serialAsked (s : State) (a : Fin 64) : State :=
  ((s.setFb a fun f => { f with reqDue := false, reqGood := false, reqLatest := false }).setFb a fun f =>
    { f with serBusy := true, reqTick := s.stick (slateOf a), reqLatest := true }).setb (P.fb a) F.FB_STATUS_SER_BUSY true

/-- Settles O21: each command by the branch of its definition that the clause's hypotheses choose. -/
theorem feedbackAndSensors : Obligations.FeedbackAndSensors := by
  unfold Obligations.FeedbackAndSensors
  refine ⟨?hallChange, ?abzEdge, ?index, ?fbModeWrite, ?fbWrapWrite, ?preset, ?fbPosRead, ?fbStill, ?serialRequest, ?serialReading⟩
  case hallChange =>
    intro a lands t0 s hread hlong hnew
    have hlong' : ¬ s.stick (slateOf a) + 1 < t0 + max (8 * bits (s.fbCtrl a) 20 8) 1 := Nat.not_lt.mpr hlong
    exact congrArg Host.Outcome.next (if_neg (by simp only [hread, hlong', beq_eq_false_iff_ne.mpr hnew]; decide))
  case abzEdge =>
    intro a la lb t0 s hmode hlong
    have hexec : exec (.abzEdge a la lb t0) s = .next (s.abzEdge a la lb t0) := rfl
    have hacts : ¬ (fbMode (s.fbCtrl a) ≠ 2 ∨ s.stick (slateOf a) < t0 + bits (s.fbCtrl a) 16 3) :=
      not_or.mpr ⟨not_not.mpr hmode, Nat.not_lt.mpr hlong⟩
    rw [hexec, State.abzEdge]
    simp only [if_neg hacts]
    refine ⟨fun hd => ?_, fun hd => ?_, fun hd => ?_⟩
    · have hup (inv : Bool) : (((1 : Nat) == 3) != inv) = inv := Bool.false_xor inv
      rw [hd, if_neg (by decide), if_neg (by decide), hup]
    · rw [hd, if_neg (by decide), if_neg (by decide)]
      rfl
    · rw [hd, if_neg (by decide), if_pos rfl]
  case index =>
    intro a t0 s hmode hlong hqual hhome
    have hexec : exec (.index a t0) s = .next (s.index a t0) := rfl
    have hacts : ¬ (fbMode (s.fbCtrl a) ≠ 2 ∨ s.stick (slateOf a) < t0 + bits (s.fbCtrl a) 16 3 ∨
        (!idxQual (bits (s.fbCtrl a) 11 2) (s.fb a).a (s.fb a).b) = true) :=
      not_or.mpr ⟨not_not.mpr hmode, not_or.mpr ⟨Nat.not_lt.mpr hlong, by simp [hqual]⟩⟩
    refine ⟨s.homedAt a t0, ?_, by rw [State.fb_homedAt], by rw [State.fb_homedAt], ?_, ?_, State.fld_setf_same _ _ _ _ (by decide)⟩
    · rw [hexec, State.index]
      simp only [if_neg hacts, hhome, State.homedAt]
    · rw [State.homedAt, State.flag_setf_other _ _ _ _ _ _ (by decide) (by simp), State.flag_setb_other _ _ _ _ _ _ (by decide) (by simp)]
      exact State.flag_setb_same _ _ _ _ (by decide) rfl
    · rw [State.homedAt, State.flag_setf_other _ _ _ _ _ _ (by decide) (by simp)]
      exact State.flag_setb_same _ _ _ _ (by decide) rfl
  case fbModeWrite =>
    intro a v lands s hmode
    exact ⟨_, rfl, FbCtrlIs.writeFbCtrl s a v.toNat lands.toNat hmode⟩
  case fbWrapWrite =>
    intro a v s hmode
    refine ⟨_, rfl, ?_⟩
    rw [State.writeFbWrap]
    simp only [hmode, Bool.false_and, Bool.false_eq_true, if_false]
    refine ⟨fun hnow => ?_, fun hlater => ?_⟩
    · rw [if_pos hnow, State.fb_setFb_same]
      exact ⟨rfl, rfl, rfl⟩
    · rw [if_neg (by omega), State.fb_setFb_same]
      exact ⟨rfl, rfl, rfl⟩
  case preset =>
    intro a s hmode hin
    have hacts : ¬ (isSerial (s.fbModeNow a) || decide ((s.fb a).w ≤ bits (s.rd (P.fb a + R.FB_PRESET_POS)) 0 31)) = true := by
      rw [hmode, decide_eq_false (Nat.not_le.mpr hin)]
      decide
    refine ⟨_, congrArg Host.Outcome.next (if_neg hacts), ?_, ?_, State.flag_setb_same _ _ _ _ (by decide) rfl, fun b hb => ?_⟩
    · rw [State.fb_setb, State.fb_setFb_same]
    · rw [State.fb_setb, State.fb_setFb_same]
    · exact State.rd_setb_other _ _ _ _ _ fun h => hb (by simp [h])
  case fbPosRead =>
    intro q a s
    rfl
  case fbStill =>
    intro a s hlong
    exact congrArg Host.Outcome.next (if_pos hlong)
  case serialRequest =>
    intro a s hmode hdue hidle hgap
    have hexec : exec (.serialRequest a) s = .next (s.serialRequest a) := rfl
    have hstarts : ¬ ((s.fb a).serBusy = true ∨
        2 * s.stick (slateOf a) < 2 * (s.fb a).serEnd + 625 * max 1 (s.fld (P.fb a) F.FB_SER_CLK_GAP_US)) :=
      not_or.mpr ⟨ne_true_of_eq_false hidle, Nat.not_lt.mpr hgap⟩
    have hfb : (s.serialAsked a).fb a =
        { s.fb a with reqDue := false, reqGood := false, reqLatest := true, serBusy := true, reqTick := s.stick (slateOf a) } := by
      simp only [State.serialAsked, State.fb_setb, State.fb_setFb_same]
    refine ⟨s.serialAsked a, ?_, by rw [hfb], by rw [hfb], by rw [hfb], State.flag_setb_same _ _ _ _ (by decide) rfl⟩
    rw [hexec, State.serialRequest]
    simp only [hmode, hdue, Bool.not_true, Bool.true_or, Bool.false_eq_true, if_false]
    exact congrArg Host.Outcome.next (if_neg hstarts)
  case serialReading =>
    intro a start raw raw2 s hbusy
    exact congrArg Host.Outcome.next (if_neg (by simp [hbusy]))

end Sys2Proof.Machine
end

section
/-! SUPPORT. Control graphs, evaluations and engine calls (O23). -/
namespace Sys2Proof.Machine
open Sys2Proof

theorem State.loopOf_setLoop_same (s : State) (a : Fin 64) (f : LoopSlot → LoopSlot) : (s.setLoop a f).loopOf a = f (s.loopOf a) := by
  simp [State.loopOf, State.setLoop, State.axis, State.setAxis]

theorem State.loopOf_wr (s : State) (b v : Nat) (a : Fin 64) : (s.wr b v).loopOf a = s.loopOf a := rfl

theorem State.loopOf_setb (s : State) (p : Nat) (f : Fld) (b : Bool) (a : Fin 64) : (s.setb p f b).loopOf a = s.loopOf a := rfl

/-! The changes of a graph between evaluations. -/

theorem State.applyGraph_of_apply {s : State} {a : Fin 64} (h : s.flag (P.loop a) F.LOOP_CTRL_APPLY = true) :
    s.applyGraph a =
      let u := (s.setb (P.loop a) F.LOOP_CTRL_APPLY false).setb (P.loop a) F.LOOP_STATUS_APPLY_PEND false
      match u.validate a with
      | some (i, r) => (u.wr (P.loop a + R.LOOP_REJECT) (r * 2 ^ 24 + i)).err (P.loop a) E.loop_GRAPH_REJ
      | none =>
        ((u.setLoop a fun l => { l with
          graph := some (u.stagedGraph a), n := 0, basic := false, posStamp := 0
          sig := Vector.ofFn fun i => if i.val < 16 then l.sig[i] else 0 }).wr (P.loop a + R.LOOP_GRAPH_NOW)
            ((u.stagedGraph a).count * 2 ^ 16 + (u.stagedGraph a).first)).setb (P.loop a) F.LOOP_STATUS_BASIC false :=
  if_neg (by simp [h])

/-- The start of an evaluation does not depend on the set's number. -/
theorem State.evalStart_renumbered (s : State) (a : Fin 64) (set : SampleSet) (c : Prop) [Decidable c] :
    s.evalStart a (if c then { set with n := 0 } else set) = s.evalStart a set := by
  split <;> rfl

theorem State.graphRuns_eq_false {s : State} {a : Fin 64} (h3 : s.stage ≠ 3) (h2 : s.stage ≠ 2 ∨ (s.loopOf a).basic = false) :
    s.graphRuns a = false := by
  rw [State.graphRuns, beq_eq_false_iff_ne.mpr h3]
  rcases h2 with h2 | h2
  · rw [beq_eq_false_iff_ne.mpr h2]
    rfl
  · rw [h2, Bool.and_false]
    rfl

theorem State.graphRuns_eq_true {s : State} {a : Fin 64} (h : s.stage = 3 ∨ (s.stage = 2 ∧ (s.loopOf a).basic = true)) :
    s.graphRuns a = true := by
  rcases h with h | ⟨h2, hbasic⟩
  · rw [State.graphRuns, h]
    rfl
  · rw [State.graphRuns, h2, hbasic]
    rfl

/-- Settles O23: each command by the branch of its definition that the clause's hypotheses choose. -/
theorem controlGraphs : Obligations.ControlGraphs := by
  unfold Obligations.ControlGraphs
  refine ⟨?descriptorWrite, ?holdRelease, ?descriptorWritesApply, ?apply, ?graphValidate, ?loopRun, ?loopPosLoRead, ?luDescRangeWrite,
    ?evaluationStart, ?ecallTmo, ?ecallReply⟩
  case descriptorWrite =>
    intro q g off sz v s hok
    have hexec : exec (.descriptorWrite q g off sz v) s =
        .next (s.descWrite (descBase g + off) (2 ^ sz.val) (v.toNat % 2 ^ (8 * 2 ^ sz.val))) := congrArg Host.Outcome.next (if_pos hok)
    rw [hexec, State.descWrite]
    refine ⟨fun hnone => ?_, fun a haxis hlive hhold => ?_, fun a haxis hlive hwords => ?_⟩
    · simp only [hnone]
    · simp only [haxis, hlive, hhold, Bool.false_and, Bool.false_eq_true, if_false]
    · simp only [haxis, hlive, decide_eq_true hwords, Bool.and_self, if_true]
  case holdRelease =>
    intro a s hhold
    exact congrArg Host.Outcome.next (if_pos hhold)
  case descriptorWritesApply =>
    intro a s hrest
    exact congrArg Host.Outcome.next (if_neg (ne_true_of_eq_false hrest))
  case apply =>
    intro a s
    rfl
  case graphValidate =>
    intro a s u hrest happly hu
    have hexec : exec (.graphValidate a) s = .next (s.applyGraph a) := congrArg Host.Outcome.next (if_neg (ne_true_of_eq_false hrest))
    rw [Completes, hexec, State.applyGraph_of_apply happly, ← hu]
    refine ⟨fun i r hbad => by simp only [hbad], fun hgood => ?_⟩
    simp only [hgood]
    refine ⟨_, rfl, ?_⟩
    rw [State.loopOf_setb, State.loopOf_wr, State.loopOf_setLoop_same]
    exact ⟨rfl, rfl⟩
  case loopRun =>
    intro a on s
    have hexec : exec (.loopRun a on) s = .next (s.setRun a on) := rfl
    rw [hexec, State.setRun]
    refine ⟨fun hsame => congrArg Host.Outcome.next (if_pos hsame), ?_, ?_⟩
    · rintro rfl hwas
      exact congrArg Host.Outcome.next ((if_neg (by simp [hwas])).trans (if_neg (by decide)))
    · rintro rfl hwas
      exact congrArg Host.Outcome.next ((if_neg (by simp [hwas])).trans (if_pos rfl))
  case loopPosLoRead =>
    intro q a s
    rfl
  case luDescRangeWrite =>
    intro g j v s hopen hfits hother
    have hexec : exec (.luDescRangeWrite g j v) s = .next (s.writeDescRange g j v.toNat) :=
      congrArg Host.Outcome.next (if_neg (ne_true_of_eq_false hopen))
    have hclear (k : Nat) (hk : k ∈ List.range 4) : ¬ (k != j.val && bits v.toNat 16 8 != 0 &&
        bits (s.rd (P.loopunit g + R.LU_DESC_RANGE k)) 16 8 != 0 &&
        decide (bits v.toNat 0 7 < bits (s.rd (P.loopunit g + R.LU_DESC_RANGE k)) 0 7 + bits (s.rd (P.loopunit g + R.LU_DESC_RANGE k)) 16 8) &&
        decide (bits (s.rd (P.loopunit g + R.LU_DESC_RANGE k)) 0 7 < bits v.toNat 0 7 + bits v.toNat 16 8)) = true := by
      by_cases hkj : k = j.val
      · simp [hkj]
      · simp [hother k (List.mem_range.mp hk) hkj]
    rw [hexec, State.writeDescRange]
    simp only [List.any_eq_false.mpr hclear, decide_eq_false (Nat.not_lt.mpr hfits), Bool.or_self, Bool.false_eq_true, if_false]
  case evaluationStart =>
    intro a set s u hpend hrest hdue hrun hu
    have hexec : exec (.evaluationStart a) s = .next (s.evaluate a) := rfl
    have hacts : ¬ (s.evaluating a = true ∨ s.now < (s.evalStart a set).2 ∨ (!s.loopRun a) = true) :=
      not_or.mpr ⟨ne_true_of_eq_false hrest, not_or.mpr ⟨Nat.not_lt.mpr hdue, by simp [hrun]⟩⟩
    have hpair : s.evalStart a set = ((s.evalStart a set).1, (s.evalStart a set).2) := rfl
    rw [hexec, State.evaluate, hpend]
    dsimp only
    rw [hpair]
    dsimp only
    rw [if_neg hacts, ← hu]
    refine ⟨fun hnone => by simp only [hnone], fun h3 h2 hsome => ?_, fun g hg hstage => ?_⟩
    · obtain ⟨g, hg⟩ := Option.ne_none_iff_exists'.mp hsome
      simp only [hg, State.graphRuns_eq_false h3 h2, Bool.not_false, if_true]
    · simp only [hg, State.graphRuns_eq_true hstage, State.evalStart_renumbered, Bool.not_true, Bool.false_eq_true, if_false]
  case ecallTmo =>
    intro a e s hwait hlate
    have hexec : exec (.ecallTmo a) s = execEcallTmo a s := rfl
    rw [hexec, execEcallTmo, hwait]
    exact congrArg Host.Outcome.next (if_pos hlate)
  case ecallReply =>
    intro g r a s hfind haxis hgrove
    have hexec : exec (.ecallReply g) s = execEcallReply g s := rfl
    have hloop : (s.setReplies (s.replies.erase r)).loopOf a = s.loopOf a := rfl
    rw [hexec, execEcallReply, hfind]
    simp only [State.callReply, haxis, hgrove, ne_eq, not_true_eq_false, if_false, hloop]
    refine ⟨fun hnone => by simp only [hnone], fun e hwait hword hintime => ?_⟩
    simp only [hwait, hword, not_true_eq_false, if_false]
    exact congrArg Host.Outcome.next (if_neg (Nat.not_lt.mpr hintime))

end Sys2Proof.Machine
end

section
/-! SUPPORT. Barrier links and the sideband (O14). -/
namespace Sys2Proof.Machine
open Sys2Proof

theorem State.slate_errIf (s : State) (c : Bool) (p b : Nat) (i : Fin 8) : (s.errIf c p b).slate i = s.slate i := by
  cases c <;> rfl

theorem State.slate_incs (s : State) (p o : Nat) (i : Fin 8) : (s.incs p o).slate i = s.slate i := rfl

theorem State.slate_noteSilence (s : State) (i j : Fin 8) : (s.noteSilence i).slate j = s.slate j := by
  unfold State.noteSilence
  dsimp only
  split <;> rfl

/-- A frame begins with its header. -/
theorem sealFrame_getElem? (hdr body : List Byte) (n : Nat) (h : n < hdr.length) : (sealFrame hdr body)[n]? = hdr[n]? := by
  simp only [sealFrame, List.append_assoc]
  exact List.getElem?_append_left h

theorem RxDir.up_take_good {r : RxDir} (h : r.up = true) (seq : Nat) : (r.take true seq).up = true := by
  simp [RxDir.take, h]

theorem State.slate_slateFresh (s : State) (i : Fin 8) (on : Bool) :
    ((s.slateFresh i on).slate i).powered = on ∧ ((s.slateFresh i on).slate i).restart = on ∧ ((s.slateFresh i on).slate i).safe = true ∧
      ((s.slateFresh i on).slate i).tick = 0 ∧ ((s.slateFresh i on).slate i).aligned = false := by
  unfold State.slateFresh
  rw [State.slate_setSlate]
  exact ⟨rfl, rfl, rfl, rfl, rfl⟩

/-- Settles O14: each command by the branch of its definition that the clause's hypotheses choose. -/
theorem barrierLinks : Obligations.BarrierLinks := by
  unfold Obligations.BarrierLinks
  refine ⟨?downstreamFrameSend, ?upstreamFrameSend, ?downstreamFrame, ?upstreamFrame, ?forwardedReadTimeout, ?slateSilenceTimeout, ?linkTimeout,
    ?release, ?safeCmdClear, ?linkDelayMeasured, ?slatePowerUp, ?slatePowerLoss, ?sidebandSend, ?sidebandFrameAtSlate, ?sbDown⟩
  case downstreamFrameSend =>
    intro i s htick hnew
    have hexec : exec (.downstreamFrameSend i) s = .next (s.sendDown i) := rfl
    have hacts : ¬ (s.now % 64 ≠ 0 ∨ (s.slate i).link.dnAt = some s.now) := not_or.mpr ⟨not_not.mpr htick, hnew⟩
    refine ⟨s.sendDown i, hexec, ?_⟩
    rw [State.sendDown]
    simp only [if_neg hacts, State.slate_errIf, State.slate_setf, State.link_setLink]
    refine ⟨trivial, trivial, ?_⟩
    rw [sealFrame_getElem? _ _ _ (by simp [bytesOf])]
    rfl
  case upstreamFrameSend =>
    intro i s hon htick hnew
    have hexec : exec (.upstreamFrameSend i) s = .next (s.sendUp i) := rfl
    have hacts : ¬ ((!(s.slate i).powered) = true ∨ s.stick i % 64 ≠ 0 ∨ (s.slate i).link.upAt = some (s.stick i)) :=
      not_or.mpr ⟨by simp [hon], not_or.mpr ⟨not_not.mpr htick, hnew⟩⟩
    refine ⟨s.sendUp i, hexec, ?_⟩
    rw [State.sendUp]
    simp only [if_neg hacts, State.slate_errIf, State.slate_setf, State.link_setLink]
    refine ⟨rfl, ?_, trivial⟩
    rw [sealFrame_getElem? _ _ _ (by simp [State.upHeader, bytesOf])]
    rfl
  case downstreamFrame =>
    intro i rx s hon
    have hexec : exec (.downstreamFrame i rx) s = .next (s.downFrame i rx) := rfl
    rw [hexec, State.downFrame]
    refine ⟨fun hbad => ?_, fun hgood hup => ?_⟩
    · simp only [hon, hbad, Bool.not_true, Bool.not_false, Bool.false_eq_true, if_false, if_true]
    · have hup' (c : Bool) (u : State) (hu : u = s.setLink i fun l => { l with dn := l.dn.take true (field rx.bytes 1 1) }) :
          ((u.when c fun s => s.incs (P.link i) R.LINK_SEQ_GAP).slate i).link.dn.up = true := by
        rw [hu]
        cases c <;> simp only [State.when, if_true, Bool.false_eq_true, if_false, State.slate_incs, State.link_setLink, RxDir.up_take_good hup]
      simp only [hon, hgood, hup, hup' _ _ rfl, Bool.not_true, Bool.false_eq_true, if_false, if_true]
      rfl
  case upstreamFrame =>
    intro i rx s
    have hexec : exec (.upstreamFrame i rx) s = .next (s.upFrame i rx) := rfl
    rw [hexec, State.upFrame]
    refine ⟨fun hbad => ?_, fun hgood hup => ?_⟩
    · simp only [hbad, Bool.not_false, if_true]
    · have hup' (c : Bool) (u : State) (hu : u = s.setLink i fun l => { l with up := l.up.take true (field rx.bytes 1 1) }) :
          ((u.when c fun s => s.incs (P.link i) R.LINK_SEQ_GAP).slate i).link.up.up = true := by
        rw [hu]
        cases c <;> simp only [State.when, if_true, Bool.false_eq_true, if_false, State.slate_incs, State.link_setLink, RxDir.up_take_good hup]
      simp only [hgood, hup, hup' _ _ rfl, Bool.not_true, Bool.false_eq_true, if_false, if_true]
      rfl
  case forwardedReadTimeout =>
    intro i s r rest hreads hlate
    have hexec : exec (.forwardedReadTimeout i) s = execForwardedReadTimeout i s := rfl
    rw [hexec, execForwardedReadTimeout, hreads]
    exact congrArg Host.Outcome.next (if_pos hlate)
  case slateSilenceTimeout =>
    intro i s hon hever hfired hlate
    exact congrArg Host.Outcome.next (if_pos ⟨hon, hever, by simp [hfired], hlate⟩)
  case linkTimeout =>
    intro i s hever hfired hlate
    refine ⟨_, congrArg Host.Outcome.next (if_pos ⟨hever, by simp [hfired], hlate⟩), State.flag_setb_same _ _ _ _ (by decide) rfl, ?_⟩
    rw [State.setSafeCmd, State.slate_setb, State.slate_err, State.slate_noteSilence, State.link_setLink]
  case release =>
    intro i s
    rfl
  case safeCmdClear =>
    intro i s hready
    exact congrArg Host.Outcome.next (if_pos hready)
  case linkDelayMeasured =>
    intro i s hactive hcnt
    refine ⟨_, congrArg Host.Outcome.next (if_pos ⟨hactive, hcnt⟩), ?_, ?_, ?_, fun b hb => ?_⟩
    · exact (State.setSlate_rd _ _ _ _).trans ((State.rd_wr_same _ _ _).trans (Nat.mod_mod _ _))
    · rw [State.link_setLink]
    · rw [State.link_setLink]
    · exact (State.setSlate_rd _ _ _ _).trans (State.rd_wr_other _ _ _ _ fun h => hb (by simp [h]))
  case slatePowerUp =>
    intro i s hfitted hoff
    exact ⟨_, congrArg Host.Outcome.next (if_pos ⟨hfitted, by simp [hoff]⟩), State.slate_slateFresh s i true⟩
  case slatePowerLoss =>
    intro i s hon
    refine ⟨_, congrArg Host.Outcome.next (if_pos hon), ?_, fun hwas => ?_⟩
    · rw [State.slate_errIf, State.slate_setb]
      exact (State.slate_slateFresh s i false).1
    · rw [hwas]
      exact State.rbit_setbit_same _ _ _ _ _ (by decide)
  case sidebandSend =>
    intro i halls pts s
    refine ⟨⟨_, rfl, ?_⟩, fun hon => ⟨_, congrArg Host.Outcome.next (if_pos hon), ?_⟩⟩
    · dsimp only
      rw [if_pos rfl, State.slate_setSlate]
      exact ⟨rfl, rfl⟩
    · dsimp only
      rw [State.slate_setSlate]
      exact ⟨rfl, rfl⟩
  case sidebandFrameAtSlate =>
    intro i rx s hon
    have hexec : exec (.sidebandFrameAtSlate i rx) s = execSidebandFrameAtSlate i rx s := rfl
    rw [hexec, execSidebandFrameAtSlate]
    refine ⟨fun hgood hcont => ?_, fun hbad => ?_⟩
    · simp only [hon, hgood, hcont, Bool.not_true, Bool.false_eq_true, if_false, Bool.and_self, if_true]
    · simp only [hon, hbad, Bool.not_true, Bool.false_eq_true, if_false, Bool.false_and]
  case sbDown =>
    intro i s hon hup hlate
    exact congrArg Host.Outcome.next (if_pos ⟨hon, hup, hlate⟩)

end Sys2Proof.Machine
end

section
/-! SUPPORT. Commands of a tracking region, the rebuild and the reports (O38). -/
namespace Sys2Proof.Machine
open Sys2Proof

theorem forEach_nil {α : Type} (s : State) (f : α → State → State) : forEach [] s f = s := rfl

/-! The acceptance of a region command (R251). -/

theorem State.rgnGo_of_busy {s : State} {d : Fin 8} (h : s.flag (P.rgn d) F.RGN_CMD_GO = true) (op idx : Nat) (f : State → State) :
    s.rgnGo d op idx f = s := if_pos h

theorem State.rgnGo_of_idle {s : State} {d : Fin 8} (h : s.flag (P.rgn d) F.RGN_CMD_GO = false) (op idx : Nat) (f : State → State) :
    s.rgnGo d op idx f = f (s.wr (P.rgn d + R.RGN_CMD) (op * 2 ^ 24 + idx)) := if_neg (ne_true_of_eq_false h)

theorem State.insertRec_of_bad {s : State} {d : Fin 8} {w : Nat} {item : Bool} (h : s.imageOk d w item = false) :
    s.insertRec d w item = s.rgnDone d 3 0 := if_pos (by rw [h]; rfl)

theorem State.insertRec_of_full {s : State} {d : Fin 8} {w : Nat} {item : Bool} (hok : s.imageOk d w item = true) (hfull : s.freeRecs d = []) :
    s.insertRec d w item = s.rgnDone d 1 0 := by
  simp only [State.insertRec, hok, hfull, List.isEmpty_nil, Bool.not_true, Bool.false_eq_true, if_false, if_true]

/-- Either insert command: `u` is the state in which GO has been accepted, `op` its code. -/
theorem State.insertCmd_cases {s u : State} {d : Fin 8} {item : Bool} {op : Nat} (hop : op = if item then 1 else 2)
    (hu : u = s.wr (P.rgn d + R.RGN_CMD) (op * 2 ^ 24)) :
    (s.flag (P.rgn d) F.RGN_CMD_GO = true → s.insertCmd d 0 item = s) ∧
    (s.flag (P.rgn d) F.RGN_CMD_GO = false → u.budgetLeft d = false → s.insertCmd d 0 item =
      ((u.setb (P.rgn d) F.RGN_CMD_GO true).inc P.dom F.DOM_INS_HELD_COUNT).setTrack fun t =>
        { t with heldIns := t.heldIns.set d (some (op, u.staged d)) }) ∧
    (s.flag (P.rgn d) F.RGN_CMD_GO = false → u.budgetLeft d = true → s.insertCmd d 0 item = u.insertRec d (u.staged d) item) := by
  refine ⟨fun hbusy => by rw [State.insertCmd, State.rgnGo_of_busy hbusy], fun hidle hover => ?_, fun hidle hleft => ?_⟩
  · rw [State.insertCmd, ← hop, State.rgnGo_of_idle hidle, Nat.add_zero, ← hu]
    exact if_neg (ne_true_of_eq_false hover)
  · rw [State.insertCmd, ← hop, State.rgnGo_of_idle hidle, Nat.add_zero, ← hu]
    exact if_pos hleft

/-- The command as a whole, with the two ways an insert can be refused once the budget allows it. -/
theorem State.insertCmd_outcomes {s u : State} {d : Fin 8} {item : Bool} {op : Nat} {c : Instr} (hc : exec c s = .next (s.insertCmd d 0 item)) (hop : op = if item then 1 else 2)
    (hu : u = s.wr (P.rgn d + R.RGN_CMD) (op * 2 ^ 24)) :
    (s.flag (P.rgn d) F.RGN_CMD_GO = true → exec c s = .next s) ∧
    (s.flag (P.rgn d) F.RGN_CMD_GO = false → u.budgetLeft d = false → exec c s = .next
      (((u.setb (P.rgn d) F.RGN_CMD_GO true).inc P.dom F.DOM_INS_HELD_COUNT).setTrack fun t =>
        { t with heldIns := t.heldIns.set d (some (op, u.staged d)) })) ∧
    (s.flag (P.rgn d) F.RGN_CMD_GO = false → u.budgetLeft d = true → u.imageOk d (u.staged d) item = false →
      exec c s = .next (u.rgnDone d 3 0)) ∧
    (s.flag (P.rgn d) F.RGN_CMD_GO = false → u.budgetLeft d = true → u.imageOk d (u.staged d) item = true → u.freeRecs d = [] →
      exec c s = .next (u.rgnDone d 1 0)) ∧
    (s.flag (P.rgn d) F.RGN_CMD_GO = false → u.budgetLeft d = true → u.imageOk d (u.staged d) item = true → u.freeRecs d ≠ [] →
      exec c s = .next (u.insertRec d (u.staged d) item)) := by
  obtain ⟨hbusy, hover, hleft⟩ := State.insertCmd_cases hop hu
  refine ⟨fun h => by rw [hc, hbusy h], fun h hb => by rw [hc, hover h hb], fun h hb hbad => ?_, fun h hb hok hfull => ?_, fun h hb _ _ => by rw [hc, hleft h hb]⟩
  · rw [hc, hleft h hb, State.insertRec_of_bad hbad]
  · rw [hc, hleft h hb, State.insertRec_of_full hok hfull]

/-- Settles O38: each command by the branch of its definition that the clause's hypotheses choose. -/
theorem trackingRegions : Obligations.TrackingRegions := by
  unfold Obligations.TrackingRegions
  refine ⟨?rgnRptPop, ?rebuild, ?rebuildComplete, ?merge, ?init, ?trackRgnWrite, ?insertItem, ?insertEvent, ?heldInsertRelease, ?cancel, ?delete,
    ?shift, ?read⟩
  case rgnRptPop =>
    intro d s u hu
    have hexec : exec (.rgnRptPop d) s = .next (s.popReport d) := rfl
    rw [hexec, State.popReport, ← hu]
    refine ⟨fun hempty => congrArg Host.Outcome.next (if_pos (by rw [hempty]; rfl)), fun hsome => congrArg Host.Outcome.next (if_neg ?_)⟩
    exact fun h => hsome (List.isEmpty_iff.mp h)
  case rebuild =>
    intro s
    have hexec : exec .rebuild s = .next s.startRebuild := rfl
    rw [hexec, State.startRebuild]
    exact ⟨fun hnone => by rw [hnone], fun r hsome => by rw [hsome]⟩
  case rebuildComplete =>
    intro s
    have hexec : exec .rebuildComplete s = .next s.completeRebuild := rfl
    rw [hexec, State.completeRebuild]
    refine ⟨fun hnone => by rw [hnone], fun r hsome hbuilt => ?_, fun r hsome hbuilt => ?_⟩
    · rw [hsome]
      exact congrArg Host.Outcome.next (if_pos hbuilt)
    · rw [hsome]
      exact congrArg Host.Outcome.next (if_neg (ne_true_of_eq_false hbuilt))
  case merge =>
    intro a s
    refine ⟨fun hsome => congrArg Host.Outcome.next (if_pos (Option.isSome_iff_ne_none.mpr hsome)), fun hnone => ?_⟩
    exact congrArg Host.Outcome.next (if_neg (by rw [hnone]; decide))
  case init =>
    intro s
    rfl
  case trackRgnWrite =>
    intro d v s
    have hexec (hopen : s.locked = false) : exec (.trackRgnWrite d v) s = .next (s.writeTrackRgn d v.toNat) :=
      congrArg Host.Outcome.next (if_neg (ne_true_of_eq_false hopen))
    refine ⟨fun hlocked => congrArg Host.Outcome.next (if_pos hlocked), fun hopen hpast => ?_, fun hopen hfits hother hold hnew => ?_⟩
    · rw [hexec hopen]
      exact congrArg Host.Outcome.next (if_pos (by rw [decide_eq_true hpast]; rfl))
    · have hclear (e : Fin 8) (_ : e ∈ List.finRange 8) : ¬ (decide (e ≠ d) && decide (0 < bits v.toNat 16 9 ∧
          0 < s.fld P.track (F.TRACK_RGN_COUNT e) ∧
          v.toNat % 2 ^ 8 < s.fld P.track (F.TRACK_RGN_BASE e) + s.fld P.track (F.TRACK_RGN_COUNT e) ∧
          s.fld P.track (F.TRACK_RGN_BASE e) < v.toNat % 2 ^ 8 + bits v.toNat 16 9)) = true := by
        by_cases hed : e = d
        · simp [hed]
        · simp [hother e hed]
      rw [hexec hopen, State.writeTrackRgn]
      simp only [decide_eq_false (Nat.not_lt.mpr hfits), List.any_eq_false.mpr hclear, Bool.or_self, Bool.false_eq_true, if_false, hold,
        List.filter_nil, forEach_nil, hnew]
  case insertItem | insertEvent =>
    intro d s u hu
    exact State.insertCmd_outcomes rfl rfl hu
  case heldInsertRelease =>
    intro d s
    have hexec : exec (.heldInsertRelease d) s = execHeldInsertRelease d s := rfl
    rw [hexec, execHeldInsertRelease]
    refine ⟨fun hnone => by rw [hnone], fun op w hsome hover => ?_, fun op w hsome hleft => ?_⟩
    · rw [hsome]
      exact congrArg Host.Outcome.next (if_neg (ne_true_of_eq_false hover))
    · rw [hsome]
      exact congrArg Host.Outcome.next (if_pos hleft)
  case cancel =>
    intro d i s u hu
    have hexec : exec (.cancel d i) s = .next (s.cancelCmd d i) := rfl
    rw [hexec, State.cancelCmd]
    refine ⟨fun hbusy => by rw [State.rgnGo_of_busy hbusy], fun hidle hrec => ?_, fun hidle hrec hev => ?_, fun hidle hrec hst => ?_, fun hidle hrec hst => ?_⟩
      <;> rw [State.rgnGo_of_idle hidle, ← hu]
    · simp only [hrec, Bool.not_false, Bool.true_or, if_true]
    · simp only [hev, Bool.not_false, Bool.or_true, if_true]
    · obtain ⟨hev, hst⟩ := hst
      have hopen : [1, 2, 4, 5].contains (u.rget i Rf.state) = true := by
        rcases hst with h | h | h | h <;> rw [h] <;> rfl
      simp only [hrec, hev, hopen, Bool.not_true, Bool.or_self, Bool.false_eq_true, if_false]
    · obtain ⟨hev, hst⟩ := hst
      have hshut : [1, 2, 4, 5].contains (u.rget i Rf.state) = false := by
        rw [List.contains_eq_mem, decide_eq_false_iff_not]
        simp only [List.mem_cons, List.not_mem_nil, or_false]
        omega
      simp only [hrec, hev, hshut, Bool.not_true, Bool.not_false, Bool.or_self, Bool.false_eq_true, if_false, if_true]
  case delete =>
    intro d i s u hu
    have hexec : exec (.delete d i) s = .next (s.deleteCmd d i) := rfl
    rw [hexec, State.deleteCmd]
    refine ⟨fun hbusy => by rw [State.rgnGo_of_busy hbusy], fun hidle hrec => ?_, fun hidle hrec hst => ?_, fun hidle hrec hst => ?_, fun hidle hrec hst => ?_,
      fun hidle hrec hst => ?_, fun hidle hrec hst => ?_⟩ <;> rw [State.rgnGo_of_idle hidle, ← hu]
    · simp only [hrec, Bool.not_false, if_true]
    · simp only [hrec, hst.1, hst.2, Bool.not_true, Bool.false_eq_true, if_false, if_true]
    · simp only [hrec, hst.1, hst.2, Bool.not_true, Bool.false_eq_true, if_false, if_true]
    · simp only [hrec, hst.1, hst.2, Bool.not_true, Bool.false_eq_true, if_false]
    · obtain ⟨hev, hst⟩ := hst
      rcases hst with h | h <;> simp only [hrec, hev, h, Bool.not_true, Bool.false_eq_true, if_false]
    · obtain ⟨hev, hst⟩ := hst
      simp only [hrec, hev, Bool.not_true, Bool.false_eq_true, if_false]
      split
      · omega
      · omega
      · omega
      · rfl
  case shift =>
    intro d i s u hu
    have hexec : exec (.shift d i) s = .next (s.shiftCmd d i) := rfl
    rw [hexec, State.shiftCmd]
    refine ⟨fun hbusy => by rw [State.rgnGo_of_busy hbusy], fun hidle hrec => ?_, fun hidle hrec hit => ?_, fun hidle hrec hst => ?_, fun hidle hrec hst => ?_⟩
      <;> rw [State.rgnGo_of_idle hidle, ← hu]
    · simp only [hrec, Bool.not_false, Bool.true_or, if_true]
    · simp only [hit, Bool.not_false, Bool.or_true, if_true]
    · obtain ⟨hit, hst⟩ := hst
      simp only [hrec, hit, Bool.not_true, Bool.or_self, Bool.false_eq_true, if_false]
      exact congrArg Host.Outcome.next (if_pos hst)
    · obtain ⟨hit, hst⟩ := hst
      simp only [hrec, hit, Bool.not_true, Bool.or_self, Bool.false_eq_true, if_false]
      exact congrArg Host.Outcome.next (if_neg (by omega))
  case read =>
    intro d i s u hu
    have hexec : exec (.read d i) s = .next (s.readCmd d i) := rfl
    rw [hexec, State.readCmd]
    refine ⟨fun hbusy => by rw [State.rgnGo_of_busy hbusy], fun hidle hrec => ?_, fun hidle hrec _ => ?_⟩ <;> rw [State.rgnGo_of_idle hidle, ← hu]
    · simp only [hrec, Bool.not_false, if_true]
    · simp only [hrec, Bool.not_true, Bool.false_eq_true, if_false]

end Sys2Proof.Machine
end

section
/-! SUPPORT. Handover between nodes (O39). -/
namespace Sys2Proof.Machine
open Sys2Proof

/-! Receiving a message other than HELLO (R265, R266). -/

theorem State.hoRecv_of_stale {s : State} {k : Fin 8} {dn : Bool} {m : HoMsg} (h : s.sessUp k dn = false ∨ m.ver ≠ s.sessVer k dn) (type : Nat)
    (f : State → State) : s.hoRecv k dn type m f = s.hoDrop k := by
  refine if_pos ?_
  rcases h with h | h
  · rw [h]
    rfl
  · rw [bne_iff_ne.mpr h, Bool.or_true, Bool.true_or]

theorem State.hoRecv_of_current {s : State} {k : Fin 8} {dn : Bool} {m : HoMsg} (hup : s.sessUp k dn = true) (hver : m.ver = s.sessVer k dn)
    {type : Nat} (hres : (type == 7 && m.ver == 2) = false) (f : State → State) : s.hoRecv k dn type m f =
      if ((s.hoHeard k dn).hoFirst k type m).1 then f ((s.hoHeard k dn).hoFirst k type m).2
      else ((s.hoHeard k dn).hoFirst k type m).2.inc (P.handover k) F.HO_CNT_DROP_COUNT := by
  refine if_neg ?_
  rw [hup, hres, hver, bne_self_eq_false]
  decide

/-- The second copy of a message is counted and dropped. -/
theorem State.hoRecv_of_copy {s u : State} {k : Fin 8} {dn : Bool} {m : HoMsg} (hup : s.sessUp k dn = true) (hver : m.ver = s.sessVer k dn)
    {type : Nat} (hres : (type == 7 && m.ver == 2) = false) (hcopy : (s.hoHeard k dn).hoFirst k type m = (false, u)) (f : State → State) :
    s.hoRecv k dn type m f = u.inc (P.handover k) F.HO_CNT_DROP_COUNT := by
  rw [State.hoRecv_of_current hup hver hres, hcopy]
  rfl

theorem State.hoRecv_of_first {s u : State} {k : Fin 8} {dn : Bool} {m : HoMsg} (hup : s.sessUp k dn = true) (hver : m.ver = s.sessVer k dn)
    {type : Nat} (hres : (type == 7 && m.ver == 2) = false) (hfirst : (s.hoHeard k dn).hoFirst k type m = (true, u)) (f : State → State) :
    s.hoRecv k dn type m f = f u := by
  rw [State.hoRecv_of_current hup hver hres, hfirst]
  rfl

/-! What each message does at its first copy. -/

/-- An OFFER of a sound shape (R268). -/
theorem State.takeOffer_of_sound {s : State} {k : Fin 8} {m : HoMsg} (h0 : m.count ≠ 0) (h41 : m.count ≤ 41) (hlen : 32 * m.count ≤ m.body.length) :
    s.takeOffer k m =
      if (s.hoFind k true m.xfer).isSome then s.hoAbout k false 2 m.xfer m.id 0 []
      else if m.line ≠ s.rd (P.handover k + R.HO_LINE_ID) % 2 ^ 16 then s.hoAbout k false 3 m.xfer m.id 3 []
      else if !s.flag (P.handover k) F.HO_CTRL_IN_EN then s.hoAbout k false 3 m.xfer m.id 2 []
      else if (s.freeRecs (s.hoOwner k)).length < (arrivalItem k m :: s.arrivalEvents k m).length ∨ !s.roomFor (arrivalItem k m :: s.arrivalEvents k m) then
        s.hoAbout k false 3 m.xfer m.id 1 []
      else (s.holdItem k m).hoAbout k false 2 m.xfer m.id 0 [] :=
  if_neg (by omega)

/-- Settles O39: each command by the branch of its definition that the clause's hypotheses choose. -/
theorem handover : Obligations.Handover := by
  unfold Obligations.Handover
  refine ⟨?hello, ?helloSend, ?sessionDown, ?offer, ?commit, ?withdraw, ?accept, ?refuse, ?doneMsg, ?resolve, ?heldCommitTimeout, ?doubtTmo,
    ?commitTmo, ?hoRetry⟩
  case hello =>
    intro k dn m s
    have hexec : exec (.hello k dn m) s = .next (s.hello k dn m) := rfl
    rw [hexec, State.hello]
    refine ⟨fun hver => congrArg Host.Outcome.next (if_pos hver), ?_, ?_⟩
    · rintro hlo hhi rfl
      exact congrArg Host.Outcome.next (if_neg (by omega))
    · rintro hlo hhi rfl
      exact congrArg Host.Outcome.next (if_neg (by omega))
  case helloSend =>
    intro k s u hu
    have hexec : exec (.helloSend k) s = execHelloSend k s := rfl
    rw [hexec, execHelloSend, ← hu]
    refine ⟨fun t hsent hearly => ?_, fun hnever hdn hup => ?_, fun hnever hdn hup => ?_⟩
    · simp only [hsent, decide_eq_false (Nat.not_le.mpr hearly), Bool.not_false, if_true]
    · simp only [hnever, hdn, hup, Bool.not_true, Bool.false_eq_true, if_false, if_true]
    · simp only [hnever, hdn, hup, Bool.not_true, Bool.false_eq_true, if_false, if_true]
  case sessionDown =>
    intro k s
    have hexec (dn : Bool) : exec (.sessionDown k dn) s = execSessionDown k dn s := rfl
    rw [hexec, hexec, execSessionDown, execSessionDown]
    refine ⟨fun hdown => ?_, fun hup hlate => ?_, fun hup hlate => ?_⟩
    · simp only [hdown, Bool.false_and, Bool.false_eq_true, if_false]
    · simp only [hup, hlate, decide_true, Bool.and_self, if_true]
    · simp only [hup, hlate, decide_true, Bool.and_self, Bool.false_eq_true, if_false, if_true]
  case offer =>
    intro k m s u
    have hexec : exec (.offer k m) s = .next (s.hoRecv k false 1 m fun s => s.takeOffer k m) := rfl
    rw [hexec]
    refine ⟨fun hstale => by rw [State.hoRecv_of_stale hstale], fun hup hver hcopy => by rw [State.hoRecv_of_copy hup hver rfl hcopy], fun hup hver hfirst => ?_⟩
    rw [State.hoRecv_of_first hup hver rfl hfirst]
    refine ⟨fun h0 h41 hlen hknown => ?_, fun h0 h41 hlen hnew hline => ?_, fun h0 h41 hlen hnew hline hoff => ?_,
      fun h0 h41 hlen hnew hline hon hfew => ?_, fun h0 h41 hlen hnew hline hon hfree hroom => ?_⟩ <;> rw [State.takeOffer_of_sound h0 h41 hlen]
    · exact congrArg Host.Outcome.next (if_pos (Option.isSome_iff_ne_none.mpr hknown))
    · rw [hnew]
      exact congrArg Host.Outcome.next (if_pos hline)
    · rw [hnew, if_neg (by decide), if_neg (not_not.mpr hline), if_pos (by rw [hoff]; rfl)]
    · have hshort : (u.freeRecs (u.hoOwner k)).length < (arrivalItem k m :: u.arrivalEvents k m).length := hfew
      rw [hnew, if_neg (by decide), if_neg (not_not.mpr hline), if_neg (by rw [hon]; decide), if_pos (Or.inl hshort)]
    · have hfits : ¬ ((u.freeRecs (u.hoOwner k)).length < (arrivalItem k m :: u.arrivalEvents k m).length ∨
          (!u.roomFor (arrivalItem k m :: u.arrivalEvents k m)) = true) :=
        not_or.mpr ⟨Nat.not_lt.mpr hfree, by rw [hroom]; decide⟩
      rw [hnew, if_neg (by decide), if_neg (not_not.mpr hline), if_neg (by rw [hon]; decide), if_neg hfits]
  case commit =>
    intro k m s u
    have hexec : exec (.commit k m) s = .next (s.hoRecv k false 4 m fun s => s.takeCommitMsg k m) := rfl
    rw [hexec]
    refine ⟨fun hstale => by rw [State.hoRecv_of_stale hstale], fun hup hver hcopy => by rw [State.hoRecv_of_copy hup hver rfl hcopy], fun hup hver hfirst => ?_⟩
    rw [State.hoRecv_of_first hup hver rfl hfirst, State.takeCommitMsg]
    refine ⟨fun hnone hgone => ?_, fun hnone hgone => ?_, fun h hsome hst => ?_, fun h hsome hst => ?_, fun h hsome hst => ?_⟩
    · rw [hnone]
      exact congrArg Host.Outcome.next (if_pos hgone)
    · rw [hnone]
      exact congrArg Host.Outcome.next (if_neg (ne_true_of_eq_false hgone))
    · rw [hsome]
      dsimp only
      rw [if_pos hst]
    · rw [hsome]
      dsimp only
      rw [if_neg (by omega), if_pos hst]
    · rw [hsome]
      dsimp only
      rw [if_neg (by omega), if_neg (by omega)]
  case withdraw =>
    intro k m s u
    have hexec : exec (.withdraw k m) s = .next (s.hoRecv k false 6 m fun s => s.takeWithdraw k m) := rfl
    rw [hexec]
    refine ⟨fun hstale => by rw [State.hoRecv_of_stale hstale], fun hup hver hcopy => by rw [State.hoRecv_of_copy hup hver rfl hcopy], fun hup hver hfirst => ?_⟩
    rw [State.hoRecv_of_first hup hver rfl hfirst, State.takeWithdraw]
    refine ⟨fun hnone => by rw [hnone], fun h hsome hst => ?_, fun h hsome hst => ?_, fun h hsome hst => ?_⟩ <;> rw [hsome] <;> dsimp only
    · rw [if_pos hst]
    · rw [if_neg (by omega), if_pos hst]
    · rw [if_neg (by omega), if_neg (by omega)]
  case accept =>
    intro k m s u
    have hexec : exec (.accept k m) s = .next (s.hoRecv k true 2 m fun s => s.takeAccept k m) := rfl
    rw [hexec]
    refine ⟨fun hstale => by rw [State.hoRecv_of_stale hstale], fun hup hver hcopy => by rw [State.hoRecv_of_copy hup hver rfl hcopy], fun hup hver hfirst => ?_⟩
    rw [State.hoRecv_of_first hup hver rfl hfirst, State.takeAccept]
    refine ⟨fun hnone => by rw [hnone], fun h hsome hst => ?_, fun h hsome hst => ?_, fun h hsome hst => ?_⟩ <;> rw [hsome] <;> dsimp only
    · rw [if_pos hst]
    · rw [if_neg (by omega), if_pos hst]
    · rw [if_neg (by omega), if_neg (by omega)]
  case refuse =>
    intro k m s u
    have hexec : exec (.refuse k m) s = .next (s.hoRecv k true 3 m fun s => s.takeRefuse k m) := rfl
    rw [hexec]
    refine ⟨fun hstale => by rw [State.hoRecv_of_stale hstale], fun hup hver hcopy => by rw [State.hoRecv_of_copy hup hver rfl hcopy], fun hup hver hfirst => ?_⟩
    rw [State.hoRecv_of_first hup hver rfl hfirst, State.takeRefuse]
    refine ⟨fun hnone => by rw [hnone], fun h hsome hst => ?_, fun h hsome hst harg => ?_⟩ <;> rw [hsome] <;> dsimp only
    · rw [if_pos hst]
    · rw [if_neg (by omega), if_pos ⟨hst, harg⟩]
  case doneMsg =>
    intro k m s u
    have hexec : exec (.doneMsg k m) s = .next (s.hoRecv k true 5 m fun s => s.takeDone k m) := rfl
    rw [hexec]
    refine ⟨fun hstale => by rw [State.hoRecv_of_stale hstale], fun hup hver hcopy => by rw [State.hoRecv_of_copy hup hver rfl hcopy], fun hup hver hfirst => ?_⟩
    rw [State.hoRecv_of_first hup hver rfl hfirst, State.takeDone]
    refine ⟨fun hnone => by rw [hnone], fun h hsome hdel => ?_, fun h hsome hdel hst => ?_⟩ <;> rw [hsome] <;> dsimp only
    · rw [if_pos hdel]
    · rw [if_neg (ne_true_of_eq_false hdel), if_pos hst, State.bump]
  case resolve =>
    intro k m s u
    have hexec : exec (.resolve k m) s = .next (s.hoRecv k true 7 m fun s => s.takeResolve k m) := rfl
    have hres (h2 : m.ver ≠ 2) : ((7 : Nat) == 7 && m.ver == 2) = false := beq_eq_false_iff_ne.mpr h2
    rw [hexec]
    refine ⟨fun hstale => by rw [State.hoRecv_of_stale hstale], fun hup hver h2 hcopy => by rw [State.hoRecv_of_copy hup hver (hres h2) hcopy],
      fun hup hver h2 hfirst => ?_⟩
    rw [State.hoRecv_of_first hup hver (hres h2) hfirst, State.takeResolve]
    refine ⟨fun hnone => by rw [hnone], fun h hsome hst harg => ?_, fun h hsome hst harg => ?_⟩ <;> rw [hsome] <;> dsimp only
    · rw [if_pos hst, if_pos harg]
    · rw [if_pos hst, if_neg harg]
  case heldCommitTimeout =>
    intro i t s hitem hdown hst htB
    have hexec : exec (.heldCommitTimeout i) s = execHeldCommitTimeout i s := rfl
    rw [hexec, execHeldCommitTimeout]
    dsimp only
    rw [hitem, hdown, hst, htB, if_pos (by decide)]
    refine ⟨fun hlate => congrArg Host.Outcome.next (if_pos hlate), fun hearly => congrArg Host.Outcome.next (if_neg (Nat.not_le.mpr hearly))⟩
  case doubtTmo =>
    intro i s hitem hst
    have hexec : exec (.doubtTmo i) s = execDoubtTmo i s := rfl
    rw [hexec, execDoubtTmo, hitem, hst]
    refine ⟨fun hlate hdown => ?_, fun hlate hup => ?_, fun hearly => congrArg Host.Outcome.next (if_neg ?_)⟩
    · exact congrArg Host.Outcome.next ((if_pos (by rw [decide_eq_true hlate]; rfl)).trans (if_pos hdown))
    · exact congrArg Host.Outcome.next ((if_pos (by rw [decide_eq_true hlate]; rfl)).trans (if_neg (ne_true_of_eq_false hup)))
    · rw [decide_eq_false (Nat.not_le.mpr hearly)]
      decide
  case commitTmo =>
    intro i s hitem hup hst
    have hexec : exec (.commitTmo i) s = execCommitTmo i s := rfl
    rw [hexec, execCommitTmo]
    dsimp only
    rw [hitem, hup, hst]
    refine ⟨fun hlate => congrArg Host.Outcome.next (if_pos (by rw [decide_eq_true hlate]; rfl)), fun hearly => congrArg Host.Outcome.next (if_neg ?_)⟩
    rw [decide_eq_false (Nat.not_le.mpr hearly)]
    decide
  case hoRetry =>
    intro i s hitem hup
    have hexec : exec (.hoRetry i) s = execHoRetry i s := rfl
    have hdue (hlate : (s.hoGet i).sent + s.hoRetry (s.hoGet i).page ≤ s.now) :
        ¬ (!true || false || decide (s.now < (s.hoGet i).sent + s.hoRetry (s.hoGet i).page)) = true := by
      rw [decide_eq_false (Nat.not_lt.mpr hlate)]
      decide
    rw [hexec, execHoRetry]
    dsimp only
    rw [hitem, hup]
    refine ⟨fun hearly => congrArg Host.Outcome.next (if_pos (by rw [decide_eq_true hearly]; rfl)), fun hlate hdel => ?_, fun hlate hdel hst hnot => ?_,
      fun hlate hdel hst hcom => ?_⟩ <;> rw [if_neg (hdue hlate)]
    · rw [if_pos hdel]
    · rw [if_neg (ne_true_of_eq_false hdel), if_pos ⟨hst, hnot⟩]
    · rw [if_neg (ne_true_of_eq_false hdel), if_neg (by omega), if_pos ⟨hst, hcom⟩]

end Sys2Proof.Machine
end

section
/-! SUPPORT. Assignments, register access and the engines' fabric accesses (O55). -/
namespace Sys2Proof.Machine
open Sys2Proof

/-! A write of a register (R12, R388, R390). -/

theorem State.writeReg_of_no_page {s : State} {a : Nat} (h : pageAt a = none) (q v : Nat) : s.writeReg q a v = s := by
  rw [State.writeReg, h]

/-- A write that reaches a present, aligned register of a page. -/
theorem State.writeReg_of_page {s : State} {a : Nat} {k : PageKind} {n : Nat} (hpage : pageAt a = some (k, n)) (hhere : s.absent a = false)
    (halign : a % 4 = 0) (q v : Nat) : s.writeReg q a v =
      if !s.mayAccess q a true then s.refuse q a true
      else if lockable k (a % 0x1000) ∧ (s.reqDom q).getD 0 ≠ 0 then s.refuse q a true
      else if lockable k (a % 0x1000) ∧ s.locked then s.lockedWr
      else if k = .engine ∧ s.engSafety n then s
      else if (slateOfPage k n).isSome then (if a % 0x1000 < 0x800 then s.writeSlate ((s.reqDom q).getD 0) k n a v else s)
      else s.writeGranite q k n (a % 0x1000) v := by
  have hreach : ¬ (s.absent a = true ∨ a % 4 ≠ 0) := not_or.mpr ⟨ne_true_of_eq_false hhere, not_not.mpr halign⟩
  rw [State.writeReg, hpage]
  exact if_neg hreach

/-- A write that is permitted, and that the lock does not stop. -/
theorem State.writeReg_of_permitted {s : State} {a : Nat} {k : PageKind} {n q : Nat} (hpage : pageAt a = some (k, n)) (hhere : s.absent a = false)
    (halign : a % 4 = 0) (hmay : s.mayAccess q a true = true)
    (hlock : lockable k (a % 0x1000) = false ∨ ((s.reqDom q).getD 0 = 0 ∧ s.locked = false)) (hsafe : k = .engine → s.engSafety n = false) (v : Nat) :
    s.writeReg q a v =
      if (slateOfPage k n).isSome then (if a % 0x1000 < 0x800 then s.writeSlate ((s.reqDom q).getD 0) k n a v else s)
      else s.writeGranite q k n (a % 0x1000) v := by
  have hdomain : ¬ (lockable k (a % 0x1000) = true ∧ (s.reqDom q).getD 0 ≠ 0) := by
    rcases hlock with h | ⟨h, _⟩ <;> simp [h]
  have hopen : ¬ (lockable k (a % 0x1000) = true ∧ s.locked = true) := by
    rcases hlock with h | ⟨_, h⟩ <;> simp [h]
  have hengine : ¬ (k = .engine ∧ s.engSafety n = true) := fun h => ne_true_of_eq_false (hsafe h.1) h.2
  rw [State.writeReg_of_page hpage hhere halign, if_neg (by rw [hmay]; decide), if_neg hdomain, if_neg hopen, if_neg hengine]

/-- The work of a posted write that completes: a pending reset acts once the engine has none left. -/
def State.lastPosted (s : State) (e : Fin 512) : State :=
  if (s.eng e).rstPend && (s.eng e).shw.isEmpty && (s.eng e).fbw.isEmpty then s.engReset e else s

theorem State.lastPosted_of_no_reset {s : State} {e : Fin 512} (h : (s.eng e).rstPend = false) : s.lastPosted e = s :=
  if_neg (by rw [h, Bool.false_and, Bool.false_and]; decide)

theorem State.lastPosted_of_reset {s : State} {e : Fin 512} (h : (s.eng e).rstPend = true) (hshw : (s.eng e).shw = []) (hfbw : (s.eng e).fbw = []) :
    s.lastPosted e = s.engReset e :=
  if_pos (by rw [h, hshw, hfbw]; rfl)

theorem State.eng_store (s : State) (a n v : Nat) (e : Fin 512) : (s.store a n v).eng e = s.eng e := by
  induction n generalizing s a v with
  | zero => rfl
  | succ n ih => exact (ih _ _ _).trans (State.setByte_eng _ _ _ _)

/-- Settles O55: each command by the branch of its definition that the clause's hypotheses choose. -/
theorem assignmentsAndAccess : Obligations.AssignmentsAndAccess := by
  unfold Obligations.AssignmentsAndAccess
  refine ⟨?cleaningDone, ?assignmentWrite, ?assignmentWriteNoPage, ?domLock, ?registerWrite, ?slateRegWrite, ?slateRegRead, ?softReset,
    ?pageErrClear, ?counterClear, ?fabricReadComplete, ?postedWriteComplete⟩
  case cleaningDone =>
    intro s
    rfl
  case assignmentWrite =>
    intro addr v k n s hpage
    have hexec : exec (.assignmentWrite addr v) s = execAssignmentWrite addr v s := rfl
    rw [hexec, execAssignmentWrite, hpage]
    dsimp only
    refine ⟨fun hnone => by rw [hnone], fun t hsome hlocked => ?_, fun t hsome hopen => ?_⟩
    · rw [hsome]
      exact congrArg Host.Outcome.next (if_pos hlocked)
    · rw [hsome]
      exact congrArg Host.Outcome.next (if_neg (ne_true_of_eq_false hopen))
  case assignmentWriteNoPage =>
    intro addr v s hpage
    have hexec : exec (.assignmentWrite addr v) s = execAssignmentWrite addr v s := rfl
    rw [hexec, execAssignmentWrite, hpage]
  case domLock =>
    intro s
    exact ⟨_, rfl, State.flag_setb_same _ _ _ _ (by decide) rfl, rfl, rfl, rfl, rfl⟩
  case registerWrite =>
    intro q addr v s
    have hexec : exec (.registerWrite q addr v) s = .next (s.writeReg q addr.toNat v.toNat) := rfl
    rw [hexec]
    refine ⟨fun hnone => by rw [State.writeReg_of_no_page hnone], fun k n hpage hhere halign => ⟨fun hnot => ?_, fun hmay hlk hd => ?_,
      fun hmay hlk hd hlocked => ?_, fun hmay hlock hsafe => ⟨fun hgranite => ?_, fun hslate hlow => ?_, fun hslate hhigh => ?_⟩⟩⟩
    · rw [State.writeReg_of_page hpage hhere halign, if_pos (by rw [hnot]; rfl)]
    · rw [State.writeReg_of_page hpage hhere halign, if_neg (by rw [hmay]; decide), if_pos ⟨hlk, hd⟩]
    · rw [State.writeReg_of_page hpage hhere halign, if_neg (by rw [hmay]; decide), if_neg (fun h => h.2 hd), if_pos ⟨hlk, hlocked⟩]
    · rw [State.writeReg_of_permitted hpage hhere halign hmay hlock hsafe, hgranite, if_neg (by decide)]
    · rw [State.writeReg_of_permitted hpage hhere halign hmay hlock hsafe, if_pos (Option.isSome_iff_ne_none.mpr hslate), if_pos hlow]
    · rw [State.writeReg_of_permitted hpage hhere halign hmay hlock hsafe, if_pos (Option.isSome_iff_ne_none.mpr hslate), if_neg (Nat.not_lt.mpr hhigh)]
  case slateRegWrite =>
    intro q addr v s
    have hwrite (h : slateResident addr.toNat = true) : exec (.slateRegWrite q addr v) s = .next (s.writeReg q addr.toNat v.toNat) :=
      congrArg Host.Outcome.next (if_pos h)
    exact ⟨hwrite, hwrite, fun h => congrArg Host.Outcome.next (if_neg (ne_true_of_eq_false h))⟩
  case slateRegRead =>
    intro q addr k n s
    have hread (hslate : slateResident addr.toNat = true) (halign : addr.toNat % 4 = 0) :
        exec (.slateRegRead q addr) s = .next ((s.busRead q addr.toNat 4).answer q addr.toNat) := congrArg Host.Outcome.next (if_pos ⟨hslate, halign⟩)
    refine ⟨fun hnot => congrArg Host.Outcome.next (if_neg ?_), fun hslate halign habsent => ?_,
      fun hslate halign hhere hregion hpage => ⟨fun hnot => ?_, fun hmay => ?_⟩⟩
    · rintro ⟨hslate, halign⟩
      exact hnot.elim (fun h => ne_true_of_eq_false h hslate) fun h => h halign
    · rw [hread hslate halign, State.busRead, if_pos habsent]
      rfl
    · have hwidth : ¬ ((4 : Nat) ≠ 4 ∨ addr.toNat % 4 ≠ 0) := by simp [halign]
      rw [hread hslate halign, State.busRead, if_neg (ne_true_of_eq_false hhere), hregion]
      dsimp only
      rw [if_neg hwidth, if_pos (by rw [hnot]; rfl)]
      rfl
    · have hwidth : ¬ ((4 : Nat) ≠ 4 ∨ addr.toNat % 4 ≠ 0) := by simp [halign]
      rw [hread hslate halign, State.busRead, if_neg (ne_true_of_eq_false hhere), hregion]
      dsimp only
      rw [if_neg hwidth, if_neg (by rw [hmay]; decide), if_pos hpage]
      rfl
  case softReset | pageErrClear =>
    intros
    rfl
  case counterClear =>
    intro q addr s
    have hexec : exec (.counterClear q addr) s = execCounterClear q addr s := rfl
    rw [hexec, execCounterClear]
    refine ⟨fun hnone => by rw [hnone], fun k n d hpage hreg => ?_⟩
    rw [hpage]
    dsimp only
    rw [hreg]
    exact ⟨fun hclr => congrArg Host.Outcome.next (if_pos hclr), fun hclr => congrArg Host.Outcome.next (if_neg (ne_true_of_eq_false hclr))⟩
  case fabricReadComplete =>
    intro e s
    have hexec : exec (.fabricReadComplete e) s = execFabricReadComplete e s := rfl
    rw [hexec, execFabricReadComplete]
    refine ⟨fun hnone => by rw [hnone], fun r hsome => ?_⟩
    have hready (hfab : r.fabric = true) (hfbw : (s.eng e).fbw = []) : ¬ (!r.fabric || !(s.eng e).fbw.isEmpty) = true := by
      rw [hfab, hfbw]
      decide
    rw [hsome]
    dsimp only
    refine ⟨fun hnot => congrArg Host.Outcome.next (if_pos ?_), fun hfab hfbw hslate hout => ?_, fun hfab hfbw hslate hout => ?_, fun hfab hfbw hslate => ?_⟩
    · rcases hnot with h | h
      · rw [h]
        rfl
      · rw [Bool.eq_false_iff.mpr fun hempty => h (List.isEmpty_iff.mp hempty), Bool.not_false, Bool.or_true]
    · rw [if_neg (hready hfab hfbw), if_pos hslate, if_pos hout]
    · rw [if_neg (hready hfab hfbw), if_pos hslate, if_neg (ne_true_of_eq_false hout)]
    · rw [if_neg (hready hfab hfbw), if_neg (ne_true_of_eq_false hslate)]
  case postedWriteComplete =>
    intro e s
    have hexec (fabric : Bool) : exec (.postedWriteComplete e fabric) s = .next (s.postedDone e fabric) := rfl
    rw [hexec, hexec]
    refine ⟨fun hrst hshw => ?_, fun hrst hfbw => ?_, fun w l u hshw hu => ?_, fun w l u hfbw hu => ?_⟩
    · rw [State.postedDone, hshw]
      exact congrArg Host.Outcome.next (State.lastPosted_of_no_reset hrst)
    · rw [State.postedDone, hfbw]
      exact congrArg Host.Outcome.next (State.lastPosted_of_no_reset hrst)
    · have hdone : s.postedDone e false = u.lastPosted e := by
        rw [State.postedDone, hshw, hu]
        rfl
      rw [hdone]
      have hshw' : (u.eng e).shw = l := by rw [hu, State.eng_store, State.eng_setEng]
      exact ⟨fun hrst => by rw [State.lastPosted_of_no_reset hrst], fun hrst hlast hfbw => by rw [State.lastPosted_of_reset hrst (hshw'.trans hlast) hfbw]⟩
    · have hdone : s.postedDone e true = u.lastPosted e := by
        rw [State.postedDone, hfbw, hu]
        rfl
      rw [hdone]
      exact ⟨fun hrst => by rw [State.lastPosted_of_no_reset hrst], fun hrst hshw hlast => by rw [State.lastPosted_of_reset hrst hshw hlast]⟩

end Sys2Proof.Machine
end
